-- ==== Sys2Proof/Word.lean ====
section
/-!
DEFINITION. The word types of the XJG (R7, R8, R93): a register is 32 bits wide, a byte is 8, a signal cell's
VALUE is 24 and a cell is 64.
-/

namespace Sys2Proof

/-- One byte. -/
abbrev Byte := BitVec 8

/-- One register (R7). -/
abbrev Word := BitVec 32

/-- The VALUE field of a signal cell (Table 3.1). -/
abbrev Val24 := BitVec 24

/-- A 64-bit register value, a cell, or a nanosecond count. -/
abbrev DWord := BitVec 64

end Sys2Proof
end

