-- ==== Sys2Proof/Syntax.lean ====
section
/-!
DEFINITION. The commands of the XJG: one constructor of `Instr` per row of spec/opcode_table.json, in the table's
order. The table gives its rows no operands; the operands here carry what the row's rule says reaches the part
from outside (who writes what, which pin or frame, which unit), DESIGN CHOICE, notes/assumptions/1.md.
-/

namespace Sys2Proof

/-- A host page, 0 to 7 (R359). -/
abbrev PageNo := Fin 8
/-- A CAN channel CAN0 to CAN127 (Table 1.2). -/
abbrev CanNo := Fin 128
/-- A serial lane SL0 to SL63 (Table 1.2). -/
abbrev LaneNo := Fin 64
/-- A discrete bank 0 to 47 (Table 1.2). -/
abbrev BankNo := Fin 48
/-- A field MAC E0 to E15 (Table 1.2). -/
abbrev MacNo := Fin 16
/-- A switch port, numbered by R301. -/
abbrev PortNo := Fin 24
/-- A phase tracker PT0 to PT3. -/
abbrev PtNo := Fin 4
/-- An entry of the action table (R170). -/
abbrev ActNo := Fin 4096
/-- A mailbox of a CAN controller. -/
abbrev MbNo := Fin 64
/-- A key slot K0 to K63. -/
abbrev SlotNo := Fin 64

/-- A CAN frame on the bus. `ident` is laid out by R501. -/
structure CanFrame where
  ident : BitVec 29
  ide : Bool
  fdf : Bool
  brs : Bool
  esi : Bool
  rtr : Bool
  dlc : BitVec 4
  data : List Byte
  deriving DecidableEq, Repr

/-- How a mortar-link codeword arrives (R37). -/
inductive Codeword where
  | clean
  | corrected
  | uncorrectable
  deriving DecidableEq, Repr

/-- What the boot ROM finds in one bank (R63, R433): whether the firmware's signature and header check,
its rollback index and its version. -/
structure FwInfo where
  sigOk : Bool
  rollback : Nat
  version : Word
  deriving DecidableEq, Repr

/-- A reference event at a tracker's inputs (Table 4.1, R139). -/
inductive RefEvent where
  /-- An edge of PHREF: a mains edge or the edge of a tooth. -/
  | edge (rising : Bool)
  /-- One decoded quadrature count; `aLeads` says that A leads B. -/
  | count (aLeads : Bool)
  /-- The encoder's index pulse. -/
  | index
  /-- A and B changed inside one filter time, or the count rate was exceeded. -/
  | quadError
  deriving DecidableEq, Repr

/-- A reference event with the time in ns for which the new level has held, which the glitch filter judges (R136). -/
structure RefInput where
  ev : RefEvent
  ageNs : Nat
  deriving DecidableEq, Repr

/-- Who issues an adjustment of the time base (R160). -/
inductive AdjSource where
  /-- A page writes TMB_ADJ_HI. -/
  | host (page : PageNo) (hi : Word)
  /-- The built-in servo issues a signed number of nanoseconds. -/
  | servo (ns : DWord)
  deriving DecidableEq, Repr

/-- What the servo does at one measurement: a new RATE and an adjustment. The spec gives the servo no algorithm. -/
structure ServoOut where
  rate : Word
  adj : DWord
  deriving DecidableEq, Repr

/-- A rise of PPS_IN: what the servo does with it, and for how many ns the new level has held (R164). -/
structure PpsInput where
  servo : Option ServoOut
  ageNs : Nat
  deriving DecidableEq, Repr



/-! ## Gnoisk-24 (Table 6.9): the operand forms are the model's (notes/assumptions/60.md) -/

/-- A register of a signal engine. -/
abbrev SeReg := Fin 32

/-- The second operand: a register or an immediate. -/
inductive SeArg where
  | reg (r : SeReg)
  | imm (v : Val24)
  deriving DecidableEq, Repr

/-- The two-operand instructions of the classes Arithmetic, Logic and Compare that write a register. -/
inductive SeBin where
  | add | sub | addu | subu | addw | subw | mul
  | and | or | xor | shl | shr | sar
  | min | max
  deriving DecidableEq, Repr

/-- The one-operand instructions. -/
inductive SeUn where
  | neg | abs | not
  deriving DecidableEq, Repr

/-- The condition of B*cond*, over the flags that the last CMP, CMPU or BTST set. -/
inductive SeCond where
  | always | eq | ne | lt | ge | gt | le
  deriving DecidableEq, Repr

/-- One instruction; a target is the place of an instruction in the decoded code. -/
inductive SeInstr where
  | bin (op : SeBin) (d a : SeReg) (b : SeArg)
  | un (op : SeUn) (d a : SeReg)
  | mulsh (d a : SeReg) (b : SeArg) (shift : Fin 48)
  | btst (a : SeReg) (b : SeArg)
  | cmp (a : SeReg) (b : SeArg)
  | cmpu (a : SeReg) (b : SeArg)
  | branch (c : SeCond) (target : Nat)
  | call (target : Nat)
  | ret
  | ld (d a : SeReg) (off : Val24)
  | st (v a : SeReg) (off : Val24)
  | cld (d : SeReg) (cell : SeArg)
  | clds (d : SeReg) (cell : SeArg)
  | cldc (d : SeReg) (cell : SeArg)
  | cst (cell : SeArg) (v : SeReg)
  | cstf (cell : SeArg) (v : SeReg)
  | crv (d a : SeReg) (curve : SeArg)
  | src (d : SeReg)
  deriving DecidableEq, Repr

/-- The kind of a bus error (Table 7.14, 0x0608 to 0x0618). -/
inductive BusErrKind where
  | bit | stuff | form | crc | ack
  /-- A recessive res bit: a protocol exception or a form error (Table 7.1). -/
  | res
  deriving DecidableEq, Repr

/-- The fault-confinement rule of ISO 11898-1 that an error falls under (R256). -/
inductive ErrRule where
  /-- The transmitter's error: TEC rises by 8. -/
  | tx8
  /-- A transmitter's error that the standard excepts from counting. -/
  | txNone
  /-- A receiver's error: REC rises by 1. -/
  | rx1
  /-- A receiver's error that the standard counts 8. -/
  | rx8
  deriving DecidableEq, Repr

/-- What else a bus error shows: whether it is the bit error of an identifier clash (R243), and the loop delay, where the
frame that the unit sends has passed its res bit (R232). -/
structure ErrSeen where
  clash : Bool
  delay : Option (BitVec 7)
  deriving DecidableEq, Repr

/-- A character as the character engine takes it (R266). -/
structure SerChar where
  data : BitVec 24
  framing : Bool
  parity : Bool
  deriving DecidableEq, Repr

/-- A SENT fast-channel message as timed on the line (R275): the measured calibration tick in units of 1 ns,
the lengths of its nibble pulses in ticks (status, data, CRC). -/
structure SentMsg where
  tickNs : Nat
  pulses : List Nat
  deriving DecidableEq, Repr

/-- An Ethernet frame without its FCS, from the first byte of the destination address. -/
structure EthFrame where
  bytes : List Byte
  deriving DecidableEq, Repr

/-- A gPTP frame as received, and what the servo does with it (R162). -/
structure GptpInput where
  frame : EthFrame
  servo : Option ServoOut
  deriving DecidableEq, Repr

/-- A LIN header on the line: the bit time of its sync byte, and the length of its break in nominal bit times (R270). -/
structure LinInput where
  baudDiv : BitVec 24
  breakBits : Nat
  deriving DecidableEq, Repr

/-- How a frame arrived (R312, R319, R321). -/
structure RxQuality where
  fcsOk : Bool
  lineOk : Bool
  deriving DecidableEq, Repr

/-- A page access frame after its Ethernet header (Table 11.1), with the sender's address. -/
structure PageFrame where
  ver : BitVec 4
  op : BitVec 4
  page : PageNo
  tag : BitVec 16
  addr : Word
  len : BitVec 16
  data : List Byte
  src : BitVec 48
  deriving DecidableEq, Repr

/-- The AtomicOps of R366. -/
inductive AtomicKind where
  | fetchAdd | swap | cas
  deriving DecidableEq, Repr

/-- The operand width of an AtomicOp (R366). -/
inductive AtomicWidth where
  | w32 | w64 | w128
  deriving DecidableEq, Repr

/-- An inbound cycle of a far master (R392). -/
structure FarCycle where
  write : Bool
  /-- LB_A[13:2]. -/
  word : BitVec 12
  /-- Bit k: LB_BE_N[k] is low. -/
  be : BitVec 4
  data : Word
  deriving DecidableEq, Repr

/-- What the patrol scrubber finds (R456 to R458). -/
inductive PatrolResult where
  | clean
  | corrected
  | hardCorrected
  | uncorrectable
  deriving DecidableEq, Repr

/-- The memory a patrolled codeword belongs to (Table 14.5). -/
inductive MemKind where
  /-- The slot of one cell. -/
  | cellSlot (cell : Fin 131072) (slot : Fin 4)
  /-- A pan of the `k`-th frame of one egress queue, counted from its head. -/
  | pan (port : PortNo) (queue : Fin 8) (k : Nat)
  /-- A pan of the frame that a port is sending. -/
  | panSent (port : PortNo)
  /-- The `k`-th frame of the cipher hold buffer, counted from the oldest. -/
  | hold (k : Nat)
  /-- The `k`-th entry of one event queue, counted from the oldest. -/
  | eventQueue (page : PageNo) (q : Fin 4) (k : Fin 1024)
  /-- The `k`-th entry of one CAN receive queue. -/
  | canRx (n : CanNo) (k : Fin 128)
  /-- The `k`-th item of one serial receive FIFO. -/
  | laneRx (n : LaneNo) (k : Fin 512)
  /-- The `k`-th item of one serial transmit FIFO. -/
  | laneTx (n : LaneNo) (k : Fin 512)
  /-- The `k`-th frame of one CAN gateway queue. -/
  | canGateway (n : CanNo) (k : Fin 32)
  /-- The `k`-th entry of one two-step stamp queue. -/
  | stampQueue (port : PortNo) (k : Fin 32)
  /-- A table entry; `pushed` says that the active image was pushed (R65). -/
  | table (pushed : Bool)
  /-- The local memory of one signal engine. -/
  | engine (n : Fin 8)
  /-- A word of retained memory. -/
  | retained (word : Fin 2048)
  /-- A backup register HLT_BACKUP0 to HLT_BACKUP15. -/
  | backup (k : Fin 16)
  deriving DecidableEq, Repr

/-- The supplies of R445 and the sixteen field supplies (Table 15.2). -/
inductive Supply where
  | vddCore | vddPort | vddSrd | vddaSrd | vio18 | vddNvm
  | vioF (n : Fin 16)
  deriving DecidableEq, Repr

/-- The buffer classes of R476. -/
inductive BufClass where
  | c18 | c25 | c33
  deriving DecidableEq, Repr

/-- An item of Table 14.6. -/
inductive Item where
  | unit (u : Fin 256)
  | spare (n : Fin 32)
  | engine (n : Fin 9)
  | bank (n : Fin 65536)
  | mortar (n : Fin 4)
  | lane (n : Fin 32)
  | optCopy (n : Fin 2)
  deriving DecidableEq, Repr

/-- The commands, one constructor per row of spec/opcode_table.json. -/
inductive Instr where
  | registerWrite (page : PageNo) (addr : BitVec 26) (value : Word)
  | lowWordRead (page : PageNo) (addr : BitVec 26)
  | rcRead (page : PageNo) (addr : BitVec 26)
  | regionStepDown (r : Fin 8) (busyPct : Nat)
  | regionMemoryWake (r : Fin 8)
  | regionHold (e : ActNo)
  | codewordReceived (link : Fin 4) (c : Codeword)
  | linkDown (link : Fin 4)
  | linkRetrain (link : Fin 4) (trains : Bool)
  | tempMeasure (core pd0 pd1 : BitVec 16)
  | loadA (page : PageNo)
  | loadB (page : PageNo)
  | push (page : PageNo)
  | commit (page : PageNo)
  | abort (page : PageNo)
  | saveSettings (page : PageNo)
  | saveDone
  | strPieceDb (page : PageNo)
  | imageReadComplete
  | signatureVerified (ok : Bool)
  | imageApplied
  | fullReloadComplete
  | drainComplete
  | bootFirmwareCheck (a b : FwInfo)
  | unitStop (u : Fin 256)
  | batchWritten
  | bondTimeout (bond : Fin 1024)
  | sigCommit (page : PageNo)
  | cadenceTick
  | commitServed
  | epochCommit
  | pinNow (page : PageNo)
  | pinAt (page : PageNo)
  | unpin (page : PageNo)
  | pinExpired (page : PageNo)
  | pinnedRead (page : PageNo) (cell : Fin 131072)
  | start (page : PageNo)
  | cancel (page : PageNo)
  | ashlarDone (page : PageNo)
  | psgWgDb (page : PageNo)
  | referencePoint (pt : PtNo) (x : RefInput)
  | syntheticReferencePoint (pt : PtNo)
  | referenceLost (pt : PtNo)
  | holdExpired (pt : PtNo)
  | forceSearch (page : PageNo) (mask : BitVec 4)
  | hwReset (page : PageNo) (mask : BitVec 4)
  | forwardCrossing (pt : PtNo)
  | rateWrite (page : PageNo) (value : Word)
  | adjustment (src : AdjSource)
  | slewComplete
  | ppsInEdge (x : PpsInput)
  | ppsMiss
  | masterLost
  | masterReturn
  | ppsOutRise
  | ppsOutFall
  | gptpMessage (port : Fin 22) (m : GptpInput)
  | snap (page : PageNo)
  | actWrite (page : PageNo) (e : ActNo)
  | actRead (page : PageNo) (e : ActNo)
  | actArm (page : PageNo) (e : ActNo)
  | disarm (page : PageNo) (e : ActNo)
  | disarmAll (page : PageNo)
  | triggerDispatch (e : ActNo)
  | releaseSealed (e : ActNo)
  | triggerMessageArrival (e : ActNo) (die : Fin 2)
  | actionRelease (e : ActNo)
  | routeSecondPass
  | pduHoldExpiry (route : Fin 32768)
  | eventGapExpiry (route : Fin 32768)
  | verificationComplete
  | recipeInvocation (engine : Fin 8) (code : List SeInstr)
  | recipeOverrun (engine : Fin 8)
  | lockstepMismatch (engine : Fin 9)
  | forceTakeover (page : PageNo) (engine : Fin 8)
  | secHandBack (page : PageNo) (engine : Fin 8)
  | loadWindow (engine : Fin 8) (busyPct : BitVec 8)
  | mbLoad (page : PageNo) (n : CanNo) (mb : MbNo)
  | mbRead (page : PageNo) (n : CanNo) (mb : MbNo)
  | txRequest (page : PageNo) (n : CanNo) (mask : DWord)
  | txCancel (page : PageNo) (n : CanNo) (mask : DWord)
  | txResume (page : PageNo) (n : CanNo) (mask : DWord)
  | recover (page : PageNo) (n : CanNo)
  | resetBo (page : PageNo) (n : CanNo)
  | mtxArm (page : PageNo) (n : CanNo)
  | mtxStop (page : PageNo) (n : CanNo)
  | startOfFrame (n : CanNo)
  | arbitrationLost (n : CanNo)
  | transmissionComplete (n : CanNo) (loopDelay : BitVec 7)
  | busError (n : CanNo) (kind : BusErrKind) (rule : ErrRule) (x : ErrSeen)
  | busOffDelayExpiry (n : CanNo)
  | recoveryComplete (n : CanNo)
  | canFrameReceived (n : CanNo) (f : CanFrame) (ageNs : Nat)
  | rxPop (page : PageNo) (n : CanNo)
  | matrixCycleStart (n : CanNo)
  | windowStart (n : CanNo) (w : Fin 32)
  | mtxRefMiss (n : CanNo)
  | resyncSend (policy : Fin 1024) (n : CanNo)
  | characterReceived (n : LaneNo) (c : SerChar)
  | break_ (n : LaneNo)
  | idle (n : LaneNo)
  | timeout (n : LaneNo)
  | characterTransmitted (n : LaneNo) (echo : Option SerChar)
  | deLagExpiry (n : LaneNo)
  | linSlotStart (n : LaneNo)
  | linHeaderReceived (n : LaneNo) (pid : Byte) (x : LinInput)
  | linResponseReceived (n : LaneNo) (data : List Byte) (checksum : Byte)
  | linNoresp (n : LaneNo)
  | spiWord (n : LaneNo) (rx : BitVec 24)
  | spiTargetWord (n : LaneNo) (rx : BitVec 24)
  | csNRise (n : LaneNo) (partialWord : Bool)
  | sentMessage (n : LaneNo) (m : SentMsg)
  | slnRxPop (page : PageNo) (n : LaneNo)
  | txPush (page : PageNo) (n : LaneNo) (item : Word)
  | rxFlush (page : PageNo) (n : LaneNo)
  | txFlush (page : PageNo) (n : LaneNo)
  | smReset (page : PageNo) (n : LaneNo)
  | edgeAccepted (b : BankNo) (line : Fin 8) (level : Bool) (ageNs : Nat)
  | stagingRefresh (b : BankNo)
  | ethFrameReceived (port : PortNo) (f : EthFrame) (q : RxQuality)
  | forwardingDecision (port : PortNo) (head : EthFrame)
  | egressSelect (port : PortNo)
  | tsPop (page : PageNo) (port : PortNo)
  | ethLink (m : MacNo) (up : Bool) (speed : BitVec 4) (halfDuplex : Bool)
  | lpiEntry (m : MacNo)
  | lpiWake (m : MacNo)
  | flush (page : PageNo) (port : PortNo) (queues : Byte)
  | listArm (page : PageNo) (port : Fin 22)
  | listStop (page : PageNo) (port : Fin 22)
  | sluiceCycleStart (port : Fin 22)
  | gateEntryAdvance (port : Fin 22)
  | queueSample (port : PortNo)
  | ringLinkUp (side : Fin 2)
  | ringLinkDown (side : Fin 2)
  | ringFrameReceived (side : Fin 2) (f : EthFrame) (fcsOk : Bool)
  | windowAge (src : Fin 64)
  | quietTimeEnd
  | periodic
  | announce
  | resume (page : PageNo)
  | ringSyncSend
  | syncTimeout
  | read (path : Fin 8) (f : PageFrame)
  | write (path : Fin 8) (f : PageFrame)
  | writeAck (path : Fin 8) (f : PageFrame)
  | fetchAdd (path : Fin 8) (f : PageFrame)
  | swap (path : Fin 8) (f : PageFrame)
  | cas (path : Fin 8) (f : PageFrame)
  | probe (path : Fin 8) (f : PageFrame)
  | pcieAtomicop (page : PageNo) (path : Fin 8) (addr : BitVec 26) (kind : AtomicKind) (width : AtomicWidth)
      (operand compare : DWord)
  | pathFail (page : PageNo) (path : Fin 8)
  | heartbeatExpiry (page : PageNo) (path : Fin 8)
  | pathUp (page : PageNo) (path : Fin 8)
  | pathSel (page : PageNo) (path : Fin 8)
  | eqPop (page : PageNo) (q : Fin 4)
  | eqFlush (page : PageNo) (q : Fin 4)
  | bridgeWrite (page : PageNo) (off : BitVec 24) (be : BitVec 4) (data : Word)
  | bridgeRead (page : PageNo) (off : BitVec 24) (be : BitVec 4)
  | busGrant
  | farCycleEnd (data : List Word)
  | waitTmo
  | go (page : PageNo)
  | prefetchTimeout (w : Fin 16)
  | inboundCycle (c : FarCycle)
  | backoffExpiry
  | intPoll (levels : BitVec 16)
  | keyWrite (page : PageNo) (slot : SlotNo) (size : BitVec 2)
  | keyErase (page : PageNo) (slot : SlotNo)
  | keyZeroise (slot : SlotNo)
  | keyWarn (slot : SlotNo)
  | keyExhausted (slot : SlotNo)
  | pcjProd (page : PageNo) (ring : Fin 2) (index : BitVec 12)
  | jobStart (page : PageNo) (ring : Fin 2) (desc : List Word)
  | jobComplete (page : PageNo) (ring : Fin 2) (input : List Byte) (dmaErr : Bool)
  | updPieceDb (page : PageNo) (ring : Bool)
  | pieceStored
  | bundleVerifyComplete (fwHashOk imgHashOk imgSigOk fwOk : Bool) (fwRollback : BitVec 8) (optOk : Bool)
  | stagingComplete (ok : Bool)
  | updArm (page : PageNo)
  | armingComplete
  | activate (page : PageNo)
  | handoverResume
  | confirm (page : PageNo) (optOk : Bool)
  | updAbort (page : PageNo)
  | archClear (page : PageNo)
  | powerOn (s : Supply)
  | resetNFall (lowNs : Nat)
  | resetRelease
  | optProgram (page : PageNo)
  | optProgramComplete (ok : Bool)
  | optRead (page : PageNo) (copy : Fin 2)
  | forceSpare (page : PageNo) (item : BitVec 20)
  | handBack (page : PageNo) (item : BitVec 20)
  | patrolRead (bank : Fin 65536) (row : BitVec 24) (kind : MemKind) (res : PatrolResult) (sweepEnds : Bool)
  | unitCheck (item : Item)
  | selftestComplete (item : Item) (pass : Bool)
  | spareHandback (u : Fin 256)
  | transientAgeExpiry (item : Item)
  | meRestartComplete
  | supplyValid (s : Supply)
  | vioChange (bank : Fin 16) (valid : Bool)
  | classLatch (bank : Fin 16) (c : BufClass)
  | perst (link : Fin 2) (low : Bool)
  | mortarLinkUp (link : Fin 4)
  | flashReadError
  | busIntegration (n : CanNo)
  | ctsNChange (n : LaneNo) (high : Bool)
  | receiveLpi (m : MacNo) (on : Bool)
  | cbsCreditRecovered (port : PortNo) (q : Fin 8)
  deriving DecidableEq, Repr

end Sys2Proof
end

