-- ==== Sys2Proof/Decode.lean ====
section
/-!
DEFINITION. The words of the opcode table. The manual gives its commands no encoding: no row of the table has bits, so
no word spells a command (notes/assumptions/2.md).
-/

namespace Sys2Proof

/-- The command that the word `w` of `nbits` bits spells by the table: none. -/
def decodeTableWord (_nbits _w : Nat) : Option Instr := none

end Sys2Proof
end

