-- ==== Sys2Proof/Config.lean ====
section
/-!
DEFINITION. What the spec leaves open and every implementation fixes: the free values. Each is an opaque constant, so
no proof can see what it is, and a statement about the machine holds whatever it is. A free value that may differ from
one use to the next is applied to the counter `State.freeCnt`, which the step that uses it advances.
-/

namespace Sys2Proof

/-- Which of several empty slots a cell write takes (R100 says "an empty slot"); notes/assumptions/10.md. -/
opaque Config.slotChoice : Nat → Nat

/-- How many cells a running ashlar copies in one 2 ns tick; notes/assumptions/11.md. -/
opaque Config.ashlarPace : Nat → Nat

/-- Whether a RESET_N pulse between 150 ns and 250 ns resets the part (R474); notes/assumptions/12.md. -/
opaque Config.resetGlitch : Nat → Bool

/-- A word of the settings archive (UPD_ARCH_DATA): the spec gives the archived store no layout;
notes/assumptions/13.md. -/
opaque Config.archWord : Nat → Word

/-- Where the receive error counter stands after a good reception from above 127: ISO 11898-1 allows 119 to 127 (R256);
notes/assumptions/14.md. -/
opaque Config.recBack : Nat → Nat

/-- How many of the newest items the read side of a FIFO does not see yet (R286); notes/assumptions/15.md. -/
opaque Config.fifoLag : Nat → Nat

/-- The CHAN field of a gateway PDU record of an item that came from no CAN channel (Table 6.6 gives it CAN channels
only); notes/assumptions/16.md. -/
opaque Config.recordChan : Nat → Nat

/-- The bit-rate switch of a resynchronisation frame that is a CAN FD frame (R416 states none);
notes/assumptions/17.md. -/
opaque Config.resyncBrs : Nat → Bool

/-- A byte of a resynchronisation frame after its CMAC (R416 states none); notes/assumptions/17.md. -/
opaque Config.resyncPad : Nat → Byte

/-- The count of a custom lane after DEC at 0 (R278 does not say); notes/assumptions/18.md. -/
opaque Config.countUnder : Nat → Nat

/-- The data bits that SET_COUNT reads at an event without a character (R277, R278); notes/assumptions/18.md. -/
opaque Config.noChar : Nat → Nat

/-- The value kept for a SENT nibble outside 12 to 27 ticks (R275, R282); notes/assumptions/18.md. -/
opaque Config.badNibble : Nat → Nat

/-- The clockIdentity of this node (Table 10.2 sends it; no rule gives it); notes/assumptions/26.md. -/
opaque Config.clockId : Nat → DWord

/-- The port that external port configuration makes the slave port (R162 gives no register for it);
notes/assumptions/61.md. -/
opaque Config.extSlave : Nat → Bool

/-- The spare rows of a memory bank (R462 gives no number); notes/assumptions/27.md. -/
opaque Config.spareRows : Nat → Nat

/-- A byte of an option copy whose program ended with VERIFY_FAIL (R454); notes/assumptions/28.md. -/
opaque Config.badCopy : Nat → Byte

/-- Whether the option store's program of a CONFIRM reads back, where CONFIRM comes as a plain write of UPD_CMD, without
the operand of its row; notes/assumptions/36.md. -/
opaque Config.verdict : Nat → Bool

/-- A byte of the output of a job that ends with PATH_LOST or DMA_ERR (R411: undefined); notes/assumptions/34.md. -/
opaque Config.lostByte : Nat → Nat → Byte

/-- Which page's access the bridge takes next (R386: accesses of different pages carry no mutual order);
notes/assumptions/35.md. -/
opaque Config.bridgePick : Nat → Nat

/-- A register of an invocation that Table 6.10 leaves undefined, and a word read from a place of engine memory that no
recipe owns; notes/assumptions/60.md. -/
opaque Config.seWord : Nat → Nat → BitVec 24

/-- A byte of scratch at the start of an invocation (Table 6.11: not kept); notes/assumptions/60.md. -/
opaque Config.seScratch : Nat → Nat → Byte

/-- A flag of an engine at the start of an invocation; notes/assumptions/60.md. -/
opaque Config.seFlag : Nat → Nat → Bool

end Sys2Proof
end

