-- ==== Sys2Proof/Machine/Bits.lean ====
section
/-!
DEFINITION. Bit fields, signed readings, saturation and byte order: the helpers every meaning uses. A field of a
32-bit register is named by its lowest bit and its width, and read and written as a natural number.
-/

namespace Sys2Proof.Machine

/-- The `n` bits of `w` from bit `lsb` upwards. -/
def getBits (w : Word) (lsb n : Nat) : Nat := w.toNat / 2 ^ lsb % 2 ^ n

/-- `w` with its `n` bits from bit `lsb` replaced by the low `n` bits of `v`. -/
def putBits (w : Word) (lsb n v : Nat) : Word :=
  BitVec.ofNat 32 (w.toNat % 2 ^ lsb + 2 ^ lsb * (v % 2 ^ n) + 2 ^ (lsb + n) * (w.toNat / 2 ^ (lsb + n)))

/-- One bit of a natural number. -/
def bitOf (x k : Nat) : Bool := x / 2 ^ k % 2 == 1

/-- `x` with bit `k` set to `b`. -/
def setBit (x k : Nat) (b : Bool) : Nat :=
  x % 2 ^ k + 2 ^ k * (if b then 1 else 0) + 2 ^ (k + 1) * (x / 2 ^ (k + 1))

/-- Bit `k` set by a flag. -/
def flagBit (b : Bool) (k : Nat) : Nat := if b then 2 ^ k else 0

/-- The two's-complement reading of the low `n` bits of `x` (R11). -/
def sgn (n x : Nat) : Int :=
  let r := x % 2 ^ n
  if r < 2 ^ (n - 1) then (r : Int) else (r : Int) - (2 ^ n : Nat)

/-- The low `n` bits of an integer, as a natural number. -/
def wrapTo (n : Nat) (i : Int) : Nat := (i % (2 ^ n : Nat)).toNat

/-- The signed difference of two wrapping quantities of `n` bits (R11). -/
def sdiff (n a b : Nat) : Int := sgn n (wrapTo n ((a : Int) - (b : Int)))

/-- `a` is later than `b`, both of `n` bits, by signed difference (R11). -/
def later (n a b : Nat) : Bool := 0 < sdiff n a b

/-- An integer saturated to `n` signed bits. -/
def satSigned (n : Nat) (i : Int) : Int :=
  max (-(2 ^ (n - 1) : Nat)) (min ((2 ^ (n - 1) : Nat) - 1) i)

/-- A natural number saturated to `n` bits. -/
def satTo (n x : Nat) : Nat := min x (2 ^ n - 1)

/-- `x` clamped to `lo`..`hi`. -/
def clampTo (lo hi x : Nat) : Nat := max lo (min hi x)

/-- `d` where the field reads 0, the field otherwise ("0 acts as ..."). -/
def orElse (x d : Nat) : Nat := if x = 0 then d else x

/-- A word from a natural number. -/
def w32 (x : Nat) : Word := BitVec.ofNat 32 x

/-- A word whose unsigned value saturates at 0xFFFF_FFFF (R10). -/
def satWord (x : Nat) : Word := BitVec.ofNat 32 (satTo 32 x)

/-- A lost or error counter counts one (R10). -/
def satInc (w : Word) : Word := if w = 0xFFFFFFFF#32 then w else w + 1

/-- The low and the high word of 64 bits. -/
def loWord (d : DWord) : Word := d.setWidth 32
/-- The high word of 64 bits. -/
def hiWord (d : DWord) : Word := (d >>> 32).setWidth 32
/-- 64 bits from their low and high word. -/
def mkDWord (lo hi : Word) : DWord := (hi.setWidth 64 <<< 32) ||| lo.setWidth 64

/-- The little-endian bytes of a number (R8). -/
def leBytes : Nat → Nat → List Byte
  | 0, _ => []
  | n + 1, x => BitVec.ofNat 8 x :: leBytes n (x / 256)

/-- The big-endian bytes of a number. -/
def beBytes (n x : Nat) : List Byte := (leBytes n x).reverse

/-- The number a little-endian run of bytes spells (R8). -/
def leNat : List Byte → Nat
  | [] => 0
  | b :: bs => b.toNat + 256 * leNat bs

/-- The number a big-endian run of bytes spells. -/
def beNat (bs : List Byte) : Nat := leNat bs.reverse

/-- Byte `i` of a run; 0 past its end. -/
def byteAt (bs : List Byte) (i : Nat) : Nat := (bs.getD i 0).toNat

/-- Bytes `off` to `off + n - 1` of a run, padded with zeros. -/
def bytesAt (bs : List Byte) (off n : Nat) : List Byte := (List.range n).map fun i => bs.getD (off + i) 0

/-- The big-endian 16-bit field at `off`. -/
def be16At (bs : List Byte) (off : Nat) : Nat := byteAt bs off * 256 + byteAt bs (off + 1)

/-- The number of set bits among the low `n`. -/
def popCount (n x : Nat) : Nat := ((List.range n).filter fun k => bitOf x k).length

/-- The lowest set bit among the low `n`. -/
def lowestSet (n x : Nat) : Option Nat := (List.range n).find? fun k => bitOf x k

/-- Replace position `i` of a list. -/
def setAt {α : Type} (l : List α) (i : Nat) (v : α) : List α := l.set i v

/-- The ceiling of a quotient. -/
def ceilDiv (a b : Nat) : Nat := (a + b - 1) / b

/-- Division rounding to nearest, halves away from zero. -/
def roundDiv (a : Int) (b : Nat) : Int :=
  if b = 0 then 0
  else if 0 ≤ a then (2 * a + b) / (2 * b) else -((2 * (-a) + b) / (2 * b))

end Sys2Proof.Machine
end

