-- ==== Sys2Proof/Machine/Reg.lean ====
section
/-!
DEFINITION. The register addresses and fields of the XJG, by the manual's own names, transcribed from its register
tables (Tables 0.4, 1.11, 2.7, 2.9, 3.9, 3.10, 4.4, 4.8, 5.4, 6.13, 6.17, 7.14, 8.7, 8.8, 9.6 to 9.9, 10.3, 11.5, 11.9,
12.6, 12.7, 13.5, 14.10). An address is a page-window byte address (Tables 1.9 and 1.10); the registers of page p stand
at their owner-window address. `n` is a CAN channel or a lane, `b` a bank, `m` a MAC, `u` a unit, `e` an engine.
-/

namespace Sys2Proof.Machine

/-- One field of one register: its address, lowest bit and width. -/
structure Fld where
  addr : Nat
  lsb : Nat
  width : Nat
  deriving DecidableEq, Repr

namespace Reg

/-- The register page of unit `u` (R23). -/
abbrev unitBase (u : Nat) : Nat := 0x200000 + u * 0x2000
/-- The unit of a CAN channel (Table 1.2). -/
abbrev canUnit (n : Nat) : Nat := 32 * (n / 16) + 8 * (n % 16 / 8) + n % 8
/-- The unit of a serial lane (Table 1.2). -/
abbrev laneUnit (n : Nat) : Nat := 32 * (n / 8) + 16 + n % 8
/-- The unit of a discrete bank (Table 1.2). -/
abbrev bankUnit (b : Nat) : Nat := 32 * (b / 6) + 24 + b % 6
/-- The unit of a field MAC (Table 1.2). -/
abbrev macUnit (m : Nat) : Nat := 32 * (m / 2) + 30 + m % 2
/-- The register page of a CAN controller. -/
abbrev canBase (n : Nat) : Nat := unitBase (canUnit n)
/-- The register page of a serial lane. -/
abbrev laneBase (n : Nat) : Nat := unitBase (laneUnit n)
/-- The register page of a discrete bank. -/
abbrev bankBase (b : Nat) : Nat := unitBase (bankUnit b)
/-- The register page of a field MAC. -/
abbrev macBase (m : Nat) : Nat := unitBase (macUnit m)
/-- The registers of page `p` (Table 1.9). -/
abbrev pageBase (p : Nat) : Nat := 0x3000000 + p * 0x100000
/-- The control registers of signal engine `e` in its memory window (R227). -/
abbrev secBase (e : Nat) : Nat := 0x2000000 + e * 0x40000 + 0x3F000


-- Table 0.4 (00_scope.md)
abbrev GEN_DEVICE_ID : Nat := 0x100000
abbrev GEN_HWTYPE : Nat := 0x100004
abbrev GEN_IDCODE : Nat := 0x100008
abbrev GEN_ORDER : Nat := 0x10000c
abbrev GEN_UNIT_ID0 : Nat := 0x100010
abbrev GEN_UNIT_ID1 : Nat := 0x100014
abbrev GEN_UNIT_ID2 : Nat := 0x100018

-- Table 1.11 (01_six_levels.md)
abbrev GEN_REGION_FLOOR : Nat := 0x100100
abbrev GEN_REGION_STEP : Nat := 0x100104
abbrev GEN_REGION_IDLE : Nat := 0x100108
abbrev GEN_MORTAR_STATE : Nat := 0x100110
abbrev GEN_ML_CORR (n : Nat) : Nat := 0x100120 + 0x8 * n
abbrev GEN_ML_REPLAY (n : Nat) : Nat := 0x100124 + 0x8 * n
abbrev GEN_TEMP_CORE : Nat := 0x100140
abbrev GEN_TEMP_PD0 : Nat := 0x100144
abbrev GEN_TEMP_PD1 : Nat := 0x100148
abbrev GEN_TEMP_WARN : Nat := 0x10014c
abbrev GEN_TEMP_FLAGS : Nat := 0x100150
abbrev GEN_ACCESS_ERR : Nat := 0x100158
abbrev GEN_ACCESS_LAST : Nat := 0x10015c
abbrev GEN_VIO_STATE : Nat := 0x100160

-- Table 2.9 (02_structure_image.md)
abbrev STR_BSTAT : Nat := 0x1b0000
abbrev STR_CMD : Nat := 0x1b0004
abbrev STR_STATE : Nat := 0x1b0008
abbrev STR_BOUNDARY : Nat := 0x1b000c
abbrev STR_BOUNDARY_VAL : Nat := 0x1b0010
abbrev STR_GEN : Nat := 0x1b0014
abbrev STR_GEN_DRAIN : Nat := 0x1b0018
abbrev STR_FLAGS : Nat := 0x1b001c
abbrev STR_ACT_VERSION : Nat := 0x1b0020
abbrev STR_PART_VERSION : Nat := 0x1b0024
abbrev STR_ACT_SCHEMA : Nat := 0x1b0028
abbrev STR_COMMIT_EPOCH : Nat := 0x1b002c
abbrev STR_UNIT_STOP (k : Nat) : Nat := 0x1b0030 + 0x4 * k
abbrev STR_PIECE_OFF : Nat := 0x1b0050
abbrev STR_PIECE_LEN : Nat := 0x1b0054
abbrev STR_PIECE_DB : Nat := 0x1b0058
abbrev STR_LOAD_TIME : Nat := 0x1b005c
abbrev STR_PIECE (j : Nat) : Nat := 0x1b1000 + 0x4 * j

-- Table 3.9 (03_signal_space.md)
abbrev SIG_BSTAT : Nat := 0x110000
abbrev SIG_CMD : Nat := 0x110004
abbrev SIG_EPOCH : Nat := 0x110008
abbrev SIG_COMMIT_TIME : Nat := 0x11000c
abbrev SIG_CADENCE : Nat := 0x110010
abbrev SIG_PERIOD : Nat := 0x110014
abbrev SIG_FALLBACK : Nat := 0x110018
abbrev SIG_BOND_TMO : Nat := 0x11001c
abbrev SIG_FLAGS : Nat := 0x110020
abbrev SIG_COMMIT_HOLD : Nat := 0x110024
abbrev SIG_MERGED : Nat := 0x110028
abbrev SIG_BOND_DROP : Nat := 0x11002c
abbrev SIG_RECLAIM_PINNED : Nat := 0x110030
abbrev SIG_STALE_NOW : Nat := 0x110034
abbrev SIG_PIN_ACTIVE : Nat := 0x110038
abbrev SIG_PIN_EPOCH (p : Nat) : Nat := 0x110040 + 0x4 * p

-- Table 3.10 (03_signal_space.md)
abbrev PSG_PIN_CMD (p : Nat) : Nat := pageBase p + 0x10000
abbrev PSG_PIN_AT (p : Nat) : Nat := pageBase p + 0x10004
abbrev PSG_PIN_EPOCH (p : Nat) : Nat := pageBase p + 0x10008
abbrev PSG_PIN_STATUS (p : Nat) : Nat := pageBase p + 0x1000c
abbrev PSG_PIN_LOST_CNT (p : Nat) : Nat := pageBase p + 0x10010
abbrev PSG_PIN_LOST_IDX (p : Nat) : Nat := pageBase p + 0x10014
abbrev PSG_ASH_CMD (p : Nat) : Nat := pageBase p + 0x10100
abbrev PSG_ASH_CTRL (p : Nat) : Nat := pageBase p + 0x10104
abbrev PSG_ASH_ADDR_LO (p : Nat) : Nat := pageBase p + 0x10108
abbrev PSG_ASH_ADDR_HI (p : Nat) : Nat := pageBase p + 0x1010c
abbrev PSG_ASH_STATUS (p : Nat) : Nat := pageBase p + 0x10110
abbrev PSG_ASH_EPOCH (p : Nat) : Nat := pageBase p + 0x10114
abbrev PSG_ASH_FIRST (p : Nat) (k : Nat) : Nat := pageBase p + 0x10200 + 0x8 * k
abbrev PSG_ASH_COUNT (p : Nat) (k : Nat) : Nat := pageBase p + 0x10204 + 0x8 * k
abbrev PSG_WG_COUNT (p : Nat) : Nat := pageBase p + 0x10400
abbrev PSG_WG_DB (p : Nat) : Nat := pageBase p + 0x10404
abbrev PSG_WG_STATUS (p : Nat) : Nat := pageBase p + 0x10408
abbrev PSG_WG_EPOCH (p : Nat) : Nat := pageBase p + 0x1040c
abbrev PSG_WG_CELL (p : Nat) (k : Nat) : Nat := pageBase p + 0x11000 + 0x8 * k
abbrev PSG_WG_VALUE (p : Nat) (k : Nat) : Nat := pageBase p + 0x11004 + 0x8 * k

-- Table 4.4 (04_phase_and_time.md)
abbrev PHS_BSTAT : Nat := 0x120000
abbrev PHS_CMD : Nat := 0x120004
abbrev PHS_CFG (n : Nat) : Nat := 0x120100 + 0x80 * n
abbrev PHS_GEOM (n : Nat) : Nat := 0x120104 + 0x80 * n
abbrev PHS_SYN (n : Nat) : Nat := 0x120108 + 0x80 * n
abbrev PHS_BAND (n : Nat) : Nat := 0x12010c + 0x80 * n
abbrev PHS_CORRTH (n : Nat) : Nat := 0x120110 + 0x80 * n
abbrev PHS_LOCKTH (n : Nat) : Nat := 0x120114 + 0x80 * n
abbrev PHS_RELOCK (n : Nat) : Nat := 0x120118 + 0x80 * n
abbrev PHS_SLEW (n : Nat) : Nat := 0x12011c + 0x80 * n
abbrev PHS_HOLD (n : Nat) : Nat := 0x120120 + 0x80 * n
abbrev PHS_FALL (n : Nat) : Nat := 0x120124 + 0x80 * n
abbrev PHS_IDXTOL (n : Nat) : Nat := 0x120128 + 0x80 * n
abbrev PHS_STATE (n : Nat) : Nat := 0x120140 + 0x80 * n
abbrev PHS_POS_LO (n : Nat) : Nat := 0x120144 + 0x80 * n
abbrev PHS_POS_HI (n : Nat) : Nat := 0x120148 + 0x80 * n
abbrev PHS_HW_LO (n : Nat) : Nat := 0x12014c + 0x80 * n
abbrev PHS_HW_HI (n : Nat) : Nat := 0x120150 + 0x80 * n
abbrev PHS_RATE (n : Nat) : Nat := 0x120154 + 0x80 * n
abbrev PHS_ERR (n : Nat) : Nat := 0x120158 + 0x80 * n
abbrev PHS_EDGE (n : Nat) : Nat := 0x12015c + 0x80 * n
abbrev PHS_FLAGS (n : Nat) : Nat := 0x120160 + 0x80 * n
abbrev PHS_SLIPCNT (n : Nat) : Nat := 0x120164 + 0x80 * n
abbrev PHS_QERRCNT (n : Nat) : Nat := 0x120168 + 0x80 * n
abbrev PHS_STEPCNT (n : Nat) : Nat := 0x12016c + 0x80 * n

-- Table 4.8 (04_phase_and_time.md)
abbrev TMB_BSTAT : Nat := 0x130000
abbrev TMB_CTRL : Nat := 0x130004
abbrev TMB_CMD : Nat := 0x130008
abbrev TMB_SNAP_LOC_LO : Nat := 0x130010
abbrev TMB_SNAP_LOC_HI : Nat := 0x130014
abbrev TMB_SNAP_LOC_FRAC : Nat := 0x130018
abbrev TMB_SNAP_DIS_LO : Nat := 0x130020
abbrev TMB_SNAP_DIS_HI : Nat := 0x130024
abbrev TMB_SNAP_DIS_FRAC : Nat := 0x130028
abbrev TMB_OFFSET_LO : Nat := 0x130030
abbrev TMB_OFFSET_HI : Nat := 0x130034
abbrev TMB_OFFSET_FRAC : Nat := 0x130038
abbrev TMB_RATE : Nat := 0x13003c
abbrev TMB_ADJ_LO : Nat := 0x130040
abbrev TMB_ADJ_HI : Nat := 0x130044
abbrev TMB_STEP_THRESH : Nat := 0x130048
abbrev TMB_SLEW : Nat := 0x13004c
abbrev TMB_SLEW_LEFT_LO : Nat := 0x130050
abbrev TMB_SLEW_LEFT_HI : Nat := 0x130054
abbrev TMB_STATUS : Nat := 0x130058
abbrev TMB_STEPS : Nat := 0x13005c
abbrev TMB_PPS_SEC_LO : Nat := 0x130060
abbrev TMB_PPS_SEC_HI : Nat := 0x130064
abbrev TMB_PPS_IN_TS : Nat := 0x130068
abbrev TMB_PPSO_WIDTH : Nat := 0x13006c
abbrev TMB_GPTP_CTRL : Nat := 0x130070
abbrev TMB_GPTP_PORTS : Nat := 0x130074
abbrev TMB_GPTP_PRIO : Nat := 0x130078
abbrev TMB_GM_ID_LO : Nat := 0x130080
abbrev TMB_GM_ID_HI : Nat := 0x130084
abbrev TMB_GPTP_OFS : Nat := 0x130088
abbrev TMB_SYNC_LOSS : Nat := 0x13008c
abbrev TMB_TC_CTRL : Nat := 0x130090

-- Table 5.4 (05_scheduled_actions.md)
abbrev ACT_BSTAT : Nat := 0x140000
abbrev ACT_CMD : Nat := 0x140004
abbrev ACT_STATUS : Nat := 0x140008
abbrev ACT_ARMED : Nat := 0x14000c
abbrev ACT_LATE_CNT : Nat := 0x140010
abbrev ACT_SKIP_CNT : Nat := 0x140014
abbrev ACT_CROWD_CNT : Nat := 0x140018
abbrev ACT_LAST_LATE : Nat := 0x14001c
abbrev ACT_E_CTRL : Nat := 0x140100
abbrev ACT_E_ANGLE : Nat := 0x140104
abbrev ACT_E_ARG0 : Nat := 0x140108
abbrev ACT_E_ARG1 : Nat := 0x14010c
abbrev ACT_E_PERIOD : Nat := 0x140110
abbrev ACT_E_PARAM : Nat := 0x140114
abbrev ACT_E_MASK (k : Nat) : Nat := 0x140120 + 0x4 * k
abbrev ACT_E_STATE : Nat := 0x140140
abbrev ACT_E_LAST : Nat := 0x140144
abbrev ACT_E_COUNT : Nat := 0x140148
abbrev ACT_GROUP (g : Nat) (k : Nat) : Nat := 0x141000 + 0x20 * g + 0x4 * k

-- Table 6.13 (06_signal_gateway.md)
abbrev SEC_STATE (e : Nat) : Nat := secBase e + 0x0
abbrev SEC_LOAD (e : Nat) : Nat := secBase e + 0x4
abbrev SEC_CHECK_FAIL (e : Nat) : Nat := secBase e + 0x8
abbrev SEC_OVERRUN (e : Nat) : Nat := secBase e + 0xc
abbrev SEC_DROP (e : Nat) : Nat := secBase e + 0x10
abbrev SEC_TAKEOVERS (e : Nat) : Nat := secBase e + 0x14
abbrev SEC_QUEUE (e : Nat) : Nat := secBase e + 0x18
abbrev SEC_LAST_RECIPE (e : Nat) : Nat := secBase e + 0x1c
abbrev SEC_CMD (e : Nat) : Nat := secBase e + 0x20

-- Table 6.17 (06_signal_gateway.md)
abbrev GWU_LIMIT_DROP (u : Nat) : Nat := unitBase u + 0xf00
abbrev GWU_SHORT (u : Nat) : Nat := unitBase u + 0xf04
abbrev GWU_PACK_SAT (u : Nat) : Nat := unitBase u + 0xf08
abbrev GWU_TXQ_DROP (u : Nat) : Nat := unitBase u + 0xf0c
abbrev GWU_REPLACED (u : Nat) : Nat := unitBase u + 0xf10
abbrev GWU_REPLY_HELD (u : Nat) : Nat := unitBase u + 0xf14
abbrev GWU_CHAIN_LONG (u : Nat) : Nat := unitBase u + 0xf18
abbrev GWU_AUTH_REJECT (u : Nat) : Nat := unitBase u + 0xf1c
abbrev GWU_LAST_LIMIT (u : Nat) : Nat := unitBase u + 0xf20

-- Table 7.14 (07_can_units.md)
abbrev CFD_BSTAT (n : Nat) : Nat := canBase n + 0x0
abbrev CFD_MODE (n : Nat) : Nat := canBase n + 0x4
abbrev CFD_NBT (n : Nat) : Nat := canBase n + 0x8
abbrev CFD_DBT (n : Nat) : Nat := canBase n + 0xc
abbrev CFD_TDC (n : Nat) : Nat := canBase n + 0x10
abbrev CFD_TDC_VAL (n : Nat) : Nat := canBase n + 0x14
abbrev CFD_ERRC (n : Nat) : Nat := canBase n + 0x18
abbrev CFD_RECOV (n : Nat) : Nat := canBase n + 0x1c
abbrev CFD_CMD (n : Nat) : Nat := canBase n + 0x20
abbrev CFD_CLASH_LIM (n : Nat) : Nat := canBase n + 0x24
abbrev CFD_FLAGS (n : Nat) : Nat := canBase n + 0x28
abbrev CFD_TX_REQ_LO (n : Nat) : Nat := canBase n + 0x30
abbrev CFD_TX_REQ_HI (n : Nat) : Nat := canBase n + 0x34
abbrev CFD_TX_CANCEL_LO (n : Nat) : Nat := canBase n + 0x38
abbrev CFD_TX_CANCEL_HI (n : Nat) : Nat := canBase n + 0x3c
abbrev CFD_TX_PEND_LO (n : Nat) : Nat := canBase n + 0x40
abbrev CFD_TX_PEND_HI (n : Nat) : Nat := canBase n + 0x44
abbrev CFD_TX_SUSP_LO (n : Nat) : Nat := canBase n + 0x48
abbrev CFD_TX_SUSP_HI (n : Nat) : Nat := canBase n + 0x4c
abbrev CFD_TX_RESUME_LO (n : Nat) : Nat := canBase n + 0x50
abbrev CFD_TX_RESUME_HI (n : Nat) : Nat := canBase n + 0x54
abbrev CFD_MB_CMD (n : Nat) : Nat := canBase n + 0x60
abbrev CFD_MB_BUF (n : Nat) (j : Nat) : Nat := canBase n + 0x100 + 0x4 * j
abbrev CFD_RXQ_STATE (n : Nat) : Nat := canBase n + 0x180
abbrev CFD_RX_POP (n : Nat) : Nat := canBase n + 0x184
abbrev CFD_GWQ_DEPTH (n : Nat) : Nat := canBase n + 0x188
abbrev CFD_RX_BUF (n : Nat) (j : Nat) : Nat := canBase n + 0x200 + 0x4 * j
abbrev CFD_MTX_CMD (n : Nat) : Nat := canBase n + 0x300
abbrev CFD_MTX_STATE (n : Nat) : Nat := canBase n + 0x304
abbrev CFD_MTX_CYCLES (n : Nat) : Nat := canBase n + 0x308
abbrev CFD_MTX_START_TS (n : Nat) : Nat := canBase n + 0x30c
abbrev CFD_MTX_BASE_LO (n : Nat) : Nat := canBase n + 0x310
abbrev CFD_MTX_BASE_HI (n : Nat) : Nat := canBase n + 0x314
abbrev CFD_MB_STAT (n : Nat) (m : Nat) : Nat := canBase n + 0x400 + 0x4 * m
abbrev CFD_WAKE (n : Nat) (j : Nat) : Nat := canBase n + 0x500 + 0x4 * j
abbrev CFD_TX_FRAMES (n : Nat) : Nat := canBase n + 0x600
abbrev CFD_RX_FRAMES (n : Nat) : Nat := canBase n + 0x604
abbrev CFD_ERR_BIT (n : Nat) : Nat := canBase n + 0x608
abbrev CFD_ERR_STUFF (n : Nat) : Nat := canBase n + 0x60c
abbrev CFD_ERR_FORM (n : Nat) : Nat := canBase n + 0x610
abbrev CFD_ERR_CRC (n : Nat) : Nat := canBase n + 0x614
abbrev CFD_ERR_ACK (n : Nat) : Nat := canBase n + 0x618
abbrev CFD_ARB_LOST (n : Nat) : Nat := canBase n + 0x61c
abbrev CFD_CLASH (n : Nat) : Nat := canBase n + 0x620
abbrev CFD_RXQ_LOST (n : Nat) : Nat := canBase n + 0x624
abbrev CFD_WIN_MISS (n : Nat) : Nat := canBase n + 0x628
abbrev CFD_BUSOFF (n : Nat) : Nat := canBase n + 0x62c
abbrev CFD_RX_NOMATCH (n : Nat) : Nat := canBase n + 0x630
abbrev CFD_WAKE_CNT (n : Nat) : Nat := canBase n + 0x634

-- Table 8.7 (08_serial_and_discrete_units.md)
abbrev SLN_BSTAT (n : Nat) : Nat := laneBase n + 0x0
abbrev SLN_MODE (n : Nat) : Nat := laneBase n + 0x4
abbrev SLN_BAUD (n : Nat) : Nat := laneBase n + 0x8
abbrev SLN_FMT (n : Nat) : Nat := laneBase n + 0xc
abbrev SLN_FRAME (n : Nat) : Nat := laneBase n + 0x10
abbrev SLN_IDLE (n : Nat) : Nat := laneBase n + 0x14
abbrev SLN_DE (n : Nat) : Nat := laneBase n + 0x18
abbrev SLN_SPI (n : Nat) : Nat := laneBase n + 0x1c
abbrev SLN_SENT (n : Nat) : Nat := laneBase n + 0x20
abbrev SLN_CRC (n : Nat) : Nat := laneBase n + 0x24
abbrev SLN_CRC_CHK (n : Nat) : Nat := laneBase n + 0x28
abbrev SLN_FLOW (n : Nat) : Nat := laneBase n + 0x2c
abbrev SLN_CHAIN (n : Nat) (k : Nat) : Nat := laneBase n + 0x30 + 0x4 * k
abbrev SLN_LIN_CTRL (n : Nat) : Nat := laneBase n + 0x40
abbrev SLN_CMD (n : Nat) : Nat := laneBase n + 0x44
abbrev SLN_STATUS (n : Nat) : Nat := laneBase n + 0x48
abbrev SLN_SM_STATE (n : Nat) : Nat := laneBase n + 0x4c
abbrev SLN_TBL_IDX (n : Nat) : Nat := laneBase n + 0x50
abbrev SLN_TBL_DATA (n : Nat) : Nat := laneBase n + 0x54
abbrev SLN_RX_POP (n : Nat) : Nat := laneBase n + 0x100
abbrev SLN_RX_DEPTH (n : Nat) : Nat := laneBase n + 0x104
abbrev SLN_TX_PUSH (n : Nat) : Nat := laneBase n + 0x108
abbrev SLN_TX_DEPTH (n : Nat) : Nat := laneBase n + 0x10c
abbrev SLN_RX_FRAMES (n : Nat) : Nat := laneBase n + 0x600
abbrev SLN_TX_FRAMES (n : Nat) : Nat := laneBase n + 0x604
abbrev SLN_RX_LOST (n : Nat) : Nat := laneBase n + 0x608
abbrev SLN_SHORT (n : Nat) : Nat := laneBase n + 0x60c
abbrev SLN_LONG (n : Nat) : Nat := laneBase n + 0x610
abbrev SLN_BAD_FRAME (n : Nat) : Nat := laneBase n + 0x614
abbrev SLN_CHAR_ERR (n : Nat) : Nat := laneBase n + 0x618
abbrev SLN_TX_REFUSED (n : Nat) : Nat := laneBase n + 0x61c
abbrev SLN_UNDERRUN (n : Nat) : Nat := laneBase n + 0x620
abbrev SLN_LIN_NORESP (n : Nat) : Nat := laneBase n + 0x624
abbrev SLN_TX_ABORT (n : Nat) : Nat := laneBase n + 0x628

-- Table 8.8 (08_serial_and_discrete_units.md)
abbrev DSC_BSTAT (b : Nat) : Nat := bankBase b + 0x0
abbrev DSC_DIR (b : Nat) : Nat := bankBase b + 0x4
abbrev DSC_SAFE (b : Nat) : Nat := bankBase b + 0x8
abbrev DSC_DEB_UNIT (b : Nat) : Nat := bankBase b + 0xc
abbrev DSC_DEB_LO (b : Nat) : Nat := bankBase b + 0x10
abbrev DSC_DEB_HI (b : Nat) : Nat := bankBase b + 0x14
abbrev DSC_EDGE_CFG (b : Nat) : Nat := bankBase b + 0x18
abbrev DSC_LEVEL (b : Nat) : Nat := bankBase b + 0x20
abbrev DSC_OUT_MODE (b : Nat) : Nat := bankBase b + 0x24
abbrev DSC_OUT_STAGE (b : Nat) : Nat := bankBase b + 0x28
abbrev DSC_OUT_NOW (b : Nat) : Nat := bankBase b + 0x2c
abbrev DSC_FLAGS (b : Nat) : Nat := bankBase b + 0x30
abbrev DSC_SAMPLE_CELL (b : Nat) : Nat := bankBase b + 0x34
abbrev DSC_ECELL (b : Nat) (l : Nat) : Nat := bankBase b + 0x40 + 0x4 * l
abbrev DSC_SRC (b : Nat) (l : Nat) : Nat := bankBase b + 0x60 + 0x4 * l
abbrev DSC_RISE_TS (b : Nat) (l : Nat) : Nat := bankBase b + 0x80 + 0x4 * l
abbrev DSC_FALL_TS (b : Nat) (l : Nat) : Nat := bankBase b + 0xa0 + 0x4 * l
abbrev DSC_EDGE_CNT (b : Nat) (l : Nat) : Nat := bankBase b + 0xc0 + 0x4 * l
abbrev DSC_SRC_BAD_CNT (b : Nat) : Nat := bankBase b + 0xe0

-- Table 9.6 (09_ethernet_and_switch.md)
abbrev EMC_BSTAT (m : Nat) : Nat := macBase m + 0x0
abbrev EMC_MODE (m : Nat) : Nat := macBase m + 0x4
abbrev EMC_LINK (m : Nat) : Nat := macBase m + 0x8
abbrev EMC_EEE (m : Nat) : Nat := macBase m + 0xc
abbrev EMC_WAKE_EN (m : Nat) : Nat := macBase m + 0x10
abbrev EMC_FLAGS (m : Nat) : Nat := macBase m + 0x14
abbrev EMC_WAKE_CNT (m : Nat) : Nat := macBase m + 0x18
abbrev EMC_LPI_CNT (m : Nat) : Nat := macBase m + 0x1c
abbrev EMC_WMASK (m : Nat) (k : Nat) (j : Nat) : Nat := macBase m + 0x400 + 0x20 * k + 0x4 * j
abbrev EMC_WCRC (m : Nat) (k : Nat) : Nat := macBase m + 0x410 + 0x20 * k

-- Table 9.7 (09_ethernet_and_switch.md)
abbrev SWC_BSTAT : Nat := 0x150000
abbrev SWC_CMD : Nat := 0x150004
abbrev SWC_FLAGS : Nat := 0x150008
abbrev SWC_PANS : Nat := 0x15000c
abbrev SWC_GUARD : Nat := 0x150010
abbrev SWC_G_LIMIT_DROP : Nat := 0x150020
abbrev SWC_G_AUTH_REJECT : Nat := 0x150024
abbrev SWC_G_CHAIN_LONG : Nat := 0x150028
abbrev SWC_G_BADREC : Nat := 0x15002c
abbrev SWC_G_SEQGAP : Nat := 0x150030
abbrev SWC_G_SHORT : Nat := 0x150034
abbrev SWC_G_LAST_LIMIT : Nat := 0x150038
abbrev SWC_LIST_IDX : Nat := 0x150100
abbrev SWC_LIST_DATA : Nat := 0x150104

-- Table 9.8 (09_ethernet_and_switch.md)
abbrev SWC_P_CFG (p : Nat) : Nat := 0x151000 + 0x100 * p
abbrev SWC_P_CT (p : Nat) : Nat := 0x151004 + 0x100 * p
abbrev SWC_P_PCPMAP (p : Nat) : Nat := 0x151008 + 0x100 * p
abbrev SWC_P_STATUS (p : Nat) : Nat := 0x15100c + 0x100 * p
abbrev SWC_P_LIST_CMD (p : Nat) : Nat := 0x151010 + 0x100 * p
abbrev SWC_P_LIST_STATE (p : Nat) : Nat := 0x151014 + 0x100 * p
abbrev SWC_P_LIST_CYCLES (p : Nat) : Nat := 0x151018 + 0x100 * p
abbrev SWC_P_SAMPLE (p : Nat) : Nat := 0x15101c + 0x100 * p
abbrev SWC_P_BIN (p : Nat) : Nat := 0x151020 + 0x100 * p
abbrev SWC_P_RX_FRAMES_LO (p : Nat) : Nat := 0x151040 + 0x100 * p
abbrev SWC_P_RX_FRAMES_HI (p : Nat) : Nat := 0x151044 + 0x100 * p
abbrev SWC_P_RX_BYTES_LO (p : Nat) : Nat := 0x151048 + 0x100 * p
abbrev SWC_P_RX_BYTES_HI (p : Nat) : Nat := 0x15104c + 0x100 * p
abbrev SWC_P_TX_FRAMES_LO (p : Nat) : Nat := 0x151050 + 0x100 * p
abbrev SWC_P_TX_FRAMES_HI (p : Nat) : Nat := 0x151054 + 0x100 * p
abbrev SWC_P_TX_BYTES_LO (p : Nat) : Nat := 0x151058 + 0x100 * p
abbrev SWC_P_TX_BYTES_HI (p : Nat) : Nat := 0x15105c + 0x100 * p
abbrev SWC_P_RUNT (p : Nat) : Nat := 0x151060 + 0x100 * p
abbrev SWC_P_GIANT (p : Nat) : Nat := 0x151064 + 0x100 * p
abbrev SWC_P_FCS_ERR (p : Nat) : Nat := 0x151068 + 0x100 * p
abbrev SWC_P_CT_BAD (p : Nat) : Nat := 0x15106c + 0x100 * p
abbrev SWC_P_NO_ROUTE (p : Nat) : Nat := 0x151070 + 0x100 * p
abbrev SWC_P_FILTER_DROP (p : Nat) : Nat := 0x151074 + 0x100 * p
abbrev SWC_P_TAIL_DROP (p : Nat) : Nat := 0x151078 + 0x100 * p
abbrev SWC_P_FLUSHED (p : Nat) : Nat := 0x15107c + 0x100 * p
abbrev SWC_P_GATE_OVERRUN (p : Nat) : Nat := 0x151080 + 0x100 * p
abbrev SWC_P_GUARD_HOLD (p : Nat) : Nat := 0x151084 + 0x100 * p
abbrev SWC_P_ECN_MARKED (p : Nat) : Nat := 0x151088 + 0x100 * p
abbrev SWC_P_CN_MARKED (p : Nat) : Nat := 0x15108c + 0x100 * p
abbrev SWC_P_TS_LOST (p : Nat) : Nat := 0x151090 + 0x100 * p
abbrev SWC_P_LIMIT_DROP (p : Nat) : Nat := 0x151098 + 0x100 * p
abbrev SWC_P_CT_FRAMES (p : Nat) : Nat := 0x151094 + 0x100 * p
abbrev SWC_P_TS_POP (p : Nat) : Nat := 0x1510a0 + 0x100 * p
abbrev SWC_P_TS_LO (p : Nat) : Nat := 0x1510a4 + 0x100 * p
abbrev SWC_P_TS_HI (p : Nat) : Nat := 0x1510a8 + 0x100 * p

-- Table 9.9 (09_ethernet_and_switch.md)
abbrev SWC_Q_CFG (p : Nat) (q : Nat) : Nat := 0x153000 + 0x60 * (8 * p + q)
abbrev SWC_Q_IDLESLOPE (p : Nat) (q : Nat) : Nat := 0x153004 + 0x60 * (8 * p + q)
abbrev SWC_Q_CREDIT (p : Nat) (q : Nat) : Nat := 0x153008 + 0x60 * (8 * p + q)
abbrev SWC_Q_LIMITS (p : Nat) (q : Nat) : Nat := 0x15300c + 0x60 * (8 * p + q)
abbrev SWC_Q_DEPTH (p : Nat) (q : Nat) : Nat := 0x153010 + 0x60 * (8 * p + q)
abbrev SWC_Q_LAST_DEPTH (p : Nat) (q : Nat) : Nat := 0x153014 + 0x60 * (8 * p + q)
abbrev SWC_Q_LAST_DELAY (p : Nat) (q : Nat) : Nat := 0x153018 + 0x60 * (8 * p + q)
abbrev SWC_Q_DEPTH_MINMAX (p : Nat) (q : Nat) : Nat := 0x15301c + 0x60 * (8 * p + q)
abbrev SWC_Q_DEPTH_MEAN (p : Nat) (q : Nat) : Nat := 0x153020 + 0x60 * (8 * p + q)
abbrev SWC_Q_DELAY_MIN (p : Nat) (q : Nat) : Nat := 0x153024 + 0x60 * (8 * p + q)
abbrev SWC_Q_DELAY_MAX (p : Nat) (q : Nat) : Nat := 0x153028 + 0x60 * (8 * p + q)
abbrev SWC_Q_DELAY_MEAN (p : Nat) (q : Nat) : Nat := 0x15302c + 0x60 * (8 * p + q)
abbrev SWC_Q_WIN_SEQ (p : Nat) (q : Nat) : Nat := 0x153030 + 0x60 * (8 * p + q)
abbrev SWC_Q_HIST (p : Nat) (q : Nat) (j : Nat) : Nat := 0x153040 + 0x60 * (8 * p + q) + 0x4 * j

-- Table 10.3 (10_avzin_ring.md)
abbrev RNG_BSTAT : Nat := 0x160000
abbrev RNG_CFG : Nat := 0x160004
abbrev RNG_TIMERS : Nat := 0x160008
abbrev RNG_STATE : Nat := 0x16000c
abbrev RNG_FLAGS : Nat := 0x160010
abbrev RNG_CMD : Nat := 0x160014
abbrev RNG_LOOP : Nat := 0x160018
abbrev RNG_RT_DIFF : Nat := 0x16001c
abbrev RNG_P_ACCEPTED_LO (k : Nat) : Nat := 0x160100 + 0x40 * k
abbrev RNG_P_ACCEPTED_HI (k : Nat) : Nat := 0x160104 + 0x40 * k
abbrev RNG_P_DUP_DISCARD_LO (k : Nat) : Nat := 0x160108 + 0x40 * k
abbrev RNG_P_DUP_DISCARD_HI (k : Nat) : Nat := 0x16010c + 0x40 * k
abbrev RNG_P_OWN_REMOVED_LO (k : Nat) : Nat := 0x160110 + 0x40 * k
abbrev RNG_P_OWN_REMOVED_HI (k : Nat) : Nat := 0x160114 + 0x40 * k
abbrev RNG_P_OUT_OF_WINDOW (k : Nat) : Nat := 0x160118 + 0x40 * k
abbrev RNG_P_HOP_DROP (k : Nat) : Nat := 0x16011c + 0x40 * k
abbrev RNG_P_BAD_TAG (k : Nat) : Nat := 0x160120 + 0x40 * k
abbrev RNG_P_UNTAGGED (k : Nat) : Nat := 0x160124 + 0x40 * k
abbrev RNG_P_NOLINK (k : Nat) : Nat := 0x160128 + 0x40 * k
abbrev RNG_P_CN_SEEN (k : Nat) : Nat := 0x16012c + 0x40 * k
abbrev RNG_SRC_IDX : Nat := 0x160200
abbrev RNG_SRC_STATE : Nat := 0x160204
abbrev RNG_SRC_AGE : Nat := 0x160208

-- Table 11.5 (11_host_pages_and_bridge.md)
abbrev PG_ID (p : Nat) : Nat := pageBase p + 0x0
abbrev PG_PATH (p : Nat) : Nat := pageBase p + 0x4
abbrev PG_PATH_STATUS (p : Nat) : Nat := pageBase p + 0x8
abbrev PG_HB (p : Nat) : Nat := pageBase p + 0xc
abbrev PG_CMD (p : Nat) : Nat := pageBase p + 0x10
abbrev PG_OUTSTANDING (p : Nat) : Nat := pageBase p + 0x14
abbrev PG_BUSY_CNT (p : Nat) : Nat := pageBase p + 0x18
abbrev PG_SWITCH_CNT (p : Nat) : Nat := pageBase p + 0x1c
abbrev PG_UNIT_WR (p : Nat) (k : Nat) : Nat := pageBase p + 0x20 + 0x4 * k
abbrev PG_SCRATCH (p : Nat) (k : Nat) : Nat := pageBase p + 0x40 + 0x4 * k
abbrev EQ_POP_LO (p : Nat) (q : Nat) : Nat := pageBase p + 0x100 + 0x20 * q
abbrev EQ_POP_HI (p : Nat) (q : Nat) : Nat := pageBase p + 0x104 + 0x20 * q
abbrev EQ_CTRL (p : Nat) (q : Nat) : Nat := pageBase p + 0x108 + 0x20 * q
abbrev EQ_STATE (p : Nat) (q : Nat) : Nat := pageBase p + 0x10c + 0x20 * q
abbrev EQ_PEAK (p : Nat) (q : Nat) : Nat := pageBase p + 0x110 + 0x20 * q
abbrev EQ_LOST (p : Nat) (q : Nat) : Nat := pageBase p + 0x114 + 0x20 * q
abbrev EQ_POSTED (p : Nat) (q : Nat) : Nat := pageBase p + 0x118 + 0x20 * q
abbrev EQ_CMD (p : Nat) (q : Nat) : Nat := pageBase p + 0x11c + 0x20 * q
abbrev PG_LRMW_ADDR (p : Nat) : Nat := pageBase p + 0x200
abbrev PG_LRMW_MASK (p : Nat) : Nat := pageBase p + 0x204
abbrev PG_LRMW_VALUE (p : Nat) : Nat := pageBase p + 0x208
abbrev PG_LRMW_CMD (p : Nat) : Nat := pageBase p + 0x20c
abbrev PG_LRMW_STATUS (p : Nat) : Nat := pageBase p + 0x210
abbrev PG_LRMW_OLD (p : Nat) : Nat := pageBase p + 0x214

-- Table 11.9 (11_host_pages_and_bridge.md)
abbrev LBB_BSTAT : Nat := 0x1a0000
abbrev LBB_CTRL : Nat := 0x1a0004
abbrev LBB_POLL : Nat := 0x1a0008
abbrev LBB_INT_CFG : Nat := 0x1a000c
abbrev LBB_INT_LEVEL : Nat := 0x1a0010
abbrev LBB_STATUS : Nat := 0x1a0014
abbrev LBB_RETRY_CNT : Nat := 0x1a0018
abbrev LBB_TMO_CNT : Nat := 0x1a001c
abbrev LBB_IN_CNT : Nat := 0x1a0020
abbrev LBB_IN_PAGES : Nat := 0x1a0024
abbrev LBB_INT_CELL (l : Nat) : Nat := 0x1a0040 + 0x4 * l
abbrev LBB_W_BASE (w : Nat) : Nat := 0x1a0100 + 0x40 * w
abbrev LBB_W_CFG (w : Nat) : Nat := 0x1a0104 + 0x40 * w
abbrev LBB_W_TIMING (w : Nat) : Nat := 0x1a0108 + 0x40 * w
abbrev LBB_W_DISC_CNT (w : Nat) : Nat := 0x1a010c + 0x40 * w
abbrev LBB_W_DISC_ADDR (w : Nat) (k : Nat) : Nat := 0x1a0110 + 0x40 * w + 0x4 * k
abbrev LBB_IN_MEM (j : Nat) : Nat := 0x1a4000 + 0x4 * j

-- Table 12.6 (12_cipher_engine.md)
abbrev CPH_BSTAT : Nat := 0x170000
abbrev CPH_KEY_CMD : Nat := 0x170004
abbrev CPH_KEY_FIXED : Nat := 0x170008
abbrev CPH_KEY_DATA (j : Nat) : Nat := 0x170010 + 0x4 * j
abbrev CPH_FLAGS : Nat := 0x170030
abbrev CPH_HOLD : Nat := 0x170034
abbrev CPH_RX_AUTH_FAIL : Nat := 0x170040
abbrev CPH_RX_REPLAY : Nat := 0x170044
abbrev CPH_HOLD_DROP : Nat := 0x170048
abbrev CPH_TX_NOKEY : Nat := 0x17004c
abbrev CPH_NOPOLICY : Nat := 0x170050
abbrev CPH_RESYNC_RX : Nat := 0x170054
abbrev CPH_RESYNC_TX : Nat := 0x170058
abbrev CPH_GRANT_LO (p : Nat) : Nat := 0x170100 + 0x8 * p
abbrev CPH_GRANT_HI (p : Nat) : Nat := 0x170104 + 0x8 * p
abbrev CPH_POL_IDX : Nat := 0x170200
abbrev CPH_POL_FV : Nat := 0x170204
abbrev CPH_POL_GEN : Nat := 0x170208
abbrev CPH_SLOT_STATE (k : Nat) : Nat := 0x171000 + 0x20 * k
abbrev CPH_SLOT_FIXED (k : Nat) : Nat := 0x171004 + 0x20 * k
abbrev CPH_SLOT_CNT_LO (k : Nat) : Nat := 0x171008 + 0x20 * k
abbrev CPH_SLOT_CNT_HI (k : Nat) : Nat := 0x17100c + 0x20 * k
abbrev CPH_SLOT_LIMIT_LO (k : Nat) : Nat := 0x171010 + 0x20 * k
abbrev CPH_SLOT_LIMIT_HI (k : Nat) : Nat := 0x171014 + 0x20 * k
abbrev CPH_SLOT_JOBS (k : Nat) : Nat := 0x171018 + 0x20 * k

-- Table 12.7 (12_cipher_engine.md)
abbrev PCJ_CTRL (p : Nat) (r : Nat) : Nat := pageBase p + 0x20000 + 0x100 * r
abbrev PCJ_DESC_BASE_LO (p : Nat) (r : Nat) : Nat := pageBase p + 0x20004 + 0x100 * r
abbrev PCJ_DESC_BASE_HI (p : Nat) (r : Nat) : Nat := pageBase p + 0x20008 + 0x100 * r
abbrev PCJ_CPL_BASE_LO (p : Nat) (r : Nat) : Nat := pageBase p + 0x2000c + 0x100 * r
abbrev PCJ_CPL_BASE_HI (p : Nat) (r : Nat) : Nat := pageBase p + 0x20010 + 0x100 * r
abbrev PCJ_PROD (p : Nat) (r : Nat) : Nat := pageBase p + 0x20014 + 0x100 * r
abbrev PCJ_CONS (p : Nat) (r : Nat) : Nat := pageBase p + 0x20018 + 0x100 * r
abbrev PCJ_DONE (p : Nat) (r : Nat) : Nat := pageBase p + 0x2001c + 0x100 * r
abbrev PCJ_STATUS (p : Nat) (r : Nat) : Nat := pageBase p + 0x20020 + 0x100 * r
abbrev PCJ_JOBS (p : Nat) (r : Nat) : Nat := pageBase p + 0x20024 + 0x100 * r

-- Table 13.5 (13_field_update.md)
abbrev UPD_BSTAT : Nat := 0x180000
abbrev UPD_CMD : Nat := 0x180004
abbrev UPD_STATE : Nat := 0x180008
abbrev UPD_FLAGS : Nat := 0x18000c
abbrev UPD_CTRL : Nat := 0x180010
abbrev UPD_BUNDLE_ID : Nat := 0x180014
abbrev UPD_PIECES : Nat := 0x180018
abbrev UPD_PIECE_IDX : Nat := 0x18001c
abbrev UPD_PIECE_LEN : Nat := 0x180020
abbrev UPD_PIECE_MAC (k : Nat) : Nat := 0x180024 + 0x4 * k
abbrev UPD_PIECE_DB : Nat := 0x180034
abbrev UPD_PIECE_STATUS : Nat := 0x180038
abbrev UPD_PIECE_BAD : Nat := 0x18003c
abbrev UPD_PIECE_DUP : Nat := 0x180040
abbrev UPD_BITMAP_IDX : Nat := 0x180044
abbrev UPD_BITMAP_DATA : Nat := 0x180048
abbrev UPD_NEW_FW_VERSION : Nat := 0x18004c
abbrev UPD_NEW_IMG_VERSION : Nat := 0x180050
abbrev UPD_NEW_INFO : Nat := 0x180054
abbrev UPD_FW_VERSION : Nat := 0x180058
abbrev UPD_FUSE : Nat := 0x18005c
abbrev UPD_BANK : Nat := 0x180060
abbrev UPD_ACT_TIME : Nat := 0x180064
abbrev UPD_ARCH : Nat := 0x180068
abbrev UPD_ARCH_OFF : Nat := 0x18006c
abbrev UPD_ARCH_DATA : Nat := 0x180070
abbrev UPD_PIECE (j : Nat) : Nat := 0x181000 + 0x4 * j

-- Table 14.10 (14_reset_options_health.md)
abbrev HLT_BSTAT : Nat := 0x190000
abbrev HLT_CMD : Nat := 0x190004
abbrev HLT_RESET_CAUSE : Nat := 0x190008
abbrev HLT_STATUS : Nat := 0x19000c
abbrev HLT_CTRL : Nat := 0x190010
abbrev HLT_SCRUB : Nat := 0x190014
abbrev HLT_LASTING_CNT : Nat := 0x190018
abbrev HLT_TRANSIENT_CNT : Nat := 0x19001c
abbrev HLT_CE_CNT : Nat := 0x190020
abbrev HLT_UE_CNT : Nat := 0x190024
abbrev HLT_HARD_CE_CNT : Nat := 0x190028
abbrev HLT_SCRUB_SWEEPS : Nat := 0x19002c
abbrev HLT_OPT_STATUS : Nat := 0x190030
abbrev HLT_RET_FLAGS : Nat := 0x190034
abbrev HLT_SPARE (r : Nat) : Nat := 0x190040 + 0x4 * r
abbrev HLT_RETIRED (k : Nat) : Nat := 0x190060 + 0x4 * k
abbrev HLT_BACKUP (k : Nat) : Nat := 0x190100 + 0x4 * k
abbrev HLT_LOG_SEQ : Nat := 0x190200
abbrev HLT_OPT_LOADED (j : Nat) : Nat := 0x191000 + 0x4 * j
abbrev HLT_OPT_BUF (j : Nat) : Nat := 0x192000 + 0x4 * j
abbrev HLT_LOG (j : Nat) : Nat := 0x193000 + 0x4 * j
abbrev HLT_RETAINED (j : Nat) : Nat := 0x194000 + 0x4 * j

-- The fields that do not fill their register.
abbrev GEN_DEVICE_ID_PART_NUM : Fld := ⟨GEN_DEVICE_ID, 16, 16⟩
abbrev GEN_DEVICE_ID_STEP_MAJOR : Fld := ⟨GEN_DEVICE_ID, 12, 4⟩
abbrev GEN_DEVICE_ID_STEP_MINOR : Fld := ⟨GEN_DEVICE_ID, 8, 4⟩
abbrev GEN_ORDER_SCREEN : Fld := ⟨GEN_ORDER, 4, 4⟩
abbrev GEN_ORDER_FINISH : Fld := ⟨GEN_ORDER, 0, 4⟩
abbrev GEN_REGION_FLOOR_FLOOR : Fld := ⟨GEN_REGION_FLOOR, 0, 16⟩
abbrev GEN_REGION_STEP_STEP : Fld := ⟨GEN_REGION_STEP, 0, 16⟩
abbrev GEN_REGION_IDLE_IDLE_HOLD : Fld := ⟨GEN_REGION_IDLE, 0, 16⟩
abbrev GEN_MORTAR_STATE_LINK_STATE : Fld := ⟨GEN_MORTAR_STATE, 0, 8⟩
abbrev GEN_TEMP_CORE_TEMP : Fld := ⟨GEN_TEMP_CORE, 0, 16⟩
abbrev GEN_TEMP_PD0_TEMP : Fld := ⟨GEN_TEMP_PD0, 0, 16⟩
abbrev GEN_TEMP_PD1_TEMP : Fld := ⟨GEN_TEMP_PD1, 0, 16⟩
abbrev GEN_TEMP_WARN_WARN : Fld := ⟨GEN_TEMP_WARN, 0, 16⟩
abbrev GEN_TEMP_FLAGS_HOT_PD1 : Fld := ⟨GEN_TEMP_FLAGS, 2, 1⟩
abbrev GEN_TEMP_FLAGS_HOT_PD0 : Fld := ⟨GEN_TEMP_FLAGS, 1, 1⟩
abbrev GEN_TEMP_FLAGS_HOT_CORE : Fld := ⟨GEN_TEMP_FLAGS, 0, 1⟩
abbrev GEN_ACCESS_ERR_HOLE : Fld := ⟨GEN_ACCESS_ERR, 8, 8⟩
abbrev GEN_ACCESS_ERR_DENIED : Fld := ⟨GEN_ACCESS_ERR, 0, 8⟩
abbrev GEN_ACCESS_LAST_PAGE : Fld := ⟨GEN_ACCESS_LAST, 29, 3⟩
abbrev GEN_ACCESS_LAST_WRITE : Fld := ⟨GEN_ACCESS_LAST, 28, 1⟩
abbrev GEN_ACCESS_LAST_ADDR : Fld := ⟨GEN_ACCESS_LAST, 0, 26⟩
abbrev GEN_VIO_STATE_VALID : Fld := ⟨GEN_VIO_STATE, 0, 16⟩
abbrev STR_BSTAT_STAGED : Fld := ⟨STR_BSTAT, 3, 1⟩
abbrev STR_BSTAT_APPLIED : Fld := ⟨STR_BSTAT, 2, 1⟩
abbrev STR_BSTAT_WRITE_REFUSED : Fld := ⟨STR_BSTAT, 1, 1⟩
abbrev STR_BSTAT_RUN : Fld := ⟨STR_BSTAT, 0, 1⟩
abbrev STR_CMD_CMD : Fld := ⟨STR_CMD, 0, 4⟩
abbrev STR_STATE_FULL_RELOAD : Fld := ⟨STR_STATE, 20, 1⟩
abbrev STR_STATE_FULL : Fld := ⟨STR_STATE, 19, 1⟩
abbrev STR_STATE_SOURCE : Fld := ⟨STR_STATE, 17, 2⟩
abbrev STR_STATE_ERR : Fld := ⟨STR_STATE, 8, 8⟩
abbrev STR_STATE_STATE : Fld := ⟨STR_STATE, 0, 3⟩
abbrev STR_BOUNDARY_PT : Fld := ⟨STR_BOUNDARY, 4, 2⟩
abbrev STR_BOUNDARY_KIND : Fld := ⟨STR_BOUNDARY, 0, 2⟩
abbrev STR_FLAGS_SAVE_DONE : Fld := ⟨STR_FLAGS, 3, 1⟩
abbrev STR_FLAGS_CMD_IGNORED : Fld := ⟨STR_FLAGS, 2, 1⟩
abbrev STR_FLAGS_LATE_COMMIT : Fld := ⟨STR_FLAGS, 1, 1⟩
abbrev STR_FLAGS_FALLBACK_BOOT : Fld := ⟨STR_FLAGS, 0, 1⟩
abbrev STR_ACT_SCHEMA_SCHEMA : Fld := ⟨STR_ACT_SCHEMA, 0, 16⟩
abbrev STR_PIECE_OFF_OFF : Fld := ⟨STR_PIECE_OFF, 0, 23⟩
abbrev STR_PIECE_LEN_LEN : Fld := ⟨STR_PIECE_LEN, 0, 13⟩
abbrev STR_PIECE_DB_RING : Fld := ⟨STR_PIECE_DB, 0, 1⟩
abbrev SIG_BSTAT_STAGED : Fld := ⟨SIG_BSTAT, 3, 1⟩
abbrev SIG_BSTAT_APPLIED : Fld := ⟨SIG_BSTAT, 2, 1⟩
abbrev SIG_BSTAT_WRITE_REFUSED : Fld := ⟨SIG_BSTAT, 1, 1⟩
abbrev SIG_BSTAT_RUN : Fld := ⟨SIG_BSTAT, 0, 1⟩
abbrev SIG_CMD_COMMIT : Fld := ⟨SIG_CMD, 0, 1⟩
abbrev SIG_CADENCE_POINTS : Fld := ⟨SIG_CADENCE, 8, 6⟩
abbrev SIG_CADENCE_PT : Fld := ⟨SIG_CADENCE, 4, 2⟩
abbrev SIG_CADENCE_MODE : Fld := ⟨SIG_CADENCE, 0, 2⟩
abbrev SIG_PERIOD_PERIOD_US : Fld := ⟨SIG_PERIOD, 0, 20⟩
abbrev SIG_FALLBACK_FALLBACK_PERIOD : Fld := ⟨SIG_FALLBACK, 0, 20⟩
abbrev SIG_BOND_TMO_TMO_US : Fld := ⟨SIG_BOND_TMO, 0, 16⟩
abbrev SIG_FLAGS_FALLBACK_ACTIVE : Fld := ⟨SIG_FLAGS, 2, 1⟩
abbrev SIG_FLAGS_BOND_OVF : Fld := ⟨SIG_FLAGS, 1, 1⟩
abbrev SIG_FLAGS_BOND_TMO_HIT : Fld := ⟨SIG_FLAGS, 0, 1⟩
abbrev SIG_COMMIT_HOLD_PEAK_NS : Fld := ⟨SIG_COMMIT_HOLD, 16, 16⟩
abbrev SIG_COMMIT_HOLD_LAST_NS : Fld := ⟨SIG_COMMIT_HOLD, 0, 16⟩
abbrev SIG_STALE_NOW_CELLS : Fld := ⟨SIG_STALE_NOW, 0, 18⟩
abbrev SIG_PIN_ACTIVE_ASHLAR : Fld := ⟨SIG_PIN_ACTIVE, 8, 8⟩
abbrev SIG_PIN_ACTIVE_PIN : Fld := ⟨SIG_PIN_ACTIVE, 0, 8⟩
abbrev PSG_PIN_CMD_OP (p : Nat) : Fld := ⟨PSG_PIN_CMD p, 0, 2⟩
abbrev PSG_PIN_STATUS_NO_PIN_READ (p : Nat) : Fld := ⟨PSG_PIN_STATUS p, 5, 1⟩
abbrev PSG_PIN_STATUS_PIN_EXPIRED (p : Nat) : Fld := ⟨PSG_PIN_STATUS p, 4, 1⟩
abbrev PSG_PIN_STATUS_PIN_REFUSED (p : Nat) : Fld := ⟨PSG_PIN_STATUS p, 3, 1⟩
abbrev PSG_PIN_STATUS_EPOCH_LOST (p : Nat) : Fld := ⟨PSG_PIN_STATUS p, 2, 1⟩
abbrev PSG_PIN_STATUS_PIN_BROKEN (p : Nat) : Fld := ⟨PSG_PIN_STATUS p, 1, 1⟩
abbrev PSG_PIN_STATUS_PINNED (p : Nat) : Fld := ⟨PSG_PIN_STATUS p, 0, 1⟩
abbrev PSG_PIN_LOST_IDX_CELL (p : Nat) : Fld := ⟨PSG_PIN_LOST_IDX p, 0, 17⟩
abbrev PSG_ASH_CMD_CANCEL (p : Nat) : Fld := ⟨PSG_ASH_CMD p, 1, 1⟩
abbrev PSG_ASH_CMD_START (p : Nat) : Fld := ⟨PSG_ASH_CMD p, 0, 1⟩
abbrev PSG_ASH_CTRL_RANGES (p : Nat) : Fld := ⟨PSG_ASH_CTRL p, 0, 7⟩
abbrev PSG_ASH_ADDR_LO_ADDR (p : Nat) : Fld := ⟨PSG_ASH_ADDR_LO p, 6, 26⟩
abbrev PSG_ASH_STATUS_START_IGNORED (p : Nat) : Fld := ⟨PSG_ASH_STATUS p, 9, 1⟩
abbrev PSG_ASH_STATUS_RETRY_EXHAUSTED (p : Nat) : Fld := ⟨PSG_ASH_STATUS p, 8, 1⟩
abbrev PSG_ASH_STATUS_RESTARTS (p : Nat) : Fld := ⟨PSG_ASH_STATUS p, 4, 3⟩
abbrev PSG_ASH_STATUS_STATE (p : Nat) : Fld := ⟨PSG_ASH_STATUS p, 0, 3⟩
abbrev PSG_ASH_FIRST_FIRST (p : Nat) (k : Nat) : Fld := ⟨PSG_ASH_FIRST p k, 0, 17⟩
abbrev PSG_ASH_COUNT_COUNT (p : Nat) (k : Nat) : Fld := ⟨PSG_ASH_COUNT p k, 0, 18⟩
abbrev PSG_WG_COUNT_COUNT (p : Nat) : Fld := ⟨PSG_WG_COUNT p, 0, 10⟩
abbrev PSG_WG_DB_RING (p : Nat) : Fld := ⟨PSG_WG_DB p, 0, 1⟩
abbrev PSG_WG_STATUS_RANGE (p : Nat) : Fld := ⟨PSG_WG_STATUS p, 4, 1⟩
abbrev PSG_WG_STATUS_BUSY_WRITE (p : Nat) : Fld := ⟨PSG_WG_STATUS p, 3, 1⟩
abbrev PSG_WG_STATUS_DENIED (p : Nat) : Fld := ⟨PSG_WG_STATUS p, 2, 1⟩
abbrev PSG_WG_STATUS_DONE (p : Nat) : Fld := ⟨PSG_WG_STATUS p, 1, 1⟩
abbrev PSG_WG_STATUS_BUSY (p : Nat) : Fld := ⟨PSG_WG_STATUS p, 0, 1⟩
abbrev PSG_WG_CELL_CELL (p : Nat) (k : Nat) : Fld := ⟨PSG_WG_CELL p k, 0, 17⟩
abbrev PSG_WG_VALUE_VALUE (p : Nat) (k : Nat) : Fld := ⟨PSG_WG_VALUE p k, 0, 24⟩
abbrev PHS_BSTAT_STAGED : Fld := ⟨PHS_BSTAT, 3, 1⟩
abbrev PHS_BSTAT_APPLIED : Fld := ⟨PHS_BSTAT, 2, 1⟩
abbrev PHS_BSTAT_WRITE_REFUSED : Fld := ⟨PHS_BSTAT, 1, 1⟩
abbrev PHS_BSTAT_RUN : Fld := ⟨PHS_BSTAT, 0, 1⟩
abbrev PHS_CMD_HW_RESET : Fld := ⟨PHS_CMD, 4, 4⟩
abbrev PHS_CMD_FORCE_SEARCH : Fld := ⟨PHS_CMD, 0, 4⟩
abbrev PHS_CFG_EN (n : Nat) : Fld := ⟨PHS_CFG n, 31, 1⟩
abbrev PHS_CFG_POLICY (n : Nat) : Fld := ⟨PHS_CFG n, 26, 2⟩
abbrev PHS_CFG_EDGE (n : Nat) : Fld := ⟨PHS_CFG n, 24, 2⟩
abbrev PHS_CFG_GLITCH (n : Nat) : Fld := ⟨PHS_CFG n, 12, 10⟩
abbrev PHS_CFG_KIND (n : Nat) : Fld := ⟨PHS_CFG n, 0, 2⟩
abbrev PHS_GEOM_GAP (n : Nat) : Fld := ⟨PHS_GEOM n, 30, 2⟩
abbrev PHS_GEOM_DIR_INV (n : Nat) : Fld := ⟨PHS_GEOM n, 29, 1⟩
abbrev PHS_GEOM_COUNT (n : Nat) : Fld := ⟨PHS_GEOM n, 0, 21⟩
abbrev PHS_BAND_HIGH (n : Nat) : Fld := ⟨PHS_BAND n, 16, 16⟩
abbrev PHS_BAND_LOW (n : Nat) : Fld := ⟨PHS_BAND n, 0, 16⟩
abbrev PHS_CORRTH_CORR_THRESH (n : Nat) : Fld := ⟨PHS_CORRTH n, 0, 24⟩
abbrev PHS_LOCKTH_LOCK_COUNT (n : Nat) : Fld := ⟨PHS_LOCKTH n, 28, 4⟩
abbrev PHS_LOCKTH_LOCK_THRESH (n : Nat) : Fld := ⟨PHS_LOCKTH n, 0, 24⟩
abbrev PHS_RELOCK_RELOCK_WIN (n : Nat) : Fld := ⟨PHS_RELOCK n, 0, 24⟩
abbrev PHS_SLEW_SLEW_MAX (n : Nat) : Fld := ⟨PHS_SLEW n, 0, 16⟩
abbrev PHS_HOLD_TOOTH_TMO (n : Nat) : Fld := ⟨PHS_HOLD n, 16, 16⟩
abbrev PHS_HOLD_HOLD_MAX (n : Nat) : Fld := ⟨PHS_HOLD n, 0, 16⟩
abbrev PHS_FALL_FALL_OFFSET (n : Nat) : Fld := ⟨PHS_FALL n, 0, 24⟩
abbrev PHS_IDXTOL_IDX_TOL (n : Nat) : Fld := ⟨PHS_IDXTOL n, 0, 16⟩
abbrev PHS_STATE_REVERSE (n : Nat) : Fld := ⟨PHS_STATE n, 7, 1⟩
abbrev PHS_STATE_VALID (n : Nat) : Fld := ⟨PHS_STATE n, 6, 1⟩
abbrev PHS_STATE_STATE (n : Nat) : Fld := ⟨PHS_STATE n, 0, 2⟩
abbrev PHS_POS_LO_COURSE_LO (n : Nat) : Fld := ⟨PHS_POS_LO n, 24, 8⟩
abbrev PHS_POS_LO_ANGLE (n : Nat) : Fld := ⟨PHS_POS_LO n, 0, 24⟩
abbrev PHS_POS_HI_COURSE (n : Nat) : Fld := ⟨PHS_POS_HI n, 0, 24⟩
abbrev PHS_ERR_ERR (n : Nat) : Fld := ⟨PHS_ERR n, 0, 24⟩
abbrev PHS_FLAGS_HOLD_EXPIRED (n : Nat) : Fld := ⟨PHS_FLAGS n, 7, 1⟩
abbrev PHS_FLAGS_LOCK_LOST (n : Nat) : Fld := ⟨PHS_FLAGS n, 6, 1⟩
abbrev PHS_FLAGS_MISS (n : Nat) : Fld := ⟨PHS_FLAGS n, 5, 1⟩
abbrev PHS_FLAGS_QERR (n : Nat) : Fld := ⟨PHS_FLAGS n, 4, 1⟩
abbrev PHS_FLAGS_IDX_ERR (n : Nat) : Fld := ⟨PHS_FLAGS n, 3, 1⟩
abbrev PHS_FLAGS_SLIP (n : Nat) : Fld := ⟨PHS_FLAGS n, 2, 1⟩
abbrev PHS_FLAGS_STEPPED (n : Nat) : Fld := ⟨PHS_FLAGS n, 1, 1⟩
abbrev PHS_FLAGS_REV_SEEN (n : Nat) : Fld := ⟨PHS_FLAGS n, 0, 1⟩
abbrev TMB_BSTAT_STAGED : Fld := ⟨TMB_BSTAT, 3, 1⟩
abbrev TMB_BSTAT_APPLIED : Fld := ⟨TMB_BSTAT, 2, 1⟩
abbrev TMB_BSTAT_WRITE_REFUSED : Fld := ⟨TMB_BSTAT, 1, 1⟩
abbrev TMB_BSTAT_RUN : Fld := ⟨TMB_BSTAT, 0, 1⟩
abbrev TMB_CTRL_PPSO_EN : Fld := ⟨TMB_CTRL, 4, 1⟩
abbrev TMB_CTRL_GM_PPS : Fld := ⟨TMB_CTRL, 3, 1⟩
abbrev TMB_CTRL_STEP_ALLOW : Fld := ⟨TMB_CTRL, 2, 1⟩
abbrev TMB_CTRL_SERVO : Fld := ⟨TMB_CTRL, 1, 1⟩
abbrev TMB_CMD_SNAP : Fld := ⟨TMB_CMD, 0, 1⟩
abbrev TMB_SNAP_LOC_FRAC_FRAC : Fld := ⟨TMB_SNAP_LOC_FRAC, 0, 16⟩
abbrev TMB_SNAP_DIS_FRAC_FRAC : Fld := ⟨TMB_SNAP_DIS_FRAC, 0, 16⟩
abbrev TMB_OFFSET_FRAC_FRAC : Fld := ⟨TMB_OFFSET_FRAC, 0, 16⟩
abbrev TMB_SLEW_SLEW_PPM : Fld := ⟨TMB_SLEW, 0, 9⟩
abbrev TMB_STATUS_PPS_MISS : Fld := ⟨TMB_STATUS, 7, 1⟩
abbrev TMB_STATUS_RATE_CLAMP : Fld := ⟨TMB_STATUS, 6, 1⟩
abbrev TMB_STATUS_ADJ_REFUSED : Fld := ⟨TMB_STATUS, 5, 1⟩
abbrev TMB_STATUS_STEP_DONE : Fld := ⟨TMB_STATUS, 4, 1⟩
abbrev TMB_STATUS_TIME_SET : Fld := ⟨TMB_STATUS, 3, 1⟩
abbrev TMB_STATUS_SLEWING : Fld := ⟨TMB_STATUS, 2, 1⟩
abbrev TMB_STATUS_SYNC : Fld := ⟨TMB_STATUS, 0, 2⟩
abbrev TMB_PPS_SEC_HI_SEC : Fld := ⟨TMB_PPS_SEC_HI, 0, 16⟩
abbrev TMB_PPSO_WIDTH_WIDTH : Fld := ⟨TMB_PPSO_WIDTH, 0, 19⟩
abbrev TMB_GPTP_CTRL_DOMAIN : Fld := ⟨TMB_GPTP_CTRL, 8, 8⟩
abbrev TMB_GPTP_CTRL_EXT_PORT_CFG : Fld := ⟨TMB_GPTP_CTRL, 2, 1⟩
abbrev TMB_GPTP_CTRL_MODE : Fld := ⟨TMB_GPTP_CTRL, 0, 2⟩
abbrev TMB_GPTP_PORTS_PORTS : Fld := ⟨TMB_GPTP_PORTS, 0, 22⟩
abbrev TMB_GPTP_PRIO_PRIORITY1 : Fld := ⟨TMB_GPTP_PRIO, 8, 8⟩
abbrev TMB_GPTP_PRIO_PRIORITY2 : Fld := ⟨TMB_GPTP_PRIO, 0, 8⟩
abbrev TMB_TC_CTRL_TC_UDP6 : Fld := ⟨TMB_TC_CTRL, 3, 1⟩
abbrev TMB_TC_CTRL_TC_UDP4 : Fld := ⟨TMB_TC_CTRL, 2, 1⟩
abbrev TMB_TC_CTRL_TC_L2 : Fld := ⟨TMB_TC_CTRL, 1, 1⟩
abbrev TMB_TC_CTRL_TC_EN : Fld := ⟨TMB_TC_CTRL, 0, 1⟩
abbrev ACT_BSTAT_STAGED : Fld := ⟨ACT_BSTAT, 3, 1⟩
abbrev ACT_BSTAT_APPLIED : Fld := ⟨ACT_BSTAT, 2, 1⟩
abbrev ACT_BSTAT_WRITE_REFUSED : Fld := ⟨ACT_BSTAT, 1, 1⟩
abbrev ACT_BSTAT_RUN : Fld := ⟨ACT_BSTAT, 0, 1⟩
abbrev ACT_CMD_OP : Fld := ⟨ACT_CMD, 28, 4⟩
abbrev ACT_CMD_INDEX : Fld := ⟨ACT_CMD, 0, 12⟩
abbrev ACT_STATUS_REPHASED : Fld := ⟨ACT_STATUS, 4, 1⟩
abbrev ACT_STATUS_CROWD : Fld := ⟨ACT_STATUS, 3, 1⟩
abbrev ACT_STATUS_LATE_SEEN : Fld := ⟨ACT_STATUS, 2, 1⟩
abbrev ACT_STATUS_ENTRY_BAD : Fld := ⟨ACT_STATUS, 1, 1⟩
abbrev ACT_STATUS_ENTRY_BUSY : Fld := ⟨ACT_STATUS, 0, 1⟩
abbrev ACT_ARMED_COUNT : Fld := ⟨ACT_ARMED, 0, 13⟩
abbrev ACT_LAST_LATE_INDEX : Fld := ⟨ACT_LAST_LATE, 0, 12⟩
abbrev ACT_E_STATE_LATE_START : Fld := ⟨ACT_E_STATE, 3, 1⟩
abbrev ACT_E_STATE_STATE : Fld := ⟨ACT_E_STATE, 0, 2⟩
abbrev SEC_STATE_HALF_EXCEEDED (e : Nat) : Fld := ⟨SEC_STATE e, 8, 1⟩
abbrev SEC_STATE_ROLE (e : Nat) : Fld := ⟨SEC_STATE e, 0, 2⟩
abbrev SEC_LOAD_PEAK (e : Nat) : Fld := ⟨SEC_LOAD e, 8, 8⟩
abbrev SEC_LOAD_LAST (e : Nat) : Fld := ⟨SEC_LOAD e, 0, 8⟩
abbrev SEC_QUEUE_DEPTH (e : Nat) : Fld := ⟨SEC_QUEUE e, 0, 9⟩
abbrev SEC_LAST_RECIPE_RECIPE (e : Nat) : Fld := ⟨SEC_LAST_RECIPE e, 0, 10⟩
abbrev SEC_CMD_HAND_BACK (e : Nat) : Fld := ⟨SEC_CMD e, 1, 1⟩
abbrev SEC_CMD_FORCE_TAKEOVER (e : Nat) : Fld := ⟨SEC_CMD e, 0, 1⟩
abbrev GWU_LAST_LIMIT_ROUTE (u : Nat) : Fld := ⟨GWU_LAST_LIMIT u, 0, 15⟩
abbrev CFD_BSTAT_STAGED (n : Nat) : Fld := ⟨CFD_BSTAT n, 3, 1⟩
abbrev CFD_BSTAT_APPLIED (n : Nat) : Fld := ⟨CFD_BSTAT n, 2, 1⟩
abbrev CFD_BSTAT_WRITE_REFUSED (n : Nat) : Fld := ⟨CFD_BSTAT n, 1, 1⟩
abbrev CFD_BSTAT_RUN (n : Nat) : Fld := ⟨CFD_BSTAT n, 0, 1⟩
abbrev CFD_MODE_PEX_EN (n : Nat) : Fld := ⟨CFD_MODE n, 15, 1⟩
abbrev CFD_MODE_FD_EN (n : Nat) : Fld := ⟨CFD_MODE n, 14, 1⟩
abbrev CFD_MODE_ONE_SHOT (n : Nat) : Fld := ⟨CFD_MODE n, 13, 1⟩
abbrev CFD_MODE_MODE (n : Nat) : Fld := ⟨CFD_MODE n, 0, 3⟩
abbrev CFD_NBT_NBRP (n : Nat) : Fld := ⟨CFD_NBT n, 24, 5⟩
abbrev CFD_NBT_NTSEG1 (n : Nat) : Fld := ⟨CFD_NBT n, 16, 8⟩
abbrev CFD_NBT_NTSEG2 (n : Nat) : Fld := ⟨CFD_NBT n, 8, 7⟩
abbrev CFD_NBT_NSJW (n : Nat) : Fld := ⟨CFD_NBT n, 0, 7⟩
abbrev CFD_DBT_DBRP (n : Nat) : Fld := ⟨CFD_DBT n, 24, 5⟩
abbrev CFD_DBT_DTSEG1 (n : Nat) : Fld := ⟨CFD_DBT n, 16, 5⟩
abbrev CFD_DBT_DTSEG2 (n : Nat) : Fld := ⟨CFD_DBT n, 8, 4⟩
abbrev CFD_DBT_DSJW (n : Nat) : Fld := ⟨CFD_DBT n, 0, 4⟩
abbrev CFD_TDC_TDC_EN (n : Nat) : Fld := ⟨CFD_TDC n, 31, 1⟩
abbrev CFD_TDC_TDC_FIXED (n : Nat) : Fld := ⟨CFD_TDC n, 30, 1⟩
abbrev CFD_TDC_TDCO (n : Nat) : Fld := ⟨CFD_TDC n, 8, 7⟩
abbrev CFD_TDC_TDCF (n : Nat) : Fld := ⟨CFD_TDC n, 0, 7⟩
abbrev CFD_TDC_VAL_SSP (n : Nat) : Fld := ⟨CFD_TDC_VAL n, 16, 7⟩
abbrev CFD_TDC_VAL_TDC_SAT (n : Nat) : Fld := ⟨CFD_TDC_VAL n, 7, 1⟩
abbrev CFD_TDC_VAL_TDCV (n : Nat) : Fld := ⟨CFD_TDC_VAL n, 0, 7⟩
abbrev CFD_ERRC_STATE (n : Nat) : Fld := ⟨CFD_ERRC n, 30, 2⟩
abbrev CFD_ERRC_TEC (n : Nat) : Fld := ⟨CFD_ERRC n, 16, 9⟩
abbrev CFD_ERRC_REC (n : Nat) : Fld := ⟨CFD_ERRC n, 0, 9⟩
abbrev CFD_RECOV_RMODE (n : Nat) : Fld := ⟨CFD_RECOV n, 24, 2⟩
abbrev CFD_RECOV_BO_LIMIT (n : Nat) : Fld := ⟨CFD_RECOV n, 16, 8⟩
abbrev CFD_RECOV_DELAY_MS (n : Nat) : Fld := ⟨CFD_RECOV n, 0, 16⟩
abbrev CFD_CMD_RESET_BO (n : Nat) : Fld := ⟨CFD_CMD n, 1, 1⟩
abbrev CFD_CMD_RECOVER (n : Nat) : Fld := ⟨CFD_CMD n, 0, 1⟩
abbrev CFD_CLASH_LIM_LIMIT (n : Nat) : Fld := ⟨CFD_CLASH_LIM n, 0, 8⟩
abbrev CFD_FLAGS_BO_FLUSH (n : Nat) : Fld := ⟨CFD_FLAGS n, 10, 1⟩
abbrev CFD_FLAGS_MB_BAD (n : Nat) : Fld := ⟨CFD_FLAGS n, 9, 1⟩
abbrev CFD_FLAGS_TIMING_BAD (n : Nat) : Fld := ⟨CFD_FLAGS n, 8, 1⟩
abbrev CFD_FLAGS_BO_LIMIT_HIT (n : Nat) : Fld := ⟨CFD_FLAGS n, 7, 1⟩
abbrev CFD_FLAGS_RXQ_LEVEL_HIT (n : Nat) : Fld := ⟨CFD_FLAGS n, 6, 1⟩
abbrev CFD_FLAGS_MTX_REF_MISS (n : Nat) : Fld := ⟨CFD_FLAGS n, 5, 1⟩
abbrev CFD_FLAGS_MTX_RESTART (n : Nat) : Fld := ⟨CFD_FLAGS n, 4, 1⟩
abbrev CFD_FLAGS_MTX_BAD (n : Nat) : Fld := ⟨CFD_FLAGS n, 3, 1⟩
abbrev CFD_FLAGS_LATE_START (n : Nat) : Fld := ⟨CFD_FLAGS n, 2, 1⟩
abbrev CFD_FLAGS_WAKE_SEEN (n : Nat) : Fld := ⟨CFD_FLAGS n, 1, 1⟩
abbrev CFD_FLAGS_PEX_SEEN (n : Nat) : Fld := ⟨CFD_FLAGS n, 0, 1⟩
abbrev CFD_MB_CMD_OP (n : Nat) : Fld := ⟨CFD_MB_CMD n, 28, 4⟩
abbrev CFD_MB_CMD_MB (n : Nat) : Fld := ⟨CFD_MB_CMD n, 0, 6⟩
abbrev CFD_RXQ_STATE_LEVEL (n : Nat) : Fld := ⟨CFD_RXQ_STATE n, 16, 8⟩
abbrev CFD_RXQ_STATE_PEAK (n : Nat) : Fld := ⟨CFD_RXQ_STATE n, 8, 8⟩
abbrev CFD_RXQ_STATE_DEPTH (n : Nat) : Fld := ⟨CFD_RXQ_STATE n, 0, 8⟩
abbrev CFD_GWQ_DEPTH_DEPTH (n : Nat) : Fld := ⟨CFD_GWQ_DEPTH n, 0, 6⟩
abbrev CFD_MTX_CMD_STOP (n : Nat) : Fld := ⟨CFD_MTX_CMD n, 1, 1⟩
abbrev CFD_MTX_CMD_ARM (n : Nat) : Fld := ⟨CFD_MTX_CMD n, 0, 1⟩
abbrev CFD_MTX_STATE_ACTIVE (n : Nat) : Fld := ⟨CFD_MTX_STATE n, 31, 1⟩
abbrev CFD_MTX_STATE_PENDING (n : Nat) : Fld := ⟨CFD_MTX_STATE n, 30, 1⟩
abbrev CFD_MTX_STATE_CYCLE (n : Nat) : Fld := ⟨CFD_MTX_STATE n, 16, 6⟩
abbrev CFD_MTX_STATE_WINDOW (n : Nat) : Fld := ⟨CFD_MTX_STATE n, 8, 5⟩
abbrev CFD_MTX_STATE_SRC (n : Nat) : Fld := ⟨CFD_MTX_STATE n, 0, 2⟩
abbrev CFD_MB_STAT_CLASH_RUN (n : Nat) (m : Nat) : Fld := ⟨CFD_MB_STAT n m, 24, 8⟩
abbrev CFD_MB_STAT_LOADED (n : Nat) (m : Nat) : Fld := ⟨CFD_MB_STAT n m, 11, 1⟩
abbrev CFD_MB_STAT_HELD (n : Nat) (m : Nat) : Fld := ⟨CFD_MB_STAT n m, 10, 1⟩
abbrev CFD_MB_STAT_CLASH (n : Nat) (m : Nat) : Fld := ⟨CFD_MB_STAT n m, 9, 1⟩
abbrev CFD_MB_STAT_CANCEL_LATE (n : Nat) (m : Nat) : Fld := ⟨CFD_MB_STAT n m, 8, 1⟩
abbrev CFD_MB_STAT_STATE (n : Nat) (m : Nat) : Fld := ⟨CFD_MB_STAT n m, 0, 4⟩
abbrev SLN_BSTAT_STAGED (n : Nat) : Fld := ⟨SLN_BSTAT n, 3, 1⟩
abbrev SLN_BSTAT_APPLIED (n : Nat) : Fld := ⟨SLN_BSTAT n, 2, 1⟩
abbrev SLN_BSTAT_WRITE_REFUSED (n : Nat) : Fld := ⟨SLN_BSTAT n, 1, 1⟩
abbrev SLN_BSTAT_RUN (n : Nat) : Fld := ⟨SLN_BSTAT n, 0, 1⟩
abbrev SLN_MODE_FLOW_OUT (n : Nat) : Fld := ⟨SLN_MODE n, 9, 1⟩
abbrev SLN_MODE_FLOW_IN (n : Nat) : Fld := ⟨SLN_MODE n, 8, 1⟩
abbrev SLN_MODE_ECHO (n : Nat) : Fld := ⟨SLN_MODE n, 7, 1⟩
abbrev SLN_MODE_INV (n : Nat) : Fld := ⟨SLN_MODE n, 6, 1⟩
abbrev SLN_MODE_KEEP_BAD (n : Nat) : Fld := ⟨SLN_MODE n, 5, 1⟩
abbrev SLN_MODE_FRAMED (n : Nat) : Fld := ⟨SLN_MODE n, 4, 1⟩
abbrev SLN_MODE_PERS (n : Nat) : Fld := ⟨SLN_MODE n, 0, 3⟩
abbrev SLN_BAUD_BAUD_DIV (n : Nat) : Fld := ⟨SLN_BAUD n, 0, 24⟩
abbrev SLN_FMT_SPI_MODE (n : Nat) : Fld := ⟨SLN_FMT n, 11, 2⟩
abbrev SLN_FMT_MSB_FIRST (n : Nat) : Fld := ⟨SLN_FMT n, 10, 1⟩
abbrev SLN_FMT_PARITY (n : Nat) : Fld := ⟨SLN_FMT n, 7, 3⟩
abbrev SLN_FMT_STOP (n : Nat) : Fld := ⟨SLN_FMT n, 5, 2⟩
abbrev SLN_FMT_WIDTH (n : Nat) : Fld := ⟨SLN_FMT n, 0, 5⟩
abbrev SLN_FRAME_MIN_LEN (n : Nat) : Fld := ⟨SLN_FRAME n, 16, 12⟩
abbrev SLN_FRAME_MAX_LEN (n : Nat) : Fld := ⟨SLN_FRAME n, 0, 12⟩
abbrev SLN_IDLE_FRAME_TMO (n : Nat) : Fld := ⟨SLN_IDLE n, 16, 16⟩
abbrev SLN_IDLE_IDLE_BITS (n : Nat) : Fld := ⟨SLN_IDLE n, 0, 16⟩
abbrev SLN_DE_DE_LEAD (n : Nat) : Fld := ⟨SLN_DE n, 16, 16⟩
abbrev SLN_DE_DE_LAG (n : Nat) : Fld := ⟨SLN_DE n, 0, 16⟩
abbrev SLN_SPI_SCK_DIV (n : Nat) : Fld := ⟨SLN_SPI n, 16, 16⟩
abbrev SLN_SPI_CS_LEAD (n : Nat) : Fld := ⟨SLN_SPI n, 8, 8⟩
abbrev SLN_SPI_CS_LAG (n : Nat) : Fld := ⟨SLN_SPI n, 0, 8⟩
abbrev SLN_SENT_SLOW (n : Nat) : Fld := ⟨SLN_SENT n, 15, 1⟩
abbrev SLN_SENT_CRC_LEGACY (n : Nat) : Fld := ⟨SLN_SENT n, 14, 1⟩
abbrev SLN_SENT_PAUSE (n : Nat) : Fld := ⟨SLN_SENT n, 13, 1⟩
abbrev SLN_SENT_NIBBLES (n : Nat) : Fld := ⟨SLN_SENT n, 10, 3⟩
abbrev SLN_SENT_TICK (n : Nat) : Fld := ⟨SLN_SENT n, 0, 10⟩
abbrev SLN_CRC_POLY (n : Nat) : Fld := ⟨SLN_CRC n, 16, 16⟩
abbrev SLN_CRC_INIT (n : Nat) : Fld := ⟨SLN_CRC n, 0, 16⟩
abbrev SLN_CRC_CHK_RESIDUE (n : Nat) : Fld := ⟨SLN_CRC_CHK n, 16, 16⟩
abbrev SLN_CRC_CHK_REFLECT (n : Nat) : Fld := ⟨SLN_CRC_CHK n, 2, 1⟩
abbrev SLN_CRC_CHK_CRC_W (n : Nat) : Fld := ⟨SLN_CRC_CHK n, 0, 2⟩
abbrev SLN_FLOW_HIGH (n : Nat) : Fld := ⟨SLN_FLOW n, 16, 10⟩
abbrev SLN_FLOW_LOW (n : Nat) : Fld := ⟨SLN_FLOW n, 0, 10⟩
abbrev SLN_CHAIN_CHAIN_EN (n : Nat) (k : Nat) : Fld := ⟨SLN_CHAIN n k, 15, 1⟩
abbrev SLN_CHAIN_ROUTE (n : Nat) (k : Nat) : Fld := ⟨SLN_CHAIN n k, 0, 15⟩
abbrev SLN_LIN_CTRL_BREAK_BITS (n : Nat) : Fld := ⟨SLN_LIN_CTRL n, 8, 8⟩
abbrev SLN_LIN_CTRL_RUN (n : Nat) : Fld := ⟨SLN_LIN_CTRL n, 2, 1⟩
abbrev SLN_LIN_CTRL_SCHED (n : Nat) : Fld := ⟨SLN_LIN_CTRL n, 0, 2⟩
abbrev SLN_CMD_SM_RESET (n : Nat) : Fld := ⟨SLN_CMD n, 2, 1⟩
abbrev SLN_CMD_TX_FLUSH (n : Nat) : Fld := ⟨SLN_CMD n, 1, 1⟩
abbrev SLN_CMD_RX_FLUSH (n : Nat) : Fld := ⟨SLN_CMD n, 0, 1⟩
abbrev SLN_STATUS_RTS (n : Nat) : Fld := ⟨SLN_STATUS n, 16, 1⟩
abbrev SLN_STATUS_CTS (n : Nat) : Fld := ⟨SLN_STATUS n, 15, 1⟩
abbrev SLN_STATUS_TIMING_BAD (n : Nat) : Fld := ⟨SLN_STATUS n, 7, 1⟩
abbrev SLN_STATUS_RX_LEVEL_HIT (n : Nat) : Fld := ⟨SLN_STATUS n, 6, 1⟩
abbrev SLN_STATUS_LONG_SEEN (n : Nat) : Fld := ⟨SLN_STATUS n, 5, 1⟩
abbrev SLN_STATUS_SHORT_SEEN (n : Nat) : Fld := ⟨SLN_STATUS n, 4, 1⟩
abbrev SLN_STATUS_BAD_SEEN (n : Nat) : Fld := ⟨SLN_STATUS n, 3, 1⟩
abbrev SLN_STATUS_TX_FULL_WRITE (n : Nat) : Fld := ⟨SLN_STATUS n, 2, 1⟩
abbrev SLN_STATUS_UNDERRUN_SEEN (n : Nat) : Fld := ⟨SLN_STATUS n, 1, 1⟩
abbrev SLN_STATUS_NORESP_SEEN (n : Nat) : Fld := ⟨SLN_STATUS n, 0, 1⟩
abbrev SLN_SM_STATE_STATE (n : Nat) : Fld := ⟨SLN_SM_STATE n, 16, 6⟩
abbrev SLN_SM_STATE_COUNT (n : Nat) : Fld := ⟨SLN_SM_STATE n, 0, 16⟩
abbrev SLN_TBL_IDX_IDX (n : Nat) : Fld := ⟨SLN_TBL_IDX n, 0, 11⟩
abbrev SLN_RX_DEPTH_PEAK (n : Nat) : Fld := ⟨SLN_RX_DEPTH n, 16, 10⟩
abbrev SLN_RX_DEPTH_DEPTH (n : Nat) : Fld := ⟨SLN_RX_DEPTH n, 0, 10⟩
abbrev SLN_TX_DEPTH_DEPTH (n : Nat) : Fld := ⟨SLN_TX_DEPTH n, 0, 10⟩
abbrev DSC_BSTAT_STAGED (b : Nat) : Fld := ⟨DSC_BSTAT b, 3, 1⟩
abbrev DSC_BSTAT_APPLIED (b : Nat) : Fld := ⟨DSC_BSTAT b, 2, 1⟩
abbrev DSC_BSTAT_WRITE_REFUSED (b : Nat) : Fld := ⟨DSC_BSTAT b, 1, 1⟩
abbrev DSC_BSTAT_RUN (b : Nat) : Fld := ⟨DSC_BSTAT b, 0, 1⟩
abbrev DSC_DIR_INV (b : Nat) : Fld := ⟨DSC_DIR b, 16, 8⟩
abbrev DSC_DIR_OD (b : Nat) : Fld := ⟨DSC_DIR b, 8, 8⟩
abbrev DSC_DIR_DIR (b : Nat) : Fld := ⟨DSC_DIR b, 0, 8⟩
abbrev DSC_SAFE_SAFE (b : Nat) : Fld := ⟨DSC_SAFE b, 0, 16⟩
abbrev DSC_DEB_UNIT_DEB_UNIT (b : Nat) : Fld := ⟨DSC_DEB_UNIT b, 0, 2⟩
abbrev DSC_EDGE_CFG_RAW_SAMPLE (b : Nat) : Fld := ⟨DSC_EDGE_CFG b, 16, 1⟩
abbrev DSC_EDGE_CFG_FALL_EN (b : Nat) : Fld := ⟨DSC_EDGE_CFG b, 8, 8⟩
abbrev DSC_EDGE_CFG_RISE_EN (b : Nat) : Fld := ⟨DSC_EDGE_CFG b, 0, 8⟩
abbrev DSC_LEVEL_RAW (b : Nat) : Fld := ⟨DSC_LEVEL b, 8, 8⟩
abbrev DSC_LEVEL_LEVEL (b : Nat) : Fld := ⟨DSC_LEVEL b, 0, 8⟩
abbrev DSC_OUT_MODE_OUT_PAGE_EN (b : Nat) : Fld := ⟨DSC_OUT_MODE b, 19, 1⟩
abbrev DSC_OUT_MODE_OUT_PAGE (b : Nat) : Fld := ⟨DSC_OUT_MODE b, 16, 3⟩
abbrev DSC_OUT_MODE_FROM_CELL (b : Nat) : Fld := ⟨DSC_OUT_MODE b, 8, 8⟩
abbrev DSC_OUT_MODE_LATCHED (b : Nat) : Fld := ⟨DSC_OUT_MODE b, 0, 8⟩
abbrev DSC_OUT_STAGE_STAGE (b : Nat) : Fld := ⟨DSC_OUT_STAGE b, 0, 8⟩
abbrev DSC_OUT_NOW_SAFE_ACTIVE (b : Nat) : Fld := ⟨DSC_OUT_NOW b, 8, 8⟩
abbrev DSC_OUT_NOW_DRIVEN (b : Nat) : Fld := ⟨DSC_OUT_NOW b, 0, 8⟩
abbrev DSC_FLAGS_SRC_BAD (b : Nat) : Fld := ⟨DSC_FLAGS b, 0, 1⟩
abbrev DSC_SAMPLE_CELL_CELL (b : Nat) : Fld := ⟨DSC_SAMPLE_CELL b, 0, 17⟩
abbrev DSC_ECELL_CELL (b : Nat) (l : Nat) : Fld := ⟨DSC_ECELL b l, 0, 17⟩
abbrev DSC_SRC_BIT (b : Nat) (l : Nat) : Fld := ⟨DSC_SRC b l, 24, 5⟩
abbrev DSC_SRC_CELL (b : Nat) (l : Nat) : Fld := ⟨DSC_SRC b l, 0, 17⟩
abbrev EMC_BSTAT_STAGED (m : Nat) : Fld := ⟨EMC_BSTAT m, 3, 1⟩
abbrev EMC_BSTAT_APPLIED (m : Nat) : Fld := ⟨EMC_BSTAT m, 2, 1⟩
abbrev EMC_BSTAT_WRITE_REFUSED (m : Nat) : Fld := ⟨EMC_BSTAT m, 1, 1⟩
abbrev EMC_BSTAT_RUN (m : Nat) : Fld := ⟨EMC_BSTAT m, 0, 1⟩
abbrev EMC_MODE_WAKE_KEEP (m : Nat) : Fld := ⟨EMC_MODE m, 9, 1⟩
abbrev EMC_MODE_WAKE_RUN (m : Nat) : Fld := ⟨EMC_MODE m, 8, 1⟩
abbrev EMC_MODE_EEE_EN (m : Nat) : Fld := ⟨EMC_MODE m, 7, 1⟩
abbrev EMC_MODE_AN_EN (m : Nat) : Fld := ⟨EMC_MODE m, 6, 1⟩
abbrev EMC_MODE_IF (m : Nat) : Fld := ⟨EMC_MODE m, 4, 2⟩
abbrev EMC_MODE_MODE (m : Nat) : Fld := ⟨EMC_MODE m, 0, 3⟩
abbrev EMC_LINK_UP (m : Nat) : Fld := ⟨EMC_LINK m, 31, 1⟩
abbrev EMC_LINK_LPI_TX (m : Nat) : Fld := ⟨EMC_LINK m, 30, 1⟩
abbrev EMC_LINK_LPI_RX (m : Nat) : Fld := ⟨EMC_LINK m, 29, 1⟩
abbrev EMC_LINK_SPEED (m : Nat) : Fld := ⟨EMC_LINK m, 24, 4⟩
abbrev EMC_EEE_TW (m : Nat) : Fld := ⟨EMC_EEE m, 16, 16⟩
abbrev EMC_EEE_IDLE (m : Nat) : Fld := ⟨EMC_EEE m, 0, 16⟩
abbrev EMC_WAKE_EN_EN (m : Nat) : Fld := ⟨EMC_WAKE_EN m, 0, 16⟩
abbrev EMC_FLAGS_LINK_CHG (m : Nat) : Fld := ⟨EMC_FLAGS m, 2, 1⟩
abbrev EMC_FLAGS_HDX_SEEN (m : Nat) : Fld := ⟨EMC_FLAGS m, 1, 1⟩
abbrev EMC_FLAGS_WAKE_SEEN (m : Nat) : Fld := ⟨EMC_FLAGS m, 0, 1⟩
abbrev EMC_WCRC_CRC (m : Nat) (k : Nat) : Fld := ⟨EMC_WCRC m k, 0, 16⟩
abbrev SWC_BSTAT_STAGED : Fld := ⟨SWC_BSTAT, 3, 1⟩
abbrev SWC_BSTAT_APPLIED : Fld := ⟨SWC_BSTAT, 2, 1⟩
abbrev SWC_BSTAT_WRITE_REFUSED : Fld := ⟨SWC_BSTAT, 1, 1⟩
abbrev SWC_BSTAT_RUN : Fld := ⟨SWC_BSTAT, 0, 1⟩
abbrev SWC_CMD_OP : Fld := ⟨SWC_CMD, 28, 4⟩
abbrev SWC_CMD_PORT : Fld := ⟨SWC_CMD, 16, 5⟩
abbrev SWC_CMD_QUEUES : Fld := ⟨SWC_CMD, 0, 8⟩
abbrev SWC_FLAGS_SALTERN_FULL : Fld := ⟨SWC_FLAGS, 1, 1⟩
abbrev SWC_PANS_MIN_FREE : Fld := ⟨SWC_PANS, 16, 16⟩
abbrev SWC_PANS_FREE : Fld := ⟨SWC_PANS, 0, 16⟩
abbrev SWC_GUARD_GUARD : Fld := ⟨SWC_GUARD, 0, 20⟩
abbrev SWC_G_LAST_LIMIT_ROUTE : Fld := ⟨SWC_G_LAST_LIMIT, 0, 15⟩
abbrev SWC_LIST_IDX_PENDING : Fld := ⟨SWC_LIST_IDX, 18, 1⟩
abbrev SWC_LIST_IDX_WORD : Fld := ⟨SWC_LIST_IDX, 16, 2⟩
abbrev SWC_LIST_IDX_IDX : Fld := ⟨SWC_LIST_IDX, 0, 15⟩
abbrev SWC_P_CFG_TS2_EN (p : Nat) : Fld := ⟨SWC_P_CFG p, 21, 1⟩
abbrev SWC_P_CFG_DEF_QUEUE (p : Nat) : Fld := ⟨SWC_P_CFG p, 18, 3⟩
abbrev SWC_P_CFG_MAX_LEN (p : Nat) : Fld := ⟨SWC_P_CFG p, 0, 14⟩
abbrev SWC_P_CT_CT_EGRESS (p : Nat) : Fld := ⟨SWC_P_CT p, 0, 24⟩
abbrev SWC_P_PCPMAP_MAP (p : Nat) : Fld := ⟨SWC_P_PCPMAP p, 0, 24⟩
abbrev SWC_P_STATUS_SPEED (p : Nat) : Fld := ⟨SWC_P_STATUS p, 28, 4⟩
abbrev SWC_P_STATUS_LINK (p : Nat) : Fld := ⟨SWC_P_STATUS p, 27, 1⟩
abbrev SWC_P_STATUS_LPI (p : Nat) : Fld := ⟨SWC_P_STATUS p, 26, 1⟩
abbrev SWC_P_STATUS_LIST_ACTIVE (p : Nat) : Fld := ⟨SWC_P_STATUS p, 25, 1⟩
abbrev SWC_P_STATUS_LIST_PENDING (p : Nat) : Fld := ⟨SWC_P_STATUS p, 24, 1⟩
abbrev SWC_P_STATUS_GUARDED (p : Nat) : Fld := ⟨SWC_P_STATUS p, 23, 1⟩
abbrev SWC_P_STATUS_LATE_START (p : Nat) : Fld := ⟨SWC_P_STATUS p, 2, 1⟩
abbrev SWC_P_STATUS_OVERRUN_SEEN (p : Nat) : Fld := ⟨SWC_P_STATUS p, 1, 1⟩
abbrev SWC_P_STATUS_TAKEOVER_DONE (p : Nat) : Fld := ⟨SWC_P_STATUS p, 0, 1⟩
abbrev SWC_P_LIST_CMD_STOP (p : Nat) : Fld := ⟨SWC_P_LIST_CMD p, 1, 1⟩
abbrev SWC_P_LIST_CMD_ARM (p : Nat) : Fld := ⟨SWC_P_LIST_CMD p, 0, 1⟩
abbrev SWC_P_LIST_STATE_ENTRY (p : Nat) : Fld := ⟨SWC_P_LIST_STATE p, 8, 8⟩
abbrev SWC_P_LIST_STATE_GATES (p : Nat) : Fld := ⟨SWC_P_LIST_STATE p, 0, 8⟩
abbrev SWC_P_SAMPLE_SAMPLE_US (p : Nat) : Fld := ⟨SWC_P_SAMPLE p, 16, 10⟩
abbrev SWC_P_SAMPLE_WINDOW (p : Nat) : Fld := ⟨SWC_P_SAMPLE p, 0, 16⟩
abbrev SWC_P_BIN_BIN (p : Nat) : Fld := ⟨SWC_P_BIN p, 0, 16⟩
abbrev SWC_P_TS_POP_VALID (p : Nat) : Fld := ⟨SWC_P_TS_POP p, 31, 1⟩
abbrev SWC_P_TS_POP_GAP (p : Nat) : Fld := ⟨SWC_P_TS_POP p, 30, 1⟩
abbrev SWC_P_TS_POP_MSGTYPE (p : Nat) : Fld := ⟨SWC_P_TS_POP p, 16, 4⟩
abbrev SWC_P_TS_POP_SEQID (p : Nat) : Fld := ⟨SWC_P_TS_POP p, 0, 16⟩
abbrev SWC_Q_CFG_WEIGHT (p : Nat) (q : Nat) : Fld := ⟨SWC_Q_CFG p q, 16, 16⟩
abbrev SWC_Q_CFG_CBS_EN (p : Nat) (q : Nat) : Fld := ⟨SWC_Q_CFG p q, 0, 1⟩
abbrev SWC_Q_LIMITS_HARD_LIMIT (p : Nat) (q : Nat) : Fld := ⟨SWC_Q_LIMITS p q, 16, 16⟩
abbrev SWC_Q_LIMITS_MARK_TH (p : Nat) (q : Nat) : Fld := ⟨SWC_Q_LIMITS p q, 0, 16⟩
abbrev SWC_Q_DEPTH_DEPTH (p : Nat) (q : Nat) : Fld := ⟨SWC_Q_DEPTH p q, 0, 16⟩
abbrev SWC_Q_LAST_DEPTH_DEPTH (p : Nat) (q : Nat) : Fld := ⟨SWC_Q_LAST_DEPTH p q, 0, 16⟩
abbrev SWC_Q_DEPTH_MINMAX_MAX (p : Nat) (q : Nat) : Fld := ⟨SWC_Q_DEPTH_MINMAX p q, 16, 16⟩
abbrev SWC_Q_DEPTH_MINMAX_MIN (p : Nat) (q : Nat) : Fld := ⟨SWC_Q_DEPTH_MINMAX p q, 0, 16⟩
abbrev SWC_Q_DEPTH_MEAN_MEAN (p : Nat) (q : Nat) : Fld := ⟨SWC_Q_DEPTH_MEAN p q, 0, 16⟩
abbrev SWC_Q_HIST_BIN_HI (p : Nat) (q : Nat) (j : Nat) : Fld := ⟨SWC_Q_HIST p q j, 16, 16⟩
abbrev SWC_Q_HIST_BIN_LO (p : Nat) (q : Nat) (j : Nat) : Fld := ⟨SWC_Q_HIST p q j, 0, 16⟩
abbrev RNG_BSTAT_STAGED : Fld := ⟨RNG_BSTAT, 3, 1⟩
abbrev RNG_BSTAT_APPLIED : Fld := ⟨RNG_BSTAT, 2, 1⟩
abbrev RNG_BSTAT_WRITE_REFUSED : Fld := ⟨RNG_BSTAT, 1, 1⟩
abbrev RNG_BSTAT_RUN : Fld := ⟨RNG_BSTAT, 0, 1⟩
abbrev RNG_CFG_ETYPE : Fld := ⟨RNG_CFG, 16, 16⟩
abbrev RNG_CFG_RATE25 : Fld := ⟨RNG_CFG, 15, 1⟩
abbrev RNG_CFG_MAX_HOPS : Fld := ⟨RNG_CFG, 8, 6⟩
abbrev RNG_CFG_RT_EN : Fld := ⟨RNG_CFG, 7, 1⟩
abbrev RNG_CFG_EN : Fld := ⟨RNG_CFG, 6, 1⟩
abbrev RNG_CFG_NODE : Fld := ⟨RNG_CFG, 0, 6⟩
abbrev RNG_TIMERS_AGE_MS : Fld := ⟨RNG_TIMERS, 24, 8⟩
abbrev RNG_TIMERS_SUP_MS : Fld := ⟨RNG_TIMERS, 0, 10⟩
abbrev RNG_STATE_RING : Fld := ⟨RNG_STATE, 30, 2⟩
abbrev RNG_STATE_LINK_B : Fld := ⟨RNG_STATE, 29, 1⟩
abbrev RNG_STATE_LINK_A : Fld := ⟨RNG_STATE, 28, 1⟩
abbrev RNG_STATE_RT_PRIMARY : Fld := ⟨RNG_STATE, 27, 1⟩
abbrev RNG_STATE_RT_STANDBY_OK : Fld := ⟨RNG_STATE, 26, 1⟩
abbrev RNG_STATE_GM_SELF : Fld := ⟨RNG_STATE, 25, 1⟩
abbrev RNG_STATE_BACKUP_SELF : Fld := ⟨RNG_STATE, 24, 1⟩
abbrev RNG_STATE_GM_NODE : Fld := ⟨RNG_STATE, 18, 6⟩
abbrev RNG_STATE_BACKUP_NODE : Fld := ⟨RNG_STATE, 12, 6⟩
abbrev RNG_STATE_FAULT_NODE : Fld := ⟨RNG_STATE, 6, 6⟩
abbrev RNG_STATE_FAULT_PEER : Fld := ⟨RNG_STATE, 0, 6⟩
abbrev RNG_FLAGS_DUP_NODE : Fld := ⟨RNG_FLAGS, 5, 1⟩
abbrev RNG_FLAGS_GM_TAKEOVER : Fld := ⟨RNG_FLAGS, 4, 1⟩
abbrev RNG_FLAGS_RT_SWITCHED : Fld := ⟨RNG_FLAGS, 3, 1⟩
abbrev RNG_FLAGS_RING_OPENED : Fld := ⟨RNG_FLAGS, 2, 1⟩
abbrev RNG_FLAGS_HOPS_SEEN : Fld := ⟨RNG_FLAGS, 1, 1⟩
abbrev RNG_FLAGS_BAD_TAG_SEEN : Fld := ⟨RNG_FLAGS, 0, 1⟩
abbrev RNG_CMD_RESUME : Fld := ⟨RNG_CMD, 0, 1⟩
abbrev RNG_SRC_IDX_SRC : Fld := ⟨RNG_SRC_IDX, 0, 6⟩
abbrev RNG_SRC_STATE_ACTIVE : Fld := ⟨RNG_SRC_STATE, 31, 1⟩
abbrev RNG_SRC_STATE_LAST_LANE : Fld := ⟨RNG_SRC_STATE, 30, 1⟩
abbrev RNG_SRC_STATE_HIGHEST : Fld := ⟨RNG_SRC_STATE, 0, 16⟩
abbrev PG_ID_OWNER (p : Nat) : Fld := ⟨PG_ID p, 31, 1⟩
abbrev PG_ID_PAGE (p : Nat) : Fld := ⟨PG_ID p, 0, 3⟩
abbrev PG_PATH_ACTIVE (p : Nat) : Fld := ⟨PG_PATH p, 8, 3⟩
abbrev PG_PATH_SECONDARY (p : Nat) : Fld := ⟨PG_PATH p, 4, 3⟩
abbrev PG_PATH_PRIMARY (p : Nat) : Fld := ⟨PG_PATH p, 0, 3⟩
abbrev PG_PATH_STATUS_PATH_REFUSED (p : Nat) : Fld := ⟨PG_PATH_STATUS p, 5, 1⟩
abbrev PG_PATH_STATUS_NO_PATH (p : Nat) : Fld := ⟨PG_PATH_STATUS p, 4, 1⟩
abbrev PG_PATH_STATUS_SWITCHED (p : Nat) : Fld := ⟨PG_PATH_STATUS p, 3, 1⟩
abbrev PG_PATH_STATUS_SEC_UP (p : Nat) : Fld := ⟨PG_PATH_STATUS p, 1, 1⟩
abbrev PG_PATH_STATUS_PRI_UP (p : Nat) : Fld := ⟨PG_PATH_STATUS p, 0, 1⟩
abbrev PG_HB_HB_MS (p : Nat) : Fld := ⟨PG_HB p, 0, 16⟩
abbrev PG_CMD_PATH_SEL (p : Nat) : Fld := ⟨PG_CMD p, 0, 3⟩
abbrev PG_OUTSTANDING_PEAK (p : Nat) : Fld := ⟨PG_OUTSTANDING p, 16, 6⟩
abbrev PG_OUTSTANDING_DEPTH (p : Nat) : Fld := ⟨PG_OUTSTANDING p, 0, 6⟩
abbrev EQ_CTRL_IE (p : Nat) (q : Nat) : Fld := ⟨EQ_CTRL p q, 16, 1⟩
abbrev EQ_CTRL_LEVEL (p : Nat) (q : Nat) : Fld := ⟨EQ_CTRL p q, 0, 10⟩
abbrev EQ_STATE_LEVEL_HIT (p : Nat) (q : Nat) : Fld := ⟨EQ_STATE p q, 16, 1⟩
abbrev EQ_STATE_DEPTH (p : Nat) (q : Nat) : Fld := ⟨EQ_STATE p q, 0, 11⟩
abbrev EQ_PEAK_PEAK (p : Nat) (q : Nat) : Fld := ⟨EQ_PEAK p q, 0, 11⟩
abbrev EQ_CMD_FLUSH (p : Nat) (q : Nat) : Fld := ⟨EQ_CMD p q, 0, 1⟩
abbrev PG_LRMW_ADDR_ADDR (p : Nat) : Fld := ⟨PG_LRMW_ADDR p, 2, 22⟩
abbrev PG_LRMW_CMD_GO (p : Nat) : Fld := ⟨PG_LRMW_CMD p, 0, 1⟩
abbrev PG_LRMW_STATUS_TIMEOUT (p : Nat) : Fld := ⟨PG_LRMW_STATUS p, 2, 1⟩
abbrev PG_LRMW_STATUS_DONE (p : Nat) : Fld := ⟨PG_LRMW_STATUS p, 1, 1⟩
abbrev PG_LRMW_STATUS_BUSY (p : Nat) : Fld := ⟨PG_LRMW_STATUS p, 0, 1⟩
abbrev LBB_BSTAT_STAGED : Fld := ⟨LBB_BSTAT, 3, 1⟩
abbrev LBB_BSTAT_APPLIED : Fld := ⟨LBB_BSTAT, 2, 1⟩
abbrev LBB_BSTAT_WRITE_REFUSED : Fld := ⟨LBB_BSTAT, 1, 1⟩
abbrev LBB_BSTAT_RUN : Fld := ⟨LBB_BSTAT, 0, 1⟩
abbrev LBB_CTRL_WAIT_TMO : Fld := ⟨LBB_CTRL, 16, 16⟩
abbrev LBB_CTRL_IN_ORDER : Fld := ⟨LBB_CTRL, 7, 1⟩
abbrev LBB_CTRL_IN_EN : Fld := ⟨LBB_CTRL, 6, 1⟩
abbrev LBB_CTRL_EN : Fld := ⟨LBB_CTRL, 5, 1⟩
abbrev LBB_POLL_POLL_US : Fld := ⟨LBB_POLL, 0, 10⟩
abbrev LBB_INT_CFG_POL : Fld := ⟨LBB_INT_CFG, 16, 16⟩
abbrev LBB_INT_CFG_EN : Fld := ⟨LBB_INT_CFG, 0, 16⟩
abbrev LBB_INT_LEVEL_ACTIVE : Fld := ⟨LBB_INT_LEVEL, 0, 16⟩
abbrev LBB_STATUS_TIMEOUT_SEEN : Fld := ⟨LBB_STATUS, 2, 1⟩
abbrev LBB_STATUS_RETRY_SEEN : Fld := ⟨LBB_STATUS, 1, 1⟩
abbrev LBB_STATUS_BUS_OWNED : Fld := ⟨LBB_STATUS, 0, 1⟩
abbrev LBB_IN_PAGES_PAGES : Fld := ⟨LBB_IN_PAGES, 0, 8⟩
abbrev LBB_INT_CELL_CELL_EN (l : Nat) : Fld := ⟨LBB_INT_CELL l, 31, 1⟩
abbrev LBB_INT_CELL_CELL (l : Nat) : Fld := ⟨LBB_INT_CELL l, 0, 17⟩
abbrev LBB_W_BASE_BASE (w : Nat) : Fld := ⟨LBB_W_BASE w, 20, 8⟩
abbrev LBB_W_CFG_PAGES (w : Nat) : Fld := ⟨LBB_W_CFG w, 16, 8⟩
abbrev LBB_W_CFG_PREFETCH (w : Nat) : Fld := ⟨LBB_W_CFG w, 3, 1⟩
abbrev LBB_W_CFG_ORDER (w : Nat) : Fld := ⟨LBB_W_CFG w, 2, 1⟩
abbrev LBB_W_CFG_ATOMIC_EN (w : Nat) : Fld := ⟨LBB_W_CFG w, 1, 1⟩
abbrev LBB_W_CFG_EN (w : Nat) : Fld := ⟨LBB_W_CFG w, 0, 1⟩
abbrev LBB_W_TIMING_SETUP (w : Nat) : Fld := ⟨LBB_W_TIMING w, 24, 8⟩
abbrev LBB_W_TIMING_STROBE (w : Nat) : Fld := ⟨LBB_W_TIMING w, 16, 8⟩
abbrev LBB_W_TIMING_HOLD (w : Nat) : Fld := ⟨LBB_W_TIMING w, 8, 8⟩
abbrev LBB_W_TIMING_PF_TMO (w : Nat) : Fld := ⟨LBB_W_TIMING w, 0, 8⟩
abbrev LBB_W_DISC_ADDR_VALID (w : Nat) (k : Nat) : Fld := ⟨LBB_W_DISC_ADDR w k, 31, 1⟩
abbrev LBB_W_DISC_ADDR_ADDR (w : Nat) (k : Nat) : Fld := ⟨LBB_W_DISC_ADDR w k, 2, 26⟩
abbrev CPH_BSTAT_STAGED : Fld := ⟨CPH_BSTAT, 3, 1⟩
abbrev CPH_BSTAT_APPLIED : Fld := ⟨CPH_BSTAT, 2, 1⟩
abbrev CPH_BSTAT_WRITE_REFUSED : Fld := ⟨CPH_BSTAT, 1, 1⟩
abbrev CPH_BSTAT_RUN : Fld := ⟨CPH_BSTAT, 0, 1⟩
abbrev CPH_KEY_CMD_OP : Fld := ⟨CPH_KEY_CMD, 28, 4⟩
abbrev CPH_KEY_CMD_SIZE : Fld := ⟨CPH_KEY_CMD, 16, 2⟩
abbrev CPH_KEY_CMD_SLOT : Fld := ⟨CPH_KEY_CMD, 0, 6⟩
abbrev CPH_FLAGS_HOLD_FULL : Fld := ⟨CPH_FLAGS, 2, 1⟩
abbrev CPH_FLAGS_KEY_BUSY : Fld := ⟨CPH_FLAGS, 1, 1⟩
abbrev CPH_FLAGS_KEY_BAD : Fld := ⟨CPH_FLAGS, 0, 1⟩
abbrev CPH_HOLD_PEAK : Fld := ⟨CPH_HOLD, 16, 13⟩
abbrev CPH_HOLD_USED : Fld := ⟨CPH_HOLD, 0, 13⟩
abbrev CPH_POL_IDX_POLICY : Fld := ⟨CPH_POL_IDX, 0, 10⟩
abbrev CPH_POL_GEN_NONE : Fld := ⟨CPH_POL_GEN, 16, 1⟩
abbrev CPH_POL_GEN_GEN : Fld := ⟨CPH_POL_GEN, 0, 16⟩
abbrev CPH_SLOT_STATE_GEN (k : Nat) : Fld := ⟨CPH_SLOT_STATE k, 16, 16⟩
abbrev CPH_SLOT_STATE_WARNED (k : Nat) : Fld := ⟨CPH_SLOT_STATE k, 11, 1⟩
abbrev CPH_SLOT_STATE_DRAINING (k : Nat) : Fld := ⟨CPH_SLOT_STATE k, 10, 1⟩
abbrev CPH_SLOT_STATE_SIZE (k : Nat) : Fld := ⟨CPH_SLOT_STATE k, 8, 2⟩
abbrev CPH_SLOT_STATE_STATE (k : Nat) : Fld := ⟨CPH_SLOT_STATE k, 0, 2⟩
abbrev CPH_SLOT_JOBS_ITEMS (k : Nat) : Fld := ⟨CPH_SLOT_JOBS k, 0, 16⟩
abbrev PCJ_CTRL_EQ (p : Nat) (r : Nat) : Fld := ⟨PCJ_CTRL p r, 16, 2⟩
abbrev PCJ_CTRL_EVT_EN (p : Nat) (r : Nat) : Fld := ⟨PCJ_CTRL p r, 15, 1⟩
abbrev PCJ_CTRL_SCRUB_ON_FAIL (p : Nat) (r : Nat) : Fld := ⟨PCJ_CTRL p r, 8, 1⟩
abbrev PCJ_CTRL_SIZE (p : Nat) (r : Nat) : Fld := ⟨PCJ_CTRL p r, 4, 4⟩
abbrev PCJ_CTRL_EN (p : Nat) (r : Nat) : Fld := ⟨PCJ_CTRL p r, 0, 1⟩
abbrev PCJ_PROD_INDEX (p : Nat) (r : Nat) : Fld := ⟨PCJ_PROD p r, 0, 12⟩
abbrev PCJ_CONS_INDEX (p : Nat) (r : Nat) : Fld := ⟨PCJ_CONS p r, 0, 12⟩
abbrev PCJ_DONE_INDEX (p : Nat) (r : Nat) : Fld := ⟨PCJ_DONE p r, 0, 12⟩
abbrev PCJ_STATUS_UNVERIFIED (p : Nat) (r : Nat) : Fld := ⟨PCJ_STATUS p r, 9, 1⟩
abbrev PCJ_STATUS_RING_ERR (p : Nat) (r : Nat) : Fld := ⟨PCJ_STATUS p r, 8, 1⟩
abbrev PCJ_STATUS_ERR (p : Nat) (r : Nat) : Fld := ⟨PCJ_STATUS p r, 4, 4⟩
abbrev PCJ_STATUS_STATE (p : Nat) (r : Nat) : Fld := ⟨PCJ_STATUS p r, 0, 2⟩
abbrev UPD_BSTAT_STAGED : Fld := ⟨UPD_BSTAT, 3, 1⟩
abbrev UPD_BSTAT_APPLIED : Fld := ⟨UPD_BSTAT, 2, 1⟩
abbrev UPD_BSTAT_WRITE_REFUSED : Fld := ⟨UPD_BSTAT, 1, 1⟩
abbrev UPD_BSTAT_RUN : Fld := ⟨UPD_BSTAT, 0, 1⟩
abbrev UPD_CMD_OP : Fld := ⟨UPD_CMD, 0, 4⟩
abbrev UPD_STATE_ERR_DETAIL : Fld := ⟨UPD_STATE, 24, 8⟩
abbrev UPD_STATE_ERR : Fld := ⟨UPD_STATE, 16, 8⟩
abbrev UPD_STATE_RELOAD_NEEDED : Fld := ⟨UPD_STATE, 8, 1⟩
abbrev UPD_STATE_STATE : Fld := ⟨UPD_STATE, 0, 4⟩
abbrev UPD_FLAGS_DB_IGNORED : Fld := ⟨UPD_FLAGS, 6, 1⟩
abbrev UPD_FLAGS_CMD_IGNORED : Fld := ⟨UPD_FLAGS, 5, 1⟩
abbrev UPD_FLAGS_STR_BUSY : Fld := ⟨UPD_FLAGS, 4, 1⟩
abbrev UPD_FLAGS_ACT_MISMATCH : Fld := ⟨UPD_FLAGS, 3, 1⟩
abbrev UPD_FLAGS_LATE_FALLBACK : Fld := ⟨UPD_FLAGS, 2, 1⟩
abbrev UPD_FLAGS_TRIAL_RESET : Fld := ⟨UPD_FLAGS, 1, 1⟩
abbrev UPD_FLAGS_ARCH_WRITTEN : Fld := ⟨UPD_FLAGS, 0, 1⟩
abbrev UPD_CTRL_AUTO_ACT : Fld := ⟨UPD_CTRL, 8, 1⟩
abbrev UPD_CTRL_FB_PT : Fld := ⟨UPD_CTRL, 6, 2⟩
abbrev UPD_CTRL_SLOT : Fld := ⟨UPD_CTRL, 0, 6⟩
abbrev UPD_PIECES_STORED : Fld := ⟨UPD_PIECES, 16, 12⟩
abbrev UPD_PIECES_TOTAL : Fld := ⟨UPD_PIECES, 0, 12⟩
abbrev UPD_PIECE_IDX_IDX : Fld := ⟨UPD_PIECE_IDX, 0, 12⟩
abbrev UPD_PIECE_LEN_LEN : Fld := ⟨UPD_PIECE_LEN, 0, 13⟩
abbrev UPD_PIECE_DB_RING : Fld := ⟨UPD_PIECE_DB, 0, 1⟩
abbrev UPD_PIECE_STATUS_RESULT : Fld := ⟨UPD_PIECE_STATUS, 0, 4⟩
abbrev UPD_BITMAP_IDX_WORD : Fld := ⟨UPD_BITMAP_IDX, 0, 7⟩
abbrev UPD_NEW_INFO_ROLLBACK : Fld := ⟨UPD_NEW_INFO, 16, 7⟩
abbrev UPD_NEW_INFO_SCHEMA : Fld := ⟨UPD_NEW_INFO, 0, 16⟩
abbrev UPD_FUSE_COUNT : Fld := ⟨UPD_FUSE, 0, 7⟩
abbrev UPD_BANK_RUNNING : Fld := ⟨UPD_BANK, 1, 1⟩
abbrev UPD_BANK_ACTIVE_BANK : Fld := ⟨UPD_BANK, 0, 1⟩
abbrev UPD_ARCH_VALID : Fld := ⟨UPD_ARCH, 31, 1⟩
abbrev UPD_ARCH_SCHEMA : Fld := ⟨UPD_ARCH, 0, 16⟩
abbrev UPD_ARCH_OFF_OFF : Fld := ⟨UPD_ARCH_OFF, 2, 18⟩
abbrev HLT_BSTAT_STAGED : Fld := ⟨HLT_BSTAT, 3, 1⟩
abbrev HLT_BSTAT_APPLIED : Fld := ⟨HLT_BSTAT, 2, 1⟩
abbrev HLT_BSTAT_WRITE_REFUSED : Fld := ⟨HLT_BSTAT, 1, 1⟩
abbrev HLT_BSTAT_RUN : Fld := ⟨HLT_BSTAT, 0, 1⟩
abbrev HLT_CMD_OP : Fld := ⟨HLT_CMD, 28, 4⟩
abbrev HLT_CMD_ITEM : Fld := ⟨HLT_CMD, 0, 20⟩
abbrev HLT_RESET_CAUSE_BOOTS : Fld := ⟨HLT_RESET_CAUSE, 24, 8⟩
abbrev HLT_RESET_CAUSE_OPT_FAIL : Fld := ⟨HLT_RESET_CAUSE, 5, 1⟩
abbrev HLT_RESET_CAUSE_COPY1_BAD : Fld := ⟨HLT_RESET_CAUSE, 4, 1⟩
abbrev HLT_RESET_CAUSE_COPY0_BAD : Fld := ⟨HLT_RESET_CAUSE, 3, 1⟩
abbrev HLT_RESET_CAUSE_OPT_COPY : Fld := ⟨HLT_RESET_CAUSE, 2, 1⟩
abbrev HLT_RESET_CAUSE_PIN : Fld := ⟨HLT_RESET_CAUSE, 1, 1⟩
abbrev HLT_RESET_CAUSE_POR : Fld := ⟨HLT_RESET_CAUSE, 0, 1⟩
abbrev HLT_STATUS_REPLACE : Fld := ⟨HLT_STATUS, 31, 1⟩
abbrev HLT_STATUS_DEGRADED : Fld := ⟨HLT_STATUS, 7, 1⟩
abbrev HLT_STATUS_SELFTEST_BUSY : Fld := ⟨HLT_STATUS, 6, 1⟩
abbrev HLT_STATUS_REASON : Fld := ⟨HLT_STATUS, 0, 6⟩
abbrev HLT_CTRL_LAST_THRESH : Fld := ⟨HLT_CTRL, 16, 8⟩
abbrev HLT_CTRL_HANDBACK_MANUAL : Fld := ⟨HLT_CTRL, 1, 1⟩
abbrev HLT_SCRUB_PERIOD_MIN : Fld := ⟨HLT_SCRUB, 0, 14⟩
abbrev HLT_OPT_STATUS_TARGET : Fld := ⟨HLT_OPT_STATUS, 8, 1⟩
abbrev HLT_OPT_STATUS_RESULT : Fld := ⟨HLT_OPT_STATUS, 0, 4⟩
abbrev HLT_RET_FLAGS_RET_UE : Fld := ⟨HLT_RET_FLAGS, 0, 1⟩

end Reg

end Sys2Proof.Machine
end

