-- ==== Sys2Proof/Machine/RegMap.lean ====
section
/-!
DEFINITION. The register map: for every register of the manual the write masks of its access codes and change
classes (R12, R16, Tables 0.6 and 0.7), the fields marked IMG (R58) and whether it is the low word of a 64-bit value
(R9), transcribed from the register tables. A bit under no mask is read-only or reserved.
-/

namespace Sys2Proof.Machine

/-- The boundary at which a staged B field is applied (R87). -/
inductive Bound where
  | none | frameEnd | epoch | course | cycle
  deriving DecidableEq, Repr

/-- One register, or one array of registers with its counts and strides, outermost first. -/
structure RegRow where
  name : String
  off : Nat
  dims : List (Nat × Nat) := []
  /-- RW fields of class L. -/
  rwL : Nat := 0
  /-- RW fields of class B. -/
  rwB : Nat := 0
  /-- RW fields of class F. -/
  rwF : Nat := 0
  w1c : Nat := 0
  rc : Nat := 0
  wo : Nat := 0
  /-- The fields marked IMG, as (msb, lsb). -/
  img : List (Nat × Nat) := []
  bound : Bound := .none
  /-- The register is the low word of a 64-bit value whose high word follows it (R9). -/
  pair : Bool := false
  deriving DecidableEq, Repr

/-- Does `d`, an offset from a row's first register, name one of its registers? -/
def inDims : List (Nat × Nat) → Nat → Bool
  | [], d => d == 0
  | (cnt, st) :: ds, d => st != 0 && decide (d / st < cnt) && inDims ds (d % st)

/-- The row of the register at offset `a`. -/
def findRow (rows : List RegRow) (a : Nat) : Option RegRow :=
  rows.find? fun r => decide (r.off ≤ a) && inDims r.dims (a - r.off)

/-- Table 0.4. -/
def rowsDev0x4 : List RegRow :=
  [ { name := "GEN_DEVICE_ID", off := 0x100000 },
    { name := "GEN_HWTYPE", off := 0x100004 },
    { name := "GEN_IDCODE", off := 0x100008 },
    { name := "GEN_ORDER", off := 0x10000c },
    { name := "GEN_UNIT_ID0", off := 0x100010 },
    { name := "GEN_UNIT_ID1", off := 0x100014 },
    { name := "GEN_UNIT_ID2", off := 0x100018 } ]

/-- Table 1.11. -/
def rowsDev1x11 : List RegRow :=
  [ { name := "GEN_REGION_FLOOR", off := 0x100100, rwL := 0xffff, img := [(15, 0)] },
    { name := "GEN_REGION_STEP", off := 0x100104 },
    { name := "GEN_REGION_IDLE", off := 0x100108, rwL := 0xffff, img := [(15, 0)] },
    { name := "GEN_MORTAR_STATE", off := 0x100110 },
    { name := "GEN_ML_CORR", off := 0x100120, dims := [(4, 0x8)], rc := 0xffffffff },
    { name := "GEN_ML_REPLAY", off := 0x100124, dims := [(4, 0x8)], rc := 0xffffffff },
    { name := "GEN_TEMP_CORE", off := 0x100140 },
    { name := "GEN_TEMP_PD0", off := 0x100144 },
    { name := "GEN_TEMP_PD1", off := 0x100148 },
    { name := "GEN_TEMP_WARN", off := 0x10014c, rwL := 0xffff },
    { name := "GEN_TEMP_FLAGS", off := 0x100150, w1c := 0x7 },
    { name := "GEN_ACCESS_ERR", off := 0x100158, w1c := 0xffff },
    { name := "GEN_ACCESS_LAST", off := 0x10015c },
    { name := "GEN_VIO_STATE", off := 0x100160 } ]

/-- Table 2.9. -/
def rowsDev2x9 : List RegRow :=
  [ { name := "STR_BSTAT", off := 0x1b0000, w1c := 0x6 },
    { name := "STR_CMD", off := 0x1b0004, wo := 0xf },
    { name := "STR_STATE", off := 0x1b0008 },
    { name := "STR_BOUNDARY", off := 0x1b000c, rwL := 0x33 },
    { name := "STR_BOUNDARY_VAL", off := 0x1b0010, rwL := 0xffffffff },
    { name := "STR_GEN", off := 0x1b0014 },
    { name := "STR_GEN_DRAIN", off := 0x1b0018 },
    { name := "STR_FLAGS", off := 0x1b001c, w1c := 0xf },
    { name := "STR_ACT_VERSION", off := 0x1b0020 },
    { name := "STR_PART_VERSION", off := 0x1b0024 },
    { name := "STR_ACT_SCHEMA", off := 0x1b0028 },
    { name := "STR_COMMIT_EPOCH", off := 0x1b002c },
    { name := "STR_UNIT_STOP", off := 0x1b0030, dims := [(8, 0x4)], rwL := 0xffffffff },
    { name := "STR_PIECE_OFF", off := 0x1b0050, rwL := 0x7fffff },
    { name := "STR_PIECE_LEN", off := 0x1b0054, rwL := 0x1fff },
    { name := "STR_PIECE_DB", off := 0x1b0058, wo := 0x1 },
    { name := "STR_LOAD_TIME", off := 0x1b005c },
    { name := "STR_PIECE", off := 0x1b1000, dims := [(1024, 0x4)], wo := 0xffffffff } ]

/-- Table 3.9. -/
def rowsDev3x9 : List RegRow :=
  [ { name := "SIG_BSTAT", off := 0x110000, w1c := 0x6 },
    { name := "SIG_CMD", off := 0x110004, wo := 0x1 },
    { name := "SIG_EPOCH", off := 0x110008 },
    { name := "SIG_COMMIT_TIME", off := 0x11000c },
    { name := "SIG_CADENCE", off := 0x110010, rwB := 0x3f33, img := [(13, 8), (5, 4), (1, 0)], bound := .epoch },
    { name := "SIG_PERIOD", off := 0x110014, rwB := 0xfffff, img := [(19, 0)], bound := .epoch },
    { name := "SIG_FALLBACK", off := 0x110018, rwB := 0xfffff, img := [(19, 0)], bound := .epoch },
    { name := "SIG_BOND_TMO", off := 0x11001c, rwL := 0xffff, img := [(15, 0)] },
    { name := "SIG_FLAGS", off := 0x110020, w1c := 0x3 },
    { name := "SIG_COMMIT_HOLD", off := 0x110024, rc := 0xffff0000 },
    { name := "SIG_MERGED", off := 0x110028, rc := 0xffffffff },
    { name := "SIG_BOND_DROP", off := 0x11002c, rc := 0xffffffff },
    { name := "SIG_RECLAIM_PINNED", off := 0x110030, rc := 0xffffffff },
    { name := "SIG_STALE_NOW", off := 0x110034 },
    { name := "SIG_PIN_ACTIVE", off := 0x110038 },
    { name := "SIG_PIN_EPOCH", off := 0x110040, dims := [(8, 0x4)] } ]

/-- Table 4.4. -/
def rowsDev4x4 : List RegRow :=
  [ { name := "PHS_BSTAT", off := 0x120000, w1c := 0x6 },
    { name := "PHS_CMD", off := 0x120004, wo := 0xff },
    { name := "PHS_CFG", off := 0x120100, dims := [(4, 0x80)], rwL := 0x8c000000, rwF := 0x33ff003, img := [(31, 31), (27, 26), (25, 24), (21, 12), (1, 0)] },
    { name := "PHS_GEOM", off := 0x120104, dims := [(4, 0x80)], rwF := 0xe01fffff, img := [(31, 30), (29, 29), (20, 0)] },
    { name := "PHS_SYN", off := 0x120108, dims := [(4, 0x80)], rwB := 0xffffffff, img := [(31, 0)], bound := .course },
    { name := "PHS_BAND", off := 0x12010c, dims := [(4, 0x80)], rwL := 0xffffffff, img := [(31, 16), (15, 0)] },
    { name := "PHS_CORRTH", off := 0x120110, dims := [(4, 0x80)], rwL := 0xffffff, img := [(23, 0)] },
    { name := "PHS_LOCKTH", off := 0x120114, dims := [(4, 0x80)], rwL := 0xf0ffffff, img := [(31, 28), (23, 0)] },
    { name := "PHS_RELOCK", off := 0x120118, dims := [(4, 0x80)], rwL := 0xffffff, img := [(23, 0)] },
    { name := "PHS_SLEW", off := 0x12011c, dims := [(4, 0x80)], rwL := 0xffff, img := [(15, 0)] },
    { name := "PHS_HOLD", off := 0x120120, dims := [(4, 0x80)], rwL := 0xffffffff, img := [(31, 16), (15, 0)] },
    { name := "PHS_FALL", off := 0x120124, dims := [(4, 0x80)], rwL := 0xffffff, img := [(23, 0)] },
    { name := "PHS_IDXTOL", off := 0x120128, dims := [(4, 0x80)], rwL := 0xffff, img := [(15, 0)] },
    { name := "PHS_STATE", off := 0x120140, dims := [(4, 0x80)] },
    { name := "PHS_POS_LO", off := 0x120144, dims := [(4, 0x80)], pair := true },
    { name := "PHS_POS_HI", off := 0x120148, dims := [(4, 0x80)] },
    { name := "PHS_HW_LO", off := 0x12014c, dims := [(4, 0x80)], pair := true },
    { name := "PHS_HW_HI", off := 0x120150, dims := [(4, 0x80)] },
    { name := "PHS_RATE", off := 0x120154, dims := [(4, 0x80)] },
    { name := "PHS_ERR", off := 0x120158, dims := [(4, 0x80)] },
    { name := "PHS_EDGE", off := 0x12015c, dims := [(4, 0x80)] },
    { name := "PHS_FLAGS", off := 0x120160, dims := [(4, 0x80)], w1c := 0xff },
    { name := "PHS_SLIPCNT", off := 0x120164, dims := [(4, 0x80)], rc := 0xffffffff },
    { name := "PHS_QERRCNT", off := 0x120168, dims := [(4, 0x80)], rc := 0xffffffff },
    { name := "PHS_STEPCNT", off := 0x12016c, dims := [(4, 0x80)], rc := 0xffffffff } ]

/-- Table 4.8. -/
def rowsDev4x8 : List RegRow :=
  [ { name := "TMB_BSTAT", off := 0x130000, w1c := 0x6 },
    { name := "TMB_CTRL", off := 0x130004, rwL := 0x1e, img := [(4, 4), (1, 1)] },
    { name := "TMB_CMD", off := 0x130008, wo := 0x1 },
    { name := "TMB_SNAP_LOC_LO", off := 0x130010, pair := true },
    { name := "TMB_SNAP_LOC_HI", off := 0x130014 },
    { name := "TMB_SNAP_LOC_FRAC", off := 0x130018 },
    { name := "TMB_SNAP_DIS_LO", off := 0x130020, pair := true },
    { name := "TMB_SNAP_DIS_HI", off := 0x130024 },
    { name := "TMB_SNAP_DIS_FRAC", off := 0x130028 },
    { name := "TMB_OFFSET_LO", off := 0x130030, pair := true },
    { name := "TMB_OFFSET_HI", off := 0x130034 },
    { name := "TMB_OFFSET_FRAC", off := 0x130038 },
    { name := "TMB_RATE", off := 0x13003c, rwL := 0xffffffff },
    { name := "TMB_ADJ_LO", off := 0x130040, wo := 0xffffffff, pair := true },
    { name := "TMB_ADJ_HI", off := 0x130044, wo := 0xffffffff },
    { name := "TMB_STEP_THRESH", off := 0x130048, rwL := 0xffffffff },
    { name := "TMB_SLEW", off := 0x13004c, rwL := 0x1ff },
    { name := "TMB_SLEW_LEFT_LO", off := 0x130050, pair := true },
    { name := "TMB_SLEW_LEFT_HI", off := 0x130054 },
    { name := "TMB_STATUS", off := 0x130058, w1c := 0xf0 },
    { name := "TMB_STEPS", off := 0x13005c, rc := 0xffffffff },
    { name := "TMB_PPS_SEC_LO", off := 0x130060, rwL := 0xffffffff, pair := true },
    { name := "TMB_PPS_SEC_HI", off := 0x130064, rwL := 0xffff },
    { name := "TMB_PPS_IN_TS", off := 0x130068 },
    { name := "TMB_PPSO_WIDTH", off := 0x13006c, rwL := 0x7ffff },
    { name := "TMB_GPTP_CTRL", off := 0x130070, rwF := 0xff07, img := [(15, 8), (2, 2), (1, 0)] },
    { name := "TMB_GPTP_PORTS", off := 0x130074, rwF := 0x3fffff, img := [(21, 0)] },
    { name := "TMB_GPTP_PRIO", off := 0x130078, rwF := 0xffff, img := [(15, 8), (7, 0)] },
    { name := "TMB_GM_ID_LO", off := 0x130080, pair := true },
    { name := "TMB_GM_ID_HI", off := 0x130084 },
    { name := "TMB_GPTP_OFS", off := 0x130088 },
    { name := "TMB_SYNC_LOSS", off := 0x13008c, rc := 0xffffffff },
    { name := "TMB_TC_CTRL", off := 0x130090, rwL := 0xf, img := [(3, 3), (2, 2), (1, 1), (0, 0)] } ]

/-- Table 5.4. -/
def rowsDev5x4 : List RegRow :=
  [ { name := "ACT_BSTAT", off := 0x140000, w1c := 0x6 },
    { name := "ACT_CMD", off := 0x140004, wo := 0xf0000fff },
    { name := "ACT_STATUS", off := 0x140008, w1c := 0x1f },
    { name := "ACT_ARMED", off := 0x14000c },
    { name := "ACT_LATE_CNT", off := 0x140010, rc := 0xffffffff },
    { name := "ACT_SKIP_CNT", off := 0x140014, rc := 0xffffffff },
    { name := "ACT_CROWD_CNT", off := 0x140018, rc := 0xffffffff },
    { name := "ACT_LAST_LATE", off := 0x14001c },
    { name := "ACT_E_CTRL", off := 0x140100, rwL := 0xffffffff },
    { name := "ACT_E_ANGLE", off := 0x140104, rwL := 0xffffffff },
    { name := "ACT_E_ARG0", off := 0x140108, rwL := 0xffffffff },
    { name := "ACT_E_ARG1", off := 0x14010c, rwL := 0xffffffff },
    { name := "ACT_E_PERIOD", off := 0x140110, rwL := 0xffffffff },
    { name := "ACT_E_PARAM", off := 0x140114, rwL := 0xffffffff },
    { name := "ACT_E_MASK", off := 0x140120, dims := [(8, 0x4)], rwL := 0xffffffff },
    { name := "ACT_E_STATE", off := 0x140140 },
    { name := "ACT_E_LAST", off := 0x140144 },
    { name := "ACT_E_COUNT", off := 0x140148 },
    { name := "ACT_GROUP", off := 0x141000, dims := [(64, 0x20), (8, 0x4)], rwB := 0xffffffff, img := [(31, 0)], bound := .epoch } ]

/-- Table 9.7. -/
def rowsDev9x7 : List RegRow :=
  [ { name := "SWC_BSTAT", off := 0x150000, w1c := 0x6 },
    { name := "SWC_CMD", off := 0x150004, wo := 0xf01f00ff },
    { name := "SWC_FLAGS", off := 0x150008, w1c := 0x2 },
    { name := "SWC_PANS", off := 0x15000c, rc := 0xffff0000 },
    { name := "SWC_GUARD", off := 0x150010, rwF := 0xfffff, img := [(19, 0)] },
    { name := "SWC_G_LIMIT_DROP", off := 0x150020, rc := 0xffffffff },
    { name := "SWC_G_AUTH_REJECT", off := 0x150024, rc := 0xffffffff },
    { name := "SWC_G_CHAIN_LONG", off := 0x150028, rc := 0xffffffff },
    { name := "SWC_G_BADREC", off := 0x15002c, rc := 0xffffffff },
    { name := "SWC_G_SEQGAP", off := 0x150030, rc := 0xffffffff },
    { name := "SWC_G_SHORT", off := 0x150034, rc := 0xffffffff },
    { name := "SWC_G_LAST_LIMIT", off := 0x150038 },
    { name := "SWC_LIST_IDX", off := 0x150100, rwL := 0x77fff },
    { name := "SWC_LIST_DATA", off := 0x150104 } ]

/-- Table 9.8. -/
def rowsDev9x8 : List RegRow :=
  [ { name := "SWC_P_CFG", off := 0x151000, dims := [(24, 0x100)], rwL := 0x200000, rwB := 0x1c3fff, img := [(21, 21), (20, 18), (13, 0)], bound := .frameEnd },
    { name := "SWC_P_CT", off := 0x151004, dims := [(24, 0x100)], rwL := 0xffffff, img := [(23, 0)] },
    { name := "SWC_P_PCPMAP", off := 0x151008, dims := [(24, 0x100)], rwB := 0xffffff, img := [(23, 0)], bound := .frameEnd },
    { name := "SWC_P_STATUS", off := 0x15100c, dims := [(24, 0x100)], w1c := 0x7 },
    { name := "SWC_P_LIST_CMD", off := 0x151010, dims := [(24, 0x100)], wo := 0x3 },
    { name := "SWC_P_LIST_STATE", off := 0x151014, dims := [(24, 0x100)] },
    { name := "SWC_P_LIST_CYCLES", off := 0x151018, dims := [(24, 0x100)] },
    { name := "SWC_P_SAMPLE", off := 0x15101c, dims := [(24, 0x100)], rwL := 0x3ffffff, img := [(25, 16), (15, 0)] },
    { name := "SWC_P_BIN", off := 0x151020, dims := [(24, 0x100)], rwL := 0xffff, img := [(15, 0)] },
    { name := "SWC_P_RX_FRAMES_LO", off := 0x151040, dims := [(24, 0x100)], pair := true },
    { name := "SWC_P_RX_FRAMES_HI", off := 0x151044, dims := [(24, 0x100)] },
    { name := "SWC_P_RX_BYTES_LO", off := 0x151048, dims := [(24, 0x100)], pair := true },
    { name := "SWC_P_RX_BYTES_HI", off := 0x15104c, dims := [(24, 0x100)] },
    { name := "SWC_P_TX_FRAMES_LO", off := 0x151050, dims := [(24, 0x100)], pair := true },
    { name := "SWC_P_TX_FRAMES_HI", off := 0x151054, dims := [(24, 0x100)] },
    { name := "SWC_P_TX_BYTES_LO", off := 0x151058, dims := [(24, 0x100)], pair := true },
    { name := "SWC_P_TX_BYTES_HI", off := 0x15105c, dims := [(24, 0x100)] },
    { name := "SWC_P_RUNT", off := 0x151060, dims := [(24, 0x100)], rc := 0xffffffff },
    { name := "SWC_P_GIANT", off := 0x151064, dims := [(24, 0x100)], rc := 0xffffffff },
    { name := "SWC_P_FCS_ERR", off := 0x151068, dims := [(24, 0x100)], rc := 0xffffffff },
    { name := "SWC_P_CT_BAD", off := 0x15106c, dims := [(24, 0x100)], rc := 0xffffffff },
    { name := "SWC_P_NO_ROUTE", off := 0x151070, dims := [(24, 0x100)], rc := 0xffffffff },
    { name := "SWC_P_FILTER_DROP", off := 0x151074, dims := [(24, 0x100)], rc := 0xffffffff },
    { name := "SWC_P_TAIL_DROP", off := 0x151078, dims := [(24, 0x100)], rc := 0xffffffff },
    { name := "SWC_P_FLUSHED", off := 0x15107c, dims := [(24, 0x100)], rc := 0xffffffff },
    { name := "SWC_P_GATE_OVERRUN", off := 0x151080, dims := [(24, 0x100)], rc := 0xffffffff },
    { name := "SWC_P_GUARD_HOLD", off := 0x151084, dims := [(24, 0x100)], rc := 0xffffffff },
    { name := "SWC_P_ECN_MARKED", off := 0x151088, dims := [(24, 0x100)], rc := 0xffffffff },
    { name := "SWC_P_CN_MARKED", off := 0x15108c, dims := [(24, 0x100)], rc := 0xffffffff },
    { name := "SWC_P_TS_LOST", off := 0x151090, dims := [(24, 0x100)], rc := 0xffffffff },
    { name := "SWC_P_LIMIT_DROP", off := 0x151098, dims := [(24, 0x100)], rc := 0xffffffff },
    { name := "SWC_P_CT_FRAMES", off := 0x151094, dims := [(24, 0x100)] },
    { name := "SWC_P_TS_POP", off := 0x1510a0, dims := [(24, 0x100)], rc := 0xc00fffff },
    { name := "SWC_P_TS_LO", off := 0x1510a4, dims := [(24, 0x100)], pair := true },
    { name := "SWC_P_TS_HI", off := 0x1510a8, dims := [(24, 0x100)] } ]

/-- Table 9.9. -/
def rowsDev9x9 : List RegRow :=
  [ { name := "SWC_Q_CFG", off := 0x153000, dims := [(192, 0x60)], rwL := 0xffff0001, img := [(31, 16), (0, 0)] },
    { name := "SWC_Q_IDLESLOPE", off := 0x153004, dims := [(192, 0x60)], rwL := 0xffffffff, img := [(31, 0)] },
    { name := "SWC_Q_CREDIT", off := 0x153008, dims := [(192, 0x60)] },
    { name := "SWC_Q_LIMITS", off := 0x15300c, dims := [(192, 0x60)], rwL := 0xffffffff, img := [(31, 16), (15, 0)] },
    { name := "SWC_Q_DEPTH", off := 0x153010, dims := [(192, 0x60)] },
    { name := "SWC_Q_LAST_DEPTH", off := 0x153014, dims := [(192, 0x60)] },
    { name := "SWC_Q_LAST_DELAY", off := 0x153018, dims := [(192, 0x60)] },
    { name := "SWC_Q_DEPTH_MINMAX", off := 0x15301c, dims := [(192, 0x60)] },
    { name := "SWC_Q_DEPTH_MEAN", off := 0x153020, dims := [(192, 0x60)] },
    { name := "SWC_Q_DELAY_MIN", off := 0x153024, dims := [(192, 0x60)] },
    { name := "SWC_Q_DELAY_MAX", off := 0x153028, dims := [(192, 0x60)] },
    { name := "SWC_Q_DELAY_MEAN", off := 0x15302c, dims := [(192, 0x60)] },
    { name := "SWC_Q_WIN_SEQ", off := 0x153030, dims := [(192, 0x60)] },
    { name := "SWC_Q_HIST", off := 0x153040, dims := [(192, 0x60), (8, 0x4)] } ]

/-- Table 10.3. -/
def rowsDev10x3 : List RegRow :=
  [ { name := "RNG_BSTAT", off := 0x160000, w1c := 0x6 },
    { name := "RNG_CFG", off := 0x160004, rwL := 0x3f00, rwF := 0xffff80c0, img := [(31, 16), (15, 15), (13, 8), (7, 7), (6, 6)] },
    { name := "RNG_TIMERS", off := 0x160008, rwL := 0xff0003ff, img := [(31, 24), (9, 0)] },
    { name := "RNG_STATE", off := 0x16000c },
    { name := "RNG_FLAGS", off := 0x160010, w1c := 0x3f },
    { name := "RNG_CMD", off := 0x160014, wo := 0x1 },
    { name := "RNG_LOOP", off := 0x160018 },
    { name := "RNG_RT_DIFF", off := 0x16001c },
    { name := "RNG_P_ACCEPTED_LO", off := 0x160100, dims := [(2, 0x40)], pair := true },
    { name := "RNG_P_ACCEPTED_HI", off := 0x160104, dims := [(2, 0x40)] },
    { name := "RNG_P_DUP_DISCARD_LO", off := 0x160108, dims := [(2, 0x40)], pair := true },
    { name := "RNG_P_DUP_DISCARD_HI", off := 0x16010c, dims := [(2, 0x40)] },
    { name := "RNG_P_OWN_REMOVED_LO", off := 0x160110, dims := [(2, 0x40)], pair := true },
    { name := "RNG_P_OWN_REMOVED_HI", off := 0x160114, dims := [(2, 0x40)] },
    { name := "RNG_P_OUT_OF_WINDOW", off := 0x160118, dims := [(2, 0x40)], rc := 0xffffffff },
    { name := "RNG_P_HOP_DROP", off := 0x16011c, dims := [(2, 0x40)], rc := 0xffffffff },
    { name := "RNG_P_BAD_TAG", off := 0x160120, dims := [(2, 0x40)], rc := 0xffffffff },
    { name := "RNG_P_UNTAGGED", off := 0x160124, dims := [(2, 0x40)], rc := 0xffffffff },
    { name := "RNG_P_NOLINK", off := 0x160128, dims := [(2, 0x40)], rc := 0xffffffff },
    { name := "RNG_P_CN_SEEN", off := 0x16012c, dims := [(2, 0x40)], rc := 0xffffffff },
    { name := "RNG_SRC_IDX", off := 0x160200, rwL := 0x3f },
    { name := "RNG_SRC_STATE", off := 0x160204 },
    { name := "RNG_SRC_AGE", off := 0x160208 } ]

/-- Table 11.9. -/
def rowsDev11x9 : List RegRow :=
  [ { name := "LBB_BSTAT", off := 0x1a0000, w1c := 0x6 },
    { name := "LBB_CTRL", off := 0x1a0004, rwL := 0xffff0000, rwF := 0xe0, img := [(31, 16), (7, 7), (6, 6), (5, 5)] },
    { name := "LBB_POLL", off := 0x1a0008, rwL := 0x3ff, img := [(9, 0)] },
    { name := "LBB_INT_CFG", off := 0x1a000c, rwL := 0xffffffff, img := [(31, 16), (15, 0)] },
    { name := "LBB_INT_LEVEL", off := 0x1a0010 },
    { name := "LBB_STATUS", off := 0x1a0014, w1c := 0x6 },
    { name := "LBB_RETRY_CNT", off := 0x1a0018, rc := 0xffffffff },
    { name := "LBB_TMO_CNT", off := 0x1a001c, rc := 0xffffffff },
    { name := "LBB_IN_CNT", off := 0x1a0020 },
    { name := "LBB_IN_PAGES", off := 0x1a0024, rwL := 0xff, img := [(7, 0)] },
    { name := "LBB_INT_CELL", off := 0x1a0040, dims := [(16, 0x4)], rwF := 0x8001ffff, img := [(31, 31), (16, 0)] },
    { name := "LBB_W_BASE", off := 0x1a0100, dims := [(16, 0x40)], rwL := 0xff00000, img := [(27, 20)] },
    { name := "LBB_W_CFG", off := 0x1a0104, dims := [(16, 0x40)], rwL := 0xff000f, img := [(23, 16), (3, 3), (2, 2), (1, 1), (0, 0)] },
    { name := "LBB_W_TIMING", off := 0x1a0108, dims := [(16, 0x40)], rwL := 0xffffffff, img := [(31, 24), (23, 16), (15, 8), (7, 0)] },
    { name := "LBB_W_DISC_CNT", off := 0x1a010c, dims := [(16, 0x40)], rc := 0xffffffff },
    { name := "LBB_W_DISC_ADDR", off := 0x1a0110, dims := [(16, 0x40), (8, 0x4)] },
    { name := "LBB_IN_MEM", off := 0x1a4000, dims := [(4096, 0x4)], rwL := 0xffffffff } ]

/-- Table 12.6. -/
def rowsDev12x6 : List RegRow :=
  [ { name := "CPH_BSTAT", off := 0x170000, w1c := 0x6 },
    { name := "CPH_KEY_CMD", off := 0x170004, wo := 0xf003003f },
    { name := "CPH_KEY_FIXED", off := 0x170008, wo := 0xffffffff },
    { name := "CPH_KEY_DATA", off := 0x170010, dims := [(8, 0x4)], wo := 0xffffffff },
    { name := "CPH_FLAGS", off := 0x170030, w1c := 0x7 },
    { name := "CPH_HOLD", off := 0x170034, rc := 0x1fff0000 },
    { name := "CPH_RX_AUTH_FAIL", off := 0x170040, rc := 0xffffffff },
    { name := "CPH_RX_REPLAY", off := 0x170044, rc := 0xffffffff },
    { name := "CPH_HOLD_DROP", off := 0x170048, rc := 0xffffffff },
    { name := "CPH_TX_NOKEY", off := 0x17004c, rc := 0xffffffff },
    { name := "CPH_NOPOLICY", off := 0x170050, rc := 0xffffffff },
    { name := "CPH_RESYNC_RX", off := 0x170054, rc := 0xffffffff },
    { name := "CPH_RESYNC_TX", off := 0x170058, rc := 0xffffffff },
    { name := "CPH_GRANT_LO", off := 0x170100, dims := [(8, 0x8)], rwL := 0xffffffff, pair := true },
    { name := "CPH_GRANT_HI", off := 0x170104, dims := [(8, 0x8)], rwL := 0xffffffff },
    { name := "CPH_POL_IDX", off := 0x170200, rwL := 0x3ff },
    { name := "CPH_POL_FV", off := 0x170204 },
    { name := "CPH_POL_GEN", off := 0x170208 },
    { name := "CPH_SLOT_STATE", off := 0x171000, dims := [(64, 0x20)] },
    { name := "CPH_SLOT_FIXED", off := 0x171004, dims := [(64, 0x20)] },
    { name := "CPH_SLOT_CNT_LO", off := 0x171008, dims := [(64, 0x20)], pair := true },
    { name := "CPH_SLOT_CNT_HI", off := 0x17100c, dims := [(64, 0x20)] },
    { name := "CPH_SLOT_LIMIT_LO", off := 0x171010, dims := [(64, 0x20)], rwL := 0xffffffff, pair := true },
    { name := "CPH_SLOT_LIMIT_HI", off := 0x171014, dims := [(64, 0x20)], rwL := 0xffffffff },
    { name := "CPH_SLOT_JOBS", off := 0x171018, dims := [(64, 0x20)] } ]

/-- Table 13.5. -/
def rowsDev13x5 : List RegRow :=
  [ { name := "UPD_BSTAT", off := 0x180000, w1c := 0x6 },
    { name := "UPD_CMD", off := 0x180004, wo := 0xf },
    { name := "UPD_STATE", off := 0x180008 },
    { name := "UPD_FLAGS", off := 0x18000c, w1c := 0x7f },
    { name := "UPD_CTRL", off := 0x180010, rwL := 0x1ff },
    { name := "UPD_BUNDLE_ID", off := 0x180014 },
    { name := "UPD_PIECES", off := 0x180018 },
    { name := "UPD_PIECE_IDX", off := 0x18001c, rwL := 0xfff },
    { name := "UPD_PIECE_LEN", off := 0x180020, rwL := 0x1fff },
    { name := "UPD_PIECE_MAC", off := 0x180024, dims := [(4, 0x4)], rwL := 0xffffffff },
    { name := "UPD_PIECE_DB", off := 0x180034, wo := 0x1 },
    { name := "UPD_PIECE_STATUS", off := 0x180038 },
    { name := "UPD_PIECE_BAD", off := 0x18003c, rc := 0xffffffff },
    { name := "UPD_PIECE_DUP", off := 0x180040, rc := 0xffffffff },
    { name := "UPD_BITMAP_IDX", off := 0x180044, rwL := 0x7f },
    { name := "UPD_BITMAP_DATA", off := 0x180048 },
    { name := "UPD_NEW_FW_VERSION", off := 0x18004c },
    { name := "UPD_NEW_IMG_VERSION", off := 0x180050 },
    { name := "UPD_NEW_INFO", off := 0x180054 },
    { name := "UPD_FW_VERSION", off := 0x180058 },
    { name := "UPD_FUSE", off := 0x18005c },
    { name := "UPD_BANK", off := 0x180060 },
    { name := "UPD_ACT_TIME", off := 0x180064 },
    { name := "UPD_ARCH", off := 0x180068 },
    { name := "UPD_ARCH_OFF", off := 0x18006c, rwL := 0xffffc },
    { name := "UPD_ARCH_DATA", off := 0x180070 },
    { name := "UPD_PIECE", off := 0x181000, dims := [(1024, 0x4)], wo := 0xffffffff } ]

/-- Table 14.10. -/
def rowsDev14x10 : List RegRow :=
  [ { name := "HLT_BSTAT", off := 0x190000, w1c := 0x6 },
    { name := "HLT_CMD", off := 0x190004, wo := 0xf00fffff },
    { name := "HLT_RESET_CAUSE", off := 0x190008 },
    { name := "HLT_STATUS", off := 0x19000c },
    { name := "HLT_CTRL", off := 0x190010, rwL := 0xff0002 },
    { name := "HLT_SCRUB", off := 0x190014, rwL := 0x3fff },
    { name := "HLT_LASTING_CNT", off := 0x190018 },
    { name := "HLT_TRANSIENT_CNT", off := 0x19001c, rc := 0xffffffff },
    { name := "HLT_CE_CNT", off := 0x190020, rc := 0xffffffff },
    { name := "HLT_UE_CNT", off := 0x190024, rc := 0xffffffff },
    { name := "HLT_HARD_CE_CNT", off := 0x190028, rc := 0xffffffff },
    { name := "HLT_SCRUB_SWEEPS", off := 0x19002c },
    { name := "HLT_OPT_STATUS", off := 0x190030 },
    { name := "HLT_RET_FLAGS", off := 0x190034, w1c := 0x1 },
    { name := "HLT_SPARE", off := 0x190040, dims := [(8, 0x4)] },
    { name := "HLT_RETIRED", off := 0x190060, dims := [(8, 0x4)] },
    { name := "HLT_BACKUP", off := 0x190100, dims := [(16, 0x4)], rwL := 0xffffffff },
    { name := "HLT_LOG_SEQ", off := 0x190200 },
    { name := "HLT_OPT_LOADED", off := 0x191000, dims := [(256, 0x4)] },
    { name := "HLT_OPT_BUF", off := 0x192000, dims := [(256, 0x4)], rwL := 0xffffffff },
    { name := "HLT_LOG", off := 0x193000, dims := [(1024, 0x4)] },
    { name := "HLT_RETAINED", off := 0x194000, dims := [(2048, 0x4)], rwL := 0xffffffff } ]

/-- Table 3.10. -/
def rowsPg3x10 : List RegRow :=
  [ { name := "PSG_PIN_CMD", off := 0x10000, wo := 0x3 },
    { name := "PSG_PIN_AT", off := 0x10004, rwL := 0xffffffff },
    { name := "PSG_PIN_EPOCH", off := 0x10008 },
    { name := "PSG_PIN_STATUS", off := 0x1000c, w1c := 0x3e },
    { name := "PSG_PIN_LOST_CNT", off := 0x10010, rc := 0xffffffff },
    { name := "PSG_PIN_LOST_IDX", off := 0x10014 },
    { name := "PSG_ASH_CMD", off := 0x10100, wo := 0x3 },
    { name := "PSG_ASH_CTRL", off := 0x10104, rwL := 0x7f },
    { name := "PSG_ASH_ADDR_LO", off := 0x10108, rwL := 0xffffffc0, pair := true },
    { name := "PSG_ASH_ADDR_HI", off := 0x1010c, rwL := 0xffffffff },
    { name := "PSG_ASH_STATUS", off := 0x10110, w1c := 0x300 },
    { name := "PSG_ASH_EPOCH", off := 0x10114 },
    { name := "PSG_ASH_FIRST", off := 0x10200, dims := [(64, 0x8)], rwL := 0x1ffff },
    { name := "PSG_ASH_COUNT", off := 0x10204, dims := [(64, 0x8)], rwL := 0x3ffff },
    { name := "PSG_WG_COUNT", off := 0x10400, rwL := 0x3ff },
    { name := "PSG_WG_DB", off := 0x10404, wo := 0x1 },
    { name := "PSG_WG_STATUS", off := 0x10408, w1c := 0x1e },
    { name := "PSG_WG_EPOCH", off := 0x1040c },
    { name := "PSG_WG_CELL", off := 0x11000, dims := [(512, 0x8)], rwL := 0x1ffff },
    { name := "PSG_WG_VALUE", off := 0x11004, dims := [(512, 0x8)], rwL := 0xffffff } ]

/-- Table 11.5. -/
def rowsPg11x5 : List RegRow :=
  [ { name := "PG_ID", off := 0x0 },
    { name := "PG_PATH", off := 0x4 },
    { name := "PG_PATH_STATUS", off := 0x8, w1c := 0x28 },
    { name := "PG_HB", off := 0xc, rwL := 0xffff },
    { name := "PG_CMD", off := 0x10, wo := 0x7 },
    { name := "PG_OUTSTANDING", off := 0x14, rc := 0x3f0000 },
    { name := "PG_BUSY_CNT", off := 0x18, rc := 0xffffffff },
    { name := "PG_SWITCH_CNT", off := 0x1c, rc := 0xffffffff },
    { name := "PG_UNIT_WR", off := 0x20, dims := [(8, 0x4)], rwL := 0xffffffff },
    { name := "PG_SCRATCH", off := 0x40, dims := [(8, 0x4)], rwL := 0xffffffff },
    { name := "EQ_POP_LO", off := 0x100, dims := [(4, 0x20)], rc := 0xffffffff, pair := true },
    { name := "EQ_POP_HI", off := 0x104, dims := [(4, 0x20)] },
    { name := "EQ_CTRL", off := 0x108, dims := [(4, 0x20)], rwL := 0x103ff },
    { name := "EQ_STATE", off := 0x10c, dims := [(4, 0x20)], w1c := 0x10000 },
    { name := "EQ_PEAK", off := 0x110, dims := [(4, 0x20)], rc := 0x7ff },
    { name := "EQ_LOST", off := 0x114, dims := [(4, 0x20)], rc := 0xffffffff },
    { name := "EQ_POSTED", off := 0x118, dims := [(4, 0x20)] },
    { name := "EQ_CMD", off := 0x11c, dims := [(4, 0x20)], wo := 0x1 },
    { name := "PG_LRMW_ADDR", off := 0x200, rwL := 0xfffffc },
    { name := "PG_LRMW_MASK", off := 0x204, rwL := 0xffffffff },
    { name := "PG_LRMW_VALUE", off := 0x208, rwL := 0xffffffff },
    { name := "PG_LRMW_CMD", off := 0x20c, wo := 0x1 },
    { name := "PG_LRMW_STATUS", off := 0x210, w1c := 0x6 },
    { name := "PG_LRMW_OLD", off := 0x214 } ]

/-- Table 12.7. -/
def rowsPg12x7 : List RegRow :=
  [ { name := "PCJ_CTRL", off := 0x20000, dims := [(2, 0x100)], rwL := 0x381f1 },
    { name := "PCJ_DESC_BASE_LO", off := 0x20004, dims := [(2, 0x100)], rwL := 0xffffffff, pair := true },
    { name := "PCJ_DESC_BASE_HI", off := 0x20008, dims := [(2, 0x100)], rwL := 0xffffffff },
    { name := "PCJ_CPL_BASE_LO", off := 0x2000c, dims := [(2, 0x100)], rwL := 0xffffffff, pair := true },
    { name := "PCJ_CPL_BASE_HI", off := 0x20010, dims := [(2, 0x100)], rwL := 0xffffffff },
    { name := "PCJ_PROD", off := 0x20014, dims := [(2, 0x100)], rwL := 0xfff },
    { name := "PCJ_CONS", off := 0x20018, dims := [(2, 0x100)] },
    { name := "PCJ_DONE", off := 0x2001c, dims := [(2, 0x100)] },
    { name := "PCJ_STATUS", off := 0x20020, dims := [(2, 0x100)], w1c := 0x100 },
    { name := "PCJ_JOBS", off := 0x20024, dims := [(2, 0x100)] } ]

/-- Table 6.13. -/
def rowsSec6x13 : List RegRow :=
  [ { name := "SEC_STATE", off := 0x0, w1c := 0x100 },
    { name := "SEC_LOAD", off := 0x4, rc := 0xff00 },
    { name := "SEC_CHECK_FAIL", off := 0x8, rc := 0xffffffff },
    { name := "SEC_OVERRUN", off := 0xc, rc := 0xffffffff },
    { name := "SEC_DROP", off := 0x10, rc := 0xffffffff },
    { name := "SEC_TAKEOVERS", off := 0x14, rc := 0xffffffff },
    { name := "SEC_QUEUE", off := 0x18 },
    { name := "SEC_LAST_RECIPE", off := 0x1c },
    { name := "SEC_CMD", off := 0x20, wo := 0x3 } ]

/-- Table 6.17. -/
def rowsGwu6x17 : List RegRow :=
  [ { name := "GWU_LIMIT_DROP", off := 0xf00, rc := 0xffffffff },
    { name := "GWU_SHORT", off := 0xf04, rc := 0xffffffff },
    { name := "GWU_PACK_SAT", off := 0xf08, rc := 0xffffffff },
    { name := "GWU_TXQ_DROP", off := 0xf0c, rc := 0xffffffff },
    { name := "GWU_REPLACED", off := 0xf10, rc := 0xffffffff },
    { name := "GWU_REPLY_HELD", off := 0xf14, rc := 0xffffffff },
    { name := "GWU_CHAIN_LONG", off := 0xf18, rc := 0xffffffff },
    { name := "GWU_AUTH_REJECT", off := 0xf1c, rc := 0xffffffff },
    { name := "GWU_LAST_LIMIT", off := 0xf20 } ]

/-- Table 7.14. -/
def rowsCan7x14 : List RegRow :=
  [ { name := "CFD_BSTAT", off := 0x0, w1c := 0x6 },
    { name := "CFD_MODE", off := 0x4, rwL := 0x2000, rwB := 0x7, rwF := 0xc000, img := [(15, 15), (14, 14), (13, 13), (2, 0)], bound := .frameEnd },
    { name := "CFD_NBT", off := 0x8, rwF := 0x1fff7f7f, img := [(28, 24), (23, 16), (14, 8), (6, 0)] },
    { name := "CFD_DBT", off := 0xc, rwF := 0x1f1f0f0f, img := [(28, 24), (20, 16), (11, 8), (3, 0)] },
    { name := "CFD_TDC", off := 0x10, rwF := 0xc0007f7f, img := [(31, 31), (30, 30), (14, 8), (6, 0)] },
    { name := "CFD_TDC_VAL", off := 0x14, w1c := 0x80 },
    { name := "CFD_ERRC", off := 0x18 },
    { name := "CFD_RECOV", off := 0x1c, rwL := 0x3ffffff, img := [(25, 24), (23, 16), (15, 0)] },
    { name := "CFD_CMD", off := 0x20, wo := 0x3 },
    { name := "CFD_CLASH_LIM", off := 0x24, rwL := 0xff, img := [(7, 0)] },
    { name := "CFD_FLAGS", off := 0x28, rwL := 0x400, w1c := 0x3ff, img := [(10, 10)] },
    { name := "CFD_TX_REQ_LO", off := 0x30, wo := 0xffffffff, pair := true },
    { name := "CFD_TX_REQ_HI", off := 0x34, wo := 0xffffffff },
    { name := "CFD_TX_CANCEL_LO", off := 0x38, wo := 0xffffffff, pair := true },
    { name := "CFD_TX_CANCEL_HI", off := 0x3c, wo := 0xffffffff },
    { name := "CFD_TX_PEND_LO", off := 0x40, pair := true },
    { name := "CFD_TX_PEND_HI", off := 0x44 },
    { name := "CFD_TX_SUSP_LO", off := 0x48, pair := true },
    { name := "CFD_TX_SUSP_HI", off := 0x4c },
    { name := "CFD_TX_RESUME_LO", off := 0x50, wo := 0xffffffff, pair := true },
    { name := "CFD_TX_RESUME_HI", off := 0x54, wo := 0xffffffff },
    { name := "CFD_MB_CMD", off := 0x60, wo := 0xf000003f },
    { name := "CFD_MB_BUF", off := 0x100, rwL := 0x7fffffff },
    { name := "CFD_MB_BUF", off := 0x104, rwL := 0xfff00000 },
    { name := "CFD_MB_BUF", off := 0x108, dims := [(2, 0x4)] },
    { name := "CFD_MB_BUF", off := 0x110, dims := [(16, 0x4)], rwL := 0xffffffff },
    { name := "CFD_RXQ_STATE", off := 0x180, rwL := 0xff0000, rc := 0xff00, img := [(23, 16)] },
    { name := "CFD_RX_POP", off := 0x184, rc := 0xffffffff },
    { name := "CFD_GWQ_DEPTH", off := 0x188 },
    { name := "CFD_RX_BUF", off := 0x200, dims := [(20, 0x4)] },
    { name := "CFD_MTX_CMD", off := 0x300, wo := 0x3 },
    { name := "CFD_MTX_STATE", off := 0x304 },
    { name := "CFD_MTX_CYCLES", off := 0x308 },
    { name := "CFD_MTX_START_TS", off := 0x30c },
    { name := "CFD_MTX_BASE_LO", off := 0x310, rwL := 0xffffffff, img := [(31, 0)], pair := true },
    { name := "CFD_MTX_BASE_HI", off := 0x314, rwL := 0xffffffff, img := [(31, 0)] },
    { name := "CFD_MB_STAT", off := 0x400, dims := [(64, 0x4)], w1c := 0x300 },

    { name := "CFD_TX_FRAMES", off := 0x600 },
    { name := "CFD_RX_FRAMES", off := 0x604 },
    { name := "CFD_ERR_BIT", off := 0x608, rc := 0xffffffff },
    { name := "CFD_ERR_STUFF", off := 0x60c, rc := 0xffffffff },
    { name := "CFD_ERR_FORM", off := 0x610, rc := 0xffffffff } ]

/-- Table 7.14, with the words of a wake filter by Table 7.12. -/
def rowsCan7x14b1 : List RegRow :=
  [ { name := "CFD_WAKE", off := 0x500, dims := [(8, 0x20)], rwL := 0xbfffffff, img := [(31, 0)] },
    { name := "CFD_WAKE", off := 0x504, dims := [(8, 0x20)], rwL := 0x1fffffff, img := [(31, 0)] },
    { name := "CFD_WAKE", off := 0x508, dims := [(8, 0x20), (4, 0x4)], rwL := 0xffffffff, img := [(31, 0)] },
    { name := "CFD_WAKE", off := 0x518, dims := [(8, 0x20)], rwL := 0x3, img := [(31, 0)] },
    { name := "CFD_WAKE", off := 0x51c, dims := [(8, 0x20)], img := [(31, 0)] },
    { name := "CFD_ERR_CRC", off := 0x614, rc := 0xffffffff },
    { name := "CFD_ERR_ACK", off := 0x618, rc := 0xffffffff },
    { name := "CFD_ARB_LOST", off := 0x61c, rc := 0xffffffff },
    { name := "CFD_CLASH", off := 0x620, rc := 0xffffffff },
    { name := "CFD_RXQ_LOST", off := 0x624, rc := 0xffffffff },
    { name := "CFD_WIN_MISS", off := 0x628, rc := 0xffffffff },
    { name := "CFD_BUSOFF", off := 0x62c, rc := 0xffffffff },
    { name := "CFD_RX_NOMATCH", off := 0x630, rc := 0xffffffff },
    { name := "CFD_WAKE_CNT", off := 0x634, rc := 0xffffffff } ]

/-- Table 8.7. -/
def rowsSln8x7 : List RegRow :=
  [ { name := "SLN_BSTAT", off := 0x0, w1c := 0x6 },
    { name := "SLN_MODE", off := 0x4, rwL := 0x20, rwF := 0x3d7, img := [(9, 9), (8, 8), (7, 7), (6, 6), (5, 5), (4, 4), (2, 0)] },
    { name := "SLN_BAUD", off := 0x8, rwF := 0xffffff, img := [(23, 0)] },
    { name := "SLN_FMT", off := 0xc, rwF := 0x1fff, img := [(12, 11), (10, 10), (9, 7), (6, 5), (4, 0)] },
    { name := "SLN_FRAME", off := 0x10, rwB := 0xfff0fff, img := [(27, 16), (11, 0)], bound := .frameEnd },
    { name := "SLN_IDLE", off := 0x14, rwB := 0xffffffff, img := [(31, 16), (15, 0)], bound := .frameEnd },
    { name := "SLN_DE", off := 0x18, rwB := 0xffffffff, img := [(31, 16), (15, 0)], bound := .frameEnd },
    { name := "SLN_SPI", off := 0x1c, rwF := 0xffffffff, img := [(31, 16), (15, 8), (7, 0)] },
    { name := "SLN_SENT", off := 0x20, rwF := 0xffff, img := [(15, 15), (14, 14), (13, 13), (12, 10), (9, 0)] },
    { name := "SLN_CRC", off := 0x24, rwF := 0xffffffff, img := [(31, 16), (15, 0)] },
    { name := "SLN_CRC_CHK", off := 0x28, rwF := 0xffff0007, img := [(31, 16), (2, 2), (1, 0)] },
    { name := "SLN_FLOW", off := 0x2c, rwL := 0x3ff03ff, img := [(25, 16), (9, 0)] },
    { name := "SLN_CHAIN", off := 0x30, dims := [(4, 0x4)], rwB := 0xffff, img := [(15, 15), (14, 0)], bound := .frameEnd },
    { name := "SLN_LIN_CTRL", off := 0x40, rwL := 0xff04, rwB := 0x3, img := [(15, 8), (2, 2), (1, 0)], bound := .cycle },
    { name := "SLN_CMD", off := 0x44, wo := 0x7 },
    { name := "SLN_STATUS", off := 0x48, w1c := 0xff },
    { name := "SLN_SM_STATE", off := 0x4c },
    { name := "SLN_TBL_IDX", off := 0x50, rwL := 0x7ff },
    { name := "SLN_TBL_DATA", off := 0x54 },
    { name := "SLN_RX_POP", off := 0x100, rc := 0xffffffff },
    { name := "SLN_RX_DEPTH", off := 0x104, rc := 0x3ff0000 },
    { name := "SLN_TX_PUSH", off := 0x108, wo := 0xffffffff },
    { name := "SLN_TX_DEPTH", off := 0x10c },
    { name := "SLN_RX_FRAMES", off := 0x600 },
    { name := "SLN_TX_FRAMES", off := 0x604 },
    { name := "SLN_RX_LOST", off := 0x608, rc := 0xffffffff },
    { name := "SLN_SHORT", off := 0x60c, rc := 0xffffffff },
    { name := "SLN_LONG", off := 0x610, rc := 0xffffffff },
    { name := "SLN_BAD_FRAME", off := 0x614, rc := 0xffffffff },
    { name := "SLN_CHAR_ERR", off := 0x618, rc := 0xffffffff },
    { name := "SLN_TX_REFUSED", off := 0x61c, rc := 0xffffffff },
    { name := "SLN_UNDERRUN", off := 0x620, rc := 0xffffffff },
    { name := "SLN_LIN_NORESP", off := 0x624, rc := 0xffffffff },
    { name := "SLN_TX_ABORT", off := 0x628, rc := 0xffffffff } ]

/-- Table 8.8. -/
def rowsDsc8x8 : List RegRow :=
  [ { name := "DSC_BSTAT", off := 0x0, w1c := 0x6 },
    { name := "DSC_DIR", off := 0x4, rwF := 0xffffff, img := [(23, 16), (15, 8), (7, 0)] },
    { name := "DSC_SAFE", off := 0x8, rwL := 0xffff, img := [(15, 0)] },
    { name := "DSC_DEB_UNIT", off := 0xc, rwL := 0x3, img := [(1, 0)] },
    { name := "DSC_DEB_LO", off := 0x10, rwL := 0xffffffff, img := [(31, 0)], pair := true },
    { name := "DSC_DEB_HI", off := 0x14, rwL := 0xffffffff, img := [(31, 0)] },
    { name := "DSC_EDGE_CFG", off := 0x18, rwL := 0x1ffff, img := [(16, 16), (15, 8), (7, 0)] },
    { name := "DSC_LEVEL", off := 0x20 },
    { name := "DSC_OUT_MODE", off := 0x24, rwL := 0xfffff, img := [(19, 19), (18, 16), (15, 8), (7, 0)] },
    { name := "DSC_OUT_STAGE", off := 0x28, rwL := 0xff, img := [(7, 0)] },
    { name := "DSC_OUT_NOW", off := 0x2c },
    { name := "DSC_FLAGS", off := 0x30, w1c := 0x1 },
    { name := "DSC_SAMPLE_CELL", off := 0x34, rwF := 0x1ffff, img := [(16, 0)] },
    { name := "DSC_ECELL", off := 0x40, dims := [(8, 0x4)], rwF := 0x1ffff, img := [(16, 0)] },
    { name := "DSC_SRC", off := 0x60, dims := [(8, 0x4)], rwL := 0x1f01ffff, img := [(28, 24), (16, 0)] },
    { name := "DSC_RISE_TS", off := 0x80, dims := [(8, 0x4)] },
    { name := "DSC_FALL_TS", off := 0xa0, dims := [(8, 0x4)] },
    { name := "DSC_EDGE_CNT", off := 0xc0, dims := [(8, 0x4)] },
    { name := "DSC_SRC_BAD_CNT", off := 0xe0, rc := 0xffffffff } ]

/-- Table 9.6. -/
def rowsEmc9x6 : List RegRow :=
  [ { name := "EMC_BSTAT", off := 0x0, w1c := 0x6 },
    { name := "EMC_MODE", off := 0x4, rwL := 0x380, rwB := 0x7, rwF := 0x70, img := [(9, 9), (8, 8), (7, 7), (6, 6), (5, 4), (2, 0)], bound := .frameEnd },
    { name := "EMC_LINK", off := 0x8 },
    { name := "EMC_EEE", off := 0xc, rwL := 0xffffffff, img := [(31, 16), (15, 0)] },
    { name := "EMC_WAKE_EN", off := 0x10, rwL := 0xffff, img := [(15, 0)] },
    { name := "EMC_FLAGS", off := 0x14, w1c := 0x7 },
    { name := "EMC_WAKE_CNT", off := 0x18, rc := 0xffffffff },
    { name := "EMC_LPI_CNT", off := 0x1c },
    { name := "EMC_WMASK", off := 0x400, dims := [(16, 0x20), (4, 0x4)], rwL := 0xffffffff, img := [(31, 0)] },
    { name := "EMC_WCRC", off := 0x410, dims := [(16, 0x20)], rwL := 0xffff, img := [(15, 0)] } ]

/-- The device-wide blocks, by page-window address. -/
def regRowsDev : List RegRow := rowsDev0x4 ++ rowsDev1x11 ++ rowsDev2x9 ++ rowsDev3x9 ++ rowsDev4x4 ++ rowsDev4x8 ++ rowsDev5x4 ++ rowsDev9x7 ++ rowsDev9x8 ++ rowsDev9x9 ++ rowsDev10x3 ++ rowsDev11x9 ++ rowsDev12x6 ++ rowsDev13x5 ++ rowsDev14x10

/-- The registers of a page, by offset. -/
def regRowsPg : List RegRow := rowsPg3x10 ++ rowsPg11x5 ++ rowsPg12x7

/-- The control registers of a signal engine, by offset. -/
def regRowsSec : List RegRow := rowsSec6x13

/-- The gateway counters of a unit, by offset (R228). -/
def regRowsGwu : List RegRow := rowsGwu6x17

/-- A CAN controller, by offset. -/
def regRowsCan : List RegRow := rowsCan7x14 ++ rowsCan7x14b1

/-- A serial lane, by offset. -/
def regRowsSln : List RegRow := rowsSln8x7

/-- A discrete bank, by offset. -/
def regRowsDsc : List RegRow := rowsDsc8x8

/-- A field MAC, by offset. -/
def regRowsEmc : List RegRow := rowsEmc9x6

end Sys2Proof.Machine
end

