-- ==== Sys2Proof/Machine/Tbl.lean ====
section
/-!
DEFINITION. Sparse tables: the one canonical form in which the model keeps the register file, the byte memory and
every numbered array of the machine. A table is a list of (key, value) pairs with keys strictly rising and no entry
equal to what an unlisted key reads as (`d`, a definition per table), so that equal tables are equal data.
`get` and `set` obey their laws on every list; `wf` says the canonical form, which `set` keeps.
-/

namespace Sys2Proof.Machine

/-- A sparse table. -/
abbrev Tbl (α : Type) := List (Nat × α)

/-- The value at a key; an unlisted key reads as `d`. -/
def Tbl.get {α : Type} (d : Nat → α) : Tbl α → Nat → α
  | [], k => d k
  | (a, v) :: t, k => if k < a then d k else if k = a then v else Tbl.get d t k

/-- Every key of the table lies above `k`. -/
def Tbl.startsAbove {α : Type} (k : Nat) : Tbl α → Bool
  | [] => true
  | (b, _) :: _ => k < b

/-- Write a key, keeping the canonical form: writing what an unlisted key reads as removes the entry. -/
def Tbl.set {α : Type} [DecidableEq α] (d : Nat → α) : Tbl α → Nat → α → Tbl α
  | [], k, v => if v = d k then [] else [(k, v)]
  | (a, w) :: t, k, v =>
    if k < a then (if v = d k then (a, w) :: t else (k, v) :: (a, w) :: t)
    else if k = a then (if v = d k ∧ Tbl.startsAbove k t = true then t else (k, v) :: t)
    else (a, w) :: Tbl.set d t k v

/-- The canonical form: keys strictly rising, no entry that reads as an unlisted one. -/
def Tbl.wf {α : Type} [DecidableEq α] (d : Nat → α) : Tbl α → Bool
  | [] => true
  | (a, v) :: t => decide (v ≠ d a) && Tbl.startsAbove a t && Tbl.wf d t

/-- Write `n` consecutive keys from `k` with the values of a list. -/
def Tbl.setList {α : Type} [DecidableEq α] (d : Nat → α) (t : Tbl α) (k : Nat) : List α → Tbl α
  | [] => t
  | v :: vs => Tbl.setList d (Tbl.set d t k v) (k + 1) vs

/-- The values at `n` consecutive keys from `k`. -/
def Tbl.getList {α : Type} (d : Nat → α) (t : Tbl α) (k : Nat) : Nat → List α
  | 0 => []
  | n + 1 => Tbl.get d t k :: Tbl.getList d t (k + 1) n

end Sys2Proof.Machine
end

