-- ==== Sys2Proof/Machine/State.lean ====
section
/-!
DEFINITION. The state of the XJG. Every register of the manual's register maps stands in `State.regs` under its
page-window address (Machine/Reg.lean names each); what the manual gives the part besides registers stands in named
fields. Everything is plain data.
-/

namespace Sys2Proof.Machine

/-- Why the block stops. The manual gives every command an effect, so no meaning answers with a fault. -/
inductive Fault where
  /-- Raised by no command. Safe. -/
  | unreachable
  deriving DecidableEq, Repr

/-- Why a command is turned away. -/
inductive Refusal where
  /-- A command that the model gives no meaning. Safe: the machine stops. -/
  | notModelled (mnemonic : String)
  deriving DecidableEq, Repr

/-! ## What leaves the part -/

/-- What the part sends out, in the order it sends it (notes/assumptions/3.md). -/
inductive Emit where
  /-- Data returned to a page for a read (R48 gives zeros for a forbidden one). -/
  | readData (page : Nat) (addr : Nat) (data : List Word)
  /-- MSI-X vector of a page's function (R365). -/
  | msix (page vector : Nat)
  /-- An EVENT_NOTE frame (R370). -/
  | eventNote (page path arg : Nat)
  /-- A response frame (Tables 11.1 and 11.2): its OP, STATUS, TAG, ADDR and data. -/
  | paResp (path page op status tag addr : Nat) (data : List Byte) (dst : BitVec 48)
  /-- An ASHLAR_DATA frame (R369), or a posted write to host memory (R123, R364, R410). -/
  | ashlarData (page path addr seq : Nat) (data : List Byte)
  | dma (page addr : Nat) (data : List Byte)
  /-- An AtomicOp completion with status Unsupported Request (R366). -/
  | unsupported (page path : Nat)
  /-- Start of a CAN frame on the bus (R237). -/
  | canTx (n : Nat) (f : CanFrame)
  /-- Items that leave on a serial lane. -/
  | serialTx (lane : Nat) (item : Word)
  /-- DE of an RS-485 lane changes its level at a local instant (R268). -/
  | lineDriver (lane : Nat) (high : Bool) (at16 : Nat)
  /-- A word leaves an SPI lane, its bits in line order. A controller's SCK divisor and mode, and the half-periods from CS_N
  falling to the first edge and from the last edge to CS_N rising, 0 inside a frame (R273); 0 for a target. -/
  | spiTx (lane : Nat) (bits : List Bool) (div mode lead lag : Nat)
  /-- A header: a break of so many bits, a delimiter of one bit, the sync byte 0x55, the protected identifier (R270). -/
  | linHeader (lane breakBits : Nat) (pid : Byte)
  | linResponse (lane : Nat) (data : List Byte) (checksum : Byte)
  /-- A gPTP frame of the management engine, handed to port M for a switch port (R162, R351). Such a frame, and a page
  access frame on a path other than PCIe, stands on the line as an `ethTx` of that port. -/
  | mgmtFrame (port : Nat) (bytes : List Byte)
  /-- A frame that leaves on a switch port; `stomped` says that its FCS is made wrong (R321). -/
  | ethTx (port : Nat) (bytes : List Byte) (stomped : Bool)
  /-- One cycle of the bridge on the far bus: read or write, far word address, byte enables, data, LB_LOCK_N low, and its
  SETUP, STROBE and HOLD in units of 10 ns (R385). -/
  | farCycle (write : Bool) (addr be : Nat) (data : Word) (locked : Bool) (timing : Nat × Nat × Nat)
  /-- The word answered to a far master (R392). -/
  | farReply (data : Word)
  deriving DecidableEq, Repr

/-! ## Registers and pages -/

/-- A write to B fields that waits for its boundary (R17, R88). -/
structure Staged where
  addr : Nat
  mask : Nat
  value : Word
  bound : Bound
  deriving DecidableEq, Repr

/-- The holding register of a page (R9): the low word's address and the copied high word. -/
structure Holding where
  src : Option Nat
  hi : Word
  deriving DecidableEq, Repr

/-- An event queue: its entries, oldest first (R380). -/
structure EvQueue where
  entries : List DWord
  deriving DecidableEq, Repr

/-! ## The structure image -/

/-- One section of an image as read: its code, SCOPE, FIRST, ENTRY_SIZE and entries. -/
structure Sect where
  code : Nat
  scope : Nat
  first : Nat
  esize : Nat
  count : Nat
  bytes : List Byte
  deriving DecidableEq, Repr

/-- A default-settings record (Table 2.3b), by the absolute address of its register. -/
structure SetRec where
  addr : Nat
  msb : Nat
  lsb : Nat
  value : Nat
  deriving DecidableEq, Repr

/-- One half of the settings store (R60). -/
structure StoreHalf where
  seq : Nat
  schema : Nat
  fields : List SetRec
  deriving DecidableEq, Repr

/-- The STR block besides its registers: the shadow image and what is being done with it. -/
structure StrState where
  /-- The bytes received of a pushed image, or read of a flash image. -/
  bytes : List Byte := []
  /-- The load comes from PUSH. -/
  pushing : Bool := false
  /-- The load is the one at boot (R63). -/
  boot : Bool := false
  /-- The sections held in shadow memory once the checks have passed. -/
  sects : List Sect := []
  partialImg : Bool := false
  version : Word := 0
  schema : Nat := 0
  /-- The signature has verified and the image is being applied (Table 2.6 steps 4 to 7). -/
  applying : Bool := false
  /-- A full reload is under way (R72). -/
  reloading : Bool := false
  /-- The boundary latched by COMMIT (R69). -/
  kind : Nat := 0
  pt : Nat := 0
  target : Nat := 0
  /-- A save of the settings is in progress (R60). -/
  saving : Option StoreHalf := none
  /-- Local counter when STR left IDLE (STR_LOAD_TIME). -/
  leftIdle : Nat := 0
  /-- The one retry of R63 has been used. -/
  triedOther : Bool := false
  /-- The version of the firmware of the bank that is not booting, if it passes the boot ROM's check (R63). -/
  otherFw : Option Word := none
  /-- Local counter at the last switch: a frame that began before it belongs to the old generation (R74). -/
  switch16 : Nat := 0
  /-- An update bundle was armed onto this staged image (R435). -/
  forUpdate : Bool := false
  /-- The fields listed in the default-settings sections of the active images (R60). -/
  listed : List SetRec := []
  deriving DecidableEq, Repr

/-! ## The signal space -/

/-- One version of a cell in one of its four slots (R99). -/
structure Ver where
  slot : Nat
  tag : Word
  word : DWord
  isBase : Bool
  deriving DecidableEq, Repr

/-- A cell: its versions, when it was last written with VALID = 1 or given its base version (R112, in units of
2^-16 ns of the local counter), and the boundary epoch once the signal map has removed it (R82). `lost`: the tags
of versions that an uncorrectable codeword took (Table 14.5), newer than the oldest version left. -/
structure Cell where
  vers : List Ver := []
  lost : List Word := []
  freshAt : Nat := 0
  removed : Option Word := none
  deriving DecidableEq, Repr

/-- What one write of a batch does to its cell (Table 3.2). -/
inductive CellOp where
  /-- A field, engine or host write of a whole version. -/
  | put (word : DWord)
  /-- A rejected update: only AUTHFAIL is marked. -/
  | reject
  deriving DecidableEq, Repr

structure CellWrite where
  cell : Nat
  op : CellOp
  deriving DecidableEq, Repr

/-- The table generation an item was accepted under (R74): the current one or the draining one. -/
abbrev Gen := Word

/-- An item in the gateway (R196): what its chain reads of it, and what its entries may need later. -/
structure ChainItem where
  /-- The port unit that accepted the item; none: a switch port without one (R314). -/
  unit : Option Nat
  /-- The switch port that received an Ethernet item. -/
  port : Nat := 0
  gen : Gen
  payload : List Byte
  /-- The length a LIMIT entry in byte mode counts (R198). -/
  len : Nat
  /-- Stamps of the source event (R95): low 32 bits of disciplined time, and the phase stamps of PT0 to PT3. -/
  time : Word
  phases : List Word
  /-- The work is carried by the unit's spare: cells get SPARE = 1 (Table 3.1). -/
  spare : Bool := false
  /-- The CAN frame as received, for FRAME entries (R202). -/
  can : Option CanFrame := none
  /-- The channel of a CAN item (Table 6.6). -/
  chan : Nat := 0
  /-- The stream filter entry that started the chain (R314). -/
  filter : Option Nat := none
  /-- The chain was started by a request (R208). -/
  request : Bool := false
  /-- When the LIN header that asked for a response ended (R271). -/
  header16 : Nat := 0
  deriving DecidableEq, Repr

/-- What an invocation of a recipe works on (R217, R220). -/
structure Invoc where
  id : Nat
  recipe : Nat
  /-- The batch that waits for it; none: an ON_COMMIT recipe. -/
  batch : Option Nat
  cell : Nat
  w1 : Nat
  w3 : Nat
  w4 : Nat
  gen : Gen
  /-- The stamp of the source event. -/
  time : Word
  phases : List Word
  spare : Bool
  deriving DecidableEq, Repr

/-- One element of a batch: a write, or the place of an invocation that has not returned. -/
inductive BatchItem where
  | write (w : CellWrite)
  /-- The invocation, and the cell its descriptor names. -/
  | waits (inv : Nat) (cell : Nat)
  deriving DecidableEq, Repr

/-- Who makes a batch. -/
inductive BatchSrc where
  /-- The write group of a page (R127). -/
  | group (page : Nat)
  /-- The first pass of a chain, with the entries of its second pass (R196). -/
  | chain (item : ChainItem) (rest : List Nat)
  /-- A recipe run after a commit, an edge, a sample, a rejected update or a poll. -/
  | other (unit : Option Nat)
  deriving DecidableEq, Repr

/-- A batch of cell writes on its way to the signal space (R108). -/
structure Batch where
  id : Nat
  src : BatchSrc
  gen : Gen
  items : List BatchItem
  deriving DecidableEq, Repr

/-- An open bond: its number, the held writes and when the first came (R110). -/
structure Bond where
  bond : Nat
  held : List CellWrite
  since : Nat
  deriving DecidableEq, Repr

/-- The signal space besides its registers and cells. -/
structure SigState where
  /-- Commit requests waiting to be served (R106). -/
  requests : Nat := 0
  /-- The instant of a commit that is served and has not taken effect: disciplined ns, local 2^-16 ns. -/
  served : Option (Int × Nat) := none
  /-- Local counter at the instant of the last commit. -/
  lastInstant : Option Nat := none
  /-- Disciplined time at that instant in 2^-16 ns, while no step has come since. -/
  lastDisc16 : Option Int := none
  /-- Batches that have not reached the signal space, in order. -/
  batches : List Batch := []
  bonds : List Bond := []
  /-- Chains whose batch is written and whose second pass has not run (R196). -/
  second : List (ChainItem × List Nat) := []
  /-- The multiple of the period at the last timed cadence tick, in ns, and the time before which none comes (R186). -/
  cadLast : Option Int := none
  cadHold : Int := 0
  /-- The units whose FROM_CELL staging a commit has left to refresh (R294). -/
  refresh : List Nat := []
  deriving DecidableEq, Repr

/-- A running ashlar (R123): its epoch, latched ranges and address, cells copied so far, restarts (R125). -/
structure Ashlar where
  epoch : Word
  /-- COMMIT_TIME of the record: SIG_COMMIT_TIME of that epoch (Table 3.5). -/
  commitTime : Word
  ranges : List (Nat × Nat)
  addr : Nat
  copied : Nat
  restarts : Nat
  /-- The local instant of the start. -/
  since : Nat
  deriving DecidableEq, Repr

/-- A non-posted operation of a page (R371): the path it came on, how a frame answers it (its OP, TAG and sender;
none: PCIe), its address, the words it returns and how many are still to come from the far bus, its STATUS. -/
structure HostOp where
  id : Nat
  path : Nat
  frame : Option (Nat × Nat × BitVec 48)
  addr : Nat
  data : List Word
  left : Nat
  status : Nat
  deriving DecidableEq, Repr

/-- What an access does on the far bus (R385, R388, R389). -/
inductive FarKind where
  | write
  | read
  /-- A locked sequence over one or two words. -/
  | atomic (kind : AtomicKind) (words : Nat)
  | lrmw
  deriving DecidableEq, Repr

/-- An access that waits for the far bus or is on it. The window's settings are those of its arrival (R395). `op` and
`slot`: the operation and the word of it that the access answers. -/
structure FarAcc where
  page : Nat
  kind : FarKind
  op : Option Nat := none
  slot : Nat := 0
  win : Nat
  /-- The far byte address of its word. -/
  far : Nat
  be : Nat := 15
  data : Word := 0
  operand : DWord := 0
  compare : DWord := 0
  order : Bool
  prefetch : Bool
  /-- SETUP, STROBE and HOLD of its cycles, in units of 10 ns (R385, R395). -/
  timing : Nat × Nat × Nat := (1, 1, 1)
  deriving DecidableEq, Repr

/-- A non-posted PCIe request: a read of one word or of an aligned pair, a bridge read, an AtomicOp (R366). -/
inductive PcieReq where
  | read (addr words : Nat)
  | bridge (off be : Nat)
  | atomic (addr : Nat) (kind : AtomicKind) (words : Nat) (operand compare : DWord)
  deriving DecidableEq, Repr

/-- A PCIe request that waits for a slot (R371): its page and path. -/
structure Withheld where
  page : Nat
  path : Nat
  req : PcieReq
  deriving DecidableEq, Repr

/-- A prefetch line (R390): the far byte address of its first word, its host words, a bit for each word returned. -/
structure PfLine where
  far : Nat
  words : List Word
  returned : Nat
  at16 : Nat
  deriving DecidableEq, Repr

/-- What the bridge does with the far bus. -/
inductive BusPhase where
  | idle
  | requesting
  | owned
  | backoff (until16 : Nat)
  deriving DecidableEq, Repr

/-- The local bus bridge besides its registers. -/
structure BridgeState where
  /-- The outbound queue and the reads behind it, oldest first (R386); writes past the 32nd wait on their path. -/
  accs : List FarAcc := []
  /-- The access whose turn it is. -/
  cur : Option FarAcc := none
  phase : BusPhase := .idle
  /-- The first LB_BR_N of that access (R391), and its retries (R393). -/
  req16 : Nat := 0
  retries : Nat := 0
  /-- PCIe requests that wait for a slot (R371). -/
  withheld : List Withheld := []
  lines : Tbl (Option PfLine) := []
  poll16 : Nat := 0
  deriving DecidableEq, Repr

/-- A page besides its registers. -/
structure PageState where
  ashlar : Option Ashlar := none
  ashSeq : Word := 0
  outstanding : List HostOp := []
  /-- The source address of the last request accepted, for each path code (R367). -/
  lastSrc : List (Nat × BitVec 48) := []
  /-- Local counter at the last page access frame, for each path code (R372). -/
  lastHeard : List (Nat × Nat) := []
  /-- MSI-X Enable of the page's functions on P0 and P1 (R365, R483). -/
  msixOn : List Bool := [false, false]
  /-- The path that PATH_SEL asked for, until the operations on the active one have completed (R374). -/
  selected : Option Nat := none
  /-- Local counter when a path came up and became active (R375). -/
  took16 : Option Nat := none
  deriving DecidableEq, Repr

/-! ## The gateway and the signal engines -/

/-- The credit of a LIMIT entry (R198), with a 16-bit fraction; `fresh`: at BURST, nothing has arrived. -/
structure Credit where
  fresh : Bool := true
  credit16 : Nat := 0
  at16 : Nat := 0
  deriving DecidableEq, Repr

/-- An EVENT entry (R206, R207): the VALUE and status bits of the version at the last posted event, the end of the
gap that runs, the conditions counted in it. -/
structure EvRoute where
  ref : Option Nat := none
  gapEnd : Option Nat := none
  count : Nat := 0
  deriving DecidableEq, Repr

/-- The open PDU of a PDU entry (R203): its records, when the first came, the next SEQ. -/
structure PduState where
  records : List (List Byte) := []
  since : Nat := 0
  seq : Nat := 0
  deriving DecidableEq, Repr

/-- A signal engine besides its registers and memory. -/
structure Engine where
  queue : List Invoc := []
  /-- The own area of the new generation waits for invocations of the old one to complete (R79). -/
  ownDue : Bool := false
  /-- The engine waits for the next commit to resume (R225). -/
  returning : Bool := false
  deriving DecidableEq, Repr

/-! ## CAN units -/

/-- Where held content comes from, and whether it may be sent (R201, R236, R419). -/
inductive HeldFrom where
  | host | route | unusable
  deriving DecidableEq, Repr

/-- A mailbox besides its CFD_MB_STAT word: its content and held content as the words of Table 7.4, and whether the
content lacks the authenticator it needs (R419). -/
structure Mailbox where
  words : List Word := []
  noAuth : Bool := false
  held : Option (List Word × HeldFrom) := none
  deriving DecidableEq, Repr

/-- The frame of the unit that is on the bus (R237): its mailbox (none: the gateway queue), its words, whether a
cancel is registered, the start of frame, the matrix window it was sent in (EXCLUSIVE, or the end of TXEN of an
ARBITRATING one), whether it carries a reference, and whether a spare that took the unit over observes its end. -/
structure OnBus where
  mb : Option Nat
  words : List Word
  cancel : Bool := false
  sof16 : Nat := 0
  exclusive : Bool := false
  txenEnd16 : Option Nat := none
  refCycle : Option Nat := none
  observed : Bool := false
  deriving DecidableEq, Repr

/-- What a unit in bus-off waits for (R257). -/
inductive BoWait where
  | none
  | delay (since16 : Nat)
  | manual
  | sequence
  deriving DecidableEq, Repr

/-- The schedule matrix of a unit (R252 to R255). -/
structure MtxRun where
  /-- A pending matrix is held; ARM has been given. -/
  pending : Bool := false
  armed : Bool := false
  /-- TIME: the disciplined time of the takeover that ARM asked for. -/
  takeDue : Option Int := none
  active : Bool := false
  /-- The words of the active matrix, entry k word w at 4 k + w. -/
  words : List (Nat × Word) := []
  /-- Cycles run: none while they stand still. -/
  cycle : Option Nat := none
  start16 : Nat := 0
  /-- TIME: S of the active matrix and of the armed one, and the disciplined time of the next cycle start. -/
  base : Int := 0
  armBase : Int := 0
  nextDue : Option Int := none
  /-- The window open now, when it opened, whether its mailbox has been sent. -/
  window : Option Nat := none
  open16 : Nat := 0
  sent : Bool := false
  /-- WIN_MISS has been counted for the window. -/
  missed : Bool := false
  /-- A time step (R186): the window's state holds, and no further window opens before the next cycle. -/
  rephased : Bool := false
  /-- REF_SEND: the basic cycle that START_MATRIX has asked for, and its mailbox. -/
  wanted : Option (Nat × Nat) := none
  deriving DecidableEq, Repr

/-- A CAN unit besides its registers. -/
structure CanUnit where
  gwq : List (List Word) := []
  rxq : List (List Word) := []
  rxSeq : Nat := 0
  onBus : Option OnBus := none
  boCount : Nat := 0
  boWait : BoWait := .none
  /-- A frame that took arbitration from the unit is being received. -/
  receiving : Bool := false
  /-- CFD_MODE before its last write that was applied at once, and when (R87). -/
  modeWas : Option (Word × Nat) := none
  mtx : MtxRun := {}
  deriving DecidableEq, Repr

/-! ## Serial lanes and discrete banks -/

/-- A LIN frame whose response is to come (R271): the frame identifier, when its header ended, the rate, and the
response that this lane sends, if it is the one. -/
structure LinFrame where
  ident : Nat
  at16 : Nat
  div : Nat
  response : Option (List Byte) := none
  deriving DecidableEq, Repr

/-- A lane besides its registers. -/
structure Lane where
  rx : List Word := []
  /-- When items last entered the receive FIFO, and how many (R286). -/
  rxAt16 : Nat := 0
  rxNew : Nat := 0
  tx : List Word := []
  /-- The frame being gathered, as the receive words of its characters (R281), and when it began. -/
  buf : List Word := []
  frame16 : Nat := 0
  /-- The frame has been abandoned: characters are discarded until it ends. -/
  hunting : Bool := false
  crc : Nat := 0
  lastChar16 : Option Nat := none
  /-- The idle line after the last character has been reported. -/
  idleDone : Bool := true
  /-- Since when the timeout of R277 counts. -/
  tmo16 : Nat := 0
  /-- The last item sent of a frame that is not ended. -/
  line : Option Word := none
  /-- DE or CS_N is active. -/
  sending : Bool := false
  /-- The last item has gone and DE_LAG runs since then. -/
  lag16 : Option Nat := none
  /-- When items last left the transmit FIFO, and how many (R286). -/
  txOut16 : Nat := 0
  txOut : Nat := 0
  lin : Option LinFrame := none
  /-- LIN commander: the running schedule, its next slot, when that slot is due. -/
  sched : Nat := 0
  slot : Nat := 0
  slotDue16 : Option Nat := none
  /-- SENT: status bits 3 and 2 of the messages so far, oldest first (R276). -/
  slow : List (Bool × Bool) := []
  deriving DecidableEq, Repr

/-- A bank besides its registers, a bit for each line: changed since the last SAMPLE, the FROM_CELL staging bit, that
bit stands for the safe value (R295), at high impedance. `fresh`: its personality has been applied and it has not started
since (R296). -/
structure Bank where
  fresh : Bool := true
  changed : Nat := 0
  cellStage : Nat := 0
  stageSafe : Nat := 0
  hiz : Nat := 0
  deriving DecidableEq, Repr

/-! ## The switch core -/

/-- A frame of the saltern in one egress queue (R311): its number there, its bytes from the destination address on
without FCS, its admission, its ingress port, and whether its FCS is sent wrong. -/
structure QFrame where
  fid : Nat
  bytes : List Byte
  at16 : Nat
  src : Nat
  /-- Local instant of its timestamp point at the ingress (R163); none: the frame did not come in through a port. -/
  rx16 : Option Nat := none
  stomp : Bool := false
  deriving DecidableEq, Repr

/-- An egress queue besides its registers. -/
structure EgressQ where
  frames : List QFrame := []
  /-- The finish tag of the head (R323). -/
  fin : Nat := 0
  /-- The credit of R324 in units of 10^-6 × 2^-16 bits, and when it was brought up to date. -/
  credit : Int := 0
  creditAt16 : Nat := 0
  /-- GUARD_HOLD has been counted for this gate opening (R327). -/
  held : Bool := false
  /-- Samples of the current window: depth and delay (R331). -/
  samples : List (Nat × Nat) := []
  deriving DecidableEq, Repr

/-- A frame that a port is sending: the queue it counts for, whether it goes cut-through, when it started, when its line
is free again (none: a cut-through frame whose end is not known yet). -/
structure Sending where
  q : Nat
  cut : Bool := false
  frame : QFrame
  start16 : Nat
  end16 : Option Nat
  deriving DecidableEq, Repr

/-- A frame whose first 64 bytes are in: what its forwarding decision gave (R311, R320). `head` are its bytes so far, `egress`
the ports that it goes to cut-through, `seq` its number on the ring if it is originated there, `judged` says that its
meter has let it pass, `drop` that it is dropped, `rx16` is its timestamp point at the ingress (R163). -/
structure CutThrough where
  fid : Nat
  start16 : Nat
  gen : Gen
  head : List Byte := []
  egress : List Nat := []
  seq : Option Nat := none
  judged : Bool := false
  drop : Bool := false
  rx16 : Nat := 0
  deriving DecidableEq, Repr

/-- A requested takeover of a sluice list: its disciplined time, whether it starts late, its words. -/
structure Takeover where
  due : Int
  late : Bool
  words : List (Nat × Word)
  deriving DecidableEq, Repr

/-- A sealed takeover (R177) and its local instant; `own` says that it is the takeover of the list that is still pending. -/
structure SealedTake where
  at16 : Nat
  take : Takeover
  own : Bool := true
  deriving DecidableEq, Repr

/-- The sluice list of a port (R325, R326). -/
structure ListRun where
  pending : Bool := false
  /-- The takeover that was requested, and one that is sealed and that nothing cancels any more (R177). -/
  take : Option Takeover := none
  sealedTake : Option SealedTake := none
  active : Bool := false
  words : List (Nat × Word) := []
  onLocal : Bool := false
  base : Int := 0
  entry : Nat := 0
  /-- Local instant of the end of the current entry, and of the start of the cycle. -/
  end16 : Option Nat := none
  start16 : Nat := 0
  /-- Re-phase (R186): the disciplined time at which entry 0 starts. -/
  resume : Option Int := none
  deriving DecidableEq, Repr

/-- An entry of the two-step stamp queue (R332). -/
structure StampEntry where
  word : Word
  time : DWord
  deriving DecidableEq, Repr

/-- A switch port besides its registers. -/
structure PortState where
  vt : Nat := 0
  sending : Option Sending := none
  cut : Option CutThrough := none
  list : ListRun := {}
  stamps : List StampEntry := []
  /-- When the port last became idle or its queues were emptied (R309), and when it is awake again. -/
  idle16 : Nat := 0
  wake16 : Option Nat := none
  lastSample16 : Nat := 0
  deriving DecidableEq, Repr

/-- A frame of the saltern: its pans and how many queues and lines hold it. -/
structure PanUse where
  pans : Nat := 0
  refs : Nat := 0
  deriving DecidableEq, Repr

/-! ## The ring -/

/-- The duplicate window of a source (R344). -/
structure RingWin where
  active : Bool := false
  hi : Nat := 0
  seen : Nat := 0
  lane : Nat := 0
  last16 : Nat := 0
  deriving DecidableEq, Repr

/-- What supervision frames said last of a node (R348): PRIORITY1, PRIORITY2, CLOCK_ID. -/
structure RingPeer where
  prio1 : Nat
  prio2 : Nat
  clock : Nat
  deriving DecidableEq, Repr

/-- One of the two chains of ring time (R351): stepsRemoved, last offset, last Sync. -/
structure RingChain where
  steps : Nat
  offset : Int
  last16 : Nat
  deriving DecidableEq, Repr

/-- The ring besides its registers and windows. -/
structure RingState where
  seq : Nat := 0
  /-- The end of the quiet time of R347, once a link has come up. -/
  quiet16 : Option Nat := none
  quietOver : Bool := false
  /-- R350: origination has stopped. -/
  stopped : Bool := false
  /-- SEQ and time of the last PERIODIC frame, and its return times in ns on A and B (R349). A SEQ of 65,536 is none:
  a FAULT frame has come since, and only the next frame counts. -/
  periodic : Option (Nat × Nat) := none
  returned : List (Option Nat) := [none, none]
  announce16 : Nat := 0
  neighbours : List (Option Nat) := [none, none]
  chains : List (Option RingChain) := [none, none]
  /-- The links known to be down (R353): sender × 2 + port of the FAULT frame or of the own link, and the peer. -/
  faults : List (Nat × Nat) := []
  lastSync16 : Nat := 0
  /-- How many entries of `out` port M has looked through for frames of the management engine. -/
  taken : Nat := 0
  deriving DecidableEq, Repr

/-! ## The cipher engine -/

/-- A key slot besides its registers: its key, the draining one with its generation, and the items in flight on
each (R402). -/
structure KeySlot where
  key : List Byte := []
  items : Nat := 0
  old : Option (List Byte × Nat) := none
  oldItems : Nat := 0
  deriving DecidableEq, Repr

/-- The freshness state of a policy (R417, R420), the slot generation it belongs to, and when its last
resynchronisation frame went, by CAN unit. -/
structure PolState where
  fv : Nat := 0
  none : Bool := true
  gen : Nat := 0
  resync : List (Nat × Nat) := []
  deriving DecidableEq, Repr

/-- What waits in the hold buffer (R414): a chain item with its route, or a frame to forward. -/
inductive HeldKind where
  | chain (item : ChainItem) (route : Nat)
  /-- An Ethernet frame, with the time stamp and the phase stamps of its end (R95) and its timestamp point (R163). -/
  | eth (port : Nat) (filter : Nat) (stamps : Word × List Word) (rx16 : Option Nat) (bytes : List Byte)
  /-- An item that needs no verification and waits for an earlier one of its source (R214); it takes no room. -/
  | after (item : ChainItem) (route : Nat)
  deriving DecidableEq, Repr

structure HoldEntry where
  /-- The table generation the frame was accepted under (R74). -/
  tgen : Gen
  policy : Nat
  slot : Nat
  gen : Nat
  key : List Byte
  /-- Whether the item could take an invocation of its slot (R406, R415). -/
  usable : Bool
  units : Nat
  kind : HeldKind
  /-- For a CAN frame that also goes to the receive queue: the unit and the filter. -/
  rxq : Option (Nat × Nat) := none
  deriving DecidableEq, Repr

/-- A job in progress on a job ring (R408 to R412). -/
structure Job where
  index : Nat
  desc : List Word
  /-- The status it will end with, decided at its start. -/
  status : Nat
  gen : Nat
  key : List Byte
  fixed : Nat
  count : Nat
  deriving DecidableEq, Repr

structure JobRing where
  /-- Latched at enable: DESC_BASE, CPL_BASE, SIZE. -/
  desc : Nat := 0
  cpl : Nat := 0
  size : Nat := 4
  phase : Bool := true
  job : Option Job := none
  /-- The path the job started on. -/
  path : Nat := 0
  deriving DecidableEq, Repr

/-! ## Scheduled actions -/

/-- A sealed release (R177): the words of its entry, its local instant in 2^-16 ns, whether the entry has not been
written since, and what Table 5.2, R176 and R178 have found of it, as in `ActEntry`. -/
structure Sealed where
  words : List Word
  at16 : Nat
  mine : Bool
  late : Bool := false
  crowded : Bool := false
  lateDies : List Nat := []
  held : List Nat := []
  deriving DecidableEq, Repr

/-- An entry of the action table (R170, R179). -/
structure ActEntry where
  /-- The sixteen words of Table 5.1. -/
  words : List Word := List.replicate 16 0
  /-- 0 DISARMED, 1 ARMED, 2 FIRED, 3 SKIPPED. -/
  state : Nat := 0
  lateStart : Bool := false
  last : Word := 0
  count : Word := 0
  /-- The trigger time of a time trigger: the next release, in ns of disciplined time (R171, R183). -/
  due : Int := 0
  /-- The release instant on the local counter in 2^-16 ns, once it is fixed (R174, R177, R180). -/
  relAt : Option Nat := none
  dispatched : Bool := false
  /-- The release to come was found late (R180). -/
  late : Bool := false
  /-- The release to come has been delayed by R178. -/
  crowded : Bool := false
  /-- The entry was disarmed, replaced or re-phased while these releases were sealed: each still takes place (R177, R80). -/
  ghost : List Sealed := []
  /-- Releases that have taken place while the message of a port die was held up (R176). -/
  await : List Sealed := []
  /-- The entry was armed while its tracker was in SEARCH or CAPTURE: it is judged at KEYSTONE (R181). -/
  waits : Bool := false
  /-- Where the entry's tracker stood when the entry was armed, while the tracker is locked: what it had passed by then
  is no crossing for the entry (R174, R181). -/
  armPos : Option Nat := none
  /-- The port dies that this release's message reached late (R176). -/
  lateDies : List Nat := []
  /-- The port dies whose message of this release a mortar-link failover holds up (R38, R176). -/
  held : List Nat := []
  deriving DecidableEq, Repr

/-! ## Time and phase -/

/-- The priority vector of a master as one number with its stepsRemoved, who announced it, and when (R162). -/
structure Announce where
  key : Nat
  steps : Nat
  src : List Byte
  at16 : Nat
  deriving DecidableEq, Repr

/-- A Sync on its way out: its number, stepsRemoved, and for a relay the origin of the time with its correction and the
local instant at which the Sync came in. -/
structure SyncOut where
  seq : Nat
  steps : Nat
  origin16 : Int
  corr16 : Int
  rx16 : Option Nat
  deriving DecidableEq, Repr

/-- A gPTP port of the management engine (R162): its Pdelay_Req with number and departure, the answer's receipt time and
arrival, the link delay, the last Announce, the Sync that waits for its Follow_Up (number, arrival, correction), the one on
its way out, its counters, and when its next messages are due. -/
structure GptpPort where
  seq : Nat := 0
  req : Option (Nat × Nat) := none
  resp : Option (Int × Nat) := none
  delay16 : Option Nat := none
  ann : Option Announce := none
  sync : Option (Nat × Nat × Int) := none
  syncOut : Option SyncOut := none
  annSeq : Nat := 0
  syncSeq : Nat := 0
  reqDue16 : Nat := 0
  annDue16 : Nat := 0
  syncDue16 : Nat := 0
  deriving DecidableEq, Repr

/-- The time base (R158 to R160); times in units of 2^-16 ns. -/
structure TimeBase where
  /-- The local counter. -/
  local16 : Nat := 0
  offset16 : Int := 0
  anchor16 : Nat := 0
  /-- What was left to slew at `slewAt16`. -/
  slew16 : Int := 0
  slewAt16 : Nat := 0
  /-- Local counter at the last accepted PPS_IN edge. -/
  lastPps : Option Nat := none
  /-- The pin PPS_OUT. -/
  ppsOut : Bool := false
  ppsOutAt : Nat := 0
  /-- The disciplined second of the next PPS_OUT rise still to come (R165). -/
  ppsNext : Nat := 0
  /-- The gPTP ports of the management engine. -/
  gptp : Tbl GptpPort := []
  deriving DecidableEq, Repr

/-- A phase tracker besides its registers. Positions are 48-bit (R141), times local 2^-16 ns, rates exact
fractions of counts over local time. -/
structure Tracker where
  /-- Position at `at16`. -/
  pos : Nat := 0
  at16 : Nat := 0
  /-- Running rate: counts over 2^-16 ns. -/
  runN : Int := 0
  runD : Nat := 1
  /-- Rate estimate (R143). -/
  estN : Int := 0
  estD : Nat := 1
  /-- Counts still to be slewed (R149). -/
  slew : Int := 0
  /-- The position the tracker may not pass: that of the next expected reference point (R142). -/
  limit : Option Nat := none
  hw : Nat := 0
  /-- The last reference point: the position it stands for and its time. -/
  refPos : Nat := 0
  ref16 : Option Nat := none
  /-- The last course edge (mains). -/
  edge16 : Option Nat := none
  /-- The last two tooth intervals (wheel), newest first. -/
  ivals : List Nat := []
  /-- The number the last tooth stands for (wheel). -/
  tooth : Nat := 0
  /-- A slip is running (R151): teeth are numbered in plain order. -/
  slipping : Bool := false
  /-- Every reference point of this course had a small error (R145). -/
  courseOk : Bool := true
  lockRun : Nat := 0
  /-- Courses counted in HOLDOVER. -/
  holdStart : Nat := 0
  /-- Decoded encoder count within the course. -/
  count : Int := 0
  /-- The last count went up. -/
  wasUp : Bool := false
  /-- Local counter at the last decoded count (R139). -/
  count16 : Option Nat := none
  /-- Local counter at the last synthetic reference point (R135). -/
  syn16 : Option Nat := none
  /-- The rate of the last reference point, from which C of R174 is computed: counts over 2^-16 ns. -/
  compN : Int := 0
  compD : Nat := 1
  deriving DecidableEq, Repr

/-! ## Health, reset and supplies -/

/-- The health monitor besides its registers. Items stand by their item ID (Table 14.6). -/
structure HltState where
  /-- The targeted self-tests that run: item, and the fault-log CODE of its error (R460). -/
  testing : List (Nat × Nat) := []
  /-- The transient history (R460): item, and the local counter when its transient was found, negative for one found
  before the last reset. -/
  history : List (Nat × Int) := []
  /-- Remapped rows, newest first: bank and row (R460, R461). -/
  remapped : List (Nat × Nat) := []
  /-- Banks with a lasting uncorrectable fault, and SerDes lanes with a lasting fault (R464). -/
  badBanks : List Nat := []
  badLanes : List Nat := []
  /-- Bit 4 r + c: the spare of that cluster is retired. Bit e: engine e is retired. -/
  badSpares : Nat := 0
  badEngines : Nat := 0
  /-- Mortar links with a lasting fault. -/
  badLinks : List Nat := []
  /-- Units whose self-test has passed and that wait to take their work back (R463). -/
  toReturn : List Nat := []
  /-- The management engine restarts its firmware (R462). -/
  meDown : Bool := false
  /-- OPT_PROGRAM in progress: the copy it writes, the bytes, and whether CONFIRM started it (R454). -/
  program : Option (Nat × List Byte × Bool) := none
  /-- Local counter at the end of the last patrol sweep that was counted (R457). -/
  sweep16 : Nat := 0
  deriving DecidableEq, Repr

/-- The update manager besides its registers (Table 13.2). -/
structure UpdState where
  /-- The pieces whose bit of the bitmap is cleared (R429). -/
  stored : List Nat := []
  /-- The piece that is being programmed and read back. -/
  storing : Option (Nat × List Byte) := none
  /-- The fall-back handover is set up (R437). -/
  fallback : Bool := false
  /-- The engines pause in a handover (R438). -/
  paused : Bool := false
  deriving DecidableEq, Repr

/-- Supplies, reset pins, mortar links, temperatures and region clocks besides their registers. -/
structure DevState where
  /-- The supplies of R445 that are valid: VDD_CORE, VDD_PORT, VDD_SRD, VDDA_SRD, VIO_18, VDD_NVM from bit 0. -/
  supplies : Nat := 63
  /-- The latched buffer class of each VIO_F bank: 0 none, 1 the 1.8 V, 2 the 2.5 V, 3 the 3.3 V class (R476). -/
  classes : List Nat := List.replicate 16 0
  /-- The pin RESET_N is high; the device is held in reset; the reset under way is a power-on (R445, R446). -/
  resetN : Bool := true
  held : Bool := false
  por : Bool := false
  /-- Bit n: PERSTn_N is low (R483). -/
  perst : Nat := 0
  /-- Uncorrectable receptions in a row on each mortar link: the codeword and its failed replays (R38). -/
  replays : List Nat := [0, 0, 0, 0]
  /-- Bit k: DIE_HOT of core die, port die 0, port die 1 may not be posted again yet (R43). -/
  hot : Nat := 0
  /-- Local counter at the last change of each region's clock step (R32). -/
  stepAt16 : List Nat := List.replicate 8 0
  /-- Local counter at the last arrival of work in each region (Table 1.8). -/
  work16 : List Nat := List.replicate 8 0
  /-- Local counter at which each mortar link went DOWN or was last retrained (R39). -/
  retrain16 : List Nat := [0, 0, 0, 0]
  /-- Local counter at the last temperature measurement (R42). -/
  temp16 : Nat := 0
  deriving DecidableEq, Repr

/-- The state of the XJG. -/
structure State where
  /-- The registers, by page-window address. -/
  regs : Tbl Word := []
  /-- Byte memories by page-window address: engine memories, inbound memory, retained memory, piece windows,
  option buffers. -/
  mem : Tbl Byte := []
  /-- The configuration flash (Table 2.4). -/
  flash : Tbl Byte := []
  /-- B-field writes waiting for their boundary, oldest first. -/
  staged : List Staged := []
  /-- The holding register of each page. -/
  hold : Tbl Holding := []
  /-- Event queue q of page p at 4 p + q. -/
  eqs : Tbl EvQueue := []
  /-- Everything sent so far. -/
  out : List Emit := []
  /-- Advanced by every use of a free value. The model's own. -/
  freeCnt : Nat := 0
  /-- Active table words (`tkey`). -/
  tbl : Tbl Word := []
  /-- The tables of the draining generation. -/
  tblOld : Tbl Word := []
  str : StrState := {}
  stores : List StoreHalf := []
  archive : Option StoreHalf := none
  cells : Tbl Cell := []
  sig : SigState := {}
  pages : Tbl PageState := []
  tb : TimeBase := {}
  trk : Tbl Tracker := []
  limits : Tbl Credit := []
  evRoutes : Tbl EvRoute := []
  pdus : Tbl PduState := []
  engines : Tbl Engine := []
  /-- Bit r: the table memories of region r are waking (R33). -/
  waking : Nat := 0
  /-- Bit u: the work of unit u is carried by its spare (R22). -/
  spared : Nat := 0
  /-- Mailbox m of CAN unit n at 64 n + m. -/
  mbs : Tbl Mailbox := []
  can : Tbl CanUnit := []
  lanes : Tbl Lane := []
  banks : Tbl Bank := []
  /-- Egress queue q of port p at 8 p + q. -/
  queues : Tbl EgressQ := []
  ports : Tbl PortState := []
  saltern : Tbl PanUse := []
  /-- Last SEQ of gateway PDUs by stream filter entry (R314). -/
  pduSeq : Tbl (Option Nat) := []
  ringWins : Tbl RingWin := []
  ringPeers : Tbl (Option RingPeer) := []
  ring : RingState := {}
  slots : Tbl KeySlot := []
  pols : Tbl PolState := []
  holdBuf : List HoldEntry := []
  bridge : BridgeState := {}
  /-- Job ring r of page p at 2 p + r. -/
  rings : Tbl JobRing := []
  /-- The job ring (2 p + r) at which the round-robin of R399 looks next. -/
  jobTurn : Nat := 0
  acts : Tbl ActEntry := []
  /-- The last release instant and how many entries released at it (R178). -/
  crowd : Nat × Nat := (0, 0)
  hlt : HltState := {}
  dev : DevState := {}
  upd : UpdState := {}
  /-- The option store: copy k at 1,024 k (R451). -/
  opts : Tbl Byte := []
  /-- The pin FIELD_READY (R449). -/
  fieldReady : Bool := false
  /-- Numbers for batches and invocations. The model's own. -/
  nextId : Nat := 0
  /-- Commands waiting, first in, first out. -/
  pending : List Instr := []
  deriving DecidableEq, Repr

/-! ## Reset -/

/-- The content that the model gives both option copies and the loaded one: MAGIC, CRC, all else 0 (Table 14.4;
notes/assumptions/4.md). -/
def optDefault (base : Nat) : Tbl Byte :=
  [(base, 0x58), (base + 1, 0x4A), (base + 2, 0x4F), (base + 3, 0x50),
   (base + 1020, 0x08), (base + 1021, 0x94), (base + 1022, 0xE6), (base + 1023, 0xAA)]

/-- The XJG right after the release of a power-on reset (R446 to R449, R452): every register at its Reset column, the
reset cause POR, the loaded option copy, and the RESET entry of the fault log. -/
def State.reset : State :=
  { regs := [(0x190008, 1), (0x190200, 1)]
    mem := optDefault 0x191000 ++ [(0x19300B, 0x0C), (0x19300C, 1)]
    opts := optDefault 0 ++ optDefault 1024 }

end Sys2Proof.Machine
end

