-- ==== Sys2Proof/Machine/Ops.lean ====
section
/-!
DEFINITION. The operations every meaning is written over: registers and their fields, counters, byte memory, table
words, time, event queues. Each is a record update of the fields it may change, so what it leaves alone is plain.
-/

namespace Sys2Proof.Machine

/-! ## Registers -/

/-- Reset values within a page (Tables 3.10, 11.5, 12.7). -/
def pageDefault (off : Nat) : Nat :=
  if off = 0x8 then 0x10
  else if off = 0x10104 then 1
  else if 0x10204 ≤ off ∧ off ≤ 0x103FC ∧ off % 8 = 4 then 1
  else if off = 0x20000 ∨ off = 0x20100 then 0x140
  else 0

/-- What a register that nothing has changed reads: the number its Reset column gives, 0 for IMG (R19); values that
the option store, the fuses or a memory kept across reset give are held elsewhere (notes/assumptions/4.md). -/
def regDefault (a : Nat) : Word :=
  w32 (
    if 0x3000000 ≤ a ∧ a < 0x3800000 then pageDefault (a % 0x100000)
    else if a = 0x100000 then 0x48002100
    else if a = 0x100004 then 0x4802
    else if a = 0x100008 then 0x2480054F
    else if a = 0x100110 then 0x55
    else if a = 0x10014C then 0x8C0
    else if a = 0x1B0054 then 0x1000
    else if a = 0x130048 then 0x3E8
    else if a = 0x13004C then 0x1F4
    else if a = 0x13006C then 0x186A0
    else if a = 0x15000C then 0xC000C000
    else if 0x151000 ≤ a ∧ a < 0x152800 ∧ a % 0x100 = 0x14 then 0xFF
    else if a = 0x180020 then 0x1000
    else if a = 0x190010 then 0x80000
    else if a = 0x190014 then 0x5A0
    else if a = 0x1B0000 ∨ a = 0x180000 ∨ a = 0x190000 then 1
    else 0)

/-- The register at a page-window address. -/
def State.rd (s : State) (a : Nat) : Word := Tbl.get regDefault s.regs a

/-- Set a register. -/
def State.wr (s : State) (a : Nat) (v : Word) : State := { s with regs := Tbl.set regDefault s.regs a v }

/-- A field of a register. -/
def State.fld (s : State) (f : Fld) : Nat := getBits (s.rd f.addr) f.lsb f.width

/-- Set a field of a register; the rest of the register stays. -/
def State.setFld (s : State) (f : Fld) (v : Nat) : State :=
  s.wr f.addr (putBits (s.rd f.addr) f.lsb f.width v)

/-- A one-bit field is 1. -/
def State.flag (s : State) (f : Fld) : Bool := s.fld f == 1

/-- A lost or error counter counts one and saturates (R10). -/
def State.bump (s : State) (a : Nat) : State := s.wr a (satInc (s.rd a))

/-- A counter that wraps counts one (R10). -/
def State.tick (s : State) (a : Nat) : State := s.wr a (s.rd a + 1)

/-- A 64-bit counter in two registers, low word at `lo`, counts `n` and wraps (R10). -/
def State.add64 (s : State) (lo n : Nat) : State :=
  let v := mkDWord (s.rd lo) (s.rd (lo + 4)) + BitVec.ofNat 64 n
  (s.wr lo (loWord v)).wr (lo + 4) (hiWord v)

/-- A 64-bit value in two registers. -/
def State.rd64 (s : State) (lo : Nat) : DWord := mkDWord (s.rd lo) (s.rd (lo + 4))

/-- Set a 64-bit value in two registers. -/
def State.wr64 (s : State) (lo : Nat) (v : DWord) : State := (s.wr lo (loWord v)).wr (lo + 4) (hiWord v)

/-- The status register of the block or unit whose page starts at `base` (Table 2.7). -/
abbrev bstatRun (base : Nat) : Fld := ⟨base, 0, 1⟩
/-- WRITE_REFUSED of a block. -/
abbrev bstatRefused (base : Nat) : Fld := ⟨base, 1, 1⟩
/-- APPLIED of a block. -/
abbrev bstatApplied (base : Nat) : Fld := ⟨base, 2, 1⟩

/-- Both mortar links of port die `d` are DOWN (R40). -/
def State.dieCut (s : State) (d : Nat) : Bool :=
  s.fld ⟨Reg.GEN_MORTAR_STATE, 4 * d, 2⟩ == 2 && s.fld ⟨Reg.GEN_MORTAR_STATE, 4 * d + 2, 2⟩ == 2

/-- Unit `u` is running (R85) and not in the safe state of a cut-off die (R40). -/
def State.running (s : State) (u : Nat) : Bool :=
  s.flag (bstatRun (Reg.unitBase u)) && !s.dieCut (u / 128)

/-- The STR_UNIT_STOP bit of unit `u` (R89). -/
def State.stopBit (s : State) (u : Nat) : Bool := s.flag ⟨Reg.STR_UNIT_STOP (u / 32), u % 32, 1⟩

/-! ## Byte memory and flash -/

/-- RAM reads 0 where nothing has been written (notes/assumptions/5.md). -/
def memDefault : Nat → Byte := fun _ => 0
/-- Flash reads 0xFF where nothing has been written: erased (notes/assumptions/6.md). -/
def flashDefault : Nat → Byte := fun _ => 0xFF

/-- One byte of memory. -/
def State.byte (s : State) (a : Nat) : Byte := Tbl.get memDefault s.mem a
/-- Write one byte of memory. -/
def State.setByte (s : State) (a : Nat) (b : Byte) : State := { s with mem := Tbl.set memDefault s.mem a b }
/-- `n` bytes of memory from `a`. -/
def State.bytes (s : State) (a n : Nat) : List Byte := Tbl.getList memDefault s.mem a n
/-- Write a run of bytes from `a`. -/
def State.setBytes (s : State) (a : Nat) (bs : List Byte) : State :=
  { s with mem := Tbl.setList memDefault s.mem a bs }
/-- A little-endian word of memory (R8). -/
def State.memWord (s : State) (a : Nat) : Word := w32 (leNat (s.bytes a 4))
/-- Write a little-endian word of memory (R8). -/
def State.setMemWord (s : State) (a : Nat) (v : Word) : State := s.setBytes a (leBytes 4 v.toNat)
/-- `n` bytes of flash from `a`. -/
def State.flashBytes (s : State) (a n : Nat) : List Byte := Tbl.getList flashDefault s.flash a n
/-- Program a run of flash bytes. -/
def State.setFlash (s : State) (a : Nat) (bs : List Byte) : State :=
  { s with flash := Tbl.setList flashDefault s.flash a bs }

/-- The memories hold their canonical form. -/
def Memory.wf (s : State) : Bool := Tbl.wf memDefault s.mem && Tbl.wf flashDefault s.flash

/-! ## The loaded options -/

/-- Byte `off` of the option copy loaded (HLT_OPT_LOADED, Table 14.4). -/
def State.optByte (s : State) (off : Nat) : Nat := (s.byte (0x191000 + off)).toNat
/-- The owner page (R360). -/
def State.owner (s : State) : Nat := s.optByte 0x8 % 8
/-- This node's ring number (R338). -/
def State.node (s : State) : Nat := s.optByte 0xA % 64
/-- The primary path of a page (R362); in option fail-safe, P0 for page 0 (R455). -/
def State.primary (s : State) (p : Nat) : Nat :=
  if s.flag Reg.HLT_RESET_CAUSE_OPT_FAIL then (if p = 0 then 1 else 0) else s.optByte (0xC + p) % 8
/-- The secondary path of a page (R362). -/
def State.secondary (s : State) (p : Nat) : Nat := s.optByte (0xC + p) / 16 % 8

/-- A saturating counter counts `k` more (R10). -/
def State.bumpBy (s : State) (r k : Nat) : State := s.wr r (satWord ((s.rd r).toNat + k))

/-! ## Output and free values -/

/-- Something leaves the part. -/
def State.emit (s : State) (e : Emit) : State := { s with out := s.out ++ [e] }

/-- A free value is used: the next use takes another. -/
def State.useFree (s : State) : State := { s with freeCnt := s.freeCnt + 1 }

/-! ## Tables -/

/-- The key of word `w` of entry `idx` of the table that section `sec` with SCOPE `scope` fills. -/
def tkey (sec scope idx w : Nat) : Nat := ((sec * 65536 + scope) * 1048576 + idx) * 16 + w

/-- The empty entry of every table is all zeros (R500). -/
def tblDefault : Nat → Word := fun _ => 0

/-- The tables of a generation (R74, R76). -/
def State.tables (s : State) (g : Gen) : Tbl Word := if g = s.rd Reg.STR_GEN then s.tbl else s.tblOld

/-- The generation of an item that arrived at local instant `t` (R74): before the last switch, the old one. -/
def State.genAt (s : State) (t : Nat) : Gen :=
  if t < s.str.switch16 then s.rd Reg.STR_GEN_DRAIN else s.rd Reg.STR_GEN

/-- A word of an active table entry. -/
def State.tw (s : State) (sec scope idx w : Nat) : Nat := (Tbl.get tblDefault s.tbl (tkey sec scope idx w)).toNat

/-- A word of a table entry in the generation of an item (R74). -/
def State.twG (s : State) (g : Gen) (sec scope idx w : Nat) : Nat :=
  (Tbl.get tblDefault (s.tables g) (tkey sec scope idx w)).toNat

/-- The entries of a section's table whose word `w` is not 0, in ascending order. -/
def State.entriesAt (s : State) (g : Gen) (sec scope w : Nat) : List Nat :=
  (s.tables g).filterMap fun kv =>
    if kv.1 / 16777216 = sec * 65536 + scope ∧ kv.1 % 16 = w then some (kv.1 / 16 % 1048576) else none

/-- SCOPE of a device-wide section (Table 2.3a). -/
abbrev devScope : Nat := 0xFFFF

/-- Bits of a table word. -/
def bits (x lsb n : Nat) : Nat := x / 2 ^ lsb % 2 ^ n

/-! ## Time -/

/-- SLEW_PPM: 0 and values above 500 act as 500. -/
def State.slewPpm (s : State) : Nat :=
  let v := s.fld Reg.TMB_SLEW_SLEW_PPM
  if v = 0 ∨ 500 < v then 500 else v

/-- How much of a slew is absorbed at local time `l` (R160). -/
def State.slewDone (s : State) (l : Nat) : Int :=
  let m : Nat := min s.tb.slew16.natAbs (s.slewPpm * (l - s.tb.slewAt16) / 1000000)
  if s.tb.slew16 < 0 then -(m : Int) else m

/-- The rate term of R159 at local time `l`. -/
def State.rateTerm (s : State) (l : Nat) : Int :=
  sgn 32 (s.rd Reg.TMB_RATE).toNat * ((l : Int) - s.tb.anchor16) / (2 ^ 40 : Nat)

/-- Disciplined time at local time `l`, in 2^-16 ns (R159, R160). -/
def State.disc16At (s : State) (l : Nat) : Int := (l : Int) + s.tb.offset16 + s.slewDone l + s.rateTerm l

/-- Disciplined time now, in 2^-16 ns. -/
def State.disc16 (s : State) : Int := s.disc16At s.tb.local16

/-- Disciplined time now, in ns. -/
def State.disc (s : State) : Int := s.disc16 / 65536

/-- The time stamp of now: the low 32 bits of disciplined time (R95, R167). -/
def State.stamp (s : State) : Word := BitVec.ofInt 32 s.disc

/-- The time stamp of a local instant. -/
def State.stampAt (s : State) (l : Nat) : Word := BitVec.ofInt 32 (s.disc16At l / 65536)

/-- One tick of the time base: 2 ns (Table 1.4). -/
abbrev tick16 : Nat := 131072
/-- One microsecond of the local counter. -/
abbrev us16 : Nat := 65536000

/-- A time in 2^-16 ns in whole ns, rounded up: the first whole ns that is not earlier. -/
def ceilNs (t16 : Int) : Int := -((-t16) / 65536)

/-- Disciplined time now, in whole ns, rounded up. -/
def State.discUp (s : State) : Int := ceilNs s.disc16

/-- What `f` does, taken at local instant `l`; the counter then stands where it stood. -/
def State.asOf (s : State) (l : Nat) (f : State → State) : State :=
  let t := f { s with tb := { s.tb with local16 := l } }
  { t with tb := { t.tb with local16 := s.tb.local16 } }

/-- Round a local instant up to the next tick (R174). -/
def tickUp (l : Nat) : Nat := ceilDiv l tick16 * tick16

/-- The first tick from `l` on at which disciplined time reaches `t` ns, within `n` ticks (R174). -/
def State.firstTick (s : State) (t : Int) (l : Nat) : Nat → Nat
  | 0 => l
  | n + 1 => if t * 65536 ≤ s.disc16At l then l else s.firstTick t (l + tick16) n

/-- A local instant near which disciplined time is `t16`: from `l` on, each of `n` steps corrects by what is missing. -/
def State.localNear (s : State) (t16 : Int) (l : Nat) : Nat → Nat
  | 0 => l
  | n + 1 => s.localNear t16 ((l : Int) + (t16 - s.disc16At l)).toNat n

/-- The first tick from now on at which disciplined time reaches `t` ns. The rate and a slew are below 0.2 percent, so
eight steps come within a tick of it. -/
def State.localOf (s : State) (t : Int) : Nat :=
  s.firstTick t (tickUp (max s.tb.local16 (s.localNear (t * 65536) s.tb.local16 8 - 4 * tick16))) 8

/-! ## Sparse arrays of records -/

/-- A cell (R93). -/
def State.cell (s : State) (n : Nat) : Cell := Tbl.get (fun _ => {}) s.cells n
/-- Set a cell. -/
def State.setCell (s : State) (n : Nat) (c : Cell) : State := { s with cells := Tbl.set (fun _ => {}) s.cells n c }
/-- A page's state. -/
def State.page (s : State) (p : Nat) : PageState := Tbl.get (fun _ => {}) s.pages p
/-- Set a page's state. -/
def State.setPage (s : State) (p : Nat) (x : PageState) : State :=
  { s with pages := Tbl.set (fun _ => {}) s.pages p x }
/-- A phase tracker. -/
def State.tracker (s : State) (n : Nat) : Tracker := Tbl.get (fun _ => {}) s.trk n
/-- Set a phase tracker. -/
def State.setTracker (s : State) (n : Nat) (t : Tracker) : State :=
  { s with trk := Tbl.set (fun _ => {}) s.trk n t }
/-- A signal engine; 8 is the management engine. -/
def State.engine (s : State) (e : Nat) : Engine := Tbl.get (fun _ => {}) s.engines e
/-- Set a signal engine. -/
def State.setEngine (s : State) (e : Nat) (x : Engine) : State :=
  { s with engines := Tbl.set (fun _ => {}) s.engines e x }
/-- An entry of the action table. -/
def State.act (s : State) (e : Nat) : ActEntry := Tbl.get (fun _ => {}) s.acts e
/-- Set an entry of the action table. -/
def State.setAct (s : State) (e : Nat) (x : ActEntry) : State :=
  { s with acts := Tbl.set (fun _ => {}) s.acts e x }

/-- A mailbox of a CAN unit. -/
def State.mb (s : State) (n m : Nat) : Mailbox := Tbl.get (fun _ => {}) s.mbs (64 * n + m)
/-- Set a mailbox. -/
def State.setMb (s : State) (n m : Nat) (x : Mailbox) : State :=
  { s with mbs := Tbl.set (fun _ => {}) s.mbs (64 * n + m) x }
/-- A CAN unit. -/
def State.canU (s : State) (n : Nat) : CanUnit := Tbl.get (fun _ => {}) s.can n
/-- Set a CAN unit. -/
def State.setCan (s : State) (n : Nat) (x : CanUnit) : State := { s with can := Tbl.set (fun _ => {}) s.can n x }
/-- A serial lane. -/
def State.lane (s : State) (n : Nat) : Lane := Tbl.get (fun _ => {}) s.lanes n
/-- Set a serial lane. -/
def State.setLane (s : State) (n : Nat) (x : Lane) : State := { s with lanes := Tbl.set (fun _ => {}) s.lanes n x }
/-- A discrete bank. -/
def State.bank (s : State) (b : Nat) : Bank := Tbl.get (fun _ => {}) s.banks b
/-- Set a discrete bank. -/
def State.setBank (s : State) (b : Nat) (x : Bank) : State := { s with banks := Tbl.set (fun _ => {}) s.banks b x }
/-- An egress queue. -/
def State.queue (s : State) (p q : Nat) : EgressQ := Tbl.get (fun _ => {}) s.queues (8 * p + q)
/-- Set an egress queue. -/
def State.setQueue (s : State) (p q : Nat) (x : EgressQ) : State :=
  { s with queues := Tbl.set (fun _ => {}) s.queues (8 * p + q) x }
/-- A switch port. -/
def State.port (s : State) (p : Nat) : PortState := Tbl.get (fun _ => {}) s.ports p
/-- Set a switch port. -/
def State.setPort (s : State) (p : Nat) (x : PortState) : State :=
  { s with ports := Tbl.set (fun _ => {}) s.ports p x }
/-- A key slot. -/
def State.slot (s : State) (k : Nat) : KeySlot := Tbl.get (fun _ => {}) s.slots k
/-- Set a key slot. -/
def State.setSlot (s : State) (k : Nat) (x : KeySlot) : State := { s with slots := Tbl.set (fun _ => {}) s.slots k x }
/-- The freshness state of a cipher policy. -/
def State.pol (s : State) (i : Nat) : PolState := Tbl.get (fun _ => {}) s.pols i
/-- Set the freshness state of a cipher policy. -/
def State.setPol (s : State) (i : Nat) (x : PolState) : State := { s with pols := Tbl.set (fun _ => {}) s.pols i x }
/-- A job ring. -/
def State.jring (s : State) (p r : Nat) : JobRing := Tbl.get (fun _ => {}) s.rings (2 * p + r)
/-- Set a job ring. -/
def State.setJring (s : State) (p r : Nat) (x : JobRing) : State :=
  { s with rings := Tbl.set (fun _ => {}) s.rings (2 * p + r) x }
/-- The duplicate window of a ring source. -/
def State.ringWin (s : State) (n : Nat) : RingWin := Tbl.get (fun _ => {}) s.ringWins n
/-- Set the duplicate window of a ring source. -/
def State.setRingWin (s : State) (n : Nat) (x : RingWin) : State :=
  { s with ringWins := Tbl.set (fun _ => {}) s.ringWins n x }

/-! ## Rights (R46 to R48) -/

/-- A forbidden access: DENIED of the page and GEN_ACCESS_LAST (R48). -/
def State.deny (s : State) (p : Nat) (write : Bool) (addr : Nat) : State :=
  let t := s.setFld ⟨Reg.GEN_ACCESS_ERR, p, 1⟩ 1
  t.wr Reg.GEN_ACCESS_LAST (w32 (p * 2 ^ 29 + (if write then 2 ^ 28 else 0) + addr % 2 ^ 26))

/-- An access to a reserved range: HOLE of the page and GEN_ACCESS_LAST (R48). -/
def State.hole (s : State) (p : Nat) (write : Bool) (addr : Nat) : State :=
  let t := s.setFld ⟨Reg.GEN_ACCESS_ERR, 8 + p, 1⟩ 1
  t.wr Reg.GEN_ACCESS_LAST (w32 (p * 2 ^ 29 + (if write then 2 ^ 28 else 0) + addr % 2 ^ 26))

/-- A write that R46 reserves to the owner page: `f` for the owner, a forbidden access for any other page. -/
def State.byOwner (s : State) (p addr : Nat) (f : State → State) : State :=
  if p = s.owner then f s else s.deny p true addr

/-- Page `p` may write unit `u`'s register page and read its RC registers (R361). -/
def State.mayUnit (s : State) (p u : Nat) : Bool :=
  p == s.owner || s.flag ⟨Reg.PG_UNIT_WR p (u / 32), u % 32, 1⟩

/-- A write to unit `u`'s register page (R361). -/
def State.byUnit (s : State) (p u addr : Nat) (f : State → State) : State :=
  if s.mayUnit p u then f s else s.deny p true addr

/-! ## Event queues (R376 to R381) -/

/-- An event entry (Table 11.3), stored with VALID = 1, GAP = 0. -/
def eventEntry (code src : Nat) (data : Word) : DWord :=
  mkDWord (w32 (2 ^ 31 + code % 1024 * 2 ^ 20 + src % 2 ^ 20)) data

/-- Event queue `q` of page `p`. -/
def State.eq (s : State) (p q : Nat) : EvQueue := Tbl.get (fun _ => { entries := [] }) s.eqs (4 * p + q)

/-- GAP set in the oldest entry (R380). -/
def markGap : List DWord → List DWord
  | [] => []
  | e :: es => (e ||| BitVec.ofNat 64 (2 ^ 30)) :: es

/-- Bit q: EQq of the page has LEVEL_HIT. -/
def State.hitMask (s : State) (p : Nat) : Nat :=
  ((List.range 4).map fun q => 2 ^ q * s.fld (Reg.EQ_STATE_LEVEL_HIT p q)).sum

/-- Signal a page for queue `q` on its active path: its MSI-X vector on PCIe, one EVENT_NOTE elsewhere (R365,
R370, R381). -/
def State.signal (s : State) (p q : Nat) : State :=
  { s with out :=
      let path := s.fld (Reg.PG_PATH_ACTIVE p)
      if path = 0 then s.out
      else if path ≤ 2 then
        (if (s.page p).msixOn.getD (path - 1) false then s.out ++ [.msix p q] else s.out)
      else s.out ++ [.eventNote p path (s.hitMask p)] }

/-- The depth of a queue has risen above LEVEL: LEVEL_HIT, and one signal if IE = 1 (R381). -/
def State.levelRise (s : State) (p q : Nat) : State :=
  let t := s.setFld (Reg.EQ_STATE_LEVEL_HIT p q) 1
  if s.flag (Reg.EQ_CTRL_IE p q) then t.signal p q else t

/-- Post one entry to a queue (R380, R381). -/
def State.postTo (s : State) (p q : Nat) (e : DWord) : State :=
  let old := (s.eq p q).entries
  let full := decide (1024 ≤ old.length)
  let new := if full then markGap (old.tail) ++ [e] else old ++ [e]
  let t := { s with eqs := Tbl.set (fun _ => { entries := [] }) s.eqs (4 * p + q) { entries := new } }
  let t := t.tick (Reg.EQ_POSTED p q)
  let t := if full then t.bump (Reg.EQ_LOST p q) else t
  let t := t.setFld (Reg.EQ_PEAK_PEAK p q) (max (s.fld (Reg.EQ_PEAK_PEAK p q)) new.length)
  if s.fld (Reg.EQ_CTRL_LEVEL p q) < new.length ∧ old.length ≤ s.fld (Reg.EQ_CTRL_LEVEL p q)
  then t.levelRise p q else t

/-- The queues an event goes to (R378): the pages of its routing entry with their queues, or the default. -/
def State.eventTargets (s : State) (code : Nat) : List (Nat × Nat) :=
  let w := s.tw 0x0D devScope code 0
  if bits w 24 1 = 1 then
    ((List.range 8).filter fun p => bitOf w p).map fun p => (p, bits w (8 + 2 * p) 2)
  else if code = 0x010 then [] else [(s.owner, 0)]

/-- Post an event by the event-routing section (R378). -/
def State.postEvent (s : State) (code src : Nat) (data : Word) : State :=
  let t := (s.eventTargets code).foldl (fun t pq => t.postTo pq.1 pq.2 (eventEntry code src data)) s
  { s with regs := t.regs, eqs := t.eqs, out := t.out }

/-- Post an event of one page (ASHLAR_DONE, PATH_SWITCH) to that page, on its EQ (R378). -/
def State.postPage (s : State) (p code src : Nat) (data : Word) : State :=
  let w := s.tw 0x0D devScope code 0
  let q := if bits w 24 1 = 1 then bits w (8 + 2 * p) 2 else 0
  let t := s.postTo p q (eventEntry code src data)
  { s with regs := t.regs, eqs := t.eqs, out := t.out }

/-- Set a flag and post an event with it. -/
def State.flagEvent (s : State) (f : Fld) (code src : Nat) (data : Word) : State :=
  (s.setFld f 1).postEvent code src data

end Sys2Proof.Machine
end

