-- ==== Sys2Proof/Machine/Cells.lean ====
section
/-!
DEFINITION. The signal space (spec/03_signal_space.md): cells, their four slots, what a read of an epoch finds, the
writer-wins rule, pins and ashlars as holders, bonds, and the writing of a batch.
-/

namespace Sys2Proof.Machine

/-! ## The signal map (Table 3.3) -/

/-- A field of a cell's signal map entry. -/
def State.map (s : State) (n w lsb k : Nat) : Nat := bits (s.tw 0x06 devScope n w) lsb k
/-- IN_USE: the cell exists. -/
def State.inUse (s : State) (n : Nat) : Bool := s.map n 0 28 1 == 1
/-- DEFAULT of a cell. -/
def State.cellDefault (s : State) (n : Nat) : Nat := s.map n 0 0 24
/-- BONDED and BOND of a cell. -/
def State.bondOf (s : State) (n : Nat) : Option Nat :=
  if s.map n 2 10 1 = 1 then some (s.map n 2 0 10) else none
/-- DEADLINE × DL_UNIT in 2^-16 ns; 0 = none. -/
def State.deadline16 (s : State) (n : Nat) : Nat :=
  s.map n 1 0 16 * (match s.map n 1 16 2 with | 0 => 10 | 1 => 100 | 2 => 1000 | _ => 100000) * us16
/-- Page `p` may write the cell through its write group. -/
def State.hostMay (s : State) (p n : Nat) : Bool := bitOf (s.map n 1 18 8) p

/-- The stamp a cell takes from a source event: its time stamp, or the phase stamp of its tracker (R95). -/
def State.stampFor (s : State) (n : Nat) (time : Word) (phases : List Word) : Word :=
  if s.map n 0 24 1 = 0 then time else phases.getD (s.map n 0 25 2) 0

/-! ## Versions -/

/-- A cell word from VALUE, the status bits [39:32] and the stamp (Table 3.1). -/
def cellWord (value status : Nat) (stamp : Word) : DWord :=
  BitVec.ofNat 64 (value % 2 ^ 24 * 2 ^ 40 + status % 256 * 2 ^ 32 + stamp.toNat)
/-- VALUE of a cell word. -/
def cwValue (w : DWord) : Nat := w.toNat / 2 ^ 40
/-- Status bits of a cell word. -/
def cwStatus (w : DWord) : Nat := w.toNat / 2 ^ 32 % 256
/-- STAMP of a cell word. -/
def cwStamp (w : DWord) : Word := w32 (w.toNat % 2 ^ 32)

abbrev stValid : Nat := 7
abbrev stStale : Nat := 6
abbrev stSubst : Nat := 5
abbrev stOvrng : Nat := 4
abbrev stAuthfail : Nat := 3
abbrev stAltsrc : Nat := 2
abbrev stSpare : Nat := 1
abbrev stHostset : Nat := 0

/-- A status bit of a cell word. -/
def cwBit (w : DWord) (k : Nat) : Bool := bitOf (cwStatus w) k

/-- Is `a` later than `b` (R132)? -/
def laterW (a b : Word) : Bool := later 32 a.toNat b.toNat

/-- The version with the latest tag. -/
def newestOf : List Ver → Option Ver
  | [] => none
  | v :: vs => match newestOf vs with
    | none => some v
    | some u => if laterW v.tag u.tag then some v else some u

/-- The version with the oldest tag. -/
def oldestOf : List Ver → Option Ver
  | [] => none
  | v :: vs => match oldestOf vs with
    | none => some v
    | some u => if laterW u.tag v.tag then some v else some u

/-- The version seen at epoch `e`: the newest tag not later than `e`, else the base version (R102). Where the newest
of them is a version that an uncorrectable codeword took, none (Table 14.5). -/
def Cell.resolve (c : Cell) (e : Word) : Option Ver :=
  match newestOf (c.vers.filter fun v => !laterW v.tag e) with
  | some v => if c.lost.any fun t => laterW t v.tag && !laterW t e then none else some v
  | none => if c.lost.any fun t => !laterW t e then none else c.vers.find? fun v => v.isBase

/-- The tags of lost versions that still hide an older one, after a write that is tagged `f`. -/
def Cell.lostAfter (c : Cell) (f : Word) (vers : List Ver) : List Word :=
  c.lost.filter fun t => t != f && (vers.any fun v => laterW t v.tag)

/-- What a read of cell `n` at epoch `e` finds: the word, and whether the version is lost (R82, R96, R118). -/
def State.readAt (s : State) (n : Nat) (e : Word) : DWord × Bool :=
  let c := s.cell n
  let kept := match c.removed with
    | some b => !laterW e b
    | none => false
  if s.inUse n || kept then
    match c.resolve e with
    | some v => (v.word, false)
    | none => (0, true)
  else (0, false)

/-- The live view of cell `n` (R114). -/
def State.live (s : State) (n : Nat) : DWord := (s.readAt n (s.rd Reg.SIG_EPOCH)).1

/-- The epoch that the next commit makes (R98). -/
def State.committing (s : State) : Word := s.rd Reg.SIG_EPOCH + 1
/-- The epoch that a batch starting now enters: after the instant of a commit, the one after it (R108). -/
def State.forming (s : State) : Word := if s.sig.served.isSome then s.committing + 1 else s.committing

/-! ## Ashlars (R123 to R126) -/

/-- The cells of a range that exist: those past 131,071 do not count. -/
def clipRange (r : Nat × Nat) : Nat × Nat := (r.1, min r.2 (131072 - r.1))

/-- N of an ashlar. -/
def Ashlar.total (a : Ashlar) : Nat := (a.ranges.map fun r => r.2).sum

/-- The `i`-th cell of a list of ranges. -/
def rangeCell : List (Nat × Nat) → Nat → Option Nat
  | [], _ => none
  | (f, c) :: rs, i => if i < c then some (f + i) else rangeCell rs (i - c)

/-- Does cell `n` stand among the cells from index `done` on? -/
def rangeNeeds : List (Nat × Nat) → Nat → Nat → Nat → Bool
  | [], _, _, _ => false
  | (f, c) :: rs, base, done, n =>
    (decide (f ≤ n ∧ n < f + c) && decide (done ≤ base + (n - f))) || rangeNeeds rs (base + c) done n

/-- Bytes go to host memory on the page's active path: a posted write on PCIe, an ASHLAR_DATA frame elsewhere
(R364, R369). -/
def State.toHost (s : State) (p addr : Nat) (data : List Byte) : State :=
  let path := s.fld (Reg.PG_PATH_ACTIVE p)
  s.emit (if path ≤ 2 then .dma p addr data else .ashlarData p path addr ((s.page p).ashSeq.toNat % 65536) data)

/-- The completion record (Table 3.5). -/
def ashlarRecord (seq : Word) (a : Ashlar) (status : Nat) : List Byte :=
  leBytes 4 seq.toNat ++ leBytes 4 a.epoch.toNat ++ leBytes 4 a.commitTime.toNat ++ leBytes 4 a.total
    ++ leBytes 1 status ++ leBytes 1 a.restarts ++ leBytes 46 0

/-- An ashlar ends: its record is written, its state shown and ASHLAR_DONE posted (R124). -/
def State.endAshlar (s : State) (p : Nat) (a : Ashlar) (status : Nat) : State :=
  let t := s.toHost p (a.addr + ceilDiv (8 * a.total) 64 * 64) (ashlarRecord (s.page p).ashSeq a status)
  let t := t.setPage p { t.page p with ashlar := none }
  let t := t.setFld (Reg.PSG_ASH_STATUS_STATE p) (match status with | 0 => 2 | 2 => 4 | _ => 3)
  let t := if status = 1 then t.setFld (Reg.PSG_ASH_STATUS_RETRY_EXHAUSTED p) 1 else t
  t.postPage p 0x011 (p + status * 16 + a.restarts * 256) a.epoch

/-- A running ashlar has to start over at the newest committed epoch, or ends after four restarts (R125). -/
def State.restartAshlar (s : State) (p : Nat) (a : Ashlar) : State :=
  if 4 ≤ a.restarts then s.endAshlar p a 1
  else
    let e := s.rd Reg.SIG_EPOCH
    let b := { a with epoch := e, commitTime := s.rd Reg.SIG_COMMIT_TIME, copied := 0, restarts := a.restarts + 1 }
    let t := s.setPage p { s.page p with ashlar := some b }
    let t := t.setFld (Reg.PSG_ASH_STATUS_RESTARTS p) (a.restarts + 1)
    t.wr (Reg.PSG_ASH_EPOCH p) e

/-- Copy the cells of index `i` up to `i + k` of a page's ashlar to host memory (R123). -/
def State.copyCells (s : State) (p : Nat) (a : Ashlar) (i : Nat) : Nat → State
  | 0 => s
  | k + 1 =>
    match rangeCell a.ranges i with
    | none => s
    | some n =>
      (s.toHost p (a.addr + 8 * i) (leBytes 8 (s.readAt n a.epoch).1.toNat)).copyCells p a (i + 1) k

/-- An ashlar of page `p` starts (R123): the ranges and the address are latched, the epoch is the newest. -/
def State.startAshlar (s : State) (p : Nat) : State :=
  match (s.page p).ashlar with
  | some _ => s.setFld (Reg.PSG_ASH_STATUS_START_IGNORED p) 1
  | none =>
    let r := s.fld (Reg.PSG_ASH_CTRL_RANGES p)
    let k := if r = 0 ∨ 64 < r then 64 else r
    let a : Ashlar :=
      { epoch := s.rd Reg.SIG_EPOCH, commitTime := s.rd Reg.SIG_COMMIT_TIME,
        ranges := (List.range k).map fun i =>
          clipRange (s.fld (Reg.PSG_ASH_FIRST_FIRST p i), s.fld (Reg.PSG_ASH_COUNT_COUNT p i)),
        addr := ((s.rd (Reg.PSG_ASH_ADDR_HI p)).toNat * 2 ^ 32 + (s.rd (Reg.PSG_ASH_ADDR_LO p)).toNat) / 64 * 64,
        copied := 0, restarts := 0, since := s.tb.local16 }
    let t := s.setPage p { s.page p with ashlar := some a, ashSeq := (s.page p).ashSeq + 1 }
    let t := t.setFld (Reg.PSG_ASH_STATUS_STATE p) 1
    let t := t.setFld (Reg.PSG_ASH_STATUS_RESTARTS p) 0
    t.wr (Reg.PSG_ASH_EPOCH p) (s.rd Reg.SIG_EPOCH)

/-! ## Writing a cell (R99, R100, R102) -/

/-- A version that page `p`'s pin needs is reclaimed (R119). -/
def State.pinLost (s : State) (p n : Nat) : State :=
  let t := if s.flag (Reg.PSG_PIN_STATUS_PIN_BROKEN p) then s
    else (s.setFld (Reg.PSG_PIN_LOST_IDX_CELL p) n).setFld (Reg.PSG_PIN_STATUS_PIN_BROKEN p) 1
  t.bump (Reg.PSG_PIN_LOST_CNT p)

/-- Is the reclaimed version, tagged `told` with the next tag `tnext`, the answer for epoch `e`? -/
def reclaimHits (base : Bool) (told tnext e : Word) : Bool :=
  (base || !laterW told e) && laterW tnext e

/-- The pin of page `p` needs the version. -/
def State.pinHit (s : State) (base : Bool) (told tnext : Word) (p : Nat) : Bool :=
  s.flag (Reg.PSG_PIN_STATUS_PINNED p) && reclaimHits base told tnext (s.rd (Reg.PSG_PIN_EPOCH p))

/-- The running ashlar of page `p` still needs the version of cell `n`. -/
def State.ashlarHit (s : State) (n : Nat) (base : Bool) (told tnext : Word) (p : Nat) : Option Ashlar :=
  match (s.page p).ashlar with
  | none => none
  | some a => if reclaimHits base told tnext a.epoch && rangeNeeds a.ranges 0 a.copied n then some a else none

/-- The reclaim breaks a pin of page `p` or restarts its ashlar (SIG_RECLAIM_PINNED). -/
def State.holderHit (s : State) (n : Nat) (base : Bool) (told tnext : Word) (p : Nat) : Bool :=
  s.pinHit base told tnext p || (match s.ashlarHit n base told tnext p with
    | some a => decide (a.restarts < 4)
    | none => false)

/-- The holders of page `p` learn that a version of cell `n` is gone. -/
def State.holderLost (s : State) (n : Nat) (base : Bool) (told tnext : Word) (p : Nat) : State :=
  let t := if s.pinHit base told tnext p then s.pinLost p n else s
  match s.ashlarHit n base told tnext p with
  | none => t
  | some a => t.restartAshlar p a

/-- A version is reclaimed: its holders learn of it, and the reclaim is counted once (R119, Table 3.9). -/
def State.reclaim (s : State) (n : Nat) (base : Bool) (told tnext : Word) : State :=
  let t := if (List.range 8).any (s.holderHit n base told tnext) then s.bump Reg.SIG_RECLAIM_PINNED else s
  (List.range 8).foldl (fun t p => t.holderLost n base told tnext p) t

/-- The slots of a cell that hold no version. -/
def Cell.emptySlots (c : Cell) : List Nat := [0, 1, 2, 3].filter fun k => c.vers.all fun v => v.slot != k

/-- The empty slot a write takes: any of them, a free value where there is a choice (R100). -/
def pickSlot (free : Nat) : List Nat → Nat
  | [] => 0
  | [k] => k
  | l => l.getD (Config.slotChoice free % l.length) 0

/-- Write a version into epoch `f` of cell `n`: into the slot tagged `f`, else an empty slot, else the oldest. -/
def State.writeCell (s : State) (n : Nat) (f : Word) (w : DWord) (isBase : Bool) : State :=
  let c := s.cell n
  let fresh := if cwBit w stValid || isBase then s.tb.local16 else c.freshAt
  match c.vers.find? (fun v => v.tag == f) with
  | some v =>
    s.setCell n { c with
      vers := c.vers.map fun u => if u.slot = v.slot then { u with word := w } else u, freshAt := fresh }
  | none =>
    if c.emptySlots ≠ [] then
      let vs := c.vers ++ [⟨pickSlot s.freeCnt c.emptySlots, f, w, isBase⟩]
      let t := s.setCell n { c with vers := vs, lost := c.lostAfter f vs, freshAt := fresh }
      t.useFree
    else
      match oldestOf c.vers with
      | none => s
      | some o =>
        let rest := c.vers.filter fun v => v.slot != o.slot
        let tnext := match oldestOf rest with
          | some v => v.tag
          | none => f
        let t := s.reclaim n o.isBase o.tag tnext
        let vs := rest ++ [⟨o.slot, f, w, isBase⟩]
        t.setCell n { c with vers := vs, lost := c.lostAfter f vs, freshAt := fresh }

/-- The slot of a cell becomes empty: an uncorrectable codeword took its version, and the holders that need it learn of
it (R119, R125, Table 14.5). -/
def State.slotLost (s : State) (n slot : Nat) : State :=
  let c := s.cell n
  match c.vers.find? fun v => v.slot == slot with
  | none => s
  | some o =>
    let rest := c.vers.filter fun v => v.slot != slot
    let tnext := match oldestOf (rest.filter fun v => laterW v.tag o.tag) with
      | some v => v.tag
      | none => s.forming + 1
    let t := s.reclaim n o.isBase o.tag tnext
    t.setCell n { c with vers := rest, lost := o.tag :: c.lost }

/-- One write of a batch into the forming epoch: a version, or AUTHFAIL on a copy of the newest one (R94). A cell
that the map does not hold takes no write (R82). -/
def State.applyWrite (s : State) (cw : CellWrite) : State :=
  if s.inUse cw.cell then
    match cw.op with
    | .put w => s.writeCell cw.cell s.forming w false
    | .reject =>
      match newestOf (s.cell cw.cell).vers with
      | none => s
      | some v =>
        let c := s.cell cw.cell
        let w := cellWord (cwValue v.word) (setBit (cwStatus v.word) stAuthfail true) (cwStamp v.word)
        let t := s.writeCell cw.cell s.forming w false
        t.setCell cw.cell { t.cell cw.cell with freshAt := c.freshAt }
  else s

/-! ## Bonds (R110, R111) -/

/-- The member cells of a bond in the active signal map. -/
def State.bondMembers (s : State) (b : Nat) : List Nat :=
  (s.tbl.filterMap fun kv =>
    let n := kv.1 / 16 % 1048576
    if kv.1 = tkey 0x06 devScope n 2 ∧ bits kv.2.toNat 10 1 = 1 ∧ bits kv.2.toNat 0 10 = b ∧ s.inUse n
    then some n else none)

/-- All values held in the bond buffer. -/
def State.heldCount (s : State) : Nat := (s.sig.bonds.map fun b => b.held.length).sum

/-- A value for a bond is held, or discarded where the buffer is full; a complete bond is written whole. -/
def State.bondWrite (s : State) (b : Nat) (cw : CellWrite) : State :=
  let cur := s.sig.bonds.find? fun x => x.bond == b
  let others := s.sig.bonds.filter fun x => x.bond != b
  let known := match cur with
    | some x => x.held.any fun h => h.cell == cw.cell
    | none => false
  if (cur.isNone && decide (256 ≤ s.sig.bonds.length)) || (!known && decide (4096 ≤ s.heldCount)) then
    (s.bump Reg.SIG_BOND_DROP).setFld Reg.SIG_FLAGS_BOND_OVF 1
  else
    let x : Bond := cur.getD { bond := b, held := [], since := s.tb.local16 }
    let x := { x with held := (x.held.filter fun h => h.cell != cw.cell) ++ [cw] }
    if (s.bondMembers b).all fun n => x.held.any fun h => h.cell == n then
      x.held.foldl State.applyWrite { s with sig := { s.sig with bonds := others } }
    else { s with sig := { s.sig with bonds := others ++ [x] } }

/-- One write of a batch, through the bond buffer where its cell is bonded (R110). -/
def State.batchWrite (s : State) (cw : CellWrite) : State :=
  match cw.op, s.bondOf cw.cell with
  | .put _, some b => if s.inUse cw.cell then s.bondWrite b cw else s
  | _, _ => s.applyWrite cw

/-- The cells and holders part of a batch: what writing it may change. -/
def State.writeAll (s : State) (ws : List CellWrite) : State :=
  let t := ws.foldl State.batchWrite s
  { s with
    regs := t.regs, cells := t.cells, sig := { s.sig with bonds := t.sig.bonds }, pages := t.pages,
    eqs := t.eqs, out := t.out, freeCnt := t.freeCnt }

/-- The base version of a cell that becomes in use (R102, Table 3.2): DEFAULT, SUBST = 1, in the forming epoch's
predecessor. -/
def State.giveBase (s : State) (n : Nat) : State :=
  (s.setCell n { vers := [], freshAt := s.tb.local16, removed := none }).writeCell n (s.rd Reg.SIG_EPOCH)
    (cellWord (s.cellDefault n) (2 ^ stSubst) 0) true

/-- Queue a batch on its way to the signal space. -/
def State.addBatch (s : State) (src : BatchSrc) (gen : Gen) (items : List BatchItem) : State :=
  { s with
    sig := { s.sig with batches := s.sig.batches ++ [{ id := s.nextId, src := src, gen := gen, items := items }] }
    nextId := s.nextId + 1 }

/-- Queue a batch of plain writes that a unit or a poll makes. -/
def State.addWrites (s : State) (u : Option Nat) (ws : List CellWrite) : State :=
  if ws = [] then s else s.addBatch (.other u) (s.rd Reg.STR_GEN) (ws.map .write)

end Sys2Proof.Machine
end

