-- ==== Sys2Proof/Machine/Unit.lean ====
section
/-!
DEFINITION. Units: their kinds and numbers (R21), whether they take work, the steps of their regions (R31 to R34), and
the gateway counters of their pages (R228, R314).
-/

namespace Sys2Proof.Machine

/-- The kind of a unit with its channel number (Table 0.9). -/
inductive UnitKind where
  | can (n : Nat)
  | lane (n : Nat)
  | bank (n : Nat)
  | mac (n : Nat)
  deriving DecidableEq, Repr

/-- Unit `u` by region, cluster and slot (R21). -/
def unitKind (u : Nat) : UnitKind :=
  let r := u / 32
  let c := u % 32 / 8
  let k := u % 8
  if c = 0 then .can (16 * r + k)
  else if c = 1 then .can (16 * r + 8 + k)
  else if c = 2 then .lane (8 * r + k)
  else if k < 6 then .bank (6 * r + k)
  else .mac (2 * r + k - 6)

/-- The step of region `r` (Table 1.5). -/
def State.regionStep (s : State) (r : Nat) : Nat := s.fld ⟨Reg.GEN_REGION_STEP, 2 * r, 2⟩

/-- Is work of region `r` in progress: an item of one of its units in the gateway or in the hold buffer, a frame that
one of its MACs receives or sends (R28, R33)? -/
def State.regionBusy (s : State) (r : Nat) : Bool :=
  let here := fun (u : Option Nat) => match u with
    | some u => u / 32 == r
    | none => false
  (s.sig.batches.any fun b => match b.src with
    | .chain item _ => here item.unit
    | .other u => here u
    | .group _ => false)
    || (s.sig.second.any fun x => here x.1.unit)
    || (s.holdBuf.any fun e => match e.kind with
        | .chain item _ | .after item _ => here item.unit
        | .eth p _ _ _ _ => decide (p < 16) && p / 2 == r)
    || ([2 * r, 2 * r + 1].any fun m => (s.port m).cut.isSome || (s.port m).sending.isSome)

/-- The region's step changes now; the IDLE_HOLD period of R32 counts from here. -/
def State.setStep (s : State) (r k : Nat) : State :=
  { s.setFld ⟨Reg.GEN_REGION_STEP, 2 * r, 2⟩ k with dev := { s.dev with stepAt16 := s.dev.stepAt16.set r s.tb.local16 } }

/-- The FLOOR step of region `r`: 0 until an image is applied, whatever the field holds by then (Table 1.11; a write before
that is stored, DESIGN CHOICE, notes/assumptions/140.md). -/
def State.floorStep (s : State) (r : Nat) : Nat :=
  if s.rd Reg.STR_GEN = 0 then 0 else s.fld ⟨Reg.GEN_REGION_FLOOR, 2 * r, 2⟩

/-- An item of work reaches unit `u`'s region, to be taken in or to be packed, queued or sent there: at step 3 its table
memories wake, at step 1 or 2 a second item returns it to step 0 (R33). -/
def State.regionWork (s : State) (u : Nat) : State :=
  let r := u / 32
  let t := { s with dev := { s.dev with work16 := s.dev.work16.set r s.tb.local16 } }
  if s.regionStep r = 3 then { t with waking := setBit s.waking r true }
  else if s.regionStep r ≠ 0 ∧ s.regionBusy r then t.setStep r 0
  else t

/-! ## Mortar links and field supplies of a unit -/

/-- LINK_STATE of a mortar link (Table 1.11). -/
def State.linkState (s : State) (l : Nat) : Nat := s.fld ⟨Reg.GEN_MORTAR_STATE, 2 * l, 2⟩

/-- The mortar link of region `r` while all four are up (R35). -/
def homeLink (r : Nat) : Nat := r / 2

/-- The mortar link that carries the traffic of region `r`: its own, or while that is not UP the other one of its die
(R35, R38). None: neither is UP. -/
def State.regionLink (s : State) (r : Nat) : Option Nat :=
  [homeLink r, 2 * (homeLink r / 2) + 1 - homeLink r % 2].find? fun l => s.linkState l == 0

/-- The VIO_F bank that powers the field pins of unit `u`: clusters 0 and 1 of region r on bank 2 r, clusters 2 and 3 on
bank 2 r + 1; a MAC draws on none (R25). -/
def unitVio (u : Nat) : Option Nat := match unitKind u with
  | .mac _ => none
  | _ => some (2 * (u / 32) + u % 32 / 16)

/-- The inputs of unit `u` show their balls; on an invalid bank they read low (R478). -/
def State.pinsSeen (s : State) (u : Nat) : Bool := match unitVio u with
  | some n => s.flag ⟨Reg.GEN_VIO_STATE, n, 1⟩
  | none => true

/-- The balls of unit `u` follow it: its bank is valid and its buffer class has latched (R476, R478). -/
def State.pinsDriven (s : State) (u : Nat) : Bool := match unitVio u with
  | some n => s.flag ⟨Reg.GEN_VIO_STATE, n, 1⟩ && s.dev.classes.getD n 0 != 0
  | none => true

/-- A field MAC's port belongs to MAC p. -/
def isMac (p : Nat) : Bool := p < 16
/-- The unit whose page counts for chains from port `p` (R314). -/
def portUnit (p : Nat) : Option Nat := if isMac p then some (Reg.macUnit p) else none

/-- SerDes lane `l` serves its link: it has no lasting fault and is not in loopback for its self-test (R460). -/
def State.laneServes (s : State) (l : Nat) : Bool :=
  !s.hlt.badLanes.contains l && !(s.hlt.testing.any fun t => t.1 == 0x50000 + l)

/-! ## Gateway counters -/

/-- LIMIT_DROP of a chain: of its unit, or of port G (R314). -/
def limitDropReg : Option Nat → Nat
  | some u => Reg.GWU_LIMIT_DROP u
  | none => Reg.SWC_G_LIMIT_DROP
def shortReg : Option Nat → Nat
  | some u => Reg.GWU_SHORT u
  | none => Reg.SWC_G_SHORT
def chainLongReg : Option Nat → Nat
  | some u => Reg.GWU_CHAIN_LONG u
  | none => Reg.SWC_G_CHAIN_LONG
def authRejectReg : Option Nat → Nat
  | some u => Reg.GWU_AUTH_REJECT u
  | none => Reg.SWC_G_AUTH_REJECT
def lastLimitReg : Option Nat → Nat
  | some u => Reg.GWU_LAST_LIMIT u
  | none => Reg.SWC_G_LAST_LIMIT

/-- Unit `u` takes frames (R201) and actions (R172): it is not stopped by STR_UNIT_STOP, nor on a die cut off (R41). -/
def State.takesWork (s : State) (u : Nat) : Bool := !s.stopBit u && !s.dieCut (u / 128)

end Sys2Proof.Machine
end

