-- ==== Sys2Proof/Machine/Stage.lean ====
section
/-!
DEFINITION. Staged B fields and their boundaries (R17, R84, R87, R88), and the status register of blocks and units
(Table 2.7).
-/

namespace Sys2Proof.Machine

/-- The page-window base of the block or unit page that an address lies in (Tables 1.9 and 1.10): device-wide blocks
are 64 KiB, unit pages 8 KiB, and a page's own registers are one block. -/
def blockOf (a : Nat) : Nat :=
  if 0x100000 ≤ a ∧ a < 0x200000 then a / 0x10000 * 0x10000
  else if 0x200000 ≤ a ∧ a < 0x400000 then 0x200000 + (a - 0x200000) / 0x2000 * 0x2000
  else a

/-- A register with the masked bits of `v` in place of its own. -/
def maskIn (old v : Word) (mask : Nat) : Word :=
  let m := BitVec.ofNat 32 mask
  (old &&& ~~~ m) ||| (v &&& m)

/-- One staged write is applied; APPLIED of its block is set (Table 2.7). -/
def State.applyOne (s : State) (x : Staged) : State :=
  let t := s.wr x.addr (maskIn (s.rd x.addr) x.value x.mask)
  t.setFld (bstatApplied (blockOf x.addr)) 1

/-- The staged writes that `p` picks are applied in the order they were written (R88). -/
def State.applyStaged (s : State) (p : Staged → Bool) : State :=
  let t := { s with staged := s.staged.filter fun x => !p x }
  (s.staged.filter p).foldl State.applyOne t

/-- The frame end of unit `u`: its staged fields of that boundary are applied (R87). -/
def State.frameEnd (s : State) (u : Nat) : State :=
  s.applyStaged fun x => x.bound == .frameEnd && blockOf x.addr == Reg.unitBase u

/-- The frame end of switch port `p`: the staged fields of its port registers are applied (R87). -/
def State.portEnd (s : State) (p : Nat) : State :=
  s.applyStaged fun x => x.bound == .frameEnd && decide (0x151000 + 0x100 * p ≤ x.addr)
    && decide (x.addr < 0x151100 + 0x100 * p)

/-- The next commit is the boundary (R87). -/
def State.epochEnd (s : State) : State := s.applyStaged fun x => x.bound == .epoch

/-- Something of a block is staged (Table 2.7). -/
def State.stagedIn (s : State) (base : Nat) : Bool := s.staged.any fun x => blockOf x.addr == base

end Sys2Proof.Machine
end

