-- ==== Sys2Proof/Machine/Phase.lean ====
section
/-!
DEFINITION. The phase trackers (spec/04_phase_and_time.md, R135 to R157): position and rate, the lock states of
Table 4.2, the corrections, and what a reference point of each kind does.
-/

namespace Sys2Proof.Machine

abbrev ptSearch : Nat := 0
abbrev ptCapture : Nat := 1
abbrev ptKeystone : Nat := 2
abbrev ptHoldover : Nat := 3

abbrev mod24 : Nat := 16777216
abbrev mod48 : Nat := 281474976710656

/-! ## Settings with their "acts as" rules (Table 4.4) -/

def State.ptState (s : State) (n : Nat) : Nat := s.fld (Reg.PHS_STATE_STATE n)
def State.ptKind (s : State) (n : Nat) : Nat := s.fld (Reg.PHS_CFG_KIND n)
def State.ptOn (s : State) (n : Nat) : Bool := s.flag (Reg.PHS_CFG_EN n)
def State.corrThresh (s : State) (n : Nat) : Nat := orElse (s.fld (Reg.PHS_CORRTH_CORR_THRESH n)) 0x4000
def State.lockThresh (s : State) (n : Nat) : Nat := orElse (s.fld (Reg.PHS_LOCKTH_LOCK_THRESH n)) 0x1000
def State.lockCount (s : State) (n : Nat) : Nat := orElse (s.fld (Reg.PHS_LOCKTH_LOCK_COUNT n)) 2
def State.relockWin (s : State) (n : Nat) : Nat := orElse (s.fld (Reg.PHS_RELOCK_RELOCK_WIN n)) 0x200000
def State.slewMax (s : State) (n : Nat) : Nat :=
  let v := s.fld (Reg.PHS_SLEW_SLEW_MAX n)
  if v = 0 then 10000 else min v 50000
def State.toothTmo (s : State) (n : Nat) : Nat := orElse (s.fld (Reg.PHS_HOLD_TOOTH_TMO n)) 1000
def State.synPeriod (s : State) (n : Nat) : Nat := clampTo 10000 1000000000 (s.rd (Reg.PHS_SYN n)).toNat
def State.wheelCount (s : State) (n : Nat) : Nat := s.fld (Reg.PHS_GEOM_COUNT n)
def State.wheelGap (s : State) (n : Nat) : Nat := s.fld (Reg.PHS_GEOM_GAP n)

/-- The time for which the glitch filter of PHREFn holds a new level before it is accepted, in ns (R136). -/
def State.glitchNs (s : State) (n : Nat) : Nat := clampTo 2 1000 (s.fld (Reg.PHS_CFG_GLITCH n)) * 10

/-- A wheel geometry that R137 allows. -/
def wheelOk (count gap : Nat) : Bool :=
  1 ≤ count && count ≤ 1024 && (if gap = 0 then count == 1 else decide (4 + gap ≤ count))

/-! ## Position (R141, R142, R146) -/

/-- How far a slew adds to `adv` counts of progress (R149). -/
def slewPart (slew : Int) (ppm : Nat) (adv : Int) : Int :=
  let m : Nat := min slew.natAbs (adv.natAbs * ppm / 1000000)
  if slew < 0 then -(m : Int) else m

/-- Counts moved since `at16`, without the limit of R142. -/
def Tracker.freeRun (t : Tracker) (ppm l : Nat) : Int :=
  let adv := t.runN * ((l : Int) - t.at16) / (max t.runD 1 : Nat)
  adv + slewPart t.slew ppm adv

/-- An advance held at the next expected reference point, `d` counts away, less one count (R142). A point that lies
behind the direction of travel, left there by an error larger than its distance, holds nothing: the angle does not go
back to it (R148, R149; notes/assumptions/143.md). -/
def holdAt (runN d adv : Int) : Int :=
  if 0 ≤ runN then (if 0 < d then min adv (d - 1) else adv)
  else if d < 0 then max adv (d + 1)
  else adv

/-- The position of a tracker at local time `l`: held in SEARCH, at the held rate in HOLDOVER, and otherwise never
past the next expected reference point less one count (R142, R146). -/
def Tracker.posAt (t : Tracker) (st ppm l : Nat) : Nat :=
  if st = ptSearch then t.pos
  else
    let adv := t.freeRun ppm l
    let lim := match t.limit with
      | some p => if st = ptHoldover then adv else holdAt t.runN (sdiff 48 p t.pos) adv
      | none => adv
    wrapTo 48 ((t.pos : Int) + lim)

/-- The position of PTn now. -/
def State.ptPos (s : State) (n : Nat) : Nat :=
  (s.tracker n).posAt (s.ptState n) (s.slewMax n) s.tb.local16

/-- The phase stamp of PTn now: course byte and angle (R95). -/
def State.phaseStamp (s : State) (n : Nat) : Word := w32 (s.ptPos n % 2 ^ 32)

/-- The phase stamps of all trackers now. -/
def State.phaseStamps (s : State) : List Word := (List.range 4).map s.phaseStamp

/-- The time stamp and the phase stamps of a source event that takes place now (R95). -/
def State.stampsNow (s : State) : Word × List Word := (s.stamp, s.phaseStamps)

/-- The rate estimate, with its fall while the tracker waits at the limit of R142 (R143): counts over 2^-16 ns. -/
def State.ptEst (s : State) (n : Nat) : Int × Nat :=
  let t := s.tracker n
  match t.limit, t.ref16 with
  | some p, some t0 =>
    let d := sdiff 48 p t.refPos
    let dt := s.tb.local16 - t0
    if (s.ptState n = ptCapture ∨ s.ptState n = ptKeystone) ∧ 0 < t.estN ∧ 0 < dt
        ∧ sdiff 48 p (s.ptPos n) = 1 ∧ d * (t.estD : Int) < t.estN * (dt : Int)
    then (d, dt) else (t.estN, t.estD)
  | _, _ => (t.estN, t.estD)

/-- PHS_RATE: 2^-12 Hz per step, signed (R143). -/
def State.ptRate (s : State) (n : Nat) : Word :=
  let e := s.ptEst n
  BitVec.ofInt 32 (satSigned 32 (e.1 * 65536000000000 * 4096 / (mod24 * max e.2 1 : Nat)))

/-- C of R174: counts in the launch delay at the rate of the last reference point, 0 while the rate is negative. -/
def State.ptComp (s : State) (n : Nat) : Nat :=
  let t := s.tracker n
  if t.compN < 0 then 0 else (t.compN * 65536000 / (max t.compD 1 : Nat)).toNat

/-! ## The lock states (Table 4.2) -/

/-- The tracker is put at a position now, with a running rate, a slew and a limit. -/
def State.ptPlace (s : State) (n : Nat) (pos : Nat) (run : Int × Nat) (slew : Int) (limit : Option Nat) : State :=
  s.setTracker n { s.tracker n with
    pos := pos, at16 := s.tb.local16, runN := run.1, runD := run.2, slew := slew, limit := limit }

/-- SYN_PERIOD takes its staged value at once: the tracker is in SEARCH or CAPTURE (Table 4.4). -/
def State.synPeriodNow (s : State) (n : Nat) : State := s.applyStaged fun y => y.addr == Reg.PHS_SYN n

/-- To SEARCH: VALID = 0 and the position holds. The edges seen so far still count as edges (Table 4.3). -/
def State.ptToSearch (s : State) (n : Nat) : State :=
  let t := s.setTracker n { s.tracker n with
    pos := s.ptPos n, at16 := s.tb.local16, runN := 0, slew := 0, limit := none,
    ref16 := none, slipping := false, courseOk := true, lockRun := 0 }
  ((t.setFld (Reg.PHS_STATE_VALID n) 0).setFld (Reg.PHS_STATE_STATE n) ptSearch).synPeriodNow n

/-- Lost (Table 4.3): from CAPTURE to SEARCH, from KEYSTONE to HOLDOVER at the last rate estimate. -/
def State.ptLost (s : State) (n : Nat) : State :=
  if s.ptState n = ptCapture then s.ptToSearch n
  else if s.ptState n = ptKeystone then
    let p := s.ptPos n
    let e := s.ptEst n
    let t := s.setTracker n { s.tracker n with
      pos := p, at16 := s.tb.local16, runN := e.1, runD := e.2, estN := e.1, estD := e.2, slew := 0,
      limit := none, holdStart := p / mod24 }
    ((t.setFld (Reg.PHS_STATE_STATE n) ptHoldover).setFld (Reg.PHS_FLAGS_MISS n) 1).postEvent 0x021 n
      (w32 (p % 2 ^ 32))
  else s

/-- The position `dist` counts on from `target`, over 48 bits. -/
def pointAfter (target : Nat) (dist : Int) : Nat := wrapTo 48 ((target : Int) + dist)

/-- Correct through the rate (R148): the position reaches the next expected point as that point arrives, and never
moves against the direction of the rate. -/
def State.ptByRate (s : State) (n : Nat) (target : Nat) (nextDist : Int) : State :=
  let t := s.tracker n
  let p := s.ptPos n
  let next := pointAfter target nextDist
  let togo := sdiff 48 next p
  let run : Int × Nat :=
    if 0 < t.estN ∧ 0 < nextDist then (max 0 togo * t.estN, max 1 (nextDist.natAbs * t.estD))
    else if t.estN < 0 ∧ nextDist < 0 then (min 0 togo * -t.estN, max 1 (nextDist.natAbs * t.estD))
    else (t.estN, t.estD)
  s.ptPlace n p run 0 (some next)

/-- A step of the angle to `target`: counted, shown and posted (R149). -/
def State.ptStep (s : State) (n : Nat) (target : Nat) (nextDist : Int) : State :=
  let t := s.tracker n
  let s := s.ptPlace n target (t.estN, t.estD) 0 (some (pointAfter target nextDist))
  ((s.bump (Reg.PHS_STEPCNT n)).setFld (Reg.PHS_FLAGS_STEPPED n) 1).postEvent 0x023 n (w32 (target % 2 ^ 32))

/-- Correct by POLICY (R149). -/
def State.ptByPolicy (s : State) (n : Nat) (e : Int) (target : Nat) (nextDist : Int) : State :=
  let pol := s.fld (Reg.PHS_CFG_POLICY n)
  if e ≠ 0 ∧ (pol = 1 ∨ (pol = 2 ∧ 0 < e)) then s.ptStep n target nextDist
  else
    let t := s.tracker n
    s.ptPlace n (s.ptPos n) (t.estN, t.estD) e (some (pointAfter target nextDist))

/-- The point's position, stamp and error are recorded, and the rate estimate is renewed (R143). -/
def State.ptRecord (s : State) (n : Nat) (e : Int) (target : Nat) : State :=
  let t := s.tracker n
  let est : Int × Nat := match t.ref16 with
    | some t0 => if t0 < s.tb.local16 then (sdiff 48 target t.refPos, s.tb.local16 - t0) else (t.estN, t.estD)
    | none => (t.estN, t.estD)
  let s := s.setTracker n { t with
    estN := est.1, estD := est.2, compN := est.1, compD := est.2, refPos := target, ref16 := some s.tb.local16 }
  (s.setFld (Reg.PHS_ERR_ERR n) (wrapTo 24 e)).wr (Reg.PHS_EDGE n) s.stamp

/-- Enter KEYSTONE from CAPTURE: the high-water mark is the position the locking point stands for (R147). -/
def State.ptLock (s : State) (n : Nat) (target : Nat) : State :=
  let t := s.setTracker n { s.tracker n with hw := target, lockRun := 0 }
  (t.setFld (Reg.PHS_STATE_STATE n) ptKeystone).postEvent 0x020 n (t.phaseStamp n)

/-- A reference point that stands for `angle`, `nextDist` counts before the next expected one; `ends`: it ends a
course; `relock`: it may end HOLDOVER; `forceStep`, `silent`: the encoder's index rules (R152). -/
def State.ptPoint (s : State) (n angle : Nat) (nextDist : Int) (ends relock forceStep silent : Bool) : State :=
  let p := s.ptPos n
  let e := sgn 24 (wrapTo 24 ((angle : Int) - (p : Int)))
  let target := wrapTo 48 ((p : Int) + e)
  let st := s.ptState n
  if st = ptCapture then
    let s := s.ptRecord n e target
    if s.lockThresh n < e.natAbs then
      let s := s.ptStep n target nextDist
      s.setTracker n { s.tracker n with lockRun := 0, courseOk := ends }
    else
      let s := s.ptByRate n target nextDist
      let t := s.tracker n
      if ends then
        let run := if t.courseOk then t.lockRun + 1 else 0
        let s := s.setTracker n { t with lockRun := run, courseOk := true }
        if s.lockCount n ≤ run then s.ptLock n target else s
      else s
  else if st = ptKeystone then
    let s := s.ptRecord n e target
    if silent then s.ptPlace n target ((s.tracker n).estN, (s.tracker n).estD) 0 (some (pointAfter target nextDist))
    else if forceStep then s.ptStep n target nextDist
    else if e.natAbs ≤ s.corrThresh n then s.ptByRate n target nextDist
    else s.ptByPolicy n e target nextDist
  else if st = ptHoldover then
    if relock then
      if e.natAbs ≤ s.relockWin n then
        let s := (s.ptRecord n e target).ptByPolicy n e target nextDist
        (s.setFld (Reg.PHS_STATE_STATE n) ptKeystone).postEvent 0x020 n (s.phaseStamp n)
      else
        ((s.ptToSearch n).setFld (Reg.PHS_FLAGS_LOCK_LOST n) 1).postEvent 0x022 n (w32 (p % 2 ^ 32))
    else s
  else s

/-- Acquisition in SEARCH (Table 4.2): the angle of the acquiring point, one course more, VALID = 1. -/
def State.ptAcquire (s : State) (n angle : Nat) (nextDist : Int) (est : Int × Nat) : State :=
  let t := s.tracker n
  let pos := ((t.pos / mod24 + 1) * mod24 + angle) % mod48
  let s := s.setTracker n { t with
    pos := pos, at16 := s.tb.local16, runN := est.1, runD := est.2, estN := est.1, estD := est.2, slew := 0,
    compN := est.1, compD := est.2, limit := some (pointAfter pos nextDist), refPos := pos, ref16 := some s.tb.local16,
    lockRun := 0, courseOk := true, slipping := false }
  ((s.setFld (Reg.PHS_STATE_VALID n) 1).setFld (Reg.PHS_STATE_STATE n) ptCapture).wr (Reg.PHS_EDGE n) s.stamp

/-! ## The kinds (Table 4.1) -/

/-- An interval between course edges lies in the band LOW to HIGH. -/
def State.inBand (s : State) (n iv : Nat) : Bool :=
  let lo := clampTo 167 4000 (s.fld (Reg.PHS_BAND_LOW n))
  let hi := clampTo 167 4000 (s.fld (Reg.PHS_BAND_HIGH n))
  decide (lo * iv ≤ 655360000000000) && decide (655360000000000 ≤ hi * iv)

/-- An accepted mains edge (R140, Tables 4.1 and 4.3). -/
def State.mainsEdge (s : State) (n : Nat) (rising : Bool) : State :=
  let edge := s.fld (Reg.PHS_CFG_EDGE n)
  let both := edge == 2
  let course := if edge = 1 then !rising else rising
  let fall := wrapTo 24 (0x800000 + sgn 24 (s.fld (Reg.PHS_FALL_FALL_OFFSET n)))
  if !course && !both then s
  else
    let t := s.tracker n
    let iv := t.edge16.map fun t0 => s.tb.local16 - t0
    let mark := fun (s : State) =>
      if course then s.setTracker n { s.tracker n with edge16 := some s.tb.local16 } else s
    let next : Int := if both then (if course then fall else (mod24 : Int) - fall) else mod24
    if s.ptState n = ptSearch then
      match course, iv with
      | true, some iv =>
        if s.inBand n iv then mark (s.ptAcquire n 0 next (mod24, iv)) else mark s
      | _, _ => mark s
    else
      match course, iv with
      | true, some iv =>
        if s.inBand n iv ∨ s.ptState n = ptHoldover then mark (s.ptPoint n 0 next true true false false)
        else mark (s.ptLost n)
      | _, _ => mark (s.ptPoint n (if course then 0 else fall) next course true false false)

/-- The angle tooth position or encoder count `k` stands for (R138, R152). -/
def geomAngle (count k : Nat) : Nat := k * mod24 / max count 1

/-- A wheel slip (R151). -/
def State.ptSlip (s : State) (n : Nat) : State :=
  ((s.bump (Reg.PHS_SLIPCNT n)).setFld (Reg.PHS_FLAGS_SLIP n) 1).postEvent 0x024 n (s.phaseStamp n)

/-- An accepted tooth (R138, R151). A slip ends at the next recognised gap alone. -/
def State.toothEdge (s : State) (n : Nat) (rising : Bool) : State :=
  if rising == (s.fld (Reg.PHS_CFG_EDGE n) == 1) then s
  else
    let cnt := s.wheelCount n
    let gap := s.wheelGap n
    let t := s.tracker n
    let iv := (t.edge16.map fun t0 => s.tb.local16 - t0).getD 0
    let isGap := match t.edge16, t.ivals with
      | some _, i1 :: i2 :: _ =>
        decide ((2 * gap + 1) * (i1 + i2) ≤ 4 * iv) && decide (4 * iv ≤ (2 * gap + 3) * (i1 + i2))
      | _, _ => false
    let note := fun (s : State) (k : Nat) (slip : Bool) =>
      s.setTracker n { s.tracker n with
        edge16 := some s.tb.local16, tooth := k, slipping := slip,
        ivals := (if t.edge16.isSome then iv :: t.ivals else t.ivals).take 2 }
    let dist := fun (k : Nat) (slip : Bool) =>
      let nx := if !slip && k + 1 == cnt - gap then cnt else k + 1
      ((if nx = cnt then mod24 else geomAngle cnt nx : Nat) : Int) - geomAngle cnt k
    if s.ptState n = ptSearch then
      if isGap then
        let span : Int := (mod24 : Int) - geomAngle cnt (cnt - gap - 1)
        note (s.ptAcquire n 0 (dist 0 false) (span, max iv 1)) 0 false
      else note s 0 false
    else
      let expectsGap := !t.slipping && t.tooth + 1 == cnt - gap
      if isGap then
        let s := if expectsGap || t.tooth + 1 == cnt then s else s.ptSlip n
        note (s.ptPoint n 0 (dist 0 false) true true false false) 0 false
      else
        let startsSlip := expectsGap && gap != 0
        let s := if startsSlip then s.ptSlip n else s
        let slip := t.slipping || startsSlip
        let k := if t.tooth + 1 = cnt ∨ (gap = 0) then 0 else t.tooth + 1
        note (s.ptPoint n (geomAngle cnt k) (dist k slip) (k == 0) false false false) k slip

/-- A quadrature error (R139): counted, shown, and the lock is lost. The decoded count stays
(notes/assumptions/144.md). -/
def State.quadError (s : State) (n : Nat) : State :=
  ((s.bump (Reg.PHS_QERRCNT n)).setFld (Reg.PHS_FLAGS_QERR n) 1).ptLost n

/-- A count comes too soon after the one before: A and B have changed inside one filter time, or the rate exceeds
25,000,000 counts per second, 40 ns each (R139). -/
def State.countTooSoon (s : State) (n : Nat) : Bool :=
  match (s.tracker n).count16 with
  | some t0 => decide (s.tb.local16 < t0 + max (s.glitchNs n) 40 * 65536)
  | none => false

/-- The counts between position `c` of an encoder and the next one in its direction (R142, R152). -/
def countStep (cnt : Nat) (c : Int) (up : Bool) : Int :=
  (if up then c + 1 else c - 1) * mod24 / (cnt : Int) - c * mod24 / (cnt : Int)

/-- One decoded count of an encoder (R139, R152, R153). In SEARCH it renews the rate estimate alone, which the index
that acquires takes over (R143). -/
def State.encoderStep (s : State) (n : Nat) (aLeads : Bool) : State :=
  let up := aLeads != s.flag (Reg.PHS_GEOM_DIR_INV n)
  let cnt := max (s.wheelCount n) 1
  let t := s.tracker n
  let c := (if up then t.count + 1 else t.count - 1) % (cnt : Int)
  let s := s.setTracker n { t with count := c, wasUp := up, count16 := some s.tb.local16 }
  let s := s.setFld (Reg.PHS_STATE_REVERSE n) (if up then 0 else 1)
  let s := if !up && t.wasUp then s.setFld (Reg.PHS_FLAGS_REV_SEEN n) 1 else s
  if s.ptState n = ptSearch then
    match t.count16 with
    | some t0 =>
      if t0 < s.tb.local16 then
        s.setTracker n { s.tracker n with estN := countStep cnt t.count up, estD := s.tb.local16 - t0 }
      else s
    | none => s
  else if s.ptState n = ptCapture ∨ s.ptState n = ptKeystone then
    let p := s.ptPos n
    let e := sgn 24 (wrapTo 24 ((geomAngle cnt c.toNat : Int) - (p : Int)))
    let target := wrapTo 48 ((p : Int) + e)
    let s := s.ptRecord n e target
    let t := s.tracker n
    let s := s.ptPlace n target (t.estN, t.estD) 0 (some (pointAfter target (countStep cnt c up)))
    if s.ptState n = ptCapture ∧ s.lockThresh n < e.natAbs then
      s.setTracker n { s.tracker n with courseOk := false, lockRun := 0 }
    else s
  else s

/-- A count of an encoder, or the quadrature error that it is (R139). -/
def State.encoderCount (s : State) (n : Nat) (aLeads : Bool) : State :=
  if s.countTooSoon n then (s.setTracker n { s.tracker n with count16 := some s.tb.local16 }).quadError n
  else s.encoderStep n aLeads

/-- The index pulse of an encoder (R152). The next expected point lies in the direction of travel (R153). -/
def State.encoderIndex (s : State) (n : Nat) : State :=
  let cnt := max (s.wheelCount n) 1
  let t := s.tracker n
  let c := t.count.toNat % cnt
  let off := min c (cnt - c)
  let pitch := countStep cnt 0 (!s.flag (Reg.PHS_STATE_REVERSE n))
  if s.ptState n = ptSearch then
    let s := s.ptAcquire n 0 pitch (t.estN, t.estD)
    s.setTracker n { s.tracker n with count := 0 }
  else
    let bad := decide (s.fld (Reg.PHS_IDXTOL_IDX_TOL n) < off)
    let s := if bad then s.setFld (Reg.PHS_FLAGS_IDX_ERR n) 1 else s
    let s := s.ptPoint n 0 pitch true true bad (!bad)
    s.setTracker n { s.tracker n with count := 0 }

/-- What an accepted reference event does to its tracker, by KIND (Table 4.1). -/
def State.ptEvent (s : State) (n : Nat) (ev : RefEvent) : State :=
  if !s.ptOn n then s
  else
    match s.ptKind n, ev with
    | 0, .edge r => s.mainsEdge n r
    | 1, .edge r => s.toothEdge n r
    | 2, .count a => s.encoderCount n a
    | 2, .index => s.encoderIndex n
    | 2, .quadError => s.quadError n
    | _, _ => s

/-- A level change behind the glitch filter: the new level has held for `ageNs`. It is accepted once that is the whole
filter time, and is taken at the start of that run (R136). -/
def State.ptFiltered (s : State) (n : Nat) (ev : RefEvent) (ageNs : Nat) : State :=
  if s.glitchNs n ≤ ageNs then s.asOf (s.tb.local16 - ageNs * 65536) fun t => t.ptEvent n ev else s

/-- Disciplined time has reached a whole multiple of SYN_PERIOD in this tick (R135). -/
def State.synDue (s : State) (n : Nat) : Bool :=
  let p : Int := (s.synPeriod n : Int) * 65536
  decide (s.disc16At (s.tb.local16 - tick16) < s.disc16 / p * p)

/-- A synthetic reference point at a whole multiple of SYN_PERIOD of disciplined time (R135, R144): one in a tick. -/
def State.synPoint (s : State) (n : Nat) : State :=
  if s.ptOn n && s.ptKind n == 3 && s.synDue n && (s.tracker n).syn16 != some s.tb.local16 then
    let s := s.setTracker n { s.tracker n with syn16 := some s.tb.local16 }
    if s.ptState n = ptSearch then s.ptAcquire n 0 mod24 (mod24, s.synPeriod n * 65536)
    else s.ptPoint n 0 mod24 true true false false
  else s

/-- No reference point has come in time (Table 4.3). -/
def State.refOverdue (s : State) (n : Nat) : Bool :=
  let t := s.tracker n
  match s.ptKind n with
  | 0 => match t.ref16, t.limit with
    | some t0, some p => decide (3 * sdiff 48 p t.refPos * (t.estD : Int) < 2 * ((s.tb.local16 - t0 : Nat) : Int) * t.estN)
    | _, _ => false
  | 1 => match t.edge16 with
    | some t0 => decide (s.toothTmo n * 1000 * us16 < s.tb.local16 - t0)
    | none => false
  | _ => false

/-- HOLD_MAX courses are counted in HOLDOVER. -/
def State.holdOver (s : State) (n : Nat) : Bool :=
  let m := s.fld (Reg.PHS_HOLD_HOLD_MAX n)
  s.ptState n == ptHoldover && m != 0
    && decide ((m : Int) ≤ sdiff 24 (s.ptPos n / mod24) ((s.tracker n).holdStart))

/-- HOLDOVER ends: SEARCH, HOLD_EXPIRED, PT_LOST (Table 4.2). -/
def State.ptExpire (s : State) (n : Nat) : State :=
  let p := s.phaseStamp n
  ((s.ptToSearch n).setFld (Reg.PHS_FLAGS_HOLD_EXPIRED n) 1).postEvent 0x022 n p

/-- FORCE_SEARCH. -/
def State.ptForce (s : State) (n : Nat) : State := if s.ptState n = ptSearch then s else s.ptToSearch n

/-- EN cleared: SEARCH, and no edge is kept. -/
def State.ptOff (s : State) (n : Nat) : State :=
  let t := s.ptForce n
  t.setTracker n { t.tracker n with edge16 := none, ivals := [] }

/-- The high-water mark now: that of a locked tracker is never behind its position (R147). -/
def State.hwShown (s : State) (n : Nat) : Nat :=
  if (s.ptState n == ptKeystone || s.ptState n == ptHoldover) && later 48 (s.ptPos n) (s.tracker n).hw then s.ptPos n
  else (s.tracker n).hw



end Sys2Proof.Machine
end

