-- ==== Sys2Proof/Machine/ActTable.lean ====
section
/-!
DEFINITION. The action table (spec/05_scheduled_actions.md, R170 to R183): the fields of an entry, its effective
position, arming and the judgement of lateness, and the entry commands.
-/

namespace Sys2Proof.Machine

abbrev actDisarmed : Nat := 0
abbrev actArmed : Nat := 1
abbrev actFired : Nat := 2
abbrev actSkipped : Nat := 3

/-! ## The fields of Table 5.1, over the sixteen words of an entry -/

def actW (ws : List Word) (k : Nat) : Nat := (ws.getD k 0).toNat
def actCode (ws : List Word) : Nat := bits (actW ws 0) 28 4
def actTrig (ws : List Word) : Nat := bits (actW ws 0) 26 2
def actPt (ws : List Word) : Nat := bits (actW ws 0) 24 2
def actSkip (ws : List Word) : Bool := bitOf (actW ws 0) 23
def actComp (ws : List Word) : Bool := bitOf (actW ws 0) 22
def actUseGroup (ws : List Word) : Bool := bitOf (actW ws 0) 21
def actGroup (ws : List Word) : Nat := bits (actW ws 0) 15 6
def actEvtFire (ws : List Word) : Bool := bitOf (actW ws 0) 14
def actArmAtApply (ws : List Word) : Bool := bitOf (actW ws 0) 13
def actAngle (ws : List Word) : Nat := actW ws 1 % mod24
def actTime (ws : List Word) : Nat := actW ws 3 * 2 ^ 32 + actW ws 2
def actPeriod (ws : List Word) : Nat := clampTo 1000 1000000000 (actW ws 4)
def actParam (ws : List Word) : Nat := actW ws 5
def actMod (ws : List Word) : Nat := orElse (actW ws 2 % 65536) 1
def actModOfs (ws : List Word) : Nat := actW ws 2 / 65536

/-- An ACTION that an entry may hold when written or armed (R179): neither NONE nor reserved. -/
def actOk (ws : List Word) : Bool := 1 ≤ actCode ws && actCode ws ≤ 8

/-- The trigger is a phase trigger. -/
def actPhase (ws : List Word) : Bool := 2 ≤ actTrig ws

/-- The single-shot kinds (R182). -/
def actOnce (ws : List Word) : Bool := actTrig ws == 0 || actTrig ws == 2

/-- C of the entry's tracker, 0 with COMP = 0 (R174). -/
def State.actC (s : State) (ws : List Word) : Nat := if actComp ws then s.ptComp (actPt ws) else 0

/-- The effective position of a PHASE_ONCE entry, over 48 bits (R174). -/
def State.actEffPos (s : State) (ws : List Word) : Nat :=
  wrapTo 48 (((actW ws 2 % mod24) * mod24 + actAngle ws : Nat) - (s.actC ws : Int))

/-- The effective angle of a phase trigger (R174). -/
def State.actEffAngle (s : State) (ws : List Word) : Nat := wrapTo 24 ((actAngle ws : Int) - (s.actC ws : Int))

/-! ## Forward crossings of an entry (R147, R171) -/

/-- A span of positions (hw, pos], unwrapped: `lo` and `lo + len`. -/
structure Span where
  lo : Nat
  len : Nat

/-- How often the span crosses angle `a`: once for each position with that angle. -/
def Span.crosses (x : Span) (a : Nat) : Nat := (x.lo + x.len + mod24 - a) / mod24 - (x.lo + mod24 - a) / mod24

/-- The course counts at which it crosses angle `a`, oldest first, at most `n`. -/
def Span.courses (x : Span) (a n : Nat) : List Nat :=
  let first := (x.lo + mod24 - a) / mod24
  (List.range (min n (x.crosses a))).map fun k => (first + k) % mod24

/-- A phase-triggered entry is crossed (R171, R174): PHASE_ONCE at its effective position, PHASE_EVERY in an eligible
course. -/
def State.entryCrossed (s : State) (x : Span) (ws : List Word) : Bool :=
  if actTrig ws = 2 then
    let d := wrapTo 48 ((s.actEffPos ws : Int) - x.lo)
    decide (0 < d) && decide (d ≤ x.len)
  else
    (x.courses (s.actEffAngle ws) (2 * actMod ws)).any fun c => c % actMod ws == actModOfs ws % actMod ws

/-- The part of a span that comes after a position, if the position lies in it. -/
def Span.after (x : Span) (pos : Option Nat) : Span :=
  match pos with
  | some p =>
    let k := min x.len (sdiff 48 p x.lo).toNat
    { lo := x.lo + k, len := x.len - k }
  | none => x

/-! ## Lateness and arming (R180, R181, R183) -/

/-- Two microseconds after now, rounded up to the next tick (R180). -/
def State.in2us (s : State) : Nat := tickUp (s.tb.local16 + 2 * us16)

/-- A LATE event of entry `e` with the local instant it carries (R180, R182). -/
def State.postLate (s : State) (e at16 : Nat) : State :=
  let t := (s.bump Reg.ACT_LATE_CNT).setFld Reg.ACT_LAST_LATE_INDEX e
  (t.setFld Reg.ACT_STATUS_LATE_SEEN 1).postEvent 0x030 e (s.stampAt at16)

/-- An ACTIVATE_UPDATE release is late, or comes while the update is arming (R436, R437): the fall-back handover is
set up; another BUNDLE_ID, or an update that is neither armed nor arming, sets ACT_MISMATCH. -/
def State.updLate (s : State) (param : Nat) : State :=
  let st := s.fld Reg.UPD_STATE_STATE
  let id := s.rd Reg.UPD_BUNDLE_ID
  if (st = 5 ∨ st = 6) ∧ param = id.toNat then
    let t := { s with upd := { s.upd with fallback := true } }
    (t.setFld Reg.UPD_FLAGS_LATE_FALLBACK 1).postEvent 0x0C5 0 id
  else s.setFld Reg.UPD_FLAGS_ACT_MISMATCH 1

/-- A late entry that activates an update falls back, whatever its late policy (R437). -/
def State.lateUpdate (s : State) (ws : List Word) : State := if actCode ws = 8 then s.updLate (actParam ws) else s

/-- An entry found late (R180): it releases 2 µs from now, or is skipped. -/
def State.actLate (s : State) (e : Nat) : State :=
  let x := s.act e
  let t :=
    if actSkip x.words then
      ((s.setAct e { x with state := actSkipped, relAt := none }).bump Reg.ACT_SKIP_CNT).postLate e s.in2us
    else (s.setAct e { x with state := actArmed, relAt := some s.in2us, late := true }).postLate e s.in2us
  t.lateUpdate x.words

/-- The first grid point S + n × C, in whole ns, that lies at least 2 µs after `now`, rounded up to a whole ns (R183). -/
def gridStart (S : Int) (C : Nat) (now : Int) : Int :=
  if now + 2000 ≤ S then S else S + (now + 2000 - S + (C : Int) - 1) / (C : Int) * (C : Int)

/-- The judgement of an armed entry by Table 5.2. -/
def State.actJudge (s : State) (e : Nat) : State :=
  let x := s.act e
  let ws := x.words
  match actTrig ws with
  | 0 => if (actTime ws : Int) * 65536 < s.disc16 + 2000 * 65536 then s.actLate e
    else s.setAct e { x with due := actTime ws }
  | 1 =>
    let due := gridStart (actTime ws) (actPeriod ws) s.discUp
    if due = actTime ws then s.setAct e { x with due := due }
    else (s.setAct e { x with due := due, lateStart := true }).postEvent 0x032 e (BitVec.ofInt 32 due)
  | 2 =>
    if (s.ptState (actPt ws) = ptKeystone ∨ s.ptState (actPt ws) = ptHoldover)
        ∧ later 48 (s.actEffPos ws) (s.hwShown (actPt ws)) = false then s.actLate e
    else s
  | _ => s

/-- Where the tracker of a phase trigger stands, if it is locked. -/
def State.armPos (s : State) (ws : List Word) : Option Nat :=
  let n := actPt ws
  if actPhase ws ∧ (s.ptState n = ptKeystone ∨ s.ptState n = ptHoldover) then some (s.ptPos n) else none

/-- Arm a DISARMED entry (R179). -/
def State.armEntry (s : State) (e : Nat) : State :=
  let x := s.act e
  (s.setAct e { x with
    state := actArmed, count := 0, relAt := none, dispatched := false, lateStart := false, late := false
    crowded := false, lateDies := [], held := [], armPos := s.armPos x.words
    waits := actTrig x.words == 2 && (s.armPos x.words).isNone }).actJudge e

/-- The entries armed, in ascending order. -/
def State.armedEntries (s : State) : List Nat :=
  s.acts.filterMap fun kv => if kv.2.state = actArmed then some kv.1 else none

/-- The PHASE_ONCE entries of a tracker that were armed in SEARCH or CAPTURE are judged when it enters KEYSTONE
(R181); one armed before that, and not released, is not judged again. -/
def State.judgePhase (s : State) (n : Nat) : State :=
  (s.armedEntries.filter fun e =>
    (s.act e).waits && actPt (s.act e).words == n && (s.act e).relAt.isNone).foldl (fun t e =>
      (t.setAct e { t.act e with waits := false }).actJudge e) s

/-- The sealed releases of an ARMED entry: the one fixed, and of a periodic entry those of the following grid points
that lie less than 2 µs ahead (R177). -/
def State.sealedOf (s : State) (x : ActEntry) (mine : Bool) : List Sealed :=
  match x.relAt with
  | none => []
  | some t =>
    let more := if actTrig x.words = 1 then
        ([1, 2].map fun (k : Int) => x.due + k * (actPeriod x.words : Int)).filter fun d => decide (d * 65536 ≤ s.disc16 + 2000 * 65536)
      else []
    { words := x.words, at16 := t, mine := mine, late := x.late, crowded := x.crowded, lateDies := x.lateDies
      held := x.held }
      :: more.map fun d => { words := x.words, at16 := s.firstTick d (tickUp s.tb.local16) 1100, mine := mine }

/-- The sealed releases of an entry that ends or is re-phased: they still take place, by its words. -/
def State.ghosts (s : State) (x : ActEntry) (mine : Bool) : List Sealed :=
  (x.ghost.map fun g => { g with mine := g.mine && mine }) ++ (if x.state = actArmed then s.sealedOf x mine else [])

/-- What a step of disciplined time from `old` does to the armed entries (R185, R186). -/
def State.actTimeStep (s old : State) : State :=
  s.armedEntries.foldl (fun t e =>
    let x := t.act e
    if actTrig x.words = 1 then
      (t.setAct e { x with
        due := gridStart (actTime x.words) (actPeriod x.words) t.discUp, ghost := old.ghosts x true
        relAt := none, dispatched := false, late := false, crowded := false, lateDies := [], held := [] }).setFld Reg.ACT_STATUS_REPHASED 1
    else if x.relAt.isSome then t
    else if actTrig x.words = 0 then t.actJudge e
    else t) s

/-! ## The entry commands (R179) -/

/-- The words that WRITE copies from the staging registers. -/
def State.actStaging (s : State) : List Word :=
  [s.rd Reg.ACT_E_CTRL, s.rd Reg.ACT_E_ANGLE, s.rd Reg.ACT_E_ARG0, s.rd Reg.ACT_E_ARG1, s.rd Reg.ACT_E_PERIOD,
    s.rd Reg.ACT_E_PARAM, 0, 0] ++ (List.range 8).map fun k => s.rd (Reg.ACT_E_MASK k)

/-- WRITE: refused for an ARMED entry and for an ACTION that is NONE or reserved; else the entry is DISARMED. -/
def State.actWrite (s : State) (e : Nat) : State :=
  let x := s.act e
  if x.state = actArmed then s.setFld Reg.ACT_STATUS_ENTRY_BUSY 1
  else if !actOk s.actStaging then s.setFld Reg.ACT_STATUS_ENTRY_BAD 1
  else s.setAct e { x with
    words := s.actStaging, state := actDisarmed, lateStart := false, relAt := none,
    ghost := x.ghost.map fun g => { g with mine := false } }

/-- READ: the entry with its state, last release and count goes into the staging registers. -/
def State.actRead (s : State) (e : Nat) : State :=
  let x := s.act e
  let s := s.wr Reg.ACT_E_CTRL (x.words.getD 0 0)
  let s := s.wr Reg.ACT_E_ANGLE (x.words.getD 1 0)
  let s := s.wr Reg.ACT_E_ARG0 (x.words.getD 2 0)
  let s := s.wr Reg.ACT_E_ARG1 (x.words.getD 3 0)
  let s := s.wr Reg.ACT_E_PERIOD (x.words.getD 4 0)
  let s := s.wr Reg.ACT_E_PARAM (x.words.getD 5 0)
  let s := (List.range 8).foldl (fun s k => s.wr (Reg.ACT_E_MASK k) (x.words.getD (8 + k) 0)) s
  let s := s.wr Reg.ACT_E_STATE (w32 (x.state + if x.lateStart then 8 else 0))
  (s.wr Reg.ACT_E_LAST x.last).wr Reg.ACT_E_COUNT x.count

/-- ARM: a DISARMED entry is armed and judged; FIRED and SKIPPED are refused with ENTRY_BUSY. -/
def State.actArm (s : State) (e : Nat) : State :=
  let x := s.act e
  if x.state = actArmed then s
  else if x.state ≠ actDisarmed then s.setFld Reg.ACT_STATUS_ENTRY_BUSY 1
  else if !actOk x.words then s.setFld Reg.ACT_STATUS_ENTRY_BAD 1
  else s.armEntry e

/-- DISARM: stops every release that is not sealed (R177, R182). -/
def State.actDisarm (s : State) (e : Nat) : State :=
  let x := s.act e
  if x.state = actArmed then
    s.setAct e { x with
      state := actDisarmed, relAt := none, dispatched := false, ghost := s.ghosts x true }
  else s

/-- DISARM_ALL. -/
def State.actDisarmAll (s : State) : State := s.armedEntries.foldl State.actDisarm s

end Sys2Proof.Machine
end

