-- ==== Sys2Proof/Machine/Crypto.lean ====
section
/-!
DEFINITION. The algorithms the cipher engine names by their standards (R396, R397): AES (FIPS 197), CMAC
(SP 800-38B), GCM and GMAC (SP 800-38D), CTR (SP 800-38A). The spec names the standards and restates only their
padding, so the algorithms are PRESUMED, notes/assumptions/20.md.
-/

namespace Sys2Proof.Machine

/-- Multiplication by x in the field of AES. -/
def gfDouble (a : Byte) : Byte := (a <<< 1) ^^^ (if a.msb then 0x1B#8 else 0#8)

/-- Multiplication in the field of AES, over the low `n` bits of `b`. -/
def gfMul : Nat → Byte → Byte → Byte
  | 0, _, _ => 0#8
  | n + 1, a, b => (if b.getLsbD 0 then a else 0#8) ^^^ gfMul n (gfDouble a) (b >>> 1)

/-- `a` to the power 2^n - 2 by repeated squaring: the inverse for n = 8. -/
def gfInv : Nat → Byte → Byte → Byte
  | 0, acc, _ => acc
  | n + 1, acc, a =>
    let sq := gfMul 8 a a
    gfInv n (gfMul 8 acc sq) sq

/-- The substitution of AES. -/
def aesSub (b : Byte) : Byte :=
  let i := gfInv 7 1#8 b
  i ^^^ i.rotateLeft 1 ^^^ i.rotateLeft 2 ^^^ i.rotateLeft 3 ^^^ i.rotateLeft 4 ^^^ 0x63#8

/-- Bitwise sum of two runs of bytes. -/
def xorBytes (a b : List Byte) : List Byte := List.zipWith (· ^^^ ·) a b

/-- The key schedule: words already made (newest first), the round constant; `k` words are still to come. -/
def aesSchedule (nk : Nat) : Nat → Byte → List (List Byte) → List (List Byte)
  | 0, _, ws => ws.reverse
  | k + 1, rc, ws =>
    let i := ws.length
    let prev := ws.headD []
    let far := ws.getD (nk - 1) []
    let t :=
      if i % nk = 0 then
        match (prev.drop 1 ++ prev.take 1).map aesSub with
        | b :: bs => (b ^^^ rc) :: bs
        | [] => []
      else if 6 < nk ∧ i % nk = 4 then prev.map aesSub
      else prev
    aesSchedule nk k (if i % nk = 0 then gfDouble rc else rc) (xorBytes far t :: ws)

/-- A run of bytes cut into words of four. -/
def wordsOf : Nat → List Byte → List (List Byte)
  | 0, _ => []
  | n + 1, bs => bs.take 4 :: wordsOf n (bs.drop 4)

/-- The round keys of a key of 16, 24 or 32 bytes. -/
def aesRoundKeys (key : List Byte) : List (List Byte) :=
  let nk := key.length / 4
  let ws := aesSchedule nk (4 * (nk + 7) - nk) 1#8 (wordsOf nk key).reverse
  (List.range (nk + 7)).map fun r => ((ws.drop (4 * r)).take 4).flatten

/-- The row shift of AES. -/
def aesShift (s : List Byte) : List Byte :=
  (List.range 16).map fun k => s.getD (4 * ((k / 4 + k % 4) % 4) + k % 4) 0#8

/-- The column mix of AES, for one column. -/
def aesMixCol (c : List Byte) : List Byte :=
  (List.range 4).map fun r =>
    gfDouble (c.getD r 0#8) ^^^ (gfDouble (c.getD ((r + 1) % 4) 0#8) ^^^ c.getD ((r + 1) % 4) 0#8)
      ^^^ c.getD ((r + 2) % 4) 0#8 ^^^ c.getD ((r + 3) % 4) 0#8

/-- The rounds of AES over the round keys that remain. -/
def aesRounds : List (List Byte) → List Byte → List Byte
  | [], s => s
  | [k], s => xorBytes (aesShift (s.map aesSub)) k
  | k :: ks, s => aesRounds ks (xorBytes ((wordsOf 4 (aesShift (s.map aesSub))).map aesMixCol).flatten k)

/-- AES encryption of one block (FIPS 197). -/
def aes (key block : List Byte) : List Byte :=
  match aesRoundKeys key with
  | [] => block
  | k :: ks => aesRounds ks (xorBytes block k)

/-- A block of 16 zero bytes. -/
def zeroBlock : List Byte := List.replicate 16 0#8

/-- The blocks of a run of bytes, the last one as long as it is. -/
def blocksOf (bs : List Byte) : List (List Byte) :=
  (List.range (ceilDiv bs.length 16)).map fun k => (bs.drop (16 * k)).take 16

/-- Doubling in GF(2^128) as SP 800-38B does for its subkeys. -/
def cmacDouble (b : List Byte) : List Byte :=
  let n := beNat b
  beBytes 16 ((2 * n % 2 ^ 128) ^^^ (if n / 2 ^ 127 = 1 then 0x87 else 0))

/-- CMAC of a message (SP 800-38B, R397). -/
def cmac (key msg : List Byte) : List Byte :=
  let k1 := cmacDouble (aes key zeroBlock)
  let k2 := cmacDouble k1
  let full := 0 < msg.length ∧ msg.length % 16 = 0
  let n := (ceilDiv msg.length 16) - 1
  let last := msg.drop (16 * n)
  let final := if full then xorBytes last k1
    else xorBytes (last ++ 0x80#8 :: List.replicate (15 - last.length) 0#8) k2
  let x := (blocksOf (msg.take (16 * n))).foldl (fun x b => aes key (xorBytes x b)) zeroBlock
  aes key (xorBytes x final)

/-- Multiplication in the field of GHASH, over the bits of `x` from bit `n - 1` downwards. -/
def ghashMul (x : Nat) : Nat → Nat → Nat → Nat
  | 0, z, _ => z
  | n + 1, z, v =>
    ghashMul x n (if bitOf x n then z ^^^ v else z) (if v % 2 = 1 then (v / 2) ^^^ (0xE1 * 2 ^ 120) else v / 2)

/-- GHASH of whole blocks. -/
def ghash (h : Nat) (blocks : List (List Byte)) : Nat :=
  blocks.foldl (fun y b => ghashMul (y ^^^ beNat b) 128 0 h) 0

/-- Zero padding to whole blocks. -/
def padBlock (bs : List Byte) : List Byte := bs ++ List.replicate (ceilDiv bs.length 16 * 16 - bs.length) 0#8

/-- The counter block `k` steps after `c`: the low 32 bits are incremented (R397). -/
def ctrBlock (c : List Byte) (k : Nat) : List Byte :=
  c.take 12 ++ beBytes 4 ((beNat (c.drop 12) + k) % 2 ^ 32)

/-- The CTR mode from counter block `c` (SP 800-38A). -/
def ctrMode (key c data : List Byte) : List Byte :=
  ((blocksOf data).zipIdx.map fun bk => xorBytes bk.1 (aes key (ctrBlock c bk.2))).flatten

/-- The GCM tag over AAD and ciphertext with a 12-byte nonce (SP 800-38D). -/
def gcmTag (key nonce aad ct : List Byte) : List Byte :=
  let h := beNat (aes key zeroBlock)
  let s := ghash h (blocksOf (padBlock aad) ++ blocksOf (padBlock ct)
    ++ [beBytes 8 (8 * aad.length) ++ beBytes 8 (8 * ct.length)])
  xorBytes (beBytes 16 s) (aes key (nonce ++ beBytes 4 1))

/-- GCM encryption and decryption of the data. -/
def gcmCrypt (key nonce data : List Byte) : List Byte := ctrMode key (nonce ++ beBytes 4 2) data

/-- CRC over bits, most significant bit of each byte first (R308, R280): width, polynomial, start value. -/
def crcMsb (w poly init : Nat) (bs : List Byte) : Nat :=
  bs.foldl (fun r b =>
    (List.range 8).foldl (fun r k =>
      let top := bitOf r (w - 1) != bitOf b.toNat (7 - k)
      (2 * r % 2 ^ w) ^^^ (if top then poly else 0)) r) init

/-- The bits of an `n`-bit number in reverse order. -/
def revBits (n x : Nat) : Nat := (List.range n).foldl (fun r k => 2 * r + (if bitOf x k then 1 else 0)) 0

/-- CRC, least significant bit of each byte first (R280 with REFLECT = 1, CRC-32). -/
def crcLsb (w poly init : Nat) (bs : List Byte) : Nat :=
  let rp := revBits w poly
  bs.foldl (fun r b =>
    (List.range 8).foldl (fun r k =>
      let low := bitOf r 0 != bitOf b.toNat k
      (r / 2) ^^^ (if low then rp else 0)) r) init

/-- The CRC-32 of IEEE 802.3. -/
def crc32 (bs : List Byte) : Nat := (crcLsb 32 0x04C11DB7 0xFFFFFFFF bs) ^^^ 0xFFFFFFFF

end Sys2Proof.Machine
end

