-- ==== Sys2Proof/Machine/Keys.lean ====
section
/-!
DEFINITION. Key slots, invocations, cipher policies and the authenticators of frames (spec/12_cipher_engine.md, R400
to R407, R413 to R420; the CAN layout of R250 and R251).
-/

namespace Sys2Proof.Machine

abbrev keyEmpty : Nat := 0
abbrev keyValid : Nat := 1
abbrev keyExhausted : Nat := 2
abbrev keyErasing : Nat := 3

/-! ## Key slots (R400 to R407) -/

def State.slotState (s : State) (k : Nat) : Nat := s.fld (Reg.CPH_SLOT_STATE_STATE k)
def State.slotGen (s : State) (k : Nat) : Nat := s.fld (Reg.CPH_SLOT_STATE_GEN k)
/-- The 48-bit invocation count. -/
def State.slotCount (s : State) (k : Nat) : Nat := (s.rd64 (Reg.CPH_SLOT_CNT_LO k)).toNat
/-- LIMIT; 0 stands for 2^48 (R406). -/
def State.slotLimit (s : State) (k : Nat) : Nat :=
  orElse ((s.rd64 (Reg.CPH_SLOT_LIMIT_LO k)).toNat % 2 ^ 48) (2 ^ 48)

/-- The count has reached ⌈0.9 × LIMIT⌉: WARNED and KEY_WARN, once per generation (R407). -/
def State.keyWarn (s : State) (k : Nat) : State :=
  if ceilDiv (9 * s.slotLimit k) 10 ≤ s.slotCount k ∧ s.slotState k = keyValid
      ∧ s.flag (Reg.CPH_SLOT_STATE_WARNED k) = false then
    (s.setFld (Reg.CPH_SLOT_STATE_WARNED k) 1).postEvent 0x0A0 k (w32 (s.slotCount k))
  else s

/-- The count has reached LIMIT: EXHAUSTED and KEY_EXHAUSTED (R407). -/
def State.keyExhaust (s : State) (k : Nat) : State :=
  if s.slotLimit k ≤ s.slotCount k ∧ s.slotState k = keyValid then
    (s.setFld (Reg.CPH_SLOT_STATE_STATE k) keyExhausted).postEvent 0x0A1 k (w32 (s.slotLimit k))
  else s

/-- An item may use the slot's key (R406). -/
def State.keyUsable (s : State) (k : Nat) : Bool :=
  s.slotState k == keyValid && decide (s.slotCount k < s.slotLimit k)

/-- One invocation of a usable slot: the count rises, with what R407 then does. -/
def State.keyInvoke (s : State) (k : Nat) : State :=
  ((s.wr64 (Reg.CPH_SLOT_CNT_LO k) (BitVec.ofNat 64 ((s.slotCount k + 1) % 2 ^ 48))).keyWarn k).keyExhaust k

/-- ITEMS shows what is in flight. -/
def State.showItems (s : State) (k : Nat) : State :=
  s.setFld (Reg.CPH_SLOT_JOBS_ITEMS k) (satTo 16 ((s.slot k).items + (s.slot k).oldItems))

/-- An item starts on the slot's current key (R402). -/
def State.keyBegin (s : State) (k : Nat) : State :=
  (s.setSlot k { s.slot k with items := (s.slot k).items + 1 }).showItems k

/-- The last items have ended: the old key is zeroised, or the erased slot becomes EMPTY (R402, R403). -/
def State.keyZeroise (s : State) (k : Nat) : State :=
  let x := s.slot k
  if s.slotState k = keyErasing ∧ x.items = 0 ∧ x.oldItems = 0 then
    let t := s.setSlot k {}
    let t := t.setFld (Reg.CPH_SLOT_STATE_STATE k) keyEmpty
    let t := t.setFld (Reg.CPH_SLOT_STATE_DRAINING k) 0
    let t := t.setFld (Reg.CPH_SLOT_STATE_SIZE k) 0
    (t.wr (Reg.CPH_SLOT_FIXED k) 0).postEvent 0x0A2 k (w32 (s.slotGen k))
  else if x.old.isSome ∧ x.oldItems = 0 then
    (s.setSlot k { x with old := none }).setFld (Reg.CPH_SLOT_STATE_DRAINING k) 0
  else s

/-- An item of generation `gen` ends. -/
def State.keyEnd (s : State) (k gen : Nat) : State :=
  let x := s.slot k
  let isOld := match x.old with
    | some o => o.2 == gen
    | none => false
  let y := if isOld then { x with oldItems := x.oldItems - 1 } else { x with items := x.items - 1 }
  ((s.setSlot k y).showItems k).keyZeroise k

/-! ## Policies (R413) -/

/-- A word of a cipher policy. -/
def State.polW (s : State) (g : Gen) (i w : Nat) : Nat := s.twG g 0x0C devScope i w
def State.polKind (s : State) (g : Gen) (i : Nat) : Nat := bits (s.polW g i 0) 0 2
def State.polSlot (s : State) (g : Gen) (i : Nat) : Nat := bits (s.polW g i 0) 3 6
def State.polMac (s : State) (g : Gen) (i : Nat) : Nat := bits (s.polW g i 0) 9 5
def State.polBits (s : State) (g : Gen) (i : Nat) : Nat := bits (s.polW g i 0) 14 4
def State.polTarget (s : State) (g : Gen) (i : Nat) : Nat := bits (s.polW g i 1) 0 18

/-- The policies in use, in ascending order. -/
def State.policies (s : State) (g : Gen) : List Nat :=
  (s.entriesAt g 0x0C devScope 0).filter fun i => bitOf (s.polW g i 0) 2

/-- The policy of a kind that names a target. -/
def State.polFor (s : State) (g : Gen) (kind target : Nat) : Option Nat :=
  (s.policies g).find? fun i => s.polKind g i == kind && s.polTarget g i == target

/-- The CAN_TX policy of a mailbox that a host loads with AUTH = 1 (R419). -/
def State.polForLoad (s : State) (unit ident : Nat) (ide : Bool) : Option Nat :=
  let g := s.rd Reg.STR_GEN
  (s.policies g).find? fun i =>
    s.polKind g i == 1
      && (!bitOf (s.polW g i 2) 30 || (bits (s.polW g i 2) 0 29 == ident && bitOf (s.polW g i 2) 29 == ide))
      && (bitOf (s.polW g i 3) 8 || bits (s.polW g i 3) 0 8 == unit)

/-- WRITE and ERASE (R400 to R403, R417). -/
def State.keyData (s : State) (size : Nat) : List Byte :=
  ((List.range (4 + 2 * size)).map fun j => leBytes 4 (s.rd (Reg.CPH_KEY_DATA j)).toNat).flatten

/-- After every KEY_CMD the key data and the fixed field are cleared (R400). -/
def State.clearKeyData (s : State) : State :=
  ((List.range 8).foldl (fun t j => t.wr (Reg.CPH_KEY_DATA j) 0) s).wr Reg.CPH_KEY_FIXED 0

/-- The freshness state of every policy on slot `k` restarts with generation `gen` (R417). -/
def State.restartFresh (s : State) (k gen : Nat) : State :=
  let g := s.rd Reg.STR_GEN
  ((s.policies g).filter fun i => s.polSlot g i == k).foldl
    (fun t i => t.setPol i { t.pol i with fv := 0, none := true, gen := gen }) s

/-- A WRITE that is accepted: the new key, GEN + 1, count 0, WARNED 0, VALID. -/
def State.keyLoad (s : State) (k size : Nat) : State :=
  let x := s.slot k
  let gen := if s.slotGen k = 0xFFFF then 1 else s.slotGen k + 1
  let y : KeySlot :=
    if x.items = 0 then { key := s.keyData size }
    else { key := s.keyData size, items := 0, old := some (x.key, s.slotGen k), oldItems := x.items }
  let t := s.setSlot k y
  let t := t.setFld (Reg.CPH_SLOT_STATE_GEN k) gen
  let t := t.setFld (Reg.CPH_SLOT_STATE_WARNED k) 0
  let t := t.setFld (Reg.CPH_SLOT_STATE_DRAINING k) (if x.items = 0 then 0 else 1)
  let t := t.setFld (Reg.CPH_SLOT_STATE_SIZE k) size
  let t := t.setFld (Reg.CPH_SLOT_STATE_STATE k) keyValid
  let t := t.wr (Reg.CPH_SLOT_FIXED k) (s.rd Reg.CPH_KEY_FIXED)
  (t.wr64 (Reg.CPH_SLOT_CNT_LO k) 0).restartFresh k gen

def State.keyWrite (s : State) (k size : Nat) : State :=
  (if size = 3 then s.setFld Reg.CPH_FLAGS_KEY_BAD 1
   else if s.flag (Reg.CPH_SLOT_STATE_DRAINING k) ∨ s.slotState k = keyErasing then
     s.setFld Reg.CPH_FLAGS_KEY_BUSY 1
   else s.keyLoad k size).clearKeyData

def State.keyErase (s : State) (k : Nat) : State :=
  (if s.slotState k = keyEmpty ∨ s.slotState k = keyErasing then s
   else (s.setFld (Reg.CPH_SLOT_STATE_STATE k) keyErasing).keyZeroise k).clearKeyData

/-! ## Authenticators of CAN frames (R250, R251, R416, R419) -/

/-- The identifier as the four bytes of R251, from a field laid out by R501. -/
def identBytes (ident : Nat) (ide : Bool) : List Byte :=
  beBytes 4 (if ide then 2 ^ 31 + ident else ident / 2 ^ 18)

/-- The bytes the CMAC of a CAN frame covers (R251). -/
def canMacInput (ident : Nat) (ide : Bool) (data : List Byte) (fv : Nat) : List Byte :=
  identBytes ident ide ++ data ++ beBytes 4 fv

/-- The candidate freshness value (R251). -/
def freshCandidate (last r b : Nat) : Nat :=
  let m := 2 ^ b
  let c := last / m * m + r % m
  (if sdiff 32 c last ≤ 0 then c + m else c) % 2 ^ 32

/-- A frame to send takes one invocation of the policy's slot and the next freshness value: the state after, and the
payload with its authenticator; none: the slot cannot be used (R419). -/
def State.authCan (s : State) (g : Gen) (i ident : Nat) (ide : Bool) (payload : List Byte) :
    State × Option (List Byte) :=
  let k := s.polSlot g i
  if s.keyUsable k then
    let fv := ((s.pol i).fv + 1) % 2 ^ 32
    let data := payload.take (payload.length - 1 - s.polMac g i)
    let mac := cmac (s.slot k).key (canMacInput ident ide data fv)
    let t := s.keyInvoke k
    (t.setPol i { t.pol i with fv := fv, none := false, gen := s.slotGen k },
      some (data ++ [BitVec.ofNat 8 (fv % 2 ^ s.polBits g i)] ++ mac.take (s.polMac g i)))
  else (s.bump Reg.CPH_TX_NOKEY, none)

/-- The three outcomes of a verification (R415). -/
inductive Verdict where
  | ok (fv : Nat)
  | replay
  | fail
  deriving DecidableEq, Repr

/-- The verification of a CAN frame against a policy's state (R251, R415). A frame whose CMAC holds over the value
behind the candidate carries an old freshness value (DEDUCED, notes/assumptions/21.md). -/
def verifyCan (key : List Byte) (last macLen fvBits ident : Nat) (ide : Bool) (payload : List Byte) : Verdict :=
  let n := payload.length - 1 - macLen
  if payload.length < 1 + macLen then .fail
  else
    let data := payload.take n
    let mac := payload.drop (n + 1)
    let c := freshCandidate last (byteAt payload n) fvBits
    let old := (c + 2 ^ 32 - 2 ^ fvBits) % 2 ^ 32
    if mac = (cmac key (canMacInput ident ide data c)).take macLen then .ok c
    else if mac = (cmac key (canMacInput ident ide data old)).take macLen then .replay
    else .fail

/-- The verification of a resynchronisation frame (R416). -/
def verifyResync (key : List Byte) (last macLen ident : Nat) (ide : Bool) (payload : List Byte) : Verdict :=
  let fv := beNat (payload.take 4)
  if payload.length < 4 + macLen then .fail
  else if (payload.drop 4).take macLen = (cmac key (identBytes ident ide ++ beBytes 4 fv)).take macLen then
    (if later 32 fv last then .ok fv else .replay)
  else .fail

/-! ## Authenticated Ethernet frames (R420) -/

/-- Skip up to two VLAN tags from offset `off`. -/
def skipVlan (bs : List Byte) : Nat → Nat → Nat
  | 0, off => off
  | n + 1, off => if be16At bs off = 0x8100 ∨ be16At bs off = 0x88A8 then skipVlan bs n (off + 4) else off

/-- The offset of the EtherType after the VLAN tags. -/
def etypeOff (bs : List Byte) : Nat := skipVlan bs 2 12

/-- The bytes that the GMAC of a frame covers: the addresses, and everything from the EtherType after any VLAN
tags on (R420). -/
def ethMacInput (bs : List Byte) : List Byte := bs.take 12 ++ bs.drop (etypeOff bs)

/-- The nonce of an Ethernet authenticator: a FIXED field and the count (R398, R420). -/
def macNonce (fixed count : Nat) : List Byte := beBytes 4 fixed ++ beBytes 8 count

/-- A PDU of an ETH_TX policy takes one invocation and gets its trailer. -/
def State.authEth (s : State) (g : Gen) (i : Nat) (frame : List Byte) : State × Option (List Byte) :=
  let k := s.polSlot g i
  if s.keyUsable k then
    let n := s.slotCount k
    let body := frame ++ beBytes 8 n
    let tag := gcmTag (s.slot k).key (macNonce (s.rd (Reg.CPH_SLOT_FIXED k)).toNat n) (ethMacInput body) []
    (s.keyInvoke k, some (body ++ tag.take (s.polMac g i)))
  else (s.bump Reg.CPH_TX_NOKEY, none)

/-- The verification of a received frame under an ETH_RX policy. -/
def verifyEth (key : List Byte) (p : PolState) (tagLen peerFixed : Nat) (frame : List Byte) : Verdict :=
  let n := frame.length - tagLen
  if frame.length < 14 + 8 + tagLen then .fail
  else
    let body := frame.take n
    let count := beNat (body.drop (n - 8))
    if frame.drop n = (gcmTag key (macNonce peerFixed count) (ethMacInput body) []).take tagLen then
      (if p.none || decide (p.fv < count) then .ok count else .replay)
    else .fail

/-! ## The hold buffer (R414, R415) -/

/-- Units of the hold buffer in use. -/
def State.holdUsed (s : State) : Nat := (s.holdBuf.map fun e => e.units).sum

/-- HOLD shows the use and its peak. -/
def State.showHold (s : State) : State :=
  let t := s.setFld Reg.CPH_HOLD_USED s.holdUsed
  t.setFld Reg.CPH_HOLD_PEAK (max (s.fld Reg.CPH_HOLD_PEAK) s.holdUsed)

/-- A frame that policy `i` names enters the hold buffer, takes its slot's key and one invocation, and waits; a frame
that does not fit is dropped (R402, R406, R414). -/
def State.hold_ (s : State) (g : Gen) (i bytes : Nat) (kind : HeldKind) (rxq : Option (Nat × Nat)) : State :=
  let units := max 1 (ceilDiv bytes 64)
  if 4096 < s.holdUsed + units then
    let t := s.bump Reg.CPH_HOLD_DROP
    if s.flag Reg.CPH_FLAGS_HOLD_FULL then t
    else (t.setFld Reg.CPH_FLAGS_HOLD_FULL 1).postEvent 0x0A3 0 (t.rd Reg.CPH_HOLD_DROP)
  else
    let k := s.polSlot g i
    let e : HoldEntry :=
      { tgen := g, policy := i, slot := k, gen := s.slotGen k, key := (s.slot k).key, usable := s.keyUsable k, units := units
        kind := kind, rxq := rxq }
    let t := if e.usable then (s.keyBegin k).keyInvoke k else s
    ({ t with holdBuf := t.holdBuf ++ [e] }).showHold

/-- A verdict is counted, and a good one moves the policy's state. State that a WRITE of slot `k` has restarted since
belongs to the new generation and stays (R417). -/
def State.settle (s : State) (i k gen : Nat) (v : Verdict) : State :=
  match v with
  | .ok fv =>
    if s.slotGen k = gen then s.setPol i { s.pol i with fv := fv, none := false, gen := gen } else s
  | .replay => s.bump Reg.CPH_RX_REPLAY
  | .fail => s.bump Reg.CPH_RX_AUTH_FAIL

end Sys2Proof.Machine
end

