-- ==== Sys2Proof/Machine/CanTx.lean ====
section
/-!
DEFINITION. The sending side of a CAN unit: mailboxes and their states (R236, R503), the gateway queue, cancellation,
the choice of the next frame (R237), what the end of an attempt does (R238 to R244, R257) and the deliveries of
routes (R201).
-/

namespace Sys2Proof.Machine

abbrev mbEmpty : Nat := 0
abbrev mbIdle : Nat := 1
abbrev mbPending : Nat := 2
abbrev mbActive : Nat := 3
abbrev mbDone : Nat := 4
abbrev mbCancelled : Nat := 5
abbrev mbArbLost : Nat := 6
abbrev mbError : Nat := 7
abbrev mbSuspended : Nat := 8
abbrev mbMissed : Nat := 9

/-! ## Mailbox content (Table 7.4) -/

def mbW (ws : List Word) (k : Nat) : Nat := (ws.getD k 0).toNat
def mbOneShot (ws : List Word) : Bool := bitOf (mbW ws 0) 30
def mbIde (ws : List Word) : Bool := bitOf (mbW ws 0) 29
def mbIdent (ws : List Word) : Nat := bits (mbW ws 0) 0 29
def mbFdf (ws : List Word) : Bool := bitOf (mbW ws 1) 31
def mbBrs (ws : List Word) : Bool := bitOf (mbW ws 1) 30
def mbRtr (ws : List Word) : Bool := bitOf (mbW ws 1) 29
def mbAuth (ws : List Word) : Bool := bitOf (mbW ws 1) 28
def mbEvtDone (ws : List Word) : Bool := bitOf (mbW ws 1) 27
def mbLen (ws : List Word) : Nat := bits (mbW ws 1) 20 7
/-- The payload of a mailbox content. -/
def mbData (ws : List Word) : List Byte :=
  (((ws.drop 4).map fun w => leBytes 4 w.toNat).flatten).take (mbLen ws)

/-- Words from bytes, little-endian, padded with zeros to `n` words. -/
def wordsFrom (n : Nat) (bs : List Byte) : List Word := (List.range n).map fun k => w32 (leNat (bytesAt bs (4 * k) 4))

/-- A mailbox content. -/
def mkMb (ident : Nat) (ide fdf brs rtr oneShot auth evtDone : Bool) (data : List Byte) : List Word :=
  [w32 (flagBit oneShot 30 + flagBit ide 29 + ident % 2 ^ 29),
    w32 (flagBit fdf 31 + flagBit brs 30 + flagBit rtr 29 + flagBit auth 28 + flagBit evtDone 27
      + data.length % 128 * 2 ^ 20), 0, 0] ++ wordsFrom 16 data

/-- The lengths of CAN FD. -/
def canFdLens : List Nat := [0, 1, 2, 3, 4, 5, 6, 7, 8, 12, 16, 20, 24, 32, 48, 64]

/-- A length that the frame kind allows (R236). -/
def lenOk (fdf : Bool) (len : Nat) : Bool := if fdf then canFdLens.contains len else len ≤ 8

/-- The shortest length of the frame kind for `n` bytes (R416). -/
def lenFor (n : Nat) : Nat := (canFdLens.find? fun l => decide (n ≤ l)).getD 64

/-- The DLC of a length. -/
def dlcOf (len : Nat) : Nat := (canFdLens.findIdx? fun l => l == len).getD 15

/-- The payload bytes of a received DLC (Table 7.1). -/
def dlcLen (fdf : Bool) (dlc : Nat) : Nat := if fdf then canFdLens.getD dlc 64 else min dlc 8

/-! ## Registers of the unit -/

def State.canMode (s : State) (n : Nat) : Nat :=
  let m := s.fld (Reg.CFD_MODE_MODE n)
  if m ≤ 3 then m else 0
abbrev canOff : Nat := 0
abbrev canNormal : Nat := 1
abbrev canRestricted : Nat := 2
abbrev canListen : Nat := 3
def State.fdEn (s : State) (n : Nat) : Bool := s.flag (Reg.CFD_MODE_FD_EN n)
def State.errState (s : State) (n : Nat) : Nat := s.fld (Reg.CFD_ERRC_STATE n)
abbrev errActive : Nat := 0
abbrev errPassive : Nat := 1
abbrev errBusOff : Nat := 2
abbrev errIntegrating : Nat := 3
def State.mbState (s : State) (n m : Nat) : Nat := s.fld (Reg.CFD_MB_STAT_STATE n m)
/-- The unit takes part in bus traffic: it runs and is neither in bus-off nor integrating. -/
def State.canOnBus (s : State) (n : Nat) : Bool :=
  s.running (Reg.canUnit n) && (s.errState n == errActive || s.errState n == errPassive)

/-! ## Schedule matrix: the open window (R252, R253) -/

/-- A word of an entry of the active matrix. -/
def MtxRun.w (x : MtxRun) (entry word : Nat) : Nat := (Tbl.get tblDefault x.words (4 * entry + word)).toNat
/-- Window `w` of basic cycle `b` is entry 1 + 32 b + w. -/
def winEntry (b w : Nat) : Nat := 1 + 32 * b + w
def MtxRun.winType (x : MtxRun) (b w : Nat) : Nat := bits (x.w (winEntry b w) 2) 0 2
def MtxRun.winFirst (x : MtxRun) (b w : Nat) : Nat := bits (x.w (winEntry b w) 2) 2 6
def MtxRun.winLast (x : MtxRun) (b w : Nat) : Nat := bits (x.w (winEntry b w) 2) 8 6
def MtxRun.winTxen (x : MtxRun) (b w : Nat) : Nat := orElse (bits (x.w (winEntry b w) 2) 14 8) 16
/-- WLEN in 2^-16 ns. -/
def MtxRun.winLen16 (x : MtxRun) (b w : Nat) : Nat := bits (x.w (winEntry b w) 1) 0 24 * 100 * 65536
def MtxRun.ncyc (x : MtxRun) : Nat := bits (x.w 0 0) 0 6
def MtxRun.src (x : MtxRun) : Nat := bits (x.w 0 0) 6 2
def MtxRun.refMb (x : MtxRun) : Nat := bits (x.w 0 0) 8 6
/-- CYCLE_LEN in ns, at least 1 µs. -/
def MtxRun.cycleNs (x : MtxRun) : Nat := max 10 (bits (x.w 0 1) 0 24) * 100

/-- The mailboxes that an EXCLUSIVE or ARBITRATING window of the matrix names. -/
def MtxRun.names (x : MtxRun) (m : Nat) : Bool :=
  (List.range (x.ncyc + 1)).any fun b => (List.range 32).any fun w =>
    (x.winType b w == 1 && x.winFirst b w == m)
      || (x.winType b w == 2 && decide (x.winFirst b w ≤ m) && decide (m ≤ x.winLast b w))

/-- The window open now: its cycle, number and kind; none outside all windows. -/
def State.openWindow (s : State) (n : Nat) : Option (Nat × Nat) :=
  let x := (s.canU n).mtx
  match x.cycle, x.window with
  | some b, some w => if s.tb.local16 < x.open16 + x.winLen16 b w ∨ x.rephased then some (b, w) else none
  | _, _ => none

/-- A nominal bit time in 2^-16 ns (Table 7.2). -/
def State.bit16 (s : State) (n : Nat) : Nat :=
  (s.fld (Reg.CFD_NBT_NBRP n) + 1)
    * (1 + (max 1 (s.fld (Reg.CFD_NBT_NTSEG1 n)) + 1) + (s.fld (Reg.CFD_NBT_NTSEG2 n) + 1)) * 819200

/-- A start of frame now falls within TXEN of the open window. -/
def State.inTxen (s : State) (n b w : Nat) : Bool :=
  let x := (s.canU n).mtx
  s.tb.local16 ≤ x.open16 + x.winTxen b w * s.bit16 n
/-- Change the matrix state of a unit. -/
def State.setMtx (s : State) (n : Nat) (x : MtxRun) : State := s.setCan n { s.canU n with mtx := x }

/-- The requests of an ARBITRATING window whose time to start has passed count WIN_MISS, once a window (R253). -/
def State.mtxClose (s : State) (n : Nat) : State :=
  let x := (s.canU n).mtx
  match x.cycle, x.window with
  | some b, some w =>
    if x.winType b w = 2 ∧ !x.missed ∧ !s.inTxen n b w then
      let k := ((List.range 64).filter fun m =>
        s.mbState n m == mbPending && decide (x.winFirst b w ≤ m) && decide (m ≤ x.winLast b w)).length
      (s.setMtx n { x with missed := true }).wr (Reg.CFD_WIN_MISS n)
        (satWord ((s.rd (Reg.CFD_WIN_MISS n)).toNat + k))
    else s
  | _, _ => s

/-! ## Mailbox states (R503) -/

/-- A mailbox takes a state. -/
def State.mbSet (s : State) (n m st : Nat) : State := s.setFld (Reg.CFD_MB_STAT_STATE n m) st

/-- A mailbox becomes CANCELLED, ARB_LOST, TX_ERROR or MISSED: CAN_TX_FAIL (R260). -/
def State.mbFail (s : State) (n m st : Nat) : State :=
  (s.mbSet n m st).postEvent 0x041 (Reg.canUnit n + m * 256 + st * 65536) 0

/-- The content may be sent: an FD frame needs FD_EN (R230), an authenticated one its authenticator (R419). -/
def State.mbSendable (s : State) (n m : Nat) : Bool :=
  !(s.mb n m).noAuth && (!mbFdf (s.mb n m).words || s.fdEn n)

/-- A mailbox is to be sent: PENDING, or TX_ERROR where its content cannot be (R230, R419). -/
def State.mbPend (s : State) (n m : Nat) : State :=
  if s.mbSendable n m then s.mbSet n m mbPending else s.mbFail n m mbError

/-- The content of a mailbox is replaced. -/
def State.mbPut (s : State) (n m : Nat) (ws : List Word) (noAuth : Bool) : State :=
  (s.setMb n m { words := ws, noAuth := noAuth, held := none }).setFld (Reg.CFD_MB_STAT_LOADED n m) 1

/-- The state that a LOAD gives (R503). -/
def State.mbLoaded (s : State) (n m : Nat) (noAuth : Bool) : State :=
  let st := s.mbState n m
  if noAuth then s.mbFail n m mbError
  else if st = mbPending ∨ st = mbSuspended ∨ st = mbMissed then s
  else s.mbSet n m mbIdle

/-- The state that a route delivery gives (R503). -/
def State.mbDelivered (s : State) (n m : Nat) : State :=
  if s.mbState n m = mbSuspended then s else s.mbPend n m

/-- Held content becomes the content as the frame on the bus ends; `fromHost`, `fromRoute`: the state it gives. -/
def State.mbTakeHeld (s : State) (n m : Nat) (completed : Bool) : State :=
  match (s.mb n m).held with
  | none => s
  | some (ws, src) =>
    let t := (s.mbPut n m ws (decide (src = .unusable))).setFld (Reg.CFD_MB_STAT_HELD n m) 0
    if completed then
      match src with
      | .host => t.mbLoaded n m false
      | .route => t.mbDelivered n m
      | .unusable => t.mbFail n m mbError
    else if t.mbState n m = mbPending then t.mbPend n m
    else t

/-- Content arrives for a mailbox from a host LOAD (R236). -/
def State.mbHostPut (s : State) (n m : Nat) (ws : List Word) (noAuth : Bool) : State :=
  if s.mbState n m = mbActive then
    let t := s.setMb n m { s.mb n m with held := some (ws, if noAuth then .unusable else .host) }
    (t.setFld (Reg.CFD_MB_STAT_HELD n m) 1).setFld (Reg.CFD_MB_STAT_LOADED n m) 1
  else (s.mbPut n m ws noAuth).mbLoaded n m noAuth

/-- LOAD (R236, R419). -/
def State.mbLoad (s : State) (n m : Nat) : State :=
  let s := s.mtxClose n
  let ws := (List.range 20).map fun j => s.rd (Reg.CFD_MB_BUF n j)
  if !lenOk (mbFdf ws) (mbLen ws) then s.setFld (Reg.CFD_FLAGS_MB_BAD n) 1
  else if mbAuth ws then
    match s.polForLoad (Reg.canUnit n) (mbIdent ws) (mbIde ws) with
    | none => (s.bump Reg.CPH_NOPOLICY).mbHostPut n m ws true
    | some i =>
      let r := s.authCan (s.rd Reg.STR_GEN) i (mbIdent ws) (mbIde ws) (mbData ws)
      match r.2 with
      | none => r.1.mbHostPut n m ws true
      | some data => r.1.mbHostPut n m (ws.take 4 ++ wordsFrom 16 (data.take (mbLen ws))) false
  else s.mbHostPut n m ws false

/-- READ: the content of a mailbox is copied into CFD_MB_BUF (R261). -/
def State.mbRead (s : State) (n m : Nat) : State :=
  (List.range 20).foldl (fun t j => t.wr (Reg.CFD_MB_BUF n j) ((s.mb n m).words.getD j 0)) s

/-- The mailboxes of a mask, in ascending order. -/
def maskMbs (mask : Nat) : List Nat := (List.range 64).filter fun m => bitOf mask m

/-- A request (R503): of a mailbox that holds content and is neither SUSPENDED, PENDING nor ACTIVE. -/
def State.mbRequest (s : State) (n m : Nat) : State :=
  let st := s.mbState n m
  if st = mbEmpty ∨ st = mbSuspended ∨ st = mbPending ∨ st = mbActive then s else s.mbPend n m

/-- A cancel (R241). -/
def State.mbCancel (s : State) (n m : Nat) : State :=
  let st := s.mbState n m
  if st = mbEmpty ∨ st = mbIdle ∨ st = mbDone ∨ st = mbCancelled then s
  else if st = mbActive then
    match (s.canU n).onBus with
    | some o => if o.mb = some m then s.setCan n { s.canU n with onBus := some { o with cancel := true } } else s
    | none => s
  else s.mbFail n m mbCancelled

/-- A resume (R244). -/
def State.mbResume (s : State) (n m : Nat) : State :=
  if s.mbState n m = mbSuspended then (s.setFld (Reg.CFD_MB_STAT_CLASH_RUN n m) 0).mbPend n m else s

/-! ## Deliveries by routes (R201) -/

/-- A frame of unit `u` is dropped at delivery. -/
def State.txDrop (s : State) (u : Nat) : State := s.bump (Reg.GWU_TXQ_DROP u)

/-- A routed frame may be delivered to CAN unit `n`. -/
def State.canAccepts (s : State) (n : Nat) (fdf : Bool) (len : Nat) : Bool :=
  s.takesWork (Reg.canUnit n) && lenOk fdf len && (!fdf || s.fdEn n)

/-- A packed frame for a mailbox. -/
def State.mbDeliver (s : State) (n m : Nat) (ws : List Word) : State :=
  let u := Reg.canUnit n
  let s := (s.regionWork u).mtxClose n
  if !s.canAccepts n (mbFdf ws) (mbLen ws) then s.txDrop u
  else if s.mbState n m = mbActive then
    let t := if (s.mb n m).held.isSome then s.bump (Reg.GWU_REPLACED u) else s
    let t := t.setMb n m { t.mb n m with held := some (ws, .route) }
    (t.setFld (Reg.CFD_MB_STAT_HELD n m) 1).setFld (Reg.CFD_MB_STAT_LOADED n m) 1
  else
    let t := if s.mbState n m = mbPending then s.bump (Reg.GWU_REPLACED u) else s
    (t.mbPut n m ws false).mbDelivered n m

/-- A tunnelled frame for the gateway queue of 32. -/
def State.gwqDeliver (s : State) (n : Nat) (ws : List Word) : State :=
  let u := Reg.canUnit n
  let s := s.regionWork u
  if !s.canAccepts n (mbFdf ws) (mbLen ws) ∨ 32 ≤ (s.canU n).gwq.length then s.txDrop u
  else s.setCan n { s.canU n with gwq := (s.canU n).gwq ++ [ws] }

/-! ## Which items may send now (R253) -/

/-- Matrix cycles run on unit `n`. -/
def State.mtxRuns (s : State) (n : Nat) : Bool := (s.canU n).mtx.active && (s.canU n).mtx.cycle.isSome

/-- Mailbox `m` may send in FREE time: the matrix does not name it, or it is the reference that a cycle waits for. -/
def State.freeMb (s : State) (n m : Nat) : Bool :=
  !(s.canU n).mtx.names m || (match (s.canU n).mtx.wanted with
    | some (_, r) => r == m
    | none => false)

/-- Mailbox `m` may send now (R253). -/
def State.mbMaySend (s : State) (n m : Nat) : Bool :=
  let st := s.mbState n m
  if s.mtxRuns n then
    match s.openWindow n with
    | some (b, w) =>
      let x := (s.canU n).mtx
      if x.winType b w = 1 then
        x.winFirst b w == m && !x.sent && s.inTxen n b w && st != mbEmpty && st != mbCancelled && st != mbSuspended
          && s.mbSendable n m
      else if x.winType b w = 2 then
        st == mbPending && decide (x.winFirst b w ≤ m) && decide (m ≤ x.winLast b w) && s.inTxen n b w
      else st == mbPending && s.freeMb n m
    | none => st == mbPending && s.freeMb n m
  else st == mbPending

/-- The gateway queue may send now. -/
def State.gwqMaySend (s : State) (n : Nat) : Bool :=
  if s.mtxRuns n then
    match s.openWindow n with
    | some (b, w) => (s.canU n).mtx.winType b w != 1 && (s.canU n).mtx.winType b w != 2
    | none => true
  else true

/-! ## The choice of the next frame (R237) -/

/-- The rank of an identifier in arbitration, by the bits as sent: the first 11 bits, IDE, and for an extended identifier
its other 18 bits. A base identifier beats an extended one with the same first 11 bits; RTR is no part of it. -/
def identRank (ws : List Word) : Nat :=
  mbIdent ws / 2 ^ 18 * 2 ^ 19 + (if mbIde ws then 2 ^ 18 + mbIdent ws % 2 ^ 18 else 0)

/-- The mailbox that ranks first: lowest rank, then lowest number. -/
def State.bestMb (s : State) (n : Nat) : Option Nat :=
  ((List.range 64).filter (s.mbMaySend n)).foldl (fun best m =>
    match best with
    | none => some m
    | some b => if identRank (s.mb n m).words < identRank (s.mb n b).words then some m else some b) none

/-- The item the unit offers to the bus: a mailbox, or the gateway queue's head (`none`), with its words. -/
def State.bestItem (s : State) (n : Nat) : Option (Option Nat × List Word) :=
  let head := if s.gwqMaySend n then (s.canU n).gwq.head? else none
  match s.bestMb n, head with
  | some m, some h =>
    if identRank h < identRank (s.mb n m).words then some (none, h) else some (some m, (s.mb n m).words)
  | some m, none => some (some m, (s.mb n m).words)
  | none, some h => some (none, h)
  | none, none => none

/-- The frame as it goes on the bus: ESI is recessive while error passive (Table 7.1). -/
def State.busFrame (s : State) (n : Nat) (ws : List Word) : CanFrame :=
  { ident := BitVec.ofNat 29 (mbIdent ws), ide := mbIde ws, fdf := mbFdf ws, brs := mbFdf ws && mbBrs ws
    esi := mbFdf ws && s.errState n == errPassive, rtr := !mbFdf ws && mbRtr ws
    dlc := BitVec.ofNat 4 (dlcOf (mbLen ws)), data := if !mbFdf ws && mbRtr ws then [] else mbData ws }

/-- What the unit does not send leaves its places: a PENDING mailbox with an FD frame ends in TX_ERROR, and such a frame of
the gateway queue is dropped as one that cannot be delivered (R230, R502; notes/assumptions/159.md). -/
def State.mbPurge (s : State) (n : Nat) : State :=
  let t := ((List.range 64).filter fun m => s.mbState n m == mbPending && !s.mbSendable n m).foldl
    (fun t m => t.mbFail n m mbError) s
  let q := (t.canU n).gwq
  let keep := q.filter fun ws => !mbFdf ws || t.fdEn n
  if keep.length = q.length then t
  else (t.setCan n { t.canU n with gwq := keep }).bumpBy (Reg.GWU_TXQ_DROP (Reg.canUnit n)) (q.length - keep.length)

/-- The unit may drive a start of frame: RXD of a unit on an invalid bank reads low, and no bus idle is seen (R478). -/
def State.canMaySend (s : State) (n : Nat) : Bool :=
  s.canOnBus n && s.canMode n == canNormal && (s.canU n).onBus.isNone && s.pinsSeen (Reg.canUnit n)

/-- A frame received after a lost arbitration has ended: the unit stands between frames (R87). -/
def State.canRxEnd (s : State) (n : Nat) : State :=
  if (s.canU n).receiving then (s.setCan n { s.canU n with receiving := false }).frameEnd (Reg.canUnit n) else s

/-- The basic cycle that a frame of mailbox `mb` starts as reference frame (R254). -/
def State.refCycleOf (s : State) (n : Nat) (mb : Option Nat) : Option Nat :=
  match (s.canU n).mtx.wanted with
  | some (b, m) => if mb = some m then some b else none
  | none => none

/-- START_OF_FRAME: at bus idle the highest-ranking eligible item is offered (R237). -/
def State.canStart (s : State) (n : Nat) : State :=
  let s := s.canRxEnd n
  if s.canMaySend n then
    let t := (s.mtxClose n).mbPurge n
    match t.bestItem n with
    | none => t
    | some (mb, ws) =>
      let x := t.canU n
      let excl := match t.openWindow n with
        | some (b, w) => t.mtxRuns n && x.mtx.winType b w == 1
        | none => false
      let arb := match t.openWindow n with
        | some (b, w) =>
          if t.mtxRuns n && x.mtx.winType b w == 2 then some (x.mtx.open16 + x.mtx.winTxen b w * t.bit16 n) else none
        | none => none
      let o : OnBus := { mb := mb, words := ws, sof16 := t.tb.local16, exclusive := excl, txenEnd16 := arb
                         refCycle := t.refCycleOf n mb }
      let t := t.setCan n { x with onBus := some o, mtx := { x.mtx with sent := x.mtx.sent || excl } }
      let t := match mb with
        | some m => t.mbSet n m mbActive
        | none => t
      t.emit (.canTx n (t.busFrame n ws))
  else s

/-! ## The end of an attempt (R238, R241, R242, R244, R253, R257) -/

/-- The mailbox of a failed attempt takes its state: CANCELLED before SUSPENDED before the rest. A frame that a spare
observed goes by R259. A request that may not be retried in its ARBITRATING window, because TXEN has ended, has missed
it (R253). -/
def State.mbAttempt (s : State) (n m : Nat) (o : OnBus) (lostArb busOff suspend : Bool) : State :=
  let oneShot := mbOneShot o.words || s.flag (Reg.CFD_MODE_ONE_SHOT n)
  let late := o.txenEnd16.any fun e => decide (e < s.tb.local16)
  let t :=
    if o.cancel then s.mbFail n m mbCancelled
    else if suspend then (s.mbSet n m mbSuspended).postEvent 0x043 (Reg.canUnit n + m * 256) 0
    else if o.exclusive && !busOff && !o.observed then (s.bump (Reg.CFD_WIN_MISS n)).mbFail n m mbMissed
    else if oneShot then s.mbFail n m (if lostArb && !busOff && !o.observed then mbArbLost else mbError)
    else (if late then s.bump (Reg.CFD_WIN_MISS n) else s).mbSet n m mbPending
  t.mbTakeHeld n m false

/-- The frame on the bus ends without completing. -/
def State.canFailed (s : State) (n : Nat) (lostArb busOff suspend : Bool) : State :=
  match (s.canU n).onBus with
  | none => s
  | some o =>
    let s := s.mtxClose n
    let t := s.setCan n { s.canU n with onBus := none }
    match o.mb with
    | some m => t.mbAttempt n m o lostArb busOff suspend
    | none => t

/-- The unit takes its safe state in the middle of its frame (R502). -/
def State.canAbandon (s : State) (n : Nat) : State := s.canFailed n false true false

/-- The state of fault confinement that TEC and REC give, with its event (R256). -/
def State.canConfine (s : State) (n : Nat) : State :=
  let tec := s.fld (Reg.CFD_ERRC_TEC n)
  let rec_ := s.fld (Reg.CFD_ERRC_REC n)
  let old := s.errState n
  let new := if 255 < tec then errBusOff else if 127 < tec ∨ 127 < rec_ then errPassive else errActive
  if old = errIntegrating ∨ old = errBusOff ∨ new = old then s
  else
    let code := if new = errBusOff then 0x045 else if new = errPassive then 0x044 else 0x046
    (s.setFld (Reg.CFD_ERRC_STATE n) new).postEvent code (Reg.canUnit n) (w32 (tec * 65536 + rec_))

/-- Entry into bus-off (R257). -/
def State.canBusOff (s : State) (n : Nat) : State :=
  let u := Reg.canUnit n
  let t := s.bump (Reg.CFD_BUSOFF n)
  let t :=
    if s.flag (Reg.CFD_FLAGS_BO_FLUSH n) then
      let t := ((List.range 64).filter fun m => t.mbState n m == mbPending).foldl
        (fun t m => t.mbFail n m mbCancelled) t
      let k := (t.canU n).gwq.length
      let t := t.setCan n { t.canU n with gwq := [] }
      t.bumpBy (Reg.GWU_TXQ_DROP u) k
    else t
  let x := t.canU n
  let lim := s.fld (Reg.CFD_RECOV_BO_LIMIT n)
  let hit := lim ≠ 0 ∧ lim ≤ x.boCount + 1
  let t := if hit then t.setFld (Reg.CFD_FLAGS_BO_LIMIT_HIT n) 1 else t
  t.setCan n { x with
    boCount := x.boCount + 1
    boWait := if hit then .manual
      else match s.fld (Reg.CFD_RECOV_RMODE n) with
        | 0 => .sequence
        | 1 => .delay s.tb.local16
        | _ => .manual }

/-- LIMIT of the clash rule; 0 acts as 16 (R244). -/
def State.clashLimit (s : State) (n : Nat) : Nat := orElse (s.fld (Reg.CFD_CLASH_LIM_LIMIT n)) 16

/-- An identifier clash is counted (R243): whether it suspends the mailbox. -/
def State.canClash (s : State) (n : Nat) : State × Bool :=
  match (s.canU n).onBus with
  | none => (s, false)
  | some o =>
    let t := s.bump (Reg.CFD_CLASH n)
    match o.mb with
    | none => (t.postEvent 0x042 (Reg.canUnit n + 0x40 * 256) 0, false)
    | some m =>
      let run := satTo 8 (s.fld (Reg.CFD_MB_STAT_CLASH_RUN n m) + 1)
      let t := (t.setFld (Reg.CFD_MB_STAT_CLASH_RUN n m) run).setFld (Reg.CFD_MB_STAT_CLASH n m) 1
      (t.postEvent 0x042 (Reg.canUnit n + m * 256) (w32 run), decide (s.clashLimit n ≤ run))

/-- The counter of an error kind. -/
def errReg (n : Nat) : BusErrKind → Nat
  | .bit => Reg.CFD_ERR_BIT n
  | .stuff => Reg.CFD_ERR_STUFF n
  | .form => Reg.CFD_ERR_FORM n
  | .crc => Reg.CFD_ERR_CRC n
  | .ack => Reg.CFD_ERR_ACK n
  | .res => Reg.CFD_ERR_FORM n

/-- TEC and REC after an error, by the rule of the standard it falls under (R256; PRESUMED,
notes/assumptions/22.md). -/
def State.countError (s : State) (n : Nat) (r : ErrRule) : State :=
  let tec := s.fld (Reg.CFD_ERRC_TEC n)
  let rec_ := s.fld (Reg.CFD_ERRC_REC n)
  match r with
  | .tx8 => s.setFld (Reg.CFD_ERRC_TEC n) (satTo 9 (tec + 8))
  | .txNone => s
  | .rx1 => s.setFld (Reg.CFD_ERRC_REC n) (satTo 9 (rec_ + 1))
  | .rx8 => s.setFld (Reg.CFD_ERRC_REC n) (satTo 9 (rec_ + 8))

/-- The measured loop delay and the secondary sample point of an FD frame that the unit sends (R232). -/
def State.canDelay (s : State) (n raw : Nat) : State :=
  let tdco := s.fld (Reg.CFD_TDC_TDCO n)
  let ssp := if s.flag (Reg.CFD_TDC_TDC_FIXED n) then tdco else max raw (s.fld (Reg.CFD_TDC_TDCF n)) + tdco
  match (s.canU n).onBus with
  | none => s
  | some o =>
    if s.flag (Reg.CFD_TDC_TDC_EN n) && mbFdf o.words && !o.observed then
      let t := (s.setFld (Reg.CFD_TDC_VAL_TDCV n) raw).setFld (Reg.CFD_TDC_VAL_SSP n) (min ssp 127)
      if 127 < ssp then t.setFld (Reg.CFD_TDC_VAL_TDC_SAT n) 1 else t
    else s

/-- The frame on the bus is one of which a spare only observes the end (R259). -/
def State.canObserved (s : State) (n : Nat) : Bool := (s.canU n).onBus.any fun o => o.observed

/-- A detected bus error (R233, R238, R243, R256, R257); `delay`: the loop delay of the frame the unit sends, if its res
bit has passed (R232). -/
def State.canError (s : State) (n : Nat) (k : BusErrKind) (r : ErrRule) (clash : Bool) (delay : Option Nat) : State :=
  let s := s.canRxEnd n
  let mode := s.canMode n
  if !s.canOnBus n || mode == canOff || mode == canListen then s
  else if k = .res ∧ s.flag (Reg.CFD_MODE_PEX_EN n) ∧ (s.canU n).onBus.isNone then
    -- a protocol exception is no error: the unit integrates (Table 7.1)
    ((s.setFld (Reg.CFD_FLAGS_PEX_SEEN n) 1).setFld (Reg.CFD_ERRC_STATE n) errIntegrating).frameEnd (Reg.canUnit n)
  else if mode = canRestricted then
    ((s.bump (errReg n k)).setFld (Reg.CFD_ERRC_STATE n) errIntegrating).frameEnd (Reg.canUnit n)
  else
    let t := s.bump (errReg n k)
    let t := delay.elim t (t.canDelay n)
    let c := if clash && k == .bit && !t.canObserved n then t.canClash n else (t, false)
    let t := (c.1.countError n r).canConfine n
    let off := t.errState n = errBusOff
    let t := t.canFailed n false (decide off) c.2
    (if off then t.canBusOff n else t).frameEnd (Reg.canUnit n)

end Sys2Proof.Machine
end

