-- ==== Sys2Proof/Machine/CanMtx.lean ====
section
/-!
DEFINITION. Schedule matrices (R252 to R255, and R183, R185, R186 for a matrix that runs on time).
-/

namespace Sys2Proof.Machine

/-- The words of the pending matrix of unit `n`: section 0x0A of the image. -/
def State.mtxPendWords (s : State) (n : Nat) : List (Nat × Word) :=
  s.tbl.filterMap fun kv =>
    if kv.1 / 16777216 = 0x0A * 65536 + Reg.canUnit n ∧ kv.1 % 16 < 4 then
      some (4 * (kv.1 / 16 % 1048576) + kv.1 % 16, kv.2)
    else none

/-- The matrix that the next cycle start of a kind other than TIME runs: an armed pending one, else the active one. -/
def State.mtxNext (s : State) (n : Nat) : Option MtxRun :=
  let x := (s.canU n).mtx
  let p : MtxRun := { words := s.mtxPendWords n }
  if x.pending && x.armed && p.src != 3 then some p
  else if x.active then some x
  else none

/-- A basic cycle of a matrix starts at local time `l`; `y` is the matrix that runs from now on. -/
def State.mtxCycle (s : State) (n b l : Nat) (y : MtxRun) : State :=
  let t := s.mtxClose n
  let x := (t.canU n).mtx
  let keep := y.pending
  let t := t.setMtx n { y with
    pending := x.pending && keep, armed := x.armed && keep, takeDue := if keep then x.takeDue else none
    active := true, cycle := some b, start16 := l, window := none, sent := false, missed := false, rephased := false
    wanted := none }
  (t.tick (Reg.CFD_MTX_CYCLES n)).wr (Reg.CFD_MTX_START_TS n) (s.stampAt l)

/-- A cycle is running: its length has not passed. -/
def State.mtxBusy (s : State) (n l : Nat) : Bool :=
  let x := (s.canU n).mtx
  x.active && x.cycle.isSome && decide (l < x.start16 + x.cycleNs * 65536)

/-- A START_MATRIX or a reference frame during a cycle ends it and sets MTX_RESTART (R254). -/
def State.mtxRestart (s : State) (n l : Nat) : State :=
  if s.mtxBusy n l then s.setFld (Reg.CFD_FLAGS_MTX_RESTART n) 1 else s

/-- ARM: the pending matrix becomes active by its start rules (R183, R254). -/
def State.mtxArm (s : State) (n : Nat) : State :=
  let x := (s.canU n).mtx
  let p : MtxRun := { words := s.mtxPendWords n }
  if !x.pending then s
  else if p.src = 3 then
    s.setMtx n { x with
      armed := true
      takeDue := some (gridStart (s.rd64 (Reg.CFD_MTX_BASE_LO n)).toNat p.cycleNs s.discUp)
      armBase := (s.rd64 (Reg.CFD_MTX_BASE_LO n)).toNat }
  else s.setMtx n { x with armed := true, takeDue := none }

/-- The image gives the unit a matrix: it becomes pending (R81). -/
def State.mtxPend (s : State) (n : Nat) : State :=
  s.setMtx n { (s.canU n).mtx with pending := true, armed := false, takeDue := none }

/-- STOP: the active matrix stops at once. -/
def State.mtxStop (s : State) (n : Nat) : State :=
  let t := s.mtxClose n
  t.setMtx n { (t.canU n).mtx with active := false, cycle := none, window := none, wanted := none }

/-- A START_MATRIX release for basic cycle `b` at local instant `l` (R172, R254). -/
def State.mtxAction (s : State) (n b l : Nat) : State :=
  match s.mtxNext n with
  | none => s
  | some y =>
    if 2 ≤ y.src then s
    else if y.ncyc < b then s.setFld (Reg.CFD_FLAGS_MTX_BAD n) 1
    else if y.src = 0 then (s.mtxRestart n l).mtxCycle n b l y
    else
      let m := y.refMb
      let t := (s.mtxRestart n l).mtxClose n
      let c := t.mb n m
      let w4 := putBits (c.words.getD 4 0) 0 6 b
      let t := t.setMb n m { c with words := setAt c.words 4 w4 }
      let t := t.setMtx n { (t.canU n).mtx with wanted := some (b, m), window := none }
      t.mbRequest n m

/-- The reference frame of REF_SEND has completed: its cycle started at its start of frame (R254). -/
def State.mtxSent (s : State) (n b sof16 : Nat) : State :=
  match s.mtxNext n with
  | some y => if y.src = 1 then s.mtxCycle n b sof16 y else s
  | none => s

/-- A received frame that is the reference of REF_FOLLOW starts its cycle at its start of frame (R254). -/
def State.mtxReference (s : State) (n : Nat) (ident : Nat) (ide : Bool) (data : List Byte) (sof16 : Nat) : State :=
  match s.mtxNext n with
  | none => s
  | some y =>
    let w := y.w 0 2
    if y.src = 2 ∧ bits w 0 29 = ident ∧ bitOf w 29 = ide ∧ data ≠ [] then
      let b := byteAt data 0 % 64
      if y.ncyc < b then s.setFld (Reg.CFD_FLAGS_MTX_BAD n) 1
      else (s.mtxRestart n sof16).mtxCycle n b sof16 y
    else s

/-- A cycle of a TIME matrix with base `S` starts at disciplined time `d`. -/
def State.mtxTimeCycle (s : State) (n : Nat) (S d : Int) (y : MtxRun) : State :=
  let C : Int := y.cycleNs
  s.mtxCycle n (((d - S) / C % (y.ncyc + 1)).toNat) s.tb.local16 { y with base := S, nextDue := some (d + C) }

/-- MATRIX_CYCLE_START: the takeover of a TIME matrix that is due, or the next cycle of the active one. -/
def State.mtxCycleStart (s : State) (n : Nat) : State :=
  let x := (s.canU n).mtx
  let due := fun (d : Option Int) => match d with
    | some d => decide (d * 65536 ≤ s.disc16)
    | none => false
  if x.pending && x.armed && due x.takeDue then
    let d := x.takeDue.getD 0
    let t := s.mtxTimeCycle n x.armBase d { words := s.mtxPendWords n, armBase := x.armBase }
    if d ≠ x.armBase then
      (t.setFld (Reg.CFD_FLAGS_LATE_START n) 1).postEvent 0x04A (Reg.canUnit n) (BitVec.ofInt 32 d)
    else t
  else if !x.active then s
  else if x.src = 3 then
    (if due x.nextDue then
      match s.mtxNext n with
      | some y => if y.src = 3 then s.mtxTimeCycle n x.base (x.nextDue.getD 0) x
                  else s.mtxCycle n 0 s.tb.local16 y
      | none => s
     else s)
  else
    match x.cycle with
    | some b =>
      if x.src ≤ 1 ∧ x.wanted.isNone ∧ x.start16 + x.cycleNs * 65536 ≤ s.tb.local16 then
        match s.mtxNext n with
        | some y => s.mtxCycle n ((b + 1) % (y.ncyc + 1)) (x.start16 + x.cycleNs * 65536) y
        | none => s
      else s
    | none => s

/-- The start of window `w` after the cycle start in 2^-16 ns, and its end: a window that would start before the
previous one ends starts at that end (R252). -/
def MtxRun.winSpan (x : MtxRun) (b : Nat) : Nat → Nat × Nat
  | 0 => let o := bits (x.w (winEntry b 0) 0) 0 24 * 6553600; (o, if x.winType b 0 = 0 then 0 else o + x.winLen16 b 0)
  | w + 1 =>
    let p := x.winSpan b w
    let o := max p.2 (bits (x.w (winEntry b (w + 1)) 0) 0 24 * 6553600)
    (o, if x.winType b (w + 1) = 0 then p.2 else o + x.winLen16 b (w + 1))

/-- WINDOW_START: window `w` of the running cycle opens (R252, R253). -/
def State.mtxWindow (s : State) (n w : Nat) : State :=
  let x := (s.canU n).mtx
  match x.cycle with
  | none => s
  | some b =>
    let o := x.start16 + (x.winSpan b w).1
    let next := match x.window with
      | some v => decide (v < w)
      | none => true
    if x.active && next && x.winType b w != 0 && !x.rephased && x.wanted.isNone && decide (o ≤ s.tb.local16) then
      let t := s.mtxClose n
      t.setMtx n { (t.canU n).mtx with window := some w, open16 := o, sent := false, missed := false }
    else s

/-- MTX_REF_MISS: one and a half cycles have passed since the last cycle start (R255). -/
def State.mtxRefMiss (s : State) (n : Nat) : State :=
  let x := (s.canU n).mtx
  match x.cycle with
  | none => s
  | some b =>
    if x.active ∧ x.src = 2 ∧ 2 * x.start16 + 3 * (x.cycleNs * 65536) ≤ 2 * s.tb.local16 then
      let t := s.mtxClose n
      let t := t.setMtx n { (t.canU n).mtx with cycle := none, window := none }
      (t.setFld (Reg.CFD_FLAGS_MTX_REF_MISS n) 1).postEvent 0x049 (Reg.canUnit n + b * 256) 0
    else s

/-- A step of disciplined time: a running TIME matrix finishes its window and starts again on the grid; a takeover
whose instant has passed takes the next grid point (R185, R186). -/
def State.mtxTimeStep (s : State) (n : Nat) : State :=
  let x := (s.canU n).mtx
  let t :=
    if x.active && x.src == 3 && x.cycle.isSome then
      let end16 := match x.cycle, x.window with
        | some b, some w => x.open16 + x.winLen16 b w
        | _, _ => 0
      let e := ceilNs (s.disc16At (max s.tb.local16 end16))
      (s.setMtx n { x with rephased := true, nextDue := some (gridStart x.base x.cycleNs e) }).setFld
        Reg.ACT_STATUS_REPHASED 1
    else s
  let y := (t.canU n).mtx
  match y.takeDue with
  | some d =>
    if d * 65536 < t.disc16 then
      let p : MtxRun := { words := t.mtxPendWords n }
      t.setMtx n { y with takeDue := some (gridStart y.armBase p.cycleNs t.discUp) }
    else t
  | none => t

end Sys2Proof.Machine
end

