-- ==== Sys2Proof/Machine/Jobs.lean ====
section
/-!
DEFINITION. Host jobs of the cipher engine (R396 to R399, R404, R408 to R412): the job rings of each page, descriptors,
what a job computes, and its completion. What a job reads from host memory is an operand of JOB_COMPLETE.
-/

namespace Sys2Proof.Machine

abbrev ringOff : Nat := 0
abbrev ringIdle : Nat := 1
abbrev ringRunning : Nat := 2
abbrev ringStopped : Nat := 3

abbrev jobOk : Nat := 0
abbrev jobTagFail : Nat := 1
abbrev jobNoKey : Nat := 2
abbrev jobNoGrant : Nat := 3
abbrev jobExhausted : Nat := 4
abbrev jobBadDesc : Nat := 5
abbrev jobPathLost : Nat := 6
abbrev jobDmaErr : Nat := 7

abbrev gcmEnc : Nat := 0
abbrev gcmDec : Nat := 1
abbrev gmacGen : Nat := 2
abbrev gmacVer : Nat := 3
abbrev cmacGen : Nat := 4
abbrev cmacVer : Nat := 5
abbrev ctrJob : Nat := 6

/-! ## Descriptors (Table 12.2) -/

/-- A word of a descriptor. -/
def descW (d : List Word) (i : Nat) : Nat := (d.getD i 0).toNat
def descMode (d : List Word) : Nat := bits (descW d 0) 0 4
def descRelease (d : List Word) : Nat := bits (descW d 0) 4 2
def descTagLen (d : List Word) : Nat := bits (descW d 0) 8 5
def descSlot (d : List Word) : Nat := bits (descW d 0) 16 6
def descLength (d : List Word) : Nat := descW d 1
def descAad (d : List Word) : Nat := bits (descW d 2) 0 16
def descDst (d : List Word) : Nat := descW d 6 + 2 ^ 32 * descW d 7
/-- Sixteen bytes of a descriptor from word `i` on. -/
def descBytes (d : List Word) (i : Nat) : List Byte :=
  ((List.range 4).map fun k => leBytes 4 (descW d (i + k))).flatten
def descIv (d : List Word) : List Byte := descBytes d 8
def descTag (d : List Word) : List Byte := descBytes d 12

/-- The mode uses Galois/counter mode with AAD; it is one of GCM and GMAC; it checks a tag. -/
def isGcm (m : Nat) : Bool := m == gcmEnc || m == gcmDec
def isGalois (m : Nat) : Bool := m ≤ gmacVer
def isVerify (m : Nat) : Bool := m == gcmDec || m == gmacVer || m == cmacVer
/-- The mode's nonce is built by the XJG (R398). -/
def ownNonce (m : Nat) : Bool := m == gcmEnc || m == gmacGen

/-- TAG_LEN fits the mode (R397). -/
def tagLenOk (m n : Nat) : Bool :=
  if m = ctrJob then true
  else if isGalois m then n == 4 || n == 8 || (decide (12 ≤ n) && decide (n ≤ 16))
  else decide (4 ≤ n) && decide (n ≤ 16)

/-- The output of the job goes out as it is produced (R412). -/
def descStreams (d : List Word) : Bool :=
  descMode d == gcmDec && (descRelease d == 2 || (descRelease d == 0 && decide (65536 < descLength d)))

/-- No field of the descriptor breaks its range and its reserved bytes are 0 (R409, R412). -/
def descOk (d : List Word) : Bool :=
  let m := descMode d
  let ivLen := if m = ctrJob then 16 else if m = gcmDec ∨ m = gmacVer then 12 else 0
  let tagLen := if isVerify m then descTagLen d else 0
  decide (m ≤ 6) && bits (descW d 0) 6 2 == 0 && bits (descW d 0) 13 3 == 0 && bits (descW d 0) 22 10 == 0
    && bits (descW d 2) 16 16 == 0 && descW d 3 == 0
    && (isGcm m || descAad d == 0) && tagLenOk m (descTagLen d)
    && (m != gcmDec || (descRelease d != 3 && (descRelease d != 1 || decide (descLength d ≤ 65536))))
    && ((descIv d).drop ivLen).all (· == 0#8) && ((descTag d).drop tagLen).all (· == 0#8)

/-! ## Job rings (R408, R411) -/

/-- The active path of page `p` is PCIe. -/
def State.pathPcie (s : State) (p : Nat) : Bool :=
  s.fld (Reg.PG_PATH_ACTIVE p) == 1 || s.fld (Reg.PG_PATH_ACTIVE p) == 2
def State.ringState (s : State) (p r : Nat) : Nat := s.fld (Reg.PCJ_STATUS_STATE p r)
/-- Descriptors wait. -/
def State.ringWork (s : State) (p r : Nat) : Bool :=
  s.fld (Reg.PCJ_CONS_INDEX p r) % 2 ^ (s.jring p r).size != s.fld (Reg.PCJ_PROD_INDEX p r) % 2 ^ (s.jring p r).size

/-- A cipher event of a page's ring, to the queue EQ of PCJ_CTRL (R422). -/
def State.ringPost (s : State) (p r code : Nat) (data : Word) : State :=
  let t := s.postTo p (s.fld (Reg.PCJ_CTRL_EQ p r)) (eventEntry code (p + 8 * r) data)
  { s with regs := t.regs, eqs := t.eqs, out := t.out }

/-- The ring stops because the active path is no PCIe path. -/
def State.ringNoDma (s : State) (p r : Nat) : State :=
  let t := (s.setFld (Reg.PCJ_STATUS_STATE p r) ringStopped).setFld (Reg.PCJ_STATUS_ERR p r) 1
  (t.setFld (Reg.PCJ_STATUS_RING_ERR p r) 1).ringPost p r 0x0A6 1

/-- The active path of page `p` is the ring or an H port. -/
def State.pathFrames (s : State) (p : Nat) : Bool := 3 ≤ s.fld (Reg.PG_PATH_ACTIVE p)

/-- A ring with work stops while the path is no PCIe path (R411). -/
def State.ringCheck (s : State) (p r : Nat) : State :=
  if s.ringState p r = ringIdle ∧ s.ringWork p r = true ∧ s.pathFrames p = true then s.ringNoDma p r else s

/-- EN of PCJ_CTRL has been written: setting it latches the bases and SIZE, clearing it stops a ring that has no job
(R408, R411). -/
def State.ringEnable (s : State) (p r : Nat) (was : Bool) : State :=
  let en := s.flag (Reg.PCJ_CTRL_EN p r)
  if en && !was then
    let x := s.jring p r
    let t := s.setJring p r { x with
      desc := (s.rd64 (Reg.PCJ_DESC_BASE_LO p r)).toNat, cpl := (s.rd64 (Reg.PCJ_CPL_BASE_LO p r)).toNat
      size := clampTo 4 12 (s.fld (Reg.PCJ_CTRL_SIZE p r)) }
    let t := t.setFld (Reg.PCJ_STATUS_ERR p r) 0
    (t.setFld (Reg.PCJ_STATUS_STATE p r) (if x.job.isSome then ringRunning else ringIdle)).ringCheck p r
  else if !en && was && (s.jring p r).job.isNone then s.setFld (Reg.PCJ_STATUS_STATE p r) ringOff
  else s

/-- PCJ_PROD: the host has filled descriptors. -/
def State.ringProd (s : State) (p r index : Nat) : State :=
  (s.setFld (Reg.PCJ_PROD_INDEX p r) index).ringCheck p r

/-- The page's path has switched: a job that runs ends with PATH_LOST, a ring with work may stop (R411). -/
def State.ringPath (s : State) (p r : Nat) : State :=
  let x := s.jring p r
  match x.job with
  | none => s.ringCheck p r
  | some j =>
    let y : Job := { j with status := if j.status = jobOk then jobPathLost else j.status }
    s.setJring p r { x with job := some y }

/-- A ring that the round-robin may serve (R399). -/
def State.ringReady (s : State) (i : Nat) : Bool :=
  s.ringState (i / 2) (i % 2) == ringIdle && s.ringWork (i / 2) (i % 2) && s.pathPcie (i / 2)
    && (s.jring (i / 2) (i % 2)).job.isNone
/-- Jobs that run. -/
def State.jobsRunning (s : State) : Nat :=
  ((List.range 16).filter fun i => (s.jring (i / 2) (i % 2)).job.isSome).length
/-- The ring that gets the pipeline that is free. -/
def State.nextRing (s : State) : Option Nat :=
  ((List.range 16).map fun k => (s.jobTurn + k) % 16).find? s.ringReady

/-! ## Jobs -/

/-- Slot `k` is granted to page `p` (R404). -/
def State.granted (s : State) (p k : Nat) : Bool :=
  bitOf (s.rd (if k < 32 then Reg.CPH_GRANT_LO p else Reg.CPH_GRANT_HI p)).toNat (k % 32)

/-- How a job starts (R403, R404, R406, R409): 0, or the status it ends with. -/
def State.jobStatus (s : State) (p : Nat) (d : List Word) : Nat :=
  let k := descSlot d
  if !descOk d then jobBadDesc
  else if !s.granted p k then jobNoGrant
  else if s.slotState k = keyEmpty ∨ s.slotState k = keyErasing then jobNoKey
  else if s.keyUsable k then jobOk
  else jobExhausted

/-- JOB_START: a pipeline is free and takes the next descriptor of the ring whose turn it is. -/
def State.jobStart (s : State) (p r : Nat) (d : List Word) : State :=
  if s.flag Reg.CPH_BSTAT_RUN && decide (s.jobsRunning < 4) && s.nextRing == some (2 * p + r) then
    let x := s.jring p r
    let k := descSlot d
    let st := s.jobStatus p d
    let i := s.fld (Reg.PCJ_CONS_INDEX p r) % 2 ^ x.size
    let ok := st = jobOk
    let j : Job := { index := i, desc := d, status := st, gen := if ok then s.slotGen k else 0
                     key := if ok then (s.slot k).key else []
                     fixed := (s.rd (Reg.CPH_SLOT_FIXED k)).toNat, count := s.slotCount k }
    let t := { s with jobTurn := (2 * p + r + 1) % 16 }
    let t := t.setJring p r { x with job := some j, path := s.fld (Reg.PG_PATH_ACTIVE p) }
    let t := t.setFld (Reg.PCJ_CONS_INDEX p r) ((i + 1) % 2 ^ x.size)
    let t := t.setFld (Reg.PCJ_STATUS_STATE p r) ringRunning
    let t := t.setFld (Reg.PCJ_STATUS_UNVERIFIED p r) (if ok ∧ descStreams d = true then 1 else 0)
    if ok then (t.keyBegin k).keyInvoke k else t
  else s

/-- What a finished job gives: its status, its output, the nonce and the tag of the completion. -/
structure JobOut where
  status : Nat
  out : List Byte := []
  nonce : List Byte := []
  tag : List Byte := []
  wrap : Bool := false
  deriving DecidableEq, Repr

/-- The computation of a job over what it has read: AAD, then data (Table 12.1, R397, R398). -/
def jobCompute (j : Job) (input : List Byte) : JobOut :=
  let d := j.desc
  let m := descMode d
  let n := descTagLen d
  let nonce := if ownNonce m then macNonce j.fixed j.count else (descIv d).take 12
  let shown := if ownNonce m then nonce else []
  let aad := input.take (descAad d)
  let data := (input.drop (descAad d)).take (descLength d)
  let verify := fun (tag out : List Byte) =>
    ({ status := if tag.take n = (descTag d).take n then jobOk else jobTagFail, out := out } : JobOut)
  match m with
  | 0 =>
    let ct := gcmCrypt j.key nonce data
    { status := jobOk, out := ct, nonce := shown, tag := (gcmTag j.key nonce aad ct).take n }
  | 1 => verify (gcmTag j.key nonce aad data) (gcmCrypt j.key nonce data)
  | 2 => { status := jobOk, nonce := shown, tag := (gcmTag j.key nonce data []).take n }
  | 3 => verify (gcmTag j.key nonce data []) []
  | 4 => { status := jobOk, tag := (cmac j.key data).take n }
  | 5 => verify (cmac j.key data) []
  | _ =>
    { status := jobOk, out := ctrMode j.key (descIv d) data
      wrap := decide (2 ^ 32 < beNat ((descIv d).drop 12) + ceilDiv data.length 16) }

/-- The completion of a job (Table 12.3): its word 0 and the rest. -/
def completion (phase : Bool) (j : Job) (o : JobOut) (streamed scrubbed : Bool) : Word × List Byte :=
  let w0 := flagBit phase 31 + flagBit streamed 30 + flagBit scrubbed 29 + flagBit o.wrap 28
    + j.index * 2 ^ 16 + o.status
  (w32 w0, leBytes 4 j.gen ++ bytesAt o.nonce 0 12 ++ List.replicate 12 0#8 ++ bytesAt o.tag 0 16
    ++ List.replicate 16 0#8)

/-- The job's output as the host's memory gets it (R411, R412). -/
def State.jobWrites (s : State) (p : Nat) (j : Job) (o : JobOut) (streamed scrubbed : Bool) : State :=
  let dst := descDst j.desc
  let n := descLength j.desc
  let send := fun (t : State) (bs : List Byte) => if bs = [] then t else t.emit (.dma p dst bs)
  if o.status = jobOk then send s o.out
  else if o.status = jobTagFail ∧ streamed = true then
    (let t := send s o.out
     if scrubbed then send t (List.replicate o.out.length 0#8) else t)
  else if (o.status = jobPathLost ∨ o.status = jobDmaErr) ∧ (isGcm (descMode j.desc) || descMode j.desc == ctrJob) then
    (send s ((List.range n).map (Config.lostByte s.freeCnt))).useFree
  else s

/-- The ring goes on, stops for want of a PCIe path, or is off. -/
def State.ringAfter (s : State) (p r : Nat) : State :=
  if !s.flag (Reg.PCJ_CTRL_EN p r) then s.setFld (Reg.PCJ_STATUS_STATE p r) ringOff
  else if s.pathFrames p then s.ringNoDma p r
  else s.setFld (Reg.PCJ_STATUS_STATE p r) ringIdle

/-- JOB_COMPLETE: output, then the completion with word 0 last, DONE, JOB_DONE; the slot's item ends (R402, R410). -/
def State.jobComplete (s : State) (p r : Nat) (input : List Byte) (dmaErr : Bool) : State :=
  let x := s.jring p r
  match x.job with
  | none => s
  | some j =>
    let d := j.desc
    let k := descSlot d
    let began := j.status = jobOk ∨ j.status = jobPathLost
    let o : JobOut :=
      if j.status ≠ jobOk then { status := j.status }
      else if dmaErr then { status := jobDmaErr }
      else jobCompute j input
    let streamed := descStreams d && decide began
    let scrubbed := streamed && o.status == jobTagFail && s.flag (Reg.PCJ_CTRL_SCRUB_ON_FAIL p r)
    let c := completion x.phase j o streamed scrubbed
    let t := s.jobWrites p j o streamed scrubbed
    let t := if s.pathPcie p then
        (t.emit (.dma p (x.cpl + 64 * j.index + 4) c.2)).emit (.dma p (x.cpl + 64 * j.index) (leBytes 4 c.1.toNat))
      else t
    let done := (j.index + 1) % 2 ^ x.size
    let t := t.setJring p r { x with job := none, phase := if done = 0 then !x.phase else x.phase }
    let t := (t.setFld (Reg.PCJ_DONE_INDEX p r) done).tick (Reg.PCJ_JOBS p r)
    let t := t.setFld (Reg.PCJ_STATUS_UNVERIFIED p r) 0
    let t := if began then t.keyEnd k j.gen else t
    let t := if t.flag (Reg.PCJ_CTRL_EVT_EN p r) then t.ringPost p r 0x0A5 (w32 j.index) else t
    t.ringAfter p r

end Sys2Proof.Machine
end

