-- ==== Sys2Proof/Machine/Format.lean ====
section
/-!
DEFINITION. Frame formats, scaling and curves (spec/06_signal_gateway.md, R188 to R194), and the fields of route
entries (R195, Tables 6.4 and 6.5).
-/

namespace Sys2Proof.Machine

/-! ## Formats (Tables 6.1 and 6.2) -/

/-- A word of a frame-format entry. -/
def State.fmtW (s : State) (g : Gen) (i w : Nat) : Nat := s.twG g 0x04 devScope i w

/-- The header of format `f`: its number of fields, PAD and LENGTH. -/
def State.fmtFields (s : State) (g : Gen) (f : Nat) : Nat :=
  if bits (s.fmtW g f 0) 30 2 = 1 then bits (s.fmtW g f 0) 24 6 + 1 else 0
def State.fmtPad (s : State) (g : Gen) (f : Nat) : Nat := bits (s.fmtW g f 0) 12 8
def State.fmtLen (s : State) (g : Gen) (f : Nat) : Nat := bits (s.fmtW g f 0) 0 12
def State.fmtProto (s : State) (g : Gen) (f : Nat) : Nat := bits (s.fmtW g f 0) 20 4

/-- A field descriptor (Table 6.2). -/
structure FieldDesc where
  csigned : Bool
  signed : Bool
  big : Bool
  width : Nat
  cell : Nat
  pos : Nat
  curve : Option Nat
  recipe : Option Nat
  mul : Int
  shift : Nat
  offset : Int
  deriving DecidableEq, Repr

/-- The `k`-th field of format `f`. -/
def State.fmtField (s : State) (g : Gen) (f k : Nat) : FieldDesc :=
  let i := f + 1 + k
  let w0 := s.fmtW g i 0
  let w1 := s.fmtW g i 1
  let w2 := s.fmtW g i 2
  { csigned := bitOf w0 29, signed := bitOf w0 28, big := bitOf w0 27, width := bits w0 22 5 + 1
    cell := bits w0 0 17, pos := bits w1 0 14
    curve := if bitOf w1 14 then some (bits w1 15 9) else none
    recipe := if bitOf w1 24 then some (bits w2 21 10) else none
    mul := sgn 16 w2, shift := bits w2 16 5, offset := sgn 24 (s.fmtW g i 3) }

/-- The fields of format `f`. -/
def State.fmtAll (s : State) (g : Gen) (f : Nat) : List FieldDesc :=
  (List.range (s.fmtFields g f)).map (s.fmtField g f)

/-- The payload bit positions of a field, from its least significant bit (R189). -/
def FieldDesc.positions (d : FieldDesc) : List Nat :=
  if d.big then
    -- the most significant bit stands at `pos`; the field runs down through the byte, then on at bit 7 of the next
    ((List.range d.width).map fun j =>
      let o := 7 - d.pos % 8 + j
      (d.pos / 8 + o / 8) * 8 + (7 - o % 8)).reverse
  else (List.range d.width).map fun j => d.pos + j

/-- The last payload byte a field uses, plus 1. -/
def FieldDesc.endByte (d : FieldDesc) : Nat := (d.positions.map fun p => p / 8 + 1).foldl max 0

/-- One bit of a payload. -/
def payloadBit (bs : List Byte) (p : Nat) : Bool := bitOf (byteAt bs (p / 8)) (p % 8)

/-- A number from its bits, least significant first. -/
def natOfBits : List Bool → Nat
  | [] => 0
  | b :: bs => (if b then 1 else 0) + 2 * natOfBits bs

/-- The raw field (R190 step 1). -/
def FieldDesc.raw (d : FieldDesc) (bs : List Byte) : Int :=
  let n := natOfBits (d.positions.map (payloadBit bs))
  if d.signed then sgn d.width n else n

/-- (x × MUL) / 2^SHIFT rounded toward minus infinity, plus OFFSET (R190 step 2). -/
def FieldDesc.scale (d : FieldDesc) (x : Int) : Int := x * d.mul / (2 ^ d.shift : Nat) + d.offset

/-- The range of an `n`-bit field, signed or not. -/
def rangeOf (signed : Bool) (n : Nat) : Int × Int :=
  if signed then (-(2 ^ (n - 1) : Nat), (2 ^ (n - 1) : Nat) - 1) else (0, (2 ^ n : Nat) - 1)

/-- Clamp to a range, and whether a clamp took place. -/
def clampInt (r : Int × Int) (x : Int) : Int × Bool :=
  if x < r.1 then (r.1, true) else if r.2 < x then (r.2, true) else (x, false)

/-! ## Curves (R193, R194) -/

/-- The 64-bit curve entry `i`, as its two words. -/
def State.curveW (s : State) (g : Gen) (i w : Nat) : Nat := s.twG g 0x05 devScope i w

/-- The binary search of R194: `lo` and `hi` move until they are neighbours. -/
def curveSearch (x : Int) (px : Nat → Int) : Nat → Nat → Nat → Nat × Nat
  | 0, lo, hi => (lo, hi)
  | n + 1, lo, hi =>
    if hi - lo ≤ 1 then (lo, hi)
    else
      let m := (lo + hi) / 2
      if px m ≤ x then curveSearch x px n m hi else curveSearch x px n lo m

/-- Curve `c` at `x`: its value and OVRNG (R194). `raw` is `x` as 24 bits. -/
def State.curve (s : State) (g : Gen) (c raw : Nat) : Nat × Bool :=
  let h0 := s.curveW g c 0
  let first := bits h0 0 17
  let cnt := bits h0 17 11
  let sx := bitOf h0 28
  let sy := bitOf h0 29
  let px := fun k => let v := s.curveW g (512 + first + k) 0 % mod24
    if sx then sgn 24 v else (v : Int)
  let py := fun k => let v := s.curveW g (512 + first + k) 1 % mod24
    if sy then sgn 24 v else (v : Int)
  let x : Int := if sx then sgn 24 raw else (raw % mod24 : Nat)
  if cnt = 0 then (raw % mod24, true)
  else if cnt = 1 then (wrapTo 24 (py 0), x != px 0)
  else if x ≤ px 0 then (wrapTo 24 (py 0), x != px 0)
  else if px (cnt - 1) ≤ x then (wrapTo 24 (py (cnt - 1)), x != px (cnt - 1))
  else
    let r := curveSearch x px 11 0 (cnt - 1)
    (wrapTo 24 (py r.1 + (x - px r.1) * (py r.2 - py r.1) / (px r.2 - px r.1)), false)

/-! ## Unpack and pack (R190, R191) -/

/-- The value of one field of a payload: VALUE and OVRNG, before any recipe (R190 steps 1 to 4). -/
def State.unpackField (s : State) (g : Gen) (d : FieldDesc) (bs : List Byte) : Nat × Bool :=
  let v := clampInt (rangeOf d.csigned 24) (d.scale (d.raw bs))
  let x := wrapTo 24 v.1
  match d.curve with
  | none => (x, v.2)
  | some c =>
    let y := s.curve g c x
    (y.1, v.2 || y.2)

/-- Insert the bits of a value at given positions of a payload. -/
def insertBits (bs : List Byte) (v : Nat) : List Nat → List Byte
  | [] => bs
  | p :: ps =>
    insertBits (bs.set (p / 8) (BitVec.ofNat 8 (setBit (byteAt bs (p / 8)) (p % 8) (v % 2 == 1)))) (v / 2) ps

/-- Pack format `f` from cell words (R191): the payload, and how many values were clamped. -/
def State.pack (s : State) (g : Gen) (f : Nat) (read : Nat → DWord) : List Byte × Nat :=
  (s.fmtAll g f).foldl (fun acc d =>
    let raw := cwValue (read d.cell)
    let v := match d.curve with
      | none => raw
      | some c => (s.curve g c raw).1
    let x : Int := if d.csigned then sgn 24 v else (v : Int)
    let r := clampInt (rangeOf d.signed d.width) (d.scale x)
    (insertBits acc.1 (wrapTo d.width r.1) d.positions, acc.2 + if r.2 then 1 else 0))
    (List.replicate (s.fmtLen g f) (BitVec.ofNat 8 (s.fmtPad g f)), 0)

/-! ## Route entries (Tables 6.4 and 6.5) -/

/-- A word of a route entry. -/
def State.rtW (s : State) (g : Gen) (r w : Nat) : Nat := s.twG g 0x07 devScope r w
def State.rtType (s : State) (g : Gen) (r : Nat) : Nat := bits (s.rtW g r 0) 0 4
def State.rtFormat (s : State) (g : Gen) (r : Nat) : Nat := bits (s.rtW g r 1) 0 18
def State.rtUnit (s : State) (g : Gen) (r : Nat) : Nat := bits (s.rtW g r 2) 0 8
def State.rtMailbox (s : State) (g : Gen) (r : Nat) : Nat := bits (s.rtW g r 2) 8 6
def State.rtToPdu (s : State) (g : Gen) (r : Nat) : Bool := bitOf (s.rtW g r 2) 14
def State.rtPdu (s : State) (g : Gen) (r : Nat) : Nat := bits (s.rtW g r 3) 0 15

abbrev rtSignal : Nat := 1
abbrev rtPack : Nat := 2
abbrev rtFrame : Nat := 3
abbrev rtEvent : Nat := 4
abbrev rtReply : Nat := 5
abbrev rtLimit : Nat := 6
abbrev rtPduEntry : Nat := 7

/-- The entries of a chain in order, at most 64, and whether it was cut at the 64th (R196). -/
def State.chainFrom (s : State) (g : Gen) (r : Nat) : Nat → List Nat × Bool
  | 0 => ([], true)
  | n + 1 =>
    let w := s.rtW g r 0
    if bitOf w 4 then
      let c := s.chainFrom g (bits w 5 15) n
      (r :: c.1, c.2)
    else ([r], false)

end Sys2Proof.Machine
end

