-- ==== Sys2Proof/Machine/GwFirst.lean ====
section
/-!
DEFINITION. The first pass of a chain (R196 to R198, R212, R213, R217, R219): LIMIT entries, SIGNAL entries, the frame
group they make, and the invocations of recipes.
-/

namespace Sys2Proof.Machine

/-! ## LIMIT entries (R198) -/

/-- A LIMIT entry judges an item of `cost` units: the state after, and whether it passes. -/
def State.limitJudge (s : State) (g : Gen) (r cost : Nat) : State × Bool :=
  let rate := s.rtW g r 2 % mod24
  let burst := s.rtW g r 3 % 65536
  let c : Credit := Tbl.get (fun _ => {}) s.limits r
  let now := s.tb.local16
  let credit := if c.fresh then burst * 65536
    else min (burst * 65536) (c.credit16 + rate * (now - c.at16) / 1000000000)
  let ok := decide (cost * 65536 ≤ credit)
  let c' : Credit := { fresh := false, credit16 := if ok then credit - cost * 65536 else credit, at16 := now }
  ({ s with limits := Tbl.set (fun _ => {}) s.limits r c' }, ok)

/-- A LIMIT entry of a chain: a drop is counted at the source (R198, R314). -/
def State.limitEntry (s : State) (item : ChainItem) (r : Nat) : State × Bool :=
  let cost := if bitOf (s.rtW item.gen r 1) 0 then item.len else 1
  let j := s.limitJudge item.gen r cost
  if j.2 then j
  else (((j.1.bump (limitDropReg item.unit)).setFld ⟨lastLimitReg item.unit, 0, 15⟩ r), false)

/-! ## Recipes (R217 to R225) -/

/-- A word of a recipe directory entry (Table 6.12). -/
def State.rcW (s : State) (g : Gen) (r w : Nat) : Nat := s.twG g 0x08 devScope r w
def State.rcEngine (s : State) (g : Gen) (r : Nat) : Nat := s.rcW g r 0 % 8
def State.rcOnCommit (s : State) (g : Gen) (r : Nat) : Bool := bitOf (s.rcW g r 0) 3

/-- ROLE of an engine (Table 6.13). -/
def State.role (s : State) (e : Nat) : Nat := s.fld ⟨Reg.secBase e, 0, 2⟩
abbrev roleOwn : Nat := 0
abbrev roleCarrying : Nat := 1
abbrev roleRetired : Nat := 2
abbrev roleSelftest : Nat := 3
/-- The buddy of an engine (R221, Table 0.10). -/
def buddy (e : Nat) : Nat := if e % 2 = 0 then e + 1 else e - 1
/-- The engine that runs the recipes whose home is `e` (R223, R225). -/
def State.runsOn (s : State) (e : Nat) : Nat :=
  if s.role e = roleRetired ∨ s.role e = roleSelftest then buddy e else e

/-- The depth of an engine's queue is shown. -/
def State.showQueue (s : State) (e : Nat) : State := s.setFld ⟨Reg.secBase e + 0x18, 0, 9⟩ (s.engine e).queue.length

/-- An engine runs no recipes: it is RETIRED or under its self-test. -/
def State.engineOut (s : State) (e : Nat) : Bool := s.role e == roleRetired || s.role e == roleSelftest

/-- An invocation arrives at its engine; at a full queue, or when a pair has no engine left, it is not run (R219,
R465). -/
def State.invoke (s : State) (i : Invoc) : State × Bool :=
  let e := s.runsOn (s.rcEngine i.gen i.recipe)
  let t := { s with nextId := s.nextId + 1 }
  if 256 ≤ (s.engine e).queue.length ∨ s.engineOut e then (t.bump (Reg.secBase e + 0x10), false)
  else ((t.setEngine e { t.engine e with queue := (t.engine e).queue ++ [i] }).showQueue e, true)

/-! ## SIGNAL entries (R190, R192) -/

/-- The status bits of an unpacked value, laid out as cell bits [39:32]. -/
def unpackStatus (ovr spare : Bool) : Nat := 2 ^ stValid + flagBit ovr stOvrng + flagBit spare stSpare

/-- One field of a SIGNAL entry: a write of its cell, or the place of its recipe's outputs. -/
def State.fieldEntry (s : State) (item : ChainItem) (r batch : Nat) (d : FieldDesc) : State × List BatchItem :=
  if item.payload.length < d.endByte then (s.bump (shortReg item.unit), [])
  else
    let v := s.unpackField item.gen d item.payload
    let st := unpackStatus v.2 item.spare
    match d.recipe with
    | none => (s, [.write ⟨d.cell, .put (cellWord v.1 st (s.stampFor d.cell item.time item.phases))⟩])
    | some rc =>
      let q := s.invoke { id := s.nextId, recipe := rc, batch := some batch, cell := d.cell, w1 := v.1, w3 := st
                          w4 := r, gen := item.gen, time := item.time, phases := item.phases, spare := item.spare }
      (q.1, if q.2 then [.waits s.nextId d.cell] else [])

/-- A SIGNAL entry. -/
def State.signalEntry (s : State) (item : ChainItem) (r batch : Nat) : State × List BatchItem :=
  (s.fmtAll item.gen (s.rtFormat item.gen r)).foldl
    (fun a d => let f := a.1.fieldEntry item r batch d; (f.1, a.2 ++ f.2)) (s, [])

/-- The first pass over the entries of a chain: the state, the frame group, the entries of the second pass. -/
def State.firstPass (s : State) (item : ChainItem) (batch : Nat) : List Nat → State × List BatchItem × List Nat
  | [] => (s, [], [])
  | r :: rs =>
    let ty := s.rtType item.gen r
    if ty = rtLimit then
      let j := s.limitEntry item r
      if j.2 then j.1.firstPass item batch rs else (j.1, [], [])
    else if ty = rtSignal then
      let f := s.signalEntry item r batch
      let g := f.1.firstPass item batch rs
      (g.1, f.2 ++ g.2.1, g.2.2)
    else
      let g := s.firstPass item batch rs
      (g.1, g.2.1, if ty = rtPack ∨ ty = rtFrame ∨ (ty = rtReply ∧ item.request) then r :: g.2.2 else g.2.2)

/-- A chain starts: its first pass makes one batch (R196). -/
def State.startChain (s : State) (item : ChainItem) (route : Nat) : State :=
  let c := s.chainFrom item.gen route 64
  let t := if c.2 then s.bump (chainLongReg item.unit) else s
  let b := t.nextId
  let f := ({ t with nextId := b + 1 }).firstPass item b c.1
  if f.2.1 = [] ∧ f.2.2 = [] then f.1
  else { f.1 with sig := { f.1.sig with
    batches := f.1.sig.batches ++ [{ id := b, src := .chain item f.2.2, gen := item.gen, items := f.2.1 }] } }

/-! ## Order (R214) -/

/-- The source whose chains keep their order: a unit, or a switch port without one. -/
def ChainItem.source (item : ChainItem) : Nat × Nat :=
  match item.unit with
  | some u => (1, u)
  | none => (2, item.port)

/-- The source of a frame in the hold buffer. -/
def HoldEntry.source (e : HoldEntry) : Nat × Nat :=
  match e.kind with
  | .chain item _ => item.source
  | .after item _ => item.source
  | .eth p _ _ _ _ => match portUnit p with
    | some u => (1, u)
    | none => (2, p)

/-- A chain that needs no verification starts, or waits behind an earlier item of its source that is still held. -/
def State.chainInOrder (s : State) (item : ChainItem) (route : Nat) : State :=
  if s.holdBuf.any fun e => e.source == item.source then
    { s with holdBuf := s.holdBuf ++ [{ tgen := item.gen, policy := 0, slot := 0, gen := 0, key := [], usable := false
                                        units := 0, kind := .after item route }] }
  else s.startChain item route

/-- Waiting items whose source holds nothing earlier start, in their order; `before`: what stands ahead of them. -/
def State.startWaiting : List HoldEntry → List HoldEntry → State → State
  | before, [], s => { s with holdBuf := before }
  | before, e :: es, s =>
    match e.kind with
    | .after item route =>
      if before.any fun b => b.source == item.source then State.startWaiting (before ++ [e]) es s
      else State.startWaiting before es (s.startChain item route)
    | _ => State.startWaiting (before ++ [e]) es s

/-- An item has left the hold buffer: what waited for it goes on. -/
def State.holdNext (s : State) : State := s.startWaiting [] s.holdBuf

/-! ## Authenticated items (R212, R213) -/

/-- The CAN_RX policy that names the format of a SIGNAL entry of the chain. -/
def State.chainPolicy (s : State) (g : Gen) (route : Nat) : Option Nat :=
  (s.chainFrom g route 64).1.findSome? fun r =>
    if s.rtType g r = rtSignal then s.polFor g 0 (s.rtFormat g r) else none

/-- Verification has failed: rejected versions of every cell that the chain would have written, as one batch. -/
def State.rejectChain (s : State) (item : ChainItem) (route : Nat) : State :=
  let cells := ((s.chainFrom item.gen route 64).1.filter fun r => s.rtType item.gen r == rtSignal).flatMap fun r =>
    ((s.fmtAll item.gen (s.rtFormat item.gen r)).filter fun d => decide (d.endByte ≤ item.payload.length)).map
      fun d => d.cell
  let t := s.bump (authRejectReg item.unit)
  if cells = [] then t
  else t.addBatch (.chain item []) item.gen (cells.map fun c => .write ⟨c, .reject⟩)

end Sys2Proof.Machine
end

