-- ==== Sys2Proof/Machine/Frame.lean ====
section
/-!
DEFINITION. Fields of Ethernet frames (from the destination address on, without FCS): VLAN tags, addresses, the ring
tag (Table 10.1), PTP event messages (R163, R332) and ECN marking (R329). The layouts of VLAN, IP, UDP and PTP headers
come from their standards (PRESUMED, notes/assumptions/23.md).
-/

namespace Sys2Proof.Machine

/-- The length of a frame by R319: the FCS counts. -/
def wireLen (bs : List Byte) : Nat := bs.length + 4
/-- The frame carries an outer VLAN tag. -/
def tagged (bs : List Byte) : Bool := be16At bs 12 == 0x8100 || be16At bs 12 == 0x88A8
/-- VID of the outer tag; 0 for an untagged frame (Table 9.1). -/
def vidOf (bs : List Byte) : Nat := if tagged bs then be16At bs 14 % 4096 else 0
/-- PCP of the outer tag. -/
def pcpOf (bs : List Byte) : Nat := if tagged bs then be16At bs 14 / 8192 else 0
/-- The number of VLAN tags, up to two. -/
def vlanTags (bs : List Byte) : Nat := (etypeOff bs - 12) / 4
/-- The EtherType after up to two VLAN tags (R314). -/
def etypeOf (bs : List Byte) : Nat := be16At bs (etypeOff bs)
/-- The payload after the EtherType. -/
def ethPayload (bs : List Byte) : List Byte := bs.drop (etypeOff bs + 2)
/-- The destination address as DA_LO and DA_HI (Table 9.1). -/
def daLo (bs : List Byte) : Nat := leNat (bytesAt bs 0 4)
def daHi (bs : List Byte) : Nat := leNat (bytesAt bs 4 2)
/-- The link-local address of gPTP (R339). -/
def isGptp (bs : List Byte) : Bool := beNat (bytesAt bs 0 6) == 0x0180C200000E

/-- Replace the bytes from `off` on. -/
def patch (bs : List Byte) (off : Nat) (new : List Byte) : List Byte :=
  bs.take off ++ new ++ bs.drop (off + new.length)

/-- A frame leaves with its FCS; a stomped frame with the inverted one (R303, R321). -/
def withFcs (bs : List Byte) (stomp : Bool) : List Byte :=
  let c := crc32 bs
  bs ++ leBytes 4 (if stomp then 2 ^ 32 - 1 - c else c)

/-! ## The ring tag -/

/-- The ring tag as bytes. -/
def ringTag (etype src lane cn cls hops seq : Nat) : List Byte :=
  beBytes 2 etype ++ beBytes 4 (src % 64 * 2 ^ 26 + lane % 2 * 2 ^ 25 + cn % 2 * 2 ^ 24 + cls % 4 * 2 ^ 22
    + hops % 64 * 2 ^ 16 + seq % 2 ^ 16)
/-- The tag word of a tagged frame. -/
def tagWord (bs : List Byte) : Nat := beNat (bytesAt bs 14 4)
/-- A frame with a tag after its source address. -/
def insertTag (bs tag : List Byte) : List Byte := bs.take 12 ++ tag ++ bs.drop 12
/-- A frame without its ring tag. -/
def removeTag (bs : List Byte) : List Byte := bs.take 12 ++ bs.drop 18

/-- A frame at port `p` without the ring tag that it carries there. gPTP frames carry none (R339). -/
def untagged (p : Nat) (bs : List Byte) : List Byte :=
  if (p = 20 ∨ p = 21) ∧ !isGptp bs then removeTag bs else bs
/-- The frame `new` with the ring tag that `old` carries at port `p`. -/
def retagged (p : Nat) (old new : List Byte) : List Byte :=
  if (p = 20 ∨ p = 21) ∧ !isGptp old then insertTag new ((old.drop 12).take 6) else new

/-! ## Congestion marks (R329) -/

/-- The one's complement sum after a 16-bit word changes from `a` to `b`. -/
def csumUpdate (c a b : Nat) : Nat :=
  let t := (65535 - c) + (65535 - a) + b
  let t := t % 65536 + t / 65536
  65535 - (t % 65536 + t / 65536)

/-- The offset of the IP header's byte with the ECN field, and whether it is IPv4; none: not an ECT frame. -/
def ectOff (bs : List Byte) : Option (Nat × Bool) :=
  let o := etypeOff bs + 2
  if etypeOf bs = 0x0800 ∧ (byteAt bs (o + 1) % 4 = 1 ∨ byteAt bs (o + 1) % 4 = 2) then some (o, true)
  else if etypeOf bs = 0x86DD ∧ (byteAt bs (o + 1) / 16 % 4 = 1 ∨ byteAt bs (o + 1) / 16 % 4 = 2) then some (o, false)
  else none

/-- The frame with CE, if its ECN field is ECT(0) or ECT(1). -/
def markCe (bs : List Byte) : Option (List Byte) :=
  match ectOff bs with
  | none => none
  | some (o, true) =>
    let a := be16At bs o
    let b := a / 4 * 4 + 3
    let c := csumUpdate (be16At bs (o + 10)) a b
    some (patch (patch bs o (beBytes 2 b)) (o + 10) (beBytes 2 c))
  | some (o, false) =>
    let x := byteAt bs (o + 1)
    some (patch bs (o + 1) [BitVec.ofNat 8 (x / 64 * 64 + 48 + x % 16)])

/-! ## PTP event messages (R163, R332) -/

/-- How a PTP message is carried: the offset of its header, and the offset of a UDP checksum. -/
structure PtpAt where
  off : Nat
  csum : Option Nat
  /-- 0 Ethernet, 1 UDP over IPv4, 2 UDP over IPv6. -/
  kind : Nat
  deriving DecidableEq, Repr

/-- The PTP header of a frame, if it carries one to the event port. -/
def ptpAt (bs : List Byte) : Option PtpAt :=
  let o := etypeOff bs + 2
  if etypeOf bs = 0x88F7 then some ⟨o, none, 0⟩
  else if etypeOf bs = 0x0800 ∧ byteAt bs (o + 9) = 17 then
    let u := o + 4 * (byteAt bs o % 16)
    if be16At bs (u + 2) = 319 then some ⟨u + 8, some (u + 6), 1⟩ else none
  else if etypeOf bs = 0x86DD ∧ byteAt bs (o + 6) = 17 then
    let u := o + 40
    if be16At bs (u + 2) = 319 then some ⟨u + 8, some (u + 6), 2⟩ else none
  else none

/-- messageType of the event messages: Sync, Delay_Req, Pdelay_Req, Pdelay_Resp. -/
def ptpEvent (bs : List Byte) (h : PtpAt) : Bool := byteAt bs h.off % 16 ≤ 3

/-- Add to correctionField and bring a UDP checksum that is present and not zero up to date. -/
def addCorrection (bs : List Byte) (h : PtpAt) (residence : Int) : List Byte :=
  let o := h.off + 8
  let old := beNat (bytesAt bs o 8)
  let new := beBytes 8 (wrapTo 64 ((old : Int) + residence))
  let out := patch bs o new
  match h.csum with
  | none => out
  | some c =>
    if be16At bs c = 0 then out
    else
      let v := (List.range 4).foldl (fun v k => csumUpdate v (be16At bs (o + 2 * k)) (be16At out (o + 2 * k)))
        (be16At bs c)
      patch out c (beBytes 2 (if v = 0 then 0xFFFF else v))

end Sys2Proof.Machine
end

