-- ==== Sys2Proof/Machine/Queue.lean ====
section
/-!
DEFINITION. The saltern and the egress queues (R311, R315, R318, R323, R324, R329, R330) and origination on the ring
(R341, R342, R347, R350).
-/

namespace Sys2Proof.Machine

/-! ## Pans (R311) -/

/-- The pans of a frame. -/
def pansOf (bs : List Byte) : Nat := ceilDiv (wireLen bs) 256
def State.freePans (s : State) : Nat := s.fld Reg.SWC_PANS_FREE

/-- The free count changes; MIN_FREE keeps the fewest (Table 9.7). -/
def State.setFree (s : State) (n : Nat) : State :=
  (s.setFld Reg.SWC_PANS_FREE n).setFld Reg.SWC_PANS_MIN_FREE (min (s.fld Reg.SWC_PANS_MIN_FREE) n)

def State.panUse (s : State) (fid : Nat) : PanUse := Tbl.get (fun _ => {}) s.saltern fid
def State.setPanUse (s : State) (fid : Nat) (x : PanUse) : State :=
  { s with saltern := Tbl.set (fun _ => {}) s.saltern fid x }

/-- One more queue holds the frame; the first one takes its pans. -/
def State.panHold (s : State) (fid pans : Nat) : State :=
  let x := s.panUse fid
  if x.refs = 0 then (s.setPanUse fid { pans := pans, refs := 1 }).setFree (s.freePans - pans)
  else s.setPanUse fid { x with refs := x.refs + 1 }

/-- An egress has sent or dropped the frame; the last one returns its pans. -/
def State.panDrop (s : State) (fid : Nat) : State :=
  let x := s.panUse fid
  if x.refs ≤ 1 then (s.setPanUse fid {}).setFree (s.freePans + x.pans)
  else s.setPanUse fid { x with refs := x.refs - 1 }

/-! ## Queues -/


abbrev portG : Nat := 22
abbrev portM : Nat := 23
abbrev portA : Nat := 20

/-- The depth of a queue in pans. -/
def EgressQ.depth (q : EgressQ) : Nat := (q.frames.map fun f => pansOf f.bytes).sum

/-- DEPTH shows the queue. -/
def State.showDepth (s : State) (p q : Nat) : State :=
  s.setFld (Reg.SWC_Q_DEPTH_DEPTH p q) (satTo 16 (s.queue p q).depth)

/-- All eight queues of a port are empty. -/
def State.queuesEmpty (s : State) (p : Nat) : Bool := (List.range 8).all fun q => (s.queue p q).frames == []

/-- The gates of a port (Table 9.8); a port without a list has every gate open. -/
def State.gates (s : State) (p : Nat) : Nat := s.fld (Reg.SWC_P_LIST_STATE_GATES p)

/-- The rate of a port in kbit/s (SPEED of Table 9.8). -/
def State.portRate (s : State) (p : Nat) : Nat :=
  ([0, 10000, 100000, 1000000, 2500000, 10000000, 25000000, 40000000] : List Nat).getD
    (s.fld (Reg.SWC_P_STATUS_SPEED p)) 0

/-- One bit of credit in the unit of the credit of a queue: a rate in kbit/s times 2^-16 ns. -/
abbrev creditBit : Int := 65536000000

/-- How long queue `q` has been sending since its credit was brought up to date. -/
def State.sendTime (s : State) (p q : Nat) : Nat :=
  match (s.port p).sending with
  | some y => if y.q = q then min s.tb.local16 (y.end16.getD s.tb.local16) - (s.queue p q).creditAt16 else 0
  | none => 0

/-- The credit of a shaped queue now (R324); it saturates (Table 9.9). -/
def State.credit (s : State) (p q : Nat) : Int :=
  let x := s.queue p q
  let slope : Int := (s.rd (Reg.SWC_Q_IDLESLOPE p q)).toNat
  let busy := s.sendTime p q
  let rest := s.tb.local16 - x.creditAt16 - busy
  let sent := x.credit + (slope - s.portRate p) * busy
  let on := match (s.port p).sending with
    | some y => y.q == q && (y.end16.all fun e => decide (s.tb.local16 < e))
    | none => false
  let c :=
    if on then sent
    else if x.frames = [] then min sent 0
    else if bitOf (s.gates p) q then sent + slope * rest
    else sent
  if s.flag (Reg.SWC_Q_CFG_CBS_EN p q) then max (-(2 ^ 31) * creditBit) (min c ((2 ^ 31 - 1) * creditBit)) else 0

/-- The credit in bits, as SWC_Q_CREDIT shows it. -/
def State.creditWord (s : State) (p q : Nat) : Word := BitVec.ofInt 32 (s.credit p q / creditBit)

/-- The credit of a queue is brought up to date (R324). -/
def State.cbsUpdate (s : State) (p q : Nat) : State :=
  (s.setQueue p q { s.queue p q with credit := s.credit p q, creditAt16 := s.tb.local16 }).wr
    (Reg.SWC_Q_CREDIT p q) (s.creditWord p q)

/-- The finish tag of a frame that becomes the head of a weighted queue (R323). -/
def State.wfqHead (s : State) (p q : Nat) : State :=
  let x := s.queue p q
  match x.frames with
  | [] => s
  | f :: _ =>
    if q ≤ 5 then
      s.setQueue p q { x with
        fin := max (s.port p).vt x.fin
          + wireLen f.bytes * 65536 / orElse (s.fld (Reg.SWC_Q_CFG_WEIGHT p q)) 1 }
    else s

/-- Ring A and ring B. -/
def isRing (p : Nat) : Bool := p == 20 || p == 21

/-- MARK_TH is reached: CE for an ECT frame, CN in a ring tag (R329). -/
def State.mark (s : State) (p q : Nat) (mayMark : Bool) (bs : List Byte) : State × List Byte :=
  let th := s.fld (Reg.SWC_Q_LIMITS_MARK_TH p q)
  if th = 0 ∨ (s.queue p q).depth < th then (s, bs)
  else
    let e := if mayMark then (markCe (untagged p bs)).map (retagged p bs) else none
    let t := match e with
      | some _ => s.bump (Reg.SWC_P_ECN_MARKED p)
      | none => s
    let bs := e.getD bs
    if isRing p && !isGptp bs then
      (t.bump (Reg.SWC_P_CN_MARKED p), patch bs 14 [BitVec.ofNat 8 (setBit (byteAt bs 14) 0 true)])
    else (t, bs)

/-- A MAC in low-power idle leaves it: its next frame starts TW after this instant (R309). LPI of SWC_P_STATUS covers the
waking. -/
def State.lpiLeave (s : State) (p : Nat) : State :=
  if isMac p && s.flag (Reg.EMC_LINK_LPI_TX p) then
    (s.setFld (Reg.EMC_LINK_LPI_TX p) 0).setPort p { s.port p with
      wake16 := some (s.tb.local16 + orElse (s.fld (Reg.EMC_EEE_TW p)) 17 * us16) }
  else s

/-- Frame `f` is admitted to an egress queue, or dropped there at HARD_LIMIT (R329, R330). At a MAC it gives its region
work (R33). -/
def State.takeFrame (s : State) (p q : Nat) (f : QFrame) (mayMark : Bool) : State :=
  let s := if isMac p then s.regionWork (Reg.macUnit p) else s
  let hard := orElse (s.fld (Reg.SWC_Q_LIMITS_HARD_LIMIT p q)) 49152
  if hard < (s.queue p q).depth + pansOf f.bytes then s.bump (Reg.SWC_P_TAIL_DROP p)
  else
    let m := (s.cbsUpdate p q).mark p q mayMark f.bytes
    let t := m.1
    let x := t.queue p q
    let t := t.setQueue p q { x with frames := x.frames ++ [{ f with bytes := m.2, at16 := t.tb.local16 }] }
    let t := (t.panHold f.fid (pansOf m.2)).showDepth p q
    (if x.frames = [] then t.wfqHead p q else t).lpiLeave p

/-- The frames of a queue leave it without being sent. -/
def State.emptyQueue (s : State) (p q : Nat) : State :=
  let s := s.cbsUpdate p q
  let x := s.queue p q
  let t := s.setQueue p q { x with frames := [], held := false }
  let t := ((x.frames.foldl (fun t f => t.panDrop f.fid) t).cbsUpdate p q).showDepth p q
  if x.frames ≠ [] ∧ t.queuesEmpty p = true then t.setPort p { t.port p with idle16 := t.tb.local16 } else t

/-- Every frame of a queue is dropped and counted in FLUSHED (R318, R342). -/
def State.flushQueue (s : State) (p q : Nat) : State :=
  let n := (s.queue p q).frames.length
  let t := s.emptyQueue p q
  t.wr (Reg.SWC_P_FLUSHED p) (satWord ((t.rd (Reg.SWC_P_FLUSHED p)).toNat + n))

/-- The queue a port's frame takes by PCP or DEF_QUEUE of its ingress port (R315). -/
def State.ingressQueue (s : State) (p : Nat) (bs : List Byte) : Nat :=
  if tagged bs then bits (s.fld (Reg.SWC_P_PCPMAP_MAP p)) (3 * pcpOf bs) 3
  else s.fld (Reg.SWC_P_CFG_DEF_QUEUE p)

/-! ## PTP at an egress port (R163, R332) -/

/-- A two-step event message gives an entry of the stamp queue of 32 (R332). -/
def State.txStamp (s : State) (p : Nat) (frame : List Byte) (at16 : Nat) : State :=
  let bs := untagged p frame
  match ptpAt bs with
  | none => s
  | some h =>
    if s.flag (Reg.SWC_P_CFG_TS2_EN p) && ptpEvent bs h && bitOf (byteAt bs (h.off + 6)) 1 then
      let e : StampEntry :=
        { word := w32 (2 ^ 31 + byteAt bs h.off % 16 * 65536 + be16At bs (h.off + 30))
          time := BitVec.ofInt 64 (s.disc16At at16 / 65536) }
      let x := s.port p
      if x.stamps.length < 32 then s.setPort p { x with stamps := x.stamps ++ [e] }
      else
        let rest := match x.stamps.drop 1 with
          | [] => []
          | y :: ys => { y with word := y.word ||| w32 (2 ^ 30) } :: ys
        (s.setPort p { x with stamps := rest ++ [e] }).bump (Reg.SWC_P_TS_LOST p)
    else s

/-- The transparent clock corrects an event message of another PTP instance by its residence, from its timestamp point at
the ingress to the one at the egress, local instants `rx16` and `tx16` (R163). -/
def State.tcCorrect (s : State) (rx16 tx16 : Nat) (bs : List Byte) : List Byte :=
  match ptpAt bs with
  | none => bs
  | some h =>
    let own := byteAt bs h.off / 16 == 1 && byteAt bs (h.off + 4) == s.fld Reg.TMB_GPTP_CTRL_DOMAIN
    let on := match h.kind with
      | 0 => s.flag Reg.TMB_TC_CTRL_TC_L2
      | 1 => s.flag Reg.TMB_TC_CTRL_TC_UDP4
      | _ => s.flag Reg.TMB_TC_CTRL_TC_UDP6
    if s.flag Reg.TMB_TC_CTRL_TC_EN && on && ptpEvent bs h && !own then
      addCorrection bs h (s.disc16At tx16 - s.disc16At rx16)
    else bs

/-- The same for a frame as it leaves at port `p`: on the ring, behind its tag (R355). -/
def State.corrected (s : State) (p : Nat) (rx16 : Option Nat) (tx16 : Nat) (bs : List Byte) : List Byte :=
  match rx16 with
  | some l => retagged p bs (s.tcCorrect l tx16 (untagged p bs))
  | none => bs

/-! ## Origination on the ring (R341) -/

/-- ETYPE of the ring tag. -/
def State.ringEtype (s : State) : Nat := orElse (s.fld Reg.RNG_CFG_ETYPE) 0x88B5
/-- A ring link is up. -/
def State.ringUp (s : State) (k : Nat) : Bool :=
  s.flag (if k = 0 then Reg.RNG_STATE_LINK_A else Reg.RNG_STATE_LINK_B)
/-- This node may originate ring frames (R347, R350). -/
def State.mayOriginate (s : State) : Bool :=
  s.flag Reg.RNG_BSTAT_RUN && s.flag Reg.RNG_CFG_EN && s.ring.quietOver && !s.ring.stopped

/-- A tagged frame for a ring port: queued, or counted in NOLINK (R342). -/
def State.ringSend (s : State) (k q : Nat) (f : QFrame) (mayMark : Bool) : State :=
  if s.ringUp k then s.takeFrame (portA + k) q f mayMark else s.bump (Reg.RNG_P_NOLINK k)

/-- The frame of class `cls` and number `n` as this node sends it on ring port `k`. -/
def State.originated (s : State) (cls n k : Nat) (bs : List Byte) : List Byte :=
  insertTag bs (ringTag s.ringEtype s.node k 0 cls 0 n)

/-- The next number of the sequence counter is taken. -/
def State.nextSeq (s : State) : State := { s with ring := { s.ring with seq := (s.ring.seq + 1) % 65536 } }

/-- A frame is originated: the next sequence number, both ring ports. -/
def State.originate (s : State) (cls q : Nat) (f : QFrame) (mayMark : Bool) : State :=
  if s.mayOriginate then
    let g := fun k => { f with bytes := s.originated cls s.ring.seq k f.bytes }
    (s.nextSeq.ringSend 0 q (g 0) mayMark).ringSend 1 q (g 1) mayMark
  else s

end Sys2Proof.Machine
end

