-- ==== Sys2Proof/Machine/Switch.lean ====
section
/-!
DEFINITION. Ingress of the switch core (R302, R307, R312 to R321, R330): stream filters, static forwarding, cut-through
decisions, wake patterns, and the hand-over to chains, egress queues, the ring and the cipher hold buffer.
-/

namespace Sys2Proof.Machine

/-! ## Tables 9.1 and 9.2 -/

def State.sfW (s : State) (g : Gen) (i w : Nat) : Nat := s.twG g 0x10 devScope i w

/-- Stream filter `i` matches a frame from port `p` (R314). -/
def State.sfMatch (s : State) (g : Gen) (i p : Nat) (bs : List Byte) : Bool :=
  let m := s.sfW g i 3
  (!bitOf m 0 || (s.sfW g i 0 == daLo bs && bits (s.sfW g i 1) 0 16 == daHi bs))
    && (!bitOf m 1 || bits (s.sfW g i 1) 16 16 == etypeOf bs)
    && (!bitOf m 2 || bits (s.sfW g i 2) 0 12 == vidOf bs)
    && (!bitOf m 3 || bits (s.sfW g i 2) 12 3 == pcpOf bs)
    && (!bitOf m 4 || bits (s.sfW g i 2) 16 5 == p)

/-- The first enabled stream filter that matches (R312). -/
def State.streamFilter (s : State) (g : Gen) (p : Nat) (bs : List Byte) : Option Nat :=
  ((s.entriesAt g 0x10 devScope 3).filter fun i => bitOf (s.sfW g i 3) 5).find? fun i => s.sfMatch g i p bs

def State.fwW (s : State) (g : Gen) (i w : Nat) : Nat := s.twG g 0x0F devScope i w

/-- The static forwarding entry of a frame: a VID-exact one before a VID_ANY one, then the lower index (R312). -/
def State.forwardEntry (s : State) (g : Gen) (bs : List Byte) : Option Nat :=
  let hits := ((s.entriesAt g 0x0F devScope 2).filter fun i => bitOf (s.fwW g i 2) 31).filter fun i =>
    s.fwW g i 0 == daLo bs && bits (s.fwW g i 1) 0 16 == daHi bs
      && (bitOf (s.fwW g i 1) 28 || bits (s.fwW g i 1) 16 12 == vidOf bs)
  match hits.find? fun i => !bitOf (s.fwW g i 1) 28 with
  | some i => some i
  | none => hits.head?

/-- What the tables say about a frame: its stream filter, egress mask and queue override. -/
structure Verdict9 where
  filter : Option Nat
  mask : Nat
  queue : Option Nat
  deriving DecidableEq, Repr

/-- The mask and queue of a frame by its filter's ACTION or the static table, without the ingress port, and for a
frame from the ring without the ring ports (R312, R345). -/
def State.lookup (s : State) (g : Gen) (p : Nat) (filter : Option Nat) (bs : List Byte) : Verdict9 :=
  let clear := fun m => setBit (if p = 20 ∨ p = 21 then setBit (setBit m 20 false) 21 false else m) p false
  let table := match s.forwardEntry g bs with
    | some i => (s.fwW g i 2 % mod24, if bitOf (s.fwW g i 2) 27 then some (bits (s.fwW g i 2) 24 3) else none)
    | none => (0, none)
  match filter with
  | none => { filter := none, mask := clear table.1, queue := table.2 }
  | some i =>
    let w := s.sfW g i 4
    let mq := match bits w 0 2 with
      | 0 => table
      | 1 => (s.sfW g i 5 % mod24, none)
      | _ => (0, none)
    { filter := some i, mask := clear mq.1, queue := if bitOf w 6 then some (bits w 3 3) else mq.2 }

/-- CHAIN_EN of a filter. -/
def State.sfChain (s : State) (g : Gen) (i : Nat) : Option Nat :=
  if bitOf (s.sfW g i 4) 7 then some (bits (s.sfW g i 6) 0 15) else none
/-- The ETH_RX policy of a filter with AUTH = 1. -/
def State.sfPolicy (s : State) (g : Gen) (i : Nat) : Option Nat :=
  if bitOf (s.sfW g i 4) 2 then s.polFor g 2 i else none

/-- How a frame came in: its timestamp point (R163), its pans in the saltern, and what its forwarding decision has done
already: the ports that it goes to cut-through, its number on the ring, its meter. -/
structure Rx where
  rx16 : Option Nat := none
  fid : Option Nat := none
  done : List Nat := []
  seq : Option Nat := none
  judged : Bool := false
  deriving DecidableEq, Repr

/-- No pan is left for the next bytes of a frame from port `p` (R330). -/
def State.noPan (s : State) (p : Nat) : State :=
  (s.setFld Reg.SWC_FLAGS_SALTERN_FULL 1).bump (Reg.SWC_P_TAIL_DROP p)

/-- The frame goes on to the ring as one origination, on the ports that its forwarding decision has not served (R341). -/
def State.toRing (s : State) (q : Nat) (f : QFrame) (rx : Rx) (mayMark : Bool) : State :=
  match rx.seq with
  | none => s.originate 0 q f mayMark
  | some n => ([0, 1].filter fun k => !rx.done.contains (portA + k)).foldl
      (fun t k => t.ringSend k q { f with bytes := t.originated 0 n k f.bytes } mayMark) s

/-- The frame is admitted to the queues of the egress mask (R312, R330). A frame that came in through a port has its pans;
another one needs them now. -/
def State.toEgress (s : State) (p : Nat) (rx : Rx) (v : Verdict9) (mayMark : Bool) (bs : List Byte) : State :=
  let q := v.queue.getD (s.ingressQueue p bs)
  let fid := rx.fid.getD s.nextId
  let t := if rx.fid.isNone then { s with nextId := fid + 1 } else s
  if rx.fid.isNone && decide (s.freePans < pansOf bs) then t.noPan p
  else
    let f : QFrame := { fid := fid, bytes := bs, at16 := t.tb.local16, src := p, rx16 := rx.rx16 }
    let t := ((List.range 24).filter fun e => bitOf v.mask e && !isRing e && !rx.done.contains e).foldl
      (fun t e => t.takeFrame e q f mayMark) t
    if bitOf v.mask 20 || bitOf v.mask 21 then t.toRing q f rx mayMark else t

/-- The chain item of an Ethernet frame. -/
def ethItem (stamps : Word × List Word) (g : Gen) (p filter : Nat) (payload : List Byte) (len : Nat) : ChainItem :=
  { unit := portUnit p, port := p, gen := g, payload := payload, len := len, time := stamps.1
    phases := stamps.2, filter := some filter }

/-- METER of a filter: what the frame costs, judged by its LIMIT entry (R198, R314). -/
def State.meter (s : State) (g : Gen) (filter : Nat) (bs : List Byte) : State × Bool :=
  let w6 := s.sfW g filter 6
  let entry := bits w6 16 15
  if bitOf w6 15 then s.limitJudge g entry (if bitOf (s.rtW g entry 1) 0 then wireLen bs else 1) else (s, true)

/-- METER, ACTION, the chain and the egress ports of a frame that may pass (R312, R314). `start` starts the chain, `trailer`
bytes of an authenticator are no payload. -/
def State.actOn (s : State) (start : State → ChainItem → Nat → State) (g : Gen) (p : Nat) (rx : Rx)
    (filter : Option Nat) (stamps : Word × List Word) (trailer : Nat) (bs : List Byte) : State :=
  let v := s.lookup g p filter bs
  match filter with
  | none => if v.mask = 0 then s.bump (Reg.SWC_P_NO_ROUTE p) else s.toEgress p rx v true bs
  | some i =>
    let j := if rx.judged then (s, true) else s.meter g i bs
    if !j.2 then j.1.bump (Reg.SWC_P_LIMIT_DROP p)
    else if bits (s.sfW g i 4) 0 2 = 3 then j.1.bump (Reg.SWC_P_FILTER_DROP p)
    else
      let chain := s.sfChain g i
      let t := match chain with
        | some r =>
          let pay := ethPayload bs
          start j.1 (ethItem stamps g p i (pay.take (pay.length - trailer)) (wireLen bs)) r
        | none => j.1
      if v.mask ≠ 0 then t.toEgress p rx v (!bitOf (s.sfW g i 4) 2) bs
      else if chain.isNone then t.bump (Reg.SWC_P_NO_ROUTE p)
      else t

/-- An accepted frame: the stream filters come first; a frame of an authenticated stream waits in the hold buffer
(R312, R317, R414). -/
def State.forwardG (s : State) (g : Gen) (p : Nat) (rx : Rx) (bs : List Byte) : State :=
  match s.streamFilter g p bs with
  | none => s.actOn State.chainInOrder g p rx none s.stampsNow 0 bs
  | some i =>
    match s.sfPolicy g i with
    | some pol => s.hold_ g pol (wireLen bs) (.eth p i s.stampsNow rx.rx16 bs) none
    | none => s.actOn State.chainInOrder g p rx (some i) s.stampsNow 0 bs

/-- A frame that the XJG makes itself, from port `p`. -/
def State.forward (s : State) (p : Nat) (bs : List Byte) : State := s.forwardG (s.rd Reg.STR_GEN) p {} bs

/-! ## Ingress (R302, R319) -/

/-- The largest frame a port accepts (R319, R340). -/
def State.maxFrame (s : State) (p : Nat) (bs : List Byte) : Nat :=
  clampTo 1518 9216 (s.fld (Reg.SWC_P_CFG_MAX_LEN p)) + (if p = 20 ∨ p = 21 then 6 else 0)
    + 4 * vlanTags (if p = 20 ∨ p = 21 then removeTag bs else bs)

/-- Received frames and bytes are counted. -/
def State.countRx (s : State) (p : Nat) (bs : List Byte) : State :=
  (s.add64 (Reg.SWC_P_RX_FRAMES_LO p) 1).add64 (Reg.SWC_P_RX_BYTES_LO p) (wireLen bs)

/-- Sent frames and bytes are counted. -/
def State.countTx (s : State) (p len : Nat) : State :=
  (s.add64 (Reg.SWC_P_TX_FRAMES_LO p) 1).add64 (Reg.SWC_P_TX_BYTES_LO p) len

/-- MODE of a MAC; 3 to 7 act as 0 (R305). -/
def State.macMode (s : State) (m : Nat) : Nat :=
  let x := s.fld (Reg.EMC_MODE_MODE m)
  if x ≤ 2 then x else 0

/-- The bytes that a wake pattern's mask picks (R307). -/
def State.wakeMask (s : State) (m k i : Nat) : Bool :=
  bitOf (s.rd (Reg.EMC_WMASK m k (i / 32))).toNat (i % 32)

/-- Wake pattern `k` matches a frame (R307, R308). -/
def State.wakeMatch (s : State) (m k : Nat) (bs : List Byte) : Bool :=
  let sel := (List.range 128).filter (s.wakeMask m k)
  bitOf (s.fld (Reg.EMC_WAKE_EN_EN m)) k && sel.all (fun i => decide (i < bs.length))
    && crcMsb 16 0x1021 0xFFFF (sel.map fun i => bs.getD i 0#8) == s.fld (Reg.EMC_WCRC_CRC m k)

/-! ## Lines -/

/-- The line time of `n` bytes in 2^-16 ns. -/
def State.lineTime (s : State) (p n : Nat) : Nat :=
  let r := s.portRate p
  if r = 0 then 0 else ceilDiv (n * 8 * 65536000000) r

/-- When the frame that port `p` sends ends on the wire, without the gap after it. -/
def State.wireEnd (s : State) (p : Nat) (x : Sending) : Nat := x.start16 + s.lineTime p (wireLen x.frame.bytes + 8)

/-- The frame on the line has ended. -/
def State.lineDone (s : State) (p : Nat) : State :=
  match (s.port p).sending with
  | none => s
  | some x =>
    match x.end16 with
    | none => s
    | some e =>
      if e ≤ s.tb.local16 then
        let t := s.cbsUpdate p x.q
        let t := (t.setPort p { t.port p with sending := none, idle16 := e }).cbsUpdate p x.q
        let t := (t.panDrop x.frame.fid).countTx p (wireLen x.frame.bytes)
        (if isMac p then t.frameEnd (Reg.macUnit p) else t).portEnd p
      else s

/-- The frame on the line of port `p` is lost with it. -/
def State.lineLost (s : State) (p : Nat) : State :=
  match (s.port p).sending with
  | none => s
  | some x =>
    ((s.cbsUpdate p x.q).setPort p { s.port p with sending := none, idle16 := s.tb.local16 }).panDrop x.frame.fid

/-! ## Frames under way (R311, R320, R321) -/

def State.setCut (s : State) (p : Nat) (c : Option CutThrough) : State := s.setPort p { s.port p with cut := c }

/-- The frame of decision `c` from port `p`, whole or cut, as it leaves at port `e`: a ring copy passes on with HOPS + 1, a
frame that enters the ring gets its tag (R341, R343). -/
def State.cutOut (s : State) (p e : Nat) (c : CutThrough) (bs : List Byte) : List Byte :=
  if isRing p then patch bs 14 (beBytes 4 (tagWord bs + 2 ^ 16))
  else if isRing e then s.originated 0 (c.seq.getD 0) (e - portA) bs
  else bs

/-- Port `e` sends the frame of decision `c`. -/
def State.cutting (s : State) (e : Nat) (c : CutThrough) : Bool :=
  match (s.port e).sending with
  | some x => x.cut && x.end16.isNone && x.frame.fid == c.fid
  | none => false

/-- The cut-through frame on the line of port `e` ends with bytes `bs`, in flight corrected (R163), and with a stomped FCS
if it turned out bad (R321). -/
def State.cutEnds (s : State) (p e : Nat) (c : CutThrough) (bs : List Byte) (bad : Bool) : State :=
  match (s.port e).sending with
  | none => s
  | some x =>
    let tx16 := x.start16 + s.lineTime e 8
    let out := s.corrected e (some c.rx16) tx16 (s.cutOut p e c bs)
    let t := (s.emit (.ethTx e (withFcs out bad) bad)).txStamp e out tx16
    let t := if bad then t.bump (Reg.SWC_P_CT_BAD e) else t
    let t := t.tick (Reg.SWC_P_CT_FRAMES e)
    t.setPort e { t.port e with sending := some { x with
      frame := { x.frame with bytes := out }, end16 := some (x.start16 + t.lineTime e (wireLen out + 20)) } }

/-- The frame under way from port `p` is complete, or turned out bad, with bytes `bs`: its cut-through copies end, and the
port holds its pans no longer. -/
def State.endCut (s : State) (p : Nat) (bs : List Byte) (bad : Bool) : State :=
  match (s.port p).cut with
  | none => s
  | some c =>
    let t := (c.egress.filter (s.cutting · c)).foldl (fun t e => t.cutEnds p e c bs bad) (s.setCut p none)
    t.panDrop c.fid

/-- The link of ingress port `p` goes down: a frame under way from it ends as bad (R321) with the bytes that its
forwarding decision saw (notes/assumptions/169.md). -/
def State.ingressLost (s : State) (p : Nat) : State :=
  match (s.port p).cut with
  | some c => (s.bump (Reg.SWC_P_FCS_ERR p)).endCut p c.head true
  | none => s

/-- ETH_LINK of port `p`, with SPEED and LINK as its status register shows them (R333, Table 11.4). -/
def State.linkEvent (s : State) (p : Nat) : State :=
  s.postEvent 0x060 p
    (w32 (s.fld (Reg.SWC_P_STATUS_SPEED p) * 2 ^ 28 + flagBit (s.flag (Reg.SWC_P_STATUS_LINK p)) 27))

/-- The pans of frame `fid` grow to `n` as its bytes arrive (R311). -/
def State.panGrow (s : State) (fid n : Nat) : State :=
  let x := s.panUse fid
  if x.pans < n then (s.setPanUse fid { x with pans := n }).setFree (s.freePans - (n - x.pans)) else s

/-- How long a frame and its preamble last on the line of port `p`, in 2^-16 ns. -/
def State.wire16 (s : State) (p : Nat) (bs : List Byte) : Nat :=
  let r := s.portRate p
  if r = 0 then 0 else (wireLen bs + 8) * 8 * 65536000000 / r

/-- The frame under way from port `p`; one without a forwarding decision has just taken its first pan. -/
def State.underWay (s : State) (p : Nat) (bs : List Byte) : State × CutThrough :=
  match (s.port p).cut with
  | some c => (s, c)
  | none =>
    let at16 := s.tb.local16 - s.wire16 p bs
    let c : CutThrough :=
      { fid := s.nextId, start16 := at16, gen := s.genAt at16, rx16 := at16 + s.lineTime p 8 }
    (State.setCut { s with nextId := s.nextId + 1 } p (some c), c)

/-- A good frame is whole: it has its pans, its cut-through copies end, and `use` does the rest. Without a free pan it is
dropped for every egress; a copy under way is then stomped (R321, R330; DESIGN CHOICE, notes/assumptions/167.md). -/
def State.received (s : State) (p : Nat) (bs : List Byte) (use : State → Gen → Rx → State) : State :=
  let u := s.underWay p bs
  let t := u.1
  let c := u.2
  let held := (t.panUse c.fid).pans
  if c.drop then t.endCut p bs true
  else if t.freePans < pansOf bs - held then (t.noPan p).endCut p bs true
  else
    let t := if held = 0 then t.panHold c.fid (pansOf bs) else t.panGrow c.fid (pansOf bs)
    let x := t.panUse c.fid
    let t := (t.setPanUse c.fid { x with refs := x.refs + 1 }).endCut p bs false
    (use t c.gen { rx16 := some c.rx16, fid := some c.fid, done := c.egress, seq := c.seq, judged := c.judged }).panDrop
      c.fid

/-- A frame with a good FCS at a MAC in LISTEN (R307). -/
def State.ethWake (s : State) (m : Nat) (bs : List Byte) : State :=
  match (List.range 16).find? fun k => s.wakeMatch m k bs with
  | none => s
  | some k =>
    let t := s.bump (Reg.EMC_WAKE_CNT m)
    let t := (t.setFld (Reg.EMC_FLAGS_WAKE_SEEN m) 1).postEvent 0x061 (m + k * 256) 0
    let t := if s.flag (Reg.EMC_MODE_WAKE_RUN m) then t.setFld (Reg.EMC_MODE_MODE m) 1 else t
    if s.flag (Reg.EMC_MODE_WAKE_KEEP m) then t.received m bs (fun t g rx => t.forwardG g m rx bs) else t

/-- What ends the reception of a frame as bad, in the order it is judged. -/
inductive RxFault where
  | runt | giant | fcs
  deriving DecidableEq, Repr

def State.rxFault (s : State) (p : Nat) (bs : List Byte) (q : RxQuality) : Option RxFault :=
  if wireLen bs < 64 then some .runt
  else if s.maxFrame p bs < wireLen bs then some .giant
  else if !q.fcsOk || !q.lineOk then some .fcs
  else none

/-- The counter of a bad frame. -/
def rxFaultReg (p : Nat) : RxFault → Nat
  | .runt => Reg.SWC_P_RUNT p
  | .giant => Reg.SWC_P_GIANT p
  | .fcs => Reg.SWC_P_FCS_ERR p

/-- The bytes of a cut-through frame that go out before its FCS: a giant is cut after maximum - 4 (R321). -/
def State.cutBytes (s : State) (p : Nat) (bs : List Byte) (f : Option RxFault) : List Byte :=
  match f with
  | some .giant => bs.take (s.maxFrame p bs - 4)
  | _ => bs

/-- Port `p` takes frames: the switch runs, a MAC is linked, running and NORMAL. -/
def State.portTakes (s : State) (p : Nat) : Bool :=
  s.flag Reg.SWC_BSTAT_RUN
    && (!isMac p || (s.running (Reg.macUnit p) && s.flag (Reg.EMC_LINK_UP p) && s.macMode p != 0))

/-- A frame that the management engine takes at port `p`: a link-local gPTP frame of a gPTP port. -/
def State.isOwnGptp (s : State) (p : Nat) (bs : List Byte) : Bool :=
  isGptp bs && bitOf (s.fld Reg.TMB_GPTP_PORTS_PORTS) p

/-- ETH_FRAME_RECEIVED at a port outside the ring: a frame on a ring port is a RING_FRAME_RECEIVED (R343). A MAC in LISTEN
gives its region no work (R308). -/
def State.ethReceive (s : State) (p : Nat) (bs : List Byte) (q : RxQuality) : State :=
  if !s.portTakes p || isRing p then s
  else
    let listens := isMac p && s.macMode p == 2
    let s := if isMac p && !listens then s.regionWork (Reg.macUnit p) else s
    let done := fun (t : State) => (if isMac p then t.frameEnd (Reg.macUnit p) else t).portEnd p
    match s.rxFault p bs q with
    | some f => done ((s.bump (rxFaultReg p f)).endCut p (s.cutBytes p bs (some f)) true)
    | none =>
      let t := s.countRx p bs
      if listens then done (t.ethWake p bs)
      else if isMac p && etypeOf bs == 0x8808 then done (t.bump (Reg.SWC_P_FILTER_DROP p))
      else if s.isOwnGptp p bs then done t
      else done (t.received p bs (fun t g rx => t.forwardG g p rx bs))

/-! ## Cut-through (R310, R320) -/

/-- Port `e` can carry frames now: a MAC runs NORMAL with a link, a host port or a ring port has a link. LPI and waking from
it are for R309. Ports G and M have no line. -/
def State.lineUp (s : State) (e : Nat) : Bool :=
  if isMac e then s.running (Reg.macUnit e) && s.flag (Reg.EMC_LINK_UP e) && s.macMode e == 1
  else if e = 20 then s.ringUp 0
  else if e = 21 then s.ringUp 1
  else decide (22 ≤ e) || s.flag (Reg.SWC_P_STATUS_LINK e)

/-- An egress port may take a frame of port `p` cut-through now. -/
def State.cutEligible (s : State) (p e : Nat) : Bool :=
  let atStep0 := fun x => !isMac x || s.regionStep (x / 2) == 0
  bitOf (s.fld (Reg.SWC_P_CT_CT_EGRESS p)) e && s.queuesEmpty e && (s.port e).sending.isNone
    && !s.flag (Reg.SWC_P_STATUS_LPI e) && decide (s.fld (Reg.SWC_P_STATUS_SPEED e) ≤ s.fld (Reg.SWC_P_STATUS_SPEED p))
    && atStep0 p && atStep0 e && p != portG && p != portM && e != portG && e != portM && s.lineUp e

/-- The queue a cut-through frame would take must have its gate open, and on a guarded port the largest frame must fit
(R320, R327); `fits` says the latter. -/
def State.cutGate (s : State) (e q : Nat) (fits : Nat → Nat → Bool) : Bool :=
  bitOf (s.gates e) q && fits e q

/-- Port `e` starts to send the frame of decision `c` (R320). A MAC's region has work (R33). -/
def State.cutStart (s : State) (p e q : Nat) (c : CutThrough) : State :=
  let s := (if isMac e then s.regionWork (Reg.macUnit e) else s).cbsUpdate e q
  let x := s.panUse c.fid
  let f : QFrame :=
    { fid := c.fid, bytes := s.cutOut p e c c.head, at16 := s.tb.local16, src := p, rx16 := some c.rx16 }
  (s.setPanUse c.fid { x with refs := x.refs + 1 }).setPort e { s.port e with
    sending := some { q := q, cut := true, frame := f, start16 := s.tb.local16, end16 := none } }

/-- The first 64 bytes of a frame are in (R311, R320): the first pan is taken, and `choose` gives the decision its egress
ports; without a free pan the frame is dropped (R330). -/
def State.headIn (s : State) (p q : Nat) (head : List Byte) (choose : State → CutThrough → State × CutThrough) :
    State :=
  let at16 := s.tb.local16 - s.lineTime p (head.length + 8)
  let c : CutThrough :=
    { fid := s.nextId, start16 := at16, gen := s.genAt at16, head := head, rx16 := at16 + s.lineTime p 8 }
  let t := { s with nextId := s.nextId + 1 }
  if t.freePans < 1 then (t.noPan p).setCut p (some { c with drop := true })
  else
    let j := choose (t.panHold c.fid 1) c
    let u := j.1.setCut p (some j.2)
    j.2.egress.foldl (fun t e => t.cutStart p e q j.2) u

/-- The ports of a mask that take the frame cut-through; a frame for the ring goes to both ring ports (R341). -/
def State.cutPorts (s : State) (p q mask : Nat) (fits : Nat → Nat → Bool) : List Nat :=
  let ring := bitOf mask 20 || bitOf mask 21
  (List.range 24).filter fun e =>
    (if isRing e then ring && s.mayOriginate else bitOf mask e) && s.cutEligible p e && s.cutGate e q fits

/-- FORWARDING_DECISION at a port outside the ring: each eligible egress starts sending the frame (R320). A frame of an
authenticated stream stays store-and-forward (R317); so does one whose meter counts bytes, because it is judged before it
is forwarded and its length is not known yet (R314; DEDUCED, notes/assumptions/96.md). -/
def State.forwardDecide (s : State) (p : Nat) (head : List Byte) (fits : Nat → Nat → Bool) : State :=
  if !s.portTakes p || (isMac p && (s.macMode p == 2 || etypeOf head == 0x8808)) || (s.port p).cut.isSome || isRing p
      || s.isOwnGptp p head then s
  else
    let s := (List.range 22).foldl State.lineDone s
    let g := s.genAt (s.tb.local16 - s.lineTime p (head.length + 8))
    let filter := s.streamFilter g p head
    let v := s.lookup g p filter head
    let w := fun k => (filter.map fun i => s.sfW g i k).getD 0
    let metered := bitOf (w 6) 15
    let stay := bitOf (w 4) 2 || bits (w 4) 0 2 == 3 || (metered && bitOf (s.rtW g (bits (w 6) 16 15) 1) 0)
    let q := v.queue.getD (s.ingressQueue p head)
    s.headIn p q head fun t c =>
      let es := if stay then [] else t.cutPorts p q v.mask fits
      if es = [] then (t, c)
      else
        let j := if metered then t.meter g (filter.getD 0) head else (t, true)
        if !j.2 then (j.1.bump (Reg.SWC_P_LIMIT_DROP p), { c with drop := true })
        else if es.any isRing then
          (j.1.nextSeq, { c with egress := es, judged := metered, seq := some j.1.ring.seq })
        else (j.1, { c with egress := es, judged := metered })

end Sys2Proof.Machine
end

