-- ==== Sys2Proof/Machine/GwSecond.lean ====
section
/-!
DEFINITION. The second pass of a chain (R196, R199 to R205, R208 to R210): packs, tunnelled frames, gateway PDUs,
replies, and their delivery to mailboxes, queues, FIFOs and PDU entries.
-/

namespace Sys2Proof.Machine

/-! ## Serial lanes as destinations (R201, R288) -/

/-- WIDTH: 5 to 9 bits for a character, 4 to 24 for an SPI word; a value outside is clamped (R266, R273; DESIGN CHOICE,
notes/assumptions/162.md). -/
def State.laneWidth (s : State) (n : Nat) : Nat :=
  let p := s.fld (Reg.SLN_MODE_PERS n)
  if p = 4 ∨ p = 5 then clampTo 4 24 (s.fld (Reg.SLN_FMT_WIDTH n)) else clampTo 5 9 (s.fld (Reg.SLN_FMT_WIDTH n))

/-- Bytes of one item of a lane. -/
def State.itemBytes (s : State) (n : Nat) : Nat := ceilDiv (s.laneWidth n) 8

/-- How many of the `k` events of the other side since `at16` a FIFO's flags do not show yet: for three clocks of the slowest
region, 48 ns, a free value (R286). -/
def State.fifoLate (s : State) (at16 k : Nat) : Nat :=
  if s.tb.local16 < at16 + 48 * 65536 then Config.fifoLag s.freeCnt % (k + 1) else 0

/-- The write-side depth of the transmit FIFO (R286). -/
def State.laneTxDepth (s : State) (n : Nat) : Nat :=
  (s.lane n).tx.length + s.fifoLate (s.lane n).txOut16 (s.lane n).txOut

/-- An item leaves the transmit FIFO for the line. -/
def Lane.txTaken (x : Lane) (now : Nat) (rest : List Word) : Lane :=
  { x with tx := rest, txOut16 := now, txOut := if x.txOut16 = now then x.txOut + 1 else 1 }

/-- A payload as transmit items: little-endian groups, LAST on the final one (R288). -/
def txItems (k : Nat) (bs : List Byte) : List Word :=
  let n := ceilDiv bs.length k
  (List.range n).map fun i =>
    w32 (leNat ((bs.drop (k * i)).take k) % mod24 + (if i + 1 = n then 2 ^ 28 else 0))

/-- The lane has a transmit FIFO: not a LIN lane, not a SENT lane (R270, R275). -/
def State.laneSends (s : State) (n : Nat) : Bool :=
  let p := s.fld (Reg.SLN_MODE_PERS n)
  p != 1 && p != 2 && p != 6

/-- A routed frame for a lane's transmit FIFO, only if the whole frame fits. -/
def State.laneDeliver (s : State) (n : Nat) (bs : List Byte) : State :=
  let u := Reg.laneUnit n
  let s := s.regionWork u
  let items := txItems (s.itemBytes n) bs
  let t := s.useFree
  if s.takesWork u && s.laneSends n && decide (s.laneTxDepth n + items.length ≤ 512) then
    t.setLane n { s.lane n with tx := (s.lane n).tx ++ items }
  else t.txDrop u

/-! ## Frames from port G -/

/-- A frame of port G enters the switch core. -/
def State.fromG (s : State) (bs : List Byte) : State :=
  if s.flag Reg.SWC_BSTAT_RUN then (s.countRx portG bs).forward portG bs else s

/-- A field of a PDU entry (Table 6.5). -/
def State.pduBytes (s : State) (g : Gen) (r off n : Nat) : List Byte :=
  (List.range n).map fun i => BitVec.ofNat 8 (s.rtW g r ((off + i) / 4) / 2 ^ (8 * ((off + i) % 4)))

/-- The Ethernet header of a PDU entry: addresses, tag, EtherType. -/
def State.pduHeader (s : State) (g : Gen) (r : Nat) : List Byte :=
  s.pduBytes g r 4 12
    ++ (if bitOf (s.rtW g r 4) 16 then beBytes 2 0x8100 ++ beBytes 2 (bits (s.rtW g r 4) 0 16) else [])
    ++ beBytes 2 (bits (s.rtW g r 7) 0 16)

/-- A payload leaves by a PDU entry: padded to the least frame, authenticated by an ETH_TX policy (R203, R420). -/
def State.pduSend (s : State) (g : Gen) (r : Nat) (payload : List Byte) : State :=
  let h := s.pduHeader g r
  let pad := fun (bs : List Byte) (least : Nat) => bs ++ List.replicate (least - bs.length) 0#8
  match s.polFor g 3 r with
  | none => s.fromG (pad (h ++ payload) 60)
  | some i =>
    let a := s.authEth g i (pad (h ++ payload) (60 - 8 - s.polMac g i))
    match a.2 with
    | some bs => a.1.fromG bs
    | none => a.1

/-- The open PDU of an entry. -/
def State.pdu (s : State) (r : Nat) : PduState := Tbl.get (fun _ => {}) s.pdus r
def State.setPdu (s : State) (r : Nat) (x : PduState) : State := { s with pdus := Tbl.set (fun _ => {}) s.pdus r x }

/-- The open PDU is completed and passed through port G (R203, R204). -/
def State.pduComplete (s : State) (g : Gen) (r : Nat) : State :=
  let x := s.pdu r
  let body := beBytes 4 (2 ^ 28 + x.records.length % 256 * 65536 + x.seq) ++ beBytes 4 s.stamp.toNat
    ++ x.records.flatten
  (s.setPdu r { records := [], since := 0, seq := (x.seq + 1) % 65536 }).pduSend g r body

/-- The bytes an authenticator takes of a PDU's limit (R420). -/
def State.pduTrailer (s : State) (g : Gen) (r : Nat) : Nat :=
  match s.polFor g 3 r with
  | some i => 8 + s.polMac g i
  | none => 0

/-- A record is appended (R203). -/
def State.pduAppend (s : State) (g : Gen) (r : Nat) (record : List Byte) : State :=
  let maxBytes := bits (s.rtW g r 5) 0 11
  let maxRec := orElse (bits (s.rtW g r 6) 16 8) 255
  let used := 8 + (s.pdu r).records.flatten.length + s.pduTrailer g r
  let t := if (s.pdu r).records ≠ [] ∧ maxBytes < used + record.length then s.pduComplete g r else s
  let x := t.pdu r
  let t := t.setPdu r { x with
    records := x.records ++ [record], since := if x.records = [] then t.tb.local16 else x.since }
  if maxRec ≤ x.records.length + 1 ∨ bits (s.rtW g r 6) 0 16 = 0 then t.pduComplete g r else t

/-- PDU_HOLD_EXPIRY: HOLD_US after its first record the open PDU is completed. -/
def State.pduExpire (s : State) (r : Nat) : State :=
  let g := s.rd Reg.STR_GEN
  let x := s.pdu r
  if s.rtType g r = rtPduEntry ∧ x.records ≠ [] ∧ x.since + bits (s.rtW g r 6) 0 16 * us16 ≤ s.tb.local16 then
    s.pduComplete g r
  else s

/-- A record of Table 6.6. -/
def pduRecord (ident : Nat) (ide fdf brs esi rtr : Bool) (chan : Nat) (stamp : Word) (data : List Byte) : List Byte :=
  beBytes 4 (flagBit brs 31 + flagBit fdf 30 + flagBit ide 29 + ident % 2 ^ 29)
    ++ beBytes 4 (flagBit rtr 16 + chan % 256 * 256 + flagBit esi 7 + data.length % 128)
    ++ beBytes 4 stamp.toNat ++ data ++ List.replicate (ceilDiv data.length 4 * 4 - data.length) 0#8

/-! ## Delivery of a packed or tunnelled frame (R201) -/

/-- What a route entry makes of a frame for a CAN destination. -/
structure OutFrame where
  ident : Nat
  ide : Bool
  fdf : Bool
  brs : Bool
  rtr : Bool
  data : List Byte
  deriving DecidableEq, Repr

/-- ID, IDE, FDF and BRS of a route entry. -/
def State.rtOut (s : State) (g : Gen) (r : Nat) (rtr : Bool) (data : List Byte) : OutFrame :=
  let w := s.rtW g r 4
  { ident := bits w 0 29, ide := bitOf w 29, fdf := bitOf w 30, brs := bitOf w 30 && bitOf w 31, rtr := rtr
    data := data }

/-- A packed frame for a CAN mailbox, authenticated by the policy of its format (R201, R419). -/
def State.canDeliver (s : State) (g : Gen) (n m fmt : Nat) (f : OutFrame) : State :=
  if !s.canAccepts n f.fdf f.data.length then s.txDrop (Reg.canUnit n)
  else
    match s.polFor g 1 fmt with
    | none => s.mbDeliver n m (mkMb f.ident f.ide f.fdf f.brs f.rtr false false false f.data)
    | some i =>
      let a := s.authCan g i f.ident f.ide f.data
      match a.2 with
      | some d => a.1.mbDeliver n m (mkMb f.ident f.ide f.fdf f.brs f.rtr false true false (d.take f.data.length))
      | none => a.1.txDrop (Reg.canUnit n)

/-- A frame of a PACK entry goes to its destination unit. -/
def State.packTo (s : State) (g : Gen) (r u m : Nat) (data : List Byte) : State :=
  match unitKind u with
  | .can n => s.canDeliver g n m (s.rtFormat g r) (s.rtOut g r false data)
  | .lane n => s.laneDeliver n data
  | _ => s.txDrop u

/-- Values that a pack clamped are counted at the destination unit (R191). -/
def State.countSat (s : State) (u k : Nat) : State := s.bumpBy (Reg.GWU_PACK_SAT u) k

/-- The word a PACK of a chain reads: the newest version, but of a host's uncommitted version the committed one
(R199). -/
def State.packRead (s : State) (n : Nat) : DWord :=
  if !s.inUse n then 0
  else
    match newestOf (s.cell n).vers with
    | none => 0
    | some v => if laterW v.tag (s.rd Reg.SIG_EPOCH) ∧ cwBit v.word stHostset then s.live n else v.word

/-- A PACK entry, with its cells read by `read`. -/
def State.packEntry (s : State) (g : Gen) (r : Nat) (read : Nat → DWord) : State :=
  let p := s.pack g (s.rtFormat g r) read
  if s.rtToPdu g r then s.pduSend g (s.rtPdu g r) p.1
  else (s.countSat (s.rtUnit g r) p.2).packTo g r (s.rtUnit g r) (s.rtMailbox g r) p.1

/-- The identifier and flags of a FRAME entry: the source's with KEEP_ID, else its own; CLASSIC sends classical CAN
(R202). -/
def State.frameOut (s : State) (g : Gen) (r : Nat) (src : OutFrame) : OutFrame :=
  let w := s.rtW g r 1
  let f := if bitOf w 3 then src else s.rtOut g r src.rtr src.data
  let f := if bitOf w 2 then { f with fdf := false, brs := false } else f
  { f with rtr := f.rtr && !f.fdf }

/-- A tunnelled frame goes to the gateway queue of a CAN unit, or to a lane's FIFO. -/
def State.frameTo (s : State) (u : Nat) (f : OutFrame) : State :=
  match unitKind u with
  | .can n => s.gwqDeliver n (mkMb f.ident f.ide f.fdf f.brs f.rtr false false false f.data)
  | .lane n => s.laneDeliver n f.data
  | _ => s.txDrop u

/-- The source frame of an item. -/
def ChainItem.out (item : ChainItem) : OutFrame :=
  match item.can with
  | some f => { ident := f.ident.toNat, ide := f.ide, fdf := f.fdf, brs := f.brs, rtr := f.rtr, data := item.payload }
  | none => { ident := 0, ide := false, fdf := false, brs := false, rtr := false, data := item.payload }

/-- The record of an item for a PDU. -/
def State.itemRecord (s : State) (r : Nat) (item : ChainItem) : List Byte :=
  let f := match item.can with
    | some _ => item.out
    | none => s.rtOut item.gen r false item.payload
  let esi := match item.can with
    | some c => c.esi
    | none => false
  let chan := match item.can with
    | some _ => item.chan
    | none => Config.recordChan (item.unit.getD 256) % 128
  pduRecord f.ident f.ide f.fdf f.brs esi f.rtr chan item.time f.data

/-- A FRAME entry appends an item to its PDU. A payload above the 64 bytes of a record cannot be delivered (R201; DEDUCED,
notes/assumptions/155.md). -/
def State.itemToPdu (s : State) (r : Nat) (item : ChainItem) : State :=
  if 64 < item.payload.length then s.txDrop (s.rtUnit item.gen r)
  else s.pduAppend item.gen (s.rtPdu item.gen r) (s.itemRecord r item)

/-! ## FROM_PDU (R205) -/

/-- A record of a PDU as received. -/
structure PduRec where
  frame : OutFrame
  esi : Bool
  chan : Nat
  stamp : Word
  deriving DecidableEq, Repr

/-- A record read from a PDU payload at `off`, and the offset of the next one; none: a bad record. -/
def readRecord (bs : List Byte) (off : Nat) : Option (PduRec × Nat) :=
  let w0 := beNat (bytesAt bs off 4)
  let w1 := beNat (bytesAt bs (off + 4) 4)
  let len := w1 % 128
  let next := off + 12 + ceilDiv len 4 * 4
  if bs.length < off + 12 ∨ 64 < len ∨ bs.length < off + 12 + len then none
  else some
    ({ frame := { ident := bits w0 0 29, ide := bitOf w0 29, fdf := bitOf w0 30, brs := bitOf w0 31, rtr := bitOf w1 16
                  data := bytesAt bs (off + 12) len }
       esi := bitOf w1 7, chan := bits w1 8 8, stamp := w32 (beNat (bytesAt bs (off + 8) 4)) }, next)

/-- The FROM_PDU entries of a chain. -/
def State.fromPduEntries (s : State) (g : Gen) (rs : List Nat) : List Nat :=
  rs.filter fun r => s.rtType g r == rtFrame && bits (s.rtW g r 1) 0 2 == 2

/-- One record goes to every FROM_PDU entry that accepts its channel: to its unit, or with TO_PDU into its PDU, where it
keeps its channel and stamp. -/
def State.recordTo (s : State) (g : Gen) (es : List Nat) (x : PduRec) : State :=
  es.foldl (fun t r =>
    let c := bits (t.rtW g r 5) 0 8
    let f := t.frameOut g r x.frame
    if c ≠ 0xFF ∧ c ≠ x.chan then t
    else if t.rtToPdu g r then
      t.pduAppend g (t.rtPdu g r) (pduRecord f.ident f.ide f.fdf f.brs x.esi f.rtr x.chan x.stamp f.data)
    else t.frameTo (t.rtUnit g r) f) s

/-- The records of a PDU from `off` on; a bad one ends it. -/
def State.splitPdu (s : State) (g : Gen) (es : List Nat) (bs : List Byte) : Nat → Nat → State
  | 0, _ => s
  | n + 1, off =>
    match readRecord bs off with
    | none => s.bump Reg.SWC_G_BADREC
    | some (x, next) => (s.recordTo g es x).splitPdu g es bs n next

/-- A SEQ that is not the previous one plus 1 counts a gap (R314). -/
def State.pduSeqCheck (s : State) (filter seq : Nat) : State :=
  let last : Option Nat := Tbl.get (fun _ => none) s.pduSeq filter
  let t := { s with pduSeq := Tbl.set (fun _ => none) s.pduSeq filter (some seq) }
  match last with
  | none => t
  | some l => if seq = (l + 1) % 65536 then t else t.bump Reg.SWC_G_SEQGAP

/-- A PDU that a stream filter sent to a chain with FROM_PDU entries is split. -/
def State.fromPdu (s : State) (item : ChainItem) (es : List Nat) : State :=
  let h := beNat (bytesAt item.payload 0 4)
  let t := match item.filter with
    | some i => s.pduSeqCheck i (h % 65536)
    | none => s
  if item.payload.length < 8 then t.bump Reg.SWC_G_BADREC
  else t.splitPdu item.gen es item.payload (bits h 16 8) 8

/-! ## LIN responses (R211; ISO 17987, PRESUMED, notes/assumptions/25.md) -/

/-- The protected identifier: the parity bits P0 and P1 over the frame identifier. -/
def linPid (ident : Nat) : Nat :=
  let b := fun k => bitOf ident k
  ident % 64 + flagBit (((b 0 != b 1) != b 2) != b 4) 6 + flagBit (!(((b 1 != b 3) != b 4) != b 5)) 7

/-- The inverted sum with carry of a run of bytes. -/
def linSum (bs : List Byte) : Nat :=
  255 - bs.foldl (fun a b => let x := a + b.toNat; if 255 < x then x - 255 else x) 0

/-- The checksum of a response: classic for identifiers 60 and 61, enhanced otherwise. -/
def linChecksum (ident : Nat) (data : List Byte) : Byte :=
  BitVec.ofNat 8 (linSum (if ident = 60 ∨ ident = 61 then data else BitVec.ofNat 8 (linPid ident) :: data))

/-- DIR, LEN and ROUTE of the responder table (Table 8.2). -/
def State.linEntry (s : State) (n ident : Nat) : Nat := s.tw 0x03 (Reg.laneUnit n) (1088 + ident % 64) 0
def State.linDir (s : State) (n ident : Nat) : Nat := bits (s.linEntry n ident) 0 2
def State.linLen (s : State) (n ident : Nat) : Nat :=
  let l := bits (s.linEntry n ident) 3 4
  if l = 0 ∨ 8 < l then 8 else l

/-- The bit time of a LIN frame in 2^-16 ns. -/
def LinFrame.bit16 (f : LinFrame) : Nat := f.div * 25600

/-- The end of a frame's time: 1.4 × 10 × (LEN + 1) bit times after its protected identifier. -/
def State.linDeadline (s : State) (n : Nat) (f : LinFrame) : Nat :=
  f.at16 + 14 * (s.linLen n f.ident + 1) * f.bit16

/-- The lane sends the response of the PUBLISH frame whose header ended at `header16` and asked for it, unless that frame
has gone by or its time has passed (R208, R271). -/
def State.linAnswer (s : State) (n header16 : Nat) (payload : List Byte) : State :=
  let s := s.regionWork (Reg.laneUnit n)
  match (s.lane n).lin with
  | some f =>
    if f.at16 = header16 ∧ f.response.isNone ∧ s.linDir n f.ident = 2 ∧ s.tb.local16 ≤ s.linDeadline n f then
      let d := bytesAt payload 0 (s.linLen n f.ident)
      (s.setLane n { s.lane n with lin := some { f with response := some d } }).emit
        (.linResponse n d (linChecksum f.ident d))
    else s
  | none => s

/-! ## REPLY entries (R208 to R210) -/

/-- A REPLY entry answers the request from the newest committed epoch. -/
def State.replyEntry (s : State) (item : ChainItem) (r : Nat) : State :=
  let g := item.gen
  match item.unit with
  | none => s
  | some u =>
    let held := bitOf (s.rtW g r 1) 19 && (s.fmtAll g (s.rtFormat g r)).any fun d =>
      !cwBit (s.live d.cell) stValid || cwBit (s.live d.cell) stStale
    if held then s.bump (Reg.GWU_REPLY_HELD u)
    else
      let p := s.pack g (s.rtFormat g r) s.live
      let t := s.countSat u p.2
      match unitKind u with
      | .can n => t.canDeliver g n (t.rtMailbox g r) (t.rtFormat g r) (t.rtOut g r false p.1)
      | .lane n => t.linAnswer n item.header16 p.1
      | _ => t

/-! ## The second pass -/

/-- One entry of the second pass; `es`: the FROM_PDU entries of the chain. -/
def State.secondEntry (s : State) (item : ChainItem) (es : List Nat) (r : Nat) : State :=
  let g := item.gen
  let ty := s.rtType g r
  if ty = rtPack then s.packEntry g r s.packRead
  else if ty = rtReply then s.replyEntry item r
  else if ty = rtFrame then
    let mode := bits (s.rtW g r 1) 0 2
    if mode = 2 then (if es.head? = some r then s.fromPdu item es else s)
    else if mode = 1 ∨ s.rtToPdu g r then s.itemToPdu r item
    else if mode = 0 then s.frameTo (s.rtUnit g r) (s.frameOut g r item.out)
    else s
  else s

/-- ROUTE_SECOND_PASS: the oldest chain whose batch has been written runs its PACK, FRAME and REPLY entries. -/
def State.secondPass (s : State) : State :=
  match s.sig.second with
  | [] => s
  | (item, rs) :: rest =>
    let t := { s with sig := { s.sig with second := rest } }
    rs.foldl (fun t r => t.secondEntry item (t.fromPduEntries item.gen rs) r) t

end Sys2Proof.Machine
end

