-- ==== Sys2Proof/Machine/RegFind.lean ====
section
/-!
DEFINITION. Finding a register by its page-window address, and the change classes of its fields (R12, R16, R17, R58).
-/

namespace Sys2Proof.Machine

/-- The registers of a unit page, by offset: the gateway counters of R228 and those of the unit's kind. -/
def unitRow (u off : Nat) : Option RegRow :=
  match findRow regRowsGwu off with
  | some r => some r
  | none =>
    match unitKind u with
    | .can _ => findRow regRowsCan off
    | .lane _ => findRow regRowsSln off
    | .bank _ => findRow regRowsDsc off
    | .mac _ => findRow regRowsEmc off

/-- The register row at a page-window address of the owner's view; page registers stand at 0x0300_0000 (Table 1.9). -/
def regAt (a : Nat) : Option RegRow :=
  if 0x100000 ≤ a ∧ a < 0x200000 then findRow regRowsDev a
  else if 0x200000 ≤ a ∧ a < 0x400000 then unitRow ((a - 0x200000) / 0x2000) (a % 0x2000)
  else if 0x2000000 ≤ a ∧ a < 0x2200000 ∧ 0x3F000 ≤ a % 0x40000 then findRow regRowsSec (a % 0x40000 - 0x3F000)
  else if 0x3000000 ≤ a ∧ a < 0x3800000 then findRow regRowsPg (a % 0x100000)
  else none

/-- The mask of a bit range. -/
def rangeMask (msb lsb : Nat) : Nat := 2 ^ (msb + 1) - 2 ^ lsb

/-- The bits of a register marked IMG. -/
def RegRow.imgMask (r : RegRow) : Nat := (r.img.map fun f => rangeMask f.1 f.2).sum

def imgMaskAt (a : Nat) : Nat := match regAt a with
  | some r => r.imgMask
  | none => 0

/-- The bits of a register that a write can store; the rest are read-only or reserved (R12, R13). -/
def rwMaskAt (a : Nat) : Nat := match regAt a with
  | some r => r.rwL ||| r.rwB ||| r.rwF
  | none => 0

/-- The class F bits of a register that are marked IMG. -/
def imgFMaskAt (a : Nat) : Nat := match regAt a with
  | some r => r.imgMask &&& r.rwF
  | none => 0

/-- The block that owns the F fields of a register runs (Table 2.8; for a tracker its EN, R155). -/
def State.fBlocked (s : State) (a : Nat) : Bool :=
  if 0x120100 ≤ a ∧ a < 0x120300 then s.flag (Reg.PHS_CFG_EN ((a - 0x120100) / 0x80))
  else s.flag (bstatRun (blockOf a))

end Sys2Proof.Machine
end

