-- ==== Sys2Proof/Machine/Signature.lean ====
section
/-!
DEFINITION. The signature of R54, R63 and R425: SHA-384 (FIPS 180-4) and ECDSA over curve P-384 (FIPS 186-5). The spec
names the standards, so the algorithms are PRESUMED, notes/assumptions/149.md.
-/

namespace Sys2Proof.Machine

/-! ## SHA-384 -/

/-- The largest `r` with `r` to the power `e` at most `n`, from bit `b - 1` of the root downwards. -/
def rootFloor (e n : Nat) : Nat → Nat → Nat
  | 0, r => r
  | b + 1, r => rootFloor e n b (if (r + 2 ^ b) ^ e ≤ n then r + 2 ^ b else r)

/-- The first 80 primes. -/
def shaPrimes : List Nat :=
  (List.range 410).filter fun n => decide (2 ≤ n) && (List.range 21).all fun d => decide (d < 2) || n % d != 0 || n == d

/-- The round constants: the first 64 bits of the fractional parts of the cube roots of the first 80 primes. -/
def shaRound : List DWord := shaPrimes.map fun p => BitVec.ofNat 64 (rootFloor 3 (p * 2 ^ 192) 68 0)

/-- The start values of SHA-384: the first 64 bits of the fractional parts of the square roots of the ninth to the
sixteenth prime. -/
def shaStart : List DWord := ((shaPrimes.drop 8).take 8).map fun p => BitVec.ofNat 64 (rootFloor 2 (p * 2 ^ 128) 70 0)

/-- The message with its padding: a one bit, zeros, and its length in bits as 16 bytes. -/
def shaPad (bs : List Byte) : List Byte :=
  bs ++ 0x80#8 :: List.replicate ((239 - bs.length % 128) % 128) 0#8 ++ beBytes 16 (8 * bs.length)

/-- Two rotations and a third term, as the four sigma functions have them. -/
def shaMix (x third : DWord) (a b : Nat) : DWord := x.rotateRight a ^^^ x.rotateRight b ^^^ third

/-- The schedule: `k` words are still to come after `ws`, the newest first. -/
def shaSchedule : Nat → List DWord → List DWord
  | 0, ws => ws.reverse
  | k + 1, ws =>
    let w2 := ws.getD 1 0
    let w15 := ws.getD 14 0
    shaSchedule k ((shaMix w2 (w2 >>> 6) 19 61 + ws.getD 6 0 + shaMix w15 (w15 >>> 7) 1 8 + ws.getD 15 0) :: ws)

/-- One round on the eight working words. -/
def shaStep (v : List DWord) (kw : DWord × DWord) : List DWord :=
  match v with
  | [a, b, c, d, e, f, g, h] =>
    let t1 := h + shaMix e (e.rotateRight 41) 14 18 + ((e &&& f) ^^^ (~~~e &&& g)) + kw.1 + kw.2
    let t2 := shaMix a (a.rotateRight 39) 28 34 + ((a &&& b) ^^^ (a &&& c) ^^^ (b &&& c))
    [t1 + t2, a, b, c, d + t1, e, f, g]
  | _ => v

/-- One block of 128 bytes. -/
def shaBlock (v : List DWord) (block : List Byte) : List DWord :=
  let ws := (List.range 16).map fun k => BitVec.ofNat 64 (beNat ((block.drop (8 * k)).take 8))
  List.zipWith (· + ·) v ((shaRound.zip (shaSchedule 64 ws.reverse)).foldl shaStep v)

/-- The blocks of a padded message, at most `n`. -/
def shaBlocks : Nat → List Byte → List (List Byte)
  | 0, _ => []
  | n + 1, bs => bs.take 128 :: shaBlocks n (bs.drop 128)

/-- SHA-384 of a run of bytes. -/
def sha384 (bs : List Byte) : List Byte :=
  let m := shaPad bs
  (((shaBlocks (m.length / 128) m).foldl shaBlock shaStart).take 6).flatMap fun w => beBytes 8 w.toNat

/-! ## Curve P-384 -/

/-- The prime of the field. -/
abbrev p384 : Nat := 2 ^ 384 - 2 ^ 128 - 2 ^ 96 + 2 ^ 32 - 1
/-- The order of the base point. -/
abbrev n384 : Nat :=
  0xFFFFFFFFFFFFFFFFFFFFFFFFFFFFFFFFFFFFFFFFFFFFFFFFC7634D81F4372DDF581A0DB248B0A77AECEC196ACCC52973
/-- The coefficient b of the curve; a is -3. -/
abbrev b384 : Nat :=
  0xB3312FA7E23EE7E4988E056BE3F82D19181D9C6EFE8141120314088F5013875AC656398D8A2ED19D2A85C8EDD3EC2AEF
/-- The base point. -/
abbrev gx384 : Nat :=
  0xAA87CA22BE8B05378EB1C71EF320AD746E1D3B628BA79B9859F741E082542A385502F25DBF55296C3A545E3872760AB7
abbrev gy384 : Nat :=
  0x3617DE4A96262C6F5D9E98BF9292DC29F8F41DBD289A147CE9DA3113B5F0B8C00A60B1CE1D7E819D7A431D7C90EA0E5F

/-- `x` to the power `e` modulo `m`, over the low `k` bits of `e`. -/
def powMod (m : Nat) : Nat → Nat → Nat → Nat → Nat
  | 0, acc, _, _ => acc
  | k + 1, acc, x, e => powMod m k (if e % 2 = 1 then acc * x % m else acc) (x * x % m) (e / 2)

/-- The inverse modulo a prime of 384 bits. -/
def invMod (m x : Nat) : Nat := powMod m 384 1 (x % m) (m - 2)

/-- A difference modulo `m` of numbers below `m`. -/
def subMod (m x y : Nat) : Nat := (x + m - y) % m

/-- A point of the curve; none is the point at infinity. -/
abbrev EcPoint := Option (Nat × Nat)

/-- The sum of two points. -/
def ecAdd (a b : EcPoint) : EcPoint :=
  match a, b with
  | none, _ => b
  | _, none => a
  | some (x1, y1), some (x2, y2) =>
    if x1 = x2 ∧ (y1 + y2) % p384 = 0 then none
    else
      let slope := if x1 = x2 then subMod p384 (3 * x1 * x1 % p384) 3 * invMod p384 (2 * y1) % p384
        else subMod p384 y2 y1 * invMod p384 (subMod p384 x2 x1) % p384
      let x := subMod p384 (subMod p384 (slope * slope % p384) x1) x2
      some (x, subMod p384 (slope * subMod p384 x1 x % p384) y1)

/-- A multiple of a point, over the low `k` bits of the factor. -/
def ecMul : Nat → EcPoint → EcPoint → Nat → EcPoint
  | 0, acc, _, _ => acc
  | k + 1, acc, q, e => if e = 0 then acc else ecMul k (if e % 2 = 1 then ecAdd acc q else acc) (ecAdd q q) (e / 2)

/-- A point lies on the curve. -/
def onCurve (x y : Nat) : Bool :=
  decide (x < p384) && decide (y < p384) && y * y % p384 == (subMod p384 (x * x * x % p384) (3 * x % p384) + b384) % p384

/-- ECDSA verification of a hash: the key is x and y, the signature r and s, 48 bytes each, big-endian (R54, R451). -/
def ecdsaOk (key hash sig : List Byte) : Bool :=
  let qx := beNat (key.take 48)
  let qy := beNat ((key.drop 48).take 48)
  let r := beNat (sig.take 48)
  let s := beNat ((sig.drop 48).take 48)
  let w := invMod n384 s
  let pt := ecAdd (ecMul 384 none (some (gx384, gy384)) (beNat hash * w % n384))
    (ecMul 384 none (some (qx, qy)) (r * w % n384))
  decide (0 < r) && decide (r < n384) && decide (0 < s) && decide (s < n384) && onCurve qx qy
    && (match pt with
        | some (x, _) => x % n384 == r
        | none => false)

/-- A signature of R54 over a run of bytes. -/
def signedBy (key bs sig : List Byte) : Bool := ecdsaOk key (sha384 bs) sig

end Sys2Proof.Machine
end

