-- ==== Sys2Proof/Machine/Image.lean ====
section
/-!
DEFINITION. The structure image (spec/02_structure_image.md, R52 to R60, R90, R500): its header, directory and
sections, the checks of R55 in the order LENGTH, header, placement, CRC, contents (notes/assumptions/30.md), and the
register values that it gives.
-/

namespace Sys2Proof.Machine

/-! ## STR error codes (Table 2.10) -/

abbrev errNone : Nat := 0x00
abbrev errMagic : Nat := 0x01
abbrev errHwtype : Nat := 0x02
abbrev errUnit : Nat := 0x03
abbrev errSig : Nat := 0x04
abbrev errCrc : Nat := 0x05
abbrev errLimit : Nat := 0x06
abbrev errBase : Nat := 0x07
abbrev errSchema : Nat := 0x08
abbrev errOrder : Nat := 0x09
abbrev errFlash : Nat := 0x0A
abbrev errLength : Nat := 0x0B
abbrev errRunning : Nat := 0x0C
abbrev errAborted : Nat := 0x0D

/-! ## Header and directory (Tables 2.1 to 2.3a) -/

/-- The little-endian number of `n` bytes at `off`. -/
def leAt (bs : List Byte) (off n : Nat) : Nat := leNat ((bs.drop off).take n)

def imgLength (bs : List Byte) : Nat := leAt bs 0x28 4
def imgPartial (bs : List Byte) : Bool := bitOf (leAt bs 0x0C 4) 1
def imgVersion (bs : List Byte) : Word := w32 (leAt bs 0x20 4)
def imgSchema (bs : List Byte) : Nat := leAt bs 0x24 2
def imgKeyIndex (bs : List Byte) : Nat := leAt bs 0x26 1
def imgSections (bs : List Byte) : Nat := leAt bs 0x2C 2

/-- One directory entry: TYPE, OFFSET, SIZE, CRC. -/
structure DirEntry where
  code : Nat
  off : Nat
  size : Nat
  crc : Nat
  deriving DecidableEq, Repr

def imgDir (bs : List Byte) : List DirEntry :=
  (List.range (imgSections bs)).map fun k =>
    let o := 0x80 + 16 * k
    { code := leAt bs o 2, off := leAt bs (o + 4) 4, size := leAt bs (o + 8) 4, crc := leAt bs (o + 12) 4 }

/-- The section of a directory entry. -/
def readSect (bs : List Byte) (d : DirEntry) : Sect :=
  { code := d.code, count := leAt bs d.off 4, esize := leAt bs (d.off + 4) 2, scope := leAt bs (d.off + 6) 2
    first := leAt bs (d.off + 8) 4, bytes := (bs.drop (d.off + 16)).take (d.size - 16) }

def imgSects (bs : List Byte) : List Sect := (imgDir bs).map (readSect bs)

/-- Word `w` of the `i`-th entry of a section. -/
def Sect.w (x : Sect) (i w : Nat) : Nat := leAt x.bytes (i * x.esize + 4 * w) 4

/-! ## Section headers (R500, Tables 2.3 and 2.3c) -/

/-- The entries of the target table, or of the section (Table 2.3). -/
def secCapacity : Nat → Nat
  | 0x01 => 2304 | 0x02 => 1 | 0x03 => 1408 | 0x04 => 262144 | 0x05 => 131584 | 0x06 => 131072 | 0x07 => 32768
  | 0x08 => 58368 | 0x09 => 4096 | 0x0A => 2049 | 0x0B => 5654 | 0x0C => 1024 | 0x0D => 1024 | 0x0E => 65536
  | 0x0F => 8192 | 0x10 => 1024 | 0x11 => 256 | _ => 0

/-- ENTRY_SIZE by type and SCOPE; none: the SCOPE is not allowed. -/
def secEntry (code scope : Nat) : Option Nat :=
  let perUnit := decide (scope < 256)
  let kind := unitKind scope
  match code with
  | 0x02 => if !perUnit then none else
      match kind with
      | .can _ => some 16
      | .lane _ => some 64
      | .bank _ => some 40
      | .mac _ => some 8
  | 0x03 => if !perUnit then none else match kind with
      | .lane _ => some 4
      | _ => none
  | 0x0A | 0x11 => if !perUnit then none else match kind with
      | .can _ => some 16
      | _ => none
  | 0x01 | 0x0D => if scope = devScope then some 4 else none
  | 0x05 => if scope = devScope then some 8 else none
  | 0x04 | 0x06 | 0x08 | 0x0B | 0x0E | 0x0F => if scope = devScope then some 16 else none
  | 0x07 | 0x0C | 0x10 => if scope = devScope then some 32 else none
  | 0x09 => if scope = devScope then some 64 else none
  | _ => none

/-- The header of a section follows R500. -/
def sectOk (part : Bool) (d : DirEntry) (x : Sect) : Bool :=
  secEntry x.code x.scope == some x.esize && d.size == 16 + x.count * x.esize
    && decide (x.first + x.count ≤ secCapacity x.code) && (part || x.first == 0)
    && (x.code != 0x02 || (x.count == 1 && x.first == 0))

/-- No section type appears more often than R500 allows. -/
def onceEach : List Sect → Bool
  | [] => true
  | x :: xs => (xs.all fun y => !(y.code == x.code && y.scope == x.scope)) && onceEach xs

/-- Sections lie inside bytes 0x400 to LENGTH - 97, on 64-byte boundaries, and do not overlap (R52, R55). -/
def placedOk (len : Nat) : List DirEntry → Bool
  | [] => true
  | d :: ds =>
    decide (0x400 ≤ d.off) && d.off % 64 == 0 && decide (16 ≤ d.size) && decide (d.off + d.size ≤ len - 96)
      && (ds.all fun e => decide (d.off + d.size ≤ e.off) || decide (e.off + e.size ≤ d.off)) && placedOk len ds

def crcsOk (bs : List Byte) (ds : List DirEntry) : Bool :=
  ds.all fun d => crc32 ((bs.drop d.off).take d.size) == d.crc

/-! ## Table words -/

/-- The words of a section enter a table. The personality of a unit is marked as present (R500). -/
def sectWords (t : Tbl Word) (x : Sect) : Tbl Word :=
  let n := ceilDiv x.esize 4
  let t := (List.range x.count).foldl (fun t i =>
    (List.range n).foldl (fun t w => Tbl.set tblDefault t (tkey x.code x.scope (x.first + i) w) (w32 (x.w i w))) t) t
  if x.code = 0x02 then Tbl.set tblDefault t (tkey 0x02 x.scope 1 0) 1 else t

/-- The tables after an image: a partial one keeps the entries it does not write (R56, R500). The default settings
are no table. -/
def newTables (old : Tbl Word) (part : Bool) (xs : List Sect) : Tbl Word :=
  (xs.filter fun x => x.code != 0x0E).foldl sectWords (if part then old else [])

/-- The code of the section that a table key belongs to. -/
def keySec (k : Nat) : Nat := k / 16777216 / 65536

/-! ## Entries that are refused (R55) -/

/-- The format entries of a table by index, with their first word (R188). -/
def fmtEntries (t : Tbl Word) : List (Nat × Nat) :=
  (t.filter fun kv => keySec kv.1 == 0x04).foldl (fun acc kv =>
    let i := kv.1 / 16 % 1048576
    let w0 := if kv.1 % 16 = 0 then kv.2.toNat else 0
    if acc.any fun e => e.1 == i then acc else acc ++ [(i, w0)]) []

/-- Headers are followed at once by their descriptors: `want` more are due from entry `next` on (R188). -/
def fmtWalk : Nat → Nat → List (Nat × Nat) → Bool
  | want, _, [] => want == 0
  | want, next, (i, w) :: es =>
    match want, bits w 30 2 with
    | 0, 1 => decide (bits w 20 4 ≤ 4) && fmtWalk (bits w 24 6 + 1) (i + 1) es
    | n + 1, 2 => i == next && fmtWalk n (i + 1) es
    | _, _ => false

/-- The format table is well formed and holds at most 16,384 headers (R188, Table 6.1). -/
def formatsOk (t : Tbl Word) : Bool :=
  let es := fmtEntries t
  fmtWalk 0 0 es && decide ((es.filter fun e => bits e.2 30 2 == 1).length ≤ 16384)

/-- An entry of a section holds no refused value: a frame-format entry that is neither header nor descriptor (R188), a
curve header of R193, a route of Tables 6.4 and 6.5, an action of R180. A signal map that gives a bond more than 512
cells (R110) is accepted and the bond served: no rule refuses it (DESIGN CHOICE, notes/assumptions/156.md). -/
def entryOk (x : Sect) (i : Nat) : Bool :=
  let w0 := x.w i 0
  match x.code with
  | 0x04 => bits w0 30 2 == 1 || bits w0 30 2 == 2
  | 0x05 => decide (512 ≤ x.first + i) || (decide (bits w0 17 11 ≤ 1024) && decide (bits w0 0 17 + bits w0 17 11 ≤ 131072))
  | 0x07 => decide (bits w0 0 4 < 8) && !(bits w0 0 4 == 3 && bits (x.w i 1) 0 2 == 3)
  | 0x09 => decide (bits w0 28 4 ≤ 8) && !(bitOf w0 13 && bits w0 28 4 == 0)
  | _ => true

def entriesOk (xs : List Sect) : Bool := xs.all fun x => (List.range x.count).all (entryOk x)

/-! ## Default settings (R58, Table 2.3b) -/

/-- The record at entry `i`: the register field by the register's address. -/
def readRec (x : Sect) (i : Nat) : SetRec :=
  let w0 := x.w i 0
  let base := if bitOf w0 8 then Reg.unitBase (w0 % 256) else 0x100000 + w0 % 256 * 0x10000
  { addr := base + x.w i 1 % 65536, lsb := bits (x.w i 2) 0 5, msb := bits (x.w i 2) 8 5, value := x.w i 3 }

/-- The record names exactly one field marked IMG, inside its block or unit page. -/
def recOk (x : Sect) (i : Nat) : Bool :=
  let w0 := x.w i 0
  let r := readRec x i
  (bitOf w0 8 || decide (w0 % 256 ≤ 11)) && decide (x.w i 1 % 65536 < if bitOf w0 8 then 0x2000 else 0x10000)
    && r.addr % 4 == 0
    && (match regAt r.addr with
        | some row => row.img.any fun f => f.1 == r.msb && f.2 == r.lsb
        | none => false)

/-- The default-settings section of an image. -/
def recSects (xs : List Sect) : List Sect := xs.filter fun x => x.code == 0x0E
def imgRecs (xs : List Sect) : List SetRec := (recSects xs).flatMap fun x => (List.range x.count).map (readRec x)
def recsOk (xs : List Sect) : Bool := (recSects xs).all fun x => (List.range x.count).all (recOk x)

/-- The value that records give a field. -/
def recValue (rs : List SetRec) (f : Fld) : Option Nat :=
  (rs.reverse.find? fun r => r.addr == f.addr && r.lsb == f.lsb).map fun r => r.value

/-- COUNT and GAP of a toothed wheel (R137). -/
def geomOk (count gap : Nat) : Bool :=
  decide (1 ≤ count) && decide (count ≤ 1024) && (if gap = 0 then count == 1 else decide (gap + 4 ≤ count))

/-- A tracker whose KIND is toothed wheel by the records of an image has COUNT and GAP values in those records that meet
R137. In a full image a field without a record has the value 0; a partial image gives such a field no value. -/
def wheelsOk (part : Bool) (rs : List SetRec) (n : Nat) : Bool :=
  let v := fun f => (recValue rs f).or (if part then none else some 0)
  if v (Reg.PHS_CFG_KIND n) = some 1 then
    match v (Reg.PHS_GEOM_COUNT n), v (Reg.PHS_GEOM_GAP n) with
    | some c, some g => geomOk c g
    | _, _ => false
  else true

/-! ## R90 -/

/-- The unit of a pin-personality entry: only the field balls of the region blocks have one (R480, R493). -/
def ballUnit (e : Nat) : Option Nat :=
  let row := e / 48
  let col := e % 48
  if 40 ≤ row ∨ (16 ≤ col ∧ col < 32) then none
  else
    let half := if col < 16 then 0 else 4
    let c := if col < 16 then col else col - 32
    let r := half + 2 * (c / 8) + row / 20
    let i := row % 20 + 1
    let j := c % 8
    if 2 ≤ i ∧ i ≤ 5 then some (Reg.canUnit (16 * r + 4 * (i - 2) + j / 2))
    else if 8 ≤ i ∧ i ≤ 11 then some (Reg.laneUnit (8 * r + 2 * (i - 8) + j / 4))
    else if 13 ≤ i ∧ i ≤ 18 then some (Reg.bankUnit (6 * r + (i - 13)))
    else none

/-- Entry `i` of a section differs from the active entry; a unit without a personality has none. -/
def State.entryDiffers (s : State) (x : Sect) (i : Nat) : Bool :=
  ((List.range (ceilDiv x.esize 4)).any fun w => x.w i w != s.tw x.code x.scope (x.first + i) w)
    || (x.code == 2 && s.tw 0x02 x.scope 1 0 == 0)

/-- A section 0x01, 0x02 or 0x03 changes an entry of a running unit. -/
def State.changesRunning (s : State) (xs : List Sect) : Bool :=
  xs.any fun x =>
    decide (x.code ≤ 3) && (List.range x.count).any fun i =>
      let u := if x.code = 1 then ballUnit (x.first + i) else some x.scope
      s.entryDiffers x i && (match u with
        | some u => s.flag (bstatRun (Reg.unitBase u))
        | none => false)

/-! ## The checks of R55 -/

/-- LENGTH lies in its range. -/
def lengthOk (bs : List Byte) : Bool :=
  let n := imgLength bs
  n % 64 == 0 && decide (0x480 ≤ n) && decide (n ≤ 0x800000)

/-- The checks on the header alone; `inFlash`: the image is read from flash, where none may be partial (R63). -/
def State.headerErr (s : State) (inFlash : Bool) (bs : List Byte) : Nat :=
  let uid := (leAt bs 0x10 12)
  if !lengthOk bs then errLength
  else if leAt bs 0 4 ≠ 0x49534A58 ∨ leAt bs 4 2 ≠ 1 ∨ leAt bs 6 2 ≠ 0x400 then errMagic
  else if leAt bs 8 4 ≠ (s.rd Reg.GEN_HWTYPE).toNat then errHwtype
  else if bitOf (leAt bs 0x0C 4) 0 ∧ uid ≠ (s.rd Reg.GEN_UNIT_ID0).toNat + (s.rd Reg.GEN_UNIT_ID1).toNat * 2 ^ 32
      + (s.rd Reg.GEN_UNIT_ID2).toNat * 2 ^ 64 then errUnit
  else if imgPartial bs ∧ (inFlash ∨ s.rd Reg.STR_GEN = 0
      ∨ leAt bs 0x30 4 ≠ (s.rd Reg.STR_ACT_VERSION).toNat) then errBase
  else if imgPartial bs ∧ imgSchema bs ≠ (s.rd Reg.STR_ACT_SCHEMA).toNat % 65536 then errSchema
  else errNone

/-- The checks of a whole image but for its signature: an error code of Table 2.10. SECTIONS of 0 or above 32 gives
LIMIT (DESIGN CHOICE, notes/assumptions/150.md). -/
def State.imageErr (s : State) (inFlash : Bool) (bs : List Byte) : Nat :=
  let h := s.headerErr inFlash bs
  if h ≠ errNone then h
  else
    let part := imgPartial bs
    let ds := imgDir bs
    let xs := imgSects bs
    if imgSections bs = 0 ∨ 32 < imgSections bs ∨ !placedOk (imgLength bs) ds then errLimit
    else if !crcsOk bs ds then errCrc
    else if !((ds.zip xs).all fun d => sectOk part d.1 d.2) ∨ !onceEach xs ∨ !entriesOk xs ∨ !recsOk xs
        ∨ !formatsOk (newTables s.tbl part (xs.filter fun x => x.code == 0x04))
        ∨ !((List.range 4).all (wheelsOk part (imgRecs xs))) then errLimit
    else if part ∧ s.changesRunning xs then errRunning
    else errNone

/-- Verification key `k` is present in the option store (Table 14.4). -/
def State.verKeyHeld (s : State) (k : Nat) : Bool := decide (k < 4) && bitOf (s.optByte 0x24) k
/-- Its 96 bytes: x, then y. -/
def State.verKey (s : State) (k : Nat) : List Byte := s.bytes (0x191040 + 96 * k) 96

/-- The image verification key KEY_INDEX is held in the option store (R54, Table 2.10). -/
def State.imgKeyHeld (s : State) (bs : List Byte) : Bool :=
  s.verKeyHeld (imgKeyIndex bs)

/-- The signature of an image verifies against the key of KEY_INDEX (R54). -/
def State.imgSigOk (s : State) (bs : List Byte) : Bool :=
  s.imgKeyHeld bs && signedBy (s.verKey (imgKeyIndex bs)) (bs.take (bs.length - 96)) (bs.drop (bs.length - 96))

/-! ## The register values an image gives (R58, R59, R235, R264, R305, R504) -/

/-- The registers that the personality of unit `u` fills, in the order of its words. -/
def persRegs (u : Nat) : List Nat :=
  let b := Reg.unitBase u
  match unitKind u with
  | .can _ => [b + 0x4, b + 0x8, b + 0xC, b + 0x10]
  | .lane _ => (List.range 16).map fun k => b + 4 + 4 * k
  | .bank _ => [b + 0x4, b + 0x34] ++ (List.range 8).map fun k => b + 0x40 + 4 * k
  | .mac _ => [b + 0x4, b + 0xC]

/-- The IMG fields of a register take the bits of a word. -/
def State.putImg (s : State) (a : Nat) (v : Word) : State := s.wr a (maskIn (s.rd a) v (imgMaskAt a))

/-- A personality section gives its unit's registers. -/
def State.putPers (s : State) (x : Sect) : State :=
  ((persRegs x.scope).zipIdx).foldl (fun t r => t.putImg r.1 (w32 (x.w 0 r.2))) s

/-- A record gives its field; reserved bits stay as they are (R13). -/
def State.putRec (s : State) (r : SetRec) : State :=
  s.wr r.addr (maskIn (s.rd r.addr) (putBits (s.rd r.addr) r.lsb (r.msb + 1 - r.lsb) r.value) (rwMaskAt r.addr))

/-- Every field marked IMG takes the value 0 (R58). -/
def State.clearImg (s : State) : State :=
  s.regs.foldl (fun t kv => t.putImg kv.1 0) s

/-- The newest half of the settings store (R60). -/
def newestStore : List StoreHalf → Option StoreHalf
  | [] => none
  | x :: xs => match newestStore xs with
    | none => some x
    | some y => if later 32 x.seq y.seq then some x else some y

/-- The records of an image with the settings store merged in: field by field, for the fields that both list (R59). A
store value that would give a wheel that breaks R137 is not merged. -/
def State.mergeStore (s : State) (schema : Nat) (rs : List SetRec) : List SetRec :=
  match newestStore s.stores with
  | none => rs
  | some h =>
    if h.schema ≠ schema then rs
    else
      let stored := fun (r : SetRec) => (h.fields.find? fun f => f.addr == r.addr && f.lsb == r.lsb && f.msb == r.msb)
      let one := fun (r : SetRec) => match stored r with
        | some f => { r with value := f.value }
        | none => r
      let m := rs.map one
      let bad := (List.range 4).filter fun n => !wheelsOk false m n
      let keeps := fun (r : SetRec) => bad.any fun n =>
        (r.addr == Reg.PHS_CFG n && r.lsb == (Reg.PHS_CFG_KIND n).lsb)
          || (r.addr == Reg.PHS_GEOM n && (r.lsb == (Reg.PHS_GEOM_COUNT n).lsb || r.lsb == (Reg.PHS_GEOM_GAP n).lsb))
      rs.map fun r => if keeps r then r else one r

/-- The registers after a full image: IMG fields 0, personalities, then the records (a record names the field itself,
DEDUCED, notes/assumptions/31.md). -/
def State.fullRegs (s : State) (schema : Nat) (xs : List Sect) : State :=
  let t := (xs.filter fun x => x.code == 0x02).foldl State.putPers s.clearImg
  (s.mergeStore schema (imgRecs xs)).foldl State.putRec t

/-- The record gives KIND, COUNT or GAP of a tracker that the records together would leave with a wheel that breaks
R137. -/
def State.badWheel (s : State) (rs : List SetRec) (r : SetRec) : Bool :=
  (List.range 4).any fun n =>
    let v := fun f => (recValue rs f).getD (s.fld f)
    v (Reg.PHS_CFG_KIND n) == 1 && !geomOk (v (Reg.PHS_GEOM_COUNT n)) (v (Reg.PHS_GEOM_GAP n))
      && [Reg.PHS_CFG_KIND n, Reg.PHS_GEOM_COUNT n, Reg.PHS_GEOM_GAP n].any fun f => r.addr == f.addr && r.lsb == f.lsb

/-- A record of a partial image is a staged register write, applied at the switch: an F field of a running block
refuses it, and so does a toothed wheel (R16, R58, R137). -/
def State.recWrite (rs : List SetRec) (s : State) (r : SetRec) : State :=
  if ((imgFMaskAt r.addr &&& rangeMask r.msb r.lsb) ≠ 0 ∧ s.fBlocked r.addr) ∨ s.badWheel rs r then
    s.setFld (bstatRefused (blockOf r.addr)) 1
  else (s.putRec r).setFld (bstatApplied (blockOf r.addr)) 1

/-- The personalities of a partial image that differ from the active ones (R90). -/
def State.newPers (s : State) (xs : List Sect) : List Sect :=
  xs.filter fun x => x.code == 0x02 && !(s.flag (bstatRun (Reg.unitBase x.scope))) && s.entryDiffers x 0

/-- The registers after a partial image: the personalities that differ from the active ones (R90), then its records
(R88). -/
def State.partRegs (s : State) (xs : List Sect) : State :=
  (imgRecs xs).foldl (State.recWrite (imgRecs xs)) ((s.newPers xs).foldl State.putPers s)

/-- A full image needs a full reload (R72): a section 0x01, 0x02 or 0x03 differs from the active one, or an F field
marked IMG takes another value. -/
def State.needsReload (s : State) (schema : Nat) (xs : List Sect) : Bool :=
  let new := newTables [] false xs
  let low := fun (t : Tbl Word) => t.filter fun kv => decide (keySec kv.1 ≤ 3)
  let t := s.fullRegs schema xs
  low new != low s.tbl
    || ((s.regs.map fun kv => kv.1) ++ (t.regs.map fun kv => kv.1)).any fun a =>
      ((s.rd a).toNat ^^^ (t.rd a).toNat) &&& imgFMaskAt a != 0

end Sys2Proof.Machine
end

