-- ==== Sys2Proof/Machine/Gptp.lean ====
section
/-!
DEFINITION. The gPTP messages of the management engine (R162, R351): their layouts, peer delay, Announce and the best
master, Sync and Follow_Up as grandmaster and as relay. Layouts, intervals and the comparison of masters are those of IEEE
802.1AS-2020, which R162 names and does not write out (PRESUMED, notes/assumptions/61.md). And the frames that the
management engine sends through port M (R317, R339, R367).
-/

namespace Sys2Proof.Machine

/-! ## Layouts -/

abbrev ptpSync : Nat := 0
abbrev ptpPdelayReq : Nat := 2
abbrev ptpPdelayResp : Nat := 3
abbrev ptpFollowUp : Nat := 8
abbrev ptpPdelayRespFu : Nat := 10
abbrev ptpAnnounce : Nat := 11

/-- A gPTP message after its header fields are taken apart. `src` is the sourcePortIdentity, `steps` the stepsRemoved that
ring time carries with it. -/
structure PtpMsg where
  type : Nat
  domain : Nat
  corr16 : Int
  steps : Nat
  src : List Byte
  seq : Nat
  body : List Byte
  deriving DecidableEq, Repr

/-- The gPTP message of a frame. -/
def ptpMsg (bs : List Byte) : Option PtpMsg :=
  let o := etypeOff bs + 2
  if etypeOf bs = 0x88F7 ∧ byteAt bs o / 16 = 1 ∧ byteAt bs (o + 1) % 16 = 2 ∧ o + 44 ≤ bs.length then
    some { type := byteAt bs o % 16, domain := byteAt bs (o + 4), corr16 := sgn 64 (beNat (bytesAt bs (o + 8) 8))
           steps := beNat (bytesAt bs (o + 16) 4), src := bytesAt bs (o + 20) 10, seq := be16At bs (o + 30)
           body := bs.drop (o + 34) }
  else none

/-- A frame with a gPTP message, from the source address on a port with identity `id`. -/
def ptpFrame (mac id : List Byte) (domain : Nat) (m : PtpMsg) : List Byte :=
  let flags := if m.type = ptpSync ∨ m.type = ptpPdelayResp then 0x0208 else 0x0008
  let control := if m.type = ptpSync then 0 else if m.type = ptpFollowUp then 2 else 5
  let bs := beBytes 6 0x0180C200000E ++ mac ++ beBytes 2 0x88F7 ++ beBytes 2 (0x1012 + m.type % 16 * 256)
    ++ beBytes 2 (34 + m.body.length) ++ beBytes 2 (domain * 256) ++ beBytes 2 flags
    ++ beBytes 8 (wrapTo 64 m.corr16) ++ beBytes 4 m.steps ++ id ++ beBytes 2 m.seq ++ beBytes 1 control
    ++ beBytes 1 0x7F ++ m.body
  bs ++ List.replicate (60 - bs.length) 0#8

/-- A timestamp of 48 bits of seconds and 32 bits of nanoseconds, from a time in 2^-16 ns; the fraction is for the
correctionField. -/
def ptpTime (t16 : Int) : List Byte :=
  let ns := (t16 / 65536).toNat
  beBytes 6 (ns / 1000000000) ++ beBytes 4 (ns % 1000000000)

/-- The time in 2^-16 ns of a timestamp. -/
def ptpTimeOf (bs : List Byte) : Int :=
  (beNat (bytesAt bs 0 6) * 1000000000 + beNat (bytesAt bs 6 4) : Nat) * 65536

/-! ## Ports -/

/-- What the engine holds of a port. -/
def State.gport (s : State) (p : Nat) : GptpPort := Tbl.get (fun _ => {}) s.tb.gptp p
def State.setGport (s : State) (p : Nat) (x : GptpPort) : State :=
  { s with tb := { s.tb with gptp := Tbl.set (fun _ => {}) s.tb.gptp p x } }

/-- This node's own address: MGMT_MAC of the option store (DEDUCED, notes/assumptions/32.md). -/
def State.mgmtMac (s : State) : List Byte := s.bytes 0x191014 6
/-- The portIdentity of port `p`. -/
def State.portIdent (p : Nat) : List Byte := beBytes 8 (Config.clockId 0).toNat ++ beBytes 2 (p + 1)
/-- The management engine sends a gPTP message on port `p`; it leaves through port M. -/
def State.gptpSend (s : State) (p : Nat) (m : PtpMsg) : State :=
  s.emit (.mgmtFrame p (ptpFrame s.mgmtMac (State.portIdent p) (s.fld Reg.TMB_GPTP_CTRL_DOMAIN) m))

/-- gPTP runs: end station or relay. -/
def State.gptpOn (s : State) : Bool :=
  s.flag Reg.TMB_BSTAT_RUN && (s.fld Reg.TMB_GPTP_CTRL_MODE == 1 || s.fld Reg.TMB_GPTP_CTRL_MODE == 2)
/-- Ring time runs: RT_EN with TMB as a relay (R351). -/
def State.rtOn (s : State) : Bool :=
  s.flag Reg.RNG_BSTAT_RUN && s.flag Reg.RNG_CFG_EN && s.flag Reg.RNG_CFG_RT_EN && s.flag Reg.TMB_BSTAT_RUN
    && s.fld Reg.TMB_GPTP_CTRL_MODE == 2
/-- Port `p` takes a gPTP port role: with RT_EN the ring ports do not (R162, R351). -/
def State.gptpPort (s : State) (p : Nat) : Bool :=
  s.gptpOn && bitOf (s.fld Reg.TMB_GPTP_PORTS_PORTS) p && !(isRing p && s.flag Reg.RNG_CFG_RT_EN)

/-- Hardware stamps an event message at 2 ns resolution (R162). -/
def stampTick (l : Nat) : Nat := l / tick16 * tick16

/-- A Sync goes out on port `p`, its Follow_Up when it has left. -/
def State.syncSend (s : State) (p : Nat) (o : SyncOut) : State :=
  (s.setGport p { s.gport p with syncOut := some o }).gptpSend p
    { type := ptpSync, domain := 0, corr16 := 0, steps := o.steps, src := [], seq := o.seq, body := List.replicate 10 0#8 }

/-- An own event message has left port `p`, its timestamp point at local instant `tx16`: a Pdelay_Req waits for its answer,
a Sync and a Pdelay_Resp are followed up. A relay adds its residence and the delay of the link the Sync came on (R351). -/
def State.gptpSent (s : State) (p : Nat) (bs : List Byte) (l : Nat) : State :=
  let tx16 := stampTick l
  match ptpMsg bs with
  | none => s
  | some m =>
    if m.type = ptpPdelayReq then s.setGport p { s.gport p with req := some (m.seq, tx16), resp := none }
    else if m.type = ptpPdelayResp then
      let t3 := s.disc16At tx16
      s.gptpSend p { m with
        type := ptpPdelayRespFu, corr16 := t3 % 65536, body := ptpTime t3 ++ bytesAt m.body 10 10 }
    else if m.type = ptpSync then
      match (s.gport p).syncOut with
      | none => s
      | some o =>
        let now := s.disc16At tx16
        let stamp := match o.rx16 with
          | none => (now, now % 65536)
          | some rx => (o.origin16, o.corr16 + (now - s.disc16At rx))
        (s.setGport p { s.gport p with syncOut := none }).gptpSend p { m with
          type := ptpFollowUp, corr16 := stamp.2, body := ptpTime stamp.1 ++ List.replicate 32 0#8 }
    else s

/-! ## The best master (R162) -/

/-- The priority vector of a master as one number, smaller is better: priority1, clockClass, accuracy, variance,
priority2, clockIdentity. -/
def masterKey (prio1 cls acc var prio2 gm : Nat) : Nat :=
  ((((prio1 * 256 + cls) * 256 + acc) * 65536 + var) * 256 + prio2) * 2 ^ 64 + gm

/-- This node as a master: with GM_PPS it has a time of its own to offer (R164). -/
def State.ownClass (s : State) : Nat := if s.flag Reg.TMB_CTRL_GM_PPS then 6 else 248
def State.ownKey (s : State) : Nat :=
  masterKey (s.fld Reg.TMB_GPTP_PRIO_PRIORITY1) s.ownClass 0xFE 0x436A (s.fld Reg.TMB_GPTP_PRIO_PRIORITY2)
    (Config.clockId 0).toNat

/-- An Announce is in force for three seconds. -/
def State.annLive (s : State) (p : Nat) : Option Announce :=
  match (s.gport p).ann with
  | some a => if s.tb.local16 < a.at16 + 3000000 * us16 then some a else none
  | none => none

/-- The port toward the best master; none: this node is the best. With external port configuration the roles are given
from outside (EXT_PORT_CFG; notes/assumptions/61.md). -/
def State.slavePort (s : State) : Option Nat :=
  let ports := (List.range 22).filter s.gptpPort
  if s.flag Reg.TMB_GPTP_CTRL_EXT_PORT_CFG then ports.find? fun p => Config.extSlave p
  else
    (ports.foldl (fun best p =>
      match s.annLive p with
      | some a =>
        let k := (a.key * 65536 + a.steps) * 2 ^ 80 + beNat a.src
        (match best with
          | some (b, _) => if k < b then some (k, p) else best
          | none => if a.key < s.ownKey then some (k, p) else none)
      | none => best) (none : Option (Nat × Nat))).map fun b => b.2

/-- This node is the grandmaster. -/
def State.ownsTime (s : State) : Bool := s.slavePort.isNone

/-- TMB_GM_ID shows the grandmaster. -/
def State.showMaster (s : State) : State :=
  match s.slavePort with
  | none => s.wr64 Reg.TMB_GM_ID_LO (Config.clockId 0)
  | some p => match (s.gport p).ann with
    | some a => s.wr64 Reg.TMB_GM_ID_LO (BitVec.ofNat 64 (a.key % 2 ^ 64))
    | none => s

/-- An Announce of another node. -/
def State.announceIn (s : State) (p : Nat) (m : PtpMsg) : State :=
  let b := fun k n => beNat (bytesAt m.body k n)
  let steps := b 27 2
  if bytesAt m.src 0 8 = beBytes 8 (Config.clockId 0).toNat ∨ 255 ≤ steps then s
  else
    let a : Announce :=
      { key := masterKey (b 13 1) (b 14 1) (b 15 1) (b 16 2) (b 18 1) (b 19 8), steps := steps, src := m.src
        at16 := s.tb.local16 }
    (s.setGport p { s.gport p with ann := some a }).showMaster

/-! ## Peer delay (R162) -/

/-- Pdelay_Req is answered with its receipt time; the answer to an own one gives the link delay. -/
def State.peerDelay (s : State) (p : Nat) (m : PtpMsg) (rx16 : Nat) : State :=
  let x := s.gport p
  let mine := bytesAt m.body 10 10 = State.portIdent p
  if m.type = ptpPdelayReq then
    let t2 := s.disc16At rx16
    s.gptpSend p { m with type := ptpPdelayResp, corr16 := -(t2 % 65536), steps := 0, body := ptpTime t2 ++ m.src }
  else
    match x.req with
    | none => s
    | some (seq, t1) =>
      if ¬mine ∨ seq ≠ m.seq then s
      else if m.type = ptpPdelayResp then
        s.setGport p { x with resp := some (ptpTimeOf m.body - m.corr16, rx16) }
      else
        match x.resp with
        | none => s
        | some (t2, t4) =>
          let d := (((t4 : Int) - t1) - (ptpTimeOf m.body + m.corr16 - t2)) / 2
          s.setGport p { x with delay16 := some (max 0 d).toNat, req := none, resp := none }

/-- The delay of the link of port `p`, as far as it is measured. -/
def State.linkDelay (s : State) (p : Nat) : Nat := (s.gport p).delay16.getD 0

/-! ## Time-driven sends -/

/-- What the engine sends by time on port `p`: a Pdelay_Req and, toward nodes beyond a master port, an Announce each second,
a Sync every 125 ms as grandmaster (the intervals are the standard's defaults). -/
def State.gptpTimer (s : State) (p : Nat) : State :=
  if !s.lineUp p || !(s.gptpPort p || (isRing p && s.rtOn)) then s
  else
    let now := s.tb.local16
    let x := s.gport p
    let t := if x.reqDue16 ≤ now then
        (s.setGport p { x with reqDue16 := now + 1000000 * us16, seq := (x.seq + 1) % 65536 }).gptpSend p
          { type := ptpPdelayReq, domain := 0, corr16 := 0, steps := 0, src := [], seq := x.seq
            body := List.replicate 20 0#8 }
      else s
    let slave := t.slavePort
    if !t.gptpPort p || slave == some p then t
    else
      let x := t.gport p
      let t := if x.annDue16 ≤ now then
          let best := slave.bind fun q => (t.gport q).ann
          let key := (best.map fun a => a.key).getD t.ownKey
          let steps := (best.map fun a => a.steps + 1).getD 0
          (t.setGport p { x with annDue16 := now + 1000000 * us16, annSeq := (x.annSeq + 1) % 65536 }).gptpSend p
            { type := ptpAnnounce, domain := 0, corr16 := 0, steps := 0, src := [], seq := x.annSeq
              body := List.replicate 13 0#8 ++ beBytes 14 key ++ beBytes 2 steps ++ beBytes 1 0xA0 }
        else t
      let x := t.gport p
      if slave.isNone && decide (x.syncDue16 ≤ now) then
        (t.setGport p { x with syncDue16 := now + 125000 * us16, syncSeq := (x.syncSeq + 1) % 65536 }).syncSend p
          { seq := x.syncSeq, steps := 0, origin16 := 0, corr16 := 0, rx16 := none }
      else t

/-! ## Frames of the management engine (R317, R367) -/

/-- A page access frame (Table 11.1), padded to the least frame. -/
def State.pageBytes (s : State) (dst : BitVec 48) (op resp page status tag addr seq arg : Nat) (data : List Byte) :
    List Byte :=
  let bs := beBytes 6 dst.toNat ++ s.mgmtMac ++ beBytes 2 (orElse (leNat (s.bytes 0x19101A 2)) 0x88B7)
    ++ beBytes 4 (2 ^ 28 + op % 16 * 2 ^ 24 + page % 8 * 2 ^ 21 + resp % 2 * 2 ^ 20 + status % 16 * 65536 + tag % 65536)
    ++ beBytes 4 (addr % 2 ^ 32) ++ beBytes 4 (data.length % 65536 * 65536 + seq % 65536) ++ beBytes 4 arg ++ data
  bs ++ List.replicate (60 - bs.length) 0#8

/-- The source of the last request that the page accepted on the path (R367). -/
def State.lastAsker (s : State) (p path : Nat) : BitVec 48 := Tbl.get (fun _ => 0) (s.page p).lastSrc path

/-- What the management engine hands to port M: the switch port it is for (20 with `true`: an origination on the ring) and
the frame. -/
def State.mgmtFrame (s : State) : Emit → Option (Nat × Bool × List Byte)
  | .mgmtFrame port bs => some (port, false, bs)
  | .paResp path page op status tag addr data dst =>
    onPath path (s.pageBytes dst op 1 page status tag addr 0 0 data)
  | .eventNote page path arg => onPath path (s.pageBytes (s.lastAsker page path) 9 0 page 0 0 0 0 arg [])
  | .ashlarData page path addr seq data =>
    onPath path (s.pageBytes (s.lastAsker page path) 8 0 page 0 0 addr seq 0 data)
  | _ => none
where
  /-- The switch port of a path of R362. -/
  onPath (path : Nat) (bs : List Byte) : Option (Nat × Bool × List Byte) :=
    if path = 3 then some (portA, true, bs) else if 4 ≤ path then some (12 + path, false, bs) else none

/-- One such frame enters the switch core: on the ring with CLASS = MGMT and the next SEQ (R341), a gPTP frame of a ring port
untagged in queue 7 (R339, R343), else in the queue of its port that R315 gives a frame from M. -/
def State.mgmtSend (s : State) (x : Nat × Bool × List Byte) : State :=
  let bs := x.2.2
  if s.freePans < pansOf bs then s.noPan portM
  else
    let f : QFrame := { fid := s.nextId, bytes := bs, at16 := s.tb.local16, src := portM }
    let t := State.countRx { s with nextId := s.nextId + 1 } portM bs
    if x.2.1 then t.originate 1 (t.ingressQueue portM bs) f true
    else if isRing x.1 then t.ringSend (x.1 - portA) 7 f false
    else t.takeFrame x.1 (t.ingressQueue portM bs) f true

/-- The frames that the management engine has ready enter the switch core, none while it restarts (R462). It does so before
a port chooses its next frame (DESIGN CHOICE, notes/assumptions/172.md). -/
def State.mgmtTake (s : State) : State :=
  if s.hlt.meDown then s
  else
    let new := (s.out.drop s.ring.taken).filterMap s.mgmtFrame
    new.foldl State.mgmtSend { s with ring := { s.ring with taken := s.out.length } }

end Sys2Proof.Machine
end

