-- ==== Sys2Proof/Machine/Egress.lean ====
section
/-!
DEFINITION. Egress of the switch core and its lists (R309, R318, R322 to R328, R331 to R333): the choice of the next
frame, guard bands, sluice lists and their takeover, samples, links and low-power idle.
-/

namespace Sys2Proof.Machine

/-! ## Sluice lists (Tables 9.4 and 9.5) -/

def ListRun.w (x : ListRun) (entry word : Nat) : Nat := (Tbl.get tblDefault x.words (4 * entry + word)).toNat
/-- COUNT, 1 to 256. -/
def ListRun.count (x : ListRun) : Nat := clampTo 1 256 (bits (x.w 0 0) 0 9)
/-- CYCLE in ns. -/
def ListRun.cycleNs (x : ListRun) : Nat := clampTo 1000 1000000000 (x.w 0 1)
def ListRun.gatesAt (x : ListRun) (k : Nat) : Nat := bits (x.w (k + 1) 0) 0 8
/-- INTERVAL in 2^-16 ns; below 8 ns acts as 8. -/
def ListRun.interval16 (x : ListRun) (k : Nat) : Nat := max 8 (x.w (k + 1) 1) * 65536

/-- A word of the pending list of port `p`: the image's list. -/
def State.pendW (s : State) (p entry word : Nat) : Nat := s.tw 0x0B devScope (257 * p + entry) word
/-- S and CYCLE of the pending list. -/
def State.pendBase (s : State) (p : Nat) : Int := s.pendW p 0 3 * 2 ^ 32 + s.pendW p 0 2
def State.pendCycle (s : State) (p : Nat) : Nat := clampTo 1000 1000000000 (s.pendW p 0 1)
/-- PRESENT: the image has a list for port `p`. -/
def State.pendPresent (s : State) (p : Nat) : Bool := bitOf (s.pendW p 0 0) 10
/-- TAKE = ACTION. -/
def State.pendAction (s : State) (p : Nat) : Bool := bitOf (s.pendW p 0 0) 9

/-- The words of the pending list. -/
def State.pendWords (s : State) (p : Nat) : List (Nat × Word) :=
  s.tbl.filterMap fun kv =>
    let idx := kv.1 / 16 % 1048576
    if kv.1 / 16777216 = 0x0B * 65536 + devScope ∧ 257 * p ≤ idx ∧ idx < 257 * p + 257 ∧ kv.1 % 16 < 4
    then some (4 * (idx - 257 * p) + kv.1 % 16, kv.2) else none

/-- The gates `g` apply from local instant `l`, and a frame that is still on the line when its gate closes overruns (R326,
R328). -/
def State.setGates (s : State) (p g l : Nat) : State :=
  let old := s.gates p
  let t := (List.range 8).foldl (fun t q => t.cbsUpdate p q) s
  let t := (List.range 8).foldl (fun t q =>
    if !bitOf old q && bitOf g q then t.setQueue p q { t.queue p q with held := false } else t) t
  let crossed := match (t.port p).sending with
    | some x => bitOf old x.q && !bitOf g x.q && (x.end16.isNone || decide (l < t.wireEnd p x))
    | none => false
  let t := if crossed then (t.bump (Reg.SWC_P_GATE_OVERRUN p)).setFld (Reg.SWC_P_STATUS_OVERRUN_SEEN p) 1 else t
  t.setFld (Reg.SWC_P_LIST_STATE_GATES p) g

/-- Entry `k` of the active list starts at local time `l`. -/
def State.listEntry (s : State) (p k l : Nat) : State :=
  let x := (s.port p).list
  let cycleEnd := x.start16 + x.cycleNs * 65536
  let e := if k + 1 = x.count then cycleEnd else min cycleEnd (l + x.interval16 k)
  let t := s.setPort p { s.port p with list := { x with entry := k, end16 := some e } }
  (t.setFld (Reg.SWC_P_LIST_STATE_ENTRY p) k).setGates p (x.gatesAt k) l

/-- A cycle of the active list starts at local time `l`. -/
def State.listCycle (s : State) (p l : Nat) : State :=
  let x := (s.port p).list
  let t := s.setPort p { s.port p with list := { x with start16 := l, resume := none } }
  (t.tick (Reg.SWC_P_LIST_CYCLES p)).listEntry p 0 l

/-- A list with words `words` takes over at local time `l` (R326): the old list is discarded, entry 0 starts. `own`: it is the
pending list, which is then no longer held. A takeover that is sealed for a later instant stays. -/
def State.listTake (s : State) (p l : Nat) (words : List (Nat × Word)) (onLocal late own : Bool) (instant : Word) :
    State :=
  let o := (s.port p).list
  let x : ListRun := { words := words }
  let x : ListRun := { x with
    active := true, onLocal := onLocal, base := x.w 0 3 * 2 ^ 32 + x.w 0 2, start16 := l
    pending := o.pending && !own, take := if own then none else o.take, sealedTake := o.sealedTake }
  let t := s.setPort p { s.port p with list := x }
  let t := t.setFld (Reg.SWC_P_STATUS_LIST_PENDING p) (if x.pending then 1 else 0)
  let t := t.setFld (Reg.SWC_P_STATUS_LIST_ACTIVE p) 1
  let t := t.setFld (Reg.SWC_P_STATUS_TAKEOVER_DONE p) 1
  let t := if late then (t.setFld (Reg.SWC_P_STATUS_LATE_START p) 1).postEvent 0x062 p instant else t
  (t.postEvent 0x063 p instant).listCycle p l

/-- The takeover of a pending list is requested at local instant `l`, to start on its grid (R183, R326). -/
def State.listRequest (s : State) (p l : Nat) : State :=
  let x := (s.port p).list
  if x.pending then
    let due := gridStart (s.pendBase p) (s.pendCycle p) (ceilNs (s.disc16At l))
    let k : Takeover := { due := due, late := decide (due ≠ s.pendBase p), words := s.pendWords p }
    s.setPort p { s.port p with list := { x with take := some k } }
  else s

/-- ARM: the takeover of a pending list that starts by time; a list that waits for an action goes on waiting. -/
def State.listArm (s : State) (p : Nat) : State := if s.pendAction p then s else s.listRequest p s.tb.local16

/-- The takeover that is due less than 2 µs from now is sealed (R177): its local instant stands. -/
def State.sealing (s : State) (p : Nat) : Option SealedTake :=
  let x := (s.port p).list
  match x.take with
  | some k =>
    if x.pending && decide (k.due * 65536 < s.disc16 + 2000 * 65536) then
      some { at16 := s.localOf k.due, take := k }
    else none
  | none => none

/-- A takeover that is sealed by now, in a state `old` with the time base of before a step, can no longer be cancelled. -/
def State.listSeal (s old : State) (p : Nat) : State :=
  match old.sealing p with
  | some k => s.setPort p { s.port p with list := { (s.port p).list with take := none, sealedTake := some k } }
  | none => s

/-- The list of the image becomes pending, if the image has one for the port (R81, R325); with TAKE = TIME the switch is
the request. A sealed takeover of the list before it still takes place (R177). Without a list the port has no pending
list; its active list runs on (DESIGN CHOICE, notes/assumptions/170.md). -/
def State.listPend (s old : State) (p : Nat) : State :=
  let t := s.listSeal old p
  let x := (t.port p).list
  let k := x.sealedTake.map fun k => { k with own := false }
  let has := t.pendPresent p
  let t := t.setPort p { t.port p with list := { x with pending := has, take := none, sealedTake := k } }
  let t := t.setFld (Reg.SWC_P_STATUS_LIST_PENDING p) (if has then 1 else 0)
  if has then t.listArm p else t

/-- A SWITCH_SLUICE release names the port (R172, R183, R326). -/
def State.listSwitch (s : State) (p : Nat) (useBase : Bool) (at16 : Nat) : State :=
  let x := (s.port p).list
  if x.pending && s.pendAction p then
    if useBase then s.listRequest p at16
    else s.listTake p at16 (s.pendWords p) true false true (s.stampAt at16)
  else s

/-- STOP (R326): the active list ends, a takeover that is not sealed is cancelled. -/
def State.listStop (s : State) (p : Nat) : State :=
  let t := s.listSeal s p
  let t := t.setPort p { t.port p with list := { (t.port p).list with
    active := false, take := none, end16 := none, resume := none } }
  let t := t.setFld (Reg.SWC_P_STATUS_LIST_ACTIVE p) 0
  let t := t.setFld (Reg.SWC_P_LIST_STATE_ENTRY p) 0
  t.setGates p 0xFF t.tb.local16

/-- The disciplined time of the next cycle start of a time-domain list after the cycle that runs. -/
def State.listNext (s : State) (p : Nat) : Int :=
  let x := (s.port p).list
  let C : Int := x.cycleNs
  let now := s.disc16At x.start16 / 65536
  x.base + ((now - x.base + C / 2) / C + 1) * C

/-- A takeover that is due at local time `l`: sealed, or by disciplined time. -/
def State.takeNow (s : State) (p : Nat) : Option (Takeover × Bool) :=
  let x := (s.port p).list
  match x.sealedTake with
  | some k => if k.at16 ≤ s.tb.local16 then some (k.take, k.own) else none
  | none =>
    match x.take with
    | some k => if x.pending && decide (k.due * 65536 ≤ s.disc16) then some (k, true) else none
    | none => none

/-- SLUICE_CYCLE_START: a takeover that is due, a re-phased start, or the next cycle (R186, R326). -/
def State.sluiceCycle (s : State) (p : Nat) : State :=
  let x := (s.port p).list
  let due := fun (d : Option Int) => match d with
    | some d => decide (d * 65536 ≤ s.disc16)
    | none => false
  match s.takeNow p with
  | some (k, own) =>
    let t := s.setPort p { s.port p with list := { x with sealedTake := none } }
    t.listTake p s.tb.local16 k.words false k.late own (BitVec.ofInt 32 k.due)
  | none =>
    if !x.active then s
    else if x.resume.isSome then (if due x.resume then s.listCycle p s.tb.local16 else s)
    else if x.onLocal then
      (if x.start16 + x.cycleNs * 65536 ≤ s.tb.local16 then s.listCycle p (x.start16 + x.cycleNs * 65536) else s)
    else if due (some (s.listNext p)) then s.listCycle p s.tb.local16
    else s

/-- GATE_ENTRY_ADVANCE: the next entry of the cycle applies (R326). -/
def State.gateAdvance (s : State) (p : Nat) : State :=
  let x := (s.port p).list
  match x.end16 with
  | none => s
  | some e =>
    if x.active && decide (e ≤ s.tb.local16) && x.resume.isNone && decide (x.entry + 1 < x.count)
        && decide (e < x.start16 + x.cycleNs * 65536) then
      s.listEntry p (x.entry + 1) e
    else s

/-- A step of disciplined time, from `old`, re-phases a running time-domain list, and a takeover that is not sealed and whose
instant has passed (R177, R185, R186). -/
def State.listTimeStep (s old : State) (p : Nat) : State :=
  let t := s.listSeal old p
  let x := (t.port p).list
  let t :=
    if x.active && !x.onLocal then
      let e := ceilNs (t.disc16At (max t.tb.local16 (x.end16.getD 0)))
      (t.setPort p { t.port p with list := { x with resume := some (gridStart x.base x.cycleNs e) } }).setFld
        Reg.ACT_STATUS_REPHASED 1
    else t
  let y := (t.port p).list
  match y.take with
  | some k =>
    if k.due * 65536 < t.disc16 then
      t.setPort p { t.port p with list := { y with
        take := some { k with due := gridStart (t.pendBase p) (t.pendCycle p) t.discUp } } }
    else t
  | none => t

/-! ## Guard bands (R327) -/

/-- Ring A and B, and the ports of SWC_GUARD (R327). -/
def State.guarded (s : State) (p : Nat) : Bool := p == 20 || p == 21 || (p < 20 && bitOf (s.fld Reg.SWC_GUARD_GUARD) p)

/-- The local instant at which the gate of queue `q`, open now, closes under the active list: entries from `k` on,
which end at `e`, in the cycle that starts at `st`; none: it does not close within `n` entries. -/
def ListRun.closes (x : ListRun) (q : Nat) : Nat → Nat → Nat → Nat → Option Nat
  | 0, _, _, _ => none
  | n + 1, k, st, e =>
    let cycleEnd := st + x.cycleNs * 65536
    let wrap := decide (x.count ≤ k + 1) || decide (cycleEnd ≤ e)
    let k' := if wrap then 0 else k + 1
    let st' := if wrap then cycleEnd else st
    let s0 := if wrap then cycleEnd else e
    if bitOf (x.gatesAt k') q then
      let e' := if k' + 1 = x.count then st' + x.cycleNs * 65536
        else min (st' + x.cycleNs * 65536) (s0 + x.interval16 k')
      x.closes q n k' st' e'
    else some s0

/-- When a gate closes that list `x` opens in its entry 0 at local instant `l`, or `l` if entry 0 closes it. -/
def ListRun.closesFrom (x : ListRun) (q l : Nat) : Option Nat :=
  if bitOf (x.gatesAt 0) q then
    let cycleEnd := l + x.cycleNs * 65536
    let e := if x.count = 1 then cycleEnd else min cycleEnd (l + x.interval16 0)
    x.closes q (2 * x.count + 2) 0 l e
  else some l

/-- When the gate of queue `q`, open now, closes under the active list: a list that a time step holds goes on at its next
cycle (R186). -/
def State.activeCloses (s : State) (p q : Nat) : Option Nat :=
  let x := (s.port p).list
  if !x.active then none
  else match x.resume, x.end16 with
    | some d, _ => x.closesFrom q (s.localOf d)
    | none, some e => x.closes q (2 * x.count + 2) x.entry x.start16 e
    | none, none => none

/-- The same with a takeover that is sealed by now: from its instant on the new list rules. -/
def State.gateCloses (s : State) (p q : Nat) : Option Nat :=
  let c := s.activeCloses p q
  match ((s.port p).list.sealedTake).orElse fun _ => s.sealing p with
  | none => c
  | some k =>
    if c.any fun c => decide (c ≤ k.at16) then c
    else ({ words := k.take.words : ListRun }).closesFrom q k.at16

/-- A frame of `len` bytes with its preamble ends before the gate of its queue closes. -/
def State.fitsGate (s : State) (p q len : Nat) : Bool :=
  !s.guarded p || (s.gateCloses p q).all fun c => decide (s.tb.local16 + s.lineTime p (len + 8) ≤ c)

/-- The same for the largest frame that ingress port `i` accepts (R327). -/
def State.fitsCut (s : State) (i e q : Nat) : Bool :=
  s.fitsGate e q (clampTo 1518 9216 (s.fld (Reg.SWC_P_CFG_MAX_LEN i)) + 8 + (if e = 20 ∨ e = 21 then 6 else 0))

/-! ## EGRESS_SELECT (R322, R323) -/

/-- The port's line can carry frames, and a MAC is neither in LPI nor waking from it (R306, R309, R318). -/
def State.portSends (s : State) (p : Nat) : Bool :=
  s.flag Reg.SWC_BSTAT_RUN && s.lineUp p && !(isMac p && s.flag (Reg.SWC_P_STATUS_LPI p))

/-- A queue is eligible (R322). -/
def State.eligible (s : State) (p q : Nat) : Bool :=
  match (s.queue p q).frames with
  | [] => false
  | f :: _ =>
    bitOf (s.gates p) q && (!s.flag (Reg.SWC_Q_CFG_CBS_EN p q) || decide (0 ≤ (s.queue p q).credit))
      && s.fitsGate p q (wireLen f.bytes)

/-- GUARD_HOLD of the heads that would not end before their gate closes, once per gate opening (R327). -/
def State.guardHolds (s : State) (p : Nat) : State :=
  (List.range 8).foldl (fun t q =>
    match (t.queue p q).frames with
    | [] => t
    | f :: _ =>
      if bitOf (t.gates p) q && !t.fitsGate p q (wireLen f.bytes) && !(t.queue p q).held then
        (t.bump (Reg.SWC_P_GUARD_HOLD p)).setQueue p q { t.queue p q with held := true }
      else t) s

/-- The queue served next: 7, 6, then the smallest finish tag, ties to the higher queue. -/
def State.selectQueue (s : State) (p : Nat) : Option Nat :=
  if s.eligible p 7 then some 7
  else if s.eligible p 6 then some 6
  else ([5, 4, 3, 2, 1, 0].filter (s.eligible p)).foldl (fun best q =>
    match best with
    | none => some q
    | some b => if (s.queue p q).fin < (s.queue p b).fin then some q else some b) none

/-- The head of queue `q` starts on the line. -/
def State.sendHead (s : State) (p q : Nat) : State :=
  let x := s.queue p q
  match x.frames with
  | [] => s
  | f :: fs =>
    let tx16 := s.tb.local16 + s.lineTime p 8
    let bs := s.corrected p f.rx16 tx16 f.bytes
    let t := s.cbsUpdate p q
    let t := t.setPort p { t.port p with
      vt := if q ≤ 5 then x.fin else (t.port p).vt
      sending := some { q := q, frame := { f with bytes := bs }, start16 := t.tb.local16
                        end16 := some (t.tb.local16 + t.lineTime p (wireLen bs + 20)) } }
    let t := t.setQueue p q { t.queue p q with frames := fs }
    let t := (t.showDepth p q).wfqHead p q
    let t := t.emit (.ethTx p (withFcs bs f.stomp) f.stomp)
    if f.src = portM then t.gptpSent p bs tx16 else t.txStamp p bs tx16

/-- EGRESS_SELECT: the line is free and the port chooses its next frame. -/
def State.egressSelect (s : State) (p : Nat) : State :=
  let t := s.lineDone p
  if (t.port p).sending.isSome || !t.portSends p then t
  else
    let t := ((List.range 8).foldl (fun t q => t.cbsUpdate p q) t).guardHolds p
    match t.selectQueue p with
    | none => t
    | some q => t.sendHead p q

/-- The credit of a shaped queue has risen back to 0, and the idle port chooses (R324). -/
def State.creditBack (s : State) (p q : Nat) : State :=
  let t := s.cbsUpdate p q
  if t.flag (Reg.SWC_Q_CFG_CBS_EN p q) && decide (0 ≤ (t.queue p q).credit) then t.egressSelect p else t

/-! ## Flushing, stamps, samples -/

def State.flushPort (s : State) (p mask : Nat) : State :=
  ((List.range 8).filter (bitOf mask)).foldl (fun t q => t.flushQueue p q) s

/-- TS_POP: the word read, with the entry's time in TS_LO and TS_HI (R332). -/
def State.tsPop (s : State) (p : Nat) : State × Word :=
  match (s.port p).stamps with
  | [] => (s, 0)
  | e :: es =>
    let t := s.setPort p { s.port p with stamps := es }
    ((t.wr64 (Reg.SWC_P_TS_LO p) e.time), e.word)

/-- The least, greatest and mean of a list (R331). -/
def stats (l : List Nat) : Nat × Nat × Nat :=
  (l.foldl min (l.headD 0), l.foldl max 0, l.sum / max 1 l.length)

/-- A window is complete: its statistics are written in one clock. -/
def State.closeWindow (s : State) (p q : Nat) : State :=
  let x := s.queue p q
  let d := stats (x.samples.map fun a => a.1)
  let y := stats (x.samples.map fun a => a.2)
  let bin := orElse (s.fld (Reg.SWC_P_BIN_BIN p)) 10 * 100
  let count := fun k => satTo 16 (x.samples.filter fun a => min 15 (a.2 / bin) == k).length
  let t := s.wr (Reg.SWC_Q_DEPTH_MINMAX p q) (w32 (satTo 16 d.2.1 * 65536 + satTo 16 d.1))
  let t := t.wr (Reg.SWC_Q_DEPTH_MEAN p q) (w32 (satTo 16 d.2.2))
  let t := t.wr (Reg.SWC_Q_DELAY_MIN p q) (satWord y.1)
  let t := t.wr (Reg.SWC_Q_DELAY_MAX p q) (satWord y.2.1)
  let t := t.wr (Reg.SWC_Q_DELAY_MEAN p q) (satWord y.2.2)
  let t := (List.range 8).foldl (fun t j =>
    t.wr (Reg.SWC_Q_HIST p q j) (w32 (count (2 * j + 1) * 65536 + count (2 * j)))) t
  (t.tick (Reg.SWC_Q_WIN_SEQ p q)).setQueue p q { x with samples := [] }

/-- QUEUE_SAMPLE: every SAMPLE_US each queue samples its depth and delay (R331). -/
def State.queueSample (s : State) (p : Nat) : State :=
  let us := orElse (s.fld (Reg.SWC_P_SAMPLE_SAMPLE_US p)) 100
  if s.tb.local16 < (s.port p).lastSample16 + min 1000 us * us16 then s
  else
    let t := s.setPort p { s.port p with lastSample16 := s.tb.local16 }
    (List.range 8).foldl (fun t q =>
      let x := t.queue p q
      let delay := match x.frames with
        | [] => 0
        | f :: _ => (t.tb.local16 - f.at16) / 65536
      let t := t.setFld (Reg.SWC_Q_LAST_DEPTH_DEPTH p q) (satTo 16 x.depth)
      let t := t.wr (Reg.SWC_Q_LAST_DELAY p q) (satWord delay)
      let t := t.setQueue p q { x with samples := x.samples ++ [(x.depth, delay)] }
      if orElse (t.fld (Reg.SWC_P_SAMPLE_WINDOW p)) 1000 ≤ (t.queue p q).samples.length then t.closeWindow p q
      else t) t

/-! ## Links and low-power idle of a MAC (R302, R309, R333) -/

/-- The SPEED code of a link by its interface (R302). -/
def State.linkSpeed (s : State) (m speed : Nat) : Nat :=
  match s.fld (Reg.EMC_MODE_IF m) with
  | 1 => 3
  | 2 => 4
  | _ => clampTo 1 3 speed

/-- ETH_LINK: a link goes up or down; a half-duplex partner holds it down (R302), and so does a lane that is tested or
retired (R460). -/
def State.ethLink (s : State) (m : Nat) (up : Bool) (speed : Nat) (half : Bool) : State :=
  let u := up && !half && s.laneServes (16 + m)
  let t := if up && half then s.setFld (Reg.EMC_FLAGS_HDX_SEEN m) 1 else s
  if t.flag (Reg.EMC_LINK_UP m) == u then t
  else
    let sp := if u then t.linkSpeed m speed else 0
    let t := if u then t else t.ingressLost m
    let t := (t.setFld (Reg.EMC_LINK_UP m) (if u then 1 else 0)).setFld (Reg.EMC_LINK_SPEED m) sp
    let t := (t.setFld (Reg.SWC_P_STATUS_LINK m) (if u then 1 else 0)).setFld (Reg.SWC_P_STATUS_SPEED m) sp
    (t.setFld (Reg.EMC_FLAGS_LINK_CHG m) 1).linkEvent m

/-- LPI_ENTRY (R309). -/
def State.lpiEntry (s : State) (m : Nat) : State :=
  let idle := orElse (s.fld (Reg.EMC_EEE_IDLE m)) 100 * us16
  if s.flag (Reg.EMC_MODE_EEE_EN m) && s.flag (Reg.EMC_LINK_UP m) && !s.flag (Reg.SWC_P_STATUS_LPI m)
      && s.queuesEmpty m && (s.port m).sending.isNone && decide ((s.port m).idle16 + idle ≤ s.tb.local16) then
    let t := (s.setFld (Reg.EMC_LINK_LPI_TX m) 1).setFld (Reg.SWC_P_STATUS_LPI m) 1
    (t.tick (Reg.EMC_LPI_CNT m)).setPort m { t.port m with wake16 := none }
  else s

/-- LPI_WAKE: TW after a frame was admitted the MAC leaves LPI and starts the frame (R309). -/
def State.lpiWake (s : State) (m : Nat) : State :=
  match (s.port m).wake16 with
  | none => s
  | some w =>
    if s.flag (Reg.SWC_P_STATUS_LPI m) && decide (w ≤ s.tb.local16) then
      let t := s.setFld (Reg.SWC_P_STATUS_LPI m) 0
      (t.setPort m { t.port m with wake16 := none }).egressSelect m
    else s

end Sys2Proof.Machine
end

