-- ==== Sys2Proof/Machine/TimeBase.lean ====
section
/-!
DEFINITION. The time base (R158 to R168): rate, adjustments, steps and what they re-phase (R184 to R186), PPS_IN and
PPS_OUT, masters and snapshots.
-/

namespace Sys2Proof.Machine

abbrev syncFree : Nat := 0
abbrev syncLocked : Nat := 1
abbrev syncHold : Nat := 2

/-! ## RATE and OFFSET (R159, R160) -/

/-- What is left to slew, in 2^-16 ns. -/
def State.slewLeft (s : State) : Int := s.tb.slew16 - s.slewDone s.tb.local16

/-- OFFSET takes what has been slewed so far; the remainder goes on from now. -/
def State.slewSettle (s : State) : State :=
  { s with tb := { s.tb with
    offset16 := s.tb.offset16 + s.slewDone s.tb.local16, slew16 := s.slewLeft, slewAt16 := s.tb.local16 } }

/-- A new RATE: the accumulated rate term moves into OFFSET, and ANCHOR becomes the local counter (R159). -/
def State.setRate (s : State) (v : Word) : State :=
  let x := v.toInt
  let c := max (-1099511628) (min 1099511628 x)
  let t := { s with tb := { s.tb with
    offset16 := s.tb.offset16 + s.rateTerm s.tb.local16, anchor16 := s.tb.local16 } }
  let t := t.wr Reg.TMB_RATE (BitVec.ofInt 32 c)
  if c = x then t else t.setFld Reg.TMB_STATUS_RATE_CLAMP 1

/-- A write of TMB_RATE (R161). -/
def State.rateWrite (s : State) (v : Word) : State :=
  if s.flag Reg.TMB_CTRL_SERVO then s.setFld Reg.TMB_STATUS_ADJ_REFUSED 1 else s.setRate v

/-- The period in µs of the cadence commits that follow disciplined time, if there are any: PERIOD_US of a timed
cadence, FALLBACK_PERIOD while the tracker of a course-aligned one is not locked (R104, R105). -/
def State.cadencePeriod (s : State) : Option Nat :=
  if !s.flag Reg.SIG_BSTAT_RUN then none
  else
    match s.fld Reg.SIG_CADENCE_MODE with
    | 1 => some (clampTo 10 1000000 (s.fld Reg.SIG_PERIOD_PERIOD_US))
    | 2 =>
      let st := s.ptState (s.fld Reg.SIG_CADENCE_PT)
      let f := s.fld Reg.SIG_FALLBACK_FALLBACK_PERIOD
      if (st = ptSearch ∨ st = ptCapture) ∧ f ≠ 0 then some (clampTo 10 1000000 f) else none
    | _ => none

/-- What a step of disciplined time, from `old`, re-phases (R184 to R186): entries, sluice lists, matrices, the timed cadence and
PPS_OUT. -/
def State.timeStep (s old : State) : State :=
  let t := s.actTimeStep old
  let t := (List.range 22).foldl (fun t p => t.listTimeStep old p) t
  let t := (List.range 128).foldl (fun t n => t.mtxTimeStep n) t
  let d := t.discUp
  let t := { t with
    sig := { t.sig with lastDisc16 := none, cadLast := none, cadHold := d + 2000 }
    tb := { t.tb with ppsNext := ((d + 2000 + 999999999) / 1000000000).toNat } }
  if t.cadencePeriod.isSome || t.flag Reg.TMB_CTRL_PPSO_EN then t.setFld Reg.ACT_STATUS_REPHASED 1 else t

/-- A step of disciplined time by `adj` ns (R160). -/
def State.stepTime (s : State) (adj : Int) : State :=
  let t := s.slewSettle
  let t := { t with tb := { t.tb with offset16 := t.tb.offset16 + adj * 65536 } }
  let t := (t.bump Reg.TMB_STEPS).setFld Reg.TMB_STATUS_STEP_DONE 1
  (t.postEvent 0x028 0 (BitVec.ofInt 32 (satSigned 32 adj))).timeStep s

/-- An adjustment of signed ns (R160). -/
def State.adjust (s : State) (adj : Int) : State :=
  let first := !s.flag Reg.TMB_STATUS_TIME_SET
  let big := decide ((s.rd Reg.TMB_STEP_THRESH).toNat ≤ adj.natAbs)
  if first then (s.setFld Reg.TMB_STATUS_TIME_SET 1).stepTime adj
  else if big && s.flag Reg.TMB_CTRL_STEP_ALLOW then s.stepTime adj
  else
    let t := s.slewSettle
    let left := t.tb.slew16 + adj * 65536
    let t := { t with tb := { t.tb with slew16 := left } }
    t.setFld Reg.TMB_STATUS_SLEWING (if left = 0 then 0 else 1)

/-- The host writes TMB_ADJ_HI (R160, R161). -/
def State.adjWrite (s : State) (hi : Word) : State :=
  if s.flag Reg.TMB_CTRL_SERVO then s.setFld Reg.TMB_STATUS_ADJ_REFUSED 1
  else s.adjust (mkDWord (s.rd Reg.TMB_ADJ_LO) hi).toInt

/-- What the servo does at one measurement. -/
def State.servo (s : State) (o : Option ServoOut) : State :=
  match o with
  | some o => if s.flag Reg.TMB_CTRL_SERVO then (s.setRate o.rate).adjust o.adj.toInt else s
  | none => s

/-- SLEW_COMPLETE: the adjustment is absorbed. -/
def State.slewComplete (s : State) : State :=
  if s.flag Reg.TMB_STATUS_SLEWING ∧ s.slewLeft = 0 then s.slewSettle.setFld Reg.TMB_STATUS_SLEWING 0 else s

/-! ## Masters (R162, R164, R166) -/

/-- The master vanishes. -/
def State.masterLost (s : State) : State :=
  if s.fld Reg.TMB_STATUS_SYNC = syncLocked then
    ((s.setFld Reg.TMB_STATUS_SYNC syncHold).bump Reg.TMB_SYNC_LOSS).postEvent 0x029 0 0
  else s

/-- The master returns. -/
def State.masterReturn (s : State) : State :=
  if s.fld Reg.TMB_STATUS_SYNC = syncHold then s.setFld Reg.TMB_STATUS_SYNC syncLocked else s

/-- TMB_PPS_SEC adds 1: 48 bits. -/
def State.ppsSecNext (s : State) : State :=
  let v := ((s.rd64 Reg.TMB_PPS_SEC_LO).toNat + 1) % 2 ^ 48
  s.wr64 Reg.TMB_PPS_SEC_LO (BitVec.ofNat 64 v)

/-- PPS_IN_EDGE: a rise of PPS_IN whose new level has held for `ageNs`; behind the glitch filter of 20 ns it is an edge,
at the start of that run (R164; notes/assumptions/145.md). -/
def State.ppsEdge (s : State) (o : Option ServoOut) (ageNs : Nat) : State :=
  if ageNs < 20 then s
  else
  let l := s.tb.local16 - ageNs * 65536
  let t := s.wr Reg.TMB_PPS_IN_TS (s.stampAt l)
  if s.flag Reg.TMB_CTRL_GM_PPS then
    let t := { t with tb := { t.tb with lastPps := some l } }
    ((t.ppsSecNext).setFld Reg.TMB_STATUS_SYNC syncLocked).servo o
  else t

/-- PPS_MISS: no edge within 1.5 s of the last one. -/
def State.ppsMiss (s : State) : State :=
  match s.tb.lastPps with
  | none => s
  | some l =>
    if s.flag Reg.TMB_CTRL_GM_PPS ∧ l + 1500000 * us16 ≤ s.tb.local16 then
      (({ s with tb := { s.tb with lastPps := none } }).setFld Reg.TMB_STATUS_PPS_MISS 1).masterLost
    else s

/-- A measurement of `ofs` ns against the master: the offset shown, SYNC, and the servo. With GM_PPS the time comes from
PPS_IN (R164). -/
def State.measure (s : State) (ofs : Int) (o : Option ServoOut) : State :=
  let t := s.wr Reg.TMB_GPTP_OFS (BitVec.ofInt 32 (satSigned 32 ofs))
  if s.flag Reg.TMB_CTRL_GM_PPS then t else (t.setFld Reg.TMB_STATUS_SYNC syncLocked).servo o

/-- The Sync that a Follow_Up on port `p` completes: its arrival, and the origin of the time with the correction up to that
arrival, the link delay included. -/
def State.syncDone (s : State) (p : Nat) (m : PtpMsg) : Option (Nat × Int × Int) :=
  match (s.gport p).sync with
  | some (seq, rx16, corr16) =>
    if seq = m.seq then some (rx16, ptpTimeOf m.body, corr16 + m.corr16 + s.linkDelay p) else none
  | none => none

/-- The offset from the master in ns: own time at the arrival of the Sync less the master's. -/
def State.offsetOf (s : State) (x : Nat × Int × Int) : Int := (s.disc16At x.1 - x.2.1 - x.2.2) / 65536

/-- The ports on which a relay passes on the time of port `p`. -/
def State.relayPorts (s : State) (p : Nat) : List Nat :=
  if s.fld Reg.TMB_GPTP_CTRL_MODE = 2 then (List.range 22).filter fun q => q != p && s.gptpPort q && s.lineUp q else []

/-- A Follow_Up of the slave port: the offset is measured, a relay passes the time on (R162). -/
def State.followUp (s : State) (p : Nat) (m : PtpMsg) (o : Option ServoOut) : State :=
  match s.syncDone p m with
  | none => s
  | some x =>
    let t := s.setGport p { s.gport p with sync := none }
    let t := (s.relayPorts p).foldl (fun t q => t.syncSend q
      { seq := m.seq, steps := 0, origin16 := x.2.1, corr16 := x.2.2, rx16 := some x.1 }) t
    t.measure (s.offsetOf x) o

/-- A message of a gPTP port (R162). -/
def State.gptpIn (s : State) (p : Nat) (m : PtpMsg) (rx16 : Nat) (o : Option ServoOut) : State :=
  if m.type = ptpPdelayReq ∨ m.type = ptpPdelayResp ∨ m.type = ptpPdelayRespFu then s.peerDelay p m rx16
  else if m.domain ≠ s.fld Reg.TMB_GPTP_CTRL_DOMAIN then s
  else if m.type = ptpAnnounce then s.announceIn p m
  else if s.slavePort ≠ some p then s
  else if m.type = ptpSync then s.setGport p { s.gport p with sync := some (m.seq, rx16, m.corr16) }
  else if m.type = ptpFollowUp then s.followUp p m o
  else s

/-! ## PPS_OUT, snapshots (R165, R168) -/

/-- PPS_OUT_RISE: a whole second of disciplined time has come. -/
def State.ppsRise (s : State) : State :=
  let d := s.disc
  if s.flag Reg.TMB_BSTAT_RUN ∧ s.flag Reg.TMB_CTRL_PPSO_EN ∧ ((s.tb.ppsNext : Int) * 1000000000 ≤ d) then
    { s with tb := { s.tb with ppsOut := true, ppsOutAt := s.tb.local16, ppsNext := (d / 1000000000 + 1).toNat } }
  else s

/-- PPS_OUT_FALL: PPSO_WIDTH µs after its rise. -/
def State.ppsFall (s : State) : State :=
  if s.tb.ppsOut ∧ s.tb.ppsOutAt + clampTo 1 500000 (s.fld Reg.TMB_PPSO_WIDTH_WIDTH) * us16 ≤ s.tb.local16 then
    { s with tb := { s.tb with ppsOut := false } }
  else s

/-- PPSO_EN is set: the first rise is at the next whole second. -/
def State.ppsArm (s : State) : State :=
  { s with tb := { s.tb with ppsNext := (s.disc / 1000000000 + 1).toNat } }

/-- SNAP (R168). -/
def State.snap (s : State) : State :=
  let l := s.tb.local16
  let d := s.disc16
  let t := (s.wr64 Reg.TMB_SNAP_LOC_LO (BitVec.ofNat 64 (l / 65536))).wr Reg.TMB_SNAP_LOC_FRAC (w32 (l % 65536))
  (t.wr64 Reg.TMB_SNAP_DIS_LO (BitVec.ofInt 64 (d / 65536))).wr Reg.TMB_SNAP_DIS_FRAC (w32 (d % 65536).toNat)

end Sys2Proof.Machine
end

