-- ==== Sys2Proof/Machine/CanRx.lean ====
section
/-!
DEFINITION. The receiving side of a CAN unit (R245 to R249, R258, R416), and the events that end frames and recoveries
(R232, R239, R254, R257).
-/

namespace Sys2Proof.Machine

/-! ## The receive queue (R247 to R249) -/

/-- A receive entry (Table 7.7): the frame, its stamp and SEQ, the filter, WAKE, AUTH_OK and AUTH_FAIL. -/
def rxEntry (f : CanFrame) (data : List Byte) (stamp : Word) (seq filter : Nat) (wake ok fail : Bool) : List Word :=
  [w32 (2 ^ 31 + flagBit f.ide 29 + f.ident.toNat),
    w32 (flagBit f.fdf 31 + flagBit f.brs 30 + flagBit f.esi 29 + flagBit f.rtr 28 + flagBit ok 27 + flagBit fail 26
      + data.length * 2 ^ 19 + filter % 256 * 2 ^ 11 + f.dlc.toNat * 2 ^ 7 + flagBit wake 6),
    stamp, w32 seq] ++ wordsFrom 16 data

/-- GAP in an entry. -/
def rxGap : List Word → List Word
  | [] => []
  | w :: ws => (w ||| w32 (2 ^ 30)) :: ws

/-- A frame enters the receive queue. -/
def State.rxPush (s : State) (n : Nat) (f : CanFrame) (data : List Byte) (stamp : Word) (filter : Nat)
    (wake ok fail : Bool) : State :=
  let x := s.canU n
  let e := rxEntry f data stamp x.rxSeq filter wake ok fail
  let full := decide (128 ≤ x.rxq.length)
  let q := if full then (match x.rxq.tail with
      | [] => [e]
      | o :: os => rxGap o :: os ++ [e])
    else x.rxq ++ [e]
  let t := s.setCan n { x with rxq := q, rxSeq := (x.rxSeq + 1) % 65536 }
  let t := if full then t.bump (Reg.CFD_RXQ_LOST n) else t
  let t := t.setFld (Reg.CFD_RXQ_STATE_PEAK n) (max (s.fld (Reg.CFD_RXQ_STATE_PEAK n)) q.length)
  let lev := s.fld (Reg.CFD_RXQ_STATE_LEVEL n)
  if lev ≠ 0 ∧ lev < q.length ∧ x.rxq.length ≤ lev then
    (t.setFld (Reg.CFD_FLAGS_RXQ_LEVEL_HIT n) 1).postEvent 0x048 (Reg.canUnit n) (w32 q.length)
  else t

/-- RX_POP: the word read, with the entry in CFD_RX_BUF (R247). -/
def State.canRxPop (s : State) (n : Nat) : State × Word :=
  let x := s.canU n
  match x.rxq with
  | [] => (s, 0)
  | e :: es =>
    let t := (s.setCan n { x with rxq := es }).setFld (Reg.CFD_RXQ_STATE_PEAK n)
      (max (s.fld (Reg.CFD_RXQ_STATE_PEAK n)) es.length)
    ((List.range 20).foldl (fun t j => t.wr (Reg.CFD_RX_BUF n j) (e.getD j 0)) t, e.getD 0 0)

/-! ## Reception (R230, R233, R245, R246, R258) -/

/-- A frame's payload as received: no data in a remote frame, 8 bytes at most in a classical one (Table 7.1). -/
def canPayload (f : CanFrame) : List Byte :=
  if f.rtr then [] else bytesAt f.data 0 (dlcLen f.fdf f.dlc.toNat)

/-- Identifier match of a filter word pair (R245, R258). -/
def idMatch (w0 w1 : Nat) (f : CanFrame) : Bool :=
  bitOf w0 31 && bitOf w0 29 == f.ide && (f.ident.toNat ^^^ bits w0 0 29) &&& bits w1 0 29 == 0

/-- Wake filter `k` matches (R258). -/
def State.canWakeMatch (s : State) (n k : Nat) (f : CanFrame) : Bool :=
  let w := fun j => (s.rd (Reg.CFD_WAKE n (8 * k + j))).toNat
  let data := w 2 + 2 ^ 32 * w 3
  let mask := w 4 + 2 ^ 32 * w 5
  idMatch (w 0) (w 1) f && (List.range 64).all fun i =>
    !bitOf mask i || (decide (i / 8 < (canPayload f).length) && bitOf (byteAt (canPayload f) (i / 8)) (i % 8) == bitOf data i)

/-- A valid frame at a unit in LISTEN (R258). -/
def State.canListenFrame (s : State) (n : Nat) (f : CanFrame) : State :=
  match (List.range 8).find? fun k => s.canWakeMatch n k f with
  | none => s
  | some k =>
    let u := Reg.canUnit n
    let w6 := (s.rd (Reg.CFD_WAKE n (8 * k + 6))).toNat
    let t := (s.bump (Reg.CFD_WAKE_CNT n)).setFld (Reg.CFD_FLAGS_WAKE_SEEN n) 1
    let t := t.postEvent 0x047 (u + k * 256) 0
    let t := if bitOf w6 0 then t.setFld (Reg.CFD_MODE_MODE n) canNormal else t
    if bitOf w6 1 then t.rxPush n f (canPayload f) t.stamp k true false false else t

/-- REC after a frame received without error (R256; PRESUMED, notes/assumptions/22.md). -/
def State.recGood (s : State) (n : Nat) : State :=
  let r := s.fld (Reg.CFD_ERRC_REC n)
  if 127 < r then (s.setFld (Reg.CFD_ERRC_REC n) (119 + Config.recBack s.freeCnt % 9)).useFree
  else s.setFld (Reg.CFD_ERRC_REC n) (r - 1)

/-- A CAN_RX policy examines a resynchronisation frame (R416). -/
def State.resyncOne (s : State) (g : Gen) (i : Nat) (f : CanFrame) : State :=
  let k := s.polSlot g i
  if s.keyUsable k then
    let v := verifyResync (s.slot k).key (s.pol i).fv (s.polMac g i) f.ident.toNat f.ide (canPayload f)
    let gen := s.slotGen k
    let t := (s.keyInvoke k).settle i k gen v
    match v with
    | .ok fv => (t.bump Reg.CPH_RESYNC_RX).postEvent 0x0A4 i (w32 fv)
    | _ => t
  else s.bump Reg.CPH_RX_AUTH_FAIL

/-- The policies whose resynchronisation identifier a frame carries (R416). -/
def State.resyncExamine (s : State) (f : CanFrame) : State :=
  let g := s.rd Reg.STR_GEN
  ((s.policies g).filter fun i =>
    s.polKind g i == 0 && bitOf (s.polW g i 4) 30 && bitOf (s.polW g i 4) 29 == f.ide
      && bits (s.polW g i 4) 0 29 == f.ident.toNat).foldl (fun t i => t.resyncOne g i f) s

/-- A word of an acceptance filter (Table 7.6). -/
def State.afW (s : State) (g : Gen) (n i w : Nat) : Nat := s.twG g 0x11 (Reg.canUnit n) i w

/-- REMOTE of a filter allows the frame. -/
def remoteOk (r : Nat) (rtr : Bool) : Bool :=
  match r with
  | 1 => rtr
  | 2 => true
  | _ => !rtr

/-- The first acceptance filter that takes a frame (R245). -/
def State.acceptBy (s : State) (g : Gen) (n : Nat) (f : CanFrame) : Option Nat :=
  (s.entriesAt g 0x11 (Reg.canUnit n) 0).find? fun i =>
    idMatch (s.afW g n i 0) (s.afW g n i 1) f && remoteOk (bits (s.afW g n i 2) 18 2) f.rtr

/-- A frame that filter `i` takes: its chain and its place in the receive queue. An authenticated one waits for its
verification (R414). -/
def State.canAccept (s : State) (g : Gen) (n i : Nat) (f : CanFrame) : State :=
  let u := Reg.canUnit n
  let w2 := s.afW g n i 2
  let route := bits w2 0 15
  let toQ := bitOf w2 16
  let data := (canPayload f)
  let item : ChainItem :=
    { unit := some u, gen := g, payload := data, len := data.length, time := s.stamp, phases := s.phaseStamps
      spare := bitOf s.spared u, can := some f, chan := n, request := bitOf w2 17 }
  let queue := fun (t : State) => if toQ then t.rxPush n f data s.stamp i false false false else t
  if bitOf w2 15 then
    match s.chainPolicy g route with
    | some pol => s.hold_ g pol data.length (.chain item route) (if toQ then some (n, i) else none)
    | none => queue (s.chainInOrder item route)
  else queue s

/-- A frame received without error in NORMAL or RESTRICTED; `sof16`: its start of frame. -/
def State.canTake (s : State) (n : Nat) (f : CanFrame) (sof16 : Nat) : State :=
  let t := s.tick (Reg.CFD_RX_FRAMES n)
  let t := if s.canMode n = canNormal then (t.recGood n).canConfine n else t
  let t := (t.regionWork (Reg.canUnit n)).resyncExamine f
  let t := t.mtxReference n f.ident.toNat f.ide (canPayload f) sof16
  let g := t.genAt sof16
  match t.acceptBy g n f with
  | none => t.bump (Reg.CFD_RX_NOMATCH n)
  | some i => t.canAccept g n i f

/-- A MODE write that came while the frame was on the bus was no write at bus idle: MODE is still the old one, and the
write waits for the end of the frame (R87; notes/assumptions/160.md). `sof16`: the start of the frame. -/
def State.modeBack (s : State) (n sof16 : Nat) : State :=
  match (s.canU n).modeWas with
  | some (w, at16) =>
    let a := Reg.CFD_MODE n
    let new := s.rd a
    let t := s.setCan n { s.canU n with modeWas := none }
    if sof16 < at16 then
      { t.setFld (Reg.CFD_MODE_MODE n) (getBits w 0 3) with
        staged := s.staged ++ [{ addr := a, value := new, mask := 7, bound := .frameEnd }] }
    else t
  | none => s

/-- CAN_FRAME_RECEIVED: the sample point of the last end-of-frame bit; `ageNs`: how long before it the frame began. A unit
on an invalid bank reads RXD low and receives nothing (R478). -/
def State.canReceive (s : State) (n : Nat) (f : CanFrame) (ageNs : Nat) : State :=
  let sof16 := s.tb.local16 - ageNs * 65536
  let s := (s.setCan n { s.canU n with receiving := false }).modeBack n sof16
  let mode := s.canMode n
  if !s.canOnBus n || (s.canU n).onBus.isSome || mode == canOff || !s.pinsSeen (Reg.canUnit n) then
    s.frameEnd (Reg.canUnit n)
  else if mode = canListen then
    (if f.fdf && !s.fdEn n then s.frameEnd (Reg.canUnit n)
     else ((s.tick (Reg.CFD_RX_FRAMES n)).canListenFrame n f).frameEnd (Reg.canUnit n))
  else if f.fdf && !s.fdEn n then s.canError n .form .rx1 false none
  else (s.canTake n f sof16).frameEnd (Reg.canUnit n)

/-! ## The end of the unit's own frames -/

/-- ARBITRATION_LOST (R238). -/
def State.canArbLost (s : State) (n : Nat) : State :=
  if (s.canU n).onBus.isSome then
    let t := (s.bump (Reg.CFD_ARB_LOST n)).canFailed n true false false
    t.setCan n { t.canU n with receiving := true }
  else s

/-- A mailbox's frame is complete (R239, R241, R243, R503). -/
def State.mbComplete (s : State) (n m : Nat) (o : OnBus) : State :=
  let t := (s.mbSet n m mbDone).setFld (Reg.CFD_MB_STAT_CLASH_RUN n m) 0
  let t := if o.cancel then t.setFld (Reg.CFD_MB_STAT_CANCEL_LATE n m) 1 else t
  let t := if mbEvtDone o.words then
      t.postEvent 0x040 (Reg.canUnit n + m * 256 + flagBit o.cancel 14) s.stamp
    else t
  t.mbTakeHeld n m true

/-- TRANSMISSION_COMPLETE: the last end-of-frame bit has passed without error. -/
def State.canComplete (s : State) (n : Nat) (loopDelay : Nat) : State :=
  match (s.canU n).onBus with
  | none => s
  | some o =>
    let s := s.mtxClose n
    let t := (s.tick (Reg.CFD_TX_FRAMES n)).setFld (Reg.CFD_ERRC_TEC n) (s.fld (Reg.CFD_ERRC_TEC n) - 1)
    let t := (t.canConfine n).canDelay n loopDelay
    let x := t.canU n
    let t := t.setCan n { x with onBus := none, gwq := if o.mb.isNone then x.gwq.tail else x.gwq }
    let t := match o.mb with
      | some m => t.mbComplete n m o
      | none => t
    let t := match o.refCycle with
      | some b => t.mtxSent n b o.sof16
      | none => t
    t.frameEnd (Reg.canUnit n)

/-! ## Recovery from bus-off (R257), integration -/

/-- BUS_OFF_DELAY_EXPIRY: DELAY_MS has passed on the local counter. -/
def State.canDelayEnd (s : State) (n : Nat) : State :=
  let x := s.canU n
  match x.boWait with
  | .delay since =>
    if s.errState n = errBusOff ∧ since + s.fld (Reg.CFD_RECOV_DELAY_MS n) * 1000 * us16 ≤ s.tb.local16 then
      s.setCan n { x with boWait := .sequence }
    else s
  | _ => s

/-- RECOVER: a unit that waits for it starts the recovery sequence. -/
def State.canRecover (s : State) (n : Nat) : State :=
  let x := s.canU n
  if s.errState n = errBusOff ∧ x.boWait = .manual then s.setCan n { x with boWait := .sequence } else s

/-- RESET_BO: the count of bus-off events restarts. -/
def State.canResetBo (s : State) (n : Nat) : State := s.setCan n { s.canU n with boCount := 0 }

/-- RECOVERY_COMPLETE: 128 runs of 11 recessive bits have been counted (R256, R257). -/
def State.canRecovered (s : State) (n : Nat) : State :=
  let x := s.canU n
  if s.errState n = errBusOff ∧ x.boWait = .sequence then
    let t := s.setCan n { x with boWait := .none }
    let t := (t.setFld (Reg.CFD_ERRC_TEC n) 0).setFld (Reg.CFD_ERRC_REC n) 0
    (t.setFld (Reg.CFD_ERRC_STATE n) errActive).postEvent 0x046 (Reg.canUnit n) 0
  else s

/-- BUS_INTEGRATION: an integrating unit has seen the idle bus. -/
def State.canIntegrated (s : State) (n : Nat) : State :=
  if s.running (Reg.canUnit n) && s.errState n == errIntegrating then
    s.setFld (Reg.CFD_ERRC_STATE n)
      (if 127 < s.fld (Reg.CFD_ERRC_TEC n) ∨ 127 < s.fld (Reg.CFD_ERRC_REC n) then errPassive else errActive)
  else s

/-! ## Resynchronisation frames (R416) -/

/-- Unit `n` sends frames of CAN_TX policy `i`: by its UNIT, or by a route entry that packs its format for the unit. -/
def State.polUnit (s : State) (g : Gen) (i n : Nat) : Bool :=
  let u := Reg.canUnit n
  (bitOf (s.polW g i 2) 30 && (bitOf (s.polW g i 3) 8 || bits (s.polW g i 3) 0 8 == u))
    || (s.entriesAt g 0x07 devScope 0).any fun r =>
      (s.rtType g r == rtPack || s.rtType g r == rtReply) && s.rtFormat g r == s.polTarget g i && s.rtUnit g r == u

/-- RESYNC_SEND: the period of the policy has passed at the unit. -/
def State.resyncSend (s : State) (i n : Nat) : State :=
  let s := s.mtxClose n
  let g := s.rd Reg.STR_GEN
  let ms := bits (s.polW g i 5) 0 16
  let m := bits (s.polW g i 5) 16 6
  let last := ((s.pol i).resync.find? fun x => x.1 == n).elim 0 Prod.snd
  if bitOf (s.polW g i 0) 2 && s.polKind g i == 1 && bitOf (s.polW g i 4) 30 && ms != 0 && s.polUnit g i n
      && decide (last + ms * 1000 * us16 ≤ s.tb.local16) then
    let s := s.setPol i { s.pol i with resync := (n, s.tb.local16) :: (s.pol i).resync.filter fun x => x.1 != n }
    let k := s.polSlot g i
    if s.keyUsable k then
      let ident := bits (s.polW g i 4) 0 29
      let ide := bitOf (s.polW g i 4) 29
      let fv := ((s.pol i).fv + 1) % 2 ^ 32
      let mac := (cmac (s.slot k).key (identBytes ident ide ++ beBytes 4 fv)).take (s.polMac g i)
      let body := beBytes 4 fv ++ mac
      let len := lenFor body.length
      let pad := (List.range (len - body.length)).map fun j => Config.resyncPad (s.freeCnt + j)
      let fdf := decide (8 < len)
      let ws := mkMb ident ide fdf (fdf && Config.resyncBrs s.freeCnt) false false true false (body ++ pad)
      let t := ({ s with freeCnt := s.freeCnt + 64 }).keyInvoke k
      let t := t.setPol i { t.pol i with fv := fv, none := false, gen := s.slotGen k }
      (t.bump Reg.CPH_RESYNC_TX).mbDeliver n m ws
    else (s.bump Reg.CPH_TX_NOKEY).mbFail n m mbError
  else s

end Sys2Proof.Machine
end

