-- ==== Sys2Proof/Machine/Discrete.lean ====
section
/-!
DEFINITION. Discrete banks (R290 to R296, R298): accepted edges, SAMPLE and LATCH, staging bits and safe values.
-/

namespace Sys2Proof.Machine

/-- The positions of all trackers at a local instant. -/
def State.phaseStampsAt (s : State) (l : Nat) : List Word :=
  (List.range 4).map fun k => w32 ((s.tracker k).posAt (s.ptState k) (s.slewMax k) l % 2 ^ 32)

/-- The line is an output. -/
def State.lineOut (s : State) (b l : Nat) : Bool := bitOf (s.fld (Reg.DSC_DIR_DIR b)) l

/-- Set a bit of a field. -/
def State.setLineBit (s : State) (f : Fld) (l : Nat) (v : Bool) : State := s.setFld f (setBit (s.fld f) l v)

/-- DEB of a line. -/
def State.lineDeb (s : State) (b l : Nat) : Nat :=
  getBits (s.rd (if l < 4 then Reg.DSC_DEB_LO b else Reg.DSC_DEB_HI b)) (8 * (l % 4)) 8

/-- DEB × DEB_UNIT of a line in ns (R291). -/
def State.debNs (s : State) (b l : Nat) : Nat :=
  s.lineDeb b l * (match s.fld (Reg.DSC_DEB_UNIT_DEB_UNIT b) with
    | 0 => 10
    | 1 => 1000
    | 2 => 100000
    | _ => 1000000)

/-- The debounced level of a line changes; the change counts for the next SAMPLE (R291, R293). -/
def State.lineLevel (s : State) (b l : Nat) (v : Bool) : State :=
  let t := (s.setLineBit (Reg.DSC_LEVEL_LEVEL b) l v).setLineBit (Reg.DSC_LEVEL_RAW b) l v
  t.setBank b { t.bank b with changed := setBit (t.bank b).changed l true }

/-- EDGE_ACCEPTED: the line has shown `level` for `ageNs`. The raw level follows; the debounced one if it differs and the run
has lasted DEB × DEB_UNIT (R291, R292). A line on an invalid bank reads low (R478). -/
def State.edgeAccepted (s : State) (b l : Nat) (level : Bool) (ageNs : Nat) : State :=
  let u := Reg.bankUnit b
  if !s.running u || (level && !s.pinsSeen u) then s
  else if bitOf (s.fld (Reg.DSC_LEVEL_LEVEL b)) l == level || decide (ageNs < s.debNs b l) then
    s.setLineBit (Reg.DSC_LEVEL_RAW b) l level
  else
    let t := (s.regionWork u).lineLevel b l level
    let en := bitOf (s.fld (if level then Reg.DSC_EDGE_CFG_RISE_EN b else Reg.DSC_EDGE_CFG_FALL_EN b)) l
    if en && !s.lineOut b l then
      let at16 := s.tb.local16 - ageNs * 65536
      let stamp := s.stampAt at16
      let cell := s.fld (Reg.DSC_ECELL_CELL b l)
      let t := t.wr (if level then Reg.DSC_RISE_TS b l else Reg.DSC_FALL_TS b l) stamp
      let st := 2 ^ stValid + flagBit (bitOf s.spared u) stSpare
      (t.tick (Reg.DSC_EDGE_CNT b l)).addWrites (some u)
        [⟨cell, .put (cellWord (if level then 1 else 0) st (s.stampFor cell stamp (s.phaseStampsAt at16)))⟩]
    else t

/-- A SAMPLE release at local instant `l16` (R293). -/
def State.bankSample (s : State) (b l16 : Nat) : State :=
  let u := Reg.bankUnit b
  if !s.running u then s
  else
    let raw := s.flag (Reg.DSC_EDGE_CFG_RAW_SAMPLE b)
    let v := s.fld (if raw then Reg.DSC_LEVEL_RAW b else Reg.DSC_LEVEL_LEVEL b) + (s.bank b).changed % 256 * 256
    let cell := s.fld (Reg.DSC_SAMPLE_CELL_CELL b)
    let st := 2 ^ stValid + flagBit (bitOf s.spared u) stSpare
    let t := s.setBank b { s.bank b with changed := 0 }
    t.addWrites (some u)
      [⟨cell, .put (cellWord v st (s.stampFor cell (s.stampAt l16) (s.phaseStampsAt l16)))⟩]

/-! ## Outputs (R294 to R296) -/

/-- INV of a line: the pin shows the opposite of the line's value (R290). -/
def State.lineInv (s : State) (b l : Nat) : Bool := bitOf (s.fld (Reg.DSC_DIR_INV b)) l

/-- A line is driven. Its pin is sampled again: the raw level follows, and with DEB = 0 the debounced one, in the line's own
sense (notes/assumptions/165.md). An open drain whose pin would be high releases it and leaves the level to the
outside. -/
def State.driveLine (s : State) (b l : Nat) (v : Bool) : State :=
  let t := s.setLineBit (Reg.DSC_OUT_NOW_DRIVEN b) l v
  let t := t.setBank b { t.bank b with hiz := setBit (t.bank b).hiz l false }
  if ((v != s.lineInv b l) && bitOf (s.fld (Reg.DSC_DIR_OD b)) l) || !s.pinsDriven (Reg.bankUnit b) then t
  else if s.lineDeb b l ≠ 0 then t.setLineBit (Reg.DSC_LEVEL_RAW b) l v
  else if bitOf (s.fld (Reg.DSC_LEVEL_LEVEL b)) l == v then t.setLineBit (Reg.DSC_LEVEL_RAW b) l v
  else t.lineLevel b l v

/-- SAFE of a line. -/
def State.lineSafe (s : State) (b l : Nat) : Nat := bits (s.fld (Reg.DSC_SAFE_SAFE b)) (2 * l) 2

/-- A line takes a safe value: low, high, hold, high impedance (R296). -/
def State.driveSafe (s : State) (b l safe : Nat) : State :=
  match safe with
  | 0 => s.driveLine b l false
  | 1 => s.driveLine b l true
  | 2 => s
  | _ => s.setBank b { s.bank b with hiz := setBit (s.bank b).hiz l true }

/-- FROM_CELL of a line. -/
def State.fromCell (s : State) (b l : Nat) : Bool := bitOf (s.fld (Reg.DSC_OUT_MODE_FROM_CELL b)) l

/-- A line is driven with its own value, and no longer its safe value. -/
def State.lineClear (s : State) (b l : Nat) (v : Bool) : State :=
  (s.driveLine b l v).setLineBit (Reg.DSC_OUT_NOW_SAFE_ACTIVE b) l false

/-- A line takes its staging bit as it stands (R294, R295). -/
def State.lineFollow (s : State) (b l : Nat) : State :=
  if !s.lineOut b l then s
  else if s.fromCell b l then
    (if bitOf (s.bank b).stageSafe l then s.driveSafe b l (s.lineSafe b l)
     else s.lineClear b l (bitOf (s.bank b).cellStage l))
  else s.lineClear b l (bitOf (s.fld (Reg.DSC_OUT_STAGE_STAGE b)) l)

/-- LATCHED of a line. -/
def State.latched (s : State) (b l : Nat) : Bool := bitOf (s.fld (Reg.DSC_OUT_MODE_LATCHED b)) l

/-- The lines with LATCHED = 0 follow their staging bits. -/
def State.bankFollow (s : State) (b : Nat) : State :=
  if s.running (Reg.bankUnit b) then
    ((List.range 8).filter fun l => !s.latched b l).foldl (fun t l => t.lineFollow b l) s
  else s

/-- A LATCH release: the lines with LATCHED = 1 take their staging bits. -/
def State.bankLatch (s : State) (b : Nat) : State :=
  if s.running (Reg.bankUnit b) then
    ((List.range 8).filter fun l => s.latched b l).foldl (fun t l => t.lineFollow b l) s
  else s

/-- The staging bit of one FROM_CELL line is refreshed from the newest committed version of its cell. -/
def State.lineRefresh (s : State) (b l : Nat) : State :=
  if s.lineOut b l && s.fromCell b l then
    let w := s.live (s.fld (Reg.DSC_SRC_CELL b l))
    let x := s.bank b
    if !cwBit w stValid || cwBit w stStale then
      let t := s.setBank b { x with stageSafe := setBit x.stageSafe l true }
      ((t.setFld (Reg.DSC_FLAGS_SRC_BAD b) 1).setLineBit (Reg.DSC_OUT_NOW_SAFE_ACTIVE b) l true).bump
        (Reg.DSC_SRC_BAD_CNT b)
    else
      let k := s.fld (Reg.DSC_SRC_BIT b l)
      let t := s.setBank b { x with
        stageSafe := setBit x.stageSafe l false, cellStage := setBit x.cellStage l (bitOf (cwValue w) k) }
      t.setLineBit (Reg.DSC_OUT_NOW_SAFE_ACTIVE b) l false
  else s

/-- STAGING_REFRESH: within 1 µs after a commit (R294). -/
def State.bankRefresh (s : State) (b : Nat) : State :=
  let u := Reg.bankUnit b
  if s.sig.refresh.contains u then
    let t := State.regionWork { s with sig := { s.sig with refresh := s.sig.refresh.filter fun x => x != u } } u
    if s.running u then ((List.range 8).foldl (fun t l => t.lineRefresh b l) t).bankFollow b else t
  else s

/-- The outputs take their safe values (R263, R296). -/
def State.bankSafe (s : State) (b : Nat) : State :=
  ((List.range 8).filter fun l => s.lineOut b l).foldl
    (fun t l => (t.driveSafe b l (t.lineSafe b l)).setLineBit (Reg.DSC_OUT_NOW_SAFE_ACTIVE b) l true) s

/-- A bank starts: each output is at its safe value, 2 acting as 3 where the personality has just been applied, and then
follows R294 (R296). Just after the personality is applied a FROM_CELL line has no staging value before the next commit and
stays at its safe value; at a later start its staging bit is that of the newest committed version. -/
def State.bankStart (s : State) (b : Nat) : State :=
  let fresh := (s.bank b).fresh
  let x := s.bank b
  let t := if fresh then s.setBank b { x with fresh := false, changed := 0, stageSafe := 255 } else s
  let t := ((List.range 8).filter fun l => s.lineOut b l).foldl
    (fun t l => let c := t.lineSafe b l; (t.driveSafe b l (if c = 2 ∧ fresh then 3 else c)).setLineBit
      (Reg.DSC_OUT_NOW_SAFE_ACTIVE b) l true) t
  let t := if fresh then t else (List.range 8).foldl (fun t l => t.lineRefresh b l) t
  ((List.range 8).filter fun l => s.lineOut b l && !s.latched b l && !(fresh && s.fromCell b l)).foldl
    (fun t l => t.lineFollow b l) t

/-- Lines of a bank whose supply has become invalid read low (R478). -/
def State.bankLow (s : State) (b : Nat) : State := s.setFld (Reg.DSC_LEVEL_RAW b) 0

end Sys2Proof.Machine
end

