-- ==== Sys2Proof/Machine/Serial.lean ====
section
/-!
DEFINITION. Serial lanes (spec/08_serial_and_discrete_units.md, R262 to R289): the receive FIFO, frames, the character
engine, custom framing, RS-485, SPI and SENT. LIN stands in Lin.lean.
-/

namespace Sys2Proof.Machine

abbrev persUart : Nat := 0
abbrev persLinCmd : Nat := 1
abbrev persLinResp : Nat := 2
abbrev persRs485 : Nat := 3
abbrev persSpiCtl : Nat := 4
abbrev persSpiTgt : Nat := 5
abbrev persSent : Nat := 6
abbrev persCustom : Nat := 7

def State.pers (s : State) (n : Nat) : Nat := s.fld (Reg.SLN_MODE_PERS n)
def State.laneRuns (s : State) (n : Nat) : Bool := s.running (Reg.laneUnit n)
/-- One bit time in 2^-16 ns (R265): BAUD_DIV / 16 clocks of 6.25 ns. -/
def State.laneBit16 (s : State) (n : Nat) : Nat := s.fld (Reg.SLN_BAUD_BAUD_DIV n) * 25600
/-- A word of the lane's tables (R264). -/
def State.smWord (s : State) (n k : Nat) : Nat := s.tw 0x03 (Reg.laneUnit n) k 0

/-! ## The receive FIFO (R283 to R287) -/

abbrev itFraming : Nat := 28
abbrev itParity : Nat := 27
abbrev itFirst : Nat := 26
abbrev itLast : Nat := 25
abbrev itBad : Nat := 24
abbrev itBreak : Nat := 29

/-- A receive word without FIRST, LAST and BAD (Table 8.6). -/
def rxWord (framing parity brk : Bool) (data : Nat) : Word :=
  w32 (2 ^ 31 + flagBit brk itBreak + flagBit framing itFraming + flagBit parity itParity + data % mod24)

/-- HIGH and LOW (R287). -/
def State.laneHigh (s : State) (n : Nat) : Nat := orElse (s.fld (Reg.SLN_FLOW_HIGH n)) 448
def State.laneLow (s : State) (n : Nat) : Nat := min (s.fld (Reg.SLN_FLOW_LOW n)) (s.laneHigh n - 1)

/-- GAP in the oldest item. -/
def gapHead : List Word → List Word
  | [] => []
  | w :: ws => (w ||| w32 (2 ^ 30)) :: ws

/-- One item enters the receive FIFO. -/
def State.laneItem (s : State) (n : Nat) (w : Word) : State :=
  let x := s.lane n
  let old := x.rx.length
  let full := decide (512 ≤ old)
  let q := if full then gapHead (x.rx.tail ++ [w]) else x.rx ++ [w]
  let t := s.setLane n { x with
    rx := q, rxAt16 := s.tb.local16, rxNew := if x.rxAt16 = s.tb.local16 then x.rxNew + 1 else 1 }
  let t := if full then t.bump (Reg.SLN_RX_LOST n) else t
  let t := t.setFld (Reg.SLN_RX_DEPTH_PEAK n) (max (s.fld (Reg.SLN_RX_DEPTH_PEAK n)) q.length)
  if s.laneHigh n < q.length ∧ old ≤ s.laneHigh n then
    let t := if s.flag (Reg.SLN_MODE_FLOW_OUT n) then t.setFld (Reg.SLN_STATUS_RTS n) 1 else t
    (t.setFld (Reg.SLN_STATUS_RX_LEVEL_HIT n) 1).postEvent 0x050 (Reg.laneUnit n) (w32 q.length)
  else t

/-- The depth has fallen: RTS_N is driven low again at LOW. -/
def State.laneFell (s : State) (n : Nat) : State :=
  if s.flag (Reg.SLN_MODE_FLOW_OUT n) ∧ (s.lane n).rx.length ≤ s.laneLow n then
    s.setFld (Reg.SLN_STATUS_RTS n) 0
  else s

/-- The items received last, of which the read side may not see some yet (R286). -/
def State.laneLag (s : State) (n : Nat) : Nat := s.fifoLate (s.lane n).rxAt16 (s.lane n).rxNew

/-- The read-side depth (R286). -/
def State.laneDepth (s : State) (n : Nat) : Nat := (s.lane n).rx.length - s.laneLag n

/-- SLN_RX_POP: the word read. -/
def State.laneRxPop (s : State) (n : Nat) : State × Word :=
  let t := s.useFree
  if s.laneDepth n = 0 then (t, 0)
  else
    match (s.lane n).rx with
    | [] => (t, 0)
    | w :: ws =>
      let t := (t.setLane n { s.lane n with rx := ws }).setFld (Reg.SLN_RX_DEPTH_PEAK n)
        (max (s.fld (Reg.SLN_RX_DEPTH_PEAK n)) ws.length)
      (t.laneFell n, w)

/-- RX_FLUSH. -/
def State.laneRxFlush (s : State) (n : Nat) : State := (s.setLane n { s.lane n with rx := [], rxNew := 0 }).laneFell n

/-! ## Frames (R281, R282) -/

/-- A run of receive words as a frame: FIRST, LAST, and BAD on each. -/
def frameWords (ws : List Word) (bad : Bool) : List Word :=
  ws.zipIdx.map fun x =>
    x.1 ||| w32 (flagBit (decide (x.2 = 0)) itFirst + flagBit (decide (x.2 + 1 = ws.length)) itLast + flagBit bad itBad)

/-- The frame's items enter the FIFO. -/
def State.laneItems (s : State) (n : Nat) (ws : List Word) (bad : Bool) : State :=
  (frameWords ws bad).foldl (fun t w => t.laneItem n w) s

/-- The payload of a frame: ⌈WIDTH / 8⌉ bytes an item, low byte first. -/
def State.lanePayload (s : State) (n : Nat) (ws : List Word) : List Byte :=
  (ws.map fun w => leBytes (s.itemBytes n) (w.toNat % mod24)).flatten

/-- A chain with a lane's payload. -/
def State.laneChain (s : State) (n route : Nat) (request : Bool) (payload : List Byte) : State :=
  let u := Reg.laneUnit n
  s.chainInOrder
    { unit := some u, gen := s.genAt (s.lane n).frame16, payload := payload, len := payload.length, time := s.stamp
      phases := s.phaseStamps, spare := bitOf s.spared u, request := request, header16 := (s.lane n).frame16 } route

/-- SLN_CHAINk, if it is enabled. -/
def State.laneChainK (s : State) (n k : Nat) (payload : List Byte) : State :=
  if s.flag (Reg.SLN_CHAIN_CHAIN_EN n k) then s.laneChain n (s.fld (Reg.SLN_CHAIN_ROUTE n k)) false payload else s

/-- A bad frame is counted. -/
def State.laneBad (s : State) (n : Nat) : State :=
  (s.bump (Reg.SLN_BAD_FRAME n)).setFld (Reg.SLN_STATUS_BAD_SEEN n) 1

/-- A frame with BAD set is kept only with KEEP_BAD (R282). -/
def State.laneKeep (s : State) (n : Nat) (ws : List Word) : State :=
  if s.flag (Reg.SLN_MODE_KEEP_BAD n) then s.laneItems n ws true else s

/-- A good frame is released to the FIFO and to a chain. -/
def State.laneRelease (s : State) (n k : Nat) (ws : List Word) (payload : List Byte) : State :=
  ((s.tick (Reg.SLN_RX_FRAMES n)).laneItems n ws false).laneChainK n k payload

/-- MAX_LEN and MIN_LEN; the assembly buffer holds 2,048 bytes. -/
def State.laneMax (s : State) (n : Nat) : Nat := min 2048 (orElse (s.fld (Reg.SLN_FRAME_MAX_LEN n)) 2048)
def State.laneMin (s : State) (n : Nat) : Nat := orElse (s.fld (Reg.SLN_FRAME_MIN_LEN n)) 1

/-- The gathered frame ends as good: it is judged by its length. -/
def State.laneGood (s : State) (n k : Nat) : State :=
  let ws := (s.lane n).buf
  let t := s.setLane n { s.lane n with buf := [] }
  if ws.length * s.itemBytes n < s.laneMin n then
    ((t.bump (Reg.SLN_SHORT n)).setFld (Reg.SLN_STATUS_SHORT_SEEN n) 1).laneKeep n ws
  else t.laneRelease n k ws (s.lanePayload n ws)

/-- The end of a frame on the line: by idle, break or CS_N (R267, R274, R281). -/
def State.laneFrameEnd (s : State) (n : Nat) : State :=
  let x := s.lane n
  let t := if x.hunting then s.setLane n { x with hunting := false, buf := [] }
    else if x.buf = [] then s
    else s.laneGood n 0
  t.frameEnd (Reg.laneUnit n)

/-- An item is appended to the frame; the state after, and whether the frame was abandoned at this item. -/
def State.laneAppend (s : State) (n : Nat) (w : Word) : State × Bool :=
  let x := s.lane n
  if x.hunting then (s, false)
  else if s.laneMax n < (x.buf.length + 1) * s.itemBytes n then
    let t := s.setLane n { x with buf := [], hunting := true }
    let t := (t.bump (Reg.SLN_LONG n)).setFld (Reg.SLN_STATUS_LONG_SEEN n) 1
    (t.laneKeep n x.buf, true)
  else (s.setLane n { x with buf := x.buf ++ [w], frame16 := if x.buf = [] then s.tb.local16 else x.frame16 }, false)

/-- An item of a UART, RS-485 or SPI lane. -/
def State.laneTake (s : State) (n : Nat) (w : Word) : State :=
  if s.flag (Reg.SLN_MODE_FRAMED n) then (s.laneAppend n w).1
  else (s.laneItem n w).frameEnd (Reg.laneUnit n)

/-! ## Custom framing (R277 to R280) -/

def State.smState (s : State) (n : Nat) : Nat := s.fld (Reg.SLN_SM_STATE_STATE n)
def State.smCount (s : State) (n : Nat) : Nat := s.fld (Reg.SLN_SM_STATE_COUNT n)
abbrev evIdle : Nat := 11
abbrev evBreak : Nat := 12
abbrev evCharErr : Nat := 13
abbrev evTimeout : Nat := 14
abbrev evCountDone : Nat := 15

/-- The class of a character: entries 11 to 15 act as 0. -/
def State.smClass (s : State) (n data : Nat) : Nat :=
  let d := data % 256
  let c := bits (s.smWord n (1024 + d / 4)) (8 * (d % 4)) 8
  if 11 ≤ c then 0 else c

/-- Width of the CRC register. -/
def State.smCrcW (s : State) (n : Nat) : Nat :=
  match s.fld (Reg.SLN_CRC_CHK_CRC_W n) with
  | 0 => 0
  | 1 => 8
  | _ => 16

/-- One character feeds the CRC. -/
def State.smCrc (s : State) (n data : Nat) : Nat :=
  let w := s.smCrcW n
  let poly := s.fld (Reg.SLN_CRC_POLY n) % 2 ^ w
  let r := (s.lane n).crc
  if w = 0 then 0
  else if s.flag (Reg.SLN_CRC_CHK_REFLECT n) then crcLsb w poly r [BitVec.ofNat 8 data]
  else crcMsb w poly r [BitVec.ofNat 8 data]

/-- The frame in progress ends bad by its CRC: kept or discarded. -/
def State.smBadFrame (s : State) (n : Nat) : State :=
  let ws := (s.lane n).buf
  ((s.setLane n { s.lane n with buf := [] }).laneBad n).laneKeep n ws

/-- The action of a cell; `data`: bits [7:0] of the character. -/
def State.smAction (s : State) (n act arg data : Nat) : State :=
  let done := fun (t : State) => t.frameEnd (Reg.laneUnit n)
  match act with
  | 0 => s
  | 1 => s.setLane n { s.lane n with crc := s.fld (Reg.SLN_CRC_INIT n) % 2 ^ s.smCrcW n }
  | 2 => s.setFld (Reg.SLN_SM_STATE_COUNT n) ((data % 256 + arg) % 65536)
  | 3 => s.setFld (Reg.SLN_SM_STATE_COUNT n) arg
  | 4 => done (s.laneGood n (arg % 4))
  | 5 =>
    if (s.lane n).crc = s.fld (Reg.SLN_CRC_CHK_RESIDUE n) % 2 ^ s.smCrcW n then done (s.laneGood n (arg % 4))
    else done (s.smBadFrame n)
  | _ => done ((s.setLane n { s.lane n with buf := [] }).laneBad n)

/-- STORE of a cell. -/
def State.smStore (s : State) (n : Nat) (st : Bool) (w : Option Word) : State × Bool :=
  match st, w with
  | true, some w => s.laneAppend n w
  | _, _ => (s, false)

/-- DEC of a cell. -/
def State.smDec (s : State) (n : Nat) (dec : Bool) : State :=
  if dec then
    (if s.smCount n = 0 then (s.setFld (Reg.SLN_SM_STATE_COUNT n) (Config.countUnder s.freeCnt % 65536)).useFree
     else s.setFld (Reg.SLN_SM_STATE_COUNT n) (s.smCount n - 1))
  else s

/-- Event `e` in the current state, with the COUNT_DONE events that follow from it (R278, R279). `w`: the character. -/
def State.smEvent (s : State) (n : Nat) (w : Option Word) : Nat → Nat → State
  | 0, _ => s
  | fuel + 1, e =>
    let cell := s.smWord n (16 * s.smState n + e)
    let act := bits cell 22 4
    let a := s.smStore n (bitOf cell 13) w
    if a.2 then
      -- abandoned: forced to state 0 at once
      let t := a.1.setLane n { a.1.lane n with hunting := false }
      (t.setFld (Reg.SLN_SM_STATE_STATE n) 0).frameEnd (Reg.laneUnit n)
    else
      let t := a.1
      let data := (w.map fun x => x.toNat % 256).getD (Config.noChar t.freeCnt % 256)
      let t := if w.isNone then t.useFree else t
      let t := if bitOf cell 12 && w.isSome then t.setLane n { t.lane n with crc := t.smCrc n data } else t
      let before := t.smCount n
      let t := t.smDec n (bitOf cell 11)
      let decDone := bitOf cell 11 && t.smCount n == 0 && before != 0
      let t := t.smAction n act (bits cell 14 8) data
      let t := t.setFld (Reg.SLN_SM_STATE_STATE n) (bits cell 26 6)
      let setDone := (act == 2 || act == 3) && t.smCount n == 0
      if setDone || decDone then t.smEvent n none fuel evCountDone else t

/-- SM_RESET: the frame in progress is discarded, the state is 0. -/
def State.smReset (s : State) (n : Nat) : State :=
  (s.setLane n { s.lane n with buf := [], hunting := false }).setFld (Reg.SLN_SM_STATE_STATE n) 0

/-! ## Reception by the character engine (R266, R267, R277) -/

/-- The personalities that share the character engine. -/
def charPers (p : Nat) : Bool := p == persUart || p == persRs485 || p == persCustom

/-- RX is discarded: an RS-485 lane drives DE without ECHO (R268). -/
def State.rxDeaf (s : State) (n : Nat) : Bool :=
  s.pers n == persRs485 && (s.lane n).sending && !s.flag (Reg.SLN_MODE_ECHO n)

/-- The lane runs and its inputs show their balls; on an invalid bank they read low (R478). -/
def State.laneSees (s : State) (n : Nat) : Bool := s.laneRuns n && s.pinsSeen (Reg.laneUnit n)

/-- The lane hears characters. -/
def State.hears (s : State) (n : Nat) : Bool := s.laneSees n && charPers (s.pers n) && !s.rxDeaf n

/-- Characters have a parity bit; PARITY 5 to 7 act as 0 (R266). -/
def State.hasParity (s : State) (n : Nat) : Bool :=
  let p := s.fld (Reg.SLN_FMT_PARITY n)
  decide (1 ≤ p) && decide (p ≤ 4)

/-- A character or break has come: the idle time starts anew. -/
def State.markChar (s : State) (n : Nat) : State :=
  (s.setLane n { s.lane n with lastChar16 := some s.tb.local16, idleDone := false, tmo16 := s.tb.local16 }).regionWork
    (Reg.laneUnit n)

/-- CHARACTER_RECEIVED. -/
def State.laneChar (s : State) (n : Nat) (c : SerChar) : State :=
  if s.hears n then
    let data := c.data.toNat % 2 ^ s.laneWidth n
    let parity := c.parity && s.hasParity n
    let w := rxWord c.framing parity false data
    let t := s.markChar n
    let t := if c.framing || parity then t.bump (Reg.SLN_CHAR_ERR n) else t
    if s.pers n = persCustom then
      t.smEvent n (some w) 4096 (if c.framing || parity then evCharErr else s.smClass n data)
    else t.laneTake n w
  else s

/-- BREAK. -/
def State.laneBreak (s : State) (n : Nat) : State :=
  if s.hears n then
    let w := rxWord false false true 0
    let t := s.markChar n
    if s.pers n = persCustom then t.smEvent n (some w) 4096 evBreak
    else if s.flag (Reg.SLN_MODE_FRAMED n) then (t.laneFrameEnd n).laneItem n w
    else t.laneItem n w
  else s

/-- Half bit times from the middle of the first stop bit to the end of the last one. -/
def State.stopHalves (s : State) (n : Nat) : Nat :=
  match s.fld (Reg.SLN_FMT_STOP n) with
  | 1 => 2
  | 2 => 3
  | _ => 1

/-- IDLE: the line has been idle for IDLE_BITS bit times after the last stop bit. -/
def State.laneIdle (s : State) (n : Nat) : State :=
  let x := s.lane n
  match x.lastChar16 with
  | none => s
  | some l =>
    let halves := s.stopHalves n + 2 * orElse (s.fld (Reg.SLN_IDLE_IDLE_BITS n)) 20
    if s.hears n && !x.idleDone && decide (2 * l + halves * s.laneBit16 n ≤ 2 * s.tb.local16) then
      let t := s.setLane n { x with idleDone := true }
      if s.pers n = persCustom then t.smEvent n none 4096 evIdle
      else if s.flag (Reg.SLN_MODE_FRAMED n) then t.laneFrameEnd n
      else t
    else s

/-- TIMEOUT: FRAME_TMO bit times without a character while the state is not 0. -/
def State.laneTimeout (s : State) (n : Nat) : State :=
  let x := s.lane n
  let tmo := s.fld (Reg.SLN_IDLE_FRAME_TMO n)
  if s.hears n && s.pers n == persCustom && tmo != 0 && s.smState n != 0
      && decide (x.tmo16 + tmo * s.laneBit16 n ≤ s.tb.local16) then
    (s.setLane n { x with tmo16 := s.tb.local16 }).smEvent n none 4096 evTimeout
  else s

/-! ## Transmission (R268, R269, R288, R289) -/

/-- SLN_TX_PUSH. -/
def State.laneTxPush (s : State) (n : Nat) (item : Word) : State :=
  let x := s.lane n
  let t := s.useFree
  if s.laneSends n ∧ s.laneTxDepth n < 512 then
    t.setLane n { x with tx := x.tx ++ [item &&& 0x30FFFFFF#32] }
  else (t.bump (Reg.SLN_TX_REFUSED n)).setFld (Reg.SLN_STATUS_TX_FULL_WRITE n) 1

/-- The frame being sent has ended: it is counted, and DE_LAG runs on an RS-485 lane. -/
def State.laneTxEnd (s : State) (n : Nat) : State :=
  let x := s.lane n
  let rs := s.pers n = persRs485
  let t := s.setLane n { x with
    line := none, sending := if rs then x.sending else false, lag16 := if rs then some s.tb.local16 else none }
  (t.tick (Reg.SLN_TX_FRAMES n)).frameEnd (Reg.laneUnit n)

/-- The items of a stopped frame that are still to come are dropped, up to its LAST. -/
def dropFrame : List Word → List Word
  | [] => []
  | w :: ws => if bitOf w.toNat 28 then ws else dropFrame ws

/-- The echo of a sent item differs (R268). -/
def State.echoBad (s : State) (n : Nat) (w : Word) (echo : Option SerChar) : Bool :=
  s.pers n == persRs485 && s.flag (Reg.SLN_MODE_ECHO n) && !bitOf w.toNat 29
    && match echo with
      | some c => c.framing || (c.parity && s.hasParity n)
          || c.data.toNat % 2 ^ s.laneWidth n != w.toNat % 2 ^ s.laneWidth n
      | none => true

/-- CTS_N holds back the transmitter (R269). -/
def State.ctsHolds (s : State) (n : Nat) : Bool :=
  (s.pers n == persUart || s.pers n == persCustom) && s.flag (Reg.SLN_MODE_FLOW_IN n)
    && s.flag (Reg.SLN_STATUS_CTS n)

/-- How long a character lasts on the line, in 2^-16 ns (R266). -/
def State.char16 (s : State) (n : Nat) : Nat :=
  (2 * (1 + s.laneWidth n + if s.hasParity n then 1 else 0) + 1 + s.stopHalves n) * s.laneBit16 n / 2

/-- DE rises DE_LEAD × 100 ns before the start bit of the first item of a frame; the item has just gone out (R268). -/
def State.deRise (s : State) (n : Nat) : State :=
  s.emit (.lineDriver n true (s.tb.local16 - s.char16 n - s.fld (Reg.SLN_DE_DE_LEAD n) * 100 * 65536))

/-- CHARACTER_TRANSMITTED: the next item of the transmit FIFO has gone out. -/
def State.laneSend (s : State) (n : Nat) (echo : Option SerChar) : State :=
  let x := s.lane n
  if s.laneRuns n && charPers (s.pers n) && !s.ctsHolds n then
    match x.tx with
    | [] => s
    | w :: ws =>
      let rs := decide (s.pers n = persRs485)
      let t := if rs && !x.sending then s.deRise n else s
      let t := t.setLane n { x.txTaken s.tb.local16 ws with line := some w, sending := x.sending || rs, lag16 := none }
      let t := t.emit (.serialTx n w)
      if s.echoBad n w echo then
        let t := t.setLane n { t.lane n with
          line := none, lag16 := some s.tb.local16, tx := if bitOf w.toNat 28 then ws else dropFrame ws }
        (t.bump (Reg.SLN_TX_ABORT n)).frameEnd (Reg.laneUnit n)
      else if bitOf w.toNat 28 ∨ ws = [] then t.laneTxEnd n
      else t
  else s

/-- DE_LAG_EXPIRY: DE is driven low. -/
def State.laneDeLag (s : State) (n : Nat) : State :=
  let x := s.lane n
  match x.lag16 with
  | none => s
  | some l =>
    let end16 := l + s.fld (Reg.SLN_DE_DE_LAG n) * 100 * 65536
    if end16 ≤ s.tb.local16 then
      (s.setLane n { x with sending := false, lag16 := none }).emit (.lineDriver n false end16)
    else s

/-- CTS_N changes its level. -/
def State.laneCts (s : State) (n : Nat) (high : Bool) : State :=
  s.setFld (Reg.SLN_STATUS_CTS n) (if high && s.pinsSeen (Reg.laneUnit n) then 1 else 0)

/-! ## SPI (R273, R274) -/

/-- The WIDTH bits of a word in line order, most significant first with MSB_FIRST (R273). -/
def State.spiBits (s : State) (n v : Nat) : List Bool :=
  let bs := (List.range (s.laneWidth n)).map (bitOf v)
  if s.flag (Reg.SLN_FMT_MSB_FIRST n) then bs.reverse else bs

/-- The word that WIDTH bits in line order spell; bit `k` of `rx` is the `k`-th bit on the line. -/
def State.spiValue (s : State) (n rx : Nat) : Nat :=
  let bs := (List.range (s.laneWidth n)).map (bitOf rx)
  natOfBits (if s.flag (Reg.SLN_FMT_MSB_FIRST n) then bs.reverse else bs)

/-- SCK_DIV: even, at least 4 (R273). -/
def State.sckDiv (s : State) (n : Nat) : Nat :=
  let d := s.fld (Reg.SLN_SPI_SCK_DIV n)
  max 4 (d + d % 2)

/-- A word leaves the controller: CS_N falls before the first of a frame and rises after the one marked LAST. -/
def State.spiOut (s : State) (n : Nat) (w : Word) (first : Bool) : State :=
  s.emit (.spiTx n (s.spiBits n w.toNat) (s.sckDiv n) (s.fld (Reg.SLN_FMT_SPI_MODE n))
    (if first then max 1 (s.fld (Reg.SLN_SPI_CS_LEAD n)) else 0)
    (if bitOf w.toNat 28 then max 1 (s.fld (Reg.SLN_SPI_CS_LAG n)) else 0))

/-- A received SPI word. An input on an invalid bank reads low (R478). -/
def State.spiTake (s : State) (n : Nat) (rx : Nat) : State :=
  (s.regionWork (Reg.laneUnit n)).laneTake n
    (rxWord false false false (if s.pinsSeen (Reg.laneUnit n) then s.spiValue n rx else 0))

/-- SPI_WORD: a controller sends one word and receives one; CS_N rises after the word marked LAST. -/
def State.spiWord (s : State) (n : Nat) (rx : Nat) : State :=
  let x := s.lane n
  if s.laneRuns n && s.pers n == persSpiCtl then
    match x.tx with
    | [] => s
    | w :: ws =>
      let t := s.setLane n { x.txTaken s.tb.local16 ws with line := some w, sending := true }
      let t := (t.spiOut n w x.line.isNone).spiTake n rx
      if bitOf w.toNat 28 then (t.laneTxEnd n).laneFrameEnd n else t
  else s

/-- A word starts at a target: the next item of the transmit FIFO, or zeros (R274). A transmit frame is open from its first
item to the one marked LAST. -/
def State.spiTargetStart (s : State) (n : Nat) : State :=
  let x := s.lane n
  match x.tx with
  | [] =>
    ((s.bump (Reg.SLN_UNDERRUN n)).setFld (Reg.SLN_STATUS_UNDERRUN_SEEN n) 1).emit (.spiTx n (s.spiBits n 0) 0 0 0 0)
  | w :: ws =>
    (s.setLane n { x.txTaken s.tb.local16 ws with line := some w }).emit (.spiTx n (s.spiBits n w.toNat) 0 0 0 0)

/-- SPI_TARGET_WORD. -/
def State.spiTarget (s : State) (n : Nat) (rx : Nat) : State :=
  if s.laneSees n && s.pers n == persSpiTgt then
    let last := ((s.lane n).tx.head?).any fun w => bitOf w.toNat 28
    let t := s.spiTargetStart n
    let t := if last then (t.setLane n { t.lane n with line := none }).tick (Reg.SLN_TX_FRAMES n) else t
    t.spiTake n rx
  else s

/-- CS_N_RISE: the target's frame ends. A word that had started is not stored; it has taken its transmit item (R274). -/
def State.csRise (s : State) (n : Nat) (partialWord : Bool) : State :=
  if s.laneSees n && s.pers n == persSpiTgt then
    (if partialWord then (s.spiTargetStart n).bump (Reg.SLN_CHAR_ERR n) else s).laneFrameEnd n
  else s

/-- TX_FLUSH: an open frame ends as if its last item were marked LAST. -/
def State.laneTxFlush (s : State) (n : Nat) : State :=
  let open_ := (s.lane n).line.isSome
  let t := s.setLane n { s.lane n with tx := [] }
  if open_ then
    (if s.pers n = persSpiCtl then (t.laneTxEnd n).laneFrameEnd n else t.laneTxEnd n)
  else t

/-! ## SENT (R275, R276) -/

/-- Four steps of the register of the J2716 CRC. -/
def sentStep (r : Nat) : Nat :=
  (List.range 4).foldl (fun r _ => if bitOf r 3 then (2 * r % 16) ^^^ 0xD else 2 * r % 16) r

/-- The CRC of a run of nibbles, recommended or legacy (PRESUMED, notes/assumptions/24.md). -/
def sentCrc (legacy : Bool) (ns : List Nat) : Nat :=
  let r := ns.foldl (fun r x => sentStep r ^^^ x) 5
  if legacy then r else sentStep r

/-- The CRC-6 of an enhanced serial message over its bits (PRESUMED, notes/assumptions/24.md). -/
def sentCrc6 (bs : List Bool) : Nat :=
  (bs ++ List.replicate 6 false).foldl (fun r b =>
    let x := 2 * r % 64 + (if b then 1 else 0)
    if bitOf r 5 then x ^^^ 0x19 else x) 0x15

/-- A number from its bits, most significant first. -/
def natOfMsb (bs : List Bool) : Nat := natOfBits bs.reverse

/-- A short serial message in the last sixteen status nibbles: bits 3 and 2, oldest first. -/
def shortSerial (legacy : Bool) (l : List (Bool × Bool)) : Option Nat :=
  let l := l.drop (l.length - 16)
  let d := natOfMsb (l.map Prod.snd)
  if l.length = 16 ∧ (l.map Prod.fst) = true :: List.replicate 15 false
      ∧ sentCrc legacy [bits d 12 4, bits d 8 4, bits d 4 4] = d % 16 then
    some (2 ^ 22 + bits d 12 4 * 2 ^ 8 + bits d 4 8)
  else none

/-- An enhanced serial message in the last eighteen status nibbles. -/
def longSerial (l : List (Bool × Bool)) : Option Nat :=
  let l := l.drop (l.length - 18)
  let b3 := l.map Prod.fst
  let b2 := l.map Prod.snd
  let at3 := fun k => b3.getD k false
  let crc := natOfMsb (b2.take 6)
  let data := natOfMsb (b2.drop 6)
  let bitsIn := ((l.drop 6).map fun x => [x.2, x.1]).flatten
  let hi := natOfMsb ((b3.drop 8).take 4)
  let lo := natOfMsb ((b3.drop 13).take 4)
  if l.length = 18 ∧ b3.take 7 = List.replicate 6 true ++ [false] ∧ at3 12 = false ∧ at3 17 = false
      ∧ sentCrc6 bitsIn = crc then
    some (if at3 7 then 3 * 2 ^ 22 + hi * 2 ^ 16 + lo * 2 ^ 12 + data
      else 2 ^ 23 + hi * 2 ^ 16 + lo * 2 ^ 12 + data)
  else none

/-- A serial message that the last status nibble completed: a one-item frame for SLN_CHAIN1. -/
def State.sentSlow (s : State) (n : Nat) (status : Nat) : State :=
  let l := (s.lane n).slow ++ [(bitOf status 3, bitOf status 2)]
  let l := l.drop (l.length - 18)
  match longSerial l, shortSerial (s.flag (Reg.SLN_SENT_CRC_LEGACY n)) l with
  | some d, _ =>
    (s.setLane n { s.lane n with slow := [] }).laneRelease n 1 [rxWord false false false d] (leBytes 3 d)
  | none, some d =>
    (s.setLane n { s.lane n with slow := [] }).laneRelease n 1 [rxWord false false false d] (leBytes 3 d)
  | none, none => s.setLane n { s.lane n with slow := l }

/-- SENT_MESSAGE. -/
def State.sentMessage (s : State) (n : Nat) (m : SentMsg) : State :=
  let tick := clampTo 30 900 (s.fld (Reg.SLN_SENT_TICK n)) * 100
  let k := s.fld (Reg.SLN_SENT_NIBBLES n)
  let nn := if k = 0 ∨ k = 7 then 6 else k
  if s.laneSees n && s.pers n == persSent && decide (3 * tick ≤ 4 * m.tickNs) && decide (4 * m.tickNs ≤ 5 * tick) then
    let s := s.regionWork (Reg.laneUnit n)
    let s := s.setLane n { s.lane n with frame16 := s.tb.local16 }
    let ps := m.pulses.take (nn + 2)
    let inRange := fun p => decide (12 ≤ p) && decide (p ≤ 27)
    let vals := ps.zipIdx.map fun x =>
      if inRange x.1 then x.1 - 12 else Config.badNibble (s.freeCnt + x.2) % 16
    let status := vals.getD 0 0
    let data := (vals.drop 1).take nn
    let d := data.foldl (fun a x => 16 * a + x) 0
    -- a pause pulse follows the CRC nibble exactly if PAUSE = 1 (notes/assumptions/163.md)
    let pause := if s.flag (Reg.SLN_SENT_PAUSE n) then 1 else 0
    let rangeBad := !(decide (m.pulses.length = nn + 2 + pause) && ps.all inRange)
    let ws := [rxWord (!(inRange (ps.getD 0 0))) false false status,
      rxWord (!((ps.drop 1).all inRange)) false false d]
    if rangeBad || sentCrc (s.flag (Reg.SLN_SENT_CRC_LEGACY n)) data != vals.getD (nn + 1) 16 then
      let t := { s with freeCnt := s.freeCnt + 8 }
      let t := t.setLane n { t.lane n with slow := [] }
      ((t.laneBad n).laneKeep n ws).frameEnd (Reg.laneUnit n)
    else
      let t := s.laneRelease n 0 ws (leBytes 1 status ++ leBytes 3 d)
      (if s.flag (Reg.SLN_SENT_SLOW n) then t.sentSlow n status else t).frameEnd (Reg.laneUnit n)
  else s

/-! ## Start and spare (R263, R278, R297) -/

/-- A personality is applied, or a full reload ends: state 0, nothing gathered (R278). -/
def State.laneStart (s : State) (n : Nat) : State :=
  let x := s.lane n
  let t := s.setLane n { x with
    buf := [], hunting := false, lastChar16 := none, idleDone := true, line := none, sending := false, lag16 := none
    lin := none, sched := 0, slot := 0, slotDue16 := none, slow := [] }
  let t := t.setFld (Reg.SLN_SM_STATE_STATE n) 0
  -- RTS_N leaves the safe level (R263) once the depth is not above LOW (R287)
  t.setFld (Reg.SLN_STATUS_RTS n) (if s.flag (Reg.SLN_MODE_FLOW_OUT n) ∧ s.laneLow n < x.rx.length then 1 else 0)

/-- DE falls at once where it is high. -/
def State.deFall (s : State) (n : Nat) : State :=
  if (s.lane n).sending && s.pers n == persRs485 then s.emit (.lineDriver n false s.tb.local16) else s

/-- The lane takes its safe state: RTS_N high, DE low (R263). -/
def State.laneSafe (s : State) (n : Nat) : State :=
  ((s.deFall n).setLane n { s.lane n with sending := false, lag16 := none }).setFld (Reg.SLN_STATUS_RTS n) 1

/-- The spare takes over: the transmit frame in progress is abandoned, be it items of the FIFO or a LIN response (R297). The
switch of the pins, with the safe levels while it lasts, takes no time in the model (notes/assumptions/164.md). -/
def State.laneTakeover (s : State) (n : Nat) : State :=
  let x := s.lane n
  let answering := x.lin.any fun f => f.response.isSome
  if x.line.isSome || answering then
    ((s.deFall n).setLane n { x with
      line := none, sending := false, lag16 := none, tx := if x.line.isSome then dropFrame x.tx else x.tx
      lin := if answering then none else x.lin }).bump (Reg.SLN_TX_ABORT n)
  else s

end Sys2Proof.Machine
end

