-- ==== Sys2Proof/Machine/UnitRun.lean ====
section
/-!
DEFINITION. Starting and stopping units (R85, R89, R231, R265): when a unit runs, what starting and taking the safe
state do to each kind, and taking the work over to a spare and back (R259, R297, R298, R463).
-/

namespace Sys2Proof.Machine

/-! ## Start (R85, R231, R265) -/

/-- The personality of unit `u` is applied: its section 0x02 is in the active tables (R500). -/
def State.hasPers (s : State) (u : Nat) : Bool := s.tw 0x02 u 1 0 == 1

/-- Unit `u` is retired (R460). -/
def State.retired (s : State) (u : Nat) : Bool := s.flag ⟨Reg.HLT_RETIRED (u / 32), u % 32, 1⟩

/-- Unit `u` is under a self-test (its item ID is its number). -/
def State.underTest (s : State) (u : Nat) : Bool := s.hlt.testing.any fun t => t.1 == u

/-- The bit timing of a CAN unit is valid (R231). -/
def State.canTiming (s : State) (n : Nat) : Bool :=
  let nom := (s.fld (Reg.CFD_NBT_NBRP n) + 1)
    * (3 + max 1 (s.fld (Reg.CFD_NBT_NTSEG1 n)) + s.fld (Reg.CFD_NBT_NTSEG2 n))
  let dat := (s.fld (Reg.CFD_DBT_DBRP n) + 1) * (3 + s.fld (Reg.CFD_DBT_DTSEG1 n) + s.fld (Reg.CFD_DBT_DTSEG2 n))
  decide (80 ≤ nom) && decide (10 ≤ dat)

/-- The bit rate of a lane is valid (R265); an SPI controller and a SENT lane do not use BAUD_DIV. -/
def State.laneTiming (s : State) (n : Nat) : Bool :=
  let d := s.fld (Reg.SLN_BAUD_BAUD_DIV n)
  let p := s.pers n
  p == persSpiCtl || p == persSpiTgt || p == persSent || (decide (128 ≤ d) && decide (d ≤ 8533334))

/-- A CAN unit starts: it waits for bus integration (R233). -/
def State.canStartUp (s : State) (n : Nat) : State :=
  if s.canTiming n then
    let t := s.setFld (bstatRun (Reg.canBase n)) 1
    if s.errState n = errBusOff then t else t.setFld (Reg.CFD_ERRC_STATE n) errIntegrating
  else s.setFld (Reg.CFD_FLAGS_TIMING_BAD n) 1

/-- The personality of unit `u` is applied, at boot or by a full reload, whether or not the unit then starts: SEQ of a CAN
unit's receive queue starts at 0 (Table 7.7), a bank starts at its safe values (R296). -/
def State.persApplied (s : State) (u : Nat) : State :=
  match unitKind u with
  | .can n => s.setCan n { s.canU n with rxSeq := 0 }
  | .bank b => s.setBank b { s.bank b with fresh := true }
  | _ => s

/-- Unit `u` tries to start; on a die that is cut off it stays in its safe state until the die resumes (R40, R41). -/
def State.unitStart (s : State) (u : Nat) : State :=
  if !s.hasPers u || s.stopBit u || s.flag (bstatRun (Reg.unitBase u)) || s.dieCut (u / 128)
      || ((s.retired u || s.underTest u) && !bitOf s.spared u) then s
  else
    match unitKind u with
    | .can n => s.canStartUp n
    | .lane n =>
      if s.laneTiming n then (s.setFld (bstatRun (Reg.laneBase n)) 1).laneStart n
      else s.setFld (Reg.SLN_STATUS_TIMING_BAD n) 1
    | .bank b => (s.setFld (bstatRun (Reg.bankBase b)) 1).bankStart b
    | .mac m => s.setFld (bstatRun (Reg.macBase m)) 1

/-! ## Stop -/

/-- What unit `u` does when it takes its safe state (R234, R263, R296, R305, R502). -/
def State.unitSafe (s : State) (u : Nat) : State :=
  match unitKind u with
  | .can n => s.canAbandon n
  | .lane n => s.laneSafe n
  | .bank b => s.bankSafe b
  | .mac m => (s.lineLost m).ingressLost m

/-- Unit `u` stops: the safe state, RUN = 0. -/
def State.unitHalt (s : State) (u : Nat) : State :=
  if s.flag (bstatRun (Reg.unitBase u)) then (s.unitSafe u).setFld (bstatRun (Reg.unitBase u)) 0 else s

/-- Unit `u` stands between frames: nothing is being sent or gathered (R87). -/
def State.unitIdle (s : State) (u : Nat) : Bool :=
  match unitKind u with
  | .can n => (s.canU n).onBus.isNone && !(s.canU n).receiving
  | .lane n => (s.lane n).line.isNone && (s.lane n).buf == [] && (s.lane n).lin.isNone
  | .bank _ => true
  | .mac m => (s.port m).sending.isNone && (s.port m).cut.isNone

/-- UNIT_STOP: a unit whose STR_UNIT_STOP bit is set stops at its frame end (R89). -/
def State.unitStop (s : State) (u : Nat) : State :=
  if s.stopBit u && s.flag (bstatRun (Reg.unitBase u)) && s.unitIdle u then s.unitHalt u else s

/-- A write of a STR_UNIT_STOP register: units whose bit is cleared start again (R89). -/
def State.stopWrite (s : State) (k : Nat) (v : Word) : State :=
  let old := (s.rd (Reg.STR_UNIT_STOP k)).toNat
  let t := s.wr (Reg.STR_UNIT_STOP k) v
  (List.range 32).foldl (fun t j => if bitOf old j && !bitOf v.toNat j then t.unitStart (32 * k + j) else t) t

/-! ## Spare takeover (R259, R297, R298) -/

/-- The spare of its cluster takes over the work of unit `u`. A frame on the bus is one whose end the spare observes: the
next end of frame or error of the unit decides it (R259; notes/assumptions/161.md). -/
def State.unitTakeover (s : State) (u : Nat) : State :=
  let t := { s with spared := setBit s.spared u true }
  match unitKind u with
  | .can n =>
    let x := t.canU n
    let t := t.setCan n { x with boWait := .none, onBus := x.onBus.map fun o => { o with observed := true } }
    let t := (t.setFld (Reg.CFD_ERRC_TEC n) 0).setFld (Reg.CFD_ERRC_REC n) 0
    if t.flag (bstatRun (Reg.unitBase u)) then t.setFld (Reg.CFD_ERRC_STATE n) errActive else t
  | .lane n => t.laneTakeover n
  | _ => t

/-! ## A port die cut off (R40, R41) -/

/-- All running units of port die `d` take their safe states. -/
def State.dieSafe (s : State) (d : Nat) : State :=
  (List.range 128).foldl (fun t k =>
    if t.flag (bstatRun (Reg.unitBase (128 * d + k))) then t.unitSafe (128 * d + k) else t) s

/-- The frames queued to MAC `m` that were waiting to cross the cut links are discarded and counted at the MAC (R41). -/
def State.macDiscard (s : State) (m : Nat) : State :=
  let n := ((List.range 8).map fun q => (s.queue m q).frames.length).sum
  ((List.range 8).foldl (fun t q => t.emptyQueue m q) s).bumpBy (Reg.GWU_TXQ_DROP (Reg.macUnit m)) n

/-- The units of die `d` leave their safe states and resume, as after STR_UNIT_STOP is cleared. -/
def State.dieResume (s : State) (d : Nat) : State :=
  let s := (List.range 8).foldl (fun t k => t.macDiscard (8 * d + k)) s
  (List.range 128).foldl (fun t k =>
    let u := 128 * d + k
    (t.setFld (bstatRun (Reg.unitBase u)) 0).unitStart u) s

end Sys2Proof.Machine
end

