-- ==== Sys2Proof/Machine/Structure.lean ====
section
/-!
DEFINITION. Loading, staging and switching the structure (R55 to R82, R88, R92, Table 2.5): the STR state machine, the
switch of tables at a boundary, full reloads, generations, and the settings store (R59, R60).
-/

namespace Sys2Proof.Machine

abbrev strIdle : Nat := 0
abbrev strLoading : Nat := 1
abbrev strVerifying : Nat := 2
abbrev strStaged : Nat := 3
abbrev strArmed : Nat := 4
abbrev strSwitching : Nat := 5
abbrev strDraining : Nat := 6
abbrev strFailed : Nat := 7

/-- STATE of STR_STATE. -/
def State.strState (s : State) : Nat := s.fld Reg.STR_STATE_STATE
/-- Set STATE. -/
def State.strGo (s : State) (k : Nat) : State := s.setFld Reg.STR_STATE_STATE k

/-- A command that Table 2.5 does not list for the state (R68). -/
def State.strIgnored (s : State) : State := s.setFld Reg.STR_FLAGS_CMD_IGNORED 1

/-- The shadow contents are discarded. SOURCE goes on naming the source of the last load (DESIGN CHOICE,
notes/assumptions/152.md). -/
def State.dropShadow (s : State) : State :=
  { s.setFld Reg.STR_STATE_FULL 0 with
    str := { s.str with bytes := [], sects := [], pushing := false, boot := false, applying := false, forUpdate := false } }

/-- STR enters FAILED with an error. -/
def State.strFail (s : State) (e : Nat) : State :=
  ((s.dropShadow).setFld Reg.STR_STATE_ERR e).strGo strFailed

/-- The flash address of a bank's structure image (Table 2.4). -/
def imgBase (bank : Nat) : Nat := if bank = 0 then 0x100000 else 0xA00000
/-- The flash address of a bank's firmware (Table 2.4). -/
def fwBase (bank : Nat) : Nat := if bank = 0 then 0x0 else 0x900000

/-- A load starts: from bank 0 or 1, or 2 for a push. STR_LOAD_TIME counts from leaving IDLE, also for the other bank at
boot; a load that starts in FAILED counts from its start (DESIGN CHOICE, notes/assumptions/152.md). -/
def State.strStart (s : State) (src : Nat) (boot forUpdate : Bool) : State :=
  let left := if boot && s.strState != strIdle then s.str.leftIdle else s.tb.local16
  let t := { s.dropShadow with
    str := { s.dropShadow.str with pushing := src == 2, boot := boot, forUpdate := forUpdate, leftIdle := left } }
  ((t.setFld Reg.STR_STATE_ERR errNone).setFld Reg.STR_STATE_SOURCE (src + 1)).strGo strLoading

/-- LOAD_A, LOAD_B, PUSH: accepted in IDLE and FAILED. -/
def State.strLoad (s : State) (src : Nat) : State :=
  if s.strState = strIdle ∨ s.strState = strFailed then s.strStart src false false else s.strIgnored

/-! ## Boot and the other bank (R63) -/

/-- The XJG tries the other bank: FALLBACK_BOOT, its firmware if that passes, and its image. -/
def State.bootOther (s : State) (e : Nat) : State :=
  let t := s.setFld Reg.STR_FLAGS_FALLBACK_BOOT 1
  let t := { t with str := { t.str with triedOther := true } }
  match t.str.otherFw with
  | some v =>
    let b := 1 - t.fld Reg.UPD_BANK_RUNNING
    ((t.setFld Reg.UPD_BANK_RUNNING b).wr Reg.UPD_FW_VERSION v).strStart b true false
  | none => t.strFail e

/-- An image fails: at boot the other bank is tried once (R63). -/
def State.imageFails (s : State) (e : Nat) : State :=
  if s.str.boot && !s.str.triedOther then s.bootOther e else s.strFail e

/-- The boot ROM refuses firmware whose signature or header fails, or whose rollback index is below the fuse count
(R433). -/
def State.fwPasses (s : State) (f : FwInfo) : Bool :=
  f.sigOk && decide ((s.rd Reg.UPD_FUSE).toNat % 128 ≤ f.rollback)

/-- BOOT_FIRMWARE_CHECK: the boot ROM checks the firmware of ACTIVE_BANK, and of the other bank if that fails. In option
fail-safe it starts that of bank A, and no image is loaded (R455). -/
def State.bootCheck (s : State) (a b : FwInfo) : State :=
  if s.flag Reg.HLT_RESET_CAUSE_OPT_FAIL then
    let t := s.setFld Reg.UPD_BANK_RUNNING 0
    if s.fwPasses a then t.wr Reg.UPD_FW_VERSION a.version else t
  else if s.strState = strIdle ∧ s.rd Reg.STR_GEN = 0 ∧ !s.dev.held then
    let bank := s.optByte 0x9 % 2
    let mine := if bank = 0 then a else b
    let other := if bank = 0 then b else a
    let t := { s with str := { s.str with
      triedOther := false, otherFw := if s.fwPasses other then some other.version else none } }
    let t := t.setFld Reg.UPD_BANK_RUNNING bank
    if s.fwPasses mine then (t.wr Reg.UPD_FW_VERSION mine.version).strStart bank true false else t.bootOther errNone
  else s

/-! ## The checks on what has been received -/

/-- All bytes are there: the checks of R55, and then STR verifies the signature. FULL says what the shadow memory holds
from here on, not while it fills (DESIGN CHOICE, notes/assumptions/152.md). -/
def State.strReceived (s : State) (inFlash : Bool) : State :=
  let bs := s.str.bytes
  let e := s.imageErr inFlash bs
  if e ≠ errNone then s.imageFails e
  else
    let t := { s with str := { s.str with
      sects := imgSects bs, partialImg := imgPartial bs, version := imgVersion bs, schema := imgSchema bs } }
    (t.setFld Reg.STR_STATE_FULL (if imgPartial bs then 0 else 1)).strGo strVerifying

/-- IMAGE_READ_COMPLETE: the bytes of the bank's image have been read. -/
def State.imageRead (s : State) : State :=
  if s.strState = strLoading ∧ !s.str.pushing then
    let base := imgBase (s.fld Reg.STR_STATE_SOURCE - 1)
    let hdr := s.flashBytes base 0x80
    if lengthOk hdr then
      { s with str := { s.str with bytes := s.flashBytes base (imgLength hdr) } }.strReceived true
    else s.imageFails errLength
  else s

/-- FLASH_READ_ERROR (R67). -/
def State.flashError (s : State) : State :=
  if s.strState = strLoading ∧ !s.str.pushing then s.imageFails errFlash else s

/-- STR_PIECE_DB (R64): one piece of a pushed image. A piece that is wrong in two ways gives the first of: its length,
its offset, LENGTH itself, a piece past LENGTH or short before it, the header (DESIGN CHOICE, notes/assumptions/151.md). -/
def State.strPiece (s : State) : State :=
  if s.strState = strLoading ∧ s.str.pushing then
    let n := s.fld Reg.STR_PIECE_LEN_LEN
    let have_ := s.str.bytes.length
    if n = 0 ∨ 4096 < n then s.strFail errLength
    else if s.fld Reg.STR_PIECE_OFF_OFF ≠ have_ then s.strFail errOrder
    else
      let bs := s.str.bytes ++ s.bytes (Reg.STR_PIECE 0) n
      let t := { s with str := { s.str with bytes := bs } }
      let h := s.headerErr false bs
      if !lengthOk bs ∨ imgLength bs < bs.length ∨ (n < 4096 ∧ bs.length ≠ imgLength bs) then s.strFail errLength
      else if have_ = 0 ∧ h ≠ errNone then s.strFail h
      else if bs.length = imgLength bs then t.strReceived false
      else t
  else s.strIgnored

/-- µs since STR left IDLE. -/
def State.strTimeUs (s : State) : Word := w32 ((s.tb.local16 - s.str.leftIdle) / us16)

/-- SIGNATURE_VERIFIED: the signature has been checked (R54) with the verdict `ok`, and the image is applied at once,
staged, or discarded with SIG. -/
def State.sigVerified (s : State) (ok : Bool) : State :=
  if s.strState = strVerifying ∧ !s.str.applying ∧ s.imgSigOk s.str.bytes = ok then
    if ok then
      if s.rd Reg.STR_GEN = 0 then { s with str := { s.str with applying := true } }
      else (s.wr Reg.STR_LOAD_TIME s.strTimeUs).strGo strStaged
    else s.imageFails errSig
  else s

/-! ## COMMIT and ABORT -/

/-- COMMIT: the boundary is latched; a target that is not later than now is replaced by the next boundary of its
kind (R69, R70). -/
def State.strCommit (s : State) : State :=
  if s.strState = strStaged then
    let kind := s.fld Reg.STR_BOUNDARY_KIND
    let pt := s.fld Reg.STR_BOUNDARY_PT
    let v := (s.rd Reg.STR_BOUNDARY_VAL).toNat
    let late :=
      if kind = 1 then !later 32 v (s.rd Reg.SIG_EPOCH).toNat
      else if kind = 3 then !later 24 (v % mod24) (s.ptPos pt / mod24)
      else false
    let t := { s with str := { s.str with
      kind := if late then kind - 1 else kind, pt := pt, target := if kind = 3 then v % mod24 else v } }
    (if late then t.setFld Reg.STR_FLAGS_LATE_COMMIT 1 else t).strGo strArmed
  else s.strIgnored

/-- ABORT: the shadow contents are discarded; an update that armed them returns to READY (R435), where AUTO_ACT sets the
fall-back up again (R437); its ARM is ignored, since STR stands in FAILED. -/
def State.strAbort (s : State) : State :=
  let st := s.strState
  if st = strLoading ∨ st = strVerifying ∨ st = strStaged ∨ st = strArmed then
    let t := s.strFail errAborted
    let u := s.fld Reg.UPD_STATE_STATE
    if s.str.forUpdate && (u == 5 || u == 6) then
      { (t.setFld Reg.UPD_STATE_STATE 4).setFld Reg.UPD_FLAGS_STR_BUSY 1 with
        upd := { t.upd with fallback := s.flag Reg.UPD_CTRL_AUTO_ACT } }
    else t
  else if st = strFailed then s.strGo strIdle
  else s.strIgnored

/-! ## The settings store (R60) -/

/-- The value that a field holds now. -/
def State.fieldNow (s : State) (r : SetRec) : SetRec :=
  { r with value := getBits (s.rd r.addr) r.lsb (r.msb + 1 - r.lsb) }

/-- SAVE_SETTINGS. -/
def State.saveSettings (s : State) : State :=
  let st := s.strState
  if (st = strIdle ∨ st = strStaged ∨ st = strArmed ∨ st = strDraining ∨ st = strFailed) ∧ s.str.saving = none then
    let seq := match newestStore s.stores with
      | some h => (h.seq + 1) % 2 ^ 32
      | none => 1
    { s with str := { s.str with
      saving := some { seq := seq, schema := (s.rd Reg.STR_ACT_SCHEMA).toNat % 65536
                       fields := s.str.listed.map s.fieldNow } } }
  else s.strIgnored

/-- SAVE_DONE: the half that does not hold the newest store has been written. -/
def State.saveDone (s : State) : State :=
  match s.str.saving with
  | some h =>
    let t := { s with stores := (newestStore s.stores).toList ++ [h], str := { s.str with saving := none } }
    t.setFld Reg.STR_FLAGS_SAVE_DONE 1
  | none => s

/-! ## The switch of tables -/

/-- The cells that a signal map holds. -/
def mapCells (t : Tbl Word) : List Nat :=
  t.filterMap fun kv =>
    let n := kv.1 / 16 % 1048576
    if kv.1 = tkey 0x06 devScope n 0 ∧ bitOf kv.2.toNat 28 then some n else none

/-- The signal map changes (R82, R102): cells that it brings into use take a base version, cells that it removes keep
their versions for the epochs up to the newest committed one. -/
def State.mapSwitch (s : State) (old new : Tbl Word) : State :=
  let was := mapCells old
  let now := mapCells new
  let t := (was.filter fun n => !now.contains n).foldl (fun t n =>
    t.setCell n { t.cell n with removed := some (t.rd Reg.SIG_EPOCH) }) s
  (now.filter fun n => !was.contains n).foldl State.giveBase t

/-- The entries of a section type that an image carries. -/
def entriesOf (xs : List Sect) (code : Nat) : List Nat :=
  (xs.filter fun x => x.code == code).flatMap fun x => (List.range x.count).map fun i => x.first + i

/-- LIMIT and EVENT entries start again: all with a full image, those written with a partial one (R198, R207). -/
def State.routesStart (s : State) (part : Bool) (xs : List Sect) : State :=
  let es := entriesOf xs 0x07
  if part then
    { s with limits := s.limits.filter fun kv => !es.contains kv.1
             evRoutes := s.evRoutes.filter fun kv => !es.contains kv.1 }
  else { s with limits := [], evRoutes := [], pduSeq := [], pdus := s.pdus.map fun kv => (kv.1, { kv.2 with seq := 0 }) }

/-- An action entry takes the content of the image (R80, R180). A sealed release still takes place. -/
def State.actReplace (s : State) (e : Nat) : State :=
  let x := s.act e
  let ws := (List.range 16).map fun k => w32 (s.tw 0x09 devScope e k)
  let t := s.setAct e { words := ws, ghost := s.ghosts x false, await := x.await }
  if actArmAtApply ws && actOk ws then t.armEntry e else t

/-- The action table: the entries of the section, or every entry with a full image (R80). -/
def State.actsSwitch (s : State) (part : Bool) (xs : List Sect) : State :=
  let es := entriesOf xs 0x09
  let all := es ++ (s.acts.map fun kv => kv.1).filter fun e => !es.contains e
  (if part then es else all).foldl State.actReplace s

/-- An invocation of another generation than the present one waits for a recipe whose home is engine `e`. -/
def State.oldInvocs (s : State) (e : Nat) : Bool :=
  (List.range 9).any fun k => (s.engine k).queue.any fun i => i.gen != s.rd Reg.STR_GEN && s.rcEngine i.gen i.recipe == e

/-- The own area of an engine from the recipe section, and its copy in the buddy's memory (R222, R224). -/
def State.loadOwn (s : State) (e : Nat) : State :=
  let base := 0x2000000 + 0x40000 * e
  let shadow := 0x2000000 + 0x40000 * buddy e + 0x1C000
  let clear := fun (m : Tbl Byte) (b : Nat) => m.filter fun kv => !(decide (b ≤ kv.1) && decide (kv.1 < b + 0x1C000))
  let t := { s with mem := clear (clear s.mem base) shadow }
  s.tbl.foldl (fun t kv =>
    let i := kv.1 / 16 % 1048576
    if kv.1 / 16777216 = 0x08 * 65536 + devScope ∧ 1024 + 7168 * e ≤ i ∧ i < 1024 + 7168 * (e + 1) then
      let off := 16 * (i - 1024 - 7168 * e) + 4 * (kv.1 % 16)
      (t.setMemWord (base + off) kv.2).setMemWord (shadow + off) kv.2
    else t) t

/-- The own area of engine `e` is switched: at once, or when the last invocation that started before the switch has
completed under the old generation (R79). -/
def State.switchOwn (s : State) (e : Nat) : State :=
  if s.oldInvocs e then s.setEngine e { s.engine e with ownDue := true }
  else (s.setEngine e { s.engine e with ownDue := false }).loadOwn e

/-- An own area that waits for the old generation to complete. -/
def State.ownSettle (s : State) (e : Nat) : State := if (s.engine e).ownDue then s.switchOwn e else s

/-- An image writes recipes of engine `e`: an entry of its own area, or a directory entry that names it. -/
def State.writesRecipes (s : State) (xs : List Sect) (e : Nat) : Bool :=
  (entriesOf xs 0x08).any fun i =>
    if i < 1024 then s.tw 0x08 devScope i 0 % 8 == e
    else decide (1024 + 7168 * e ≤ i) && decide (i < 1024 + 7168 * (e + 1))

/-- Lists and matrices of the image become pending (R81); `old` is the state before the switch. -/
def State.pendSwitch (s old : State) (xs : List Sect) : State :=
  let t := ((xs.filter fun x => x.code == 0x0A).map fun x => x.scope).foldl (fun t u =>
    match unitKind u with
    | .can n => t.mtxPend n
    | _ => t) s
  let es := entriesOf xs 0x0B
  ((List.range 22).filter fun p => es.any fun i => i / 257 == p).foldl (fun t p => t.listPend old p) t

/-- A region whose step lies below its FLOOR returns to the FLOOR step, once its memories have woken if it was at
step 3 (Table 1.8). -/
def State.floorFollow (s : State) : State :=
  (List.range 8).foldl (fun t r =>
    let f := t.floorStep r
    if f < t.regionStep r then
      if t.regionStep r = 3 then { t with waking := setBit t.waking (8 + r) true }
      else t.setStep r f
    else t) s

/-- What follows from register values that an image has changed: trackers disabled go to SEARCH (R145), PPS_OUT is
armed (R165), banks drive their staging bits (R294), regions keep their FLOOR. -/
def State.afterRegs (s : State) (old : State) : State :=
  let t := (List.range 4).foldl (fun t n => if old.ptOn n && !t.ptOn n then t.ptOff n else t) s
  let t := if t.flag Reg.TMB_CTRL_PPSO_EN && !old.flag Reg.TMB_CTRL_PPSO_EN then t.ppsArm else t
  ((List.range 48).foldl State.bankFollow t).floorFollow

/-- The fields that default-settings records of the active images list (R60). -/
def listedAfter (old : List SetRec) (part : Bool) (rs : List SetRec) : List SetRec :=
  if part then old ++ rs.filter fun r => !old.any fun o => o.addr == r.addr && o.lsb == r.lsb && o.msb == r.msb
  else rs

/-- A partial image gives a unit that is not held stopped a personality: the unit starts (Table 2.8;
notes/assumptions/154.md). -/
def State.persStart (s old : State) (xs : List Sect) : State :=
  (old.newPers xs).foldl (fun t x => (t.persApplied x.scope).unitStart x.scope) s

/-- Registers, tables, map, routes, actions, recipes and pending lists of the shadow image become active; STR_GEN
rises by 1 and STRUCT_COMMIT is posted (R73, R92), to the queues that the new event-routing section names (DESIGN
CHOICE, notes/assumptions/153.md). -/
def State.tableSwitch (s : State) : State :=
  let part := s.str.partialImg
  let xs := s.str.sects
  let gen := s.rd Reg.STR_GEN
  let old := s.tbl
  let t := if part then s.partRegs xs else s.fullRegs s.str.schema xs
  let t := { t with
    tbl := newTables old part xs, tblOld := old
    str := { t.str with switch16 := t.tb.local16, listed := listedAfter t.str.listed part (imgRecs xs) } }
  let t := (t.tick Reg.STR_GEN).wr Reg.STR_GEN_DRAIN gen
  let t := t.wr Reg.STR_COMMIT_EPOCH (t.rd Reg.SIG_EPOCH)
  let t := if part then t.wr Reg.STR_PART_VERSION s.str.version
    else ((t.wr Reg.STR_ACT_VERSION s.str.version).wr Reg.STR_PART_VERSION 0).wr Reg.STR_ACT_SCHEMA (w32 s.str.schema)
  let t := t.mapSwitch old t.tbl
  let t := t.routesStart part xs
  let t := t.actsSwitch part xs
  let t := ((List.range 8).filter fun e => !part || t.writesRecipes xs e).foldl State.switchOwn t
  let t := t.pendSwitch s xs
  let t := t.afterRegs s
  let t := if part then t.persStart s xs else t
  (t.postEvent 0x001 0 (t.rd Reg.STR_GEN)).dropShadow

/-! ## Generations (R74 to R77) -/

/-- A frame that began before the last switch is still being received: the characters of a lane, a LIN frame, or a frame
that a field MAC passes on by cut-through (R74). -/
def State.oldFrames (s : State) : Bool :=
  ((List.range 64).any fun n =>
      ((s.lane n).buf != [] && decide ((s.lane n).frame16 < s.str.switch16))
        || (match (s.lane n).lin with
            | some f => decide (f.at16 < s.str.switch16)
            | none => false))
    || (List.range 24).any fun p => match (s.port p).cut with
        | some c => decide (c.start16 < s.str.switch16)
        | none => false

/-- An item of another generation than `g` is on its way. -/
def State.oldItems (s : State) (g : Gen) : Bool :=
  (s.sig.batches.any fun b => b.gen != g) || (s.sig.second.any fun x => x.1.gen != g)
    || ((List.range 9).any fun e => (s.engine e).queue.any fun i => i.gen != g)
    || (s.holdBuf.any fun e => e.tgen != g) || s.oldFrames

/-- The old entries are reclaimed and STR is IDLE (R76). -/
def State.reclaimOld (s : State) : State :=
  { (s.wr Reg.STR_GEN_DRAIN (s.rd Reg.STR_GEN)).strGo strIdle with tblOld := [] }

/-- A unit may be receiving a frame that began before the switch. -/
def State.anyUnitRuns (s : State) : Bool := (List.range 256).any fun u => s.running u

/-- The switch is complete: DRAINING while items of the old generation, or frames that began before the switch, may
still use it; else IDLE. -/
def State.switchDone (s : State) (frames : Bool) : State :=
  if s.oldItems (s.rd Reg.STR_GEN) || (frames && s.anyUnitRuns) then s.strGo strDraining else s.reclaimOld

/-- DRAIN_COMPLETE: the last item of the old generation has stopped using it. -/
def State.drainComplete (s : State) : State :=
  if s.strState = strDraining ∧ !s.oldItems (s.rd Reg.STR_GEN) then s.reclaimOld else s

/-! ## Applying the first image, and full reloads -/

/-- The device-wide blocks that run while a structure is applied (Table 2.8). -/
def imageBlocks : List Nat :=
  [Reg.SIG_BSTAT, Reg.PHS_BSTAT, Reg.TMB_BSTAT, Reg.ACT_BSTAT, Reg.SWC_BSTAT, Reg.RNG_BSTAT, Reg.CPH_BSTAT, Reg.LBB_BSTAT]

/-- RUN of those blocks. -/
def State.blocksRun (s : State) (on : Bool) : State :=
  imageBlocks.foldl (fun t b => t.setFld (bstatRun b) (if on then 1 else 0)) s

/-- The image gives every unit its personality, and each that has one starts. -/
def State.unitsStart (s : State) : State := (List.range 256).foldl (fun t u => (t.persApplied u).unitStart u) s

/-- The structure is in service: blocks run, units start, FIELD_READY is high (R449). -/
def State.intoService (s : State) : State := { (s.blocksRun true).unitsStart with fieldReady := true }

/-- IMAGE_APPLIED: the first image after reset becomes active. -/
def State.imageApplied (s : State) : State :=
  if s.strState = strVerifying ∧ s.str.applying then
    let t := (s.wr Reg.STR_LOAD_TIME s.strTimeUs).tableSwitch
    t.intoService.reclaimOld
  else s

/-- Pins and ashlars at a full reload (R122). -/
def State.reloadHolders (s : State) : State :=
  (List.range 8).foldl (fun t p =>
    let t := if t.flag (Reg.PSG_PIN_STATUS_PINNED p) then
        (t.setFld (Reg.PSG_PIN_STATUS_PINNED p) 0).setFld (Reg.PSG_PIN_STATUS_PIN_BROKEN p) 1
      else t
    match (t.page p).ashlar with
    | some a => t.endAshlar p a 3
    | none => t) s

/-- A full reload begins at the boundary: units take their safe states, FIELD_READY goes low, everything is switched
(R72). -/
def State.fullReload (s : State) : State :=
  let t := (List.range 256).foldl State.unitHalt s
  let t := { t.blocksRun false with fieldReady := false }
  let t := t.reloadHolders.tableSwitch
  let t := (List.range 64).foldl (fun t n => t.setFld (Reg.SLN_SM_STATE_STATE n) 0) t
  { t with str := { t.str with reloading := true } }

/-- FULL_RELOAD_COMPLETE: the units restart and FIELD_READY returns high. -/
def State.reloadComplete (s : State) : State :=
  if s.strState = strSwitching ∧ s.str.reloading then
    { s.intoService with str := { s.intoService.str with reloading := false } }.switchDone false
  else s

/-- The armed image will perform a full reload (R72): by its contents, or as the image of an update that was found to
need one at READY (R434, R438). -/
def State.willReload (s : State) : Bool :=
  !s.str.partialImg && (s.needsReload s.str.schema s.str.sects || (s.str.forUpdate && s.flag Reg.UPD_STATE_RELOAD_NEEDED))

/-- The boundary is reached: the tables switch, without reload or by a full reload (R72). -/
def State.strSwitch (s : State) : State :=
  let t := s.strGo strSwitching
  if s.willReload then t.fullReload else t.tableSwitch.switchDone true

/-- A commit that makes epoch `e` is the boundary of the armed image (R69). -/
def State.strAtEpoch (s : State) (e : Word) : Bool :=
  s.strState == strArmed && (s.str.kind == 0 || (s.str.kind == 1 && s.str.target == e.toNat))

/-- A course boundary of tracker `n` at which the course count becomes `c` is the boundary (R69). -/
def State.strAtCourse (s : State) (n c : Nat) : Bool :=
  s.strState == strArmed && s.str.pt == n && (s.str.kind == 2 || (s.str.kind == 3 && s.str.target == c % mod24))

end Sys2Proof.Machine
end

