-- ==== Sys2Proof/Machine/Commit.lean ====
section
/-!
DEFINITION. Batches, commits, pins and ashlars as commands (R98 to R130), and what happens at a commit: stale versions,
the switch, staged fields, EVENT entries, ON_HOST packs, ON_COMMIT recipes, returning engines (R112, R200, R206, R220,
R225).
-/

namespace Sys2Proof.Machine

/-! ## Requests and the instant of a commit (R103 to R106) -/

/-- Ten microseconds of the local counter. -/
abbrev spacing16 : Nat := 10 * us16

/-- A commit is served at disciplined time `d16`, in 2^-16 ns, and local instant `l`. -/
def State.serve (s : State) (d16 : Int) (l : Nat) : State :=
  { s with sig := { s.sig with
    served := some (d16 / 65536, l), lastInstant := some l, lastDisc16 := some d16, requests := 0 } }

/-- The instant of the previous commit lies 10 µs back: by disciplined time, so that a timed cadence of 10 µs keeps to
its grid, and across a step of it by the local counter (R106; notes/assumptions/146.md). -/
def State.spaced (s : State) (d16 : Int) (l : Nat) : Bool :=
  match s.sig.lastInstant, s.sig.lastDisc16 with
  | none, _ => true
  | some _, some m => decide (m + (spacing16 : Nat) ≤ d16)
  | some k, none => decide (k + spacing16 ≤ l)

/-- `k` requests are served by a commit that another one has made due: each adds 1 to SIG_MERGED (R106). -/
def State.merged (s : State) (k : Nat) : State :=
  s.wr Reg.SIG_MERGED (satWord ((s.rd Reg.SIG_MERGED).toNat + k))

/-- A commit request at disciplined time `d16` and local instant `l`: served at once with all that are pending, by the
commit of that very instant, or kept until 10 µs after the previous commit (R106; notes/assumptions/147.md). SIG takes
requests while it runs. -/
def State.requestAt (s : State) (d16 : Int) (l : Nat) : State :=
  if !s.flag Reg.SIG_BSTAT_RUN then s
  else if s.sig.served.isSome && s.sig.lastInstant == some l then s.merged 1
  else if s.sig.served.isNone && s.spaced d16 l then
    (if s.sig.requests = 0 then s else s.merged s.sig.requests).serve d16 l
  else { s with sig := { s.sig with requests := s.sig.requests + 1 } }

/-- A commit request now. -/
def State.request (s : State) : State := s.requestAt s.disc16 s.tb.local16

/-- CADENCE_TICK (R104, R105): disciplined time has reached a whole multiple of the period. -/
def State.cadenceTick (s : State) : State :=
  match s.cadencePeriod with
  | none => s
  | some us =>
    let p : Int := us * 1000
    let m := s.disc / p
    let late := s.disc16 - m * p * 65536
    let new := match s.sig.cadLast with
      | some k => decide (k < m * p)
      | none => decide (late < tick16)
    let t := { s with sig := { s.sig with cadLast := some (m * p) } }
    if new && decide (s.sig.cadHold ≤ m * p) then t.requestAt (m * p * 65536) (s.tb.local16 - late.toNat) else t

/-- COMMIT_SERVED (R106): pending requests are served together, 10 µs after the previous commit. -/
def State.commitServed (s : State) : State :=
  if 0 < s.sig.requests ∧ s.sig.served = none ∧ s.spaced s.disc16 s.tb.local16 then
    let t := s.merged (s.sig.requests - 1)
    match s.sig.lastInstant, s.sig.lastDisc16 with
    | some _, some m =>
      let d := m + (spacing16 : Nat)
      t.serve d (s.tb.local16 - (s.disc16 - d).toNat)
    | some k, none => t.serve (s.disc16At (k + spacing16)) (k + spacing16)
    | none, _ => t.serve s.disc16 s.tb.local16
  else s

/-! ## Freshness (R112, R113) -/

/-- The stale version that follows a version (Table 3.2). -/
def State.staleWord (s : State) (n : Nat) (w : DWord) : DWord :=
  if s.map n 0 27 1 = 1 then cellWord (s.cellDefault n) (2 ^ stStale + 2 ^ stSubst) (cwStamp w)
  else cellWord (cwValue w) (setBit (cwStatus w) stStale true) (cwStamp w)

/-- The newest version of cell `n` that the commit under way makes visible. -/
def State.commitVersion (s : State) (n : Nat) : Option Ver :=
  newestOf ((s.cell n).vers.filter fun v => !laterW v.tag s.committing)

/-- Is cell `n` stale at the commit of instant `l` (R112)? A version of the epoch being committed, a rejected one
included, keeps it from being found stale (R113; notes/assumptions/148.md). -/
def State.isStale (s : State) (l n : Nat) : Bool :=
  match s.commitVersion n with
  | none => false
  | some v => s.deadline16 n != 0 && !cwBit v.word stStale && v.tag != s.committing
      && decide (s.deadline16 n < l - (s.cell n).freshAt)

/-- The stale version of a cell is written into the epoch being committed; its age stays. -/
def State.writeStale (s : State) (n : Nat) : State :=
  match s.commitVersion n with
  | none => s
  | some v =>
    let f := (s.cell n).freshAt
    let t := s.writeCell n s.committing (s.staleWord n v.word) false
    t.setCell n { t.cell n with freshAt := f }

/-- All cells that are stale at the commit of instant `l`. -/
def State.staleAll (s : State) (l : Nat) : State := ((mapCells s.tbl).filter (s.isStale l)).foldl State.writeStale s

/-! ## EVENT entries (R206, R207) -/

def State.evRoute (s : State) (r : Nat) : EvRoute := Tbl.get (fun _ => {}) s.evRoutes r
def State.setEvRoute (s : State) (r : Nat) (x : EvRoute) : State :=
  { s with evRoutes := Tbl.set (fun _ => {}) s.evRoutes r x }

/-- VALUE as an EVENT entry compares it. -/
def evValue (signed : Bool) (v : Nat) : Int := if signed then sgn 24 v else (v % mod24 : Nat)

/-- The condition of Table 6.8; `ref` is VALUE and status of the reference, `prev` the previous committed value. -/
def evHolds (cond : Nat) (signed : Bool) (thresh dead mask ref v : Nat) (prev : Option Nat) : Bool :=
  let x := evValue signed (v / 256)
  let th := evValue signed thresh
  match cond with
  | 1 => v / 256 != ref / 256
  | 2 => decide ((dead : Int) ≤ |x - evValue signed (ref / 256)|)
  | 3 => decide (th ≤ x) && (prev.map fun p => decide (evValue signed p < th)).getD false
  | 4 => decide (x < th) && (prev.map fun p => decide (th ≤ evValue signed p)).getD false
  | 5 => ((v % 256) ^^^ (ref % 256)) &&& mask != 0
  | _ => true

/-- One EVENT entry at the commit of epoch `e`. -/
def State.eventEntryAt (s : State) (g : Gen) (e : Word) (r : Nat) : State :=
  let w := s.rtW g r 1
  let n := bits w 0 17
  match (s.cell n).vers.find? (fun v => v.tag == e) with
  | none => s
  | some v =>
    let x := s.evRoute r
    let now := cwValue v.word * 256 + cwStatus v.word
    let prev := ((s.cell n).resolve (e - 1)).map fun u => cwValue u.word
    let ref := x.ref.getD (s.cellDefault n * 256 + 2 ^ stSubst)
    if !s.inUse n || !evHolds (bits w 17 3) (bitOf w 25) (bits (s.rtW g r 2) 0 24) (bits (s.rtW g r 3) 0 24)
        (bits (s.rtW g r 4) 0 8) ref now prev then s
    else
      let inGap := match x.gapEnd with
        | some t => decide (s.tb.local16 < t)
        | none => false
      if inGap then s.setEvRoute r { x with count := min 15 (x.count + 1) }
      else
        let gap := bits (s.rtW g r 5) 0 16
        let t := s.setEvRoute r
          { ref := some now, gapEnd := if gap = 0 then none else some (s.tb.local16 + gap * us16), count := 0 }
        t.postTo (bits w 20 3) (bits w 23 2) (eventEntry 0x080 (r % 2 ^ 15 + x.count * 2 ^ 16) (w32 now))

/-- The entries of the route table of a type. -/
def State.routesOf (s : State) (g : Gen) (ty : Nat) : List Nat :=
  (s.entriesAt g 0x07 devScope 0).filter fun r => s.rtType g r == ty

/-- EVENT_GAP_EXPIRY: the gap of an entry has ended. -/
def State.eventGap (s : State) (r : Nat) : State :=
  let x := s.evRoute r
  match x.gapEnd with
  | some t => if t ≤ s.tb.local16 then s.setEvRoute r { x with gapEnd := none } else s
  | none => s

/-! ## PACK with ON_HOST, recipes with ON_COMMIT, returning engines -/

/-- A format names a cell that the epoch holds a host's version of (R200). -/
def State.hostSetIn (s : State) (g : Gen) (e : Word) (r : Nat) : Bool :=
  (s.fmtAll g (s.rtFormat g r)).any fun d =>
    (s.cell d.cell).vers.any fun v => v.tag == e && cwBit v.word stHostset

/-- PACK entries with ON_HOST (R200). -/
def State.onHostPacks (s : State) (g : Gen) (e : Word) : State :=
  ((s.routesOf g rtPack).filter fun r => bitOf (s.rtW g r 1) 18 && s.hostSetIn g e r).foldl
    (fun t r => t.packEntry g r fun n => (s.readAt n e).1) s

/-- Recipes with ON_COMMIT are queued once; their source event is the commit (R220). -/
def State.onCommitRecipes (s : State) (g : Gen) (e : Word) (time : Word) (phases : List Word) : State :=
  ((List.range 1024).filter fun r => s.rcOnCommit g r).foldl (fun t r =>
    (t.invoke { id := t.nextId, recipe := r, batch := none, cell := 0, w1 := 0, w3 := 0, w4 := e.toNat % mod24
                gen := g, time := time, phases := phases, spare := false }).1) s

/-- The own area of engine `e`, copied back from its buddy's shadow (R225). -/
def State.copyBack (s : State) (e : Nat) : State :=
  let base := 0x2000000 + 0x40000 * e
  let shadow := 0x2000000 + 0x40000 * buddy e + 0x1C000
  let own := s.mem.filter fun kv => decide (shadow ≤ kv.1) && decide (kv.1 < shadow + 0x1C000)
  let m := s.mem.filter fun kv => !(decide (base ≤ kv.1) && decide (kv.1 < base + 0x1C000))
  { s with mem := own.foldl (fun m kv => Tbl.set memDefault m (kv.1 - shadow + base) kv.2) m }

/-- Set ROLE of an engine. -/
def State.setRole (s : State) (e r : Nat) : State := s.setFld ⟨Reg.secBase e, 0, 2⟩ r

/-- An engine that waits for the commit resumes, and its buddy carries its own recipes only (R225). -/
def State.engineReturn (s : State) (e : Nat) : State :=
  if (s.engine e).returning then
    let t := (s.setEngine e { s.engine e with returning := false }).copyBack e
    let t := t.setRole e (if t.engineOut (buddy e) then roleCarrying else roleOwn)
    if t.role (buddy e) = roleCarrying then t.setRole (buddy e) roleOwn else t
  else s

/-! ## Pins (R117 to R122) -/

/-- The page holds a pin on epoch `e`. -/
def State.pin (s : State) (p : Nat) (e : Word) : State :=
  ((s.wr (Reg.PSG_PIN_EPOCH p) e).wr (Reg.SIG_PIN_EPOCH p) e).setFld (Reg.PSG_PIN_STATUS_PINNED p) 1

/-- PIN_NOW. -/
def State.pinNow (s : State) (p : Nat) : State := s.pin p (s.rd Reg.SIG_EPOCH)

/-- PIN_AT. -/
def State.pinAt (s : State) (p : Nat) : State :=
  let e := s.rd (Reg.PSG_PIN_AT p)
  let d := sdiff 32 (s.rd Reg.SIG_EPOCH).toNat e.toNat
  if 0 ≤ d ∧ d ≤ 2 then s.pin p e else s.setFld (Reg.PSG_PIN_STATUS_PIN_REFUSED p) 1

/-- UNPIN. -/
def State.unpin (s : State) (p : Nat) : State := s.setFld (Reg.PSG_PIN_STATUS_PINNED p) 0

/-- The pin of the page has fallen 2^30 commits behind (R120). -/
def State.pinOld (s : State) (p : Nat) : Bool :=
  s.flag (Reg.PSG_PIN_STATUS_PINNED p)
    && decide ((2 : Int) ^ 30 ≤ sdiff 32 (s.rd Reg.SIG_EPOCH).toNat (s.rd (Reg.PSG_PIN_EPOCH p)).toNat)

/-- PIN_EXPIRED. -/
def State.pinExpire (s : State) (p : Nat) : State :=
  if s.pinOld p then
    ((s.setFld (Reg.PSG_PIN_STATUS_PINNED p) 0).setFld (Reg.PSG_PIN_STATUS_PIN_EXPIRED p) 1).setFld
      (Reg.PSG_PIN_STATUS_PIN_BROKEN p) 1
  else s

/-- What a read of the pinned view finds (R118, R121). -/
def State.pinnedRead (s : State) (p n : Nat) : State × DWord :=
  if s.flag (Reg.PSG_PIN_STATUS_PINNED p) then
    let r := s.readAt n (s.rd (Reg.PSG_PIN_EPOCH p))
    (if r.2 then s.setFld (Reg.PSG_PIN_STATUS_EPOCH_LOST p) 1 else s, r.1)
  else (s.setFld (Reg.PSG_PIN_STATUS_NO_PIN_READ p) 1, 0)

/-! ## The commit takes effect (R107, R109) -/

/-- The hold of a commit is recorded. -/
def State.recordHold (s : State) (l : Nat) : State :=
  let ns := satTo 16 ((s.tb.local16 - l) / 65536)
  let t := s.setFld Reg.SIG_COMMIT_HOLD_LAST_NS ns
  t.setFld Reg.SIG_COMMIT_HOLD_PEAK_NS (max ns (s.fld Reg.SIG_COMMIT_HOLD_PEAK_NS))

/-- An ashlar of page `p` that started in the clock of the commit takes the epoch it makes (R123). -/
def State.ashlarTakes (s : State) (e : Word) (p : Nat) : State :=
  match (s.page p).ashlar with
  | some a =>
    if a.since / tick16 = s.tb.local16 / tick16 ∧ a.copied = 0 then
      (s.setPage p { s.page p with ashlar := some { a with epoch := e, commitTime := s.rd Reg.SIG_COMMIT_TIME } }).wr
        (Reg.PSG_ASH_EPOCH p) e
    else s
  | none => s

/-- An image whose boundary is this commit switches at the commit's instant `l` (R77, R180, R183). -/
def State.switchAt (s : State) (l : Nat) : State := s.asOf l State.strSwitch

/-- The epoch rises by 1, the structure switches if this is its boundary, staged fields follow (R77, R88). -/
def State.epochStep (s : State) (d : Int) (l : Nat) : State :=
  let t := s.staleAll l
  let e := t.committing
  let t := (t.wr Reg.SIG_EPOCH e).wr Reg.SIG_COMMIT_TIME (BitVec.ofInt 32 d)
  let t := { t with sig := { t.sig with served := none } }
  let t := t.recordHold l
  let t := (List.range 8).foldl (fun t p => t.ashlarTakes e p) t
  let t := if t.strAtEpoch e then t.switchAt l else t
  t.epochEnd

/-- The bank units with an output that takes its staging bit from a cell (R294). -/
def State.refreshUnits (s : State) : List Nat :=
  ((List.range 48).filter fun b => s.fld (Reg.DSC_OUT_MODE_FROM_CELL b) != 0).map Reg.bankUnit

/-- What follows a commit: events, packs, recipes, engines, staging refreshes, expired pins. -/
def State.afterCommit (s : State) (l : Nat) : State :=
  let e := s.rd Reg.SIG_EPOCH
  let g := s.rd Reg.STR_GEN
  let t := s.postEvent 0x010 0 e
  let t := (t.routesOf g rtEvent).foldl (fun t r => t.eventEntryAt g e r) t
  let t := t.onHostPacks g e
  let t := (List.range 8).foldl State.engineReturn t
  let t := t.onCommitRecipes g e (t.stampAt l) (t.phaseStampsAt l)
  let t := (List.range 8).foldl State.pinExpire t
  { t with sig := { t.sig with refresh := t.refreshUnits } }

/-- EPOCH_COMMIT: the served commit takes effect. -/
def State.epochCommit (s : State) : State :=
  match s.sig.served with
  | none => s
  | some (d, l) => (s.epochStep d l).afterCommit l

/-! ## Batches (R108) -/

/-- Which batches keep their order: those of one page, of one receiving port, of one unit. -/
def srcKey : BatchSrc → Nat × Nat
  | .group p => (0, p)
  | .chain item _ => item.source
  | .other u => match u with
    | some u => (1, u)
    | none => (3, 0)

/-- The writes of a batch with no invocation left to wait for. -/
def batchReady : List BatchItem → Option (List CellWrite)
  | [] => some []
  | .write w :: is => (batchReady is).map fun ws => w :: ws
  | .waits _ _ :: _ => none

/-- The first batch that is ready and has no earlier batch of its source before it. -/
def nextBatch : List (Nat × Nat) → List Batch → Option (Batch × List CellWrite)
  | _, [] => none
  | seen, b :: bs =>
    match seen.contains (srcKey b.src), batchReady b.items with
    | false, some ws => some (b, ws)
    | _, _ => nextBatch (srcKey b.src :: seen) bs

/-- What the writing of a batch leads to: DONE of a write group, the second pass of a chain. -/
def State.batchDone (s : State) : BatchSrc → State
  | .group p => (s.setFld (Reg.PSG_WG_STATUS_BUSY p) 0).setFld (Reg.PSG_WG_STATUS_DONE p) 1
  | .chain item rest => { s with sig := { s.sig with second := s.sig.second ++ [(item, rest)] } }
  | .other _ => s

/-- BATCH_WRITTEN: a batch is written whole into the forming epoch (R108). -/
def State.batchWritten (s : State) : State :=
  match nextBatch [] s.sig.batches with
  | some (b, ws) =>
    let t := match b.src with
      | .group p => s.wr (Reg.PSG_WG_EPOCH p) s.forming
      | _ => s
    let t := t.writeAll ws
    { t with sig := { t.sig with batches := t.sig.batches.filter fun x => x.id != b.id } }.batchDone b.src
  | none => s

/-- BOND_TIMEOUT (R111). -/
def State.bondTimeout (s : State) (b : Nat) : State :=
  match s.sig.bonds.find? (fun x => x.bond == b) with
  | none => s
  | some x =>
    if x.since + orElse (s.fld Reg.SIG_BOND_TMO_TMO_US) 1000 * us16 ≤ s.tb.local16 then
      let t := { s with sig := { s.sig with bonds := s.sig.bonds.filter fun y => y.bond != b } }
      (t.bump Reg.SIG_BOND_DROP).setFld Reg.SIG_FLAGS_BOND_TMO_HIT 1
    else s

/-! ## Host write groups (R127 to R129) -/

/-- Entry `k` of a page's write group as a cell write, stamped at the doorbell. -/
def State.groupWrite (s : State) (p k : Nat) : CellWrite :=
  let n := s.fld (Reg.PSG_WG_CELL_CELL p k)
  ⟨n, .put (cellWord (s.fld (Reg.PSG_WG_VALUE_VALUE p k)) (2 ^ stValid + 2 ^ stHostset)
    (s.stampFor n s.stamp s.phaseStamps))⟩

/-- The doorbell of a page's write group. -/
def State.groupDoorbell (s : State) (p : Nat) : State :=
  let n := s.fld (Reg.PSG_WG_COUNT_COUNT p)
  if s.flag (Reg.PSG_WG_STATUS_BUSY p) then s.setFld (Reg.PSG_WG_STATUS_BUSY_WRITE p) 1
  else if n = 0 ∨ 512 < n then s.setFld (Reg.PSG_WG_STATUS_RANGE p) 1
  else
    let ws := (List.range n).map (s.groupWrite p)
    if ws.all fun w => s.inUse w.cell && s.hostMay p w.cell then
      (s.setFld (Reg.PSG_WG_STATUS_BUSY p) 1).addBatch (.group p) (s.rd Reg.STR_GEN) (ws.map .write)
    else s.setFld (Reg.PSG_WG_STATUS_DENIED p) 1

/-! ## Ashlars -/

/-- ASHLAR_DONE: the last cells have been copied, and the record follows (R124). The ashlar of a page without a path
waits (R375). -/
def State.ashlarDone (s : State) (p : Nat) : State :=
  match (s.page p).ashlar with
  | none => s
  | some a =>
    if s.fld (Reg.PG_PATH_ACTIVE p) = 0 then s
    else
      let t := s.copyCells p a a.copied (a.total - a.copied)
      t.endAshlar p { a with copied := a.total } 0

/-- CANCEL (R126). -/
def State.ashlarCancel (s : State) (p : Nat) : State :=
  match (s.page p).ashlar with
  | none => s
  | some a => s.endAshlar p a 2

/-- A running ashlar copies `k` cells more while its page has a path (R123). -/
def State.ashlarStep (s : State) (p k : Nat) : State :=
  match (s.page p).ashlar with
  | none => s
  | some a =>
    if s.fld (Reg.PG_PATH_ACTIVE p) = 0 then s
    else
      let n := min k (a.total - a.copied)
      let t := s.copyCells p a a.copied n
      t.setPage p { t.page p with ashlar := some { a with copied := a.copied + n } }

end Sys2Proof.Machine
end

