-- ==== Sys2Proof/Machine/Gnoisk.lean ====
section
/-!
DEFINITION. Gnoisk-24, the instruction set of the signal engines (R216, R217, Tables 6.9 to 6.11). The code of a recipe comes
decoded with the command, since the encodings stand in a companion document; everything an instruction does is
computed here. What the spec leaves to that document (operand forms, flags, the words of CLDS and SRC) is
notes/assumptions/60.md.
-/

namespace Sys2Proof.Machine

/-- A cell store of an invocation (CST, or CSTF with `ovr`). -/
structure RecipeStore where
  cell : Fin 131072
  value : Val24
  ovr : Bool
  deriving DecidableEq, Repr

/-- What an invocation has made by its RET: w1, w2 and w3, its cell stores, and its byte stores into the own area and into
scratch (R217, R224). -/
structure RecipeRes where
  w1 : Val24
  w2 : Val24
  w3 : Val24
  stores : List RecipeStore
  own : List (Fin 114688 × Byte)
  scratch : List (Nat × Byte)
  deriving DecidableEq, Repr

/-- An invocation under way: the registers and bytes it has written, newest first, and its flags. -/
structure SeRun where
  regs : List (SeReg × Val24) := []
  lt : Bool
  eq : Bool
  own : List (Fin 114688 × Byte) := []
  scratch : List (Nat × Byte) := []
  stores : List RecipeStore := []
  calls : List Nat := []
  pc : Nat := 0
  deriving DecidableEq, Repr

/-! ## Registers -/

/-- The registers at the start of an invocation (Table 6.10). w0 reads as 0. An ON_COMMIT recipe has no descriptor and no
unpacked value, and the table gives its w1 to w3 no content. -/
def Invoc.startReg (i : Invoc) (r : SeReg) : Val24 :=
  if r = 0 then 0
  else if r = 4 then BitVec.ofNat 24 i.w4
  else if i.batch.isSome ∧ r.val ≤ 3 then BitVec.ofNat 24 (if r = 1 then i.w1 else if r = 2 then i.cell else i.w3)
  else Config.seWord i.id r

/-- A register: what the invocation wrote last, else what it started with. -/
def SeRun.reg (x : SeRun) (i : Invoc) (r : SeReg) : Val24 :=
  match x.regs.find? fun w => w.1 == r with
  | some w => w.2
  | none => i.startReg r

/-- Write a register; w0 ignores writes. -/
def SeRun.setReg (x : SeRun) (r : SeReg) (v : Val24) : SeRun :=
  if r = 0 then x else { x with regs := (r, v) :: x.regs.filter fun w => w.1 != r }

def SeRun.arg (x : SeRun) (i : Invoc) : SeArg → Val24
  | .reg r => x.reg i r
  | .imm v => v

/-! ## Arithmetic, logic, compare -/

/-- A signed result, saturated. -/
def seSat (n : Int) : Val24 := BitVec.ofInt 24 (satSigned 24 n)
/-- An unsigned result, saturated. -/
def seSatU (n : Int) : Val24 := BitVec.ofInt 24 (max 0 (min 0xFFFFFF n))

/-- A two-operand instruction (Table 6.9). A shift by 24 or more moves every bit out. -/
def seBin (op : SeBin) (a b : Val24) : Val24 :=
  match op with
  | .add => seSat (a.toInt + b.toInt)
  | .sub => seSat (a.toInt - b.toInt)
  | .addu => seSatU ((a.toNat : Int) + b.toNat)
  | .subu => seSatU ((a.toNat : Int) - b.toNat)
  | .addw => a + b
  | .subw => a - b
  | .mul => seSat (a.toInt * b.toInt)
  | .and => a &&& b
  | .or => a ||| b
  | .xor => a ^^^ b
  | .shl => a <<< b.toNat
  | .shr => a >>> b.toNat
  | .sar => a.sshiftRight b.toNat
  | .min => if a.toInt ≤ b.toInt then a else b
  | .max => if a.toInt ≤ b.toInt then b else a

def seUn (op : SeUn) (a : Val24) : Val24 :=
  match op with
  | .neg => seSat (-a.toInt)
  | .abs => seSat (if a.toInt < 0 then -a.toInt else a.toInt)
  | .not => ~~~a

/-- The product shifted right by an immediate, then saturated. -/
def seMulsh (a b : Val24) (k : Nat) : Val24 := seSat (a.toInt * b.toInt / (2 ^ k : Nat))

def seCond (c : SeCond) (lt eq : Bool) : Bool :=
  match c with
  | .always => true
  | .eq => eq
  | .ne => !eq
  | .lt => lt
  | .ge => !lt
  | .gt => !lt && !eq
  | .le => lt || eq

/-! ## Local memory (Table 6.11) -/

/-- The 4-byte place that LD and ST name. -/
def seAddr (base off : Val24) : Nat := (base + off).toNat % 0x40000 / 4 * 4

/-- The byte `a` of the own area of engine `home`, as engine `e` sees it: its own memory, or its shadow of its buddy's. -/
def State.seOwn (s : State) (e home a : Nat) : Byte :=
  s.byte (0x2000000 + 0x40000 * e + (if e = home then 0 else 0x1C000) + a)

/-- A byte of local memory: what the invocation stored last, else memory; scratch is not kept between invocations. -/
def State.seByte (s : State) (e : Nat) (i : Invoc) (x : SeRun) (a : Nat) : Byte :=
  if a < 0x1C000 then
    match x.own.find? fun w => w.1.val == a with
    | some w => w.2
    | none => s.seOwn e (s.rcEngine i.gen i.recipe) a
  else
    match x.scratch.find? fun w => w.1 == a with
    | some w => w.2
    | none => Config.seScratch i.id a

/-- LD: a 24-bit word, little-endian. The shadow and the control area are no recipe's to read. -/
def State.seLoad (s : State) (e : Nat) (i : Invoc) (x : SeRun) (a : Nat) : Val24 :=
  if a < 0x1C000 ∨ (0x38000 ≤ a ∧ a < 0x3F000) then
    BitVec.ofNat 24 (leNat ((List.range 3).map fun k => s.seByte e i x (a + k)))
  else Config.seWord i.id (32 + a)

/-- ST: the three bytes of the word; elsewhere than in the own area and in scratch nothing is stored. -/
def SeRun.store (x : SeRun) (a : Nat) (v : Val24) : SeRun :=
  let bs := (leBytes 3 v.toNat).zipIdx
  if a < 0x1C000 then
    { x with own := (bs.filterMap fun b =>
        if h : a + b.2 < 114688 then some (⟨a + b.2, h⟩, b.1) else none).reverse ++ x.own }
  else if 0x38000 ≤ a ∧ a < 0x3F000 then
    { x with scratch := (bs.map fun b => (a + b.2, b.1)).reverse ++ x.scratch }
  else x

/-! ## Cells -/

/-- The newest version of a cell; a cell not in use reads as 0 (R96). -/
def State.newestWord (s : State) (n : Nat) : DWord :=
  if s.inUse n then (newestOf (s.cell n).vers).elim 0 fun v => v.word else 0

/-- A 40-bit quantity as two words: its low 24 bits in `d`, the rest in the next register. -/
def SeRun.setPair (x : SeRun) (d : SeReg) (v : Nat) : SeRun :=
  (x.setReg d (BitVec.ofNat 24 v)).setReg (d + 1) (BitVec.ofNat 24 (v / mod24))

/-- CST and CSTF; a number above 131,071 names no cell. -/
def SeRun.cst (x : SeRun) (n : Nat) (v : Val24) (ovr : Bool) : SeRun :=
  if h : n < 131072 then { x with stores := ⟨⟨n, h⟩, v, ovr⟩ :: x.stores } else x

/-! ## Execution -/

/-- One instruction of invocation `i` on engine `e`; none: the RET that ends it. A RET after a CALL goes on behind the
CALL. -/
def State.seStep (s : State) (e : Nat) (i : Invoc) (x : SeRun) (c : SeInstr) : Option SeRun :=
  let next := { x with pc := x.pc + 1 }
  let g := x.reg i
  let arg := x.arg i
  match c with
  | .bin op d a b => some (next.setReg d (seBin op (g a) (arg b)))
  | .un op d a => some (next.setReg d (seUn op (g a)))
  | .mulsh d a b k => some (next.setReg d (seMulsh (g a) (arg b) k))
  | .btst a b => some { next with eq := !(g a).toNat.testBit (arg b).toNat }
  | .cmp a b => some { next with lt := decide ((g a).toInt < (arg b).toInt), eq := g a == arg b }
  | .cmpu a b => some { next with lt := decide ((g a).toNat < (arg b).toNat), eq := g a == arg b }
  | .branch k t => some (if seCond k x.lt x.eq then { x with pc := t } else next)
  | .call t => some { x with pc := t, calls := (x.pc + 1) :: x.calls }
  | .ret =>
    match x.calls with
    | [] => none
    | r :: rs => some { x with pc := r, calls := rs }
  | .ld d a off => some (next.setReg d (s.seLoad e i x (seAddr (g a) off)))
  | .st v a off => some (next.store (seAddr (g a) off) (g v))
  | .cld d n => some (next.setReg d (BitVec.ofNat 24 (cwValue (s.newestWord (arg n).toNat))))
  | .clds d n => some (next.setPair d ((s.newestWord (arg n).toNat).toNat % 2 ^ 40))
  | .cldc d n => some (next.setReg d (BitVec.ofNat 24 (cwValue (s.live (arg n).toNat))))
  | .cst n v => some (next.cst (arg n).toNat (g v) false)
  | .cstf n v => some (next.cst (arg n).toNat (g v) true)
  | .crv d a c => some (next.setReg d (BitVec.ofNat 24 (s.curve i.gen ((arg c).toNat % 512) (g a).toNat).1))
  | .src d => some (next.setPair d i.time.toNat)

/-- What the invocation has made by its RET. -/
def SeRun.result (x : SeRun) (i : Invoc) : RecipeRes :=
  { w1 := x.reg i 1, w2 := x.reg i 2, w3 := x.reg i 3, stores := x.stores.reverse, own := x.own.reverse
    scratch := x.scratch.reverse }

/-- Run from the present instruction on; none: no RET within the instructions left, or past the end of the code. -/
def State.seRun (s : State) (e : Nat) (i : Invoc) (code : List SeInstr) : Nat → SeRun → Option RecipeRes
  | 0, _ => none
  | n + 1, x =>
    match code[x.pc]? with
    | none => none
    | some c =>
      match s.seStep e i x c with
      | none => some (x.result i)
      | some y => s.seRun e i code n y

/-- BUDGET of a recipe in cycles (Table 6.12). -/
def State.rcBudget (s : State) (g : Gen) (r : Nat) : Nat := orElse (bits (s.rcW g r 2) 0 13) 1024

/-- The invocation run to its RET. An engine issues at most two instructions a cycle, so one that makes twice BUDGET
instructions without a RET is beyond its budget (R216, R218). -/
def State.gnoisk (s : State) (e : Nat) (i : Invoc) (code : List SeInstr) : Option RecipeRes :=
  s.seRun e i code (2 * s.rcBudget i.gen i.recipe) { lt := Config.seFlag i.id 0, eq := Config.seFlag i.id 1 }

end Sys2Proof.Machine
end

