-- ==== Sys2Proof/Machine/Options.lean ====
section
/-!
DEFINITION. The option store (R451 to R455) and the fault log (R467).
-/

namespace Sys2Proof.Machine

/-! ## Option copies (Table 14.4) -/

/-- The bytes of option copy `k`. -/
def State.optCopy (s : State) (k : Nat) : List Byte := Tbl.getList memDefault s.opts (1024 * k) 1024

/-- MAGIC and CRC are correct (R452). -/
def copyValid (bs : List Byte) : Bool :=
  leAt bs 0 4 == 0x504F4A58 && crc32 (bs.take 0x3FC) == leAt bs 0x3FC 4

/-- SEQ of a copy. -/
def copySeq (bs : List Byte) : Nat := leAt bs 4 4

/-- The newest valid copy: the later SEQ, copy 0 if they are equal (R452). -/
def State.newestCopy (s : State) : Option Nat :=
  let a := s.optCopy 0
  let b := s.optCopy 1
  match copyValid a, copyValid b with
  | true, true => some (if later 32 (copySeq b) (copySeq a) then 1 else 0)
  | true, false => some 0
  | false, true => some 1
  | false, false => none

/-- ACTIVE_BANK in the option store (UPD_BANK). -/
def State.activeBank (s : State) : Nat :=
  match s.newestCopy with
  | some k => byteAt (s.optCopy k) 9 % 2
  | none => 0

/-- A copy as the XJG writes it: MAGIC, SEQ and CRC its own, the rest from a buffer (R454). -/
def makeCopy (buf : List Byte) (seq : Nat) : List Byte :=
  let bs := leBytes 4 0x504F4A58 ++ leBytes 4 seq ++ bytesAt buf 8 0x3F4
  bs ++ leBytes 4 (crc32 bs)

/-- The keys of two copies agree: KEY_VALID, KEY_LOCK and KEY0 to KEY3. -/
def keysAgree (a b : List Byte) : Bool :=
  byteAt a 0x24 % 16 == byteAt b 0x24 % 16 && byteAt a 0x25 % 2 == byteAt b 0x25 % 2
    && bytesAt a 0x40 384 == bytesAt b 0x40 384

/-- The copy that a program writes, with its SEQ: not the newest valid one (R454). -/
def State.optTarget (s : State) : Nat × Nat :=
  match s.newestCopy with
  | some k => (1 - k, (copySeq (s.optCopy k) + 1) % 2 ^ 32)
  | none => (0, 1)

/-- The bytes of HLT_OPT_BUF. -/
def State.optBuf (s : State) : List Byte := s.bytes (Reg.HLT_OPT_BUF 0) 1024

/-- KEY_LOCK forbids the buffer. -/
def State.optLocked (s : State) (buf : List Byte) : Bool :=
  match s.newestCopy with
  | some k => byteAt (s.optCopy k) 0x25 % 2 == 1 && !keysAgree (s.optCopy k) buf
  | none => false

/-- OPT_PROGRAM: the program starts; RESULT reads BUSY until it ends. One at a time. -/
def State.optProgram (s : State) : State :=
  if s.hlt.program.isSome then s
  else if s.optLocked s.optBuf then s.setFld Reg.HLT_OPT_STATUS_RESULT 3
  else
    let k := s.optTarget
    { s.setFld Reg.HLT_OPT_STATUS_RESULT 1 with
      hlt := { s.hlt with program := some (k.1, makeCopy s.optBuf k.2, false) } }

/-- The copy is written and read back: RESULT, TARGET and OPT_PROGRAMMED. -/
def State.optWritten (s : State) (k : Nat) (bs : List Byte) (ok : Bool) : State :=
  let new := if ok then bs else (List.range 1024).map fun i => Config.badCopy (1024 * s.freeCnt + i)
  let t := { s with opts := Tbl.setList memDefault s.opts (1024 * k) new }
  let t := (t.setFld Reg.HLT_OPT_STATUS_RESULT (if ok then 0 else 2)).setFld Reg.HLT_OPT_STATUS_TARGET k
  (t.postEvent 0x0E8 k (w32 (copySeq bs))).useFree

/-- OPT_PROGRAM_COMPLETE. -/
def State.optProgrammed (s : State) (ok : Bool) : State :=
  match s.hlt.program with
  | some (k, bs, _) => { s with hlt := { s.hlt with program := none } }.optWritten k bs ok
  | none => s

/-- OPT_READ: a copy goes into HLT_OPT_BUF (R470). -/
def State.optRead (s : State) (k : Nat) : State := s.setBytes (Reg.HLT_OPT_BUF 0) (s.optCopy k)

/-- ACTIVE_BANK is programmed to name `bank`, from the newest valid copy (R432, R440). -/
def State.optSetBank (s : State) (bank : Nat) (ok : Bool) : State :=
  let old := match s.newestCopy with
    | some k => s.optCopy k
    | none => s.bytes (Reg.HLT_OPT_LOADED 0) 1024
  let k := s.optTarget
  s.optWritten k.1 (makeCopy (old.set 9 (BitVec.ofNat 8 (byteAt old 9 / 2 * 2 + bank % 2))) k.2) ok

/-! ## The fault log (Table 14.8) -/

/-- An entry of the fault log. -/
def State.logFault (s : State) (code item detail : Nat) : State :=
  let n := (s.rd Reg.HLT_LOG_SEQ).toNat
  let boots := s.fld Reg.HLT_RESET_CAUSE_BOOTS
  let bs := leBytes 8 (s.tb.local16 / 65536) ++ leBytes 4 (code * 2 ^ 24 + item % 2 ^ 20)
    ++ leBytes 4 (boots * 2 ^ 24 + detail % 2 ^ 24)
  (s.setBytes (Reg.HLT_LOG 0 + 16 * (n % 256)) bs).bump Reg.HLT_LOG_SEQ

/-- The option load at a reset release (R452, R455): the chosen copy becomes the loaded one. -/
def State.optLoad (s : State) : State :=
  let bad := fun (t : State) (k : Nat) =>
    ((t.setFld ⟨Reg.HLT_RESET_CAUSE, 3 + k, 1⟩ 1).logFault 0x0A (0x60000 + k) 0).postEvent 0x0E7 k 0
  match s.newestCopy with
  | some k =>
    let t := (s.setBytes (Reg.HLT_OPT_LOADED 0) (s.optCopy k)).setFld Reg.HLT_RESET_CAUSE_OPT_COPY k
    if copyValid (s.optCopy (1 - k)) then t else bad t (1 - k)
  | none =>
    let t := s.setBytes (Reg.HLT_OPT_LOADED 0) (List.replicate 1024 0)
    let t := ((t.setFld Reg.HLT_RESET_CAUSE_COPY0_BAD 1).setFld Reg.HLT_RESET_CAUSE_COPY1_BAD 1).setFld
      Reg.HLT_RESET_CAUSE_OPT_FAIL 1
    t.logFault 0x0B 0 0

end Sys2Proof.Machine
end

