-- ==== Sys2Proof/Machine/Engine.lean ====
section
/-!
DEFINITION. Signal engines (R217 to R227): invocations and their ends, takeover by the buddy, the load window.
-/

namespace Sys2Proof.Machine

/-- The batches that wait for an invocation take its writes in its place, none if it was not run to its end. -/
def fillItems (id : Nat) (ws : List CellWrite) : List BatchItem → List BatchItem
  | [] => []
  | .waits k c :: is => (if k = id then ws.map .write else [.waits k c]) ++ fillItems id ws is
  | .write w :: is => .write w :: fillItems id ws is

/-- The invocation `id` has ended with these writes. -/
def State.fill (s : State) (id : Nat) (ws : List CellWrite) : State :=
  { s with sig := { s.sig with batches := s.sig.batches.map fun b => { b with items := fillItems id ws b.items } } }

/-- The cells of a frame group so far: written ones, and those of invocations that have not returned. -/
def groupCells (items : List BatchItem) : List Nat :=
  (items.map fun x => match x with
    | .write w => w.cell
    | .waits _ c => c).eraseDups

/-- The stores that a group of cells `cells` still takes, at most 64 cells in all, and how many it does not (R197). -/
def keepStores (cells : List Nat) : List CellWrite → List CellWrite × Nat
  | [] => ([], 0)
  | w :: ws =>
    if cells.contains w.cell then ((w :: (keepStores cells ws).1), (keepStores cells ws).2)
    else if cells.length < 64 then
      let k := keepStores (cells ++ [w.cell]) ws
      (w :: k.1, k.2)
    else
      let k := keepStores cells ws
      (k.1, k.2 + 1)

/-- The engine at which an invocation is at home. -/
def State.homeOf (s : State) (i : Invoc) : Nat := s.rcEngine i.gen i.recipe

/-- Engine `e` runs: it is in service, no handover pauses it (R438), and no returned recipe of it is still with its
buddy (R225). -/
def State.engineRuns (s : State) (e : Nat) : Bool :=
  !s.engineOut e && !s.upd.paused
    && (match (s.engine e).queue with
        | i :: _ => s.homeOf i != e || !((s.engine (buddy e)).queue.any fun j => s.homeOf j == e)
        | [] => false)

/-- The head of an engine's queue is taken. -/
def State.engineTake (s : State) (e : Nat) : State :=
  (s.setEngine e { s.engine e with queue := (s.engine e).queue.tail }).showQueue e

/-- Stores to scratch of engine `e` (Table 6.11). -/
def State.scratchStores (s : State) (e : Nat) (bs : List (Nat × Byte)) : State :=
  bs.foldl (fun t x => t.setByte (0x2000000 + 0x40000 * e + x.1) x.2) s

/-- Stores to an own area: into the home engine's memory while it runs its recipes, and into its buddy's shadow
(R224, R225). -/
def State.ownStores (s : State) (home : Nat) (own : List (Fin 114688 × Byte)) : State :=
  let base := 0x2000000 + 0x40000 * home
  let shadow := 0x2000000 + 0x40000 * buddy home + 0x1C000
  own.foldl (fun t x =>
    let t := t.setByte (shadow + x.1.val) x.2
    if t.engineOut home then t else t.setByte (base + x.1.val) x.2) s

/-- One version that an invocation makes, with the stamps of its source event. -/
def State.recipePut (s : State) (i : Invoc) (n v : Nat) (ovr : Bool) : CellWrite :=
  ⟨n, .put (cellWord v (unpackStatus ovr i.spare) (s.stampFor n i.time i.phases))⟩

/-- The version of the descriptor's cell at RET; none with w2 = 0x7F_FFFF, and none of an ON_COMMIT recipe (R217, R220). -/
def State.descWrite (s : State) (i : Invoc) (res : RecipeRes) : List CellWrite :=
  if i.batch.isSome && res.w2.toNat != 0x7FFFFF then [s.recipePut i i.cell res.w1.toNat (bitOf res.w3.toNat 4)] else []

/-- The stores of CST and CSTF. -/
def State.storeWrites (s : State) (i : Invoc) (res : RecipeRes) : List CellWrite :=
  res.stores.map fun x => s.recipePut i x.cell.val x.value.toNat x.ovr

/-- The frame group that waits for an invocation, with the descriptor's version in its place. -/
def State.groupOf (s : State) (i : Invoc) (desc : List CellWrite) : List BatchItem :=
  match s.sig.batches.find? fun b => some b.id == i.batch with
  | some b => fillItems i.id desc b.items
  | none => []

/-- An invocation that returned with `res` on engine `e`: its stores join its group as far as that takes them (R197), or make
the one batch of an ON_COMMIT recipe (R220). -/
def State.recipeReturn (s : State) (e : Nat) (i : Invoc) (res : RecipeRes) : State :=
  let t := ((s.engineTake e).ownStores (s.homeOf i) res.own).scratchStores e res.scratch
  let desc := s.descWrite i res
  let stores := s.storeWrites i res
  if i.batch.isSome then
    let k := keepStores (groupCells (s.groupOf i desc)) stores
    (t.fill i.id (desc ++ k.1)).bumpBy (Reg.secBase e + 0xC) k.2
  else if stores = [] then t
  else t.addBatch (.other none) i.gen (stores.map .write)

/-- Own areas that waited for the last invocation of the old generation are switched (R79). -/
def State.ownsSettle (s : State) : State := (List.range 8).foldl State.ownSettle s

/-- RECIPE_OVERRUN (R218). -/
def State.recipeOverrun (s : State) (e : Nat) : State :=
  match (s.engine e).queue with
  | [] => s
  | i :: _ =>
    if s.engineRuns e then
      let t := ((s.engineTake e).fill i.id []).bump (Reg.secBase e + 0xC)
      (t.setFld ⟨Reg.secBase e + 0x1C, 0, 10⟩ i.recipe).ownsSettle
    else s

/-- RECIPE_INVOCATION: the oldest invocation of engine `e` runs its code to RET, or beyond its budget. -/
def State.recipeRun (s : State) (e : Nat) (code : List SeInstr) : State :=
  match (s.engine e).queue with
  | [] => s
  | i :: _ =>
    if s.engineRuns e then
      match s.gnoisk e i code with
      | some res => (s.recipeReturn e i res).ownsSettle
      | none => s.recipeOverrun e
    else s

/-! ## Takeover (R223, R224, R227, R465) -/

/-- The invocations in an engine's queue are dropped (R465). -/
def State.dropQueue (s : State) (e : Nat) : State :=
  let q := (s.engine e).queue
  let t := q.foldl (fun t i => (t.fill i.id []).bump (Reg.secBase e + 0x10)) s
  ((t.setEngine e { t.engine e with queue := [] }).showQueue e).ownsSettle

/-- Engine `e` leaves service with ROLE `r`; its buddy carries its recipes, its queue first to last. Without a buddy in
service, the invocations of both are dropped. -/
def State.takeover (s : State) (e r : Nat) : State :=
  let b := buddy e
  let t := s.setEngine e { s.engine e with returning := false }
  if s.engineOut b then (t.dropQueue e).setRole e r
  else
    let q := (s.engine e).queue
    let t := (t.setEngine e { t.engine e with queue := [] }).showQueue e
    let t := (t.setEngine b { t.engine b with queue := (t.engine b).queue ++ q }).showQueue b
    ((t.setRole e r).setRole b roleCarrying).bump (Reg.secBase b + 0x14)

/-- FORCE_TAKEOVER: needs an engine in service whose buddy is in service. -/
def State.forceTakeover (s : State) (e : Nat) : State :=
  if s.engineOut e || s.engineOut (buddy e) then s else s.takeover e roleRetired

/-- HAND_BACK: a RETIRED engine returns at the next commit (R225). -/
def State.secHandBack (s : State) (e : Nat) : State :=
  if s.role e = roleRetired then s.setEngine e { s.engine e with returning := true } else s

/-- LOAD_WINDOW (R226). -/
def State.loadWindow (s : State) (e pct : Nat) : State :=
  let f : Fld := ⟨Reg.secBase e + 4, 8, 8⟩
  let t := (s.setFld ⟨Reg.secBase e + 4, 0, 8⟩ pct).setFld f (max pct (s.fld f))
  if 50 < pct ∧ s.role e = roleOwn then t.setFld ⟨Reg.secBase e, 8, 1⟩ 1 else t

end Sys2Proof.Machine
end

