-- ==== Sys2Proof/Machine/Health.lean ====
section
/-!
DEFINITION. Health (R457 to R466, R469): detected errors, targeted self-tests and their classification, spares, the
replace state.
-/

namespace Sys2Proof.Machine

/-! ## Items (Table 14.6) -/

/-- The 20-bit item ID. -/
def itemId : Item → Nat
  | .unit u => u.val
  | .spare n => 0x10000 + n.val
  | .engine n => 0x20000 + n.val
  | .bank n => 0x30000 + n.val
  | .mortar n => 0x40000 + n.val
  | .lane n => 0x50000 + n.val
  | .optCopy n => 0x60000 + n.val

/-- Fault-log codes (Table 14.8). -/
abbrev fcMemUe : Nat := 0x01
abbrev fcHardCe : Nat := 0x02
abbrev fcLockstep : Nat := 0x03
abbrev fcUnitCheck : Nat := 0x04
abbrev fcLinkDown : Nat := 0x05
abbrev fcLane : Nat := 0x06
abbrev fcTransient : Nat := 0x07
abbrev fcLasting : Nat := 0x08
abbrev fcReplace : Nat := 0x09
abbrev fcReset : Nat := 0x0C

/-! ## Spares (R463) -/

/-- The spare of a unit: SPr.c at 4 r + c; a MAC has none (R22). -/
def spareOf (u : Nat) : Option Nat := match unitKind u with
  | .mac _ => none
  | _ => some (u / 32 * 4 + u % 32 / 8)

/-- STATE of a spare: 0 SHADOW, 1 CARRYING, 2 NONE, 3 SELFTEST. -/
def State.spareState (s : State) (n : Nat) : Nat := s.fld ⟨Reg.HLT_SPARE (n / 4), 8 * (n % 4) + 6, 2⟩
/-- Set STATE and SLOT of a spare. -/
def State.setSpare (s : State) (n st slot : Nat) : State :=
  (s.setFld ⟨Reg.HLT_SPARE (n / 4), 8 * (n % 4) + 6, 2⟩ st).setFld ⟨Reg.HLT_SPARE (n / 4), 8 * (n % 4), 3⟩ slot

/-- A unit's spare shadows and is free. -/
def State.spareFree (s : State) (u : Nat) : Bool := match spareOf u with
  | some n => s.spareState n == 0
  | none => false

/-- The spare takes over unit `u`; SPARE_TAKEOVER is posted. -/
def State.spareTakes (s : State) (u : Nat) (forced : Bool) : State :=
  match spareOf u with
  | some n => ((s.setSpare n 1 (u % 8)).unitTakeover u).postEvent 0x0E1 u (if forced then 1 else 0)
  | none => s

/-- The unit takes its work back; SPARE_HANDBACK is posted. -/
def State.unitReturns (s : State) (u : Nat) : State :=
  match spareOf u with
  | some n =>
    let t := (s.setSpare n 0 0).postEvent 0x0E2 u 0
    { t with spared := setBit t.spared u false, hlt := { t.hlt with toReturn := t.hlt.toReturn.filter fun k => k != u } }
  | none => s

/-- A discrete bank takes its work back at once, another unit at its next frame end. -/
def State.unitReturn (s : State) (u : Nat) : State :=
  match unitKind u with
  | .bank _ => s.unitReturns u
  | _ => { s with hlt := { s.hlt with toReturn := u :: s.hlt.toReturn.filter fun k => k != u } }

/-- SPARE_HANDBACK: the frame end of a unit that waits to take its work back. -/
def State.spareHandback (s : State) (u : Nat) : State :=
  if s.hlt.toReturn.contains u && bitOf s.spared u && s.unitIdle u then s.unitReturns u else s

/-- FORCE_SPARE: unit ITEM moves to its spare without a self-test (R470). -/
def State.forceSpare (s : State) (item : Nat) : State :=
  if item < 256 ∧ s.spareFree item ∧ !bitOf s.spared item then s.spareTakes item true else s

/-- HAND_BACK: a unit that is neither retired nor under test takes its work back (R463). -/
def State.handBack (s : State) (item : Nat) : State :=
  if item < 256 ∧ bitOf s.spared item ∧ !s.retired item ∧ !s.underTest item then s.unitReturn item else s

/-! ## The replace state (R464) -/

/-- Spare `n` is itself retired, or carries a retired unit. -/
def State.noSpare (s : State) (n : Nat) : Bool :=
  s.spareState n == 2 ||
    (s.spareState n == 1 && s.retired (n / 4 * 32 + n % 4 * 8 + s.fld ⟨Reg.HLT_SPARE (n / 4), 8 * (n % 4), 3⟩))

/-- The reasons that hold now. -/
def State.replaceReasons (s : State) : Nat :=
  flagBit ((List.range 32).any s.noSpare) 0 + flagBit (s.hlt.badEngines != 0) 1
    + flagBit (s.hlt.badBanks.any fun b => decide (b < 256)) 2
    + flagBit (s.hlt.badLanes.any fun l => decide (l < 14)) 3
    + flagBit (s.dieCut 0 || s.dieCut 1) 4
    + flagBit (decide (s.fld Reg.HLT_CTRL_LAST_THRESH < (s.rd Reg.HLT_LASTING_CNT).toNat)) 5

/-- The replace state is entered for the reasons in REASON: it is logged and requested once (R464, R467). -/
def State.replaceEnter (s : State) : State :=
  let all := s.fld Reg.HLT_STATUS_REASON
  ((s.setFld Reg.HLT_STATUS_REPLACE 1).logFault fcReplace 0 all).postEvent 0x0E5 0 (w32 all)

/-- The reasons that hold now join those in REASON. -/
def State.takeReasons (s : State) : State :=
  s.setFld Reg.HLT_STATUS_REASON (s.fld Reg.HLT_STATUS_REASON ||| s.replaceReasons)

/-- The replace state is entered, or takes further reasons. It is left only at reset. -/
def State.replaceCheck (s : State) : State :=
  if s.replaceReasons = 0 then s
  else if s.flag Reg.HLT_STATUS_REPLACE then s.takeReasons
  else s.takeReasons.replaceEnter

/-- At a release R464 is evaluated again (R461): the reasons kept over RESET_N stand, with those that hold now
(notes/assumptions/123.md). -/
def State.replaceAgain (s : State) : State :=
  let t := s.takeReasons
  if t.fld Reg.HLT_STATUS_REASON = 0 then t else t.replaceEnter

/-! ## Detected errors and self-tests (R459, R460, R465, R466) -/

/-- A self-test of the item runs for the error of this fault-log code. -/
def State.startTest (s : State) (item code : Nat) : State :=
  { s with hlt := { s.hlt with testing := s.hlt.testing.filter (fun t => t.1 != item) ++ [(item, code)] } }

/-- A detected error of unit `u`: its spare takes over, or it drives its safe state for its self-test; the link of a
MAC goes down. -/
def State.unitError (s : State) (u : Nat) : State :=
  if s.retired u then s
  else
    let t := (s.logFault fcUnitCheck u 0).startTest u fcUnitCheck
    let t := { t with hlt := { t.hlt with toReturn := t.hlt.toReturn.filter fun k => k != u } }
    if bitOf s.spared u then t
    else if s.spareFree u then t.spareTakes u false
    else
      let t := t.unitHalt u
      match unitKind u with
      | .mac m => t.ethLink m false (s.fld (Reg.SWC_P_STATUS_SPEED m)) false
      | _ => t

/-- A detected error of spare `n`: its own self-test. A unit that it carried drives its safe state, unless its test
has passed: then it takes its work back. -/
def State.spareError (s : State) (n : Nat) : State :=
  if s.spareState n = 2 then s
  else
    let item := 0x10000 + n
    let u := n / 4 * 32 + n % 4 * 8 + s.fld ⟨Reg.HLT_SPARE (n / 4), 8 * (n % 4), 3⟩
    let t := s.logFault fcUnitCheck item 0
    let t := if s.spareState n = 1 then
        let t := t.unitReturns u
        if t.retired u || t.underTest u then t.unitHalt u else t
      else t
    (t.setSpare n 3 0).startTest item fcUnitCheck



/-- A detected error of a SerDes lane (R459). Its link goes down with it (`laneLinkDown`). -/
def State.laneError (s : State) (l : Nat) : State := (s.logFault fcLane (0x50000 + l) 0).startTest (0x50000 + l) fcLane

/-- LOCKSTEP_MISMATCH (R223): the buddy carries the engine while it is tested; the ME restarts its firmware (R462). -/
def State.lockstep (s : State) (e : Nat) : State :=
  let item := 0x20000 + e
  if e = 8 then { (s.logFault fcLockstep item 0) with hlt := { s.hlt with meDown := true } }
  else if s.engineOut e then s
  else
    let t := (s.logFault fcLockstep item 0).bump (Reg.secBase e + 8)
    (t.takeover e roleSelftest).startTest item fcLockstep

/-- ME_RESTART_COMPLETE (R462). -/
def State.meRestarted (s : State) : State := { s with hlt := { s.hlt with meDown := false } }

/-- Twenty-four hours of running time, in 2^-16 ns. -/
abbrev day16 : Nat := 86400 * 1000000000 * 65536

/-- The transients of an item within 24 h. -/
def State.transients (s : State) (item : Nat) : Nat :=
  (s.hlt.history.filter fun h => h.1 == item && decide ((s.tb.local16 : Int) < h.2 + day16)).length

/-- TRANSIENT_AGE_EXPIRY: the item's transients older than 24 h leave its history. -/
def State.ageTransients (s : State) (item : Nat) : State :=
  let keep := fun (h : Nat × Int) => h.1 != item || decide ((s.tb.local16 : Int) < h.2 + day16)
  { s with hlt := { s.hlt with history := s.hlt.history.filter keep } }

/-- A mortar link is UP again; a die that was cut off resumes (R41). -/
def State.mortarUp (s : State) (l : Nat) : State :=
  let cut := s.dieCut (l / 2)
  let t := s.setFld ⟨Reg.GEN_MORTAR_STATE, 2 * l, 2⟩ 0
  if cut then t.dieResume (l / 2) else t

/-- A tested item returns to service. -/
def State.itemReturns (s : State) (item : Nat) : State :=
  let n := item % 65536
  match item / 65536 with
  | 0 =>
    if bitOf s.spared n then (if s.flag Reg.HLT_CTRL_HANDBACK_MANUAL then s else s.unitReturn n)
    else s.unitStart n
  | 1 => s.setSpare n 0 0
  | 2 => s.setEngine n { s.engine n with returning := true }
  | 3 => s
  | 4 => s.mortarUp n
  | _ => s

/-- A lasting error retires the item. -/
def State.itemRetires (s : State) (item : Nat) : State :=
  let n := item % 65536
  let t := s.setFld Reg.HLT_STATUS_DEGRADED 1
  match item / 65536 with
  | 0 => t.setFld ⟨Reg.HLT_RETIRED (n / 32), n % 32, 1⟩ 1
  | 1 => { (t.setSpare n 2 0) with hlt := { t.hlt with badSpares := setBit t.hlt.badSpares n true } }
  | 2 => { (t.setRole n roleRetired) with hlt := { t.hlt with badEngines := setBit t.hlt.badEngines n true } }
  | 3 => t
  | 4 => { t with hlt := { t.hlt with badLinks := n :: t.hlt.badLinks.filter fun k => k != n } }
  | 5 => { t with hlt := { t.hlt with badLanes := n :: t.hlt.badLanes.filter fun k => k != n } }
  | _ => t

/-- A lasting error is counted, logged and posted; the item retires and the replace conditions are judged. -/
def State.lasting (s : State) (item code : Nat) : State :=
  let t := (s.bump Reg.HLT_LASTING_CNT).logFault fcLasting item 0
  ((t.postEvent 0x0E4 item (w32 code)).itemRetires item).replaceCheck

/-- The row that was remapped last for a test of its bank serves again after a transient. -/
def State.rowReturns (s : State) (item : Nat) : State :=
  if item / 65536 = 3 then
    { s with hlt := { s.hlt with remapped := s.hlt.remapped.eraseP fun r => r.1 == item % 65536 } }
  else s

/-- SELFTEST_COMPLETE: the error is transient or lasting; a third transient within 24 h is lasting. -/
def State.selftestDone (s : State) (item : Nat) (pass : Bool) : State :=
  match s.hlt.testing.find? (fun t => t.1 == item) with
  | none => s
  | some (_, code) =>
    let t := { s with hlt := { s.hlt with testing := s.hlt.testing.filter fun t => t.1 != item } }
    if pass then
      let n := t.transients item + 1
      let t := { t with hlt := { t.hlt with history := t.hlt.history ++ [(item, (t.tb.local16 : Int))] } }
      if 3 ≤ n then t.lasting item code
      else
        let t := ((t.bump Reg.HLT_TRANSIENT_CNT).logFault fcTransient item n).postEvent 0x0E3 item (w32 n)
        (t.rowReturns item).itemReturns item
    else t.lasting item code

end Sys2Proof.Machine
end

