-- ==== Sys2Proof/Machine/Region.lean ====
section
/-!
DEFINITION. Regions, mortar links and die temperatures (R31 to R44, R51).
-/

namespace Sys2Proof.Machine

/-! ## Region steps (R32 to R34) -/

/-- The unit mask of an entry: its MASK words, or its group as it stands now (R173). -/
def State.actMask (s : State) (ws : List Word) (u : Nat) : Bool :=
  if actUseGroup ws then bitOf (s.rd (Reg.ACT_GROUP (actGroup ws) (u / 32))).toNat (u % 32)
  else bitOf (actW ws (8 + u / 32)) (u % 32)

/-- The action acts on units: SAMPLE, LATCH, SEND_MB, START_MATRIX. -/
def actOnUnits (ws : List Word) : Bool := decide (1 ≤ actCode ws) && decide (actCode ws ≤ 4)

/-- A phase-triggered entry releases less than 10 µs ahead: at the tracker's present rate its crossing comes within
9 µs, and the release 1,000 ns after it (R174; the forecast is DEDUCED, notes/assumptions/141.md). -/
def State.phaseNear (s : State) (ws : List Word) (armPos : Option Nat) : Bool :=
  let n := actPt ws
  let st := s.ptState n
  let hw := (s.tracker n).hw
  let ahead := (s.tracker n).posAt st (s.slewMax n) (s.tb.local16 + 9 * us16)
  (st == ptKeystone || st == ptHoldover) && later 48 ahead hw
    && s.entryCrossed (Span.after { lo := hw, len := wrapTo 48 ((ahead : Int) - hw) } armPos) ws

/-- An entry's release lies less than 10 µs ahead: a sealed instant, a time trigger's due time, or a crossing. -/
def State.releaseNear (s : State) (x : ActEntry) : Bool :=
  match x.relAt with
  | some t => decide (t < s.tb.local16 + 10 * us16)
  | none =>
    if actPhase x.words then s.phaseNear x.words x.armPos else decide (x.due * 65536 < s.disc16 + 10000 * 65536)

/-- The action of these words targets a unit of region `r`. -/
def State.actInRegion (s : State) (ws : List Word) (r : Nat) : Bool :=
  actOnUnits ws && (List.range 32).any fun k => s.actMask ws (32 * r + k)

/-- A region is held at step 0: an armed entry, or a sealed release of an entry that is no longer armed, targets one of
its units and releases within 10 µs (R34, R177). -/
def State.regionHeld (s : State) (r : Nat) : Bool :=
  s.acts.any fun kv =>
    (kv.2.state == actArmed && s.releaseNear kv.2 && s.actInRegion kv.2.words r)
      || kv.2.ghost.any fun g => decide (g.at16 < s.tb.local16 + 10 * us16) && s.actInRegion g.words r

/-- REGION_STEP_DOWN (R32); work that arrives in the same clock of the region abandons it (Table 1.8). -/
def State.stepDown (s : State) (r busyPct : Nat) : State :=
  let k := s.regionStep r
  let hold := orElse (s.fld Reg.GEN_REGION_IDLE_IDLE_HOLD) 100 * us16
  let clock := tick16 * 2 ^ k
  if busyPct < 25 ∧ k < s.floorStep r ∧ s.dev.stepAt16.getD r 0 + hold ≤ s.tb.local16
      ∧ !s.regionHeld r ∧ s.dev.work16.getD r 0 / clock ≠ s.tb.local16 / clock then
    s.setStep r (k + 1)
  else s

/-- REGION_MEMORY_WAKE (R33, Table 1.8): to step 0 for work, to the FLOOR step after a write of FLOOR. -/
def State.memoryWake (s : State) (r : Nat) : State :=
  if s.regionStep r = 3 ∧ (bitOf s.waking r ∨ bitOf s.waking (8 + r)) then
    let t := s.setStep r (if bitOf s.waking r then 0 else s.floorStep r)
    { t with waking := setBit (setBit t.waking r false) (8 + r) false }
  else s

/-- REGION_HOLD (R34): the regions of the units that a release less than 10 µs ahead targets return to step 0; the
release of a phase trigger is the one that the XJG forecasts. -/
def State.regionHold (s : State) (e : Nat) : State :=
  let x := s.act e
  if x.state = actArmed ∧ s.releaseNear x then
    ((List.range 8).filter (s.actInRegion x.words)).foldl (fun t r =>
      if t.regionStep r = 3 then { t with waking := setBit t.waking r true }
      else if t.regionStep r = 0 then t
      else t.setStep r 0) s
  else s

/-! ## Mortar links (R37 to R41, R51) -/

/-- CODEWORD_RECEIVED (R37): a corrected codeword counts for its link and in HLT_CE_CNT (R456;
notes/assumptions/130.md); an uncorrectable codeword is replayed and the replay counted; after eight failed replays
the link goes DOWN instead (R38). -/
def State.codeword (s : State) (l : Nat) (c : Codeword) : State :=
  if s.linkState l = 2 then s
  else
    let bad := fun (t : State) (k : Nat) => { t with dev := { t.dev with replays := t.dev.replays.set l k } }
    match c with
    | .clean => bad s 0
    | .corrected => bad ((s.bump (Reg.GEN_ML_CORR l)).bump Reg.HLT_CE_CNT) 0
    | .uncorrectable =>
      let k := s.dev.replays.getD l 0
      bad (if k < 8 then s.bump (Reg.GEN_ML_REPLAY l) else s) (k + 1)

/-- Ten milliseconds of the local counter. -/
abbrev retrain10ms : Nat := 10000 * us16

/-- A retraining period of link `l` begins (R39). -/
def State.retrainMark (s : State) (l : Nat) : State :=
  { s with dev := { s.dev with retrain16 := s.dev.retrain16.set l s.tb.local16 } }

/-- A batch that comes from a unit of port die `d`. -/
def batchOfDie (d : Nat) (b : Batch) : Bool := match b.src with
  | .chain item _ => (item.unit.map fun u => u / 128 == d).getD false
  | .other u => (u.map fun u => u / 128 == d).getD false
  | .group _ => false

/-- Items of die `d` that were waiting to cross the cut links are discarded, with their invocations (R41;
notes/assumptions/142.md). -/
def State.dieDiscard (s : State) (d : Nat) : State :=
  let gone := (s.sig.batches.filter (batchOfDie d)).map fun b => b.id
  let t := { s with sig := { s.sig with batches := s.sig.batches.filter fun b => !batchOfDie d b } }
  (List.range 8).foldl (fun t e =>
    let lost := fun (i : Invoc) => (i.batch.map fun b => gone.contains b).getD false
    if (t.engine e).queue.any lost then
      (t.setEngine e { t.engine e with queue := (t.engine e).queue.filter fun i => !lost i }).showQueue e
    else t) t

/-- The trigger messages on their way to die `d` wait for the failover to its other link (R38, R176): those of sealed
and of dispatched releases. -/
def State.holdMessages (s : State) (d : Nat) : State :=
  let late := fun (l : List Nat) => if l.contains d then l else d :: l
  { s with acts := s.acts.map fun kv =>
      let x := kv.2
      (kv.1, { x with
        ghost := x.ghost.map fun g => { g with held := late g.held }
        held := if x.state = actArmed ∧ x.dispatched then late x.held else x.held }) }

/-- LINK_DOWN: eight replays of one codeword have failed (R38). With both links of a die DOWN its units take their safe
states, and the replace condition holds (R40). -/
def State.linkDown (s : State) (l : Nat) : State :=
  if s.linkState l ≠ 2 ∧ 9 ≤ s.dev.replays.getD l 0 then
    let t := s.setFld ⟨Reg.GEN_MORTAR_STATE, 2 * l, 2⟩ 2
    let t := { t with dev := { t.dev with replays := t.dev.replays.set l 0 } }
    let t := ((t.logFault fcLinkDown (0x40000 + l) 0).retrainMark l).holdMessages (l / 2)
    if t.dieCut (l / 2) then ((t.dieSafe (l / 2)).dieDiscard (l / 2)).replaceCheck else t
  else s

/-- LINK_RETRAIN (R39): 10 ms after it went DOWN or was last retrained, a DOWN link that trains is tested; one with a
lasting fault stays DOWN. -/
def State.linkRetrain (s : State) (l : Nat) (trains : Bool) : State :=
  if s.linkState l = 2 ∧ s.dev.retrain16.getD l 0 + retrain10ms ≤ s.tb.local16 then
    let t := s.retrainMark l
    if trains ∧ !s.hlt.badLinks.contains l then t.startTest (0x40000 + l) fcLinkDown else t
  else s

/-- MORTAR_LINK_UP: the initial training ends (R51). -/
def State.linkUp (s : State) (l : Nat) : State :=
  if s.linkState l = 1 then s.setFld ⟨Reg.GEN_MORTAR_STATE, 2 * l, 2⟩ 0 else s

/-! ## Die temperatures (R42, R43) -/

/-- The temperature of die `k` is measured. -/
def State.dieTemp (s : State) (k temp : Nat) : State :=
  let a := Reg.GEN_TEMP_CORE + 4 * k
  let warn := sgn 16 (s.fld Reg.GEN_TEMP_WARN_WARN)
  let old := sgn 16 (s.rd a).toNat
  let new := sgn 16 temp
  let t := s.wr a (w32 (temp % 65536))
  let mark := fun (t : State) (b : Bool) => { t with dev := { t.dev with hot := setBit t.dev.hot k b } }
  if warn < new then
    let t := if !bitOf s.dev.hot k || decide (old ≤ warn) then t.setFld ⟨Reg.GEN_TEMP_FLAGS, k, 1⟩ 1 else t
    if bitOf s.dev.hot k then t else mark (t.postEvent 0x0E0 k (w32 (temp % 65536))) true
  else if new ≤ warn - 32 then mark t false
  else t

/-- TEMP_MEASURE: every 1 ms, first 1 ms after reset (R42, Table 1.11). -/
def State.tempMeasure (s : State) (core pd0 pd1 : Nat) : State :=
  if s.dev.temp16 + 1000 * us16 ≤ s.tb.local16 then
    (({ s with dev := { s.dev with temp16 := s.tb.local16 } }.dieTemp 0 core).dieTemp 1 pd0).dieTemp 2 pd1
  else s

end Sys2Proof.Machine
end

