-- ==== Sys2Proof/Machine/Update.lean ====
section
/-!
DEFINITION. Field update (R425 to R443): bundle pieces, verification, staging, arming, handover, CONFIRM and ABORT.
-/

namespace Sys2Proof.Machine

abbrev updIdle : Nat := 0
abbrev updReceiving : Nat := 1
abbrev updVerifying : Nat := 2
abbrev updStaging : Nat := 3
abbrev updReady : Nat := 4
abbrev updArming : Nat := 5
abbrev updArmed : Nat := 6
abbrev updTrial : Nat := 7
abbrev updFailed : Nat := 8

abbrev updManifest : Nat := 1
abbrev updHwtype : Nat := 2
abbrev updSig : Nat := 3
abbrev updRollback : Nat := 4
abbrev updHash : Nat := 5
abbrev updImage : Nat := 6
abbrev updFirmware : Nat := 7
abbrev updFlash : Nat := 8
abbrev updBusy : Nat := 9
abbrev updNoManifest : Nat := 10
abbrev updRange : Nat := 11
abbrev updAborted : Nat := 12

/-- STATE of UPD_STATE. -/
def State.updState (s : State) : Nat := s.fld Reg.UPD_STATE_STATE
/-- Set STATE. -/
def State.updGo (s : State) (k : Nat) : State := s.setFld Reg.UPD_STATE_STATE k
/-- A command that Table 13.2 does not list for the state. -/
def State.updIgnored (s : State) : State := s.setFld Reg.UPD_FLAGS_CMD_IGNORED 1
/-- RESULT of the last piece. -/
def State.updResult (s : State) (k : Nat) : State := s.setFld Reg.UPD_PIECE_STATUS_RESULT k
/-- A piece is refused with an error. -/
def State.updRefuse (s : State) (e : Nat) : State := (s.updResult 4).setFld Reg.UPD_STATE_ERR e

/-- The update fails: ERR, ERR_DETAIL and UPD_FAIL. -/
def State.updFail (s : State) (e detail : Nat) : State :=
  let t := (s.setFld Reg.UPD_STATE_ERR e).setFld Reg.UPD_STATE_ERR_DETAIL detail
  (t.updGo updFailed).postEvent 0x0C2 0 (w32 (e + 256 * detail))

/-! ## The bundle in flash (Table 13.1, R429) -/

/-- The flash address of the bundle's bytes. -/
abbrev bundleBase : Nat := 0x1401000
/-- Bytes of the stored bundle. -/
def State.bundle (s : State) (off n : Nat) : List Byte := s.flashBytes (bundleBase + off) n
/-- The stored manifest. -/
def State.manifest (s : State) : List Byte := s.bundle 0 4096

def mfLength (m : List Byte) : Nat := leAt m 0x10 4
def mfFwOff (m : List Byte) : Nat := leAt m 0x14 4
def mfFwLen (m : List Byte) : Nat := leAt m 0x18 4
def mfImgOff (m : List Byte) : Nat := leAt m 0x1C 4
def mfImgLen (m : List Byte) : Nat := leAt m 0x20 4
def mfRollback (m : List Byte) : Nat := byteAt m 0x28
def mfKey (m : List Byte) : Nat := byteAt m 0x29

/-- MAGIC, VER, offsets and lengths are as Table 13.1 requires. -/
def mfOk (m : List Byte) : Bool :=
  leAt m 0 4 == 0x42554A58 && leAt m 4 2 == 1 && mfFwOff m == 0x1000 && decide (1 ≤ mfFwLen m)
    && decide (mfFwLen m ≤ 0x100000) && mfImgOff m == ceilDiv (0x1000 + mfFwLen m) 4096 * 4096
    && decide (mfImgLen m ≤ 0x800000) && decide (mfLength m ≤ 0x901000)
    && decide (mfImgOff m + mfImgLen m ≤ mfLength m) && decide (mfRollback m < 128)

/-- The error of a manifest, 0 for none (R428). -/
def State.mfErr (s : State) (m : List Byte) : Nat :=
  if !mfOk m then updManifest
  else if leAt m 8 4 ≠ (s.rd Reg.GEN_HWTYPE).toNat then updHwtype
  else if !(s.verKeyHeld (mfKey m) && signedBy (s.verKey (mfKey m)) (m.take 0xFA0) ((m.drop 0xFA0).take 96)) then updSig
  else if mfRollback m < s.fld Reg.UPD_FUSE_COUNT then updRollback
  else 0

/-- A transfer is open: an update record stands. -/
def State.updOpen (s : State) : Bool := decide (updReceiving ≤ s.updState) && decide (s.updState ≤ updTrial)

/-! ## Pieces (R426 to R430) -/

/-- The CMAC that a piece must carry (R427). -/
def State.pieceMac (s : State) (id idx : Nat) (data : List Byte) : List Byte :=
  cmac (s.slot (s.fld Reg.UPD_CTRL_SLOT)).key (beBytes 4 id ++ beBytes 4 idx ++ data)

/-- The CMAC the owner wrote. -/
def State.givenMac (s : State) : List Byte :=
  (List.range 4).flatMap fun k => leBytes 4 (s.rd (Reg.UPD_PIECE_MAC k)).toNat

/-- A piece is taken to be stored. -/
def State.pieceTake (s : State) (idx : Nat) (data : List Byte) : State :=
  { s.updResult 1 with upd := { s.upd with storing := some (idx, data) } }

/-- A bit that is already clear: the piece is accepted without a flash write (R430). -/
def State.pieceDup (s : State) : State := (s.bump Reg.UPD_PIECE_DUP).updResult 5

/-- Piece 0 with a good CMAC: the manifest (R428). -/
def State.pieceZero (s : State) (data : List Byte) : State :=
  let id := leAt data 0xC 4
  if s.updOpen then
    if id ≠ (s.rd Reg.UPD_BUNDLE_ID).toNat then s.updRefuse updBusy
    else if s.upd.stored.contains 0 then s.pieceDup
    else s.pieceTake 0 data
  else
    let e := s.mfErr data
    if e ≠ 0 then s.updRefuse e
    else
      let t := { s with upd := { s.upd with stored := [], fallback := false } }
      let t := ((t.wr Reg.UPD_STATE 0).updGo updReceiving).wr Reg.UPD_BUNDLE_ID (w32 id)
      let t := (t.setFld Reg.UPD_PIECES_STORED 0).setFld Reg.UPD_PIECES_TOTAL (ceilDiv (mfLength data) 4096)
      let t := (t.wr Reg.UPD_NEW_FW_VERSION (w32 (leAt data 0x24 4))).wr Reg.UPD_NEW_IMG_VERSION (w32 (leAt data 0x2C 4))
      let t := (t.setFld Reg.UPD_NEW_INFO_ROLLBACK (mfRollback data)).setFld Reg.UPD_NEW_INFO_SCHEMA (leAt data 0x2A 2)
      t.pieceTake 0 data

/-- Another piece of the open bundle with a good CMAC. -/
def State.pieceOther (s : State) (idx : Nat) (data : List Byte) : State :=
  let total := s.fld Reg.UPD_PIECES_TOTAL
  if total ≤ idx ∨ (data.length < 4096 ∧ idx + 1 ≠ total) then s.updRefuse updRange
  else if s.upd.stored.contains idx then s.pieceDup
  else s.pieceTake idx data

/-- UPD_PIECE_DB. Until a manifest has been accepted there is no BUNDLE_ID to check another piece's CMAC with: it is
refused with NO_MANIFEST (DEDUCED, notes/assumptions/120.md). -/
def State.updPiece (s : State) : State :=
  let n := s.fld Reg.UPD_PIECE_LEN_LEN
  let idx := s.fld Reg.UPD_PIECE_IDX_IDX
  if s.fld Reg.UPD_PIECE_STATUS_RESULT = 1 then s.setFld Reg.UPD_FLAGS_DB_IGNORED 1
  else if s.slotState (s.fld Reg.UPD_CTRL_SLOT) ≠ keyValid then (s.bump Reg.UPD_PIECE_BAD).updResult 3
  else if n = 0 ∨ 4096 < n ∨ (idx = 0 ∧ n < 4096) then s.updRefuse updRange
  else if idx ≠ 0 ∧ s.updOpen = false then s.updRefuse updNoManifest
  else
    let data := s.bytes (Reg.UPD_PIECE 0) n
    let id := if idx = 0 then leAt data 0xC 4 else (s.rd Reg.UPD_BUNDLE_ID).toNat
    if s.pieceMac id idx data ≠ s.givenMac then (s.bump Reg.UPD_PIECE_BAD).updResult 2
    else if idx = 0 then s.pieceZero data
    else s.pieceOther idx data

/-- PIECE_STORED: the piece is programmed and read back, and its bit is cleared (R429). The transfer pauses while the
management engine restarts (R462). -/
def State.pieceStored (s : State) : State :=
  match s.upd.storing with
  | none => s
  | some (i, data) =>
    if s.hlt.meDown then s
    else
      let t := s.setFlash (bundleBase + 4096 * i) (data ++ List.replicate (4096 - data.length) 0xFF)
      let stored := i :: t.upd.stored
      let t := { t with upd := { t.upd with storing := none, stored := stored } }
      let t := (t.updResult 0).setFld Reg.UPD_PIECES_STORED stored.length
      if stored.length = t.fld Reg.UPD_PIECES_TOTAL then
        (t.updGo updVerifying).postEvent 0x0C0 0 (t.rd Reg.UPD_BUNDLE_ID)
      else t

/-! ## Verification and staging (R432) -/

/-- The bank that is not running. -/
def State.otherBank (s : State) : Nat := 1 - s.fld Reg.UPD_BANK_RUNNING

/-- The image of the stored bundle. -/
def State.bundleImage (s : State) : List Byte := s.bundle (mfImgOff s.manifest) (mfImgLen s.manifest)

/-- The STR error of the bundle's image, checked as at boot. -/
def State.bundleImageErr (s : State) : Nat :=
  let bs := s.bundleImage
  let e := s.imageErr true bs
  if imgLength bs ≠ mfImgLen s.manifest then errLength
  else if e ≠ errNone then e
  else if s.imgSigOk bs then errNone else errSig

/-- FW_HASH agrees with the stored firmware (R432). -/
def State.fwHashOk (s : State) : Bool :=
  let m := s.manifest
  sha384 (s.bundle (mfFwOff m) (mfFwLen m)) == (m.drop 0x30).take 48
/-- IMG_HASH agrees with the stored image (R432). -/
def State.imgHashOk (s : State) : Bool := sha384 s.bundleImage == (s.manifest.drop 0x60).take 48
/-- Both agree. -/
def State.hashesOk (s : State) : Bool := s.fwHashOk && s.imgHashOk

/-- A flash bank is erased. -/
def State.eraseBank (s : State) (bank : Nat) : State :=
  let lo := fwBase bank
  { s with flash := s.flash.filter fun kv => !(decide (lo ≤ kv.1) && decide (kv.1 < lo + 0x900000)) }

/-- BUNDLE_VERIFY_COMPLETE: the checks of R432. What the boot ROM's check finds of the firmware is an operand, since the
spec gives the firmware no layout. -/
def State.bundleVerified (s : State) (fwHash imgHash imgSig fwOk : Bool) (fwRollback : Nat) (optOk : Bool) : State :=
  if s.updState = updVerifying ∧ s.fwHashOk = fwHash ∧ s.imgHashOk = imgHash ∧ s.imgSigOk s.bundleImage = imgSig then
    let e := s.bundleImageErr
    if !(fwHash && imgHash) then s.updFail updHash 0
    else if e = errHwtype then s.updFail updHwtype 0
    else if e ≠ errNone then s.updFail updImage e
    else if !fwOk then s.updFail updFirmware 0
    else if fwRollback ≠ mfRollback s.manifest then s.updFail updRollback 0
    else
      let run := s.fld Reg.UPD_BANK_RUNNING
      let t := if run ≠ s.activeBank then s.optSetBank run optOk else s
      if run ≠ s.activeBank ∧ !optOk then t.updFail updFlash 0
      else (t.eraseBank t.otherBank).updGo updStaging
  else s

/-- ARM (R435). -/
def State.updArm (s : State) : State :=
  if s.updState = updReady then
    if s.strState = strIdle then (s.updGo updArming).strStart s.otherBank false true
    else s.setFld Reg.UPD_FLAGS_STR_BUSY 1
  else s.updIgnored

/-- STAGING_COMPLETE: the copy has been read back. -/
def State.stagingDone (s : State) (ok : Bool) : State :=
  if s.updState = updStaging then
    if ok then
      let m := s.manifest
      let t := s.setFlash (fwBase s.otherBank) (s.bundle (mfFwOff m) (mfFwLen m))
      let t := t.setFlash (imgBase s.otherBank) s.bundleImage
      let reload := t.needsReload (imgSchema t.bundleImage) (imgSects t.bundleImage)
      let t := (t.setFld Reg.UPD_STATE_RELOAD_NEEDED (if reload then 1 else 0)).updGo updReady
      let t := t.postEvent 0x0C1 0 (if reload then 1 else 0)
      if t.flag Reg.UPD_CTRL_AUTO_ACT then { t.updArm with upd := { t.updArm.upd with fallback := true } } else t
    else s.updFail updFlash 0
  else s

/-! ## Arming and handover (R435 to R439) -/

/-- ARMING_COMPLETE: image and firmware are loaded. -/
def State.armingDone (s : State) : State :=
  if s.updState = updArming ∧ s.strState = strStaged ∧ s.str.forUpdate then
    (s.updGo updArmed).postEvent 0x0C3 0 (s.rd Reg.UPD_BUNDLE_ID)
  else s

/-- ACTIVATE: the fall-back handover is set up (R437). -/
def State.updActivate (s : State) : State :=
  if s.updState = updArmed ∨ s.updState = updArming then { s with upd := { s.upd with fallback := true } }
  else s.updIgnored

/-- The handover of instant `t16` (R438): the tables switch, the engines pause, the update is on TRIAL. -/
def State.handover (s : State) (t16 : Nat) : State :=
  let t := if s.str.forUpdate && (s.strState == strStaged || s.strState == strArmed) then
      s.strSwitch
    else s
  let t := { t with upd := { t.upd with fallback := false, paused := true } }
  let t := (t.setFld Reg.UPD_BANK_RUNNING s.otherBank).wr Reg.UPD_FW_VERSION (s.rd Reg.UPD_NEW_FW_VERSION)
  ((t.wr Reg.UPD_ACT_TIME (s.stampAt t16)).updGo updTrial).postEvent 0x0C4 0 (t.rd Reg.STR_GEN)

/-- An on-time ACTIVATE_UPDATE release (R436, R437). -/
def State.updRelease (s : State) (param t16 : Nat) : State :=
  if s.updState = updArmed ∧ param = (s.rd Reg.UPD_BUNDLE_ID).toNat then s.handover t16 else s.updLate param

/-- A course boundary of tracker `n` is the fall-back handover (R437). -/
def State.fallbackAt (s : State) (n : Nat) : Bool :=
  s.upd.fallback && s.updState == updArmed && s.fld Reg.UPD_CTRL_FB_PT == n

/-- HANDOVER_RESUME: the engines run on. -/
def State.handoverResume (s : State) : State := { s with upd := { s.upd with paused := false } }

/-! ## CONFIRM, ABORT, the archive (R440 to R442) -/

/-- The update record is erased. -/
def State.eraseRecord (s : State) : State :=
  let t := { s with upd := { s.upd with stored := [], storing := none, fallback := false } }
  (t.wr Reg.UPD_BUNDLE_ID 0).wr Reg.UPD_PIECES 0

/-- Step 3 of CONFIRM: a store of another schema is archived and rewritten with the new defaults. -/
def State.archiveStore (s : State) : State :=
  match newestStore s.stores with
  | none => s
  | some h =>
    let schema := s.fld Reg.UPD_NEW_INFO_SCHEMA
    if h.schema = schema then s
    else
      let t := { s with
        archive := some h
        stores := [h, { seq := (h.seq + 1) % 2 ^ 32, schema := schema, fields := s.str.listed }] }
      let t := (t.setFld Reg.UPD_ARCH_VALID 1).setFld Reg.UPD_ARCH_SCHEMA h.schema
      (t.setFld Reg.UPD_FLAGS_ARCH_WRITTEN 1).postEvent 0x0C7 0 (w32 h.schema)

/-- CONFIRM (R440). -/
def State.updConfirm (s : State) (optOk : Bool) : State :=
  if s.updState = updTrial then
    let t := s.optSetBank (s.fld Reg.UPD_BANK_RUNNING) optOk
    if !optOk then t
    else
      let t := t.setFld Reg.UPD_FUSE_COUNT (max (t.fld Reg.UPD_FUSE_COUNT) (t.fld Reg.UPD_NEW_INFO_ROLLBACK))
      let t := t.postEvent 0x0C6 0 (w32 (t.fld Reg.UPD_FUSE_COUNT))
      (t.archiveStore.eraseRecord).updGo updIdle
  else s.updIgnored

/-- ABORT (Table 13.2). A piece that is being programmed is refused with it (DESIGN CHOICE, notes/assumptions/174.md). -/
def State.updAbort (s : State) : State :=
  let st := s.updState
  if updReceiving ≤ st ∧ st ≤ updArmed then
    let t := if s.upd.storing.isSome then s.updResult 4 else s
    { t.eraseRecord.updFail updAborted 0 with str := { s.str with forUpdate := false } }
  else if st = updFailed then s.eraseRecord.updGo updIdle
  else s.updIgnored

/-- ARCH_CLEAR (R441). -/
def State.archClear (s : State) : State :=
  { (s.setFld Reg.UPD_ARCH_VALID 0).setFld Reg.UPD_ARCH_SCHEMA 0 with archive := none }

/-- The update state after a reset (R431, R439, Table 13.2). -/
def State.updReset (s : State) : State :=
  let st := s.updState
  let t := { s with upd := { s.upd with storing := none, fallback := false, paused := false } }
  if st = updTrial then (t.updGo updReady).setFld Reg.UPD_FLAGS_TRIAL_RESET 1
  else if st = updArming ∨ st = updArmed then t.updGo updReady
  else t

end Sys2Proof.Machine
end

