-- ==== Sys2Proof/Machine/Release.lean ====
section
/-!
DEFINITION. Releases of scheduled actions (R172 to R178, R182) and the forward crossings of phase trackers (R105, R147,
R150): what releases at an instant, and what a crossing starts.
-/

namespace Sys2Proof.Machine

/-! ## What a release does (Table 5.3) -/

/-- The units that an entry targets on port die `d`. -/
def State.dieTargets (s : State) (ws : List Word) (d : Nat) : List Nat :=
  if actOnUnits ws then ((List.range 128).map fun k => 128 * d + k).filter (s.actMask ws) else []

/-- One target unit acts at local instant `t16` (R172); a unit of another kind, or stopped, ignores the action. -/
def State.unitActs (s : State) (ws : List Word) (t16 u : Nat) : State :=
  if !s.takesWork u then s
  else
    match actCode ws, unitKind u with
    | 1, .bank b => s.bankSample b t16
    | 2, .bank b => s.bankLatch b
    | 3, .can n => (s.mtxClose n).mbRequest n (actParam ws % 64)
    | 4, .can n => s.mtxAction n (actParam ws % 64) t16
    | _, _ => s

/-- The units of port die `d` act. -/
def State.dieActs (s : State) (ws : List Word) (t16 d : Nat) : State :=
  (s.dieTargets ws d).foldl (fun t u => t.unitActs ws t16 u) s

/-- The targets that are not units act at the release instant itself (R175). -/
def State.coreActs (s : State) (ws : List Word) (t16 : Nat) (late : Bool) : State :=
  let p := actParam ws
  match actCode ws with
  | 5 => ((List.range 22).filter fun k => bitOf p k).foldl (fun t k => t.listSwitch k (bitOf p 31) t16) s
  | 6 => s.requestAt (s.disc16At t16) t16
  | 7 => ((List.range 8).filter fun k => bitOf p k).foldl State.startAshlar s
  | 8 => if late then s else s.updRelease p t16
  | _ => s

/-- The targets of a release of entry `e` act: units on each die whose message came in time and that is not cut off
(R41, R176). A die whose message is held up acts at its arrival, by the late policy. -/
def State.releaseActs (s : State) (e : Nat) (g : Sealed) : State :=
  let t := [0, 1].foldl (fun t d =>
    if g.lateDies.contains d || t.dieTargets g.words d == [] then t
    else if t.dieCut d then t.postLate e g.at16
    else if g.held.contains d then
      t.setAct e { t.act e with await := (t.act e).await ++ [{ g with held := [d] }] }
    else t.dieActs g.words g.at16 d) s
  t.coreActs g.words g.at16 g.late

/-- ACT_FIRE, if the entry asks for it (R182). -/
def State.postFire (s : State) (e : Nat) (g : Sealed) : State :=
  if actEvtFire g.words then s.postEvent 0x031 e (s.stampAt g.at16) else s

/-! ## The instant (R174, R177, R178) -/

/-- The instants of the releases of an entry that are fixed and have not taken place. -/
def ActEntry.instants (x : ActEntry) : List Nat :=
  (x.ghost.map Sealed.at16) ++ (if x.state = actArmed then x.relAt.toList else [])

/-- Another release comes first: an earlier instant, or the same one and an entry of a lower number. -/
def State.notFirst (s : State) (e t16 : Nat) : Bool :=
  s.acts.any fun kv => kv.2.instants.any fun t => decide (t < t16) || (t == t16 && decide (kv.1 < e))

/-- The instant `t16` has no room left: 64 entries have released at it. -/
def State.full64 (s : State) (t16 : Nat) : Bool := s.crowd.1 == t16 && decide (64 ≤ s.crowd.2)

/-- An entry releases at `t16`: one of the 64. -/
def State.countCrowd (s : State) (t16 : Nat) : State :=
  { s with crowd := (t16, if s.crowd.1 = t16 then s.crowd.2 + 1 else 1) }

/-- What becomes of an entry after its release: FIRED, or the next time of a periodic one. -/
def afterRelease (x : ActEntry) (stamp : Word) : ActEntry :=
  let y := { x with
    last := stamp, count := x.count + 1, relAt := none, dispatched := false, late := false, crowded := false
    lateDies := [], held := [] }
  if actOnce x.words then { y with state := actFired }
  else if actTrig x.words = 1 then { y with due := x.due + actPeriod x.words }
  else y

/-- An entry is delayed by one tick: `x` is the entry with the new instant, `again` says that this release has been
delayed before (R178). -/
def State.delay (s : State) (e : Nat) (x : ActEntry) (again : Bool) : State :=
  let t := (s.setAct e x).setFld Reg.ACT_STATUS_CROWD 1
  if again then t else t.bump Reg.ACT_CROWD_CNT

/-- The sealed release of an entry that has been disarmed, replaced or re-phased since (R177, R80). -/
def State.ghostRelease (s : State) (e : Nat) (g : Sealed) : State :=
  let x := s.act e
  if s.tb.local16 < g.at16 || s.notFirst e g.at16 then s
  else if s.full64 g.at16 then
    s.delay e { x with ghost := x.ghost.map fun h => if h = g then { g with at16 := g.at16 + tick16, crowded := true } else h }
      g.crowded
  else
    let y := { x with ghost := x.ghost.erase g }
    let y := if g.mine then
        { y with last := s.stampAt g.at16, count := y.count + 1, state := if actOnce g.words then actFired else y.state }
      else y
    (((s.setAct e y).countCrowd g.at16).releaseActs e g).postFire e g

/-- The fixed release of an ARMED entry, as a sealed one. -/
def ActEntry.asSealed (x : ActEntry) (t16 : Nat) : Sealed :=
  { words := x.words, at16 := t16, mine := true, late := x.late, crowded := x.crowded, lateDies := x.lateDies
    held := x.held }

/-- The release of an ARMED entry whose instant has come. -/
def State.armedRelease (s : State) (e : Nat) : State :=
  let x := s.act e
  match x.state, x.relAt with
  | 1, some t16 =>
    if s.tb.local16 < t16 || s.notFirst e t16 then s
    else if s.full64 t16 then s.delay e { x with relAt := some (t16 + tick16), crowded := true } x.crowded
    else
      let t := (s.setAct e (afterRelease x (s.stampAt t16))).countCrowd t16
      (t.releaseActs e (x.asSealed t16)).postFire e (x.asSealed t16)
  | _, _ => s

/-- The earliest of the sealed releases that an entry has left behind. -/
def ActEntry.nextGhost (x : ActEntry) : Option Sealed :=
  x.ghost.foldl (fun best g => match best with
    | some h => if g.at16 < h.at16 then some g else some h
    | none => some g) none

/-- ACTION_RELEASE: the release of entry `e` whose instant has come, its earliest first. -/
def State.actionRelease (s : State) (e : Nat) : State :=
  match (s.act e).nextGhost with
  | some g =>
    if (s.act e).instants.any fun t => decide (t < g.at16) then s.armedRelease e else s.ghostRelease e g
  | none => s.armedRelease e

/-- TRIGGER_DISPATCH: a time-triggered release is sent to the port dies up to 20 µs before its instant (R176). -/
def State.dispatch (s : State) (e : Nat) : State :=
  let x := s.act e
  if x.state = actArmed ∧ actTrig x.words < 2 ∧ x.due * 65536 ≤ s.disc16 + 20000 * 65536 then
    s.setAct e { x with dispatched := true }
  else s

/-- RELEASE_SEALED: 2 µs before its instant a time-triggered release is sealed (R177). -/
def State.sealRelease (s : State) (e : Nat) : State :=
  let x := s.act e
  if x.state = actArmed ∧ actTrig x.words < 2 ∧ x.relAt = none ∧ x.due * 65536 ≤ s.disc16 + 2000 * 65536 then
    s.setAct e { x with dispatched := true, relAt := some (s.firstTick x.due (tickUp s.tb.local16) 1100) }
  else s

/-- The late policy for the units of die `d`, and LATE with the release instant (R176, R182). -/
def State.lateArrival (s : State) (e d : Nat) (g : Sealed) : State :=
  let t := if actSkip g.words || s.dieCut d then s else s.dieActs g.words g.at16 d
  t.postLate e g.at16

/-- A message of release `g`, which has not taken place, reaches die `d`: in time it waits there for the instant, after
it the late policy decides. `x` is the entry with the release noted as `note` says. -/
def State.arrival (s : State) (e d : Nat) (g : Sealed) (note : Sealed → ActEntry) : State :=
  if s.tb.local16 ≤ g.at16 then s.setAct e (note { g with held := g.held.erase d })
  else if g.lateDies.contains d then s
  else
    let h := { g with
      lateDies := d :: g.lateDies, held := g.held.erase d, late := g.late || actCode g.words == 8 }
    let t := (s.setAct e (note h)).lateArrival e d g
    if g.late then t else t.lateUpdate g.words

/-- TRIGGER_MESSAGE_ARRIVAL: a message reaches die `d` (R176): of a release that has taken place, of a sealed one that
its entry has left behind, or of the armed entry. -/
def State.messageArrives (s : State) (e d : Nat) : State :=
  let x := s.act e
  match x.await.find? fun g => g.held.contains d with
  | some g => (s.setAct e { x with await := x.await.erase g }).lateArrival e d g
  | none =>
    match x.nextGhost with
    | some g => s.arrival e d g fun h => { x with ghost := x.ghost.map fun k => if k = g then h else k }
    | none =>
      match x.state, x.relAt with
      | 1, some t16 =>
        s.arrival e d (x.asSealed t16) fun h => { x with lateDies := h.lateDies, held := h.held, late := h.late }
      | _, _ => s

/-! ## Forward crossings (R147) -/

/-- An armed phase-triggered entry of tracker `n` without a fixed release takes it: the crossing tick plus 1,000 ns
(R174), at which it is sealed (R177). -/
def State.crossEntry (s : State) (n : Nat) (x : Span) (e : Nat) : State :=
  let y := s.act e
  if actPhase y.words && actPt y.words == n && y.relAt.isNone && s.entryCrossed (x.after y.armPos) y.words then
    s.setAct e { y with relAt := some (tickUp s.tb.local16 + 1000 * 65536), dispatched := true }
  else s

/-- The angles of a course-aligned cadence (R105). -/
def cadencePoints (pts : Nat) : List Nat := (List.range pts).map fun k => k * mod24 / pts

/-- The commit requests of a course-aligned cadence on tracker `n`. -/
def State.courseCommits (s : State) (n : Nat) (x : Span) : State :=
  if s.fld Reg.SIG_CADENCE_MODE = 2 ∧ s.fld Reg.SIG_CADENCE_PT = n then
    let pts := clampTo 1 64 (orElse (s.fld Reg.SIG_CADENCE_POINTS) 64)
    let k := ((cadencePoints pts).map x.crosses).sum
    (List.range k).foldl (fun t _ => t.request) s
  else s

/-- What a course boundary of tracker `n` brings: the fall-back handover, or the switch of an armed image, and then the
staged fields of the tracker (R69, R87, R88, R437). -/
def State.courseBoundary (s : State) (n : Nat) (counts : List Nat) : State :=
  let t := if s.fallbackAt n then s.handover s.tb.local16
    else if counts.any (s.strAtCourse n) then s.strSwitch
    else s
  t.applyStaged fun y => y.bound == .course && (y.addr - 0x120100) / 0x80 == n

/-- The crossings of tracker `n` since the last report, up to its position now. -/
def State.crossings (s : State) (n : Nat) : State :=
  let st := s.ptState n
  let hw := (s.tracker n).hw
  let pos := s.ptPos n
  if (st = ptKeystone ∨ st = ptHoldover) ∧ later 48 pos hw = true then
    let x : Span := { lo := hw, len := wrapTo 48 ((pos : Int) - hw) }
    let t := s.setTracker n { s.tracker n with hw := pos }
    let t := s.armedEntries.foldl (fun t e => t.crossEntry n x e) t
    let t := t.courseCommits n x
    let b := x.courses 0 (x.crosses 0)
    if b = [] then t else t.courseBoundary n b
  else s

/-- A tracker that a point takes from CAPTURE to KEYSTONE: its PHASE_ONCE entries are judged (R181). -/
def State.pointJudge (s : State) (n : Nat) (t : State) : State :=
  if s.ptState n = ptCapture ∧ t.ptState n = ptKeystone then t.judgePhase n else t

/-- A reference event of tracker `n`: the crossings before it, the event, the judgement of the entries that waited for
KEYSTONE, and the crossings of a step (R150, R181). -/
def State.ptEventCross (s : State) (n : Nat) (ev : RefEvent) (ageNs : Nat) : State :=
  let t := s.crossings n
  (t.pointJudge n (t.ptFiltered n ev ageNs)).crossings n

/-- HW_RESET: with the crossings up to here reported, the high-water mark takes the current position, from which
crossings resume for every entry of this tracker (R154). -/
def State.ptHwReset (s : State) (n : Nat) : State :=
  let t := s.crossings n
  let t := t.setTracker n { t.tracker n with hw := t.ptPos n }
  { t with acts := t.acts.map fun kv =>
      (kv.1, if actPhase kv.2.words && actPt kv.2.words == n then { kv.2 with armPos := none } else kv.2) }

/-- A synthetic reference point of tracker `n`, in the same way (R135, R181). -/
def State.synPointCross (s : State) (n : Nat) : State :=
  let t := s.crossings n
  (t.pointJudge n (t.synPoint n)).crossings n

end Sys2Proof.Machine
end

