-- ==== Sys2Proof/Machine/Ring.lean ====
section
/-!
DEFINITION. The Avzin ring (R337 to R353): links, supervision frames, duplicate windows, reception and transit, ring
state, and ring time. Queues and origination stand in Machine/Queue.lean.
-/

namespace Sys2Proof.Machine

/-- The ring ports run: RNG runs from the application of the image with EN = 1 (R358). -/
def State.ringOn (s : State) : Bool := s.flag Reg.RNG_BSTAT_RUN && s.flag Reg.RNG_CFG_EN
/-- LINK_A and LINK_B. -/
def ringLinkFld (k : Nat) : Fld := if k = 0 then Reg.RNG_STATE_LINK_A else Reg.RNG_STATE_LINK_B

abbrev ringStarting : Nat := 0
abbrev ringOpen : Nat := 1
abbrev ringClosed : Nat := 2

/-- A ring event: NODE and RNG_STATE (R357). -/
def State.ringEvent (s : State) (code : Nat) : State := s.postEvent code s.node (s.rd Reg.RNG_STATE)

/-! ## Supervision frames (R348, Table 10.2) -/

/-- The unit ID, bits [95:64] first. -/
def State.unitIdBytes (s : State) : List Byte :=
  beBytes 4 (s.rd Reg.GEN_UNIT_ID2).toNat ++ beBytes 4 (s.rd Reg.GEN_UNIT_ID1).toNat
    ++ beBytes 4 (s.rd Reg.GEN_UNIT_ID0).toNat
abbrev supAddr : Nat := 0x034B4D520001
/-- This node's entry in the grandmaster election. -/
def State.selfPeer (s : State) : RingPeer :=
  { prio1 := s.fld Reg.TMB_GPTP_PRIO_PRIORITY1, prio2 := s.fld Reg.TMB_GPTP_PRIO_PRIORITY2
    clock := (Config.clockId 0).toNat }

/-- A supervision frame before its tag: 54 bytes, so that it has 64 on the wire. -/
def State.supFrame (s : State) (kind port peer : Nat) : List Byte :=
  let p := s.selfPeer
  let flags := flagBit (s.fld Reg.RNG_STATE_RING == ringClosed) 0 + flagBit (s.flag Reg.HLT_STATUS_REPLACE) 1
    + flagBit (s.flag Reg.RNG_STATE_GM_SELF) 2 + flagBit (s.flag Reg.RNG_STATE_BACKUP_SELF) 3
  let payload := leBytes 1 kind ++ leBytes 1 flags ++ leBytes 1 port ++ leBytes 1 peer ++ s.unitIdBytes
    ++ leBytes 1 p.prio1 ++ leBytes 1 p.prio2 ++ beBytes 8 p.clock
  beBytes 6 supAddr ++ s.mgmtMac ++ bytesAt payload 0 42

/-- A supervision frame is originated in queue 7, if the saltern has room for it. -/
def State.sendSup (s : State) (kind port peer : Nat) : State :=
  let bs := s.supFrame kind port peer
  if s.freePans < 1 then s.setFld Reg.SWC_FLAGS_SALTERN_FULL 1
  else State.originate { s with nextId := s.nextId + 1 } 2 7
    { fid := s.nextId, bytes := bs, at16 := s.tb.local16, src := portM } false

/-! ## Ring time (R351 to R353) -/

def State.chain (s : State) (k : Nat) : Option RingChain := s.ring.chains.getD k none
def State.setChain (s : State) (k : Nat) (c : Option RingChain) : State :=
  { s with ring := { s.ring with chains := setAt s.ring.chains k c } }
def State.rtPrimary (s : State) : Nat := s.fld Reg.RNG_STATE_RT_PRIMARY
abbrev syncTmo16 : Nat := 375 * us16
/-- A chain is live: its last Sync is no older than the timeout. -/
def State.chainLive (s : State) (k : Nat) : Bool :=
  match s.chain k with
  | some c => s.ringUp k && decide (s.tb.local16 < c.last16 + syncTmo16)
  | none => false
/-- RT_STANDBY_OK shows the standby. -/
def State.showStandby (s : State) : State :=
  s.setFld Reg.RNG_STATE_RT_STANDBY_OK (if s.rtOn && s.chainLive (1 - s.rtPrimary) then 1 else 0)

/-- The primary becomes the other chain (R352): the difference of the last offsets is applied by R160. An offset is
own time less the master's, so the difference is the old chain's less the new one's (notes/assumptions/33.md). -/
def State.rtSwitch (s : State) : State :=
  let a := s.rtPrimary
  let ofs := fun k => match s.chain k with
    | some c => c.offset
    | none => 0
  let diff := if (s.chain a).isSome && (s.chain (1 - a)).isSome then ofs a - ofs (1 - a) else 0
  let t := (s.setFld Reg.RNG_STATE_RT_PRIMARY (1 - a)).showStandby
  let t := t.wr Reg.RNG_RT_DIFF (BitVec.ofInt 32 (satSigned 32 diff))
  ((t.adjust diff).setFld Reg.RNG_FLAGS_RT_SWITCHED 1).ringEvent 0x073

/-- R351: the lower stepsRemoved is the better chain, port A on a tie. -/
def State.betterChain (s : State) : Nat :=
  match s.chain 0, s.chain 1 with
  | some a, some b => if b.steps < a.steps then 1 else 0
  | none, some _ => 1
  | _, none => 0

/-- The primary is chosen again when RING returns to CLOSED. -/
def State.chooseAgain (s : State) : State :=
  if s.rtOn && !s.flag Reg.RNG_STATE_GM_SELF && s.chainLive 0 && s.chainLive 1 && s.betterChain != s.rtPrimary
  then s.rtSwitch else s

/-- Both ring links of node `g` are known to be down (R353). -/
def State.cutOff (s : State) (g : Nat) : Bool :=
  g != s.node && s.ring.faults.any (fun f => f.2 == g && f.1 % 2 == 0)
    && s.ring.faults.any (fun f => f.2 == g && f.1 % 2 == 1)

/-- What is known of node `n` for the election. -/
def State.ringPeer (s : State) (n : Nat) : Option RingPeer :=
  if n = s.node then some s.selfPeer else Tbl.get (fun _ => none) s.ringPeers n

/-- `a` is a better grandmaster than `b` (R351). -/
def peerBetter (a b : RingPeer) : Bool :=
  a.prio1 < b.prio1 || (a.prio1 == b.prio1 && (a.prio2 < b.prio2 || (a.prio2 == b.prio2 && a.clock < b.clock)))

/-- The best of the nodes of a list that may be grandmaster. -/
def State.bestNode (s : State) (ns : List Nat) : Option Nat :=
  ns.foldl (fun best n =>
    match s.ringPeer n with
    | none => best
    | some p =>
      if 255 ≤ p.prio1 || s.cutOff n then best
      else match best with
        | none => some n
        | some b => match s.ringPeer b with
          | some q => if peerBetter p q then some n else some b
          | none => some n) none

/-- The election of R351, and the takeover of R353 when the grandmaster is cut off. -/
def State.elect (s : State) : State :=
  if !s.rtOn then s
  else
    let all := List.range 64
    match s.bestNode all with
    | none => (s.setFld Reg.RNG_STATE_GM_SELF 0).setFld Reg.RNG_STATE_BACKUP_SELF 0
    | some g =>
      let takes := s.flag Reg.RNG_STATE_BACKUP_SELF && g == s.node && s.cutOff (s.fld Reg.RNG_STATE_GM_NODE)
      let b := s.bestNode (all.filter (· != g))
      let t := (s.setFld Reg.RNG_STATE_GM_NODE g).setFld Reg.RNG_STATE_GM_SELF (if g = s.node then 1 else 0)
      let t := match b with
        | some b => (t.setFld Reg.RNG_STATE_BACKUP_NODE b).setFld Reg.RNG_STATE_BACKUP_SELF (if b = s.node then 1 else 0)
        | none => t.setFld Reg.RNG_STATE_BACKUP_SELF 0
      if takes then (t.setFld Reg.RNG_FLAGS_GM_TAKEOVER 1).ringEvent 0x074 else t

/-- A Follow_Up of ring time completes a Sync on ring port `k` (R351): measured, relayed, followed if primary. -/
def State.ringTime (s : State) (k : Nat) (m : PtpMsg) (o : Option ServoOut) : State :=
  match s.syncDone (portA + k) m with
  | none => s
  | some x =>
    let first := (s.chain s.rtPrimary).isNone
    let ofs := s.offsetOf x
    let t := s.setGport (portA + k) { s.gport (portA + k) with sync := none }
    let t := t.setChain k (some { steps := m.steps, offset := ofs, last16 := s.tb.local16 })
    let t := if s.ringUp (1 - k) then t.syncSend (portA + (1 - k))
        { seq := m.seq, steps := m.steps + 1, origin16 := x.2.1, corr16 := x.2.2, rx16 := some x.1 } else t
    let t := if first then t.setFld Reg.RNG_STATE_RT_PRIMARY k else t
    let t := t.showStandby
    if t.rtPrimary = k then t.measure ofs o else t

/-- A message of ring time on ring port `k` (R351): peer delay as R162 lays down; the grandmaster takes no Sync. -/
def State.ringPtp (s : State) (k : Nat) (m : PtpMsg) (rx16 : Nat) (o : Option ServoOut) : State :=
  let p := portA + k
  if m.type = ptpPdelayReq ∨ m.type = ptpPdelayResp ∨ m.type = ptpPdelayRespFu then s.peerDelay p m rx16
  else if m.domain ≠ s.fld Reg.TMB_GPTP_CTRL_DOMAIN ∨ s.flag Reg.RNG_STATE_GM_SELF = true then s
  else if m.type = ptpSync then s.setGport p { s.gport p with sync := some (m.seq, rx16, m.corr16) }
  else if m.type = ptpFollowUp then s.ringTime k m o
  else s

/-- GPTP_MESSAGE: the management engine handles a message that has just come in on a gPTP port, or on a ring port with ring
time (R162, R351). The engine serves none while it restarts (R462). -/
def State.gptpMsg (s : State) (p : Nat) (bs : List Byte) (o : Option ServoOut) : State :=
  let rx16 := stampTick (s.tb.local16 - s.lineTime p (wireLen bs))
  match ptpMsg bs with
  | none => s
  | some m =>
    if s.hlt.meDown then s
    else if isRing p && s.flag Reg.RNG_CFG_RT_EN then
      (if s.rtOn && s.ringUp (p - portA) then s.ringPtp (p - portA) m rx16 o else s)
    else if s.gptpPort p then s.gptpIn p m rx16 o
    else s

/-- RING_SYNC_SEND: the grandmaster sends on both ring ports every 125 µs. -/
def State.ringSync (s : State) : State :=
  if s.rtOn && s.flag Reg.RNG_STATE_GM_SELF && decide (s.ring.lastSync16 + 125 * us16 ≤ s.tb.local16) then
    ([0, 1].filter s.ringUp).foldl (fun t k =>
      let x := t.gport (portA + k)
      (t.setGport (portA + k) { x with syncSeq := (x.syncSeq + 1) % 65536 }).syncSend (portA + k)
        { seq := x.syncSeq, steps := 0, origin16 := 0, corr16 := 0, rx16 := none })
      { s with ring := { s.ring with lastSync16 := s.tb.local16 } }
  else s

/-- SYNC_TIMEOUT: no Sync on the primary for 375 µs. Without a live standby every chain is lost (R166). -/
def State.syncTimeout (s : State) : State :=
  let a := s.rtPrimary
  match s.chain a with
  | none => s
  | some c =>
    if s.rtOn && !s.flag Reg.RNG_STATE_GM_SELF && decide (c.last16 + syncTmo16 ≤ s.tb.local16) then
      let t := if s.chainLive (1 - a) then s.rtSwitch else s.masterLost
      (t.setChain a none).showStandby
    else s

/-! ## Ring state (R349) -/

/-- RING takes a value; a change to OPEN or CLOSED is posted. -/
def State.setRing (s : State) (v : Nat) : State :=
  if s.fld Reg.RNG_STATE_RING = v then s
  else
    let t := s.setFld Reg.RNG_STATE_RING v
    if v = ringOpen then (t.setFld Reg.RNG_FLAGS_RING_OPENED 1).ringEvent 0x070
    else if v = ringClosed then
      (State.ringEvent { t with ring := { t.ring with faults := [] } } 0x071).elect.chooseAgain
    else t

/-- A return time of the last PERIODIC frame within SUP_MS. -/
def State.supMs (s : State) : Nat := clampTo 1 1000 (orElse (s.fld Reg.RNG_TIMERS_SUP_MS) 10)

/-- An own PERIODIC frame has come back on port `k` (R349). -/
def State.periodicBack (s : State) (k seq : Nat) : State :=
  match s.ring.periodic with
  | none => s
  | some (q, at16) =>
    let dt := (s.tb.local16 - at16) / 65536
    if q ≠ seq ∨ s.supMs * 1000000 < dt then s
    else
      let t := { s with ring := { s.ring with returned := setAt s.ring.returned k (some dt) } }
      match t.ring.returned.getD 0 none, t.ring.returned.getD 1 none with
      | some a, some b =>
        let t := t.wr Reg.RNG_LOOP (satWord (max a b))
        if t.ring.quietOver then t.setRing ringClosed else t
      | _, _ => t

/-- The link of `key` (sender × 2 + port) is no longer known to be down. -/
def State.dropFault (s : State) (key : Nat) : State :=
  let other : Nat × Nat → Bool := fun f => f.1 != key
  { s with ring := { s.ring with faults := s.ring.faults.filter other } }

/-- The link of `key` is known to be down, and who is beyond it. -/
def State.addFault (s : State) (key peer : Nat) : State :=
  let t := s.dropFault key
  { t with ring := { t.ring with faults := t.ring.faults ++ [(key, peer)] } }

/-- A FAULT frame has come: RING is OPEN until the next PERIODIC frame returns, and ring time may switch (R349, R352,
R353). -/
def State.faultHeard (s : State) (k src hops port peer : Nat) : State :=
  let t := (s.setFld Reg.RNG_STATE_FAULT_NODE src).setFld Reg.RNG_STATE_FAULT_PEER peer
  let t := t.addFault (2 * src + port) peer
  let stale : Nat × Nat → Nat × Nat := fun x => (65536, x.2)
  let t := { t with ring := { t.ring with periodic := t.ring.periodic.map stale } }
  let t := if t.ring.quietOver then t.setRing ringOpen else t
  let near := match t.chain k with
    | some c => decide (hops < c.steps)
    | none => false
  let t := if t.rtOn && !t.flag Reg.RNG_STATE_GM_SELF && t.rtPrimary == k && near && t.chainLive (1 - k) then
      (t.rtSwitch.setChain k none).showStandby else t
  t.elect

/-- A first copy of another node's supervision frame (R348, R351). -/
def State.supHeard (s : State) (k src hops : Nat) (pay : List Byte) : State :=
  let peer : RingPeer := { prio1 := byteAt pay 0x10, prio2 := byteAt pay 0x11, clock := beNat (bytesAt pay 0x12 8) }
  let t := { s with ringPeers := Tbl.set (fun _ => none) s.ringPeers src (some peer) }
  if byteAt pay 0 = 1 then t.faultHeard k src hops (byteAt pay 2 % 2) (byteAt pay 3) else t.elect

/-- A supervision frame with this node's number: its own one feeds the ring state, another's stops origination
(R343, R349, R350). -/
def State.ownSup (s : State) (k hops seq : Nat) (pay : List Byte) : State :=
  if bytesAt pay 4 12 ≠ s.unitIdBytes then
    (State.setFld { s with ring := { s.ring with stopped := true } } Reg.RNG_FLAGS_DUP_NODE 1).ringEvent 0x072
  else if byteAt pay 0 = 0 then s.periodicBack k seq
  else if byteAt pay 0 = 1 then s.faultHeard k s.node hops (byteAt pay 2 % 2) (byteAt pay 3)
  else s

/-! ## Reception and transit (R343 to R345) -/

/-- How a window judges a sequence number. -/
inductive Judged where
  | accept | duplicate | outside
  deriving DecidableEq, Repr

/-- R344. -/
def judgeSeq (w : RingWin) (x : Nat) : Judged × RingWin :=
  if !w.active then (.accept, { w with active := true, hi := x, seen := 1 })
  else
    let d := sdiff 16 x w.hi
    if 0 < d then
      (.accept, { w with hi := x, seen := (if 64 ≤ d then 0 else w.seen * 2 ^ d.toNat % 2 ^ 64) / 2 * 2 + 1 })
    else if d ≤ -64 then (.outside, w)
    else if bitOf w.seen (-d).toNat then (.duplicate, w)
    else (.accept, { w with seen := setBit w.seen (-d).toNat true })

/-- MAX_HOPS; 0 acts as 63. -/
def State.maxHops (s : State) : Nat := orElse (s.fld Reg.RNG_CFG_MAX_HOPS) 63

/-- A first copy is delivered by its class (R345). -/
def State.ringDeliver (s : State) (k : Nat) (g : Gen) (rx : Rx) (bs : List Byte) : State :=
  let w := tagWord bs
  match bits w 22 2 with
  | 0 => s.forwardG g (portA + k) { rx16 := rx.rx16, fid := rx.fid } (removeTag bs)
  | 1 =>
    if bs.take 6 = s.mgmtMac then
      s.toEgress (portA + k) { rx16 := rx.rx16, fid := rx.fid } { filter := none, mask := 2 ^ portM, queue := none } true
        (removeTag bs)
    else s
  | _ => s.supHeard k (bits w 26 6) (bits w 16 6) (bs.drop 18)

/-- The queue of a transit frame (R343): 7 for supervision, else by R315. -/
def State.transitQueue (s : State) (k : Nat) (bs : List Byte) : Nat :=
  if bits (tagWord bs) 22 2 = 2 then 7 else s.ingressQueue (portA + k) (removeTag bs)

/-- The frame goes on to the other ring port with HOPS + 1 (R343 step 5), unless it goes there cut-through already. -/
def State.ringTransit (s : State) (k : Nat) (g : Gen) (rx : Rx) (bs : List Byte) : State :=
  if rx.done.contains (portA + (1 - k)) then s
  else
    let auth := match s.streamFilter g (portA + k) (removeTag bs) with
      | some i => bitOf (s.sfW g i 4) 2
      | none => false
    let f : QFrame :=
      { fid := rx.fid.getD 0, bytes := patch bs 14 (beBytes 4 (tagWord bs + 2 ^ 16)), at16 := s.tb.local16
        src := portA + k, rx16 := rx.rx16 }
    s.ringSend (1 - k) (s.transitQueue k bs) f (!auth)

/-- A tagged frame of another node is judged by its window, delivered and forwarded (R343 steps 4 and 5). -/
def State.ringAccept (s : State) (k : Nat) (g : Gen) (rx : Rx) (bs : List Byte) : State :=
  let w := tagWord bs
  let src := bits w 26 6
  let j := judgeSeq (s.ringWin src) (bits w 0 16)
  let t := match j.1 with
    | .accept =>
      let t := s.setRingWin src { j.2 with lane := bits w 25 1, last16 := s.tb.local16 }
      let t := t.add64 (Reg.RNG_P_ACCEPTED_LO k) 1
      let t := if bitOf w 24 then t.bump (Reg.RNG_P_CN_SEEN k) else t
      t.ringDeliver k g rx bs
    | .duplicate => s.add64 (Reg.RNG_P_DUP_DISCARD_LO k) 1
    | .outside => s.bump (Reg.RNG_P_OUT_OF_WINDOW k)
  t.ringTransit k g rx bs

/-- A good frame with its ring tag (R343). -/
def State.ringTagged (s : State) (k : Nat) (g : Gen) (rx : Rx) (bs : List Byte) : State :=
  let w := tagWord bs
  let cls := bits w 22 2
  if cls = 3 then (s.bump (Reg.RNG_P_BAD_TAG k)).setFld Reg.RNG_FLAGS_BAD_TAG_SEEN 1
  else
    let src := bits w 26 6
    let s := if cls = 2 ∧ bits w 16 6 = 0 then
        { s with ring := { s.ring with neighbours := setAt s.ring.neighbours k (some src) } } else s
    if src = s.node then
      let t := s.add64 (Reg.RNG_P_OWN_REMOVED_LO k) 1
      if cls = 2 then t.ownSup k (bits w 16 6) (bits w 0 16) (bs.drop 18) else t
    else if s.maxHops ≤ bits w 16 6 then (s.bump (Reg.RNG_P_HOP_DROP k)).setFld Reg.RNG_FLAGS_HOPS_SEEN 1
    else s.ringAccept k g rx bs

/-- RING_FRAME_RECEIVED. -/
def State.ringReceive (s : State) (k : Nat) (bs : List Byte) (fcsOk : Bool) : State :=
  let p := portA + k
  if !s.ringOn || !s.ringUp k || !s.portTakes p then s
  else
    match s.rxFault p bs { fcsOk := fcsOk, lineOk := true } with
    | some f => ((s.bump (rxFaultReg p f)).endCut p (s.cutBytes p bs (some f)) true).portEnd p
    | none =>
      let t := s.countRx p bs
      if isGptp bs then t.portEnd p
      else if be16At bs 12 ≠ s.ringEtype then (t.bump (Reg.RNG_P_UNTAGGED k)).portEnd p
      else (t.received p bs (fun t g rx => t.ringTagged k g rx bs)).portEnd p

/-- FORWARDING_DECISION at ring port `k`: a frame that R343 will pass on goes cut-through to the other ring port where R320
allows it. Its local delivery is judged by its window once it is whole (DEDUCED, notes/assumptions/168.md). -/
def State.ringDecide (s : State) (k : Nat) (head : List Byte) (fits : Nat → Nat → Bool) : State :=
  let p := portA + k
  let w := tagWord head
  if !s.ringOn || !s.ringUp k || !s.portTakes p || (s.port p).cut.isSome || isGptp head
      || be16At head 12 != s.ringEtype then s
  else
    let s := (List.range 22).foldl State.lineDone s
    let e := portA + (1 - k)
    let q := s.transitQueue k head
    let transit := bits w 22 2 != 3 && bits w 26 6 != s.node && decide (bits w 16 6 < s.maxHops)
    s.headIn p q head fun t c =>
      (t, if transit && t.cutEligible p e && t.cutGate e q fits then { c with egress := [e] } else c)

/-- FORWARDING_DECISION at any port. -/
def State.decide64 (s : State) (p : Nat) (head : List Byte) : State :=
  if isRing p then s.ringDecide (p - portA) head (s.fitsCut p) else s.forwardDecide p head (s.fitsCut p)

/-- WINDOW_AGE: no frame of the source has been accepted for AGE_MS (R346). -/
def State.windowAge (s : State) (src : Nat) : State :=
  let w := s.ringWin src
  let ms := min 20 (orElse (s.fld Reg.RNG_TIMERS_AGE_MS) 10)
  if w.active && decide (w.last16 + ms * 1000 * us16 ≤ s.tb.local16) then
    s.setRingWin src { w with active := false, seen := 0 }
  else s

/-! ## Links and timers -/

/-- RING_LINK_UP (R337, R347). -/
def State.ringLinkUp (s : State) (k : Nat) : State :=
  if !s.ringOn || s.ringUp k || !s.laneServes (12 + k) then s
  else
    let p := portA + k
    let t := s.setFld (ringLinkFld k) 1
    let t := (t.setFld (Reg.SWC_P_STATUS_LINK p) 1).setFld (Reg.SWC_P_STATUS_SPEED p)
      (if t.flag Reg.RNG_CFG_RATE25 then 6 else 5)
    let t := (t.dropFault (2 * t.node + k)).linkEvent p
    { t with ring := { t.ring with quiet16 := some (t.ring.quiet16.getD (t.tb.local16 + 20000 * us16)) } }



/-- RING_LINK_DOWN: queued frames are flushed, a FAULT frame goes out, ring time switches (R337, R342, R348, R352). -/
def State.ringLinkDown (s : State) (k : Nat) : State :=
  if !s.ringUp k then s
  else
    let p := portA + k
    let peer := (s.ring.neighbours.getD k none).getD 0xFF
    let t := (s.setFld (ringLinkFld k) 0).ingressLost p
    let t := ((t.setFld (Reg.SWC_P_STATUS_LINK p) 0).setFld (Reg.SWC_P_STATUS_SPEED p) 0).linkEvent p
    let t := (List.range 8).foldl (fun t q => t.flushQueue p q) (t.lineLost p)
    let t := { t with ring := { t.ring with neighbours := setAt t.ring.neighbours k none } }
    let t := t.addFault (2 * t.node + k) peer
    let t := t.sendSup 1 k peer
    let t := if t.rtOn && !t.flag Reg.RNG_STATE_GM_SELF && t.rtPrimary == k && t.chainLive (1 - k) then t.rtSwitch
      else t
    ((t.setChain k none).showStandby).elect

/-- QUIET_TIME_END (R347, R349): no PERIODIC frame has returned yet. -/
def State.quietEnd (s : State) : State :=
  match s.ring.quiet16 with
  | none => s
  | some q =>
    if !s.ring.quietOver && decide (q ≤ s.tb.local16) then
      State.setRing { s with ring := { s.ring with quietOver := true } } ringOpen
    else s

/-- PERIODIC: SUP_MS after the last one (R348); a frame that has not returned on both ports leaves RING open. -/
def State.periodicSend (s : State) : State :=
  let due := match s.ring.periodic with
    | none => true
    | some (_, at16) => decide (at16 + s.supMs * 1000 * us16 ≤ s.tb.local16)
  if !s.mayOriginate || !due then s
  else
    let back := s.ring.returned.all fun r => r.isSome
    let t := if s.ring.periodic.isSome && !back then s.setRing ringOpen else s
    let seq := t.ring.seq
    let t := t.sendSup 0 0 0
    if t.ring.seq = seq then t
    else { t with ring := { t.ring with periodic := some (seq, t.tb.local16), returned := [none, none] } }

/-- ANNOUNCE: once per second in the replace state (R348). -/
def State.announce (s : State) : State :=
  if s.mayOriginate && s.flag Reg.HLT_STATUS_REPLACE
      && (s.ring.announce16 == 0 || decide (s.ring.announce16 + 1000000 * us16 ≤ s.tb.local16)) then
    State.sendSup { s with ring := { s.ring with announce16 := s.tb.local16 } } 2 0 0
  else s

/-- RESUME (R350). -/
def State.ringResume (s : State) : State := { s with ring := { s.ring with stopped := false } }

end Sys2Proof.Machine
end

