-- ==== Sys2Proof/Machine/Lin.lean ====
section
/-!
DEFINITION. LIN commanders and responders (R270 to R272, R208, R211).
-/

namespace Sys2Proof.Machine

/-- BREAK_BITS: 13 to 26, other values act as 13. -/
def State.linBreak (s : State) (n : Nat) : Nat :=
  let b := s.fld (Reg.SLN_LIN_CTRL_BREAK_BITS n)
  if 13 ≤ b ∧ b ≤ 26 then b else 13

/-- A frame that is not complete: NORESP (R271). -/
def State.linLost (s : State) (n : Nat) : State :=
  ((s.setLane n { s.lane n with lin := none }).bump (Reg.SLN_LIN_NORESP n)).setFld (Reg.SLN_STATUS_NORESP_SEEN n) 1

/-- A header whose protected identifier ended at `at16`: the responder table says what the lane does (R271). A frame
still open before it was not completed. -/
def State.linHeader (s : State) (n ident at16 div : Nat) : State :=
  let s := if (s.lane n).lin.isSome then s.linLost n else s
  let f : LinFrame := { ident := ident, at16 := at16, div := div }
  let route := bits (s.linEntry n ident) 7 15
  match s.linDir n ident with
  | 1 => s.setLane n { s.lane n with lin := some f, frame16 := at16 }
  | 2 => (s.setLane n { s.lane n with lin := some f, frame16 := at16 }).laneChain n route true []
  | _ => s

/-- LIN_HEADER_RECEIVED: a low level of `breakBits` nominal bit times, a sync byte and a protected identifier; `div`: the
measured rate. A responder takes 11 bit times or more as a break. -/
def State.linHeaderIn (s : State) (n : Nat) (pid div breakBits : Nat) : State :=
  let nom := s.fld (Reg.SLN_BAUD_BAUD_DIV n)
  if s.laneSees n && s.pers n == persLinResp && decide (11 ≤ breakBits) then
    let s := s.regionWork (Reg.laneUnit n)
    if 15 * nom < 100 * ((div : Int) - nom).natAbs ∨ linPid (pid % 64) ≠ pid then s.laneBad n
    else s.linHeader n (pid % 64) s.tb.local16 div
  else s



/-- LIN_RESPONSE_RECEIVED: the response of the open frame, or the read-back of the lane's own. -/
def State.linResponse (s : State) (n : Nat) (data : List Byte) (checksum : Byte) : State :=
  match (s.lane n).lin with
  | none => s
  | some f =>
    if !s.laneSees n || s.linDeadline n f < s.tb.local16 then s
    else
      match f.response with
      | some d =>
        let t := s.setLane n { s.lane n with lin := none }
        (if data = d ∧ checksum = linChecksum f.ident d then t.tick (Reg.SLN_TX_FRAMES n) else t.laneBad n).frameEnd
          (Reg.laneUnit n)
      | none =>
        if s.linDir n f.ident ≠ 1 ∨ data.length ≠ s.linLen n f.ident then s
        else
          let t := s.setLane n { s.lane n with lin := none }
          let ws := data.map fun b => rxWord false false false b.toNat
          if checksum = linChecksum f.ident data then
            let t := (t.tick (Reg.SLN_RX_FRAMES n)).laneItems n ws false
            (t.laneChain n (bits (s.linEntry n f.ident) 7 15) false data).frameEnd (Reg.laneUnit n)
          else ((t.laneBad n).laneKeep n ws).frameEnd (Reg.laneUnit n)

/-- LIN_NORESP: the time of the open frame has passed. -/
def State.linNoresp (s : State) (n : Nat) : State :=
  match (s.lane n).lin with
  | none => s
  | some f => if s.linDeadline n f < s.tb.local16 then (s.linLost n).frameEnd (Reg.laneUnit n) else s

/-- Word of slot `k` of schedule `c`. -/
def State.linSlot (s : State) (n c k : Nat) : Nat := if k < 64 then s.smWord n (1152 + 64 * c + k) else 0

/-- The start of a pass: a new SCHED is applied (R87). -/
def State.linPass (s : State) (n : Nat) : State :=
  let t := s.applyStaged fun x => x.bound == .cycle && blockOf x.addr == Reg.laneBase n
  t.setLane n { t.lane n with sched := t.fld (Reg.SLN_LIN_CTRL_SCHED n), slot := 0 }

/-- A slot of the schedule starts at `at16`: its header is sent if it is enabled. -/
def State.linSlotAt (s : State) (n at16 : Nat) : State :=
  let x := s.lane n
  let w := s.linSlot n x.sched x.slot
  let t := s.setLane n { x with slot := x.slot + 1, slotDue16 := some (at16 + bits w 8 16 * 100 * us16) }
  if bitOf w 7 then
    let ident := bits w 0 6
    let bit := s.laneBit16 n
    let t := t.emit (.linHeader n (s.linBreak n) (linPid ident))
    t.linHeader n ident (at16 + (s.linBreak n + 21) * bit) (s.fld (Reg.SLN_BAUD_BAUD_DIV n))
  else t

/-- LIN_SLOT_START (R272). -/
def State.linSlotStart (s : State) (n : Nat) : State :=
  let x := s.lane n
  if !s.laneRuns n || s.pers n != persLinCmd then s
  else
    match x.slotDue16 with
    | none =>
      if s.flag (Reg.SLN_LIN_CTRL_RUN n) then
        let t := s.linPass n
        if bits (t.linSlot n (t.lane n).sched 0) 8 16 = 0 then t else t.linSlotAt n s.tb.local16
      else s
    | some d =>
      if s.tb.local16 < d then s
      else if !s.flag (Reg.SLN_LIN_CTRL_RUN n) then s.setLane n { x with slot := 0, slotDue16 := none }
      else
        let t := if bits (s.linSlot n x.sched x.slot) 8 16 = 0 then s.linPass n else s
        if bits (t.linSlot n (t.lane n).sched (t.lane n).slot) 8 16 = 0 then
          t.setLane n { t.lane n with slotDue16 := none }
        else t.linSlotAt n d

end Sys2Proof.Machine
end

