-- ==== Sys2Proof/Machine/Bridge.lean ====
section
/-!
DEFINITION. The local bus bridge (R384 to R394): windows, byte order, posted writes and reads, locked sequences,
prefetch lines, retries and timeouts, inbound cycles and side-band interrupts; and the outstanding operations of the
pages (R371), which end when the far bus answers.
-/

namespace Sys2Proof.Machine

/-! ## Outstanding operations (R371) -/

/-- Outstanding operations of a page, and in all. -/
def State.opCount (s : State) (p : Nat) : Nat := (s.page p).outstanding.length
def State.opTotal (s : State) : Nat := ((List.range 8).map s.opCount).sum
/-- A slot is free for one more operation of page `p`. -/
def State.opRoom (s : State) (p : Nat) : Bool := decide (s.opCount p < 32) && decide (s.opTotal < 256)
/-- PEAK of PG_OUTSTANDING once operations have ended: it records the highest count since the last read. -/
def State.opPeakNow (s : State) (p : Nat) : State :=
  s.setFld (Reg.PG_OUTSTANDING_PEAK p) (max (s.fld (Reg.PG_OUTSTANDING_PEAK p)) (s.opCount p))
/-- PEAK of PG_OUTSTANDING while one more operation than listed is outstanding. -/
def State.opPeak (s : State) (p : Nat) : State :=
  s.setFld (Reg.PG_OUTSTANDING_PEAK p) (max (s.fld (Reg.PG_OUTSTANDING_PEAK p)) (s.opCount p + 1))

/-- The answer of an operation leaves (R367, R368). -/
def State.opAnswer (s : State) (p : Nat) (o : HostOp) : State :=
  match o.frame with
  | none => s.emit (.readData p o.addr o.data)
  | some (op, tag, dst) =>
    s.emit (.paResp p o.path op o.status tag o.addr ((o.data.map fun w => leBytes 4 w.toNat).flatten) dst)

/-! ## Windows and byte order (R384, R387) -/

/-- Page `p` may access window `w`. -/
def State.windowMay (s : State) (p w : Nat) : Bool :=
  s.flag Reg.LBB_BSTAT_RUN && s.flag Reg.LBB_CTRL_EN && s.flag (Reg.LBB_W_CFG_EN w)
    && bitOf (s.fld (Reg.LBB_W_CFG_PAGES w)) p

/-- The four bytes of a word in the other order. -/
def swapWord (w : Word) : Word := w32 (beNat (leBytes 4 w.toNat))
/-- A word between host and far bus: ORDER = 1 keeps it, ORDER = 0 swaps its lanes. -/
def farWord (order : Bool) (w : Word) : Word := if order then w else swapWord w
/-- Byte enables likewise. -/
def farBe (order : Bool) (be : Nat) : Nat :=
  if order then be
  else flagBit (bitOf be 0) 3 + flagBit (bitOf be 1) 2 + flagBit (bitOf be 2) 1 + flagBit (bitOf be 3) 0

/-- The access that a page makes at offset `off` from 0x0100_0000. -/
def State.farAcc (s : State) (p : Nat) (kind : FarKind) (off : Nat) : FarAcc :=
  let w := off / 2 ^ 20 % 16
  { page := p, kind := kind, win := w
    far := (s.fld (Reg.LBB_W_BASE_BASE w) * 2 ^ 20 + off % 2 ^ 20) / 4 * 4
    order := s.flag (Reg.LBB_W_CFG_ORDER w), prefetch := s.flag (Reg.LBB_W_CFG_PREFETCH w)
    timing := (orElse (s.fld (Reg.LBB_W_TIMING_SETUP w)) 1, orElse (s.fld (Reg.LBB_W_TIMING_STROBE w)) 1,
      orElse (s.fld (Reg.LBB_W_TIMING_HOLD w)) 1) }

/-! ## Prefetch lines (R390) -/

def State.line (s : State) (w : Nat) : Option PfLine := Tbl.get (fun _ => none) s.bridge.lines w
def State.setLine (s : State) (w : Nat) (x : Option PfLine) : State :=
  { s with bridge := { s.bridge with lines := Tbl.set (fun _ => none) s.bridge.lines w x } }

/-- The buffer of a window is discarded; words that no host saw are logged. -/
def State.discardLine (s : State) (w : Nat) : State :=
  match s.line w with
  | none => s
  | some x =>
    let t := s.setLine w none
    match (List.range 16).find? fun k => !bitOf x.returned k with
    | none => t
    | some k =>
      let t := t.bump (Reg.LBB_W_DISC_CNT w)
      let t := ([7, 6, 5, 4, 3, 2, 1] : List Nat).foldl
        (fun t i => t.wr (Reg.LBB_W_DISC_ADDR w i) (t.rd (Reg.LBB_W_DISC_ADDR w (i - 1)))) t
      t.wr (Reg.LBB_W_DISC_ADDR w 0) (w32 (2 ^ 31 + (x.far + 4 * k)))

/-- PF_TMO of a window in 2^-16 ns. -/
def State.pfTmo16 (s : State) (w : Nat) : Nat := orElse (s.fld (Reg.LBB_W_TIMING_PF_TMO w)) 10 * us16

/-- The word of an access in the window's buffer, while it is no older than PF_TMO. -/
def State.lineHit (s : State) (a : FarAcc) : Option Word :=
  match s.line a.win with
  | none => none
  | some x =>
    if a.prefetch && x.far == a.far / 64 * 64 && decide (s.tb.local16 ≤ x.at16 + s.pfTmo16 a.win) then
      some (x.words.getD (a.far / 4 % 16) 0)
    else none

/-- A word of the buffer is returned. -/
def State.lineReturn (s : State) (a : FarAcc) : State :=
  match s.line a.win with
  | none => s
  | some x => s.setLine a.win (some { x with returned := setBit x.returned (a.far / 4 % 16) true })

/-- PREFETCH_TIMEOUT. -/
def State.prefetchTmo (s : State) (w : Nat) : State :=
  match s.line w with
  | none => s
  | some x => if x.at16 + s.pfTmo16 w < s.tb.local16 then s.discardLine w else s

/-! ## The far bus (R385, R386) -/

/-- The first waiting access of each page, in arrival order. -/
def pageHeads : List FarAcc → List FarAcc
  | [] => []
  | a :: as => a :: (pageHeads as).filter fun b => b.page != a.page

/-- A word of an access arrives at its operation; a complete operation is answered and leaves. -/
def State.opWord (s : State) (p id slot : Nat) (w : Word) (status : Nat) : State :=
  let x := s.page p
  match x.outstanding.find? fun o => o.id == id with
  | none => s
  | some o =>
    let o := { o with data := setAt o.data slot w, left := o.left - 1, status := max o.status status }
    let rest := x.outstanding.filter fun y => y.id != id
    if o.left = 0 then ((s.setPage p { x with outstanding := rest }).opPeakNow p).opAnswer p o
    else
      let same : HostOp → HostOp := fun y => if y.id = id then o else y
      s.setPage p { x with outstanding := x.outstanding.map same }

/-- An access answers its operation with `ws`, from its word on. -/
def State.accAnswer (s : State) (a : FarAcc) (ws : List Word) (status : Nat) : State :=
  match a.op with
  | none => s
  | some id => ws.zipIdx.foldl (fun t wk => t.opWord a.page id (a.slot + wk.2) wk.1 status) s

/-- The next access gets its turn: any page's first one, a free choice among pages; a read that the buffer serves
needs no tenure. -/
def State.nextAccess (s : State) : Nat → State
  | 0 => s
  | n + 1 =>
    let heads := pageHeads s.bridge.accs
    match heads[if heads.length ≤ 1 then 0 else Config.bridgePick s.freeCnt % heads.length]? with
    | none => s
    | some a =>
      let t := if heads.length ≤ 1 then s else s.useFree
      let t := { t with bridge := { t.bridge with accs := t.bridge.accs.erase a } }
      match a.kind, t.lineHit a with
      | .read, some w => ((t.lineReturn a).accAnswer a [w] 0).nextAccess n
      | _, _ =>
        let b := t.bridge
        { t with bridge := { b with cur := some a, phase := .requesting, req16 := t.tb.local16, retries := 0 } }

/-- A bridge that is idle takes the next access. -/
def State.bridgeKick (s : State) : State :=
  if s.bridge.cur.isSome then s else s.nextAccess (s.bridge.accs.length + 1)

/-- An access of a page arrives: a write or a locked sequence discards the window's buffer, a read of the buffer is
served at once if nothing of its page is ahead of it. -/
def State.accArrive (s : State) (a : FarAcc) : State :=
  let ahead := s.bridge.accs.any (fun b => b.page == a.page) || (match s.bridge.cur with
    | some b => b.page == a.page
    | none => false)
  match a.kind, s.lineHit a with
  | .read, some w =>
    if ahead then { s with bridge := { s.bridge with accs := s.bridge.accs ++ [a] } }
    else (s.lineReturn a).accAnswer a [w] 0
  | .read, none => State.bridgeKick { s with bridge := { s.bridge with accs := s.bridge.accs ++ [a] } }
  | _, _ =>
    let t := s.discardLine a.win
    State.bridgeKick { t with bridge := { t.bridge with accs := t.bridge.accs ++ [a] } }

/-- An operation becomes outstanding and its accesses arrive. -/
def State.opStart (s : State) (p : Nat) (o : HostOp) (as : List FarAcc) : State :=
  let t := (s.opPeak p).setPage p { s.page p with outstanding := (s.page p).outstanding ++ [o] }
  as.foldl State.accArrive t

/-- The turn ends: the bus is released, the next access follows. -/
def State.turnEnd (s : State) : State :=
  let t := { s with bridge := { s.bridge with cur := none, phase := .idle } }
  (t.setFld Reg.LBB_STATUS_BUS_OWNED 0).bridgeKick

/-- BUS_GRANT: LB_BG_N is low with the bus free, and the cycles of the access start. -/
def State.busGrant (s : State) : State :=
  match s.bridge.cur, s.bridge.phase with
  | some a, .requesting =>
    let t := { s with bridge := { s.bridge with phase := .owned } }
    let t := t.setFld Reg.LBB_STATUS_BUS_OWNED 1
    match a.kind with
    | .write => t.emit (.farCycle true a.far (farBe a.order a.be) (farWord a.order a.data) false a.timing)
    | .read =>
      if a.prefetch then
        (List.range 16).foldl (fun (t : State) k => t.emit (.farCycle false (a.far / 64 * 64 + 4 * k) 15 0 false a.timing)) t
      else t.emit (.farCycle false a.far (farBe a.order a.be) 0 false a.timing)
    | .atomic _ n => (List.range n).foldl (fun (t : State) k => t.emit (.farCycle false (a.far + 4 * k) 15 0 true a.timing)) t
    | .lrmw => t.emit (.farCycle false a.far 15 0 true a.timing)
  | _, _ => s

/-- What an AtomicOp leaves in its target; none: CAS does not match (R366, R388). -/
def atomicNew (k : AtomicKind) (old operand compare : Nat) (w : Nat) : Option Nat :=
  match k with
  | .fetchAdd => some ((old + operand) % 2 ^ w)
  | .swap => some (operand % 2 ^ w)
  | .cas => if old = compare % 2 ^ w then some (operand % 2 ^ w) else none

/-- How many words the tenure of an access reads. -/
def FarAcc.reads (a : FarAcc) : Nat :=
  match a.kind with
  | .write => 0
  | .read => if a.prefetch then 16 else 1
  | .atomic _ n => n
  | .lrmw => 1

/-- The words of a tenure are in: reads are answered, locked sequences write and are answered. -/
def State.tenure (s : State) (a : FarAcc) (ws : List Word) : State :=
  let hs := ws.map (farWord a.order)
  match a.kind with
  | .write => s
  | .read =>
    if a.prefetch then
      let t := s.discardLine a.win
      let t := t.setLine a.win (some { far := a.far / 64 * 64, words := hs, returned := 0, at16 := t.tb.local16 })
      (t.lineReturn a).accAnswer a [hs.getD (a.far / 4 % 16) 0] 0
    else s.accAnswer a hs 0
  | .atomic k n =>
    let old := leNat ((hs.map fun w => leBytes 4 w.toNat).flatten)
    let t := match atomicNew k old a.operand.toNat a.compare.toNat (32 * n) with
      | some v => (List.range n).foldl (fun (t : State) i =>
          t.emit (.farCycle true (a.far + 4 * i) 15 (farWord a.order (w32 (v / 2 ^ (32 * i)))) true a.timing)) s
      | none => s
    t.accAnswer a hs 0
  | .lrmw =>
    let x := hs.getD 0 0
    let mask := loWord a.compare
    let new := (x &&& ~~~mask) ||| (loWord a.operand &&& mask)
    let t := (s.wr (Reg.PG_LRMW_OLD a.page) x).emit (.farCycle true a.far 15 (farWord a.order new) true a.timing)
    (t.setFld (Reg.PG_LRMW_STATUS_BUSY a.page) 0).setFld (Reg.PG_LRMW_STATUS_DONE a.page) 1

/-- FAR_CYCLE_END: the last strobe of the tenure has risen, with the words it read. -/
def State.farEnd (s : State) (ws : List Word) : State :=
  match s.bridge.cur, s.bridge.phase with
  | some a, .owned => if ws.length < a.reads then s else (s.tenure a (ws.take a.reads)).turnEnd
  | _, _ => s

/-- WAIT_TMO in 2^-16 ns. -/
def State.waitTmo16 (s : State) : Nat := min 10000 (orElse (s.fld Reg.LBB_CTRL_WAIT_TMO) 1000) * us16

/-- WAIT_TMO (R391). -/
def State.waitTmo (s : State) : State :=
  match s.bridge.cur with
  | none => s
  | some a =>
    if s.bridge.req16 + s.waitTmo16 ≤ s.tb.local16 then
      let ones : Word := 0xFFFFFFFF
      let t := match a.kind with
        | .write => s
        | .read => s.accAnswer a [ones] 4
        | .atomic _ n => (s.accAnswer a (List.replicate n ones) 4).setFld (Reg.PG_LRMW_STATUS_TIMEOUT a.page) 1
        | .lrmw => (s.setFld (Reg.PG_LRMW_STATUS_BUSY a.page) 0).setFld (Reg.PG_LRMW_STATUS_TIMEOUT a.page) 1
      let t := (t.bump Reg.LBB_TMO_CNT).setFld Reg.LBB_STATUS_TIMEOUT_SEEN 1
      (t.postEvent 0x093 a.win (w32 a.far)).turnEnd
    else s

/-! ## Locked sequences of a page (R389) -/

/-- GO: one locked read-modify-write. -/
def State.lrmwGo (s : State) (p : Nat) : State :=
  if s.flag (Reg.PG_LRMW_STATUS_BUSY p) then s
  else
    let off := 4 * s.fld (Reg.PG_LRMW_ADDR_ADDR p)
    let w := off / 2 ^ 20 % 16
    if s.windowMay p w && s.flag (Reg.LBB_W_CFG_ATOMIC_EN w) then
      let a := { s.farAcc p .lrmw off with
        operand := (s.rd (Reg.PG_LRMW_VALUE p)).setWidth 64, compare := (s.rd (Reg.PG_LRMW_MASK p)).setWidth 64 }
      (s.setFld (Reg.PG_LRMW_STATUS_BUSY p) 1).accArrive a
    else (s.deny p true (Reg.PG_LRMW_CMD 0 % 2 ^ 20)).setFld (Reg.PG_LRMW_STATUS_DONE p) 1

/-! ## Inbound cycles (R392, R393) -/

/-- Bytes of a word replaced under byte enables. -/
def mergeBe (be : Nat) (old new : Word) : Word :=
  w32 (leNat ((List.range 4).map fun k =>
    (if bitOf be k then bytesAt (leBytes 4 new.toNat) k 1 else bytesAt (leBytes 4 old.toNat) k 1).headD 0))

/-- The address of word `w` of the inbound memory. -/
def inMem (w : Nat) : Nat := 0x1A4000 + 4 * w

/-- An inbound cycle is served from the inbound memory. -/
def State.inboundServe (s : State) (write : Bool) (w be : Nat) (data : Word) : State :=
  let order := s.flag Reg.LBB_CTRL_IN_ORDER
  let old := s.memWord (inMem w)
  let t := s.tick Reg.LBB_IN_CNT
  if write then
    let new := mergeBe (farBe order be) old (farWord order data)
    let t := t.setMemWord (inMem w) new
    if w = 0xFFF then t.postEvent 0x092 0 new else t
  else t.emit (.farReply (farWord order old))

/-- INBOUND_CYCLE: a bridge that requests the bus gives way and backs off (R393). -/
def State.inbound (s : State) (write : Bool) (w be : Nat) (data : Word) : State :=
  if s.flag Reg.LBB_BSTAT_RUN && s.flag Reg.LBB_CTRL_EN && s.flag Reg.LBB_CTRL_IN_EN then
    match s.bridge.phase with
    | .owned => s
    | .requesting =>
      let b := s.bridge
      let t := (s.bump Reg.LBB_RETRY_CNT).setFld Reg.LBB_STATUS_RETRY_SEEN 1
      let t := t.inboundServe write w be data
      { t with bridge := { b with
        phase := .backoff (s.tb.local16 + min 64 (2 ^ b.retries) * us16), retries := b.retries + 1 } }
    | _ => s.inboundServe write w be data
  else s

/-- BACKOFF_EXPIRY: the bridge requests the bus again. -/
def State.backoffEnd (s : State) : State :=
  match s.bridge.phase with
  | .backoff e => if e ≤ s.tb.local16 then { s with bridge := { s.bridge with phase := .requesting } } else s
  | _ => s

/-! ## Side-band interrupts (R394) -/

/-- POLL_US, at least 2. -/
def State.pollUs (s : State) : Nat := max 2 (min 1000 (orElse (s.fld Reg.LBB_POLL_POLL_US) 100))

/-- The state of line `l` has changed at a poll: an event, and its cell. -/
def State.lineChanged (s : State) (l : Nat) (active : Bool) : State :=
  let v := if active then 1 else 0
  let t := s.setFld ⟨Reg.LBB_INT_LEVEL, l, 1⟩ v
  let t := t.postEvent 0x091 l (w32 v)
  if t.flag (Reg.LBB_INT_CELL_CELL_EN l) then
    let n := t.fld (Reg.LBB_INT_CELL_CELL l)
    t.addWrites none [{ cell := n, op := .put (cellWord v (2 ^ stValid) (t.stampFor n t.stamp t.phaseStamps)) }]
  else t

/-- INT_POLL. -/
def State.intPoll (s : State) (levels : Nat) : State :=
  if s.flag Reg.LBB_BSTAT_RUN && s.flag Reg.LBB_CTRL_EN
      && decide (s.bridge.poll16 + s.pollUs * us16 ≤ s.tb.local16) then
    let t := { s with bridge := { s.bridge with poll16 := s.tb.local16 } }
    (List.range 16).foldl (fun t l =>
      let active := bitOf levels l != bitOf (t.fld Reg.LBB_INT_CFG_POL) l
      if bitOf (t.fld Reg.LBB_INT_CFG_EN) l && (active != bitOf (t.rd Reg.LBB_INT_LEVEL).toNat l) then t.lineChanged l active
      else t) t
  else s

end Sys2Proof.Machine
end

