-- ==== Sys2Proof/Machine/Paths.lean ====
section
/-!
DEFINITION. Paths of the pages (R362, R363, R372 to R375): which are up, failure and switch-over, PATH_SEL, heartbeat;
event-queue pops, flushes and level writes (R379 to R382).
-/

namespace Sys2Proof.Machine

/-- Path `x` is one of the page's paths. -/
def State.named (s : State) (p x : Nat) : Bool := x != 0 && (x == s.primary p || x == s.secondary p)
/-- PRI_UP or SEC_UP of a path of the page. -/
def State.pathIsUp (s : State) (p x : Nat) : Bool :=
  x != 0 && ((x == s.primary p && s.flag (Reg.PG_PATH_STATUS_PRI_UP p))
    || (x == s.secondary p && s.flag (Reg.PG_PATH_STATUS_SEC_UP p)))
/-- The path is shown up or down. -/
def State.showPath (s : State) (p x v : Nat) : State :=
  let t := if x = s.primary p then s.setFld (Reg.PG_PATH_STATUS_PRI_UP p) v else s
  if x = s.secondary p then t.setFld (Reg.PG_PATH_STATUS_SEC_UP p) v else t
def State.activePath (s : State) (p : Nat) : Nat := s.fld (Reg.PG_PATH_ACTIVE p)

/-- The lanes of path `x` serve: four lanes of a PCIe link, one of a host port (R460, Table 14.6). -/
def State.pathLanes (s : State) (x : Nat) : Bool :=
  if x = 1 ∨ x = 2 then (List.range 4).all fun k => s.laneServes (4 * (x - 1) + k)
  else if 4 ≤ x then s.laneServes (4 + x)
  else true

/-- A host Ethernet port's link goes up or down, at the rate of HOST_RATE25 (R363). -/
def State.hostLink (s : State) (x : Nat) (up : Bool) : State :=
  if 4 ≤ x then
    let port := 16 + (x - 4)
    let speed := if up then (if bitOf (s.optByte 0x28) (x - 4) then 6 else 5) else 0
    if s.flag (Reg.SWC_P_STATUS_LINK port) = up then s
    else
      let t := if up then s else s.ingressLost port
      ((t.setFld (Reg.SWC_P_STATUS_LINK port) (if up then 1 else 0)).setFld (Reg.SWC_P_STATUS_SPEED port) speed).linkEvent
        port
  else s

/-- The page's outstanding operations on path `x` are discarded (R373); an access already on the far bus ends without
an answer. -/
def State.dropOps (s : State) (p x : Nat) : State :=
  let gone := ((s.page p).outstanding.filter fun o => o.path == x).map fun o => o.id
  let lost : FarAcc → Bool := fun a => match a.op with
    | some id => gone.contains id
    | none => false
  let b := s.bridge
  let cur := match b.cur with
    | some a => if lost a then some { a with op := none } else some a
    | none => none
  let keepOp : HostOp → Bool := fun o => o.path != x
  let keepAcc : FarAcc → Bool := fun a => !lost a
  let keepHeld : Withheld → Bool := fun h => h.page != p || h.path != x
  let t := (s.setPage p { s.page p with outstanding := (s.page p).outstanding.filter keepOp }).opPeakNow p
  { t with bridge := { b with accs := b.accs.filter keepAcc, cur := cur, withheld := b.withheld.filter keepHeld } }

/-- A path becomes active: a running ashlar restarts on it, job rings learn of it (R125, R411). -/
def State.pathTake (s : State) (p x : Nat) : State :=
  let t := (s.setFld (Reg.PG_PATH_ACTIVE p) x).setFld (Reg.PG_PATH_STATUS_NO_PATH p) 0
  let t := t.setPage p { t.page p with selected := none }
  let t := match (t.page p).ashlar with
    | some a => t.restartAshlar p a
    | none => t
  (t.ringPath p 0).ringPath p 1

/-- Every queue with IE = 1 and LEVEL_HIT = 1 is signalled again. -/
def State.signalAgain (s : State) (p : Nat) : State :=
  (List.range 4).foldl (fun t q =>
    if t.flag (Reg.EQ_CTRL_IE p q) && t.flag (Reg.EQ_STATE_LEVEL_HIT p q) then t.signal p q else t) s

/-- PATH_SWITCH: the event, and MSI-X vector 4 on a PCIe path (R365, R373). -/
def State.pathSwitched (s : State) (p x : Nat) : State :=
  let t := (s.setFld (Reg.PG_PATH_STATUS_SWITCHED p) 1).bump (Reg.PG_SWITCH_CNT p)
  let t := t.postPage p 0x090 (p + 16 * x) 0
  if x ≤ 2 ∧ (t.page p).msixOn.getD (x - 1) false = true then t.emit (.msix p 4) else t

/-- A path of the page fails (R373, R375). -/
def State.pathDown (s : State) (p x : Nat) : State :=
  if !s.pathIsUp p x then s
  else
    let t := s.showPath p x 0
    if t.activePath p = x then
      let t := t.dropOps p x
      match [t.primary p, t.secondary p].find? fun y => t.pathIsUp p y with
      | some y => ((t.pathTake p y).signalAgain p).pathSwitched p y
      | none =>
        let t := (t.setFld (Reg.PG_PATH_ACTIVE p) 0).setFld (Reg.PG_PATH_STATUS_NO_PATH p) 1
        (t.ringPath p 0).ringPath p 1
    else t.dropOps p x

/-- PATH_FAIL: a PCIe link or function, a host port's link or both ring links go down (R372). -/
def State.pathFail (s : State) (p x : Nat) : State :=
  if s.named p x then (s.pathDown p x).hostLink x false else s

/-- HEARTBEAT_EXPIRY: no page access frame for HB_MS (R372). -/
def State.heartbeat (s : State) (p x : Nat) : State :=
  let hb := s.fld (Reg.PG_HB_HB_MS p)
  let heard := Tbl.get (fun _ => 0) (s.page p).lastHeard x
  if hb ≠ 0 ∧ 3 ≤ x ∧ s.named p x ∧ heard + hb * 1000 * us16 ≤ s.tb.local16 then s.pathDown p x else s

/-- A page access frame of page `p` has arrived on path `x`. -/
def State.heard (s : State) (p x : Nat) : State :=
  s.setPage p { s.page p with lastHeard := Tbl.set (fun _ => 0) (s.page p).lastHeard x s.tb.local16 }

/-- The ring path may be up (R372). -/
def State.ringPathOk (s : State) : Bool :=
  s.fld Reg.RNG_STATE_RING != 0 && (s.flag Reg.RNG_STATE_LINK_A || s.flag Reg.RNG_STATE_LINK_B)

/-- PATH_UP: a path comes up, and is taken if the page has none; if both come up in one clock, the primary (R375). -/
def State.pathUp (s : State) (p x : Nat) : State :=
  if !s.named p x || s.pathIsUp p x || (x == 3 && !s.ringPathOk) || (decide (x ≤ 2) && bitOf s.dev.perst (x - 1))
      || !s.pathLanes x then s
  else
    let t := ((s.showPath p x 1).hostLink x true).heard p x
    if t.activePath p = 0 || (x == t.primary p && (t.page p).took16 == some t.tb.local16) then
      let t := t.pathTake p x
      t.setPage p { t.page p with took16 := some t.tb.local16 }
    else t

/-- The path that PATH_SEL asked for becomes active once nothing is outstanding on the current one (R374). -/
def State.selectNow (s : State) (p : Nat) : State :=
  match (s.page p).selected with
  | none => s
  | some x =>
    let busy := (s.page p).outstanding.any fun o => o.path == s.activePath p
    if busy then s
    else if s.pathIsUp p x then s.pathTake p x
    else s.setPage p { s.page p with selected := none }

/-- PATH_SEL in PG_CMD (R374). -/
def State.pathSel (s : State) (p x : Nat) : State :=
  if s.named p x && s.pathIsUp p x then
    (if s.activePath p = x then s else (s.setPage p { s.page p with selected := some x }).selectNow p)
  else s.setFld (Reg.PG_PATH_STATUS_PATH_REFUSED p) 1

/-- Page selections that waited for their operations. -/
def State.selectAll (s : State) : State := (List.range 8).foldl (fun t p => t.selectNow p) s

/-! ## Event queues -/

/-- A pop of queue `q`: the entry, which leaves the queue; zero when it is empty (R379). -/
def State.eqPop (s : State) (p q : Nat) : State × DWord :=
  match (s.eq p q).entries with
  | [] => (s, 0)
  | e :: es =>
    let t := { s with eqs := Tbl.set (fun _ => { entries := [] }) s.eqs (4 * p + q) { entries := es } }
    (t.setFld (Reg.EQ_PEAK_PEAK p q) (max (s.fld (Reg.EQ_PEAK_PEAK p q)) es.length), e)

/-- FLUSH of EQ_CMD: the queue is emptied (R382). -/
def State.eqFlush (s : State) (p q : Nat) : State :=
  { s with eqs := Tbl.set (fun _ => { entries := [] }) s.eqs (4 * p + q) { entries := [] } }

/-- EQ_CTRL has been written: a LEVEL below the depth is a rise above LEVEL (R381). -/
def State.eqLevel (s : State) (p q : Nat) : State :=
  let d := (s.eq p q).entries.length
  if s.fld (Reg.EQ_CTRL_LEVEL p q) < d then
    let t := s.setFld (Reg.EQ_PEAK_PEAK p q) (max (s.fld (Reg.EQ_PEAK_PEAK p q)) d)
    t.levelRise p q
  else s

end Sys2Proof.Machine
end

