-- ==== Sys2Proof/Machine/Reset.lean ====
section
/-!
DEFINITION. Reset (R445 to R449, R453, R461, R474), the supplies, the buffer classes and PERST (R472, R476, R479, R483),
and the patrol scrubber with the effects of an uncorrectable codeword (R456 to R458, R462).
-/

namespace Sys2Proof.Machine

/-! ## What a reset keeps (Table 14.1) -/

/-- The bits of a register that every reset keeps: fuse fields, fields that stand in flash (the update record and the
archive, R431, R441), and the valid supplies of the field banks, which are no reset matter. -/
def keptAlways (a : Nat) : Nat :=
  if Reg.GEN_ORDER ≤ a ∧ a ≤ Reg.GEN_UNIT_ID2 then 0xFFFFFFFF
  else if a = Reg.GEN_VIO_STATE then 0xFFFF
  else if a = Reg.UPD_STATE then 0xF
  else if a = Reg.UPD_BUNDLE_ID ∨ a = Reg.UPD_PIECES ∨ a = Reg.UPD_NEW_FW_VERSION ∨ a = Reg.UPD_NEW_IMG_VERSION
    ∨ a = Reg.UPD_NEW_INFO ∨ a = Reg.UPD_ARCH then 0xFFFFFFFF
  else if a = Reg.UPD_FUSE then 0x7F
  else 0

/-- The bits of a register that a reset by RESET_N keeps besides: BOOTS, REPLACE, DEGRADED and REASON, the counts and the
items out of service, the backup registers. -/
def keptByPin (a : Nat) : Nat :=
  if a = Reg.HLT_RESET_CAUSE then 0xFF000000
  else if a = Reg.HLT_STATUS then 0x800000BF
  else if a = Reg.HLT_LASTING_CNT ∨ a = Reg.HLT_LOG_SEQ then 0xFFFFFFFF
  else if Reg.HLT_SPARE 0 ≤ a ∧ a < Reg.HLT_RETIRED 0 + 32 then 0xFFFFFFFF
  else if Reg.HLT_BACKUP 0 ≤ a ∧ a < Reg.HLT_BACKUP 0 + 64 then 0xFFFFFFFF
  else 0

/-- The bits of a register that a reset keeps. -/
def keptBits (por : Bool) (a : Nat) : Nat := keptAlways a ||| (if por then 0 else keptByPin a)

/-- The registers with a kept bit, in ascending order. -/
def keptRegs : List Nat :=
  (List.range 4).map (fun k => Reg.GEN_ORDER + 4 * k) ++ [Reg.GEN_VIO_STATE, Reg.UPD_STATE, Reg.UPD_BUNDLE_ID, Reg.UPD_PIECES,
    Reg.UPD_NEW_FW_VERSION, Reg.UPD_NEW_IMG_VERSION, Reg.UPD_NEW_INFO, Reg.UPD_FUSE, Reg.UPD_ARCH, Reg.HLT_RESET_CAUSE,
    Reg.HLT_STATUS, Reg.HLT_LASTING_CNT] ++ (List.range 16).map (fun k => Reg.HLT_SPARE 0 + 4 * k)
    ++ (List.range 16).map Reg.HLT_BACKUP ++ [Reg.HLT_LOG_SEQ]

/-- The registers after a reset: each at its reset value but for its kept bits. -/
def State.keptRegTbl (s : State) (por : Bool) : Tbl Word :=
  keptRegs.foldl (fun t a => Tbl.set regDefault t a (maskIn (regDefault a) (s.rd a) (keptBits por a))) []

/-- The byte memories after a reset: the fault log and the retained memory, unless it is a power-on. -/
def State.keptMem (s : State) (por : Bool) : Tbl Byte :=
  if por then [] else s.mem.filter fun kv => decide (0x193000 ≤ kv.1) && decide (kv.1 < 0x196000)

/-- What the health monitor keeps: retired items and rows, the transient history with its ages, the tests of spares and of
units whose spare carries their work, which start again, and the units that wait to take their work back
(notes/assumptions/124.md). -/
def State.keptHlt (s : State) : HltState :=
  let out := fun (t : Nat × Nat) => decide (t.1 < 256) && bitOf s.spared t.1 || t.1 / 65536 == 1
  { testing := s.hlt.testing.filter out
    history := s.hlt.history.map fun h => (h.1, h.2 - (s.tb.local16 : Int))
    remapped := s.hlt.remapped, badBanks := s.hlt.badBanks, badLanes := s.hlt.badLanes
    badSpares := s.hlt.badSpares, badEngines := s.hlt.badEngines
    badLinks := s.hlt.badLinks, toReturn := s.hlt.toReturn }

/-- The option store after a reset: a program that was under way leaves its target as it may be (R454). -/
def State.keptOpts (s : State) : Tbl Byte :=
  match s.hlt.program with
  | some (k, _, _) =>
    Tbl.setList memDefault s.opts (1024 * k) ((List.range 1024).map fun i => Config.badCopy (1024 * s.freeCnt + i))
  | none => s.opts

/-- Every die is reset, and stays so until the release (R447, R448). FIELD_READY is low (R449). -/
def State.resetClear (s : State) (por : Bool) : State :=
  let por := por || (s.dev.held && s.dev.por)
  { regs := s.keptRegTbl por, mem := s.keptMem por, flash := s.flash, out := s.out, freeCnt := s.freeCnt + 1
    stores := s.stores, archive := s.archive, spared := if por then 0 else s.spared
    hlt := if por then {} else s.keptHlt
    dev := { supplies := s.dev.supplies, classes := s.dev.classes, resetN := s.dev.resetN, held := true, por := por
             perst := s.dev.perst }
    upd := { stored := s.upd.stored }
    opts := s.keptOpts, nextId := s.nextId, pending := s.pending }

/-! ## Reset sources (R445, R447, R474) -/

/-- The bit of a supply of R445; a field supply has none. -/
def supplyBit : Supply → Option Nat
  | .vddCore => some 0
  | .vddPort => some 1
  | .vddSrd => some 2
  | .vddaSrd => some 3
  | .vio18 => some 4
  | .vddNvm => some 5
  | .vioF _ => none

/-- A VIO_F bank becomes valid or invalid (R479); an invalid bank has no latched class (R476), and the lines on it read low
(R478). -/
def State.vioSet (s : State) (n : Nat) (valid : Bool) : State :=
  let f : Fld := ⟨Reg.GEN_VIO_STATE, n, 1⟩
  if s.flag f = valid then s
  else
    let t := s.setFld f (if valid then 1 else 0)
    let t := if valid then t
      else ((List.range 48).filter fun b => unitVio (Reg.bankUnit b) == some n).foldl State.bankLow
        { t with dev := { t.dev with classes := t.dev.classes.set n 0 } }
    if t.dev.held then t else t.postEvent 0x0E9 n (if valid then 1 else 0)

/-- POWER_ON: a supply falls below its threshold. A field supply resets nothing (R478). -/
def State.supplyFalls (s : State) (x : Supply) : State :=
  match x with
  | .vioF n => s.vioSet n false
  | _ =>
    match supplyBit x with
    | some k => { s with dev := { s.dev with supplies := setBit s.dev.supplies k false } }.resetClear true
    | none => s

/-- SUPPLY_VALID: a supply rises above its threshold (R472). -/
def State.supplyRises (s : State) (x : Supply) : State :=
  match x with
  | .vioF n => s.vioSet n true
  | _ =>
    match supplyBit x with
    | some k => { s with dev := { s.dev with supplies := setBit s.dev.supplies k true } }
    | none => s

/-- RESET_N_FALL: a low level shorter than 150 ns is ignored, one of 250 ns or longer is a reset; between them the
manual says neither. -/
def State.resetFall (s : State) (lowNs : Nat) : State :=
  if lowNs < 150 then s
  else if 250 ≤ lowNs ∨ Config.resetGlitch lowNs then
    { s with dev := { s.dev with resetN := false } }.resetClear false
  else s

/-! ## Release (R446, R452, R461) -/

/-- A retired engine starts as RETIRED, and its buddy carries its recipes. -/
def State.enginesRetired (s : State) : State :=
  (List.range 8).foldl (fun t e =>
    if bitOf s.hlt.badEngines e then t.setRole e roleRetired
    else if bitOf s.hlt.badEngines (buddy e) then t.setRole e roleCarrying
    else t) s

/-- A mortar link with a lasting fault stays DOWN. -/
def State.linksRetired (s : State) : State :=
  s.hlt.badLinks.foldl (fun t l => t.setFld ⟨Reg.GEN_MORTAR_STATE, 2 * l, 2⟩ 2) s

/-- RESET_RELEASE. -/
def State.release (s : State) : State :=
  if s.dev.held ∧ s.dev.supplies = 63 then
    let por := s.dev.por
    let boots := if por then 0 else satTo 8 (s.fld Reg.HLT_RESET_CAUSE_BOOTS + 1)
    let t := { s with dev := { s.dev with resetN := true, held := false, por := false } }
    let t := t.setFld Reg.HLT_RESET_CAUSE_BOOTS boots
    let t := t.setFld (if por then Reg.HLT_RESET_CAUSE_POR else Reg.HLT_RESET_CAUSE_PIN) 1
    let t := t.optLoad
    let t := t.logFault fcReset 0 (t.rd Reg.HLT_RESET_CAUSE).toNat
    let t := t.setFld Reg.UPD_BANK_RUNNING (t.optByte 0x9 % 2)
    t.enginesRetired.linksRetired.updReset.replaceAgain
  else s

/-! ## Electrical inputs (R476, R483) -/

/-- The number of a buffer class. -/
def classCode : BufClass → Nat
  | .c18 => 1
  | .c25 => 2
  | .c33 => 3

/-- CLASS_LATCH: the latched class holds until the bank becomes invalid (R476). -/
def State.classLatch (s : State) (n : Nat) (c : BufClass) : State :=
  if s.flag ⟨Reg.GEN_VIO_STATE, n, 1⟩ ∧ s.dev.classes.getD n 0 = 0 then
    { s with dev := { s.dev with classes := s.dev.classes.set n (classCode c) } }
  else s

/-- A PCIe link is down: its paths fail on every page that names them (R372). -/
def State.pcieDown (s : State) (n : Nat) : State := (List.range 8).foldl (fun t p => t.pathFail p (n + 1)) s

/-- PERST: a low level holds the endpoint in reset, with MSI-X off, and fails the paths of the link on every page that
names them (R483). -/
def State.perst (s : State) (n : Nat) (low : Bool) : State :=
  let t := { s with dev := { s.dev with perst := setBit s.dev.perst n low } }
  if low && !t.dev.held then
    (List.range 8).foldl (fun (t : State) p =>
      t.setPage p { t.page p with msixOn := (t.page p).msixOn.set n false }) (t.pcieDown n)
  else t

/-! ## Detected errors of SerDes lanes (R459, R460) -/

/-- The link of a SerDes lane that is under test or retired is down (Table 14.6). -/
def State.laneLinkDown (s : State) (l : Nat) : State :=
  if l < 8 then s.pcieDown (l / 4)
  else if l < 12 then ((List.range 8).foldl (fun t p => t.pathFail p (l - 4)) s).hostLink (l - 4) false
  else if l < 14 then s.ringLinkDown (l - 12)
  else if 16 ≤ l then s.ethLink (l - 16) false 0 false
  else s

/-- UNIT_CHECK: a check finds an error of a unit, a spare or a lane. The other items have rows of their own. -/
def State.unitCheck (s : State) : Item → State
  | .unit u => s.unitError u.val
  | .spare n => s.spareError n.val
  | .lane n => if s.hlt.badLanes.contains n.val then s else (s.laneError n.val).laneLinkDown n.val
  | .engine _ | .bank _ | .mortar _ | .optCopy _ => s

/-! ## Detected errors of a memory bank (R457 to R462) -/

/-- All spare rows of a bank are in use. -/
def State.rowsUsed (s : State) (bank : Nat) : Bool :=
  decide (Config.spareRows bank ≤ (s.hlt.remapped.filter fun r => r.1 == bank).length)

/-- A lasting uncorrectable fault of a bank (R462, R464). -/
def State.bankLasting (s : State) (bank code : Nat) : State :=
  let t := { s with hlt := { s.hlt with badBanks := bank :: s.hlt.badBanks.filter fun b => b != bank } }
  t.lasting (0x30000 + bank) code

/-- A detected error of a bank: the row moves to a spare row and is tested; without a spare row it stays in service and
the bank has a lasting uncorrectable fault (R460, R462). -/
def State.bankError (s : State) (bank row code : Nat) : State :=
  let t := s.logFault code (0x30000 + bank) row
  if s.rowsUsed bank then t.bankLasting bank code
  else { t with hlt := { t.hlt with remapped := (bank, row) :: t.hlt.remapped } }.startTest (0x30000 + bank) code

/-! ## The effect of an uncorrectable codeword (Table 14.5) -/

/-- The frame of one saltern number leaves the queue `q` of port `p`. -/
def State.panGone (s : State) (p q fid : Nat) : State :=
  let x := s.queue p q
  if x.frames.any fun f => f.fid == fid then
    let hit := match x.frames with
      | f :: _ => f.fid == fid
      | [] => false
    let t := (s.cbsUpdate p q).panDrop fid
    let t := t.setQueue p q { t.queue p q with frames := x.frames.filter fun f => f.fid != fid }
    let t := t.showDepth p q
    if hit then t.wfqHead p q else t
  else s

/-- A port that is sending the frame ends it with a wrong FCS (R321). -/
def State.panStomp (s : State) (p fid : Nat) : State :=
  match (s.port p).sending with
  | some x =>
    if x.frame.fid = fid then
      ((s.emit (.ethTx p (withFcs x.frame.bytes true) true)).bump (Reg.SWC_P_CT_BAD p)).lineLost p
    else s
  | none => s

/-- A pan of a frame is lost: the frame is dropped at every egress that has not started it, and stomped where it is under
way. -/
def State.panLost (s : State) (fid : Nat) : State :=
  (List.range 24).foldl (fun t e => ((List.range 8).foldl (fun t k => t.panGone e k fid) t).panStomp e fid) s

/-- A frame of the hold buffer is dropped; the item leaves its slot (R402). -/
def State.holdLost (s : State) (k : Nat) : State :=
  match s.holdBuf[k]? with
  | none => s
  | some e =>
    let t := ({ s with holdBuf := s.holdBuf.eraseIdx k }).bump Reg.CPH_HOLD_DROP
    (if e.usable then t.keyEnd e.slot e.gen else t).showHold.holdNext

/-- Entry `k` of a queue is discarded as if it were overwritten: the entry after it gets GAP (Table 14.5;
notes/assumptions/176.md). -/
def loseEntry {α : Type} (gap : List α → List α) (k : Nat) (q : List α) : List α := q.take k ++ gap (q.drop (k + 1))

/-- GAP in the oldest of the receive-queue entries. -/
def rxGapHead : List (List Word) → List (List Word)
  | [] => []
  | o :: os => rxGap o :: os

/-- GAP in the oldest of the stamp entries. -/
def stampGapHead : List StampEntry → List StampEntry
  | [] => []
  | o :: os => { o with word := o.word ||| w32 (2 ^ 30) } :: os

/-- An entry of an event queue is lost (R380). -/
def State.eqLost (s : State) (p q k : Nat) : State :=
  let es := (s.eq p q).entries
  if k < es.length then
    ({ s with eqs := Tbl.set (fun _ => { entries := [] }) s.eqs (4 * p + q) { entries := loseEntry markGap k es } }).bump
      (Reg.EQ_LOST p q)
  else s

/-- An entry of a CAN receive queue is lost (R248). -/
def State.canRxLost (s : State) (n k : Nat) : State :=
  let x := s.canU n
  if k < x.rxq.length then (s.setCan n { x with rxq := loseEntry rxGapHead k x.rxq }).bump (Reg.CFD_RXQ_LOST n) else s

/-- A frame of a CAN gateway queue is lost (R201). -/
def State.canGwLost (s : State) (n k : Nat) : State :=
  let x := s.canU n
  if k < x.gwq.length then (s.setCan n { x with gwq := x.gwq.eraseIdx k }).bump (Reg.GWU_TXQ_DROP (Reg.canUnit n)) else s

/-- An item of a serial receive FIFO is lost (R285). -/
def State.laneRxLost (s : State) (n k : Nat) : State :=
  let x := s.lane n
  if k < x.rx.length then (s.setLane n { x with rx := loseEntry gapHead k x.rx }).bump (Reg.SLN_RX_LOST n) else s

/-- An item of a serial transmit FIFO is lost; the lane has no lost counter for it. -/
def State.laneTxLost (s : State) (n k : Nat) : State :=
  s.setLane n { s.lane n with tx := (s.lane n).tx.eraseIdx k }

/-- An entry of a stamp queue is lost (R332). -/
def State.stampLost (s : State) (p k : Nat) : State :=
  let x := s.port p
  if k < x.stamps.length then
    (s.setPort p { x with stamps := loseEntry stampGapHead k x.stamps }).bump (Reg.SWC_P_TS_LOST p)
  else s

/-- What an uncorrectable codeword of each memory does. No item reads a table entry at a patrol read, and a reloaded
entry is as it was. -/
def State.ueEffect (s : State) (bank : Nat) : MemKind → State
  | .cellSlot c k => s.slotLost c k
  | .pan p q k =>
    match (s.queue p q).frames[k]? with
    | some f => s.panLost f.fid
    | none => s
  | .panSent p =>
    match (s.port p).sending with
    | some x => s.panLost x.frame.fid
    | none => s
  | .hold k => s.holdLost k
  | .eventQueue p q k => s.eqLost p q k
  | .canRx n k => s.canRxLost n k
  | .laneRx n k => s.laneRxLost n k
  | .laneTx n k => s.laneTxLost n k
  | .canGateway n k => s.canGwLost n k
  | .stampQueue p k => s.stampLost p k
  | .table pushed => if pushed then s.bankLasting bank fcMemUe else s
  | .engine n => s.lockstep n
  | .retained w => (s.setMemWord (Reg.HLT_RETAINED w) 0).setFld Reg.HLT_RET_FLAGS_RET_UE 1
  | .backup k => (s.wr (Reg.HLT_BACKUP k) 0).setFld Reg.HLT_RET_FLAGS_RET_UE 1

/-- An uncorrectable codeword (R458). -/
def State.memUe (s : State) (bank row : Nat) (kind : MemKind) : State :=
  let t := (s.bump Reg.HLT_UE_CNT).postEvent 0x0E6 (0x30000 + bank) (w32 row)
  (t.bankError bank row fcMemUe).ueEffect bank kind

/-- The period of a patrol sweep in minutes: 0 acts as 1,440, others are clamped to 10 to 10,080 (R457). -/
def State.patrolMin (s : State) : Nat := clampTo 10 10080 (orElse (s.fld Reg.HLT_SCRUB_PERIOD_MIN) 1440)

/-- The slowest bank ends a sweep. A sweep takes PERIOD_MIN minutes, so none counts sooner after the one before (R457). -/
def State.patrolSweep (s : State) : State :=
  if s.hlt.sweep16 + s.patrolMin * (60 * 1000000 * us16) ≤ s.tb.local16 then
    { s.tick Reg.HLT_SCRUB_SWEEPS with hlt := { s.hlt with sweep16 := s.tb.local16 } }
  else s

/-- PATROL_READ. In a bank without spare rows a hard error is an uncorrectable one (R462). -/
def State.patrol (s : State) (bank row : Nat) (kind : MemKind) (res : PatrolResult) (sweepEnds : Bool) : State :=
  let t := match res with
    | .clean => s
    | .corrected => s.bump Reg.HLT_CE_CNT
    | .hardCorrected =>
      let t := (s.bump Reg.HLT_CE_CNT).bump Reg.HLT_HARD_CE_CNT
      if s.rowsUsed bank then t.memUe bank row kind else t.bankError bank row fcHardCe
    | .uncorrectable => s.memUe bank row kind
  if sweepEnds then t.patrolSweep else t

end Sys2Proof.Machine
end

