-- ==== Sys2Proof/Machine/View.lean ====
section
/-!
DEFINITION. What a read of a register shows: the register itself, or what the block shows in its place (Tables 2.9, 3.4,
3.9, 4.4, 4.8, 5.4, 7.14, 8.7, 9.6, 10.3, 11.5, 12.6, 13.5, 14.10), and the staged-value aliases (R84).
-/

namespace Sys2Proof.Machine

/-- A word with one field replaced. -/
def withBits (w : Word) (lsb width v : Nat) : Word := putBits w lsb width v

/-! ## Byte memories -/

/-- The address is a word of a byte memory: piece windows, inbound memory, option buffers, fault log, retained memory,
or engine memory outside the control areas. -/
def isMem (a : Nat) : Bool :=
  (decide (0x1B1000 ≤ a) && decide (a < 0x1B2000)) || (decide (0x181000 ≤ a) && decide (a < 0x182000))
    || (decide (0x1A4000 ≤ a) && decide (a < 0x1A8000)) || (decide (0x191000 ≤ a) && decide (a < 0x191400))
    || (decide (0x192000 ≤ a) && decide (a < 0x192400)) || (decide (0x193000 ≤ a) && decide (a < 0x196000))

/-! ## Device-wide blocks -/

/-- FULL_RELOAD of STR_STATE: the full image in shadow memory will perform a full reload. -/
def State.showsReload (s : State) : Bool :=
  (s.strState == strStaged || s.strState == strArmed) && s.flag Reg.STR_STATE_FULL && s.willReload

/-- FALLBACK_ACTIVE (R105). -/
def State.fallbackActive (s : State) : Bool :=
  let st := s.ptState (s.fld Reg.SIG_CADENCE_PT)
  s.flag Reg.SIG_BSTAT_RUN && s.fld Reg.SIG_CADENCE_MODE == 2 && (st == ptSearch || st == ptCapture)

/-- Cells whose newest committed version is stale. -/
def State.staleNow (s : State) : Nat := (s.cells.filter fun kv => cwBit (s.live kv.1) stStale).length

/-- SIG_PIN_ACTIVE. -/
def State.pinActive (s : State) : Nat :=
  ((List.range 8).map fun p =>
    flagBit (s.page p).ashlar.isSome (8 + p) + flagBit (s.flag (Reg.PSG_PIN_STATUS_PINNED p)) p).sum

/-- Registers of a tracker that follow the clock. -/
def State.showPhase (s : State) (a : Nat) (w : Word) : Word :=
  let n := (a - 0x120100) / 0x80
  match (a - 0x120100) % 0x80 with
  | 0x44 => w32 (s.ptPos n % 2 ^ 32)
  | 0x48 => w32 (s.ptPos n / mod24 % mod24)
  | 0x4C => w32 (s.hwShown n % 2 ^ 32)
  | 0x50 => w32 (s.hwShown n / mod24 % mod24)
  | 0x54 => s.ptRate n
  | _ => w

/-- OFFSET and what is left to slew, in 2^-16 ns (R160). -/
def State.showTime (s : State) (a : Nat) (w : Word) : Word :=
  let off := s.tb.offset16 + s.slewDone s.tb.local16
  let ns : DWord := BitVec.ofInt 64 (off / 65536)
  let left : DWord := BitVec.ofInt 64 (s.slewLeft / 65536)
  match a - 0x130000 with
  | 0x30 => loWord ns
  | 0x34 => hiWord ns
  | 0x38 => w32 (off % 65536).toNat
  | 0x50 => loWord left
  | 0x54 => hiWord left
  | _ => w

/-- The word of a sluice list that SWC_LIST_IDX selects: of the pending list or of the active one. -/
def State.listData (s : State) : Word :=
  let i := s.fld Reg.SWC_LIST_IDX_IDX
  let k := s.fld Reg.SWC_LIST_IDX_WORD
  if s.flag Reg.SWC_LIST_IDX_PENDING then w32 (s.pendW (i / 257) (i % 257) k)
  else w32 ((s.port (i / 257)).list.w (i % 257) k)

/-- What a device-wide register shows. -/
def State.showDev (s : State) (a : Nat) (w : Word) : Word :=
  if 0x120100 ≤ a ∧ a < 0x120300 then s.showPhase a w
  else if a / 0x10000 = 0x13 then s.showTime a w
  else if a = Reg.STR_STATE then withBits w 20 1 (if s.showsReload then 1 else 0)
  else if a = Reg.SIG_FLAGS then withBits w 2 1 (if s.fallbackActive then 1 else 0)
  else if a = Reg.SIG_STALE_NOW then w32 s.staleNow
  else if a = Reg.SIG_PIN_ACTIVE then w32 s.pinActive
  else if Reg.SIG_PIN_EPOCH 0 ≤ a ∧ a < Reg.SIG_PIN_EPOCH 8 then s.rd (Reg.PSG_PIN_EPOCH ((a - Reg.SIG_PIN_EPOCH 0) / 4))
  else if a = Reg.ACT_ARMED then w32 s.armedEntries.length
  else if a = Reg.SWC_LIST_DATA then s.listData
  else if 0x153000 ≤ a ∧ a < 0x157800 ∧ (a - 0x153000) % 0x60 = 8 then
    s.creditWord ((a - 0x153000) / 0x60 / 8) ((a - 0x153000) / 0x60 % 8)
  else if a = Reg.GEN_REGION_FLOOR then (if s.rd Reg.STR_GEN = 0 then 0 else w)
  else if 0x151000 ≤ a ∧ a < 0x152800 ∧ a % 0x100 = 0xC then
    withBits w 23 1 (if s.guarded ((a - 0x151000) / 0x100) then 1 else 0)
  else if a = Reg.RNG_CFG then withBits w 0 6 s.node
  else if a = Reg.RNG_SRC_STATE then
    let x := s.ringWin (s.fld Reg.RNG_SRC_IDX_SRC)
    w32 (flagBit x.active 31 + x.lane % 2 * 2 ^ 30 + x.hi % 65536)
  else if a = Reg.RNG_SRC_AGE then
    let x := s.ringWin (s.fld Reg.RNG_SRC_IDX_SRC)
    if x.active then satWord ((s.tb.local16 - x.last16) / us16) else 0
  else if a = Reg.CPH_POL_FV then w32 ((s.pol (s.fld Reg.CPH_POL_IDX_POLICY)).fv % 2 ^ 32)
  else if a = Reg.CPH_POL_GEN then
    let x := s.pol (s.fld Reg.CPH_POL_IDX_POLICY)
    w32 (flagBit x.none 16 + x.gen % 65536)
  else if a = Reg.UPD_BITMAP_DATA then
    w32 ((List.range 32).map fun j => flagBit (s.upd.stored.contains (32 * s.fld Reg.UPD_BITMAP_IDX_WORD + j)) j).sum
  else if a = Reg.UPD_BANK then withBits w 0 1 s.activeBank
  else if a = Reg.UPD_ARCH_DATA then
    (if s.archive.isSome then Config.archWord (s.fld Reg.UPD_ARCH_OFF_OFF) else 0)
  else if a = Reg.HLT_STATUS then withBits w 6 1 (if s.hlt.testing = [] then 0 else 1)
  else w

/-! ## Unit pages -/

/-- The mailboxes in one of two states, 32 of them from `m0` on. -/
def State.mbMask (s : State) (n m0 a b : Nat) : Word :=
  w32 ((List.range 32).map fun j => flagBit (s.mbState n (m0 + j) == a || s.mbState n (m0 + j) == b) j).sum

/-- CFD_MTX_STATE. -/
def State.mtxWord (s : State) (n : Nat) : Word :=
  let x := (s.canU n).mtx
  w32 (flagBit x.active 31 + flagBit x.pending 30 + x.cycle.getD 0 % 64 * 2 ^ 16 + x.window.getD 0 % 32 * 2 ^ 8
    + (if x.active then x.src else 0))

/-- What a register of a unit page shows. -/
def State.showUnit (s : State) (a : Nat) (w : Word) : Word :=
  let off := a % 0x2000
  match unitKind ((a - 0x200000) / 0x2000) with
  | .can n =>
    match off with
    | 0x40 => s.mbMask n 0 mbPending mbActive
    | 0x44 => s.mbMask n 32 mbPending mbActive
    | 0x48 => s.mbMask n 0 mbSuspended mbSuspended
    | 0x4C => s.mbMask n 32 mbSuspended mbSuspended
    | 0x180 => withBits w 0 8 (s.canU n).rxq.length
    | 0x184 => ((s.canU n).rxq.headD []).getD 0 0
    | 0x188 => w32 (s.canU n).gwq.length
    | 0x304 => s.mtxWord n
    | _ => w
  | .lane n =>
    match off with
    | 0x54 => w32 (s.smWord n (s.fld (Reg.SLN_TBL_IDX_IDX n)))
    | 0x100 => if s.laneDepth n = 0 then 0 else (s.lane n).rx.headD 0
    | 0x104 => withBits w 0 10 (s.laneDepth n)
    | 0x10C => w32 (s.laneTxDepth n)
    | _ => w
  | _ => w

/-! ## Pages -/

/-- What a register of page `p` shows. -/
def State.showPage (s : State) (a : Nat) (w : Word) : Word :=
  let p := (a - 0x3000000) / 0x100000
  let off := a % 0x100000
  let q := (off - 0x100) / 0x20
  if off = 0 then w32 (flagBit (p == s.owner) 31 + p)
  else if off = 4 then withBits (withBits w 0 3 (s.primary p)) 4 3 (s.secondary p)
  else if off = 0x14 then withBits w 0 6 (s.opCount p)
  else if 0x100 ≤ off ∧ off < 0x180 then
    match off % 0x20 with
    | 0 => loWord ((s.eq p q).entries.headD 0)
    | 0xC => withBits w 0 11 (s.eq p q).entries.length
    | _ => w
  else if off = 0x20800 then s.rd (Reg.CPH_GRANT_LO p)
  else if off = 0x20804 then s.rd (Reg.CPH_GRANT_HI p)
  else w

/-! ## Reads without effect -/

/-- STAGED of the status register of a block (Table 2.7). -/
def State.showBstat (s : State) (a : Nat) (w : Word) : Word := withBits w 3 1 (if s.stagedIn a then 1 else 0)

/-- What the register at `a` shows, before its access codes are judged. -/
def State.shown (s : State) (a : Nat) : Word :=
  let w := s.rd a
  if 0x110000 ≤ a ∧ a < 0x400000 ∧ blockOf a = a then s.showBstat a w
  else if a < 0x200000 then s.showDev a w
  else if a < 0x400000 then s.showUnit a w
  else if 0x3000000 ≤ a then s.showPage a w
  else w

/-- The value a read of register `a` returns: 0 for a reserved offset and for WO fields (R12, R49). -/
def State.peek (s : State) (a : Nat) : Word :=
  if 0x3000000 ≤ a ∧ (a % 0x100000 = 0x20800 ∨ a % 0x100000 = 0x20804) then s.shown a
  else
    match regAt a with
    | none => 0
    | some r => (if isMem a then s.memWord a else s.shown a) &&& ~~~(BitVec.ofNat 32 r.wo)

/-- A pop register: a read of it takes an entry away. -/
def isPop (a : Nat) : Bool :=
  if 0x200000 ≤ a ∧ a < 0x400000 then
    match unitKind ((a - 0x200000) / 0x2000) with
    | .can _ => a % 0x2000 == 0x184
    | .lane _ => a % 0x2000 == 0x100
    | _ => false
  else if 0x151000 ≤ a ∧ a < 0x152800 then a % 0x100 == 0xA0
  else decide (0x3000000 ≤ a) && decide (0x100 ≤ a % 0x100000) && decide (a % 0x100000 < 0x180) && a % 0x20 == 0

/-- What the staged-value alias of register `a` returns (R84). -/
def State.peekStaged (s : State) (a : Nat) : Word :=
  if isPop a then 0
  else (s.staged.filter fun x => x.addr == a).foldl (fun w x => maskIn w x.value x.mask) (s.peek a)

/-! ## Cell metadata (Table 3.4) -/

/-- The metadata word of cell `n`. -/
def State.metaWord (s : State) (n : Nat) : DWord :=
  let c := s.cell n
  let used := (c.vers.map fun v => 2 ^ v.slot).sum
  let newest := newestOf (c.vers.filter fun v => !laterW v.tag (s.rd Reg.SIG_EPOCH))
  let forming := c.vers.find? fun v => v.tag == s.forming
  let slotOf : Option Ver → Nat := fun v => (v.map fun v => v.slot).getD 0
  let base := match oldestOf c.vers with
    | some v => v.isBase
    | none => false
  let hi := s.map n 1 0 16 * 2 ^ 16 + s.map n 1 16 2 * 2 ^ 14 + s.map n 0 24 1 * 2 ^ 13 + s.map n 0 25 2 * 2 ^ 11
    + s.map n 2 10 1 * 2 ^ 10 + used * 2 ^ 6 + slotOf newest * 2 ^ 4 + slotOf forming * 2 ^ 2
    + flagBit forming.isSome 1 + flagBit base 0
  let lo := (c.vers.map fun v => v.tag.toNat % 256 * 2 ^ (8 * v.slot)).sum
  mkDWord (w32 lo) (w32 hi)

end Sys2Proof.Machine
end

