-- ==== Sys2Proof/Machine/Bus.lean ====
section
/-!
DEFINITION. A page's accesses to its window (R7 to R17, R45 to R50, R84, R114 to R116, R359 to R361, R455): what an
address names, who may read or write it, reads with their effects, and writes with what they do.
-/

namespace Sys2Proof.Machine

/-! ## The page address map (Tables 1.9 and 1.10) -/

/-- What an address of a page's window names. -/
inductive Target where
  | reg (a : Nat)
  /-- The staged-value alias of the register at `a`. -/
  | staged (a : Nat)
  /-- A word of the live view (0), the pinned view (1) or the metadata (2) of a cell. -/
  | cell (view n : Nat) (hi : Bool)
  /-- A word of engine memory. -/
  | mem (a : Nat)
  /-- Offset from 0x0100_0000. -/
  | bridge (off : Nat)
  | reserved
  | barred
  deriving DecidableEq, Repr

/-- The cell word at an offset of a view. -/
def cellTarget (view off : Nat) : Target := .cell view (off / 8) (bitOf off 2)

/-- The target of an access of page `p` at a word address. In option fail-safe only page 0 has a path (R455). -/
def State.target (s : State) (p addr : Nat) : Target :=
  if s.flag Reg.HLT_RESET_CAUSE_OPT_FAIL && p != 0 then .barred
  else if addr < 0x100000 then .reg (Reg.pageBase p + addr)
  else if addr < 0x1C0000 then (if addr % 0x10000 < 0x8000 then .reg addr else .staged (addr - 0x8000))
  else if addr < 0x200000 then .reserved
  else if addr < 0x400000 then (if addr % 0x2000 < 0x1000 then .reg addr else .staged (addr - 0x1000))
  else if addr < 0x500000 then cellTarget 0 (addr - 0x400000)
  else if addr < 0x600000 then cellTarget 1 (addr - 0x500000)
  else if addr < 0x700000 then cellTarget 2 (addr - 0x600000)
  else if addr < 0x1000000 then .reserved
  else if addr < 0x2000000 then .bridge (addr - 0x1000000)
  else if addr < 0x2240000 then
    (if p ≠ s.owner then .barred
     else if addr < 0x2200000 ∧ 0x3F000 ≤ addr % 0x40000 then .reg addr
     else .mem addr)
  else if addr < 0x3000000 then .reserved
  else if addr < 0x3800000 then (if p = s.owner then .reg addr else .barred)
  else .reserved

/-! ## The holding register (R9) -/

def State.holding (s : State) (p : Nat) : Holding := Tbl.get (fun _ => { src := none, hi := 0 }) s.hold p
/-- A low word has been read: the high word of the same value is copied. -/
def State.holdHigh (s : State) (p src : Nat) (hi : Word) : State :=
  { s with hold := Tbl.set (fun _ => { src := none, hi := 0 }) s.hold p { src := some src, hi := hi } }

/-- The low word of a 64-bit value (R9), also that of the page's copy of its grants (R424). -/
def isPair (a : Nat) : Bool :=
  (match regAt a with
    | some r => r.pair
    | none => false) || (decide (0x3000000 ≤ a) && a % 0x100000 == 0x20800)

/-- A high word as page `p` reads it: the copy if it came from this value, else the live one. -/
def State.highWord (s : State) (p low : Nat) (live : Word) : Word :=
  if (s.holding p).src = some low then (s.holding p).hi else live

/-! ## Reads -/

/-- The register has a field of access RC, or is a pop register of a unit page (R361). -/
def isRc (a : Nat) : Bool := match regAt a with
  | some r => r.rc != 0
  | none => false

/-- A peak that counts "since the last read" starts again at the present depth: the PEAK of a unit's or of the hold buffer's
queue, of outstanding operations, of an event queue, and the fewest free pans (R249, R287, R381, Tables 9.7, 11.5, 12.3). -/
def State.peakAgain (s : State) (a : Nat) : State :=
  if a = Reg.CPH_HOLD then s.setFld Reg.CPH_HOLD_PEAK s.holdUsed
  else if a = Reg.SWC_PANS then s.setFld Reg.SWC_PANS_MIN_FREE (s.fld Reg.SWC_PANS_FREE)
  else if 0x200000 ≤ a ∧ a < 0x400000 then
    match unitKind ((a - 0x200000) / 0x2000) with
    | .can n => if a = Reg.CFD_RXQ_STATE n then s.setFld (Reg.CFD_RXQ_STATE_PEAK n) (s.canU n).rxq.length else s
    | .lane n => if a = Reg.SLN_RX_DEPTH n then s.setFld (Reg.SLN_RX_DEPTH_PEAK n) (s.lane n).rx.length else s
    | _ => s
  else if 0x3000000 ≤ a then
    let p := (a - 0x3000000) / 0x100000
    let q := (a % 0x100000 - 0x100) / 0x20
    if a = Reg.PG_OUTSTANDING p then s.setFld (Reg.PG_OUTSTANDING_PEAK p) (s.opCount p)
    else if a = Reg.EQ_PEAK p q then s.setFld (Reg.EQ_PEAK_PEAK p q) (s.eq p q).entries.length
    else s
  else s

/-- The RC fields of a register are cleared (R12). -/
def State.clearRc (s : State) (a : Nat) : State := match regAt a with
  | some r => if r.rc = 0 then s else (s.wr a (s.rd a &&& ~~~(BitVec.ofNat 32 r.rc))).peakAgain a
  | none => s

/-- A read of a pop register takes its entry (R247, R284, R332, R379). -/
def State.popRead (s : State) (p a : Nat) : State × Word :=
  if a < 0x200000 then s.tsPop ((a - 0x151000) / 0x100)
  else if a < 0x400000 then
    match unitKind ((a - 0x200000) / 0x2000) with
    | .can n => s.canRxPop n
    | .lane n => s.laneRxPop n
    | _ => (s, 0)
  else
    let q := a % 0x100000 / 0x20 - 8
    let own := (a - 0x3000000) / 0x100000
    let r := s.eqPop own q
    ((r.1.wr (Reg.EQ_POP_HI own q) (hiWord r.2)).holdHigh p a (hiWord r.2), loWord r.2)

/-- A permitted read of a register by page `p`: pops, low words with their copy, high words, RC fields. -/
def State.regRead (s : State) (p a : Nat) : State × Word :=
  if isPop a then s.popRead p a
  else
    let w := s.peek a
    let t := s.clearRc a
    if isPair a then (t.holdHigh p a (s.peek (a + 4)), w)
    else if 4 ≤ a && isPair (a - 4) then (t, s.highWord p (a - 4) w)
    else (t, w)

/-- A 64-bit word of a cell view: live, pinned, or metadata (R97, R114, R118). -/
def State.viewRead (s : State) (p view n : Nat) : State × DWord :=
  match view with
  | 0 => (s, s.live n)
  | 1 => s.pinnedRead p n
  | _ => (s, s.metaWord n)

/-- The page-window address of a cell's low word in a view. -/
def viewAddr (view n : Nat) : Nat := 0x400000 + 0x100000 * view + 8 * n

/-- A 32-bit read of a cell view (R115). -/
def State.cellRead (s : State) (p view n : Nat) (hi : Bool) : State × Word :=
  if hi then
    if (s.holding p).src = some (viewAddr view n) then (s, (s.holding p).hi)
    else
      let r := s.viewRead p view n
      (r.1, hiWord r.2)
  else
    let r := s.viewRead p view n
    (r.1.holdHigh p (viewAddr view n) (hiWord r.2), loWord r.2)

/-- A 32-bit read by page `p`, but for bridge windows: the state, the word, and whether the access was permitted. -/
def State.busRead (s : State) (p addr : Nat) : State × Word × Bool :=
  match s.target p addr with
  | .reg a =>
    if 0x200000 ≤ a ∧ a < 0x400000 ∧ isRc a ∧ !s.mayUnit p ((a - 0x200000) / 0x2000) then (s.deny p false addr, 0, false)
    else
      let r := s.regRead p a
      (r.1, r.2, true)
  | .staged a => (s, s.peekStaged a, true)
  | .cell v n hi =>
    let r := s.cellRead p v n hi
    (r.1, r.2, true)
  | .mem a => (s, s.memWord a, true)
  | .bridge _ | .barred => (s.deny p false addr, 0, false)
  | .reserved => (s.hole p false addr, 0, false)

/-! ## Writes by class (R12, R16, R17, R86) -/

/-- The boundary of a B field is now: its unit or port is idle, no LIN schedule runs (R87), or its tracker is in SEARCH
or CAPTURE (Table 4.4). -/
def State.atBoundary (s : State) (a : Nat) (b : Bound) : Bool :=
  match b with
  | .frameEnd =>
    if 0x200000 ≤ a then s.unitIdle ((a - 0x200000) / 0x2000)
    else
      let p := (a - 0x151000) / 0x100
      (s.port p).sending.isNone && (s.port p).cut.isNone
  | .cycle =>
    match unitKind ((a - 0x200000) / 0x2000) with
    | .lane n => (s.lane n).slotDue16.isNone
    | _ => true
  | .course =>
    let st := s.ptState ((a - 0x120100) / 0x80)
    st == ptSearch || st == ptCapture
  | _ => false

/-- A write of CFD_MODE that is applied at once, at what looks like bus idle: the old MODE is kept for a frame that turns out
to be on the bus (R87). -/
def State.modeNoted (s : State) (a : Nat) : State :=
  match (if 0x200000 ≤ a then unitKind ((a - 0x200000) / 0x2000) else .mac 0) with
  | .can n =>
    if a = Reg.CFD_MODE n then s.setCan n { s.canU n with modeWas := some (s.rd a, s.tb.local16) } else s
  | _ => s

/-- A B field is written while its block runs: staged, the last write counts. -/
def State.stage (s : State) (x : Staged) : State :=
  let keep : Staged → Bool := fun y => y.addr != x.addr
  let t := { s with staged := s.staged.filter keep ++ [x] }
  if t.atBoundary x.addr x.bound then (t.modeNoted x.addr).applyStaged fun y => y.addr == x.addr else t

/-- Some bits of a register are written at once. -/
def State.wrMask (s : State) (a : Nat) (v : Word) (mask : Nat) : State :=
  if mask = 0 then s else s.wr a (maskIn (s.rd a) v mask)

/-- A write of a register, each field by its access code and change class. -/
def State.plainWrite (s : State) (a : Nat) (v : Word) : State :=
  match regAt a with
  | none => s
  | some r =>
    if isMem a then (if r.rwL ≠ 0 ∨ r.wo ≠ 0 then s.setMemWord a v else s)
    else
      let blocked := s.fBlocked a
      let t := s.wrMask a v (r.rwL ||| r.wo)
      let t := if r.rwF = 0 then t
        else if blocked then t.setFld (bstatRefused (blockOf a)) 1
        else t.wrMask a v r.rwF
      let t := if r.rwB = 0 then t
        else if blocked then t.stage { addr := a, mask := r.rwB, value := v, bound := r.bound }
        else t.wrMask a v r.rwB
      if r.w1c = 0 then t else t.wr a (t.rd a &&& ~~~(v &&& BitVec.ofNat 32 r.w1c))

/-! ## Command registers and what register writes do -/

/-- `f` for each bit set in `mask`. -/
def State.forBits (s : State) (n mask : Nat) (f : State → Nat → State) : State :=
  ((List.range n).filter (bitOf mask)).foldl f s

/-- `f` if the bit is 1. -/
def State.ifBit (s : State) (v : Word) (k : Nat) (f : State → State) : State := if bitOf v.toNat k then f s else s

/-- STR_CMD (Table 2.5). -/
def State.strCmd (s : State) (op : Nat) : State :=
  match op with
  | 1 => s.strLoad 0
  | 2 => s.strLoad 1
  | 3 => s.strLoad 2
  | 4 => s.strCommit
  | 5 => s.strAbort
  | 6 => s.saveSettings
  | _ => s.strIgnored

/-- A write in the STR block. -/
def State.writeStr (s : State) (a : Nat) (v : Word) : State :=
  if a = Reg.STR_CMD then s.strCmd (v.toNat % 16)
  else if a = Reg.STR_PIECE_DB then s.ifBit v 0 State.strPiece
  else if Reg.STR_UNIT_STOP 0 ≤ a ∧ a < Reg.STR_UNIT_STOP 8 then s.stopWrite ((a - Reg.STR_UNIT_STOP 0) / 4) v
  else s.plainWrite a v

/-- A write in the PHS block. A write that breaks the rules of a toothed wheel is refused (R137); clearing EN sends the
tracker to SEARCH (R145). -/
def State.writePhs (s : State) (a : Nat) (v : Word) : State :=
  if a = Reg.PHS_CMD then
    (s.forBits 4 v.toNat State.ptForce).forBits 4 (v.toNat / 16) State.ptHwReset
  else if a < 0x120100 ∨ 0x120300 ≤ a then s.plainWrite a v
  else
    let n := (a - 0x120100) / 0x80
    if a = Reg.PHS_GEOM n then
      if !s.ptOn n && s.ptKind n == 1 && !geomOk (getBits v 0 21) (getBits v 30 2) then s.setFld Reg.PHS_BSTAT_WRITE_REFUSED 1
      else s.plainWrite a v
    else if a = Reg.PHS_CFG n then
      let bad := !s.ptOn n && getBits v 0 2 == 1 && !geomOk (s.wheelCount n) (s.wheelGap n)
      let t := if bad then (s.plainWrite a (withBits v 0 2 (s.ptKind n))).setFld Reg.PHS_BSTAT_WRITE_REFUSED 1
        else s.plainWrite a v
      if s.ptOn n && !t.ptOn n then t.ptOff n else t
    else s.plainWrite a v

/-- A write in the TMB block. -/
def State.writeTmb (s : State) (a : Nat) (v : Word) : State :=
  if a = Reg.TMB_CMD then s.ifBit v 0 State.snap
  else if a = Reg.TMB_RATE then s.rateWrite v
  else if a = Reg.TMB_ADJ_LO ∧ s.flag Reg.TMB_CTRL_SERVO then s.setFld Reg.TMB_STATUS_ADJ_REFUSED 1
  else if a = Reg.TMB_ADJ_HI then s.adjWrite v
  else if a = Reg.TMB_SLEW then s.slewSettle.plainWrite a v
  else if a = Reg.TMB_CTRL then
    let t := s.plainWrite a v
    if t.flag Reg.TMB_CTRL_PPSO_EN && !s.flag Reg.TMB_CTRL_PPSO_EN then t.ppsArm else t
  else s.plainWrite a v

/-- ACT_CMD (R179). -/
def State.actCmd (s : State) (op e : Nat) : State :=
  match op with
  | 1 => s.actWrite e
  | 2 => s.actRead e
  | 3 => s.actArm e
  | 4 => s.actDisarm e
  | 5 => s.actDisarmAll
  | _ => s

/-- A write in the SWC block. -/
def State.writeSwc (s : State) (a : Nat) (v : Word) : State :=
  if a = Reg.SWC_CMD then
    (if getBits v 28 4 = 1 ∧ getBits v 16 5 < 24 then s.flushPort (getBits v 16 5) (getBits v 0 8) else s)
  else if 0x151000 ≤ a ∧ a < 0x152800 ∧ a % 0x100 = 0x10 then
    let p := (a - 0x151000) / 0x100
    if p < 22 then (s.ifBit v 0 fun t => t.listArm p).ifBit v 1 fun t => t.listStop p else s
  else if 0x153000 ≤ a ∧ a < 0x157800 ∧ (a - 0x153000) % 0x60 ≤ 4 then
    (s.cbsUpdate ((a - 0x153000) / 0x60 / 8) ((a - 0x153000) / 0x60 % 8)).plainWrite a v
  else s.plainWrite a v

/-- A write in the CPH block: key commands, and limits, which R407 judges at once. -/
def State.writeCph (s : State) (a : Nat) (v : Word) : State :=
  if a = Reg.CPH_KEY_CMD then
    match getBits v 28 4 with
    | 1 => s.keyWrite (getBits v 0 6) (getBits v 16 2)
    | 2 => s.keyErase (getBits v 0 6)
    | _ => s
  else
    let t := s.plainWrite a v
    if 0x171000 ≤ a ∧ a < 0x171800 ∧ (a % 0x20 = 0x10 ∨ a % 0x20 = 0x14) then
      let k := (a - 0x171000) / 0x20
      (t.keyWarn k).keyExhaust k
    else t

/-- UPD_CMD (Table 13.2). -/
def State.updCmd (s : State) (op : Nat) : State :=
  match op with
  | 1 => s.updArm
  | 2 => s.updActivate
  | 3 => (s.updConfirm (Config.verdict s.freeCnt)).useFree
  | 4 => s.updAbort
  | 5 => s.archClear
  | _ => s.updIgnored

/-- A write in the UPD block. -/
def State.writeUpd (s : State) (a : Nat) (v : Word) : State :=
  if a = Reg.UPD_CMD then s.updCmd (v.toNat % 16)
  else if a = Reg.UPD_PIECE_DB then s.ifBit v 0 State.updPiece
  else s.plainWrite a v

/-- HLT_CMD (R470). -/
def State.hltCmd (s : State) (op item : Nat) : State :=
  match op with
  | 1 => s.optProgram
  | 2 => s.optRead (item % 2)
  | 3 => s.forceSpare item
  | 4 => s.handBack item
  | _ => s

/-- A write in a device-wide block by the owner page. -/
def State.writeDev (s : State) (a : Nat) (v : Word) : State :=
  match a / 0x10000 with
  | 0x10 => if a = Reg.GEN_REGION_FLOOR then (s.plainWrite a v).floorFollow else s.plainWrite a v
  | 0x11 => if a = Reg.SIG_CMD then s.ifBit v 0 State.request else s.plainWrite a v
  | 0x12 => s.writePhs a v
  | 0x13 => s.writeTmb a v
  | 0x14 => if a = Reg.ACT_CMD then s.actCmd (getBits v 28 4) (getBits v 0 12) else s.plainWrite a v
  | 0x15 => s.writeSwc a v
  | 0x16 => if a = Reg.RNG_CMD then s.ifBit v 0 State.ringResume else s.plainWrite a v
  | 0x17 => s.writeCph a v
  | 0x18 => s.writeUpd a v
  | 0x19 => if a = Reg.HLT_CMD then s.hltCmd (getBits v 28 4) (getBits v 0 20) else s.plainWrite a v
  | 0x1A =>
    let t := s.plainWrite a v
    if 0x1A0100 ≤ a ∧ a < 0x1A0500 ∧ a % 0x40 = 4 then t.discardLine ((a - 0x1A0100) / 0x40) else t
  | 0x1B => s.writeStr a v
  | _ => s

/-- CFD_TX_REQ, CFD_TX_CANCEL, CFD_TX_RESUME: `f` for each mailbox of a mask. -/
def State.forMbs (s : State) (n mask : Nat) (f : State → Nat → Nat → State) : State :=
  (maskMbs mask).foldl (fun t m => f t n m) (s.mtxClose n)

/-- A write in the page of a CAN unit. -/
def State.writeCan (s : State) (n a : Nat) (v : Word) : State :=
  match a % 0x2000 with
  | 0x20 => (s.ifBit v 0 fun t => t.canRecover n).ifBit v 1 fun t => t.canResetBo n
  | 0x30 => s.forMbs n v.toNat State.mbRequest
  | 0x34 => s.forMbs n (v.toNat * 2 ^ 32) State.mbRequest
  | 0x38 => s.forMbs n v.toNat State.mbCancel
  | 0x3C => s.forMbs n (v.toNat * 2 ^ 32) State.mbCancel
  | 0x50 => s.forMbs n v.toNat State.mbResume
  | 0x54 => s.forMbs n (v.toNat * 2 ^ 32) State.mbResume
  | 0x60 =>
    (match getBits v 28 4 with
      | 1 => s.mbLoad n (getBits v 0 6)
      | 2 => s.mbRead n (getBits v 0 6)
      | _ => s)
  | 0x300 => (s.ifBit v 0 fun t => t.mtxArm n).ifBit v 1 fun t => t.mtxStop n
  | _ => s.plainWrite a v

/-- A write in the page of a serial lane. -/
def State.writeLane (s : State) (n a : Nat) (v : Word) : State :=
  match a % 0x2000 with
  | 0x44 => ((s.ifBit v 0 fun t => t.laneRxFlush n).ifBit v 1 fun t => t.laneTxFlush n).ifBit v 2 fun t => t.smReset n
  | 0x108 => s.laneTxPush n v
  | 0x2C => (s.plainWrite a v).laneFell n
  | _ => s.plainWrite a v

/-- A write in the page of a discrete bank: its lines follow their staging bits (R294). -/
def State.writeBank (s : State) (b a : Nat) (v : Word) : State :=
  let t := s.plainWrite a v
  if a % 0x2000 = 0x24 ∨ a % 0x2000 = 0x28 then t.bankFollow b else t

/-- A write in a unit register page. -/
def State.writeUnit (s : State) (a : Nat) (v : Word) : State :=
  match unitKind ((a - 0x200000) / 0x2000) with
  | .can n => s.writeCan n a v
  | .lane n => s.writeLane n a v
  | .bank b => s.writeBank b a v
  | .mac _ => s.plainWrite a v

/-- PSG_PIN_CMD (R117). -/
def State.pinCmd (s : State) (p op : Nat) : State :=
  match op with
  | 1 => s.pinNow p
  | 2 => s.pinAt p
  | 3 => s.unpin p
  | _ => s

/-- A write of a write-group register: while BUSY, entries and COUNT are not written (R129). -/
def State.groupReg (s : State) (p a : Nat) (v : Word) : State :=
  if s.flag (Reg.PSG_WG_STATUS_BUSY p) then s.setFld (Reg.PSG_WG_STATUS_BUSY_WRITE p) 1 else s.plainWrite a v

/-- A write of EQ_CTRL or EQ_CMD of a queue. -/
def State.writeEq (s : State) (p q a : Nat) (v : Word) : State :=
  if a = Reg.EQ_CMD p q then s.ifBit v 0 fun t => t.eqFlush p q
  else if a = Reg.EQ_CTRL p q then (s.plainWrite a v).eqLevel p q
  else s.plainWrite a v

/-- A write of a page's own registers, by the page or by the owner (R50). -/
def State.writePage (s : State) (p a : Nat) (v : Word) : State :=
  let off := a % 0x100000
  if off = 0x10 then s.pathSel p (v.toNat % 8)
  else if 0x100 ≤ off ∧ off < 0x180 then s.writeEq p ((off - 0x100) / 0x20) a v
  else if off = 0x20C then s.ifBit v 0 fun t => t.lrmwGo p
  else if off = 0x10000 then s.pinCmd p (v.toNat % 4)
  else if off = 0x10100 then (s.ifBit v 0 fun t => t.startAshlar p).ifBit v 1 fun t => t.ashlarCancel p
  else if off = 0x10404 then s.ifBit v 0 fun t => t.groupDoorbell p
  else if off = 0x10400 ∨ (0x11000 ≤ off ∧ off < 0x12000) then s.groupReg p a v
  else if off = 0x20000 ∨ off = 0x20100 then
    let r := off / 0x100 % 2
    (s.plainWrite a v).ringEnable p r (s.flag (Reg.PCJ_CTRL_EN p r))
  else if off = 0x20014 ∨ off = 0x20114 then s.ringProd p (off / 0x100 % 2) (v.toNat % 4096)
  else s.plainWrite a v

/-- A write of the control registers of a signal engine. -/
def State.writeSec (s : State) (a : Nat) (v : Word) : State :=
  let e := (a - 0x2000000) / 0x40000
  if a = Reg.SEC_CMD e then (s.ifBit v 0 fun t => t.forceTakeover e).ifBit v 1 fun t => t.secHandBack e
  else s.plainWrite a v

/-! ## Rights of writes -/

/-- Page `p` may write the register at `a` (R46, R50, R294, R361, R392, R455). -/
def State.mayWrite (s : State) (p a : Nat) : Bool :=
  if s.flag Reg.HLT_RESET_CAUSE_OPT_FAIL then a / 0x10000 == 0x19
  else if a < 0x200000 then
    p == s.owner || (decide (0x1A4000 ≤ a) && decide (a < 0x1A8000) && bitOf (s.fld Reg.LBB_IN_PAGES_PAGES) p)
  else if a < 0x400000 then
    match unitKind ((a - 0x200000) / 0x2000) with
    | .bank b =>
      if a = Reg.DSC_OUT_STAGE b then
        p == s.owner || (s.flag (Reg.DSC_OUT_MODE_OUT_PAGE_EN b) && s.fld (Reg.DSC_OUT_MODE_OUT_PAGE b) == p)
      else s.mayUnit p ((a - 0x200000) / 0x2000)
    | _ => s.mayUnit p ((a - 0x200000) / 0x2000)
  else if 0x3000000 ≤ a ∧ 0x20 ≤ a % 0x100000 ∧ a % 0x100000 < 0x40 then p == s.owner
  else true

/-- A permitted write of a register. -/
def State.regWrite (s : State) (a : Nat) (v : Word) : State :=
  if a < 0x200000 then s.writeDev a v
  else if a < 0x400000 then s.writeUnit a v
  else if a < 0x3000000 then s.writeSec a v
  else s.writePage ((a - 0x3000000) / 0x100000) a v

/-- A 32-bit write by page `p`, but for bridge windows: the state, and whether the access was permitted. Two points are the
model's own (DESIGN CHOICE, notes/assumptions/132.md): a staged-value alias ignores a write by any page and sets no flag,
also where the page may not write the register; a reserved offset inside a device-wide block or a unit page is DENIED to a
page without write rights there, as R46 and R48 have it, and only a page with rights meets R49. -/
def State.busWrite (s : State) (p addr : Nat) (v : Word) : State × Bool :=
  match s.target p addr with
  | .reg a => if s.mayWrite p a then (s.regWrite a v, true) else (s.deny p true addr, false)
  | .staged _ => (s, true)
  | .mem a => if s.flag Reg.HLT_RESET_CAUSE_OPT_FAIL then (s.deny p true addr, false) else (s.setMemWord a v, true)
  | .cell _ _ _ | .bridge _ | .barred => (s.deny p true addr, false)
  | .reserved => (s.hole p true addr, false)

end Sys2Proof.Machine
end

