-- ==== Sys2Proof/Machine/Live.lean ====
section
/-!
DEFINITION. How every command is answered: with a next state, whose queue is the one it was given; and how a command
register that a page writes is judged before its command acts.
-/

namespace Sys2Proof.Machine

/-- What a command answers. -/
abbrev Answer := Host.Outcome State Fault Refusal

/-- A command that acts whether or not the device is held in reset. -/
def always (s : State) (f : State → State) : Answer := .next { f s with pending := s.pending }

/-- A command that does nothing while the device is held in reset (R448); only a reset holds the device. -/
def live (s : State) (f : State → State) : Answer :=
  .next (if s.dev.held then s
    else
      let t := f s
      { t with pending := s.pending, dev := { t.dev with held := false } })

/-- The address in a page's window of the register at `a`. -/
def pageAddr (p a : Nat) : Nat := if a / 0x100000 = 48 + p then a % 0x100000 else a

/-- A command register at `a` is written by page `p` (R46, R50, R361, R455). -/
def State.onWrite (s : State) (p a : Nat) (f : State → State) : State :=
  match s.target p (pageAddr p a) with
  | .reg r => if s.mayWrite p r then f s else s.deny p true (pageAddr p a)
  | _ => s.deny p true (pageAddr p a)

end Sys2Proof.Machine
end

