-- ==== Sys2Proof/Machine/ExecAction.lean ====
section
/-!
DEFINITION. Scheduled actions as commands (chapter 5).
-/

namespace Sys2Proof.Machine

/-- WRITE in ACT_CMD (R179). -/
def execActWrite (page : PageNo) (e : ActNo) (s : State) : Answer :=
  live s fun s =>
    let t := s.onWrite page Reg.ACT_CMD fun t => t.actWrite e
    { s with regs := t.regs, acts := t.acts }

/-- READ in ACT_CMD (R179). -/
def execActRead (page : PageNo) (e : ActNo) (s : State) : Answer :=
  live s fun s =>
    let t := s.onWrite page Reg.ACT_CMD fun t => t.actRead e
    { s with regs := t.regs }

/-- ARM in ACT_CMD (R179). -/
def execActArm (page : PageNo) (e : ActNo) (s : State) : Answer :=
  live s fun s =>
    let t := s.onWrite page Reg.ACT_CMD fun t => t.actArm e
    { s with regs := t.regs, eqs := t.eqs, out := t.out, acts := t.acts, upd := t.upd }

/-- DISARM in ACT_CMD (R179). -/
def execDisarm (page : PageNo) (e : ActNo) (s : State) : Answer :=
  live s fun s =>
    let t := s.onWrite page Reg.ACT_CMD fun t => t.actDisarm e
    { s with regs := t.regs, acts := t.acts }

/-- DISARM_ALL in ACT_CMD (R179). -/
def execDisarmAll (page : PageNo) (s : State) : Answer :=
  live s fun s =>
    let t := s.onWrite page Reg.ACT_CMD State.actDisarmAll
    { s with regs := t.regs, acts := t.acts }

/-- The trigger message leaves (R176). -/
def execTriggerDispatch (e : ActNo) (s : State) : Answer :=
  live s fun s =>
    let t := s.dispatch e
    { s with acts := t.acts }

/-- A release is sealed (R177). -/
def execReleaseSealed (e : ActNo) (s : State) : Answer :=
  live s fun s =>
    let t := s.sealRelease e
    { s with acts := t.acts }

/-- A trigger message arrives (R176, R180). -/
def execTriggerMessageArrival (e : ActNo) (die : Fin 2) (s : State) : Answer :=
  live s fun s =>
    let t := s.messageArrives e die
    { s with
      regs := t.regs, eqs := t.eqs, out := t.out, sig := t.sig, mbs := t.mbs, can := t.can, banks := t.banks,
      acts := t.acts, upd := t.upd, nextId := t.nextId }

/-- The targets act (R174). -/
def execActionRelease (e : ActNo) (s : State) : Answer := live s fun s => s.actionRelease e

end Sys2Proof.Machine
end

