-- ==== Sys2Proof/Machine/Access.lean ====
section
/-!
DEFINITION. What hosts ask of their pages (R362, R364, R366 to R371, R375, R384, R388): PCIe reads, writes and
AtomicOps, page access frames, the outstanding operations, and the pins P0_IRQ_N and P1_IRQ_N (R365).
-/

namespace Sys2Proof.Machine

/-! ## Words of a page window -/

/-- What reading a run of words gave: the state, the words so far, whether one was forbidden, and the words still to
come from the far bus, each with its place and its offset in the bridge windows. -/
structure Gather where
  st : State
  words : List Word := []
  denied : Bool := false
  far : List (Nat × Nat) := []

/-- One more word of a run is read. -/
def Gather.word (g : Gather) (p addr : Nat) : Gather :=
  match g.st.target p addr with
  | .bridge off =>
    if g.st.windowMay p (off / 2 ^ 20) then { g with words := g.words ++ [0], far := g.far ++ [(g.words.length, off)] }
    else { g with st := g.st.deny p false addr, words := g.words ++ [0], denied := true }
  | _ =>
    let r := g.st.busRead p addr
    { g with st := r.1, words := g.words ++ [r.2.1], denied := g.denied || !r.2.2 }

/-- A read of `n` words of page `p` from `addr`, in ascending order. A 64-bit read of a cell view is one read (R115). -/
def State.gather (s : State) (p addr n : Nat) : Gather :=
  match s.target p addr, n with
  | .cell view cell false, 2 =>
    let r := s.viewRead p view cell
    { st := r.1, words := [loWord r.2, hiWord r.2] }
  | _, _ => (List.range n).foldl (fun g k => g.word p (addr + 4 * k)) { st := s }

/-- A write of a word of page `p`'s window (R386): the state, and whether it was permitted. -/
def State.putWord (s : State) (p addr : Nat) (be : Nat) (v : Word) : State × Bool :=
  match s.target p addr with
  | .bridge off =>
    if s.windowMay p (off / 2 ^ 20) then (s.accArrive { s.farAcc p .write off with be := be, data := v }, true)
    else (s.deny p true addr, false)
  | _ => s.busWrite p addr v

/-- The words of an atomic operand, low word first. -/
def atomicWords (n : Nat) (v : DWord) : List Word := (List.range n).map fun k => if k = 0 then loWord v else hiWord v

/-- What an atomic operation finds (R366, R388). -/
inductive AtomicTarget where
  | scratch (a : Nat)
  | window (off : Nat)
  | none
  deriving DecidableEq, Repr

/-- The target of an atomic operation of `n` words of page `p`: naturally aligned, its own PG_SCRATCH, or a window
with ATOMIC_EN. -/
def State.atomicTarget (s : State) (p addr n : Nat) : AtomicTarget :=
  if addr % (4 * n) ≠ 0 then .none
  else
    match s.target p addr with
    | .reg a => if Reg.PG_SCRATCH p 0 ≤ a ∧ a < Reg.PG_SCRATCH p 8 ∧ s.mayWrite p a = true then .scratch a else .none
    | .bridge off =>
      let w := off / 2 ^ 20
      if s.windowMay p w && s.flag (Reg.LBB_W_CFG_ATOMIC_EN w) then .window off else .none
    | _ => .none

/-- An atomic operation on PG_SCRATCH: the new state and the original value. -/
def State.scratchAtomic (s : State) (a : Nat) (k : AtomicKind) (n : Nat) (operand compare : DWord) :
    State × List Word :=
  let old := if n = 1 then [s.rd a] else [s.rd a, s.rd (a + 4)]
  let x := if n = 1 then (s.rd a).toNat else (s.rd64 a).toNat
  match atomicNew k x (operand.toNat % 2 ^ (32 * n)) compare.toNat (32 * n) with
  | none => (s, old)
  | some v => (if n = 1 then s.wr a (w32 v) else s.wr64 a (BitVec.ofNat 64 v), old)

/-! ## Operations (R371) -/

/-- An operation of page `p` that is answered at once. -/
def State.opAtOnce (s : State) (p path : Nat) (frame : Option (Nat × Nat × BitVec 48)) (addr : Nat) (data : List Word)
    (status : Nat) : State :=
  (s.opPeak p).opAnswer p
    { id := s.nextId, path := path, frame := frame, addr := addr, data := data, left := 0, status := status }

/-- An operation of page `p` with accesses on the far bus becomes outstanding. -/
def State.opFar (s : State) (p path : Nat) (frame : Option (Nat × Nat × BitVec 48)) (addr : Nat) (data : List Word)
    (status left : Nat) (as : List FarAcc) : State :=
  let id := s.nextId
  let tag : FarAcc → FarAcc := fun a => { a with op := some id }
  State.opStart { s with nextId := id + 1 } p
    { id := id, path := path, frame := frame, addr := addr, data := data, left := left, status := status } (as.map tag)

/-- A read of `n` words. -/
def State.opRead (s : State) (p path : Nat) (frame : Option (Nat × Nat × BitVec 48)) (addr n be : Nat) : State :=
  let g := s.gather p addr n
  let status := if g.denied then 2 else 0
  match g.far with
  | [] => g.st.opAtOnce p path frame addr g.words status
  | far =>
    g.st.opFar p path frame addr g.words status far.length
      (far.map fun ko => { g.st.farAcc p .read ko.2 with slot := ko.1, be := be })

/-- An atomic operation of `n` words. -/
def State.opAtomic (s : State) (p path : Nat) (frame : Option (Nat × Nat × BitVec 48)) (addr : Nat) (k : AtomicKind)
    (n : Nat) (operand compare : DWord) : State :=
  match s.atomicTarget p addr n with
  | .scratch a =>
    let r := s.scratchAtomic a k n operand compare
    r.1.opAtOnce p path frame addr r.2 0
  | .window off =>
    s.opFar p path frame addr (List.replicate n 0) 0 n
      [{ s.farAcc p (.atomic k n) off with operand := operand, compare := compare }]
  | .none => (s.deny p true addr).opAtOnce p path frame addr (List.replicate n 0) 2

/-- A PCIe request that has a slot is carried out. -/
def State.pcieRun (s : State) (h : Withheld) : State :=
  match h.req with
  | .read addr n => s.opRead h.page h.path none addr n 15
  | .bridge off be => s.opRead h.page h.path none (0x1000000 + off) 1 be
  | .atomic addr k n operand compare => s.opAtomic h.page h.path none addr k n operand compare

/-- The oldest withheld request of each PCIe link: it holds back those behind it. -/
def State.withheldHeads (s : State) : List Withheld :=
  ([0, 1, 2] : List Nat).filterMap fun l => s.bridge.withheld.find? fun x => x.path == l

/-- Withheld PCIe requests follow as slots free (R371). -/
def State.opAdmit (s : State) : Nat → State
  | 0 => s
  | n + 1 =>
    match s.withheldHeads.find? fun x => s.opRoom x.page with
    | none => s
    | some x => (State.pcieRun { s with bridge := { s.bridge with withheld := s.bridge.withheld.erase x } } x).opAdmit n

/-- Operations may have ended: withheld requests are admitted, paths that waited are selected (R371, R374). -/
def State.opsSettle (s : State) : State := (s.opAdmit s.bridge.withheld.length).selectAll

/-- The PCIe link that carries a request of page `p`: the active path, else the one that the page names. -/
def State.pcieLink (s : State) (p : Nat) : Nat :=
  let x := s.activePath p
  if x = 1 ∨ x = 2 then x
  else
    match [s.primary p, s.secondary p].find? fun y => y == 1 || y == 2 with
    | some y => y
    | none => 0

/-- A non-posted PCIe request arrives on link `path` (R371). -/
def State.pcieRequest (s : State) (p path : Nat) (r : PcieReq) : State :=
  let h : Withheld := { page := p, path := path, req := r }
  if s.opRoom p && !(s.bridge.withheld.any fun x => x.path == path) then (s.pcieRun h).opsSettle
  else { s with bridge := { s.bridge with withheld := s.bridge.withheld ++ [h] } }

/-- A read of `n` words by the host of page `p` over PCIe. -/
def State.hostRead (s : State) (p addr n : Nat) : State := s.pcieRequest p (s.pcieLink p) (.read addr n)
/-- A write by the host of page `p`. -/
def State.hostWrite (s : State) (p addr be : Nat) (v : Word) : State := (s.putWord p addr be v).1.opsSettle

/-- PCIE_ATOMICOP (R362, R366). -/
def State.pcieAtomic (s : State) (p path addr : Nat) (k : AtomicKind) (w : AtomicWidth) (operand compare : DWord) :
    State :=
  let n := if w = .w64 then 2 else 1
  if path ≠ 1 ∧ path ≠ 2 then s
  else if s.named p path then
    (if w = .w128 then s.emit (.unsupported p path) else s.pcieRequest p path (.atomic addr k n operand compare))
  else (s.deny p true addr).emit (.readData p addr (List.replicate (if w = .w128 then 4 else n) 0))

/-! ## Page access frames (R367 to R371) -/

/-- LEN is one that Table 11.2 gives the operation. -/
def pfLenOk (op len : Nat) : Bool :=
  match op with
  | 1 => decide (4 ≤ len) && decide (len ≤ 1024) && len % 4 == 0
  | 2 | 3 => decide (len ≤ 1024) && len % 4 == 0
  | 4 | 5 => len == 4 || len == 8
  | 6 => len == 8 || len == 16
  | 10 => len == 0
  | _ => false

/-- The frame keeps Tables 11.1 and 11.2; one shorter than its LEN does not. -/
def pfOk (f : PageFrame) : Bool :=
  f.ver == 1#4 && f.addr.toNat % 4 == 0 && pfLenOk f.op.toNat f.len.toNat
    && (f.op == 1#4 || decide (f.len.toNat ≤ f.data.length))

/-- Word `k` of the frame's data. -/
def pfWord (f : PageFrame) (k : Nat) : Word := w32 (leNat (bytesAt f.data (4 * k) 4))

/-- How a frame is answered: its OP, TAG and sender. -/
def pfBack (f : PageFrame) : Option (Nat × Nat × BitVec 48) := some (f.op.toNat, f.tag.toNat, f.src)

/-- A frame is answered with a status and no data. -/
def State.frameStatus (s : State) (x : Nat) (f : PageFrame) (status : Nat) : State :=
  s.emit (.paResp f.page x f.op.toNat status f.tag.toNat f.addr.toNat [] f.src)

/-- The words of a WRITE or WRITE_ACK, in address order; the Bool: all were permitted. -/
def State.frameWrite (s : State) (f : PageFrame) : State × Bool :=
  (List.range (f.len.toNat / 4)).foldl (fun sb k =>
    let r := sb.1.putWord f.page (f.addr.toNat + 4 * k) 15 (pfWord f k)
    (r.1, sb.2 && r.2)) (s, true)

/-- 32 or 64 bits of the frame's data from word `k` on. -/
def pfOperand (f : PageFrame) (k n : Nat) : DWord := mkDWord (pfWord f k) (if n = 2 then pfWord f (k + 1) else 0)

/-- A frame is executed. -/
def State.frameRun (s : State) (x : Nat) (f : PageFrame) : State :=
  let p : Nat := f.page
  let a := f.addr.toNat
  let n := f.len.toNat / 4
  match f.op.toNat with
  | 1 => s.opRead p x (pfBack f) a n 15
  | 2 => (s.frameWrite f).1
  | 3 =>
    let r := s.frameWrite f
    r.1.opAtOnce p x (pfBack f) a [] (if r.2 then 0 else 2)
  | 4 => s.opAtomic p x (pfBack f) a .fetchAdd n (pfOperand f 0 n) 0
  | 5 => s.opAtomic p x (pfBack f) a .swap n (pfOperand f 0 n) 0
  | 6 => s.opAtomic p x (pfBack f) a .cas (n / 2) (pfOperand f (n / 2) (n / 2)) (pfOperand f 0 (n / 2))
  | 10 => s.opAtOnce p x (pfBack f) a [s.peek (Reg.PG_PATH p), s.peek (Reg.PG_PATH_STATUS p)] 0
  | _ => s

/-- The operations of Table 11.2 that a host sends. -/
def hostOps : List Nat := [1, 2, 3, 4, 5, 6, 10]

/-- A page access frame arrives on path `x`, on the row of operation `op`. The management engine serves frames, and
none while it restarts (R462). -/
def State.pageFrame (s : State) (op x : Nat) (f : PageFrame) : State :=
  let p : Nat := f.page
  let o := f.op.toNat
  if x < 3 || !s.named p x || s.hlt.meDown || (x == 3 && !s.ringPathOk) then s
  else if o ≠ op ∧ hostOps.contains o = true then s
  else
    let t := s.heard p x
    if !pfOk f then t.frameStatus x f 3
    else if o ≠ 2 ∧ t.opRoom p = false then (t.frameStatus x f 1).bump (Reg.PG_BUSY_CNT p)
    else
      let t := t.setPage p { t.page p with lastSrc := Tbl.set (fun _ => 0) (t.page p).lastSrc x f.src }
      (t.frameRun x f).opsSettle

/-! ## Interrupt pins (R365) -/

/-- P0_IRQ_N (`l` = 0) or P1_IRQ_N (`l` = 1) is low. -/
def State.irqLow (s : State) (l : Nat) : Bool :=
  (List.range 8).any fun p =>
    s.activePath p == l + 1 && !(s.page p).msixOn.getD l false
      && (List.range 4).any fun q => s.flag (Reg.EQ_CTRL_IE p q) && s.flag (Reg.EQ_STATE_LEVEL_HIT p q)

end Sys2Proof.Machine
end

