-- ==== Sys2Proof/Machine/ExecCan.lean ====
section
/-!
DEFINITION. CAN units as commands (chapter 7).
-/

namespace Sys2Proof.Machine

/-- LOAD in CFD_MB_CMD (R236). -/
def execMbLoad (page : PageNo) (n : CanNo) (mb : MbNo) (s : State) : Answer :=
  live s fun s =>
    let t := s.onWrite page (Reg.canBase n + 0x60) fun t => t.mbLoad n mb
    { s with regs := t.regs, eqs := t.eqs, out := t.out, mbs := t.mbs, pols := t.pols, can := t.can }

/-- READ in CFD_MB_CMD (R261). -/
def execMbRead (page : PageNo) (n : CanNo) (mb : MbNo) (s : State) : Answer :=
  live s fun s =>
    let t := s.onWrite page (Reg.canBase n + 0x60) fun t => t.mbRead n mb
    { s with regs := t.regs }

/-- A write of CFD_TX_REQ (R503). -/
def execTxRequest (page : PageNo) (n : CanNo) (mask : DWord) (s : State) : Answer :=
  live s fun s =>
    let t := s.onWrite page (Reg.canBase n + 0x30) fun t => t.forMbs n mask.toNat State.mbRequest
    { s with regs := t.regs, eqs := t.eqs, out := t.out, can := t.can }

/-- A write of CFD_TX_CANCEL (R241). -/
def execTxCancel (page : PageNo) (n : CanNo) (mask : DWord) (s : State) : Answer :=
  live s fun s =>
    let t := s.onWrite page (Reg.canBase n + 0x38) fun t => t.forMbs n mask.toNat State.mbCancel
    { s with regs := t.regs, eqs := t.eqs, out := t.out, can := t.can }

/-- A write of CFD_TX_RESUME (R244). -/
def execTxResume (page : PageNo) (n : CanNo) (mask : DWord) (s : State) : Answer :=
  live s fun s =>
    let t := s.onWrite page (Reg.canBase n + 0x50) fun t => t.forMbs n mask.toNat State.mbResume
    { s with regs := t.regs, eqs := t.eqs, out := t.out, can := t.can }

/-- RECOVER in CFD_CMD (R257). -/
def execRecover (page : PageNo) (n : CanNo) (s : State) : Answer :=
  live s fun s =>
    let t := s.onWrite page (Reg.CFD_CMD n) fun t => t.canRecover n
    { s with regs := t.regs, can := t.can }

/-- RESET_BO in CFD_CMD (R257). -/
def execResetBo (page : PageNo) (n : CanNo) (s : State) : Answer :=
  live s fun s =>
    let t := s.onWrite page (Reg.CFD_CMD n) fun t => t.canResetBo n
    { s with regs := t.regs, can := t.can }

/-- ARM in CFD_MTX_CMD (R254). -/
def execMtxArm (page : PageNo) (n : CanNo) (s : State) : Answer :=
  live s fun s =>
    let t := s.onWrite page (Reg.CFD_MTX_CMD n) fun t => t.mtxArm n
    { s with regs := t.regs, can := t.can }

/-- STOP in CFD_MTX_CMD (R261). -/
def execMtxStop (page : PageNo) (n : CanNo) (s : State) : Answer :=
  live s fun s =>
    let t := s.onWrite page (Reg.CFD_MTX_CMD n) fun t => t.mtxStop n
    { s with regs := t.regs, can := t.can }

/-- The unit offers its best item at bus idle (R237). -/
def execStartOfFrame (n : CanNo) (s : State) : Answer :=
  live s fun s =>
    let t := s.canStart n
    { s with regs := t.regs, eqs := t.eqs, out := t.out, can := t.can, staged := t.staged }

/-- Arbitration is lost (R238). -/
def execArbitrationLost (n : CanNo) (s : State) : Answer :=
  live s fun s =>
    let t := s.canArbLost n
    { s with regs := t.regs, eqs := t.eqs, out := t.out, mbs := t.mbs, can := t.can }

/-- The end of frame passes without error (R239). -/
def execTransmissionComplete (n : CanNo) (loopDelay : BitVec 7) (s : State) : Answer :=
  live s fun s =>
    let t := s.canComplete n loopDelay.toNat
    { s with regs := t.regs, staged := t.staged, eqs := t.eqs, out := t.out, mbs := t.mbs, can := t.can }

/-- A bus error (R232, R243, R256). -/
def execBusError (n : CanNo) (kind : BusErrKind) (rule : ErrRule) (x : ErrSeen) (s : State) : Answer :=
  live s fun s =>
    let t := s.canError n kind rule x.clash (x.delay.map fun d => d.toNat)
    { s with regs := t.regs, staged := t.staged, eqs := t.eqs, out := t.out, mbs := t.mbs, can := t.can }

/-- DELAY_MS has passed (R257). -/
def execBusOffDelayExpiry (n : CanNo) (s : State) : Answer :=
  live s fun s =>
    let t := s.canDelayEnd n
    { s with can := t.can }

/-- The recovery sequence ends (R257). -/
def execRecoveryComplete (n : CanNo) (s : State) : Answer :=
  live s fun s =>
    let t := s.canRecovered n
    { s with regs := t.regs, eqs := t.eqs, out := t.out, can := t.can }

/-- A valid frame is received (R246). -/
def execCanFrameReceived (n : CanNo) (f : CanFrame) (ageNs : Nat) (s : State) : Answer :=
  live s fun s =>
    let t := s.canReceive n f ageNs
    { s with
      regs := t.regs, staged := t.staged, eqs := t.eqs, out := t.out, freeCnt := t.freeCnt, sig := t.sig,
      limits := t.limits, engines := t.engines, waking := t.waking, mbs := t.mbs, can := t.can, slots := t.slots,
      pols := t.pols, holdBuf := t.holdBuf, nextId := t.nextId, dev := t.dev }

/-- A read of CFD_RX_POP (R247). -/
def execRxPop (page : PageNo) (n : CanNo) (s : State) : Answer :=
  live s fun s =>
    let t := s.hostRead page (Reg.canBase n + 0x184) 1
    { s with
      regs := t.regs, hold := t.hold, eqs := t.eqs, out := t.out, freeCnt := t.freeCnt, pages := t.pages,
      can := t.can, lanes := t.lanes, ports := t.ports, bridge := t.bridge, rings := t.rings, nextId := t.nextId }

/-- The next basic cycle starts (R254). -/
def execMatrixCycleStart (n : CanNo) (s : State) : Answer :=
  live s fun s =>
    let t := s.mtxCycleStart n
    { s with regs := t.regs, eqs := t.eqs, out := t.out, can := t.can }

/-- A matrix window opens (R253). -/
def execWindowStart (n : CanNo) (w : Fin 32) (s : State) : Answer :=
  live s fun s =>
    let t := s.mtxWindow n w
    { s with regs := t.regs, can := t.can }

/-- 1.5 cycles without a reference (R255). -/
def execMtxRefMiss (n : CanNo) (s : State) : Answer :=
  live s fun s =>
    let t := s.mtxRefMiss n
    { s with regs := t.regs, eqs := t.eqs, out := t.out, can := t.can }

/-- A resynchronisation frame (R416). -/
def execResyncSend (policy : Fin 1024) (n : CanNo) (s : State) : Answer :=
  live s fun s =>
    let t := s.resyncSend policy n
    { s with
      regs := t.regs, eqs := t.eqs, out := t.out, freeCnt := t.freeCnt, mbs := t.mbs, pols := t.pols, can := t.can,
      dev := t.dev, waking := t.waking }

/-- An integrating unit sees bus idle (R233). -/
def execBusIntegration (n : CanNo) (s : State) : Answer :=
  live s fun s =>
    let t := s.canIntegrated n
    { s with regs := t.regs }

end Sys2Proof.Machine
end

