-- ==== Sys2Proof/Machine/ExecCipher.lean ====
section
/-!
DEFINITION. The cipher engine as commands (chapter 12).
-/

namespace Sys2Proof.Machine

/-- WRITE in CPH_KEY_CMD (R400). -/
def execKeyWrite (page : PageNo) (slot : SlotNo) (size : BitVec 2) (s : State) : Answer :=
  live s fun s =>
    let t := s.onWrite page Reg.CPH_KEY_CMD fun t => t.keyWrite slot size.toNat
    { s with regs := t.regs, slots := t.slots, pols := t.pols }

/-- ERASE in CPH_KEY_CMD (R403). -/
def execKeyErase (page : PageNo) (slot : SlotNo) (s : State) : Answer :=
  live s fun s =>
    let t := s.onWrite page Reg.CPH_KEY_CMD fun t => t.keyErase slot
    { s with regs := t.regs, eqs := t.eqs, out := t.out, slots := t.slots }

/-- The last item of an old key ends (R402). -/
def execKeyZeroise (slot : SlotNo) (s : State) : Answer :=
  live s fun s =>
    let t := s.keyZeroise slot
    { s with regs := t.regs, eqs := t.eqs, out := t.out, slots := t.slots }

/-- 90 % of LIMIT (R407). -/
def execKeyWarn (slot : SlotNo) (s : State) : Answer :=
  live s fun s =>
    let t := s.keyWarn slot
    { s with regs := t.regs, eqs := t.eqs, out := t.out }

/-- LIMIT is reached (R407). -/
def execKeyExhausted (slot : SlotNo) (s : State) : Answer :=
  live s fun s =>
    let t := s.keyExhaust slot
    { s with regs := t.regs, eqs := t.eqs, out := t.out }

/-- A write of PCJ_PROD (R408). -/
def execPcjProd (page : PageNo) (ring : Fin 2) (index : BitVec 12) (s : State) : Answer :=
  live s fun s =>
    let t := s.onWrite page (Reg.PCJ_PROD page ring) fun t => t.ringProd page ring index.toNat
    { s with regs := t.regs, eqs := t.eqs, out := t.out }

/-- A descriptor is fetched (R399, R406). -/
def execJobStart (page : PageNo) (ring : Fin 2) (desc : List Word) (s : State) : Answer :=
  live s fun s =>
    let t := s.jobStart page ring desc
    { s with regs := t.regs, eqs := t.eqs, out := t.out, slots := t.slots, rings := t.rings, jobTurn := t.jobTurn }

/-- A job ends (R410 to R412). -/
def execJobComplete (page : PageNo) (ring : Fin 2) (input : List Byte) (dmaErr : Bool) (s : State) : Answer :=
  live s fun s =>
    let t := s.jobComplete page ring input dmaErr
    { s with regs := t.regs, eqs := t.eqs, out := t.out, freeCnt := t.freeCnt, slots := t.slots, rings := t.rings }

end Sys2Proof.Machine
end

