-- ==== Sys2Proof/Machine/ExecDevice.lean ====
section
/-!
DEFINITION. Regions, mortar links and temperatures as commands (chapter 1).
-/

namespace Sys2Proof.Machine

/-- IDLE_HOLD of little work (R32). -/
def execRegionStepDown (r : Fin 8) (busyPct : Nat) (s : State) : Answer :=
  live s fun s =>
    let t := s.stepDown r busyPct
    { s with regs := t.regs, dev := t.dev }

/-- The table memories have woken (R33). -/
def execRegionMemoryWake (r : Fin 8) (s : State) : Answer :=
  live s fun s =>
    let t := s.memoryWake r
    { s with regs := t.regs, waking := t.waking, dev := t.dev }

/-- A release less than 10 µs ahead (R34). -/
def execRegionHold (e : ActNo) (s : State) : Answer :=
  live s fun s =>
    let t := s.regionHold e
    { s with regs := t.regs, waking := t.waking, dev := t.dev }

/-- A codeword arrives (R37, R38). -/
def execCodewordReceived (link : Fin 4) (c : Codeword) (s : State) : Answer :=
  live s fun s =>
    let t := s.codeword link c
    { s with regs := t.regs, dev := t.dev }

/-- Eight replays have failed (R38, R40). -/
def execLinkDown (link : Fin 4) (s : State) : Answer :=
  live s fun s =>
    let t := s.linkDown link
    { s with
      regs := t.regs, mem := t.mem, eqs := t.eqs, out := t.out, mbs := t.mbs, can := t.can, lanes := t.lanes,
      banks := t.banks, ports := t.ports, saltern := t.saltern, sig := t.sig, engines := t.engines, dev := t.dev,
      acts := t.acts, queues := t.queues }

/-- A DOWN link is retrained (R39). -/
def execLinkRetrain (link : Fin 4) (trains : Bool) (s : State) : Answer :=
  live s fun s =>
    let t := s.linkRetrain link trains
    { s with hlt := t.hlt, dev := t.dev }

/-- The dies report their temperatures (R42, R43). -/
def execTempMeasure (core pd0 pd1 : BitVec 16) (s : State) : Answer :=
  live s fun s =>
    let t := s.tempMeasure core.toNat pd0.toNat pd1.toNat
    { s with regs := t.regs, eqs := t.eqs, out := t.out, dev := t.dev }

/-- The initial training ends (R51). -/
def execMortarLinkUp (link : Fin 4) (s : State) : Answer :=
  live s fun s =>
    let t := s.linkUp link
    { s with regs := t.regs }

end Sys2Proof.Machine
end

