-- ==== Sys2Proof/Machine/Verify.lean ====
section
/-!
DEFINITION. VERIFICATION_COMPLETE: the oldest frame of the hold buffer is verified and released, or fails (R212, R213,
R414, R415, R421).
-/

namespace Sys2Proof.Machine

/-- Identifier and IDE of a CAN item. -/
def ChainItem.canId (item : ChainItem) : Nat × Bool :=
  match item.can with
  | some f => (f.ident.toNat, f.ide)
  | none => (0, false)

/-- The verdict on an entry of the hold buffer (R415). -/
def State.verdict (s : State) (e : HoldEntry) : Verdict :=
  let p := s.pol e.policy
  let last : PolState := if s.slotGen e.slot = e.gen then p else {}
  if !e.usable then .fail
  else
    match e.kind with
    | .chain item _ =>
      let f := item.canId
      verifyCan e.key last.fv (s.polMac e.tgen e.policy) (s.polBits e.tgen e.policy) f.1 f.2 item.payload
    | .after _ _ => .fail
    | .eth _ _ _ _ bs => verifyEth e.key last (s.polMac e.tgen e.policy) (s.polW e.tgen e.policy 6) bs

/-- A verified frame is released to its chain or to forwarding. -/
def State.releaseHeld (s : State) (e : HoldEntry) : State :=
  match e.kind with
  | .chain item route | .after item route => s.startChain item route
  | .eth p filter stamps rx16 bs =>
    s.actOn State.startChain e.tgen p { rx16 := rx16 } (some filter) stamps (8 + s.polMac e.tgen e.policy) bs

/-- A failed frame: rejected versions for its chain; it is forwarded nowhere (R213, R415). -/
def State.rejectHeld (s : State) (e : HoldEntry) : State :=
  match e.kind with
  | .chain item route => s.rejectChain item route
  | .after item route => s.startChain item route
  | .eth p filter stamps _ bs =>
    match s.sfChain e.tgen filter with
    | some r =>
      let pay := ethPayload bs
      s.rejectChain (ethItem stamps e.tgen p filter (pay.take (pay.length - 8 - s.polMac e.tgen e.policy)) (wireLen bs)) r
    | none => s

/-- The receive-queue entry of a verified or failed CAN frame. -/
def State.queueHeld (s : State) (e : HoldEntry) (ok : Bool) : State :=
  match e.kind, e.rxq with
  | .chain item _, some (n, i) =>
    match item.can with
    | some f => s.rxPush n f item.payload item.time i false ok (!ok)
    | none => s
  | _, _ => s

/-- VERIFICATION_COMPLETE: of the oldest frame. The items of its source that waited behind it go on (R214). -/
def State.verifyHeld (s : State) : State :=
  match s.holdBuf with
  | [] => s
  | e :: rest =>
    let v := s.verdict e
    let ok := match v with
      | .ok _ => true
      | _ => false
    let t := ({ s with holdBuf := rest }).showHold.settle e.policy e.slot e.gen v
    let t := if ok then t.releaseHeld e else t.rejectHeld e
    let t := t.queueHeld e ok
    (if e.usable then t.keyEnd e.slot e.gen else t).holdNext

end Sys2Proof.Machine
end

