-- ==== Sys2Proof/Machine/ExecGateway.lean ====
section
/-!
DEFINITION. The gateway and the signal engines as commands (chapter 6).
-/

namespace Sys2Proof.Machine

/-- The second pass of a chain (R196). -/
def execRouteSecondPass (s : State) : Answer :=
  live s fun s =>
    let t := s.secondPass
    { s with
      regs := t.regs, eqs := t.eqs, out := t.out, sig := t.sig, limits := t.limits, pdus := t.pdus,
      engines := t.engines, mbs := t.mbs, can := t.can, lanes := t.lanes, queues := t.queues, ports := t.ports,
      saltern := t.saltern, pduSeq := t.pduSeq, slots := t.slots, pols := t.pols, holdBuf := t.holdBuf,
      nextId := t.nextId, dev := t.dev, freeCnt := t.freeCnt, staged := t.staged, waking := t.waking }

/-- HOLD_US of an open PDU (R203). -/
def execPduHoldExpiry (route : Fin 32768) (s : State) : Answer :=
  live s fun s =>
    let t := s.pduExpire route
    { s with
      regs := t.regs, eqs := t.eqs, out := t.out, sig := t.sig, limits := t.limits, pdus := t.pdus,
      engines := t.engines, queues := t.queues, ports := t.ports, saltern := t.saltern, slots := t.slots,
      holdBuf := t.holdBuf, nextId := t.nextId, dev := t.dev, waking := t.waking }

/-- MIN_GAP ends (R207). -/
def execEventGapExpiry (route : Fin 32768) (s : State) : Answer :=
  live s fun s =>
    let t := s.eventGap route
    { s with evRoutes := t.evRoutes }

/-- A verification ends (R414). -/
def execVerificationComplete (s : State) : Answer :=
  live s fun s =>
    let t := s.verifyHeld
    { s with
      regs := t.regs, eqs := t.eqs, out := t.out, sig := t.sig, limits := t.limits, engines := t.engines,
      can := t.can, queues := t.queues, ports := t.ports, saltern := t.saltern, slots := t.slots, pols := t.pols,
      holdBuf := t.holdBuf, nextId := t.nextId, dev := t.dev, waking := t.waking }

/-- An engine runs an invocation (R217). -/
def execRecipeInvocation (engine : Fin 8) (code : List SeInstr) (s : State) : Answer :=
  live s fun s =>
    let t := s.recipeRun engine code
    { s with regs := t.regs, mem := t.mem, sig := t.sig, engines := t.engines, nextId := t.nextId }

/-- An invocation exceeds BUDGET (R218). -/
def execRecipeOverrun (engine : Fin 8) (s : State) : Answer :=
  live s fun s =>
    let t := s.recipeOverrun engine
    { s with regs := t.regs, mem := t.mem, sig := t.sig, engines := t.engines }

/-- A lockstep mismatch (R223, R462). -/
def execLockstepMismatch (engine : Fin 9) (s : State) : Answer :=
  live s fun s =>
    let t := s.lockstep engine
    { s with regs := t.regs, mem := t.mem, sig := t.sig, engines := t.engines, hlt := t.hlt }

/-- FORCE_TAKEOVER in SEC_CMD (R227). -/
def execForceTakeover (page : PageNo) (engine : Fin 8) (s : State) : Answer :=
  live s fun s =>
    let t := s.onWrite page (Reg.SEC_CMD engine) fun t => t.forceTakeover engine
    { s with regs := t.regs, mem := t.mem, sig := t.sig, engines := t.engines }

/-- HAND_BACK in SEC_CMD (R227). -/
def execSecHandBack (page : PageNo) (engine : Fin 8) (s : State) : Answer :=
  live s fun s =>
    let t := s.onWrite page (Reg.SEC_CMD engine) fun t => t.secHandBack engine
    { s with regs := t.regs, engines := t.engines }

/-- The busy fraction of 100 µs (R226). -/
def execLoadWindow (engine : Fin 8) (busyPct : BitVec 8) (s : State) : Answer :=
  live s fun s =>
    let t := s.loadWindow engine busyPct.toNat
    { s with regs := t.regs }

end Sys2Proof.Machine
end

