-- ==== Sys2Proof/Machine/ExecHealth.lean ====
section
/-!
DEFINITION. Reset, options, health and supplies as commands (chapters 14 and 15). Supplies, pins and resets act while the
device is held in reset as well.
-/

namespace Sys2Proof.Machine

/-- A supply falls below its threshold (R445). -/
def execPowerOn (x : Supply) (s : State) : Answer := always s fun s => s.supplyFalls x

/-- RESET_N low (R447). -/
def execResetNFall (lowNs : Nat) (s : State) : Answer := always s fun s => s.resetFall lowNs

/-- The device is released (R446). -/
def execResetRelease (s : State) : Answer :=
  always s fun s =>
    let t := s.release
    { s with regs := t.regs, mem := t.mem, eqs := t.eqs, out := t.out, dev := t.dev, upd := t.upd }

/-- OPT_PROGRAM in HLT_CMD (R454). -/
def execOptProgram (page : PageNo) (s : State) : Answer :=
  live s fun s =>
    let t := s.onWrite page Reg.HLT_CMD State.optProgram
    { s with regs := t.regs, hlt := t.hlt }

/-- The option copy is written and read back (R454). -/
def execOptProgramComplete (ok : Bool) (s : State) : Answer :=
  live s fun s =>
    let t := s.optProgrammed ok
    { s with regs := t.regs, eqs := t.eqs, out := t.out, freeCnt := t.freeCnt, hlt := t.hlt, opts := t.opts }

/-- OPT_READ in HLT_CMD (R470). -/
def execOptRead (page : PageNo) (copy : Fin 2) (s : State) : Answer :=
  live s fun s =>
    let t := s.onWrite page Reg.HLT_CMD fun t => t.optRead copy
    { s with regs := t.regs, mem := t.mem }

/-- FORCE_SPARE in HLT_CMD (R470). -/
def execForceSpare (page : PageNo) (item : BitVec 20) (s : State) : Answer :=
  live s fun s =>
    let t := s.onWrite page Reg.HLT_CMD fun t => t.forceSpare item.toNat
    { s with
      regs := t.regs, eqs := t.eqs, out := t.out, spared := t.spared, mbs := t.mbs, can := t.can, lanes := t.lanes }

/-- HAND_BACK in HLT_CMD (R463). -/
def execHandBack (page : PageNo) (item : BitVec 20) (s : State) : Answer :=
  live s fun s =>
    let t := s.onWrite page Reg.HLT_CMD fun t => t.handBack item.toNat
    { s with regs := t.regs, eqs := t.eqs, out := t.out, spared := t.spared, hlt := t.hlt }

/-- The scrubber reads a codeword (R456 to R458). -/
def execPatrolRead (bank : Fin 65536) (row : BitVec 24) (kind : MemKind) (res : PatrolResult)
    (sweepEnds : Bool) (s : State) : Answer :=
  live s fun s =>
    let t := s.patrol bank row.toNat kind res sweepEnds
    { s with
      regs := t.regs, mem := t.mem, eqs := t.eqs, out := t.out, cells := t.cells, sig := t.sig, pages := t.pages,
      engines := t.engines, can := t.can, lanes := t.lanes, queues := t.queues, ports := t.ports,
      saltern := t.saltern, slots := t.slots, holdBuf := t.holdBuf, hlt := t.hlt, limits := t.limits,
      nextId := t.nextId }

/-- A check finds an error (R459). -/
def execUnitCheck (item : Item) (s : State) : Answer := live s fun s => s.unitCheck item

/-- A targeted self-test ends (R460). -/
def execSelftestComplete (item : Item) (pass : Bool) (s : State) : Answer :=
  live s fun s =>
    let t := s.selftestDone (itemId item) pass
    { s with
      regs := t.regs, mem := t.mem, eqs := t.eqs, out := t.out, engines := t.engines, spared := t.spared,
      lanes := t.lanes, banks := t.banks, hlt := t.hlt, ports := t.ports, queues := t.queues, saltern := t.saltern }

/-- A unit takes its work back (R463). -/
def execSpareHandback (u : Fin 256) (s : State) : Answer :=
  live s fun s =>
    let t := s.spareHandback u
    { s with regs := t.regs, eqs := t.eqs, out := t.out, spared := t.spared, hlt := t.hlt }

/-- Transients older than 24 h (R460). -/
def execTransientAgeExpiry (item : Item) (s : State) : Answer :=
  live s fun s =>
    let t := s.ageTransients (itemId item)
    { s with hlt := t.hlt }

/-- The management engine runs again (R462). -/
def execMeRestartComplete (s : State) : Answer :=
  live s fun s =>
    let t := s.meRestarted
    { s with hlt := t.hlt }

/-- A supply becomes valid (R472). -/
def execSupplyValid (x : Supply) (s : State) : Answer :=
  always s fun s =>
    let t := s.supplyRises x
    { s with regs := t.regs, eqs := t.eqs, out := t.out, dev := t.dev }

/-- A VIO_F bank changes (R479). -/
def execVioChange (bank : Fin 16) (valid : Bool) (s : State) : Answer :=
  always s fun s =>
    let t := s.vioSet bank valid
    { s with regs := t.regs, eqs := t.eqs, out := t.out, dev := t.dev }

/-- A buffer class is latched (R476). -/
def execClassLatch (bank : Fin 16) (c : BufClass) (s : State) : Answer :=
  always s fun s =>
    let t := s.classLatch bank c
    { s with dev := t.dev }

/-- PERSTn_N changes (R483). -/
def execPerst (link : Fin 2) (low : Bool) (s : State) : Answer :=
  always s fun s =>
    let t := (s.perst link low).opsSettle
    { s with
      regs := t.regs, eqs := t.eqs, out := t.out, freeCnt := t.freeCnt, pages := t.pages, ports := t.ports,
      bridge := t.bridge, rings := t.rings, dev := t.dev, nextId := t.nextId, saltern := t.saltern }

end Sys2Proof.Machine
end

