-- ==== Sys2Proof/Machine/ExecHost.lean ====
section
/-!
DEFINITION. Registers, page access frames, paths, event queues and the bridge as commands (chapters 0, 1 and 11).
-/

namespace Sys2Proof.Machine

/-- A write of a word by the host of a page (R12, R16, R17, R46 to R49). -/
def execRegisterWrite (page : PageNo) (addr : BitVec 26) (value : Word) (s : State) : Answer :=
  live s fun s => s.hostWrite page addr.toNat 15 value

/-- A 32-bit read; of a low word, with its copy (R9). -/
def execLowWordRead (page : PageNo) (addr : BitVec 26) (s : State) : Answer :=
  live s fun s =>
    let t := s.hostRead page addr.toNat 1
    { s with
      regs := t.regs, hold := t.hold, eqs := t.eqs, out := t.out, freeCnt := t.freeCnt, pages := t.pages,
      can := t.can, lanes := t.lanes, ports := t.ports, bridge := t.bridge, rings := t.rings, nextId := t.nextId }

/-- A 32-bit read; RC fields are cleared (R12). -/
def execRcRead (page : PageNo) (addr : BitVec 26) (s : State) : Answer :=
  live s fun s =>
    let t := s.hostRead page addr.toNat 1
    { s with
      regs := t.regs, hold := t.hold, eqs := t.eqs, out := t.out, freeCnt := t.freeCnt, pages := t.pages,
      can := t.can, lanes := t.lanes, ports := t.ports, bridge := t.bridge, rings := t.rings, nextId := t.nextId }

/-- A READ frame (R367, R368). -/
def execRead (path : Fin 8) (f : PageFrame) (s : State) : Answer :=
  live s fun s =>
    let t := s.pageFrame 1 path f
    { s with
      regs := t.regs, hold := t.hold, eqs := t.eqs, out := t.out, freeCnt := t.freeCnt, pages := t.pages,
      can := t.can, lanes := t.lanes, ports := t.ports, bridge := t.bridge, rings := t.rings, nextId := t.nextId }

/-- A WRITE frame (R367, R368). -/
def execWrite (path : Fin 8) (f : PageFrame) (s : State) : Answer := live s fun s => s.pageFrame 2 path f

/-- A WRITE_ACK frame (R367, R368). -/
def execWriteAck (path : Fin 8) (f : PageFrame) (s : State) : Answer := live s fun s => s.pageFrame 3 path f

/-- A FETCH_ADD frame (R367, R368). -/
def execFetchAdd (path : Fin 8) (f : PageFrame) (s : State) : Answer :=
  live s fun s =>
    let t := s.pageFrame 4 path f
    { s with
      regs := t.regs, hold := t.hold, eqs := t.eqs, out := t.out, freeCnt := t.freeCnt, pages := t.pages,
      can := t.can, lanes := t.lanes, ports := t.ports, bridge := t.bridge, rings := t.rings, nextId := t.nextId }

/-- A SWAP frame (R367, R368). -/
def execSwap (path : Fin 8) (f : PageFrame) (s : State) : Answer :=
  live s fun s =>
    let t := s.pageFrame 5 path f
    { s with
      regs := t.regs, hold := t.hold, eqs := t.eqs, out := t.out, freeCnt := t.freeCnt, pages := t.pages,
      can := t.can, lanes := t.lanes, ports := t.ports, bridge := t.bridge, rings := t.rings, nextId := t.nextId }

/-- A CAS frame (R367, R368). -/
def execCas (path : Fin 8) (f : PageFrame) (s : State) : Answer :=
  live s fun s =>
    let t := s.pageFrame 6 path f
    { s with
      regs := t.regs, hold := t.hold, eqs := t.eqs, out := t.out, freeCnt := t.freeCnt, pages := t.pages,
      can := t.can, lanes := t.lanes, ports := t.ports, bridge := t.bridge, rings := t.rings, nextId := t.nextId }

/-- A PROBE frame (R367, R368). -/
def execProbe (path : Fin 8) (f : PageFrame) (s : State) : Answer :=
  live s fun s =>
    let t := s.pageFrame 10 path f
    { s with
      regs := t.regs, hold := t.hold, eqs := t.eqs, out := t.out, freeCnt := t.freeCnt, pages := t.pages,
      can := t.can, lanes := t.lanes, ports := t.ports, bridge := t.bridge, rings := t.rings, nextId := t.nextId }

/-- An AtomicOp (R366). -/
def execPcieAtomicop (page : PageNo) (path : Fin 8) (addr : BitVec 26) (kind : AtomicKind)
    (width : AtomicWidth)
    (operand compare : DWord) (s : State) : Answer :=
  live s fun s =>
    let t := s.pcieAtomic page path addr.toNat kind width operand compare
    { s with
      regs := t.regs, hold := t.hold, eqs := t.eqs, out := t.out, freeCnt := t.freeCnt, pages := t.pages,
      can := t.can, lanes := t.lanes, ports := t.ports, bridge := t.bridge, rings := t.rings, nextId := t.nextId }

/-- A path of the page fails (R372, R373). -/
def execPathFail (page : PageNo) (path : Fin 8) (s : State) : Answer :=
  live s fun s =>
    let t := (s.pathFail page path).opsSettle
    { s with
      regs := t.regs, eqs := t.eqs, out := t.out, freeCnt := t.freeCnt, pages := t.pages, ports := t.ports,
      bridge := t.bridge, rings := t.rings, nextId := t.nextId, saltern := t.saltern }

/-- HB_MS without a frame (R372). -/
def execHeartbeatExpiry (page : PageNo) (path : Fin 8) (s : State) : Answer :=
  live s fun s =>
    let t := (s.heartbeat page path).opsSettle
    { s with
      regs := t.regs, hold := t.hold, eqs := t.eqs, out := t.out, freeCnt := t.freeCnt, pages := t.pages,
      can := t.can, lanes := t.lanes, ports := t.ports, bridge := t.bridge, rings := t.rings, nextId := t.nextId }

/-- A path comes up (R375). -/
def execPathUp (page : PageNo) (path : Fin 8) (s : State) : Answer :=
  live s fun s =>
    let t := (s.pathUp page path).opsSettle
    { s with
      regs := t.regs, eqs := t.eqs, out := t.out, freeCnt := t.freeCnt, pages := t.pages, ports := t.ports,
      bridge := t.bridge, rings := t.rings, nextId := t.nextId, saltern := t.saltern }

/-- PATH_SEL in PG_CMD (R374). -/
def execPathSel (page : PageNo) (path : Fin 8) (s : State) : Answer :=
  live s fun s =>
    let t := s.onWrite page (Reg.PG_CMD page) fun t => t.pathSel page path
    { s with regs := t.regs, eqs := t.eqs, out := t.out, pages := t.pages, rings := t.rings }

/-- A read of EQ_POP_LO (R379). -/
def execEqPop (page : PageNo) (q : Fin 4) (s : State) : Answer :=
  live s fun s =>
    let t := s.hostRead page (0x100 + 0x20 * q.val) 1
    { s with
      regs := t.regs, hold := t.hold, eqs := t.eqs, out := t.out, freeCnt := t.freeCnt, pages := t.pages,
      can := t.can, lanes := t.lanes, ports := t.ports, bridge := t.bridge, rings := t.rings, nextId := t.nextId }

/-- FLUSH in EQ_CMD (R382). -/
def execEqFlush (page : PageNo) (q : Fin 4) (s : State) : Answer :=
  live s fun s =>
    let t := s.onWrite page (Reg.EQ_CMD page q) fun t => t.eqFlush page q
    { s with regs := t.regs, eqs := t.eqs }

/-- A write in a bridge window (R384, R386). -/
def execBridgeWrite (page : PageNo) (off : BitVec 24) (be : BitVec 4) (data : Word) (s : State) : Answer :=
  live s fun s =>
    let t := s.hostWrite page (0x1000000 + off.toNat) be.toNat data
    { s with
      regs := t.regs, hold := t.hold, eqs := t.eqs, out := t.out, freeCnt := t.freeCnt, pages := t.pages,
      can := t.can, lanes := t.lanes, ports := t.ports, bridge := t.bridge, rings := t.rings, nextId := t.nextId }

/-- A read in a bridge window (R384, R385, R390). -/
def execBridgeRead (page : PageNo) (off : BitVec 24) (be : BitVec 4) (s : State) : Answer :=
  live s fun s =>
    let t := s.pcieRequest page (s.pcieLink page) (.bridge off.toNat be.toNat)
    { s with
      regs := t.regs, hold := t.hold, eqs := t.eqs, out := t.out, freeCnt := t.freeCnt, pages := t.pages,
      can := t.can, lanes := t.lanes, ports := t.ports, bridge := t.bridge, rings := t.rings, nextId := t.nextId }

/-- LB_BG_N with the bus free (R385). -/
def execBusGrant (s : State) : Answer :=
  live s fun s =>
    let t := s.busGrant
    { s with regs := t.regs, out := t.out, bridge := t.bridge }

/-- The last strobe rises (R385, R388, R389). -/
def execFarCycleEnd (data : List Word) (s : State) : Answer :=
  live s fun s =>
    let t := (s.farEnd data).opsSettle
    { s with
      regs := t.regs, hold := t.hold, eqs := t.eqs, out := t.out, freeCnt := t.freeCnt, pages := t.pages,
      can := t.can, lanes := t.lanes, ports := t.ports, bridge := t.bridge, rings := t.rings, nextId := t.nextId }

/-- WAIT_TMO expires (R391). -/
def execWaitTmo (s : State) : Answer :=
  live s fun s =>
    let t := s.waitTmo.opsSettle
    { s with
      regs := t.regs, hold := t.hold, eqs := t.eqs, out := t.out, freeCnt := t.freeCnt, pages := t.pages,
      can := t.can, lanes := t.lanes, ports := t.ports, bridge := t.bridge, rings := t.rings, nextId := t.nextId }

/-- GO in PG_LRMW_CMD (R389). -/
def execGo (page : PageNo) (s : State) : Answer :=
  live s fun s =>
    let t := s.onWrite page (Reg.PG_LRMW_CMD page) fun t => t.lrmwGo page
    { s with regs := t.regs, out := t.out, freeCnt := t.freeCnt, pages := t.pages, bridge := t.bridge }

/-- PF_TMO of a prefetch line (R390). -/
def execPrefetchTimeout (w : Fin 16) (s : State) : Answer :=
  live s fun s =>
    let t := s.prefetchTmo w
    { s with regs := t.regs, bridge := t.bridge }

/-- A cycle of a far master (R392, R393). -/
def execInboundCycle (c : FarCycle) (s : State) : Answer :=
  live s fun s =>
    let t := s.inbound c.write c.word.toNat c.be.toNat c.data
    { s with regs := t.regs, mem := t.mem, eqs := t.eqs, out := t.out, bridge := t.bridge }

/-- The backoff ends (R393). -/
def execBackoffExpiry (s : State) : Answer :=
  live s fun s =>
    let t := s.backoffEnd
    { s with bridge := t.bridge }

/-- The side-band lines are sampled (R394). -/
def execIntPoll (levels : BitVec 16) (s : State) : Answer :=
  live s fun s =>
    let t := s.intPoll levels.toNat
    { s with regs := t.regs, eqs := t.eqs, out := t.out, sig := t.sig, bridge := t.bridge, nextId := t.nextId }

end Sys2Proof.Machine
end

