-- ==== Sys2Proof/Machine/ExecPhase.lean ====
section
/-!
DEFINITION. Phase trackers and the time base as commands (chapter 4).
-/

namespace Sys2Proof.Machine

/-- A reference event behind the glitch filter (R136, R139, R145). -/
def execReferencePoint (pt : PtNo) (x : RefInput) (s : State) : Answer :=
  live s fun s => s.ptEventCross pt x.ev x.ageNs

/-- A multiple of SYN_PERIOD (R135). -/
def execSyntheticReferencePoint (pt : PtNo) (s : State) : Answer := live s fun s => s.synPointCross pt

/-- No reference point in time (R145). -/
def execReferenceLost (pt : PtNo) (s : State) : Answer :=
  live s fun s => if s.refOverdue pt then ((s.crossings pt).ptLost pt).crossings pt else s

/-- HOLD_MAX courses in HOLDOVER (R145). -/
def execHoldExpired (pt : PtNo) (s : State) : Answer :=
  live s fun s => if s.holdOver pt then ((s.crossings pt).ptExpire pt).crossings pt else s

/-- FORCE_SEARCH in PHS_CMD (R145). -/
def execForceSearch (page : PageNo) (mask : BitVec 4) (s : State) : Answer :=
  live s fun s =>
    let t := s.onWrite page Reg.PHS_CMD fun t => t.forBits 4 mask.toNat State.ptForce
    { s with regs := t.regs, trk := t.trk, staged := t.staged }

/-- HW_RESET in PHS_CMD (R154). -/
def execHwReset (page : PageNo) (mask : BitVec 4) (s : State) : Answer :=
  live s fun s => s.onWrite page Reg.PHS_CMD fun t => t.forBits 4 mask.toNat State.ptHwReset

/-- The position passes the high-water mark (R147). -/
def execForwardCrossing (pt : PtNo) (s : State) : Answer := live s fun s => s.crossings pt

/-- A write of TMB_RATE (R159). -/
def execRateWrite (page : PageNo) (value : Word) (s : State) : Answer :=
  live s fun s =>
    let t := s.onWrite page Reg.TMB_RATE fun t => t.rateWrite value
    { s with regs := t.regs, tb := t.tb }

/-- An adjustment by a host or by the servo (R160, R161). -/
def execAdjustment (src : AdjSource) (s : State) : Answer :=
  live s fun s =>
    let t := match src with
    | .host page hi => s.onWrite page Reg.TMB_ADJ_HI fun t => t.adjWrite hi
    | .servo ns => if s.flag Reg.TMB_CTRL_SERVO then s.adjust ns.toInt else s
    { s with
      regs := t.regs, eqs := t.eqs, out := t.out, sig := t.sig, tb := t.tb, can := t.can, ports := t.ports,
      acts := t.acts, upd := t.upd }

/-- A slew is absorbed (R160). -/
def execSlewComplete (s : State) : Answer :=
  live s fun s =>
    let t := s.slewComplete
    { s with regs := t.regs, tb := t.tb }

/-- A filtered edge of PPS_IN (R164). -/
def execPpsInEdge (x : PpsInput) (s : State) : Answer :=
  live s fun s =>
    let t := s.ppsEdge x.servo x.ageNs
    { s with
      regs := t.regs, eqs := t.eqs, out := t.out, sig := t.sig, tb := t.tb, can := t.can, ports := t.ports,
      acts := t.acts, upd := t.upd }

/-- 1.5 s without an edge (R164). -/
def execPpsMiss (s : State) : Answer :=
  live s fun s =>
    let t := s.ppsMiss
    { s with regs := t.regs, eqs := t.eqs, out := t.out, tb := t.tb }

/-- The master vanishes (R166). -/
def execMasterLost (s : State) : Answer :=
  live s fun s =>
    let t := s.masterLost
    { s with regs := t.regs, eqs := t.eqs, out := t.out }

/-- The master returns (R166). -/
def execMasterReturn (s : State) : Answer :=
  live s fun s =>
    let t := s.masterReturn
    { s with regs := t.regs }

/-- PPS_OUT rises (R165). -/
def execPpsOutRise (s : State) : Answer :=
  live s fun s =>
    let t := s.ppsRise
    { s with tb := t.tb }

/-- PPS_OUT falls (R165). -/
def execPpsOutFall (s : State) : Answer :=
  live s fun s =>
    let t := s.ppsFall
    { s with tb := t.tb }

/-- The management engine handles a gPTP message (R162, R351). -/
def execGptpMessage (port : Fin 22) (m : GptpInput) (s : State) : Answer :=
  live s fun s =>
    let t := s.gptpMsg port m.frame.bytes m.servo
    { s with
      regs := t.regs, eqs := t.eqs, out := t.out, sig := t.sig, tb := t.tb, can := t.can, ports := t.ports,
      ring := t.ring, acts := t.acts, upd := t.upd }

/-- SNAP in TMB_CMD (R168). -/
def execSnap (page : PageNo) (s : State) : Answer :=
  live s fun s =>
    let t := s.onWrite page Reg.TMB_CMD State.snap
    { s with regs := t.regs }

end Sys2Proof.Machine
end

