-- ==== Sys2Proof/Machine/ExecRing.lean ====
section
/-!
DEFINITION. The Avzin ring as commands (chapter 10).
-/

namespace Sys2Proof.Machine

/-- A ring link is declared up (R337). -/
def execRingLinkUp (side : Fin 2) (s : State) : Answer :=
  live s fun s =>
    let t := s.ringLinkUp side
    { s with regs := t.regs, ring := t.ring, eqs := t.eqs, out := t.out }

/-- A ring link is down (R337). -/
def execRingLinkDown (side : Fin 2) (s : State) : Answer :=
  live s fun s =>
    let t := s.ringLinkDown side
    { s with
      regs := t.regs, eqs := t.eqs, out := t.out, sig := t.sig, tb := t.tb, can := t.can, queues := t.queues,
      ports := t.ports, saltern := t.saltern, ring := t.ring, acts := t.acts, upd := t.upd, nextId := t.nextId }

/-- A ring frame (R343, R344). -/
def execRingFrameReceived (side : Fin 2) (f : EthFrame) (fcsOk : Bool) (s : State) : Answer :=
  live s fun s =>
    let t := s.ringReceive side f.bytes fcsOk
    { s with
      regs := t.regs, eqs := t.eqs, out := t.out, sig := t.sig, tb := t.tb, limits := t.limits, engines := t.engines,
      can := t.can, queues := t.queues, ports := t.ports, saltern := t.saltern, ringWins := t.ringWins,
      ringPeers := t.ringPeers, ring := t.ring, slots := t.slots, holdBuf := t.holdBuf, acts := t.acts, upd := t.upd,
      nextId := t.nextId, dev := t.dev, staged := t.staged, waking := t.waking }

/-- AGE_MS without a frame (R346). -/
def execWindowAge (src : Fin 64) (s : State) : Answer :=
  live s fun s =>
    let t := s.windowAge src
    { s with ringWins := t.ringWins }

/-- The quiet time ends (R347). -/
def execQuietTimeEnd (s : State) : Answer :=
  live s fun s =>
    let t := s.quietEnd
    { s with
      regs := t.regs, eqs := t.eqs, out := t.out, sig := t.sig, tb := t.tb, can := t.can, ports := t.ports,
      ring := t.ring, acts := t.acts, upd := t.upd }

/-- A PERIODIC frame (R348). -/
def execPeriodic (s : State) : Answer :=
  live s fun s =>
    let t := s.periodicSend
    { s with
      regs := t.regs, eqs := t.eqs, out := t.out, sig := t.sig, tb := t.tb, can := t.can, queues := t.queues,
      ports := t.ports, saltern := t.saltern, ring := t.ring, acts := t.acts, upd := t.upd, nextId := t.nextId }

/-- An ANNOUNCE frame (R348). -/
def execAnnounce (s : State) : Answer :=
  live s fun s =>
    let t := s.announce
    { s with
      regs := t.regs, queues := t.queues, ports := t.ports, saltern := t.saltern, ring := t.ring, nextId := t.nextId }

/-- RESUME in RNG_CMD (R350). -/
def execResume (page : PageNo) (s : State) : Answer :=
  live s fun s =>
    let t := s.onWrite page Reg.RNG_CMD State.ringResume
    { s with regs := t.regs, ring := t.ring }

/-- Sync and Follow_Up of the grandmaster (R351). -/
def execRingSyncSend (s : State) : Answer :=
  live s fun s =>
    let t := s.ringSync
    { s with out := t.out, ring := t.ring, tb := t.tb }

/-- 375 µs without Sync (R352). -/
def execSyncTimeout (s : State) : Answer :=
  live s fun s =>
    let t := s.syncTimeout
    { s with
      regs := t.regs, eqs := t.eqs, out := t.out, sig := t.sig, tb := t.tb, can := t.can, ports := t.ports,
      ring := t.ring, acts := t.acts, upd := t.upd }

end Sys2Proof.Machine
end

