-- ==== Sys2Proof/Machine/ExecSerial.lean ====
section
/-!
DEFINITION. Serial lanes and discrete banks as commands (chapter 8).
-/

namespace Sys2Proof.Machine

/-- A character is taken (R266). -/
def execCharacterReceived (n : LaneNo) (c : SerChar) (s : State) : Answer :=
  live s fun s =>
    let t := s.laneChar n c
    { s with
      regs := t.regs, staged := t.staged, eqs := t.eqs, out := t.out, freeCnt := t.freeCnt, sig := t.sig,
      limits := t.limits, engines := t.engines, waking := t.waking, lanes := t.lanes, nextId := t.nextId,
      dev := t.dev, holdBuf := t.holdBuf }

/-- A BREAK (R266). -/
def execBreak (n : LaneNo) (s : State) : Answer :=
  live s fun s =>
    let t := s.laneBreak n
    { s with
      regs := t.regs, staged := t.staged, eqs := t.eqs, out := t.out, freeCnt := t.freeCnt, sig := t.sig,
      limits := t.limits, engines := t.engines, waking := t.waking, lanes := t.lanes, nextId := t.nextId,
      dev := t.dev, holdBuf := t.holdBuf }

/-- IDLE_BITS of idle line (R267). -/
def execIdle (n : LaneNo) (s : State) : Answer :=
  live s fun s =>
    let t := s.laneIdle n
    { s with
      regs := t.regs, staged := t.staged, eqs := t.eqs, out := t.out, freeCnt := t.freeCnt, sig := t.sig,
      limits := t.limits, engines := t.engines, lanes := t.lanes, nextId := t.nextId, holdBuf := t.holdBuf }

/-- FRAME_TMO (R277). -/
def execTimeout (n : LaneNo) (s : State) : Answer :=
  live s fun s =>
    let t := s.laneTimeout n
    { s with
      regs := t.regs, staged := t.staged, eqs := t.eqs, out := t.out, freeCnt := t.freeCnt, sig := t.sig,
      limits := t.limits, engines := t.engines, lanes := t.lanes, nextId := t.nextId, holdBuf := t.holdBuf }

/-- The next item is sent (R268, R269). -/
def execCharacterTransmitted (n : LaneNo) (echo : Option SerChar) (s : State) : Answer :=
  live s fun s =>
    let t := s.laneSend n echo
    { s with regs := t.regs, staged := t.staged, out := t.out, lanes := t.lanes }

/-- DE_LAG has passed (R268). -/
def execDeLagExpiry (n : LaneNo) (s : State) : Answer :=
  live s fun s =>
    let t := s.laneDeLag n
    { s with lanes := t.lanes, out := t.out }

/-- A slot of the schedule starts (R272). -/
def execLinSlotStart (n : LaneNo) (s : State) : Answer :=
  live s fun s =>
    let t := s.linSlotStart n
    { s with
      regs := t.regs, staged := t.staged, out := t.out, sig := t.sig, limits := t.limits, engines := t.engines,
      lanes := t.lanes, nextId := t.nextId, holdBuf := t.holdBuf }

/-- A header is detected (R270). -/
def execLinHeaderReceived (n : LaneNo) (pid : Byte) (x : LinInput) (s : State) : Answer :=
  live s fun s =>
    let t := s.linHeaderIn n pid.toNat x.baudDiv.toNat x.breakBits
    { s with
      regs := t.regs, sig := t.sig, limits := t.limits, engines := t.engines, waking := t.waking, lanes := t.lanes,
      nextId := t.nextId, dev := t.dev, holdBuf := t.holdBuf }

/-- A response is received (R271). -/
def execLinResponseReceived (n : LaneNo) (data : List Byte) (checksum : Byte) (s : State) : Answer :=
  live s fun s =>
    let t := s.linResponse n data checksum
    { s with
      regs := t.regs, staged := t.staged, eqs := t.eqs, out := t.out, sig := t.sig, limits := t.limits,
      engines := t.engines, lanes := t.lanes, nextId := t.nextId, holdBuf := t.holdBuf }

/-- A frame is not complete in time (R271). -/
def execLinNoresp (n : LaneNo) (s : State) : Answer :=
  live s fun s =>
    let t := s.linNoresp n
    { s with regs := t.regs, staged := t.staged, lanes := t.lanes }

/-- A controller exchanges one word (R273). -/
def execSpiWord (n : LaneNo) (rx : BitVec 24) (s : State) : Answer :=
  live s fun s =>
    let t := s.spiWord n rx.toNat
    { s with
      regs := t.regs, staged := t.staged, eqs := t.eqs, out := t.out, sig := t.sig, limits := t.limits,
      engines := t.engines, waking := t.waking, lanes := t.lanes, nextId := t.nextId, dev := t.dev,
      holdBuf := t.holdBuf }

/-- A target shifts one word (R274). -/
def execSpiTargetWord (n : LaneNo) (rx : BitVec 24) (s : State) : Answer :=
  live s fun s =>
    let t := s.spiTarget n rx.toNat
    { s with
      regs := t.regs, staged := t.staged, eqs := t.eqs, out := t.out, waking := t.waking, lanes := t.lanes,
      dev := t.dev }

/-- CS_N rises (R274). -/
def execCsNRise (n : LaneNo) (partialWord : Bool) (s : State) : Answer :=
  live s fun s =>
    let t := s.csRise n partialWord
    { s with
      regs := t.regs, staged := t.staged, eqs := t.eqs, out := t.out, sig := t.sig, limits := t.limits,
      engines := t.engines, lanes := t.lanes, nextId := t.nextId, holdBuf := t.holdBuf }

/-- A SENT message (R275, R276). -/
def execSentMessage (n : LaneNo) (m : SentMsg) (s : State) : Answer :=
  live s fun s =>
    let t := s.sentMessage n m
    { s with
      regs := t.regs, staged := t.staged, eqs := t.eqs, out := t.out, freeCnt := t.freeCnt, sig := t.sig,
      limits := t.limits, engines := t.engines, waking := t.waking, lanes := t.lanes, nextId := t.nextId,
      dev := t.dev, holdBuf := t.holdBuf }

/-- A read of SLN_RX_POP (R284). -/
def execSlnRxPop (page : PageNo) (n : LaneNo) (s : State) : Answer :=
  live s fun s =>
    let t := s.hostRead page (Reg.laneBase n + 0x100) 1
    { s with
      regs := t.regs, hold := t.hold, eqs := t.eqs, out := t.out, freeCnt := t.freeCnt, pages := t.pages,
      can := t.can, lanes := t.lanes, ports := t.ports, bridge := t.bridge, rings := t.rings, nextId := t.nextId }

/-- A write of SLN_TX_PUSH (R288). -/
def execTxPush (page : PageNo) (n : LaneNo) (item : Word) (s : State) : Answer :=
  live s fun s =>
    let t := s.onWrite page (Reg.SLN_TX_PUSH n) fun t => t.laneTxPush n item
    { s with regs := t.regs, lanes := t.lanes, freeCnt := t.freeCnt }

/-- RX_FLUSH in SLN_CMD (R289). -/
def execRxFlush (page : PageNo) (n : LaneNo) (s : State) : Answer :=
  live s fun s =>
    let t := s.onWrite page (Reg.SLN_CMD n) fun t => t.laneRxFlush n
    { s with regs := t.regs, lanes := t.lanes }

/-- TX_FLUSH in SLN_CMD (R289). -/
def execTxFlush (page : PageNo) (n : LaneNo) (s : State) : Answer :=
  live s fun s =>
    let t := s.onWrite page (Reg.SLN_CMD n) fun t => t.laneTxFlush n
    { s with
      regs := t.regs, staged := t.staged, eqs := t.eqs, out := t.out, sig := t.sig, limits := t.limits,
      engines := t.engines, lanes := t.lanes, nextId := t.nextId, holdBuf := t.holdBuf }

/-- SM_RESET in SLN_CMD (R299). -/
def execSmReset (page : PageNo) (n : LaneNo) (s : State) : Answer :=
  live s fun s =>
    let t := s.onWrite page (Reg.SLN_CMD n) fun t => t.smReset n
    { s with regs := t.regs, lanes := t.lanes }

/-- A debounced change (R292). -/
def execEdgeAccepted (b : BankNo) (line : Fin 8) (level : Bool) (ageNs : Nat) (s : State) : Answer :=
  live s fun s =>
    let t := s.edgeAccepted b line level ageNs
    { s with regs := t.regs, sig := t.sig, waking := t.waking, banks := t.banks, nextId := t.nextId, dev := t.dev }

/-- FROM_CELL staging after a commit (R294). -/
def execStagingRefresh (b : BankNo) (s : State) : Answer :=
  live s fun s =>
    let t := s.bankRefresh b
    { s with regs := t.regs, sig := t.sig, banks := t.banks, dev := t.dev, waking := t.waking }

/-- CTS_N changes level (R269). -/
def execCtsNChange (n : LaneNo) (high : Bool) (s : State) : Answer :=
  live s fun s =>
    let t := s.laneCts n high
    { s with regs := t.regs }

end Sys2Proof.Machine
end

