-- ==== Sys2Proof/Machine/ExecSignal.lean ====
section
/-!
DEFINITION. The signal space as commands (chapter 3).
-/

namespace Sys2Proof.Machine

/-- A batch reaches the signal space (R108). -/
def execBatchWritten (s : State) : Answer :=
  live s fun s =>
    let t := s.batchWritten
    { s with
      regs := t.regs, eqs := t.eqs, out := t.out, freeCnt := t.freeCnt, cells := t.cells, sig := t.sig,
      pages := t.pages }

/-- SIG_BOND_TMO of a bond (R111). -/
def execBondTimeout (bond : Fin 1024) (s : State) : Answer :=
  live s fun s =>
    let t := s.bondTimeout bond
    { s with regs := t.regs, sig := t.sig }

/-- COMMIT in SIG_CMD (R103). -/
def execSigCommit (page : PageNo) (s : State) : Answer :=
  live s fun s =>
    let t := s.onWrite page Reg.SIG_CMD State.request
    { s with regs := t.regs, sig := t.sig }

/-- A multiple of the period (R104, R105). -/
def execCadenceTick (s : State) : Answer :=
  live s fun s =>
    let t := s.cadenceTick
    { s with sig := t.sig, regs := t.regs }

/-- A deferred request is served (R106). -/
def execCommitServed (s : State) : Answer :=
  live s fun s =>
    let t := s.commitServed
    { s with regs := t.regs, sig := t.sig }

/-- The commit takes effect (R107). -/
def execEpochCommit (s : State) : Answer := live s fun s => s.epochCommit

/-- PIN_NOW (R117). -/
def execPinNow (page : PageNo) (s : State) : Answer :=
  live s fun s =>
    let t := s.onWrite page (Reg.PSG_PIN_CMD page) fun t => t.pinNow page
    { s with regs := t.regs }

/-- PIN_AT (R117). -/
def execPinAt (page : PageNo) (s : State) : Answer :=
  live s fun s =>
    let t := s.onWrite page (Reg.PSG_PIN_CMD page) fun t => t.pinAt page
    { s with regs := t.regs }

/-- UNPIN (R117). -/
def execUnpin (page : PageNo) (s : State) : Answer :=
  live s fun s =>
    let t := s.onWrite page (Reg.PSG_PIN_CMD page) fun t => t.unpin page
    { s with regs := t.regs }

/-- The pinned epoch falls 2^30 behind (R120). -/
def execPinExpired (page : PageNo) (s : State) : Answer :=
  live s fun s =>
    let t := s.pinExpire page
    { s with regs := t.regs }

/-- A 64-bit read of the pinned view (R118). -/
def execPinnedRead (page : PageNo) (cell : Fin 131072) (s : State) : Answer :=
  live s fun s =>
    let t := s.hostRead page (0x500000 + 8 * cell.val) 2
    { s with
      regs := t.regs, hold := t.hold, eqs := t.eqs, out := t.out, freeCnt := t.freeCnt, pages := t.pages,
      can := t.can, lanes := t.lanes, ports := t.ports, bridge := t.bridge, rings := t.rings, nextId := t.nextId }

/-- START of an ashlar (R123). -/
def execStart (page : PageNo) (s : State) : Answer :=
  live s fun s =>
    let t := s.onWrite page (Reg.PSG_ASH_CMD page) fun t => t.startAshlar page
    { s with regs := t.regs, pages := t.pages }

/-- CANCEL of an ashlar (R126). -/
def execCancel (page : PageNo) (s : State) : Answer :=
  live s fun s =>
    let t := s.onWrite page (Reg.PSG_ASH_CMD page) fun t => t.ashlarCancel page
    { s with regs := t.regs, eqs := t.eqs, out := t.out, pages := t.pages }

/-- The last cell is copied (R124). -/
def execAshlarDone (page : PageNo) (s : State) : Answer :=
  live s fun s =>
    let t := s.ashlarDone page
    { s with regs := t.regs, eqs := t.eqs, out := t.out, pages := t.pages }

/-- The write-group doorbell (R127). -/
def execPsgWgDb (page : PageNo) (s : State) : Answer :=
  live s fun s =>
    let t := s.onWrite page (Reg.PSG_WG_DB page) fun t => t.groupDoorbell page
    { s with regs := t.regs, sig := t.sig, nextId := t.nextId }

end Sys2Proof.Machine
end

