-- ==== Sys2Proof/Machine/ExecStructure.lean ====
section
/-!
DEFINITION. The structure image as commands (chapter 2).
-/

namespace Sys2Proof.Machine

/-- LOAD_A in STR_CMD (R67). -/
def execLoadA (page : PageNo) (s : State) : Answer :=
  live s fun s =>
    let t := s.onWrite page Reg.STR_CMD fun t => t.strLoad 0
    { s with regs := t.regs, str := t.str }

/-- LOAD_B in STR_CMD (R67). -/
def execLoadB (page : PageNo) (s : State) : Answer :=
  live s fun s =>
    let t := s.onWrite page Reg.STR_CMD fun t => t.strLoad 1
    { s with regs := t.regs, str := t.str }

/-- PUSH in STR_CMD (R67). -/
def execPush (page : PageNo) (s : State) : Answer :=
  live s fun s =>
    let t := s.onWrite page Reg.STR_CMD fun t => t.strLoad 2
    { s with regs := t.regs, str := t.str }

/-- COMMIT in STR_CMD (R69). -/
def execCommit (page : PageNo) (s : State) : Answer :=
  live s fun s =>
    let t := s.onWrite page Reg.STR_CMD State.strCommit
    { s with regs := t.regs, str := t.str }

/-- ABORT in STR_CMD (R67). -/
def execAbort (page : PageNo) (s : State) : Answer :=
  live s fun s =>
    let t := s.onWrite page Reg.STR_CMD State.strAbort
    { s with regs := t.regs, str := t.str, upd := t.upd }

/-- SAVE_SETTINGS in STR_CMD (R60). -/
def execSaveSettings (page : PageNo) (s : State) : Answer :=
  live s fun s =>
    let t := s.onWrite page Reg.STR_CMD State.saveSettings
    { s with regs := t.regs, str := t.str }

/-- The settings store has been read back (R60). -/
def execSaveDone (s : State) : Answer :=
  live s fun s =>
    let t := s.saveDone
    { s with regs := t.regs, str := t.str, stores := t.stores }

/-- The piece doorbell (R64). -/
def execStrPieceDb (page : PageNo) (s : State) : Answer :=
  live s fun s =>
    let t := s.onWrite page Reg.STR_PIECE_DB State.strPiece
    { s with regs := t.regs, str := t.str }

/-- The bytes read reach LENGTH (R67). -/
def execImageReadComplete (s : State) : Answer :=
  live s fun s =>
    let t := s.imageRead
    { s with regs := t.regs, str := t.str }

/-- Signature verification ends (R67) with the verdict that the received bytes give; one with the other verdict cannot
come and changes nothing (notes/assumptions/51.md). -/
def execSignatureVerified (ok : Bool) (s : State) : Answer :=
  live s fun s =>
    let t := s.sigVerified ok
    { s with regs := t.regs, str := t.str }

/-- The first image is applied (R63, R449). -/
def execImageApplied (s : State) : Answer := live s fun s => s.imageApplied

/-- The units restart (R72). -/
def execFullReloadComplete (s : State) : Answer :=
  live s fun s =>
    let t := s.reloadComplete
    { s with
      regs := t.regs, tblOld := t.tblOld, str := t.str, can := t.can, lanes := t.lanes, banks := t.banks,
      fieldReady := t.fieldReady }

/-- The old generation is reclaimed (R76). -/
def execDrainComplete (s : State) : Answer :=
  live s fun s =>
    let t := s.drainComplete
    { s with regs := t.regs, tblOld := t.tblOld }

/-- The boot ROM checks the firmware (R63). -/
def execBootFirmwareCheck (a b : FwInfo) (s : State) : Answer :=
  live s fun s =>
    let t := s.bootCheck a b
    { s with regs := t.regs, str := t.str }

/-- A unit stops at its frame end (R89). -/
def execUnitStop (u : Fin 256) (s : State) : Answer :=
  live s fun s =>
    let t := s.unitStop u
    { s with
      regs := t.regs, eqs := t.eqs, out := t.out, mbs := t.mbs, can := t.can, lanes := t.lanes, banks := t.banks,
      ports := t.ports, saltern := t.saltern, queues := t.queues }

/-- An xSPI read error (R67). -/
def execFlashReadError (s : State) : Answer :=
  live s fun s =>
    let t := s.flashError
    { s with regs := t.regs, str := t.str }

end Sys2Proof.Machine
end

