-- ==== Sys2Proof/Machine/ExecSwitch.lean ====
section
/-!
DEFINITION. The switch core and the field MACs as commands (chapter 9).
-/

namespace Sys2Proof.Machine

/-- A frame has been received (R312, R319, R321). -/
def execEthFrameReceived (port : PortNo) (f : EthFrame) (q : RxQuality) (s : State) : Answer :=
  live s fun s =>
    let t := s.ethReceive port f.bytes q
    { s with
      regs := t.regs, staged := t.staged, eqs := t.eqs, out := t.out, sig := t.sig, limits := t.limits,
      engines := t.engines, waking := t.waking, queues := t.queues, ports := t.ports, saltern := t.saltern,
      slots := t.slots, holdBuf := t.holdBuf, nextId := t.nextId, dev := t.dev }

/-- The first 64 bytes are in (R320). -/
def execForwardingDecision (port : PortNo) (head : EthFrame) (s : State) : Answer :=
  live s fun s =>
    let t := s.decide64 port head.bytes
    { s with
      regs := t.regs, staged := t.staged, limits := t.limits, waking := t.waking, dev := t.dev, queues := t.queues,
      ports := t.ports, saltern := t.saltern, ring := t.ring, nextId := t.nextId }

/-- A free line takes the next frame (R322 to R324, R327). -/
def execEgressSelect (port : PortNo) (s : State) : Answer :=
  live s fun s =>
    let t := s.mgmtTake.egressSelect port
    { s with
      regs := t.regs, staged := t.staged, out := t.out, tb := t.tb, waking := t.waking, dev := t.dev,
      queues := t.queues, ports := t.ports, saltern := t.saltern, ring := t.ring, nextId := t.nextId }

/-- A read of SWC_P_TS_POP (R332). -/
def execTsPop (page : PageNo) (port : PortNo) (s : State) : Answer :=
  live s fun s =>
    let t := s.hostRead page (0x1510A0 + 0x100 * port.val) 1
    { s with
      regs := t.regs, hold := t.hold, eqs := t.eqs, out := t.out, freeCnt := t.freeCnt, pages := t.pages,
      can := t.can, lanes := t.lanes, ports := t.ports, bridge := t.bridge, rings := t.rings, nextId := t.nextId }

/-- A MAC link changes (R333). -/
def execEthLink (m : MacNo) (up : Bool) (speed : BitVec 4) (halfDuplex : Bool) (s : State) : Answer :=
  live s fun s =>
    let t := s.ethLink m up speed.toNat halfDuplex
    { s with regs := t.regs, eqs := t.eqs, out := t.out, ports := t.ports, saltern := t.saltern }

/-- Transmit LPI is requested (R309). -/
def execLpiEntry (m : MacNo) (s : State) : Answer :=
  live s fun s =>
    let t := s.lpiEntry m
    { s with regs := t.regs, ports := t.ports }

/-- TW after an admission (R309). -/
def execLpiWake (m : MacNo) (s : State) : Answer :=
  live s fun s =>
    let t := s.lpiWake m
    { s with
      regs := t.regs, staged := t.staged, out := t.out, queues := t.queues, ports := t.ports, saltern := t.saltern,
      tb := t.tb }

/-- FLUSH in SWC_CMD (R318). -/
def execFlush (page : PageNo) (port : PortNo) (queues : Byte) (s : State) : Answer :=
  live s fun s =>
    let t := s.onWrite page Reg.SWC_CMD fun t => t.flushPort port queues.toNat
    { s with regs := t.regs, queues := t.queues, saltern := t.saltern, ports := t.ports }

/-- ARM in SWC_P_LIST_CMD (R326). -/
def execListArm (page : PageNo) (port : Fin 22) (s : State) : Answer :=
  live s fun s =>
    let t := s.onWrite page (Reg.SWC_P_LIST_CMD port) fun t => t.listArm port
    { s with regs := t.regs, ports := t.ports }

/-- STOP in SWC_P_LIST_CMD (R326). -/
def execListStop (page : PageNo) (port : Fin 22) (s : State) : Answer :=
  live s fun s =>
    let t := s.onWrite page (Reg.SWC_P_LIST_CMD port) fun t => t.listStop port
    { s with regs := t.regs, queues := t.queues, ports := t.ports }

/-- A sluice cycle starts (R325, R326). -/
def execSluiceCycleStart (port : Fin 22) (s : State) : Answer :=
  live s fun s =>
    let t := s.sluiceCycle port
    { s with regs := t.regs, eqs := t.eqs, out := t.out, queues := t.queues, ports := t.ports }

/-- The next gate entry applies (R326). -/
def execGateEntryAdvance (port : Fin 22) (s : State) : Answer :=
  live s fun s =>
    let t := s.gateAdvance port
    { s with regs := t.regs, queues := t.queues, ports := t.ports }

/-- The queues are sampled (R331). -/
def execQueueSample (port : PortNo) (s : State) : Answer :=
  live s fun s =>
    let t := s.queueSample port
    { s with regs := t.regs, queues := t.queues, ports := t.ports }

/-- The link partner enters or leaves low-power idle (R309). -/
def execReceiveLpi (m : MacNo) (on : Bool) (s : State) : Answer :=
  live s fun s =>
    let t := s.setFld (Reg.EMC_LINK_LPI_RX m) (if on then 1 else 0)
    { s with regs := t.regs }

/-- The credit of a queue is back at 0 (R324). -/
def execCbsCreditRecovered (port : PortNo) (q : Fin 8) (s : State) : Answer :=
  live s fun s =>
    let t := s.creditBack port q
    { s with
      regs := t.regs, staged := t.staged, out := t.out, queues := t.queues, ports := t.ports, saltern := t.saltern,
      tb := t.tb }

end Sys2Proof.Machine
end

