-- ==== Sys2Proof/Machine/ExecUpdate.lean ====
section
/-!
DEFINITION. The field update as commands (chapter 13).
-/

namespace Sys2Proof.Machine

/-- A write of the piece doorbell (R426 to R430); `ring`: its bit RING. -/
def execUpdPieceDb (page : PageNo) (ring : Bool) (s : State) : Answer :=
  live s fun s =>
    let t := s.onWrite page Reg.UPD_PIECE_DB fun s => if ring then s.updPiece else s
    { s with regs := t.regs, upd := t.upd }

/-- A piece is programmed and read back (R429). -/
def execPieceStored (s : State) : Answer :=
  live s fun s =>
    let t := s.pieceStored
    { s with regs := t.regs, flash := t.flash, eqs := t.eqs, out := t.out, upd := t.upd }

/-- The bundle has been verified (R432), with the verdicts on hashes and image signature that the stored bytes give; one
with other verdicts cannot come and changes nothing (notes/assumptions/51.md). -/
def execBundleVerifyComplete (fwHashOk imgHashOk imgSigOk fwOk : Bool) (fwRollback : BitVec 8) (optOk : Bool)
    (s : State) : Answer :=
  live s fun s =>
    let t := s.bundleVerified fwHashOk imgHashOk imgSigOk fwOk fwRollback.toNat optOk
    { s with regs := t.regs, flash := t.flash, eqs := t.eqs, out := t.out, freeCnt := t.freeCnt, opts := t.opts }

/-- The staged copy is read back (R433, R442). -/
def execStagingComplete (ok : Bool) (s : State) : Answer :=
  live s fun s =>
    let t := s.stagingDone ok
    { s with regs := t.regs, flash := t.flash, eqs := t.eqs, out := t.out, str := t.str, upd := t.upd }

/-- ARM in UPD_CMD (R435). -/
def execUpdArm (page : PageNo) (s : State) : Answer :=
  live s fun s =>
    let t := s.onWrite page Reg.UPD_CMD State.updArm
    { s with regs := t.regs, str := t.str }

/-- Image and firmware are loaded (R435). -/
def execArmingComplete (s : State) : Answer :=
  live s fun s =>
    let t := s.armingDone
    { s with regs := t.regs, eqs := t.eqs, out := t.out }

/-- ACTIVATE in UPD_CMD (R437). -/
def execActivate (page : PageNo) (s : State) : Answer :=
  live s fun s =>
    let t := s.onWrite page Reg.UPD_CMD State.updActivate
    { s with regs := t.regs, upd := t.upd }

/-- The engines resume (R438). -/
def execHandoverResume (s : State) : Answer :=
  live s fun s =>
    let t := s.handoverResume
    { s with upd := t.upd }

/-- CONFIRM in UPD_CMD (R440). -/
def execConfirm (page : PageNo) (optOk : Bool) (s : State) : Answer :=
  live s fun s =>
    let t := s.onWrite page Reg.UPD_CMD fun t => t.updConfirm optOk
    { s with
      regs := t.regs, eqs := t.eqs, out := t.out, freeCnt := t.freeCnt, stores := t.stores, archive := t.archive,
      upd := t.upd, opts := t.opts }

/-- ABORT in UPD_CMD (R442). -/
def execUpdAbort (page : PageNo) (s : State) : Answer :=
  live s fun s =>
    let t := s.onWrite page Reg.UPD_CMD State.updAbort
    { s with regs := t.regs, eqs := t.eqs, out := t.out, str := t.str, upd := t.upd }

/-- ARCH_CLEAR in UPD_CMD (R441). -/
def execArchClear (page : PageNo) (s : State) : Answer :=
  live s fun s =>
    let t := s.onWrite page Reg.UPD_CMD State.archClear
    { s with regs := t.regs, archive := t.archive }

end Sys2Proof.Machine
end

