-- ==== Sys2Proof/Machine/Dispatch.lean ====
section
/-! DEFINITION. The meaning of every command: one arm per constructor of `Instr`, in the table's order. -/

namespace Sys2Proof.Machine

def exec (i : Instr) (s : State) : Host.Outcome State Fault Refusal :=
  match i with
  | .registerWrite page addr value => Sys2Proof.Machine.execRegisterWrite page addr value s
  | .lowWordRead page addr => Sys2Proof.Machine.execLowWordRead page addr s
  | .rcRead page addr => Sys2Proof.Machine.execRcRead page addr s
  | .regionStepDown r busyPct => Sys2Proof.Machine.execRegionStepDown r busyPct s
  | .regionMemoryWake r => Sys2Proof.Machine.execRegionMemoryWake r s
  | .regionHold e => Sys2Proof.Machine.execRegionHold e s
  | .codewordReceived link c => Sys2Proof.Machine.execCodewordReceived link c s
  | .linkDown link => Sys2Proof.Machine.execLinkDown link s
  | .linkRetrain link trains => Sys2Proof.Machine.execLinkRetrain link trains s
  | .tempMeasure core pd0 pd1 => Sys2Proof.Machine.execTempMeasure core pd0 pd1 s
  | .loadA page => Sys2Proof.Machine.execLoadA page s
  | .loadB page => Sys2Proof.Machine.execLoadB page s
  | .push page => Sys2Proof.Machine.execPush page s
  | .commit page => Sys2Proof.Machine.execCommit page s
  | .abort page => Sys2Proof.Machine.execAbort page s
  | .saveSettings page => Sys2Proof.Machine.execSaveSettings page s
  | .saveDone => Sys2Proof.Machine.execSaveDone s
  | .strPieceDb page => Sys2Proof.Machine.execStrPieceDb page s
  | .imageReadComplete => Sys2Proof.Machine.execImageReadComplete s
  | .signatureVerified ok => Sys2Proof.Machine.execSignatureVerified ok s
  | .imageApplied => Sys2Proof.Machine.execImageApplied s
  | .fullReloadComplete => Sys2Proof.Machine.execFullReloadComplete s
  | .drainComplete => Sys2Proof.Machine.execDrainComplete s
  | .bootFirmwareCheck a b => Sys2Proof.Machine.execBootFirmwareCheck a b s
  | .unitStop u => Sys2Proof.Machine.execUnitStop u s
  | .batchWritten => Sys2Proof.Machine.execBatchWritten s
  | .bondTimeout bond => Sys2Proof.Machine.execBondTimeout bond s
  | .sigCommit page => Sys2Proof.Machine.execSigCommit page s
  | .cadenceTick => Sys2Proof.Machine.execCadenceTick s
  | .commitServed => Sys2Proof.Machine.execCommitServed s
  | .epochCommit => Sys2Proof.Machine.execEpochCommit s
  | .pinNow page => Sys2Proof.Machine.execPinNow page s
  | .pinAt page => Sys2Proof.Machine.execPinAt page s
  | .unpin page => Sys2Proof.Machine.execUnpin page s
  | .pinExpired page => Sys2Proof.Machine.execPinExpired page s
  | .pinnedRead page cell => Sys2Proof.Machine.execPinnedRead page cell s
  | .start page => Sys2Proof.Machine.execStart page s
  | .cancel page => Sys2Proof.Machine.execCancel page s
  | .ashlarDone page => Sys2Proof.Machine.execAshlarDone page s
  | .psgWgDb page => Sys2Proof.Machine.execPsgWgDb page s
  | .referencePoint pt x => Sys2Proof.Machine.execReferencePoint pt x s
  | .syntheticReferencePoint pt => Sys2Proof.Machine.execSyntheticReferencePoint pt s
  | .referenceLost pt => Sys2Proof.Machine.execReferenceLost pt s
  | .holdExpired pt => Sys2Proof.Machine.execHoldExpired pt s
  | .forceSearch page mask => Sys2Proof.Machine.execForceSearch page mask s
  | .hwReset page mask => Sys2Proof.Machine.execHwReset page mask s
  | .forwardCrossing pt => Sys2Proof.Machine.execForwardCrossing pt s
  | .rateWrite page value => Sys2Proof.Machine.execRateWrite page value s
  | .adjustment src => Sys2Proof.Machine.execAdjustment src s
  | .slewComplete => Sys2Proof.Machine.execSlewComplete s
  | .ppsInEdge x => Sys2Proof.Machine.execPpsInEdge x s
  | .ppsMiss => Sys2Proof.Machine.execPpsMiss s
  | .masterLost => Sys2Proof.Machine.execMasterLost s
  | .masterReturn => Sys2Proof.Machine.execMasterReturn s
  | .ppsOutRise => Sys2Proof.Machine.execPpsOutRise s
  | .ppsOutFall => Sys2Proof.Machine.execPpsOutFall s
  | .gptpMessage port m => Sys2Proof.Machine.execGptpMessage port m s
  | .snap page => Sys2Proof.Machine.execSnap page s
  | .actWrite page e => Sys2Proof.Machine.execActWrite page e s
  | .actRead page e => Sys2Proof.Machine.execActRead page e s
  | .actArm page e => Sys2Proof.Machine.execActArm page e s
  | .disarm page e => Sys2Proof.Machine.execDisarm page e s
  | .disarmAll page => Sys2Proof.Machine.execDisarmAll page s
  | .triggerDispatch e => Sys2Proof.Machine.execTriggerDispatch e s
  | .releaseSealed e => Sys2Proof.Machine.execReleaseSealed e s
  | .triggerMessageArrival e die => Sys2Proof.Machine.execTriggerMessageArrival e die s
  | .actionRelease e => Sys2Proof.Machine.execActionRelease e s
  | .routeSecondPass => Sys2Proof.Machine.execRouteSecondPass s
  | .pduHoldExpiry route => Sys2Proof.Machine.execPduHoldExpiry route s
  | .eventGapExpiry route => Sys2Proof.Machine.execEventGapExpiry route s
  | .verificationComplete => Sys2Proof.Machine.execVerificationComplete s
  | .recipeInvocation engine code => Sys2Proof.Machine.execRecipeInvocation engine code s
  | .recipeOverrun engine => Sys2Proof.Machine.execRecipeOverrun engine s
  | .lockstepMismatch engine => Sys2Proof.Machine.execLockstepMismatch engine s
  | .forceTakeover page engine => Sys2Proof.Machine.execForceTakeover page engine s
  | .secHandBack page engine => Sys2Proof.Machine.execSecHandBack page engine s
  | .loadWindow engine busyPct => Sys2Proof.Machine.execLoadWindow engine busyPct s
  | .mbLoad page n mb => Sys2Proof.Machine.execMbLoad page n mb s
  | .mbRead page n mb => Sys2Proof.Machine.execMbRead page n mb s
  | .txRequest page n mask => Sys2Proof.Machine.execTxRequest page n mask s
  | .txCancel page n mask => Sys2Proof.Machine.execTxCancel page n mask s
  | .txResume page n mask => Sys2Proof.Machine.execTxResume page n mask s
  | .recover page n => Sys2Proof.Machine.execRecover page n s
  | .resetBo page n => Sys2Proof.Machine.execResetBo page n s
  | .mtxArm page n => Sys2Proof.Machine.execMtxArm page n s
  | .mtxStop page n => Sys2Proof.Machine.execMtxStop page n s
  | .startOfFrame n => Sys2Proof.Machine.execStartOfFrame n s
  | .arbitrationLost n => Sys2Proof.Machine.execArbitrationLost n s
  | .transmissionComplete n loopDelay => Sys2Proof.Machine.execTransmissionComplete n loopDelay s
  | .busError n kind rule x => Sys2Proof.Machine.execBusError n kind rule x s
  | .busOffDelayExpiry n => Sys2Proof.Machine.execBusOffDelayExpiry n s
  | .recoveryComplete n => Sys2Proof.Machine.execRecoveryComplete n s
  | .canFrameReceived n f ageNs => Sys2Proof.Machine.execCanFrameReceived n f ageNs s
  | .rxPop page n => Sys2Proof.Machine.execRxPop page n s
  | .matrixCycleStart n => Sys2Proof.Machine.execMatrixCycleStart n s
  | .windowStart n w => Sys2Proof.Machine.execWindowStart n w s
  | .mtxRefMiss n => Sys2Proof.Machine.execMtxRefMiss n s
  | .resyncSend policy n => Sys2Proof.Machine.execResyncSend policy n s
  | .characterReceived n c => Sys2Proof.Machine.execCharacterReceived n c s
  | .break_ n => Sys2Proof.Machine.execBreak n s
  | .idle n => Sys2Proof.Machine.execIdle n s
  | .timeout n => Sys2Proof.Machine.execTimeout n s
  | .characterTransmitted n echo => Sys2Proof.Machine.execCharacterTransmitted n echo s
  | .deLagExpiry n => Sys2Proof.Machine.execDeLagExpiry n s
  | .linSlotStart n => Sys2Proof.Machine.execLinSlotStart n s
  | .linHeaderReceived n pid x => Sys2Proof.Machine.execLinHeaderReceived n pid x s
  | .linResponseReceived n data checksum => Sys2Proof.Machine.execLinResponseReceived n data checksum s
  | .linNoresp n => Sys2Proof.Machine.execLinNoresp n s
  | .spiWord n rx => Sys2Proof.Machine.execSpiWord n rx s
  | .spiTargetWord n rx => Sys2Proof.Machine.execSpiTargetWord n rx s
  | .csNRise n partialWord => Sys2Proof.Machine.execCsNRise n partialWord s
  | .sentMessage n m => Sys2Proof.Machine.execSentMessage n m s
  | .slnRxPop page n => Sys2Proof.Machine.execSlnRxPop page n s
  | .txPush page n item => Sys2Proof.Machine.execTxPush page n item s
  | .rxFlush page n => Sys2Proof.Machine.execRxFlush page n s
  | .txFlush page n => Sys2Proof.Machine.execTxFlush page n s
  | .smReset page n => Sys2Proof.Machine.execSmReset page n s
  | .edgeAccepted b line level ageNs => Sys2Proof.Machine.execEdgeAccepted b line level ageNs s
  | .stagingRefresh b => Sys2Proof.Machine.execStagingRefresh b s
  | .ethFrameReceived port f q => Sys2Proof.Machine.execEthFrameReceived port f q s
  | .forwardingDecision port head => Sys2Proof.Machine.execForwardingDecision port head s
  | .egressSelect port => Sys2Proof.Machine.execEgressSelect port s
  | .tsPop page port => Sys2Proof.Machine.execTsPop page port s
  | .ethLink m up speed halfDuplex => Sys2Proof.Machine.execEthLink m up speed halfDuplex s
  | .lpiEntry m => Sys2Proof.Machine.execLpiEntry m s
  | .lpiWake m => Sys2Proof.Machine.execLpiWake m s
  | .flush page port queues => Sys2Proof.Machine.execFlush page port queues s
  | .listArm page port => Sys2Proof.Machine.execListArm page port s
  | .listStop page port => Sys2Proof.Machine.execListStop page port s
  | .sluiceCycleStart port => Sys2Proof.Machine.execSluiceCycleStart port s
  | .gateEntryAdvance port => Sys2Proof.Machine.execGateEntryAdvance port s
  | .queueSample port => Sys2Proof.Machine.execQueueSample port s
  | .ringLinkUp side => Sys2Proof.Machine.execRingLinkUp side s
  | .ringLinkDown side => Sys2Proof.Machine.execRingLinkDown side s
  | .ringFrameReceived side f fcsOk => Sys2Proof.Machine.execRingFrameReceived side f fcsOk s
  | .windowAge src => Sys2Proof.Machine.execWindowAge src s
  | .quietTimeEnd => Sys2Proof.Machine.execQuietTimeEnd s
  | .periodic => Sys2Proof.Machine.execPeriodic s
  | .announce => Sys2Proof.Machine.execAnnounce s
  | .resume page => Sys2Proof.Machine.execResume page s
  | .ringSyncSend => Sys2Proof.Machine.execRingSyncSend s
  | .syncTimeout => Sys2Proof.Machine.execSyncTimeout s
  | .read path f => Sys2Proof.Machine.execRead path f s
  | .write path f => Sys2Proof.Machine.execWrite path f s
  | .writeAck path f => Sys2Proof.Machine.execWriteAck path f s
  | .fetchAdd path f => Sys2Proof.Machine.execFetchAdd path f s
  | .swap path f => Sys2Proof.Machine.execSwap path f s
  | .cas path f => Sys2Proof.Machine.execCas path f s
  | .probe path f => Sys2Proof.Machine.execProbe path f s
  | .pcieAtomicop page path addr kind width operand compare => Sys2Proof.Machine.execPcieAtomicop page path addr kind width operand compare s
  | .pathFail page path => Sys2Proof.Machine.execPathFail page path s
  | .heartbeatExpiry page path => Sys2Proof.Machine.execHeartbeatExpiry page path s
  | .pathUp page path => Sys2Proof.Machine.execPathUp page path s
  | .pathSel page path => Sys2Proof.Machine.execPathSel page path s
  | .eqPop page q => Sys2Proof.Machine.execEqPop page q s
  | .eqFlush page q => Sys2Proof.Machine.execEqFlush page q s
  | .bridgeWrite page off be data => Sys2Proof.Machine.execBridgeWrite page off be data s
  | .bridgeRead page off be => Sys2Proof.Machine.execBridgeRead page off be s
  | .busGrant => Sys2Proof.Machine.execBusGrant s
  | .farCycleEnd data => Sys2Proof.Machine.execFarCycleEnd data s
  | .waitTmo => Sys2Proof.Machine.execWaitTmo s
  | .go page => Sys2Proof.Machine.execGo page s
  | .prefetchTimeout w => Sys2Proof.Machine.execPrefetchTimeout w s
  | .inboundCycle c => Sys2Proof.Machine.execInboundCycle c s
  | .backoffExpiry => Sys2Proof.Machine.execBackoffExpiry s
  | .intPoll levels => Sys2Proof.Machine.execIntPoll levels s
  | .keyWrite page slot size => Sys2Proof.Machine.execKeyWrite page slot size s
  | .keyErase page slot => Sys2Proof.Machine.execKeyErase page slot s
  | .keyZeroise slot => Sys2Proof.Machine.execKeyZeroise slot s
  | .keyWarn slot => Sys2Proof.Machine.execKeyWarn slot s
  | .keyExhausted slot => Sys2Proof.Machine.execKeyExhausted slot s
  | .pcjProd page ring index => Sys2Proof.Machine.execPcjProd page ring index s
  | .jobStart page ring desc => Sys2Proof.Machine.execJobStart page ring desc s
  | .jobComplete page ring input dmaErr => Sys2Proof.Machine.execJobComplete page ring input dmaErr s
  | .updPieceDb page ring => Sys2Proof.Machine.execUpdPieceDb page ring s
  | .pieceStored => Sys2Proof.Machine.execPieceStored s
  | .bundleVerifyComplete fwHashOk imgHashOk imgSigOk fwOk fwRollback optOk => Sys2Proof.Machine.execBundleVerifyComplete fwHashOk imgHashOk imgSigOk fwOk fwRollback optOk s
  | .stagingComplete ok => Sys2Proof.Machine.execStagingComplete ok s
  | .updArm page => Sys2Proof.Machine.execUpdArm page s
  | .armingComplete => Sys2Proof.Machine.execArmingComplete s
  | .activate page => Sys2Proof.Machine.execActivate page s
  | .handoverResume => Sys2Proof.Machine.execHandoverResume s
  | .confirm page optOk => Sys2Proof.Machine.execConfirm page optOk s
  | .updAbort page => Sys2Proof.Machine.execUpdAbort page s
  | .archClear page => Sys2Proof.Machine.execArchClear page s
  | .powerOn x => Sys2Proof.Machine.execPowerOn x s
  | .resetNFall lowNs => Sys2Proof.Machine.execResetNFall lowNs s
  | .resetRelease => Sys2Proof.Machine.execResetRelease s
  | .optProgram page => Sys2Proof.Machine.execOptProgram page s
  | .optProgramComplete ok => Sys2Proof.Machine.execOptProgramComplete ok s
  | .optRead page copy => Sys2Proof.Machine.execOptRead page copy s
  | .forceSpare page item => Sys2Proof.Machine.execForceSpare page item s
  | .handBack page item => Sys2Proof.Machine.execHandBack page item s
  | .patrolRead bank row kind res sweepEnds => Sys2Proof.Machine.execPatrolRead bank row kind res sweepEnds s
  | .unitCheck item => Sys2Proof.Machine.execUnitCheck item s
  | .selftestComplete item pass => Sys2Proof.Machine.execSelftestComplete item pass s
  | .spareHandback u => Sys2Proof.Machine.execSpareHandback u s
  | .transientAgeExpiry item => Sys2Proof.Machine.execTransientAgeExpiry item s
  | .meRestartComplete => Sys2Proof.Machine.execMeRestartComplete s
  | .supplyValid x => Sys2Proof.Machine.execSupplyValid x s
  | .vioChange bank valid => Sys2Proof.Machine.execVioChange bank valid s
  | .classLatch bank c => Sys2Proof.Machine.execClassLatch bank c s
  | .perst link low => Sys2Proof.Machine.execPerst link low s
  | .mortarLinkUp link => Sys2Proof.Machine.execMortarLinkUp link s
  | .flashReadError => Sys2Proof.Machine.execFlashReadError s
  | .busIntegration n => Sys2Proof.Machine.execBusIntegration n s
  | .ctsNChange n high => Sys2Proof.Machine.execCtsNChange n high s
  | .receiveLpi m on => Sys2Proof.Machine.execReceiveLpi m on s
  | .cbsCreditRecovered port q => Sys2Proof.Machine.execCbsCreditRecovered port q s

end Sys2Proof.Machine
end

