-- ==== Sys2Proof/Machine/Tick.lean ====
section
/-!
DEFINITION. What happens at a tick of the 500 MHz clock when no command waits (notes/assumptions/2.md).
-/

namespace Sys2Proof.Machine

/-- The running ashlars copy some of their cells; how many, the manual leaves open (notes/assumptions/11.md). -/
def State.ashlarsRun (s : State) : State :=
  ((List.range 8).filter fun p => (s.page p).ashlar.isSome).foldl
    (fun t p => (t.ashlarStep p (Config.ashlarPace t.freeCnt)).useFree) s

/-- The gPTP ports send what is due (R162). -/
def State.gptpRun (s : State) : State :=
  if s.hlt.meDown || !(s.gptpOn || s.rtOn) then s else (List.range 22).foldl State.gptpTimer s

/-- One tick: the local counter counts 2 ns (R158), running ashlars go on, gPTP ports send. The counter stands in reset
(R448). -/
def State.tickClock (s : State) : State :=
  if s.dev.held then s
  else
    let t := (State.ashlarsRun { s with tb := { s.tb with local16 := s.tb.local16 + tick16 } }).gptpRun
    { s with tb := t.tb, out := t.out, freeCnt := t.freeCnt, pages := t.pages }

end Sys2Proof.Machine
end

