-- ==== Sys2Proof/Machine/Pins.lean ====
section
/-!
DEFINITION. What the balls show: the holding states (R450), the pins of units in their safe states and running (R234, R262,
R263, R268, R273, R287, R290, R296), the pulls of the pin personality (R480), and FIELD_READY, REPLACE_N, P0_IRQ_N, P1_IRQ_N
and PPS_OUT (R165, R365, R449, R464). Each is read off State; no command reads it back.
-/

namespace Sys2Proof.Machine

/-- What the XJG does to a ball. -/
inductive Level where
  | low
  | high
  /-- High impedance with no pull. -/
  | hiZ
  | pullUp
  | pullDown
  /-- Undriven, the supply of its I/O bank being invalid (R478). -/
  | undriven
  /-- Electrical idle of a SerDes lane. -/
  | idle
  /-- The unit sends on it: the levels are those of what `State.out` shows on the line, or of the line's idle state. -/
  | signal
  deriving DecidableEq, Repr

/-- A driven level. -/
def levelOf (v : Bool) : Level := if v then .high else .low

/-! ## Holding states (Table 14.3) -/

/-- The pin groups of Table 14.3. -/
inductive PinGroup where
  | canTxd | canRxd | laneA | laneB | laneC | laneD
  | discrete (bank : Nat)
  /-- LB_AS_N, LB_RD_N, LB_WR_N, LB_LOCK_N, LB_BR_N. -/
  | lbControl
  /-- LB_A, LB_BE_N, LB_D, LB_WAIT_N. -/
  | lbBus
  /-- LB_BG_N, LB_SEL_N, LB_INT. -/
  | lbIn
  | serdes
  /-- PHREF, PHREF_Q, PHREF_IDX, PPS_IN. -/
  | phaseIn
  /-- PPS_OUT, FIELD_READY. -/
  | lowOut
  /-- REPLACE_N, P0_IRQ_N, P1_IRQ_N: open drain. -/
  | openDrain
  | xspiCs | xspiSck | xspiIo
  /-- TDI, TMS, TRST_N. -/
  | jtag
  deriving DecidableEq, Repr

/-- The bank is selected in DISC_PULLUP of the options that have been loaded (Table 14.4). -/
def State.holdsUp (s : State) (b : Nat) : Bool := !s.dev.held && bitOf (s.optByte (0x1C + b / 8)) (b % 8)

/-- The holding state of a pin whose own I/O supply is valid (R450). -/
def State.holdLevel (s : State) : PinGroup → Level
  | .canTxd | .laneA | .lbControl | .xspiCs => .high
  | .canRxd | .lbBus | .lbIn | .phaseIn | .xspiIo | .openDrain => .hiZ
  | .laneB | .laneD | .jtag => .pullUp
  | .laneC => .pullDown
  | .discrete b => if s.holdsUp b then .pullUp else .pullDown
  | .serdes => if bitOf s.dev.supplies 2 && bitOf s.dev.supplies 3 then .idle else .undriven
  | .lowOut | .xspiSck => .low

/-! ## Field balls (R480, R493) -/

/-- A field ball: TXD or RXD of a CAN unit, pin A to D of a lane, a line of a bank. -/
inductive FieldPin where
  | txd (n : Nat)
  | rxd (n : Nat)
  | lane (n : Nat) (pin : Fin 4)
  | line (b l : Nat)
  deriving DecidableEq, Repr

/-- The unit of a field ball. -/
def FieldPin.unit : FieldPin → Nat
  | .txd n | .rxd n => Reg.canUnit n
  | .lane n _ => Reg.laneUnit n
  | .line b _ => Reg.bankUnit b

/-- The group of a field ball. -/
def FieldPin.group : FieldPin → PinGroup
  | .txd _ => .canTxd
  | .rxd _ => .canRxd
  | .lane _ k => [PinGroup.laneA, .laneB, .laneC, .laneD].getD k .laneA
  | .line b _ => .discrete b

/-- Region, local row and local column of a field ball (Table 15.13). -/
def FieldPin.place : FieldPin → Nat × Nat × Nat
  | .txd n => (n / 16, 2 + n % 16 / 4, 2 * (n % 4) + 1)
  | .rxd n => (n / 16, 2 + n % 16 / 4, 2 * (n % 4) + 2)
  | .lane n k => (n / 8, 8 + n % 8 / 2, 4 * (n % 2) + 1 + k)
  | .line b l => (b / 6, 13 + b % 6, l + 1)

/-- Row index and column of a field ball (R493). -/
def FieldPin.ball (x : FieldPin) : Nat × Nat :=
  let r := x.place.1
  (20 * (r % 2) + x.place.2.1, (if r < 4 then 8 * (r / 2) else 32 + 8 * ((r - 4) / 2)) + x.place.2.2)

/-- The pin-personality entry of a field ball (R480). -/
def State.pinEntry (s : State) (x : FieldPin) : Nat :=
  s.tw 0x01 devScope (48 * (x.ball.1 - 1) + (x.ball.2 - 1)) 0

/-- PULL of a ball whose unit has its personality: it replaces the holding pull, also in the safe state (R480). -/
def State.ballPull (s : State) (x : FieldPin) : Level :=
  match bits (s.pinEntry x) 3 2 with
  | 0 => .hiZ
  | 1 => .pullDown
  | 2 => .pullUp
  | _ => match s.holdLevel x.group with
    | .pullUp => .pullUp
    | .pullDown => .pullDown
    | _ => .hiZ

/-- DRIVE in mA and SLOW of a ball; 2 mA in the holding state of pin A (R480, Table 14.3). -/
def State.ballDrive (s : State) (x : FieldPin) : Nat × Bool :=
  if s.hasPers x.unit then ([2, 4, 8, 12].getD (s.pinEntry x % 4) 2, bitOf (s.pinEntry x) 2) else (2, false)

/-- The buffer class of a VIO_F bank: the latched one, and until one is latched the 1.8 V class (R476). -/
def State.bufferClass (s : State) (n : Nat) : BufClass :=
  match s.dev.classes.getD n 0 with
  | 2 => .c25
  | 3 => .c33
  | _ => .c18

/-! ## CAN (R234) -/

/-- The unit drives TXD recessive: stopped, OFF, LISTEN or bus-off. -/
def State.canQuiet (s : State) (n : Nat) : Bool :=
  !s.running (Reg.canUnit n) || !(s.canMode n == 1 || s.canMode n == 2) || s.errState n == errBusOff

def State.txdLevel (s : State) (n : Nat) : Level := if s.canQuiet n then .high else .signal

/-! ## Serial lanes (Table 8.1, R263, R268, R273, R274, R287) -/

/-- The lane drives its safe state (R263). -/
def State.laneIsSafe (s : State) (n : Nat) : Bool := !s.running (Reg.laneUnit n)

/-- The lane drives RE_N high: its driver is on and it does not listen to itself (R268). -/
def State.reNHigh (s : State) (n : Nat) : Bool := (s.lane n).sending && !s.flag (Reg.SLN_MODE_ECHO n)

/-- Pin A: an output but for an SPI target; unused in a running SENT lane. -/
def State.pinA (s : State) (n : Nat) : Option Level :=
  if s.pers n = persSpiTgt then none
  else if s.laneIsSafe n then some .high
  else if s.pers n = persSent then none
  else some .signal

/-- Pin B: an output of an SPI controller only. -/
def State.pinB (s : State) (n : Nat) : Option Level := if s.pers n = persSpiCtl then some .signal else none

/-- Pin C: RTS_N, DE, or CIPO of a target. -/
def State.pinC (s : State) (n : Nat) : Option Level :=
  let p := s.pers n
  if p = persRs485 then some (levelOf (!s.laneIsSafe n && (s.lane n).sending))
  else if p = persSpiTgt then (if s.laneIsSafe n then none else some .signal)
  else if (p = persUart ∨ p = persCustom) ∧ s.flag (Reg.SLN_MODE_FLOW_OUT n) then
    some (levelOf (s.laneIsSafe n || s.flag (Reg.SLN_STATUS_RTS n)))
  else none

/-- Pin D: RE_N or CS_N. -/
def State.pinD (s : State) (n : Nat) : Option Level :=
  let p := s.pers n
  if p = persRs485 then some (levelOf (s.laneIsSafe n || s.reNHigh n))
  else if p = persSpiCtl then some (levelOf (s.laneIsSafe n || !(s.lane n).sending))
  else none

/-- What a lane drives on pin `k`; none: an input, or unused. -/
def State.lanePin (s : State) (n : Nat) (k : Fin 4) : Option Level :=
  [s.pinA n, s.pinB n, s.pinC n, s.pinD n].getD k none

/-! ## Discrete lines (R290, R296) -/

/-- What an output does with a value: the pin shows it, or its inverse with INV; an open drain does not drive high. -/
def State.lineDrives (s : State) (b l : Nat) (v : Bool) : Option Level :=
  let high := v != s.lineInv b l
  if high && bitOf (s.fld (Reg.DSC_DIR_OD b)) l then none else some (levelOf high)

/-- What a bank drives on a line; none: an input, or high impedance. A bank whose personality has been applied and that has
not started yet shows its safe values, 2 acting as 3. -/
def State.linePin (s : State) (b l : Nat) : Option Level :=
  if !s.lineOut b l then none
  else if (s.bank b).fresh then
    (match s.lineSafe b l with
     | 0 => s.lineDrives b l false
     | 1 => s.lineDrives b l true
     | _ => none)
  else if bitOf (s.bank b).hiz l then none
  else s.lineDrives b l (bitOf (s.fld (Reg.DSC_OUT_NOW_DRIVEN b)) l)

/-! ## Every field ball -/

/-- What the unit of a field ball drives on it; none: nothing. -/
def State.unitPin (s : State) : FieldPin → Option Level
  | .txd n => some (s.txdLevel n)
  | .rxd _ => none
  | .lane n k => s.lanePin n k
  | .line b l => s.linePin b l

/-- The VIO_F bank of the ball is valid. -/
def State.ballPowered (s : State) (x : FieldPin) : Bool := s.pinsSeen x.unit

/-- What a field ball shows: undriven without its supply (R478); its holding state in a reset, until the personality of its
unit is applied, and until the bank's class has latched (R450, R478); else what its unit drives, or its pull. -/
def State.fieldPin (s : State) (x : FieldPin) : Level :=
  if !s.ballPowered x then .undriven
  else if s.dev.held || !s.hasPers x.unit || !s.pinsDriven x.unit then s.holdLevel x.group
  else (s.unitPin x).getD (s.ballPull x)

/-! ## Side-band outputs -/

/-- VIO_18 powers the side-band balls. -/
def State.sidePowered (s : State) : Bool := bitOf s.dev.supplies 4

/-- An open-drain output that is asserted pulls low. -/
def State.openDrainPin (s : State) (asserted : Bool) : Level :=
  if !s.sidePowered then .undriven else if asserted && !s.dev.held then .low else s.holdLevel .openDrain

/-- FIELD_READY (R449). -/
def State.fieldReadyPin (s : State) : Level :=
  if !s.sidePowered then .undriven else if s.dev.held then s.holdLevel .lowOut else levelOf s.fieldReady

/-- PPS_OUT (R165). -/
def State.ppsOutPin (s : State) : Level :=
  if !s.sidePowered then .undriven else if s.dev.held then s.holdLevel .lowOut else levelOf s.tb.ppsOut

/-- REPLACE_N (R464). -/
def State.replacePin (s : State) : Level := s.openDrainPin (s.flag Reg.HLT_STATUS_REPLACE)

/-- P0_IRQ_N and P1_IRQ_N (R365). -/
def State.irqPin (s : State) (l : Nat) : Level := s.openDrainPin (s.irqLow l)

end Sys2Proof.Machine
end

