-- ==== Sys2Proof/Safety.lean ====
section
/-!
DEFINITION. The terms in which claims about the XJG are made: a device that is not held in reset, a page that may write
a register, a command that completes, what a command leaves alone, and the state of a device held in reset.
-/

namespace Sys2Proof.Machine

/-- The device is out of reset (R446, R448). -/
abbrev State.awake (s : State) : Prop := s.dev.held = false

/-- Page `p` may write the register at `a` of the owner's address map, and the device is out of reset (R46, R48, R361). -/
abbrev State.takes (s : State) (p a : Nat) : Prop :=
  s.awake ∧ s.target p (pageAddr p a) = .reg a ∧ s.mayWrite p a = true

/-- Nothing waits for an operation of a page to end: no PCIe request is withheld, no path selection is open (R371, R374). -/
abbrev State.settled (s : State) : Prop := s.bridge.withheld = [] ∧ ∀ q : PageNo, (s.page q).selected = none

/-- A read of page `p` over PCIe is carried out at once (R371, R455). -/
abbrev State.mayRead (s : State) (p : PageNo) : Prop :=
  s.awake ∧ s.settled ∧ s.opRoom p = true ∧ (s.flag Reg.HLT_RESET_CAUSE_OPT_FAIL = false ∨ p = 0)

/-- Page access frames of page `p` on path `x` are served (R362, R367, R372, R455, R462). -/
abbrev State.serves (s : State) (p : PageNo) (x : Fin 8) : Prop :=
  s.awake ∧ s.settled ∧ 3 ≤ x.val ∧ (x.val = 3 → s.ringPathOk = true) ∧ s.named p x = true ∧ s.hlt.meDown = false ∧
    s.flag Reg.HLT_RESET_CAUSE_OPT_FAIL = false

/-- The command is answered with a next state of which `P` holds. -/
def Completes (c : Instr) (s : State) (P : State → Prop) : Prop := ∃ t, exec c s = .next t ∧ P t

/-- Every byte of memory and of flash reads as before. -/
def SameBytes (s t : State) : Prop := (∀ a, t.byte a = s.byte a) ∧ t.flash = s.flash

/-- Nothing but registers has changed, and of these only those listed. -/
def OnlyRegs (s t : State) (as : List Nat) : Prop :=
  { t with regs := s.regs } = s ∧ ∀ a, a ∉ as → t.rd a = s.rd a

/-- No register but those listed has changed. -/
def RegsBut (s t : State) (as : List Nat) : Prop := ∀ a, a ∉ as → t.rd a = s.rd a

/-- The event queues are as the posting of one event leaves them (R378, R380). -/
def Posts (s t : State) (code src : Nat) (data : Word) : Prop := t.eqs = (s.postEvent code src data).eqs

/-- The commands that act on a device held in reset: its supplies, its reset pins, and what is latched from pins. -/
def actsInReset : Instr → Bool
  | .powerOn _ | .resetNFall _ | .resetRelease | .supplyValid _ | .vioChange _ _ | .classLatch _ _ | .perst _ _ => true
  | _ => false

/-- The commands that may store to a byte memory or to flash: a page's writes, a far master's, an image that comes into
service, what an engine stores, the fault log and the option buffer, the update manager, a commit or a release that
brings an image into service, and resets. -/
def storesBytes : Instr → Bool
  | .registerWrite _ _ _ | .write _ _ | .writeAck _ _ | .imageApplied | .epochCommit | .referencePoint _ _
  | .hwReset _ _ | .syntheticReferencePoint _ | .referenceLost _ | .holdExpired _ | .forwardCrossing _ | .actionRelease _
  | .inboundCycle _ | .recipeInvocation _ _ | .recipeOverrun _ | .forceTakeover _ _ | .lockstepMismatch _
  | .linkDown _ | .optRead _ _ | .patrolRead _ _ _ _ _
  | .unitCheck _ | .selftestComplete _ _ | .resetRelease | .powerOn _ | .resetNFall _ | .pieceStored
  | .bundleVerifyComplete _ _ _ _ _ _ | .stagingComplete _ => true
  | _ => false

/-- Nothing volatile is left, as every reset leaves it (R448, R449, Table 14.1). -/
def State.cleared (s : State) : Prop :=
  s.fieldReady = false ∧ s.staged = [] ∧ s.hold = [] ∧ s.eqs = [] ∧ s.tbl = [] ∧ s.tblOld = [] ∧ s.str = {}
    ∧ s.cells = [] ∧ s.sig = {} ∧ s.pages = [] ∧ s.tb = {} ∧ s.trk = [] ∧ s.pdus = [] ∧ s.engines = [] ∧ s.waking = 0
    ∧ s.mbs = [] ∧ s.can = [] ∧ s.lanes = [] ∧ s.banks = [] ∧ s.queues = [] ∧ s.ports = [] ∧ s.saltern = []
    ∧ s.ring = {} ∧ s.slots = [] ∧ s.pols = [] ∧ s.holdBuf = [] ∧ s.bridge = {} ∧ s.rings = [] ∧ s.acts = []

/-- A device that is held in reset has nothing volatile left. -/
def State.quietInReset (s : State) : Prop := s.dev.held = true → s.cleared

/-- A run: no step ends in a fault or a refusal. -/
def Safe (n : Nat) (s : State) : Prop := ∃ t, core.run n s = .next t

end Sys2Proof.Machine
end

