-- ==== Sys2Proof/Certificates/Slice0/Obligations.lean ====
section
/-!
DEFINITION. The statements about the XJG that the provers are asked to prove. Each docstring names the rules of the
manual it says; `Completes`, `takes`, `OnlyRegs` and the other terms are those of Sys2Proof/Safety.lean.
-/

open Sys2Proof Sys2Proof.Machine

/-! ## The block as a whole -/

/-- A step takes the command at the front of the queue and runs exactly it, with the rest of the queue behind it.
The queue is the model's choice (notes/assumptions/2.md). -/
def Obligations.StepRunsFrontCommand : Prop :=
  ∀ (c : Instr) (rest : List Instr) (s : State), s.pending = c :: rest → step s = exec c { s with pending := rest }

/-- With no command waiting, a step is one tick of the clock: out of reset the local counter counts 2 ns (R158), running
ashlars go on and gPTP ports send what is due (R162); in reset nothing changes (R448).
The tick on an empty queue is the model's choice (notes/assumptions/2.md). -/
def Obligations.EmptyQueueIsOneTick : Prop :=
  ∀ s : State, s.pending = [] →
    (s.dev.held = true → step s = .next s) ∧
    (s.awake → ∃ t, step s = .next t ∧ t.tb = { s.tb with local16 := s.tb.local16 + 131072, gptp := t.tb.gptp }
      ∧ { t with tb := s.tb, out := s.out, freeCnt := s.freeCnt, pages := s.pages } = s
      ∧ (s.gptpOn = false → s.rtOn = false → t.tb.gptp = s.tb.gptp)
      ∧ ((∀ p : PageNo, (s.page p).ashlar = none) → t.pages = s.pages ∧ t.freeCnt = s.freeCnt))

/-- Every command is answered with a next state, and no command touches the commands behind it.
The queue and total commands are the model's choices (notes/assumptions/2.md and 7.md). -/
def Obligations.EveryCommandKeepsTheQueue : Prop :=
  ∀ (c : Instr) (s : State), ∃ t, exec c s = .next t ∧ t.pending = s.pending

/-- As many steps as commands wait empty the queue, with no fault and no refusal on the way.
The queue is the model's choice (notes/assumptions/2.md). -/
def Obligations.WaitingCommandsAllRun : Prop :=
  ∀ s : State, ∃ t, core.run s.pending.length s = .next t ∧ t.pending = []

/-- A device held in reset ignores every command but those of its supplies, its reset pins and what is latched from
pins (R448, R449). -/
def Obligations.HeldDeviceIgnoresCommands : Prop :=
  ∀ (c : Instr) (s : State), s.dev.held = true → actsInReset c = false → exec c s = .next s

/-- Headline: whatever step is taken, a device that is held in reset has FIELD_READY low and nothing volatile left: an
empty signal space, empty queues and FIFOs, empty tables, EMPTY key slots, the local counter at 0 (R448, R449,
Table 14.1). -/
def Obligations.EveryStepKeepsResetClear : Prop :=
  ∀ s t : State, s.quietInReset → step s = .next t → t.quietInReset

/-- The invariants of `EveryStepKeepsResetClear` and `EveryStepKeepsMemoryCanonical` hold right after reset, and the
device is out of reset there. -/
def Obligations.ResetStateIsClear : Prop :=
  State.reset.quietInReset ∧ Memory.wf State.reset = true ∧ State.reset.awake

/-! ## The signal space -/

/-- Commit requests (R103, R104, R106): a request that comes 10 µs or more after the instant of the last commit is
served at its own instant; an earlier one, or one beside a commit under way, is kept; kept requests are served together
10 µs after that instant, and each beyond the first counts in SIG_MERGED. A tick of a timed cadence requests a commit
at its grid point. The 10 µs are of disciplined time, across a step of it of the local counter, which is the model's
choice (notes/assumptions/146.md); a second request of the very instant of a commit merges into it, which is the model's
choice too (notes/assumptions/147.md).

A commit takes effect (R107, R109): SIG_EPOCH rises by 1, SIG_COMMIT_TIME is the disciplined time of the commit's
instant, and its hold is recorded. Said of a device without tables, staged values or an armed image, whose commit
writes nothing else into the signal space. -/
def Obligations.CommitsAreServedAndRaiseTheEpoch : Prop :=
  (∀ (p : PageNo) (s : State), s.flag Reg.SIG_BSTAT_RUN = true →
    (s.takes p Reg.SIG_CMD → s.sig.requests = 0 → s.sig.served = none →
      (∀ k, s.sig.lastInstant = some k → s.sig.lastDisc16 = none → k + 10000 * 65536 ≤ s.tb.local16) →
      (∀ k m, s.sig.lastInstant = some k → s.sig.lastDisc16 = some m → m + 10000 * 65536 ≤ s.disc16) →
      exec (.sigCommit p) s = .next { s with sig := { s.sig with
        served := some (s.disc, s.tb.local16), lastInstant := some s.tb.local16, lastDisc16 := some s.disc16 } }) ∧
    (s.takes p Reg.SIG_CMD → s.sig.served ≠ none → s.sig.lastInstant ≠ some s.tb.local16 →
      exec (.sigCommit p) s = .next { s with sig := { s.sig with requests := s.sig.requests + 1 } }) ∧
    (∀ k m, s.takes p Reg.SIG_CMD → s.sig.served = none → s.sig.lastInstant = some k → s.sig.lastDisc16 = some m →
      s.disc16 < m + 10000 * 65536 →
      exec (.sigCommit p) s = .next { s with sig := { s.sig with requests := s.sig.requests + 1 } }) ∧
    (s.takes p Reg.SIG_CMD → s.sig.served ≠ none → s.sig.lastInstant = some s.tb.local16 →
      Completes (.sigCommit p) s fun t =>
        t.rd Reg.SIG_MERGED = satWord ((s.rd Reg.SIG_MERGED).toNat + 1) ∧ OnlyRegs s t [Reg.SIG_MERGED]) ∧
    (∀ k m, s.awake → s.sig.lastInstant = some k → s.sig.lastDisc16 = some m → 0 < s.sig.requests →
      s.sig.served = none → m + 10000 * 65536 ≤ s.disc16 →
      Completes .commitServed s fun t =>
        (∃ l, t.sig = { s.sig with
            served := some ((m + 10000 * 65536) / 65536, l), lastInstant := some l
            lastDisc16 := some (m + 10000 * 65536), requests := 0 } ∧
          (l : Int) = max 0 (s.tb.local16 - (s.disc16 - (m + 10000 * 65536)))) ∧
        t.rd Reg.SIG_MERGED = satWord ((s.rd Reg.SIG_MERGED).toNat + (s.sig.requests - 1)) ∧
        OnlyRegs { s with sig := t.sig } t [Reg.SIG_MERGED]) ∧
    (∀ (m k : Int), s.awake → s.fld Reg.SIG_CADENCE_MODE = 1 →
      s.disc16 = m * ((clampTo 10 1000000 (s.fld Reg.SIG_PERIOD_PERIOD_US) : Nat) * 1000) * 65536 →
      s.sig.cadLast = some k → k < m * ((clampTo 10 1000000 (s.fld Reg.SIG_PERIOD_PERIOD_US) : Nat) * 1000) →
      s.sig.cadHold ≤ m * ((clampTo 10 1000000 (s.fld Reg.SIG_PERIOD_PERIOD_US) : Nat) * 1000) →
      s.sig.requests = 0 → s.sig.served = none →
      (∀ k, s.sig.lastInstant = some k → s.sig.lastDisc16 = none → k + 10000 * 65536 ≤ s.tb.local16) →
      (∀ k d, s.sig.lastInstant = some k → s.sig.lastDisc16 = some d → d + 10000 * 65536 ≤ s.disc16) →
      Completes .cadenceTick s fun t =>
        { t with sig := s.sig } = s ∧ t.sig.served = some (s.disc, s.tb.local16) ∧
        t.sig.lastInstant = some s.tb.local16 ∧ t.sig.requests = 0)) ∧
  (∀ (d : Int) (l : Nat) (s : State), s.awake → s.sig.served = some (d, l) → s.tbl = [] → s.tblOld = [] → s.staged = [] →
    s.pages = [] → s.engines = [] → s.strState ≠ strArmed →
    Completes .epochCommit s fun t =>
      t.rd Reg.SIG_EPOCH = s.rd Reg.SIG_EPOCH + 1 ∧ t.rd Reg.SIG_COMMIT_TIME = BitVec.ofInt 32 d ∧ t.sig.served = none ∧
      t.fld Reg.SIG_COMMIT_HOLD_LAST_NS = satTo 16 ((s.tb.local16 - l) / 65536) ∧
      t.cells = s.cells ∧ SameBytes s t)

/-- Pins (R117, R118, R120): PIN_NOW pins the newest epoch, PIN_AT a named one at most two behind
it or refuses, UNPIN frees it; a pin
that has fallen 2^30 commits behind is dropped with PIN_EXPIRED and PIN_BROKEN. Nothing else changes. -/
def Obligations.PinsOfAPage : Prop :=
  ∀ (p : PageNo) (s : State),
    (s.takes p (Reg.PSG_PIN_CMD p) →
      (Completes (.pinNow p) s fun t =>
        t.flag (Reg.PSG_PIN_STATUS_PINNED p) = true ∧ t.rd (Reg.PSG_PIN_EPOCH p) = s.rd Reg.SIG_EPOCH ∧
        OnlyRegs s t [Reg.PSG_PIN_EPOCH p, Reg.SIG_PIN_EPOCH p, Reg.PSG_PIN_STATUS p]) ∧
      (Completes (.pinAt p) s fun t =>
        OnlyRegs s t [Reg.PSG_PIN_EPOCH p, Reg.SIG_PIN_EPOCH p, Reg.PSG_PIN_STATUS p] ∧
        (let age := sdiff 32 (s.rd Reg.SIG_EPOCH).toNat (s.rd (Reg.PSG_PIN_AT p)).toNat
         if 0 ≤ age ∧ age ≤ 2 then
          t.flag (Reg.PSG_PIN_STATUS_PINNED p) = true ∧ t.rd (Reg.PSG_PIN_EPOCH p) = s.rd (Reg.PSG_PIN_AT p)
         else t.flag (Reg.PSG_PIN_STATUS_PIN_REFUSED p) = true ∧ t.rd (Reg.PSG_PIN_EPOCH p) = s.rd (Reg.PSG_PIN_EPOCH p))) ∧
      (Completes (.unpin p) s fun t =>
        t.flag (Reg.PSG_PIN_STATUS_PINNED p) = false ∧ OnlyRegs s t [Reg.PSG_PIN_STATUS p])) ∧
    (s.awake → s.flag (Reg.PSG_PIN_STATUS_PINNED p) = true →
      (2 : Int) ^ 30 ≤ sdiff 32 (s.rd Reg.SIG_EPOCH).toNat (s.rd (Reg.PSG_PIN_EPOCH p)).toNat →
      Completes (.pinExpired p) s fun t =>
        t.flag (Reg.PSG_PIN_STATUS_PINNED p) = false ∧ t.flag (Reg.PSG_PIN_STATUS_PIN_EXPIRED p) = true ∧
        t.flag (Reg.PSG_PIN_STATUS_PIN_BROKEN p) = true ∧ OnlyRegs s t [Reg.PSG_PIN_STATUS p])

/-- Ashlars (R123, R124, R126): START takes the newest epoch and an address that is a multiple of 64; a START while one runs is ignored and flagged. CANCEL and the last cell end it: STATE shows how it
ended, and the page has no ashlar. -/
def Obligations.AshlarsStartAndEnd : Prop :=
  ∀ (p : PageNo) (s : State),
    (s.takes p (Reg.PSG_ASH_CMD p) → (s.page p).ashlar = none →
      Completes (.start p) s fun t =>
        (∃ a, (t.page p).ashlar = some a ∧ a.epoch = s.rd Reg.SIG_EPOCH ∧ a.copied = 0 ∧ a.restarts = 0 ∧
          a.addr % 64 = 0) ∧
        t.fld (Reg.PSG_ASH_STATUS_STATE p) = 1 ∧ t.rd (Reg.PSG_ASH_EPOCH p) = s.rd Reg.SIG_EPOCH ∧
        OnlyRegs { s with pages := t.pages } t [Reg.PSG_ASH_STATUS p, Reg.PSG_ASH_EPOCH p]) ∧
    (∀ a, s.takes p (Reg.PSG_ASH_CMD p) → (s.page p).ashlar = some a →
      (Completes (.start p) s fun t =>
        t.flag (Reg.PSG_ASH_STATUS_START_IGNORED p) = true ∧ OnlyRegs s t [Reg.PSG_ASH_STATUS p]) ∧
      (Completes (.cancel p) s fun t =>
        (t.page p).ashlar = none ∧ t.fld (Reg.PSG_ASH_STATUS_STATE p) = 4 ∧
        { t with regs := s.regs, eqs := s.eqs, out := s.out, pages := s.pages } = s)) ∧
    (∀ a, s.awake → (s.page p).ashlar = some a → s.fld (Reg.PG_PATH_ACTIVE p) ≠ 0 →
      Completes (.ashlarDone p) s fun t =>
        (t.page p).ashlar = none ∧ t.fld (Reg.PSG_ASH_STATUS_STATE p) = 2 ∧
        { t with regs := s.regs, eqs := s.eqs, out := s.out, pages := s.pages } = s)

/-- Write groups and batches (R108, R111, R127): a doorbell on a permitted group makes it BUSY and queues it as one batch; a
second doorbell, a COUNT out of range and a cell the page may not write are refused, each with its own flag. A batch that
is ready is written whole into the forming epoch. A bond not complete in time is discarded and counted. -/
def Obligations.BatchesEnterTheSignalSpace : Prop :=
  ∀ (p : PageNo) (s : State),
    (s.takes p (Reg.PSG_WG_DB p) →
      Completes (.psgWgDb p) s fun t =>
        { t with regs := s.regs, sig := s.sig, nextId := s.nextId } = s ∧
        (if s.flag (Reg.PSG_WG_STATUS_BUSY p) then
          t.flag (Reg.PSG_WG_STATUS_BUSY_WRITE p) = true ∧ t.sig = s.sig
        else if s.fld (Reg.PSG_WG_COUNT_COUNT p) = 0 ∨ 512 < s.fld (Reg.PSG_WG_COUNT_COUNT p) then
          t.flag (Reg.PSG_WG_STATUS_RANGE p) = true ∧ t.sig = s.sig
        else if ∀ k < s.fld (Reg.PSG_WG_COUNT_COUNT p), s.inUse (s.fld (Reg.PSG_WG_CELL_CELL p k)) = true ∧
            s.hostMay p (s.fld (Reg.PSG_WG_CELL_CELL p k)) = true then
          t.flag (Reg.PSG_WG_STATUS_BUSY p) = true ∧
          ∃ b, t.sig.batches = s.sig.batches ++ [b] ∧ b.src = .group p ∧
            b.items.length = s.fld (Reg.PSG_WG_COUNT_COUNT p)
        else t.flag (Reg.PSG_WG_STATUS_DENIED p) = true ∧ t.sig = s.sig)) ∧
    (∀ (b : Batch) (n : Nat) (w : DWord), s.awake → s.sig.batches = [b] → b.src = .group p →
      b.items = [.write ⟨n, .put w⟩] → s.inUse n = true → s.bondOf n = none →
      Completes .batchWritten s fun t =>
        (∃ v ∈ (t.cell n).vers, v.tag = s.forming ∧ v.word = w) ∧ t.sig.batches = [] ∧
        t.flag (Reg.PSG_WG_STATUS_BUSY p) = false ∧ t.flag (Reg.PSG_WG_STATUS_DONE p) = true ∧
        ∀ k, k ≠ n → t.cell k = s.cell k) ∧
    (∀ (k : Fin 1024) (x : Bond), s.awake → s.sig.bonds.find? (fun y => y.bond == k.val) = some x →
      x.since + (if s.fld Reg.SIG_BOND_TMO_TMO_US = 0 then 1000 else s.fld Reg.SIG_BOND_TMO_TMO_US) * 65536000
        ≤ s.tb.local16 →
      Completes (.bondTimeout k) s fun t =>
        t.sig = { s.sig with bonds := s.sig.bonds.filter fun y => y.bond != k.val } ∧
        t.rd Reg.SIG_BOND_DROP = satInc (s.rd Reg.SIG_BOND_DROP) ∧
        t.flag Reg.SIG_FLAGS_BOND_TMO_HIT = true ∧
        OnlyRegs { s with sig := t.sig } t [Reg.SIG_BOND_DROP, Reg.SIG_FLAGS])

/-! ## Phase trackers and time -/

/-- PHS_CMD (R145, R154): FORCE_SEARCH sends each named tracker to SEARCH, HW_RESET puts the high-water mark of each named
tracker at its position; the others stay as they are, and so do the entries of the action table that wait for another
tracker. What HW_RESET leaves alone is said where no named tracker has a crossing still to report. -/
def Obligations.TrackerCommands : Prop :=
  ∀ (p : PageNo) (mask : BitVec 4) (n : Fin 4) (s : State), s.takes p Reg.PHS_CMD →
    (Completes (.forceSearch p mask) s fun t =>
      { t with regs := s.regs, trk := s.trk, staged := s.staged } = s ∧
      (bitOf mask.toNat n = true → t.ptState n = 0) ∧
      (bitOf mask.toNat n = false → t.tracker n = s.tracker n ∧ t.ptState n = s.ptState n)) ∧
    (∀ k : PtNo, mask.toNat = 2 ^ k.val → Completes (.hwReset p mask) s fun t => (t.tracker k).hw = t.ptPos k) ∧
    ((∀ k : PtNo, bitOf mask.toNat k = true → later 48 (s.ptPos k) (s.tracker k).hw = false) →
      Completes (.hwReset p mask) s fun t =>
        { t with trk := s.trk, acts := s.acts } = s ∧
        (bitOf mask.toNat n = true → (t.tracker n).hw = s.ptPos n) ∧
        (bitOf mask.toNat n = false → t.tracker n = s.tracker n) ∧
        ∀ e, (actPhase (s.act e).words = true → bitOf mask.toNat (actPt (s.act e).words) = false) → t.act e = s.act e)

/-- A tracker that loses its reference (R145, R146, Tables 4.2 and 4.3): from CAPTURE it goes to SEARCH, from KEYSTONE
to HOLDOVER with MISS set and PT_HOLD posted; after HOLD_MAX courses of HOLDOVER it goes to SEARCH with HOLD_EXPIRED set
and PT_LOST posted. Said where no crossing falls at that instant. -/
def Obligations.TrackersLoseTheirReference : Prop :=
  ∀ (n : PtNo) (s : State), s.awake → later 48 (s.ptPos n) (s.tracker n).hw = false →
    (s.refOverdue n = true → s.ptState n = 1 →
      Completes (.referenceLost n) s fun t =>
        t.ptState n = 0 ∧ t.flag (Reg.PHS_STATE_VALID n) = false ∧ SameBytes s t) ∧
    (s.refOverdue n = true → s.ptState n = 2 →
      Completes (.referenceLost n) s fun t =>
        t.ptState n = 3 ∧ t.flag (Reg.PHS_FLAGS_MISS n) = true ∧ Posts s t 0x021 n (s.phaseStamp n) ∧ SameBytes s t) ∧
    (s.holdOver n = true →
      Completes (.holdExpired n) s fun t =>
        t.ptState n = 0 ∧ t.flag (Reg.PHS_STATE_VALID n) = false ∧ t.flag (Reg.PHS_FLAGS_HOLD_EXPIRED n) = true ∧
        Posts s t 0x022 n (s.phaseStamp n) ∧ SameBytes s t)

/-- A tracker acquires its reference in SEARCH (Tables 4.1 to 4.3): a mains tracker at the second rising edge whose interval lies
in the band, a synthetic one at a whole multiple of SYN_PERIOD. It goes to CAPTURE with VALID = 1, at angle 0 of the
next course. The edge is taken at the start of the run that has held for the filter time; a shorter one is no edge
(R136).

A forward crossing (R147): the high-water mark of a locked tracker takes its position. Within a course, with no armed
entry and no course-aligned cadence, nothing else happens. -/
def Obligations.TrackersAcquireAndCross : Prop :=
  (∀ (n : PtNo) (s : State), s.awake → s.ptState n = 0 → s.ptOn n = true →
    (∀ e a, s.ptKind n = 0 → s.fld (Reg.PHS_CFG_EDGE n) = 0 → (s.tracker n).edge16 = some e → s.glitchNs n ≤ a →
      s.inBand n (s.tb.local16 - a * 65536 - e) = true →
      Completes (.referencePoint n ⟨.edge true, a⟩) s fun t =>
        t.ptState n = 1 ∧ t.flag (Reg.PHS_STATE_VALID n) = true ∧
        (t.tracker n).pos = ((s.tracker n).pos / 2 ^ 24 + 1) * 2 ^ 24 % 2 ^ 48 ∧
        (t.tracker n).at16 = s.tb.local16 - a * 65536 ∧ SameBytes s t) ∧
    (∀ ev a, a < s.glitchNs n → exec (.referencePoint n ⟨ev, a⟩) s = .next s) ∧
    (∀ m : Int, s.ptKind n = 3 → (s.tracker n).syn16 ≠ some s.tb.local16 →
      s.disc16At (s.tb.local16 - 131072) < m * ((s.synPeriod n : Nat) * 65536) →
      m * ((s.synPeriod n : Nat) * 65536) ≤ s.disc16 →
      Completes (.syntheticReferencePoint n) s fun t =>
        t.ptState n = 1 ∧ t.flag (Reg.PHS_STATE_VALID n) = true ∧
        (t.tracker n).pos = ((s.tracker n).pos / 2 ^ 24 + 1) * 2 ^ 24 % 2 ^ 48 ∧
        (t.tracker n).at16 = s.tb.local16 ∧ SameBytes s t)) ∧
  (∀ (n : PtNo) (s : State), s.awake → (s.ptState n = 2 ∨ s.ptState n = 3) → s.fld Reg.SIG_CADENCE_MODE ≠ 2 →
    s.acts = [] → (s.tracker n).hw < s.ptPos n → s.ptPos n / 2 ^ 24 = (s.tracker n).hw / 2 ^ 24 →
    exec (.forwardCrossing n) s = .next (s.setTracker n { s.tracker n with hw := s.ptPos n }))

/-- RATE and adjustments (R159 to R161): a write of TMB_RATE takes effect without a jump of disciplined time, clamped and flagged
beyond ±1,000 ppm; while SERVO = 1, writes to TMB_RATE, TMB_ADJ_LO and TMB_ADJ_HI are ignored and set ADJ_REFUSED; an adjustment below STEP_THRESH, or without STEP_ALLOW, is slewed:
disciplined time does not jump, and what is left to slew grows by it; an absorbed slew clears SLEWING. -/
def Obligations.TimeIsAdjustedWithoutJumps : Prop :=
  ∀ (p : PageNo) (v : Word) (s : State),
    (s.takes p Reg.TMB_RATE → s.flag Reg.TMB_CTRL_SERVO = false →
      Completes (.rateWrite p v) s fun t =>
        t.rd Reg.TMB_RATE = BitVec.ofInt 32 (max (-1099511628) (min 1099511628 v.toInt)) ∧
        t.disc16 = s.disc16 ∧ t.tb.local16 = s.tb.local16 ∧
        ((v.toInt < -1099511628 ∨ 1099511628 < v.toInt) → t.flag Reg.TMB_STATUS_RATE_CLAMP = true) ∧
        OnlyRegs { s with tb := t.tb } t [Reg.TMB_RATE, Reg.TMB_STATUS]) ∧
    (s.takes p Reg.TMB_RATE → s.flag Reg.TMB_CTRL_SERVO = true →
      Completes (.rateWrite p v) s fun t =>
        t.flag Reg.TMB_STATUS_ADJ_REFUSED = true ∧ OnlyRegs s t [Reg.TMB_STATUS]) ∧
    (s.takes p Reg.TMB_ADJ_HI → s.flag Reg.TMB_CTRL_SERVO = true →
      Completes (.adjustment (.host p v)) s fun t =>
        t.flag Reg.TMB_STATUS_ADJ_REFUSED = true ∧ OnlyRegs s t [Reg.TMB_STATUS]) ∧
    (∀ (addr : BitVec 26) (a : Nat), a ∈ [Reg.TMB_RATE, Reg.TMB_ADJ_LO, Reg.TMB_ADJ_HI] → addr.toNat = a → s.settled →
      s.takes p a → s.flag Reg.TMB_CTRL_SERVO = true →
      Completes (.registerWrite p addr v) s fun t =>
        t.flag Reg.TMB_STATUS_ADJ_REFUSED = true ∧ OnlyRegs s t [Reg.TMB_STATUS]) ∧
    (s.takes p Reg.TMB_ADJ_HI → s.flag Reg.TMB_CTRL_SERVO = false → s.flag Reg.TMB_STATUS_TIME_SET = true →
      ((mkDWord (s.rd Reg.TMB_ADJ_LO) v).toInt.natAbs < (s.rd Reg.TMB_STEP_THRESH).toNat
        ∨ s.flag Reg.TMB_CTRL_STEP_ALLOW = false) →
      Completes (.adjustment (.host p v)) s fun t =>
        t.disc16 = s.disc16 ∧ t.slewLeft = s.slewLeft + (mkDWord (s.rd Reg.TMB_ADJ_LO) v).toInt * 65536 ∧
        (t.flag Reg.TMB_STATUS_SLEWING = true ↔ t.slewLeft ≠ 0) ∧
        OnlyRegs { s with tb := t.tb } t [Reg.TMB_STATUS]) ∧
    (s.awake → s.flag Reg.TMB_STATUS_SLEWING = true → s.slewLeft = 0 →
      Completes .slewComplete s fun t =>
        t.flag Reg.TMB_STATUS_SLEWING = false ∧ t.disc16 = s.disc16 ∧
        OnlyRegs { s with tb := t.tb } t [Reg.TMB_STATUS])

/-- PPS_IN and PPS_OUT (R164, R165): a level that has held for the 20 ns of the filter is an edge, stamped at the start of
that run (the age of an edge is the model's choice, notes/assumptions/145.md), and as the master it counts the second
and gives LOCKED; 1.5 s without one sets PPS_MISS; PPS_OUT rises at the whole second it waits for and falls after its
width. SNAP holds the local counter and disciplined time of one instant (R168).

Masters (R162, R166): when the master vanishes, LOCKED becomes HOLD, TMB_SYNC_LOSS counts and TIME_HOLD is posted; its return
gives LOCKED. On the port toward the master, of an end station, a Sync is stamped at 2 ns as it comes, and its Follow_Up
shows the offset from the master in TMB_GPTP_OFS and, without GM_PPS, gives LOCKED. What the messages hold is that of
IEEE 802.1AS, which the spec names (PRESUMED, notes/assumptions/61.md). -/
def Obligations.PulsesAndTimeMasters : Prop :=
  (∀ (p : PageNo) (s : State), s.awake →
    (∀ a, 20 ≤ a → Completes (.ppsInEdge ⟨none, a⟩) s fun t =>
      t.rd Reg.TMB_PPS_IN_TS = s.stampAt (s.tb.local16 - a * 65536) ∧ SameBytes s t ∧
      (s.flag Reg.TMB_CTRL_GM_PPS = true →
        t.fld Reg.TMB_STATUS_SYNC = 1 ∧ t.tb.lastPps = some (s.tb.local16 - a * 65536) ∧
        (t.rd64 Reg.TMB_PPS_SEC_LO).toNat = ((s.rd64 Reg.TMB_PPS_SEC_LO).toNat + 1) % 2 ^ 48)) ∧
    (∀ o a, a < 20 → exec (.ppsInEdge ⟨o, a⟩) s = .next s) ∧
    (∀ l, s.flag Reg.TMB_CTRL_GM_PPS = true → s.tb.lastPps = some l → l + 1500000000 * 65536 ≤ s.tb.local16 →
      Completes .ppsMiss s fun t =>
        t.flag Reg.TMB_STATUS_PPS_MISS = true ∧ t.tb = { s.tb with lastPps := none } ∧
        (s.fld Reg.TMB_STATUS_SYNC = 1 → t.fld Reg.TMB_STATUS_SYNC = 2) ∧ SameBytes s t) ∧
    (s.flag Reg.TMB_BSTAT_RUN = true → s.flag Reg.TMB_CTRL_PPSO_EN = true →
      (s.tb.ppsNext : Int) * 1000000000 ≤ s.disc →
      Completes .ppsOutRise s fun t =>
        t.tb.ppsOut = true ∧ s.disc < (t.tb.ppsNext : Int) * 1000000000 ∧ { t with tb := s.tb } = s) ∧
    (s.tb.ppsOut = true →
      s.tb.ppsOutAt + clampTo 1 500000 (s.fld Reg.TMB_PPSO_WIDTH_WIDTH) * 65536000 ≤ s.tb.local16 →
      exec .ppsOutFall s = .next { s with tb := { s.tb with ppsOut := false } }) ∧
    (s.takes p Reg.TMB_CMD →
      Completes (.snap p) s fun t =>
        t.rd64 Reg.TMB_SNAP_LOC_LO = BitVec.ofNat 64 (s.tb.local16 / 65536) ∧
        t.rd64 Reg.TMB_SNAP_DIS_LO = BitVec.ofInt 64 s.disc ∧ { t with regs := s.regs } = s)) ∧
  (∀ s : State, s.awake →
    (s.fld Reg.TMB_STATUS_SYNC = 1 →
      Completes .masterLost s fun t =>
        t.fld Reg.TMB_STATUS_SYNC = 2 ∧ t.rd Reg.TMB_SYNC_LOSS = satInc (s.rd Reg.TMB_SYNC_LOSS) ∧
        Posts s t 0x029 0 0 ∧ t.tb = s.tb ∧ SameBytes s t) ∧
    (s.fld Reg.TMB_STATUS_SYNC = 2 →
      Completes .masterReturn s fun t =>
        t.fld Reg.TMB_STATUS_SYNC = 1 ∧ OnlyRegs s t [Reg.TMB_STATUS]) ∧
    (∀ (port : Fin 22) (f : EthFrame) (m : PtpMsg), port.val < 20 → s.flag Reg.TMB_BSTAT_RUN = true →
      s.fld Reg.TMB_GPTP_CTRL_MODE = 1 → bitOf (s.fld Reg.TMB_GPTP_PORTS_PORTS) port = true →
      s.hlt.meDown = false → s.slavePort = some port.val → ptpMsg f.bytes = some m →
      m.domain = s.fld Reg.TMB_GPTP_CTRL_DOMAIN →
      (m.type = 0 →
        Completes (.gptpMessage port ⟨f, none⟩) s fun t =>
          (∃ rx16, (t.gport port).sync = some (m.seq, rx16, m.corr16) ∧ rx16 ≤ s.tb.local16 ∧ rx16 % 131072 = 0) ∧
          (∀ q, q ≠ port.val → t.gport q = s.gport q) ∧ { t with tb := { t.tb with gptp := s.tb.gptp } } = s) ∧
      (∀ rx16 c, m.type = 8 → (s.gport port).sync = some (m.seq, rx16, c) → s.flag Reg.TMB_CTRL_GM_PPS = false →
        Completes (.gptpMessage port ⟨f, none⟩) s fun t =>
          t.rd Reg.TMB_GPTP_OFS = BitVec.ofInt 32 (satSigned 32
            ((s.disc16At rx16 - ptpTimeOf m.body - (c + m.corr16 + (s.linkDelay port : Nat))) / 65536)) ∧
          t.fld Reg.TMB_STATUS_SYNC = 1 ∧ (t.gport port).sync = none ∧
          (∀ q, q ≠ port.val → t.gport q = s.gport q) ∧
          OnlyRegs { s with tb := { s.tb with gptp := t.tb.gptp } } t [Reg.TMB_GPTP_OFS, Reg.TMB_STATUS])))

/-! ## Scheduled actions -/

/-- The entry commands of ACT_CMD (R179, R182): WRITE takes the staging registers and leaves the entry DISARMED, but refuses an
ARMED entry and a reserved ACTION; READ shows the entry in the staging registers (E_CTRL, E_PARAM,
E_LAST and E_COUNT are said) and changes no entry; ARM of a DISARMED TIME_ONCE
entry at least 2 µs ahead arms it for its time, ARM of a FIRED or SKIPPED one is refused; DISARM leaves
its entry, and DISARM_ALL every entry, not ARMED. -/
def Obligations.ActionEntryCommands : Prop :=
  ∀ (p : PageNo) (e : ActNo) (s : State), s.takes p Reg.ACT_CMD →
    (Completes (.actWrite p e) s fun t =>
      { t with regs := s.regs, acts := s.acts } = s ∧ (∀ k, k ≠ e.val → t.act k = s.act k) ∧
      (if (s.act e).state = 1 then t.flag Reg.ACT_STATUS_ENTRY_BUSY = true ∧ t.acts = s.acts
      else if actCode s.actStaging = 0 ∨ 8 < actCode s.actStaging then
        t.flag Reg.ACT_STATUS_ENTRY_BAD = true ∧ t.acts = s.acts
      else (t.act e).words = s.actStaging ∧ (t.act e).state = 0 ∧ t.regs = s.regs)) ∧
    (Completes (.actRead p e) s fun t =>
      t.rd Reg.ACT_E_CTRL = (s.act e).words.getD 0 0 ∧ t.rd Reg.ACT_E_PARAM = (s.act e).words.getD 5 0 ∧
      t.rd Reg.ACT_E_LAST = (s.act e).last ∧ t.rd Reg.ACT_E_COUNT = (s.act e).count ∧ { t with regs := s.regs } = s) ∧
    ((s.act e).state = 0 → actOk (s.act e).words = true → actTrig (s.act e).words = 0 →
      s.disc16 + 2000 * 65536 ≤ (actTime (s.act e).words : Int) * 65536 →
      Completes (.actArm p e) s fun t =>
        (t.act e).state = 1 ∧ (t.act e).due = actTime (s.act e).words ∧ (t.act e).count = 0 ∧
        (t.act e).relAt = none ∧ (∀ k, k ≠ e.val → t.act k = s.act k) ∧ { t with acts := s.acts } = s) ∧
    ((s.act e).state = 2 ∨ (s.act e).state = 3 →
      Completes (.actArm p e) s fun t =>
        t.flag Reg.ACT_STATUS_ENTRY_BUSY = true ∧ OnlyRegs s t [Reg.ACT_STATUS]) ∧
    (Completes (.disarm p e) s fun t =>
      (t.act e).state ≠ 1 ∧ (∀ k, k ≠ e.val → t.act k = s.act k) ∧ { t with acts := s.acts } = s) ∧
    (Completes (.disarmAll p) s fun t => (∀ k, (t.act k).state ≠ 1) ∧ { t with acts := s.acts } = s)

/-- Releases (R174, R176, R177, R180, R182): a time-triggered release is sent out up to 20 µs and sealed 2 µs before its instant,
at a tick of the counter; a message that reaches a die in time waits there for the instant; one that comes after the
instant is LATE, and with the skip policy does nothing else; at its instant a TIME_ONCE entry becomes FIRED, shows its
instant and counts, here with the action "request a commit" at the very instant. -/
def Obligations.ActionsRelease : Prop :=
  ∀ (e : ActNo) (s : State), s.awake → (s.act e).state = 1 →
    (actTrig (s.act e).words < 2 → (s.act e).due * 65536 ≤ s.disc16 + 20000 * 65536 →
      Completes (.triggerDispatch e) s fun t =>
        (t.act e).dispatched = true ∧ (t.act e).relAt = (s.act e).relAt ∧ { t with acts := s.acts } = s) ∧
    (actTrig (s.act e).words < 2 → (s.act e).relAt = none → (s.act e).due * 65536 ≤ s.disc16 + 2000 * 65536 →
      Completes (.releaseSealed e) s fun t =>
        (∃ t16, (t.act e).relAt = some t16 ∧ s.tb.local16 ≤ t16 ∧ t16 % 131072 = 0) ∧ (t.act e).state = 1 ∧
        { t with acts := s.acts } = s) ∧
    (∀ (t16 : Nat) (d : Fin 2), (s.act e).relAt = some t16 → s.tb.local16 ≤ t16 → (s.act e).ghost = [] →
      (s.act e).await = [] →
      Completes (.triggerMessageArrival e d) s fun t =>
        (t.act e).held = (s.act e).held.erase d.val ∧ (t.act e).state = 1 ∧ (t.act e).relAt = some t16 ∧
        (t.act e).lateDies = (s.act e).lateDies ∧ (∀ k, k ≠ e.val → t.act k = s.act k) ∧ { t with acts := s.acts } = s) ∧
    (∀ (t16 : Nat) (d : Fin 2), (s.act e).relAt = some t16 → t16 < s.tb.local16 → (s.act e).ghost = [] →
      (s.act e).await = [] → (s.act e).lateDies.contains d.val = false → actSkip (s.act e).words = true →
      actCode (s.act e).words ≠ 8 →
      Completes (.triggerMessageArrival e d) s fun t =>
        t.rd Reg.ACT_LATE_CNT = satInc (s.rd Reg.ACT_LATE_CNT) ∧ t.fld Reg.ACT_LAST_LATE_INDEX = e ∧
        t.flag Reg.ACT_STATUS_LATE_SEEN = true ∧ Posts s t 0x030 e (s.stampAt t16) ∧
        (t.act e).lateDies = d.val :: (s.act e).lateDies ∧ t.banks = s.banks ∧
        t.mbs = s.mbs ∧ SameBytes s t) ∧
    (∀ t16, (s.act e).relAt = some t16 → t16 ≤ s.tb.local16 → (s.act e).ghost = [] → s.notFirst e t16 = false →
      s.crowd.1 ≠ t16 → actTrig (s.act e).words = 0 → actCode (s.act e).words = 6 →
      actEvtFire (s.act e).words = false → s.flag Reg.SIG_BSTAT_RUN = true → s.sig.requests = 0 →
      s.sig.served = none → s.sig.lastInstant = none →
      Completes (.actionRelease e) s fun t =>
        (t.act e).state = 2 ∧ (t.act e).last = s.stampAt t16 ∧ (t.act e).count = (s.act e).count + 1 ∧
        t.sig.served = some (s.disc16At t16 / 65536, t16) ∧ t.crowd = (t16, 1) ∧
        (∀ k, k ≠ e.val → t.act k = s.act k) ∧ { t with acts := s.acts, crowd := s.crowd, sig := s.sig } = s)

/-! ## The structure image -/

/-- STR_CMD (R67 to R70, Table 2.5): LOAD_A, LOAD_B and PUSH start a load in IDLE and FAILED; COMMIT arms a staged image for the
boundary latched (said of NEXT_EPOCH, AT_EPOCH and NEXT_COURSE), and replaces an epoch that is not later than now by the
next one, with LATE_COMMIT; ABORT of a load of its own discards what is loading, staged or armed, with ERR ABORTED, and leaves FAILED for IDLE. Where Table 2.5 does not list
the command it sets CMD_IGNORED and does nothing else. -/
def Obligations.StructureCommands : Prop :=
  ∀ (p : PageNo) (s : State), s.takes p Reg.STR_CMD →
    (∀ c k, (c, k) ∈ [(Instr.loadA p, 1), (Instr.loadB p, 2), (Instr.push p, 3)] →
      Completes c s fun t =>
        { t with regs := s.regs, str := s.str } = s ∧
        (if s.strState = 0 ∨ s.strState = 7 then
          t.strState = 1 ∧ t.fld Reg.STR_STATE_ERR = 0 ∧ t.fld Reg.STR_STATE_SOURCE = k ∧ t.str.bytes = [] ∧
          t.str.pushing = decide (k = 3) ∧ RegsBut s t [Reg.STR_STATE]
        else t.flag Reg.STR_FLAGS_CMD_IGNORED = true ∧ t.str = s.str ∧ RegsBut s t [Reg.STR_FLAGS])) ∧
    (Completes (.commit p) s fun t =>
      { t with regs := s.regs, str := s.str } = s ∧
      (if s.strState = 3 then
        t.strState = 4 ∧ RegsBut s t [Reg.STR_STATE, Reg.STR_FLAGS] ∧
        (s.fld Reg.STR_BOUNDARY_KIND = 0 → t.str.kind = 0) ∧
        (s.fld Reg.STR_BOUNDARY_KIND = 1 →
          if later 32 (s.rd Reg.STR_BOUNDARY_VAL).toNat (s.rd Reg.SIG_EPOCH).toNat then
            t.str.kind = 1 ∧ t.str.target = (s.rd Reg.STR_BOUNDARY_VAL).toNat
          else t.str.kind = 0 ∧ t.flag Reg.STR_FLAGS_LATE_COMMIT = true) ∧
        (s.fld Reg.STR_BOUNDARY_KIND = 2 → t.str.kind = 2 ∧ t.str.pt = s.fld Reg.STR_BOUNDARY_PT)
      else t.flag Reg.STR_FLAGS_CMD_IGNORED = true ∧ t.str = s.str ∧ RegsBut s t [Reg.STR_FLAGS])) ∧
    (s.str.forUpdate = false →
      Completes (.abort p) s fun t =>
        { t with regs := s.regs, str := s.str } = s ∧
        (if 1 ≤ s.strState ∧ s.strState ≤ 4 then
          t.strState = 7 ∧ t.fld Reg.STR_STATE_ERR = 0x0D ∧ t.str.bytes = [] ∧ t.str.sects = [] ∧
          RegsBut s t [Reg.STR_STATE]
        else if s.strState = 7 then t.strState = 0 ∧ t.str = s.str ∧ RegsBut s t [Reg.STR_STATE]
        else t.flag Reg.STR_FLAGS_CMD_IGNORED = true ∧ t.str = s.str ∧ RegsBut s t [Reg.STR_FLAGS]))

/-- A pushed image (R64): a piece of LEN outside 1 to 4,096 fails the load with LENGTH, a piece out of order with ORDER; a full
piece that leaves bytes to come is taken; the piece that ends an image without error sends STR to VERIFYING. Without a
push under way the doorbell is ignored. Which of two errors of one piece is reported is the model's choice
(notes/assumptions/151.md). -/
def Obligations.PiecesOfAPushedImage : Prop :=
  ∀ (p : PageNo) (s : State), s.takes p Reg.STR_PIECE_DB →
    (s.strState = 1 → s.str.pushing = true →
      ((s.fld Reg.STR_PIECE_LEN_LEN = 0 ∨ 4096 < s.fld Reg.STR_PIECE_LEN_LEN) →
        Completes (.strPieceDb p) s fun t =>
          t.strState = 7 ∧ t.fld Reg.STR_STATE_ERR = 0x0B ∧ OnlyRegs { s with str := t.str } t [Reg.STR_STATE]) ∧
      (1 ≤ s.fld Reg.STR_PIECE_LEN_LEN → s.fld Reg.STR_PIECE_LEN_LEN ≤ 4096 →
        s.fld Reg.STR_PIECE_OFF_OFF ≠ s.str.bytes.length →
        Completes (.strPieceDb p) s fun t =>
          t.strState = 7 ∧ t.fld Reg.STR_STATE_ERR = 0x09 ∧ OnlyRegs { s with str := t.str } t [Reg.STR_STATE]) ∧
      (s.fld Reg.STR_PIECE_LEN_LEN = 4096 → s.str.bytes ≠ [] → s.fld Reg.STR_PIECE_OFF_OFF = s.str.bytes.length →
        s.str.bytes.length + 4096 < imgLength (s.str.bytes ++ s.bytes (Reg.STR_PIECE 0) 4096) →
        lengthOk (s.str.bytes ++ s.bytes (Reg.STR_PIECE 0) 4096) = true →
        exec (.strPieceDb p) s = .next { s with str := { s.str with
          bytes := s.str.bytes ++ s.bytes (Reg.STR_PIECE 0) 4096 } }) ∧
      (∀ bs, 1 ≤ s.fld Reg.STR_PIECE_LEN_LEN → s.fld Reg.STR_PIECE_LEN_LEN ≤ 4096 →
        s.fld Reg.STR_PIECE_OFF_OFF = s.str.bytes.length →
        bs = s.str.bytes ++ s.bytes (Reg.STR_PIECE 0) (s.fld Reg.STR_PIECE_LEN_LEN) → imgLength bs = bs.length →
        s.imageErr false bs = 0 →
        Completes (.strPieceDb p) s fun t =>
          t.strState = 2 ∧ t.str.bytes = bs ∧ t.str.sects = imgSects bs ∧ t.str.version = imgVersion bs ∧
          OnlyRegs { s with str := t.str } t [Reg.STR_STATE])) ∧
    ((s.strState ≠ 1 ∨ s.str.pushing = false) →
      Completes (.strPieceDb p) s fun t =>
        t.flag Reg.STR_FLAGS_CMD_IGNORED = true ∧ OnlyRegs s t [Reg.STR_FLAGS])

/-- A load from flash (R55, R63, R67): when the bytes have been read, an image that passes the checks goes to VERIFYING with its
sections, one that fails goes to FAILED with the first error found; an xSPI read error fails with FLASH. Where the
signature of the received bytes verifies against the key of KEY_INDEX (R54), the image is STAGED, or, as the first after
reset, is about to be applied; a signature that fails, or one of a key that is not held, fails with SIG. The verdict comes
with the command, and one that the bytes do not give changes nothing (notes/assumptions/51.md). Said of loads that are
not the one at boot. The algorithms are those of the standards that the spec names (notes/assumptions/149.md). -/
def Obligations.ImagesAreChecked : Prop :=
  ∀ s : State, s.awake → s.str.boot = false →
    (s.strState = 1 → s.str.pushing = false →
      (lengthOk (s.flashBytes (imgBase (s.fld Reg.STR_STATE_SOURCE - 1)) 0x80) = true →
        let bs := s.flashBytes (imgBase (s.fld Reg.STR_STATE_SOURCE - 1))
          (imgLength (s.flashBytes (imgBase (s.fld Reg.STR_STATE_SOURCE - 1)) 0x80))
        Completes .imageReadComplete s fun t =>
          OnlyRegs { s with str := t.str } t [Reg.STR_STATE] ∧
          (if s.imageErr true bs = 0 then
            t.strState = 2 ∧ t.str.bytes = bs ∧ t.str.sects = imgSects bs ∧ t.str.version = imgVersion bs
          else t.strState = 7 ∧ t.fld Reg.STR_STATE_ERR = s.imageErr true bs ∧ t.str.bytes = [])) ∧
      (Completes .flashReadError s fun t =>
        t.strState = 7 ∧ t.fld Reg.STR_STATE_ERR = 0x0A ∧ t.str.bytes = [] ∧
        OnlyRegs { s with str := t.str } t [Reg.STR_STATE])) ∧
    (s.strState = 2 → s.str.applying = false →
      (s.imgSigOk s.str.bytes = true → s.rd Reg.STR_GEN ≠ 0 →
        Completes (.signatureVerified true) s fun t =>
          t.strState = 3 ∧ t.rd Reg.STR_LOAD_TIME = s.strTimeUs ∧
          OnlyRegs s t [Reg.STR_STATE, Reg.STR_LOAD_TIME]) ∧
      (s.imgSigOk s.str.bytes = true → s.rd Reg.STR_GEN = 0 →
        exec (.signatureVerified true) s = .next { s with str := { s.str with applying := true } }) ∧
      (s.imgSigOk s.str.bytes = false →
        Completes (.signatureVerified false) s fun t =>
          t.strState = 7 ∧ t.fld Reg.STR_STATE_ERR = 0x04 ∧ t.str.bytes = [] ∧
          OnlyRegs { s with str := t.str } t [Reg.STR_STATE]) ∧
      exec (.signatureVerified (!s.imgSigOk s.str.bytes)) s = .next s)

/-- Boot (R63, R433, R455): the boot ROM starts the firmware of ACTIVE_BANK if its signature and header check and its rollback index
is not below the fuse count, and loads the image of that bank; if it fails, that of the other bank, with FALLBACK_BOOT.
In option fail-safe no image is loaded. -/
def Obligations.BootChecksTheFirmware : Prop :=
  ∀ (a b : FwInfo) (s : State), s.awake →
    (s.flag Reg.HLT_RESET_CAUSE_OPT_FAIL = false → s.strState = 0 → s.rd Reg.STR_GEN = 0 →
      let bank := s.optByte 9 % 2
      let mine := if bank = 0 then a else b
      let other := if bank = 0 then b else a
      (s.fwPasses mine = true →
        Completes (.bootFirmwareCheck a b) s fun t =>
          t.fld Reg.UPD_BANK_RUNNING = bank ∧ t.rd Reg.UPD_FW_VERSION = mine.version ∧ t.strState = 1 ∧
          t.fld Reg.STR_STATE_SOURCE = bank + 1 ∧ t.str.boot = true ∧
          OnlyRegs { s with str := t.str } t [Reg.UPD_BANK, Reg.UPD_FW_VERSION, Reg.STR_STATE]) ∧
      (s.fwPasses mine = false → s.fwPasses other = true →
        Completes (.bootFirmwareCheck a b) s fun t =>
          t.fld Reg.UPD_BANK_RUNNING = 1 - bank ∧ t.rd Reg.UPD_FW_VERSION = other.version ∧ t.strState = 1 ∧
          t.fld Reg.STR_STATE_SOURCE = 2 - bank ∧ t.flag Reg.STR_FLAGS_FALLBACK_BOOT = true ∧
          OnlyRegs { s with str := t.str } t [Reg.UPD_BANK, Reg.UPD_FW_VERSION, Reg.STR_STATE, Reg.STR_FLAGS])) ∧
    (s.flag Reg.HLT_RESET_CAUSE_OPT_FAIL = true →
      Completes (.bootFirmwareCheck a b) s fun t =>
        t.fld Reg.UPD_BANK_RUNNING = 0 ∧ OnlyRegs s t [Reg.UPD_BANK, Reg.UPD_FW_VERSION])

/-- The structure comes into service (R63, R72, R76, R449): when the first image is applied, and when a full reload is complete,
FIELD_READY is high; the old entries are reclaimed, and STR is IDLE, once nothing of the old generation is on its way. -/
def Obligations.StructureComesIntoService : Prop :=
  ∀ s : State, s.awake →
    (s.strState = 2 → s.str.applying = true →
      Completes .imageApplied s fun t =>
        t.fieldReady = true ∧ t.strState = 0 ∧ t.tblOld = [] ∧ t.rd Reg.STR_GEN_DRAIN = t.rd Reg.STR_GEN) ∧
    (s.strState = 5 → s.str.reloading = true →
      Completes .fullReloadComplete s fun t =>
        t.fieldReady = true ∧ t.str.reloading = false ∧
        t.strState = (if t.oldItems (s.rd Reg.STR_GEN) then 6 else 0) ∧ SameBytes s t) ∧
    (s.strState = 6 → s.oldItems (s.rd Reg.STR_GEN) = false →
      Completes .drainComplete s fun t =>
        t.strState = 0 ∧ t.tblOld = [] ∧ t.rd Reg.STR_GEN_DRAIN = s.rd Reg.STR_GEN ∧
        OnlyRegs { s with tblOld := [] } t [Reg.STR_STATE, Reg.STR_GEN_DRAIN])

/-- Stopping a unit, and the settings store (R60, R89): a unit whose STR_UNIT_STOP bit is set stops between two frames, not within
one; SAVE_SETTINGS takes the present value of every listed field, and SAVE_DONE stands once the half is written. -/
def Obligations.UnitsStopAndSettingsAreSaved : Prop :=
  ∀ (p : PageNo) (u : Fin 256) (s : State),
    (s.awake → s.stopBit u = true → s.flag (bstatRun (Reg.unitBase u)) = true →
      (s.unitIdle u = true →
        Completes (.unitStop u) s fun t =>
          t.flag (bstatRun (Reg.unitBase u)) = false ∧ t.tbl = s.tbl ∧ t.cells = s.cells ∧ SameBytes s t) ∧
      (s.unitIdle u = false → exec (.unitStop u) s = .next s)) ∧
    (s.takes p Reg.STR_CMD → s.str.saving = none →
      (s.strState ≠ 1 → s.strState ≠ 2 → s.strState ≠ 5 →
        Completes (.saveSettings p) s fun t =>
          { t with str := s.str } = s ∧
          ∃ h, t.str.saving = some h ∧ h.fields = s.str.listed.map s.fieldNow ∧
            h.schema = s.fld Reg.STR_ACT_SCHEMA_SCHEMA) ∧
      (s.strState = 1 ∨ s.strState = 2 ∨ s.strState = 5 →
        Completes (.saveSettings p) s fun t =>
          t.flag Reg.STR_FLAGS_CMD_IGNORED = true ∧ OnlyRegs s t [Reg.STR_FLAGS])) ∧
    (∀ h, s.awake → s.str.saving = some h →
      Completes .saveDone s fun t =>
        h ∈ t.stores ∧ t.stores.length ≤ 2 ∧ t.str.saving = none ∧ t.flag Reg.STR_FLAGS_SAVE_DONE = true ∧
        OnlyRegs { s with str := t.str, stores := t.stores } t [Reg.STR_FLAGS])

/-! ## Regions, mortar links, temperatures -/

/-- Region steps (R32 to R34): a region steps down by one when it has been less than 25 % busy for IDLE_HOLD and its FLOOR allows, and
not otherwise; woken table memories bring it to step 0 for work, or to its FLOOR after a write of FLOOR; a release less
than 10 µs ahead returns the regions of its units to step 0, or wakes their memories. FLOOR counts as 0 until an image is
applied (notes/assumptions/140.md).

Die temperatures (R42, R43): 1 ms after the last time the three registers take what is measured, and not before; a die that is above GEN_TEMP_WARN for the first time sets its flag and posts
DIE_HOT, and none is posted again before the die has fallen 2 °C below it. -/
def Obligations.RegionsAndTemperatures : Prop :=
  (∀ (r : Fin 8) (busyPct : Nat) (s : State), s.awake →
    (busyPct < 25 → s.regionStep r < s.fld ⟨Reg.GEN_REGION_FLOOR, 2 * r, 2⟩ → s.rd Reg.STR_GEN ≠ 0 →
      s.dev.stepAt16.getD r 0 + (if s.fld Reg.GEN_REGION_IDLE_IDLE_HOLD = 0 then 100
        else s.fld Reg.GEN_REGION_IDLE_IDLE_HOLD) * 65536000 ≤ s.tb.local16 →
      s.regionHeld r = false →
      s.dev.work16.getD r 0 / (131072 * 2 ^ s.regionStep r) ≠ s.tb.local16 / (131072 * 2 ^ s.regionStep r) →
      Completes (.regionStepDown r busyPct) s fun t =>
        t.regionStep r = s.regionStep r + 1 ∧ (∀ q : Fin 8, q ≠ r → t.regionStep q = s.regionStep q) ∧
        OnlyRegs { s with dev := t.dev } t [Reg.GEN_REGION_STEP]) ∧
    ((25 ≤ busyPct ∨ s.fld ⟨Reg.GEN_REGION_FLOOR, 2 * r, 2⟩ ≤ s.regionStep r ∨ s.rd Reg.STR_GEN = 0 ∨
        s.regionHeld r = true) →
      exec (.regionStepDown r busyPct) s = .next s) ∧
    (s.regionStep r = 3 → (bitOf s.waking r = true ∨ bitOf s.waking (8 + r) = true) →
      Completes (.regionMemoryWake r) s fun t =>
        t.regionStep r = (if bitOf s.waking r ∨ s.rd Reg.STR_GEN = 0 then 0
          else s.fld ⟨Reg.GEN_REGION_FLOOR, 2 * r, 2⟩) ∧
        bitOf t.waking r = false ∧ bitOf t.waking (8 + r) = false ∧
        OnlyRegs { s with dev := t.dev, waking := t.waking } t [Reg.GEN_REGION_STEP]) ∧
    (∀ e : ActNo, (s.act e).state = 1 → actOnUnits (s.act e).words = true → s.releaseNear (s.act e) = true →
      Completes (.regionHold e) s fun t =>
        (∀ q : Fin 8, (∃ k < 32, s.actMask (s.act e).words (32 * q + k) = true) →
          (s.regionStep q = 3 → bitOf t.waking q = true ∧ t.regionStep q = 3) ∧
          (s.regionStep q ≠ 3 → t.regionStep q = 0)) ∧
        OnlyRegs { s with dev := t.dev, waking := t.waking } t [Reg.GEN_REGION_STEP])) ∧
  (∀ (core pd0 pd1 : BitVec 16) (s : State), s.awake →
    (s.tb.local16 < s.dev.temp16 + 1000 * 65536000 → exec (.tempMeasure core pd0 pd1) s = .next s) ∧
    (s.dev.temp16 + 1000 * 65536000 ≤ s.tb.local16 → Completes (.tempMeasure core pd0 pd1) s fun t =>
      t.rd Reg.GEN_TEMP_CORE = core.setWidth 32 ∧ t.rd Reg.GEN_TEMP_PD0 = pd0.setWidth 32 ∧
      t.rd Reg.GEN_TEMP_PD1 = pd1.setWidth 32 ∧
      { t with regs := s.regs, eqs := s.eqs, out := s.out, dev := s.dev } = s) ∧
    (s.dev.temp16 + 1000 * 65536000 ≤ s.tb.local16 →
      sgn 16 (s.fld Reg.GEN_TEMP_WARN_WARN) < core.toInt → pd0.toInt ≤ sgn 16 (s.fld Reg.GEN_TEMP_WARN_WARN) →
      pd1.toInt ≤ sgn 16 (s.fld Reg.GEN_TEMP_WARN_WARN) →
      Completes (.tempMeasure core pd0 pd1) s fun t =>
        bitOf t.dev.hot 0 = true ∧
        (bitOf s.dev.hot 0 = false → t.flag Reg.GEN_TEMP_FLAGS_HOT_CORE = true ∧ Posts s t 0x0E0 0 (core.setWidth 32)) ∧
        (bitOf s.dev.hot 0 = true → t.eqs = s.eqs)))

/-- Mortar links (R37 to R39, R51, R456): corrected codewords and replays count in their registers, a clean or corrected codeword ends a run of
failed replays; the ninth uncorrectable reception of one codeword is not replayed on the link but takes it DOWN; 10 ms
later, and every 10 ms from then on, a DOWN link is retrained, and tested if it trains; a link in training comes UP. That
a corrected codeword also counts in HLT_CE_CNT is the model's reading (notes/assumptions/130.md). -/
def Obligations.MortarLinks : Prop :=
  ∀ (l : Fin 4) (s : State), s.awake →
    (s.linkState l ≠ 2 →
      (exec (.codewordReceived l .clean) s = .next { s with dev := { s.dev with
        replays := s.dev.replays.set l 0 } }) ∧
      (Completes (.codewordReceived l .corrected) s fun t =>
        t.rd (Reg.GEN_ML_CORR l) = satInc (s.rd (Reg.GEN_ML_CORR l)) ∧
        t.rd Reg.HLT_CE_CNT = satInc (s.rd Reg.HLT_CE_CNT) ∧ t.dev.replays = s.dev.replays.set l 0 ∧
        OnlyRegs { s with dev := t.dev } t [Reg.GEN_ML_CORR l, Reg.HLT_CE_CNT]) ∧
      (Completes (.codewordReceived l .uncorrectable) s fun t =>
        t.rd (Reg.GEN_ML_REPLAY l) = (if s.dev.replays.getD l 0 < 8 then satInc (s.rd (Reg.GEN_ML_REPLAY l))
          else s.rd (Reg.GEN_ML_REPLAY l)) ∧
        t.dev.replays = s.dev.replays.set l (s.dev.replays.getD l 0 + 1) ∧
        OnlyRegs { s with dev := t.dev } t [Reg.GEN_ML_REPLAY l]) ∧
      (s.dev.replays.getD l 0 < 9 → exec (.linkDown l) s = .next s) ∧
      (9 ≤ s.dev.replays.getD l 0 →
        Completes (.linkDown l) s fun t =>
          t.linkState l = 2 ∧ t.flash = s.flash ∧
          (s.linkState (if l.val % 2 = 0 then l + 1 else l - 1 : Nat) = 2 →
            t.flag Reg.HLT_STATUS_REPLACE = true))) ∧
    (s.linkState l = 2 →
      (∀ c, exec (.codewordReceived l c) s = .next s) ∧
      (∀ b, s.tb.local16 < s.dev.retrain16.getD l 0 + 10000 * 65536000 → exec (.linkRetrain l b) s = .next s) ∧
      (s.dev.retrain16.getD l 0 + 10000 * 65536000 ≤ s.tb.local16 →
        (s.hlt.badLinks.contains l.val = false →
          Completes (.linkRetrain l true) s fun t =>
            (0x40000 + l.val, 5) ∈ t.hlt.testing ∧ t.dev.retrain16 = s.dev.retrain16.set l s.tb.local16 ∧
            { t with hlt := { t.hlt with testing := s.hlt.testing },
                     dev := { t.dev with retrain16 := s.dev.retrain16 } } = s) ∧
        (∀ b, b = false ∨ s.hlt.badLinks.contains l.val = true →
          exec (.linkRetrain l b) s = .next { s with dev := { s.dev with
            retrain16 := s.dev.retrain16.set l s.tb.local16 } }))) ∧
    (s.linkState l = 1 →
      Completes (.mortarLinkUp l) s fun t =>
        t.linkState l = 0 ∧ OnlyRegs s t [Reg.GEN_MORTAR_STATE])

/-! ## The gateway and the signal engines -/

/-- The second pass of a chain (R196, R201): its PACK entry for a serial lane packs the cells and, if the whole frame
fits, appends its items to the lane's transmit FIFO; nothing but the lane, the chain, PACK_SAT and the step of the lane's
region (R33) changes. That the write side may still count the items of the last clocks is a free value (R286,
notes/assumptions/177.md): the statement says what holds for each.

PDUs and EVENT entries (R203, R207): HOLD_US after its first record an open PDU is completed, with the next SEQ; the gap of an EVENT entry ends
once its time has come. -/
def Obligations.SecondPassesAndExpiries : Prop :=
  (∀ (item : ChainItem) (r : Nat) (rest : List (ChainItem × List Nat)) (n : LaneNo) (s : State), s.awake →
    s.sig.second = (item, [r]) :: rest → s.rtType item.gen r = rtPack → s.rtToPdu item.gen r = false →
    unitKind (s.rtUnit item.gen r) = .lane n → s.takesWork (Reg.laneUnit n) = true → s.laneSends n = true →
    (let data := (s.pack item.gen (s.rtFormat item.gen r) s.packRead).1
     (s.lane n).tx.length + (s.lane n).txOut + (txItems (s.itemBytes n) data).length ≤ 512 →
      Completes .routeSecondPass s fun t =>
        t.lane n = { s.lane n with tx := (s.lane n).tx ++ txItems (s.itemBytes n) data } ∧
        (∀ k, k ≠ n.val → t.lane k = s.lane k) ∧ t.sig = { s.sig with second := rest } ∧
        { t with regs := s.regs, sig := s.sig, lanes := s.lanes, dev := s.dev, waking := s.waking,
                 freeCnt := s.freeCnt } = s ∧
        RegsBut s t [Reg.GWU_PACK_SAT (s.rtUnit item.gen r), Reg.GEN_REGION_STEP])) ∧
  (∀ (r : Fin 32768) (s : State), s.awake →
    (s.rtType (s.rd Reg.STR_GEN) r = rtPduEntry → (s.pdu r).records ≠ [] →
      (s.polFor (s.rd Reg.STR_GEN) 3 r = none) →
      (s.pdu r).since + bits (s.rtW (s.rd Reg.STR_GEN) r 6) 0 16 * 65536000 ≤ s.tb.local16 →
      Completes (.pduHoldExpiry r) s fun t =>
        (t.pdu r).records = [] ∧ (t.pdu r).seq = ((s.pdu r).seq + 1) % 65536 ∧ SameBytes s t) ∧
    ((s.pdu r).records = [] → exec (.pduHoldExpiry r) s = .next s) ∧
    (∀ e, (s.evRoute r).gapEnd = some e →
      (e ≤ s.tb.local16 →
        exec (.eventGapExpiry r) s = .next (s.setEvRoute r { s.evRoute r with gapEnd := none })) ∧
      (s.tb.local16 < e → exec (.eventGapExpiry r) s = .next s)))

/-- A verification ends (R212, R414, R415, R417): the oldest frame leaves the hold buffer. A frame without a usable key counts in CPH_RX_AUTH_FAIL and,
as a chain, in AUTH_REJECT; a verified one moves the freshness value of its policy. Said where no item waits behind a
frame of its source (R214).
The verdict rests on the algorithms of notes/assumptions/20.md (PRESUMED). -/
def Obligations.VerificationsEnd : Prop :=
  ∀ (e : HoldEntry) (rest : List HoldEntry) (item : ChainItem) (route : Nat) (s : State), s.awake →
    s.holdBuf = e :: rest → e.kind = .chain item route → e.rxq = none → (∀ x ∈ rest, ∀ i r, x.kind ≠ .after i r) →
    (e.usable = false →
      Completes .verificationComplete s fun t =>
        t.holdBuf = rest ∧ t.rd Reg.CPH_RX_AUTH_FAIL = satInc (s.rd Reg.CPH_RX_AUTH_FAIL) ∧
        t.rd (authRejectReg item.unit) = satInc (s.rd (authRejectReg item.unit)) ∧ t.pols = s.pols ∧
        SameBytes s t ∧ t.cells = s.cells) ∧
    (∀ fv, s.verdict e = .ok fv → s.slotGen e.slot = e.gen →
      Completes .verificationComplete s fun t =>
        t.holdBuf = rest ∧ (t.pol e.policy).fv = fv ∧ (t.pol e.policy).gen = e.gen ∧
        t.rd Reg.CPH_RX_AUTH_FAIL = s.rd Reg.CPH_RX_AUTH_FAIL ∧ SameBytes s t ∧ t.cells = s.cells)

/-- An invocation at the head of an engine's queue (R197, R216 to R218, R224): run to RET, its version and its stores take its
place in the batch that waits for it, as far as a group of 64 cells takes them; each store beyond that adds 1 to
SEC_OVERRUN. Its byte stores reach the own area of its home engine and the shadow at the buddy. Code that comes to no RET
within its budget, and an overrun, is counted, its recipe shown, and its writes are lost. An arithmetic instruction and a
RET leave in w1 what Table 6.9 says, and the rest of the descriptor as it was. Said while no own area waits for an older
generation (R79). The instructions of a recipe are an operand, since R216 gives no encoding of them
(notes/assumptions/60.md). -/
def Obligations.RecipesRunToTheirEnd : Prop :=
  ∀ (e : Fin 8) (code : List SeInstr) (i : Invoc) (q : List Invoc) (b : Nat) (s : State), s.awake →
    (s.engine e).queue = i :: q → i.batch = some b → s.engineRuns e = true → (∀ k < 8, (s.engine k).ownDue = false) →
    (∀ op a r, s.gnoisk e i [.bin op 1 a r, .ret] = some
      { w1 := seBin op (i.startReg a) (match r with | .reg k => i.startReg k | .imm v => v)
        w2 := i.startReg 2, w3 := i.startReg 3, stores := [], own := [], scratch := [] }) ∧
    (∀ res, s.gnoisk e i code = some res → Completes (.recipeInvocation e code) s fun t =>
      (let desc := s.descWrite i res
       let k := keepStores (groupCells (s.groupOf i desc)) (s.storeWrites i res)
       t.sig = { s.sig with batches := s.sig.batches.map fun x =>
          { x with items := fillItems i.id (desc ++ k.1) x.items } } ∧
        t.rd (Reg.SEC_OVERRUN e) = satWord ((s.rd (Reg.SEC_OVERRUN e)).toNat + k.2)) ∧
      (t.engine e).queue = q ∧ t.fld (Reg.SEC_QUEUE_DEPTH e) = q.length % 512 ∧
      OnlyRegs { s with mem := t.mem, sig := t.sig, engines := t.engines } t [Reg.SEC_QUEUE e, Reg.SEC_OVERRUN e] ∧
      (∀ a : Nat, (∀ x ∈ res.own, a ≠ 0x2000000 + 0x40000 * s.homeOf i + x.1.val ∧
          a ≠ 0x2000000 + 0x40000 * buddy (s.homeOf i) + 0x1C000 + x.1.val) →
        (∀ x ∈ res.scratch, a ≠ 0x2000000 + 0x40000 * e.val + x.1) → t.byte a = s.byte a) ∧
      (∀ k v, res.own = [(k, v)] → res.scratch = [] →
        t.byte (0x2000000 + 0x40000 * buddy (s.homeOf i) + 0x1C000 + k.val) = v ∧
        (s.engineOut (s.homeOf i) = false → t.byte (0x2000000 + 0x40000 * s.homeOf i + k.val) = v))) ∧
    (∀ c, c = .recipeOverrun e ∨ (c = .recipeInvocation e code ∧ s.gnoisk e i code = none) → Completes c s fun t =>
      t.sig = { s.sig with batches := s.sig.batches.map fun x => { x with items := fillItems i.id [] x.items } } ∧
      (t.engine e).queue = q ∧ t.rd (Reg.SEC_OVERRUN e) = satInc (s.rd (Reg.SEC_OVERRUN e)) ∧
      t.fld (Reg.SEC_LAST_RECIPE_RECIPE e) = i.recipe % 1024 ∧
      OnlyRegs { s with sig := t.sig, engines := t.engines } t
        [Reg.SEC_QUEUE e, Reg.SEC_OVERRUN e, Reg.SEC_LAST_RECIPE e])

/-- Engines in pairs (R223 to R227, R462): a mismatch, and FORCE_TAKEOVER, take an engine out of service, and its buddy carries its recipes
and its queue; a mismatch is counted, logged and tested, one of the management engine restarts its firmware; HAND_BACK
lets a RETIRED engine return at the next commit; the load of each window is shown with its peak. -/
def Obligations.EnginesWorkInPairs : Prop :=
  ∀ (p : PageNo) (e : Fin 8) (s : State),
    (s.awake → s.engineOut e = false → s.engineOut (buddy e) = false →
      (Completes (.lockstepMismatch ⟨e, by omega⟩) s fun t =>
        t.role e = 3 ∧ t.role (buddy e) = 1 ∧ (t.engine e).queue = [] ∧
        (t.engine (buddy e)).queue = (s.engine (buddy e)).queue ++ (s.engine e).queue ∧
        t.rd (Reg.SEC_CHECK_FAIL e) = satInc (s.rd (Reg.SEC_CHECK_FAIL e)) ∧
        (0x20000 + e.val, 3) ∈ t.hlt.testing ∧ t.rd Reg.HLT_LOG_SEQ = satInc (s.rd Reg.HLT_LOG_SEQ)) ∧
      (s.takes p (Reg.SEC_CMD e) →
        Completes (.forceTakeover p e) s fun t =>
          t.role e = 2 ∧ t.role (buddy e) = 1 ∧ (t.engine e).queue = [] ∧
          (t.engine (buddy e)).queue = (s.engine (buddy e)).queue ++ (s.engine e).queue ∧
          { t with regs := s.regs, engines := s.engines } = s)) ∧
    (s.awake → s.engineOut e = true → exec (.lockstepMismatch ⟨e, by omega⟩) s = .next s) ∧
    (s.awake → Completes (.lockstepMismatch 8) s fun t => t.hlt.meDown = true) ∧
    (s.takes p (Reg.SEC_CMD e) →
      (s.role e = 2 →
        exec (.secHandBack p e) s = .next (s.setEngine e { s.engine e with returning := true })) ∧
      (s.role e ≠ 2 → exec (.secHandBack p e) s = .next s) ∧
      ((s.engineOut e = true ∨ s.engineOut (buddy e) = true) → exec (.forceTakeover p e) s = .next s)) ∧
    (∀ pct : Byte, s.awake →
      Completes (.loadWindow e pct) s fun t =>
        t.fld (Reg.SEC_LOAD_LAST e) = pct.toNat ∧
        t.fld (Reg.SEC_LOAD_PEAK e) = max pct.toNat (s.fld (Reg.SEC_LOAD_PEAK e)) ∧
        (50 < pct.toNat → s.role e = 0 → t.flag (Reg.SEC_STATE_HALF_EXCEEDED e) = true) ∧
        OnlyRegs s t [Reg.SEC_LOAD e, Reg.SEC_STATE e])

/-! ## CAN units -/

/-- Loading and reading a mailbox (R236, R261, R503): a LOAD of an allowed length replaces the content of a mailbox that is not on the bus and leaves it IDLE,
or as it was if it was PENDING, SUSPENDED or MISSED; any other length sets MB_BAD. READ copies the content out. Nothing
else changes, but for the count of an ARBITRATING window whose time to start has passed (R253). -/
def Obligations.MailboxesAreLoadedAndRead : Prop :=
  ∀ (p : PageNo) (n : CanNo) (m : MbNo) (s : State), s.takes p (Reg.CFD_MB_CMD n) →
    (let ws := (List.range 20).map fun j => s.rd (Reg.CFD_MB_BUF n j)
     (lenOk (mbFdf ws) (mbLen ws) = true → mbAuth ws = false → s.mbState n m ≠ 3 →
      Completes (.mbLoad p n m) s fun t =>
        t.mb n m = { words := ws, noAuth := false, held := none } ∧
        t.mbState n m = (if s.mbState n m = 2 ∨ s.mbState n m = 8 ∨ s.mbState n m = 9 then s.mbState n m else 1) ∧
        t.flag (Reg.CFD_MB_STAT_LOADED n m) = true ∧ (∀ k, k ≠ m → t.mb n k = s.mb n k) ∧
        ((s.canU n).mtx.window = none → t.can = s.can ∧ t.rd (Reg.CFD_WIN_MISS n) = s.rd (Reg.CFD_WIN_MISS n)) ∧
        OnlyRegs { s with mbs := t.mbs, can := t.can } t [Reg.CFD_MB_STAT n m, Reg.CFD_WIN_MISS n]) ∧
     (lenOk (mbFdf ws) (mbLen ws) = false →
      Completes (.mbLoad p n m) s fun t =>
        t.flag (Reg.CFD_FLAGS_MB_BAD n) = true ∧ ((s.canU n).mtx.window = none → t.can = s.can) ∧
        OnlyRegs { s with can := t.can } t [Reg.CFD_FLAGS n, Reg.CFD_WIN_MISS n])) ∧
    (Completes (.mbRead p n m) s fun t =>
      (∀ j < 20, t.rd (Reg.CFD_MB_BUF n j) = (s.mb n m).words.getD j 0) ∧
      OnlyRegs s t ((List.range 20).map fun j => Reg.CFD_MB_BUF n j))

/-- Requests, cancels and resumes by mask (R241, R244, R503): each named mailbox, and no other, takes the state that its own state gives; a
cancel of the frame on the bus is registered. -/
def Obligations.MailboxMasks : Prop :=
  ∀ (p : PageNo) (n : CanNo) (mask : DWord) (s : State),
    (s.takes p (Reg.CFD_TX_REQ_LO n) →
      Completes (.txRequest p n mask) s fun t =>
        { t with regs := s.regs, eqs := s.eqs, out := s.out, can := s.can } = s ∧
        ((s.canU n).mtx.window = none → t.can = s.can) ∧
        ∀ m : MbNo, t.mbState n m =
          if bitOf mask.toNat m ∧ s.mbState n m ≠ 0 ∧ s.mbState n m ≠ 2 ∧ s.mbState n m ≠ 3 ∧ s.mbState n m ≠ 8 then
            (if s.mbSendable n m then 2 else 7)
          else s.mbState n m) ∧
    (s.takes p (Reg.CFD_TX_CANCEL_LO n) →
      Completes (.txCancel p n mask) s fun t =>
        { t with regs := s.regs, eqs := s.eqs, out := s.out, can := s.can } = s ∧
        (∀ m : MbNo, t.mbState n m =
          if bitOf mask.toNat m ∧ s.mbState n m ≠ 0 ∧ s.mbState n m ≠ 1 ∧ s.mbState n m ≠ 3 ∧ s.mbState n m ≠ 4 then 5
          else s.mbState n m) ∧
        (∀ o (m : MbNo), (s.canU n).onBus = some o → o.mb = some m.val → s.mbState n m = 3 → bitOf mask.toNat m = true →
          (t.canU n).onBus = some { o with cancel := true })) ∧
    (s.takes p (Reg.CFD_TX_RESUME_LO n) →
      Completes (.txResume p n mask) s fun t =>
        { t with regs := s.regs, eqs := s.eqs, out := s.out, can := s.can } = s ∧
        ((s.canU n).mtx.window = none → t.can = s.can) ∧
        ∀ m : MbNo, t.mbState n m =
          if bitOf mask.toNat m ∧ s.mbState n m = 8 then (if s.mbSendable n m then 2 else 7) else s.mbState n m)

/-- The start of a frame (R237): a unit that may send, outside any matrix, puts on the bus the item of the lowest rank among its PENDING mailboxes and the
head of its gateway queue, as the bits on the bus rank them; the mailbox is ACTIVE.

The end of a frame (R238, R239, R242, R256, R257): a lost arbitration leaves the mailbox PENDING, or ARB_LOST with one shot, and counts; a completed frame leaves it TX_DONE,
counts, takes one from TEC and, with EVT_DONE, posts CAN_TX_DONE; a bus error counts by its kind, raises TEC by 8 and
leaves the mailbox PENDING, or TX_ERROR with one shot. Said of a mailbox without held content or a
registered cancel, in an error-active unit outside any matrix, with nothing staged and no spare taking over.
The counting rules are those of ISO 11898-1 (PRESUMED, notes/assumptions/22.md). -/
def Obligations.FramesAreSentAndEnd : Prop :=
  (∀ (n : CanNo) (s : State), s.awake → s.canMaySend n = true → s.mtxRuns n = false → (s.canU n).mtx.window = none →
    (s.canU n).receiving = false → (∀ ws ∈ (s.canU n).gwq, mbFdf ws = false ∨ s.fdEn n = true) →
    (∃ m : MbNo, s.mbState n m = 2) → (∀ m : MbNo, s.mbState n m = 2 → s.mbSendable n m = true) →
    Completes (.startOfFrame n) s fun t => ∃ o,
      (t.canU n).onBus = some o ∧ t.out = s.out ++ [.canTx n (s.busFrame n o.words)] ∧
      (∀ m, o.mb = some m → m < 64 ∧ t.mbState n m = 3 ∧ o.words = (s.mb n m).words) ∧
      (∀ m : MbNo, s.mbState n m = 2 → identRank o.words ≤ identRank (s.mb n m).words) ∧
      (∀ h, (s.canU n).gwq.head? = some h → identRank o.words ≤ identRank h) ∧
      { t with regs := s.regs, out := s.out, can := s.can } = s) ∧
  (∀ (n : CanNo) (o : OnBus) (m : MbNo) (s : State), s.awake → s.staged = [] → (s.canU n).onBus = some o →
    o.mb = some m.val → o.cancel = false → o.exclusive = false → o.refCycle = none → o.observed = false →
    (s.mb n m).held = none →
    s.errState n = 0 → s.fld (Reg.CFD_ERRC_TEC n) ≤ 127 → s.fld (Reg.CFD_ERRC_REC n) ≤ 127 →
    (Completes (.arbitrationLost n) s fun t =>
      t.rd (Reg.CFD_ARB_LOST n) = satInc (s.rd (Reg.CFD_ARB_LOST n)) ∧ (t.canU n).onBus = none ∧
      t.mbState n m = (if mbOneShot o.words || s.flag (Reg.CFD_MODE_ONE_SHOT n) then 6 else 2) ∧
      t.mb n m = s.mb n m ∧ SameBytes s t) ∧
    (∀ d, mbFdf o.words = false →
      Completes (.transmissionComplete n d) s fun t =>
        t.mbState n m = 4 ∧ (t.canU n).onBus = none ∧
        t.rd (Reg.CFD_TX_FRAMES n) = s.rd (Reg.CFD_TX_FRAMES n) + 1 ∧
        t.fld (Reg.CFD_ERRC_TEC n) = s.fld (Reg.CFD_ERRC_TEC n) - 1 ∧
        (mbEvtDone o.words = true → Posts s t 0x040 (Reg.canUnit n + m * 256) s.stamp) ∧
        (mbEvtDone o.words = false → t.eqs = s.eqs) ∧ SameBytes s t) ∧
    (∀ k d, k ≠ .res → s.running (Reg.canUnit n) = true → s.canMode n = 1 →
      Completes (.busError n k .tx8 ⟨false, d⟩) s fun t =>
        t.rd (errReg n k) = satInc (s.rd (errReg n k)) ∧ (t.canU n).onBus = none ∧
        t.fld (Reg.CFD_ERRC_TEC n) = s.fld (Reg.CFD_ERRC_TEC n) + 8 ∧
        t.mbState n m = (if mbOneShot o.words || s.flag (Reg.CFD_MODE_ONE_SHOT n) then 7 else 2) ∧ SameBytes s t))

/-- Bus-off and back (R233, R256, R257): TEC past 255 takes the unit off the bus; it waits for DELAY_MS or for RECOVER as RMODE says; 128 runs of recessive
bits clear both counters and make it error active, with CAN_RECOVERED; an integrating unit takes part once it has seen the
bus idle.
The counting rules are those of ISO 11898-1 (PRESUMED, notes/assumptions/22.md). -/
def Obligations.BusOffAndRecovery : Prop :=
  ∀ (p : PageNo) (n : CanNo) (s : State),
    (∀ d, s.awake → s.staged = [] → s.running (Reg.canUnit n) = true → s.canMode n = 1 →
      s.errState n = 1 → 247 < s.fld (Reg.CFD_ERRC_TEC n) → s.fld (Reg.CFD_RECOV_BO_LIMIT n) = 0 →
      Completes (.busError n .ack .tx8 ⟨false, d⟩) s fun t =>
        t.errState n = 2 ∧ t.rd (Reg.CFD_BUSOFF n) = satInc (s.rd (Reg.CFD_BUSOFF n)) ∧
        (t.canU n).boCount = (s.canU n).boCount + 1 ∧
        (t.canU n).boWait = (match s.fld (Reg.CFD_RECOV_RMODE n) with
          | 0 => .sequence
          | 1 => .delay s.tb.local16
          | _ => .manual)) ∧
    (∀ since, s.awake → s.errState n = 2 → (s.canU n).boWait = .delay since →
      since + s.fld (Reg.CFD_RECOV_DELAY_MS n) * 65536000000 ≤ s.tb.local16 →
      exec (.busOffDelayExpiry n) s = .next (s.setCan n { s.canU n with boWait := .sequence })) ∧
    (s.takes p (Reg.CFD_CMD n) →
      (s.errState n = 2 → (s.canU n).boWait = .manual →
        exec (.recover p n) s = .next (s.setCan n { s.canU n with boWait := .sequence })) ∧
      (s.errState n ≠ 2 → exec (.recover p n) s = .next s) ∧
      exec (.resetBo p n) s = .next (s.setCan n { s.canU n with boCount := 0 })) ∧
    (s.awake → s.errState n = 2 → (s.canU n).boWait = .sequence →
      Completes (.recoveryComplete n) s fun t =>
        t.rd (Reg.CFD_ERRC n) = s.rd (Reg.CFD_ERRC n) &&& 0x3E00FE00#32 ∧ (t.canU n).boWait = .none ∧
        Posts s t 0x046 (Reg.canUnit n) 0 ∧ SameBytes s t) ∧
    (s.awake → s.running (Reg.canUnit n) = true → s.errState n = 3 →
      Completes (.busIntegration n) s fun t =>
        t.errState n = (if 127 < s.fld (Reg.CFD_ERRC_TEC n) ∨ 127 < s.fld (Reg.CFD_ERRC_REC n) then 1 else 0) ∧
        OnlyRegs s t [Reg.CFD_ERRC n])

/-- Reception (R245 to R249): a valid frame counts; the first filter that accepts it for the receive queue alone appends its entry there, over the
oldest one, with GAP and RXQ_LOST, if 128 are waiting; a frame that no filter accepts counts in RX_NOMATCH. Said of an
error-active unit on a valid bank without matrix, level, policies, staged fields or a late write of MODE. -/
def Obligations.CanFramesAreReceived : Prop :=
  ∀ (n : CanNo) (f : CanFrame) (age : Nat) (s : State), s.awake → s.staged = [] → s.canOnBus n = true →
    (s.canU n).onBus = none → (s.canU n).modeWas = none → s.pinsSeen (Reg.canUnit n) = true → s.canMode n = 1 → s.errState n = 0 → s.fld (Reg.CFD_ERRC_TEC n) ≤ 127 →
    s.fld (Reg.CFD_ERRC_REC n) ≤ 127 → (f.fdf = false ∨ s.fdEn n = true) → s.mtxNext n = none →
    s.policies (s.rd Reg.STR_GEN) = [] → s.fld (Reg.CFD_RXQ_STATE_LEVEL n) = 0 →
    (∀ i, s.acceptBy (s.genAt (s.tb.local16 - age * 65536)) n f = some i →
      bitOf (s.afW (s.genAt (s.tb.local16 - age * 65536)) n i 2) 15 = false →
      bitOf (s.afW (s.genAt (s.tb.local16 - age * 65536)) n i 2) 16 = true →
      Completes (.canFrameReceived n f age) s fun t =>
        (let e := rxEntry f (canPayload f) s.stamp (s.canU n).rxSeq i false false false
         if (s.canU n).rxq.length < 128 then (t.canU n).rxq = (s.canU n).rxq ++ [e]
         else ∃ old o rest, (s.canU n).rxq = old :: o :: rest ∧ (t.canU n).rxq = rxGap o :: rest ++ [e] ∧
          t.rd (Reg.CFD_RXQ_LOST n) = satInc (s.rd (Reg.CFD_RXQ_LOST n))) ∧
        t.rd (Reg.CFD_RX_FRAMES n) = s.rd (Reg.CFD_RX_FRAMES n) + 1 ∧ t.sig = s.sig ∧ SameBytes s t) ∧
    (s.acceptBy (s.genAt (s.tb.local16 - age * 65536)) n f = none →
      Completes (.canFrameReceived n f age) s fun t =>
        t.rd (Reg.CFD_RX_NOMATCH n) = satInc (s.rd (Reg.CFD_RX_NOMATCH n)) ∧ (t.canU n).rxq = (s.canU n).rxq ∧
        t.rd (Reg.CFD_RX_FRAMES n) = s.rd (Reg.CFD_RX_FRAMES n) + 1 ∧ t.sig = s.sig ∧ SameBytes s t)

/-- Schedule matrices (R183, R252 to R255): ARM arms the pending matrix, a TIME one for the grid of its base; STOP stops the active one; the armed TIME matrix
starts its cycle at its time, and a cycle of an untriggered matrix follows its length; a window opens at its start; one and
a half cycles without the reference stop the cycles with MTX_REF_MISS. -/
def Obligations.MatricesRun : Prop :=
  ∀ (p : PageNo) (n : CanNo) (s : State),
    (let x := (s.canU n).mtx
     (s.takes p (Reg.CFD_MTX_CMD n) →
       (x.pending = true → Completes (.mtxArm p n) s fun t =>
         (t.canU n).mtx.armed = true ∧ (t.canU n).mtx.active = x.active ∧ (t.canU n).mtx.cycle = x.cycle ∧
         ({ words := s.mtxPendWords n : MtxRun }.src = 3 → (t.canU n).mtx.takeDue =
           some (gridStart (s.rd64 (Reg.CFD_MTX_BASE_LO n)).toNat ({ words := s.mtxPendWords n : MtxRun }.cycleNs)
             s.discUp)) ∧
         { t with can := s.can } = s) ∧
       (x.pending = false → exec (.mtxArm p n) s = .next s) ∧
       (Completes (.mtxStop p n) s fun t =>
         (t.canU n).mtx.active = false ∧ (t.canU n).mtx.cycle = none ∧ (t.canU n).mtx.window = none ∧
         OnlyRegs { s with can := t.can } t [Reg.CFD_WIN_MISS n])) ∧
     (∀ d, s.awake → x.pending = true → x.armed = true → x.takeDue = some d → d * 65536 ≤ s.disc16 →
       Completes (.matrixCycleStart n) s fun t =>
         (t.canU n).mtx.active = true ∧ (t.canU n).mtx.pending = false ∧ (t.canU n).mtx.start16 = s.tb.local16 ∧
         (t.canU n).mtx.words = s.mtxPendWords n ∧ t.rd (Reg.CFD_MTX_CYCLES n) = s.rd (Reg.CFD_MTX_CYCLES n) + 1 ∧
         (d ≠ x.armBase → t.flag (Reg.CFD_FLAGS_LATE_START n) = true)) ∧
     (∀ b, s.awake → x.pending = false → x.active = true → x.src ≤ 1 → x.cycle = some b → x.wanted = none →
       x.start16 + x.cycleNs * 65536 ≤ s.tb.local16 →
       Completes (.matrixCycleStart n) s fun t =>
         (t.canU n).mtx.cycle = some ((b + 1) % (x.ncyc + 1)) ∧
         (t.canU n).mtx.start16 = x.start16 + x.cycleNs * 65536 ∧ (t.canU n).mtx.words = x.words ∧
         t.rd (Reg.CFD_MTX_CYCLES n) = s.rd (Reg.CFD_MTX_CYCLES n) + 1) ∧
     (∀ b (w : Fin 32), s.awake → x.active = true → x.cycle = some b → x.window = none → x.winType b w ≠ 0 →
       x.rephased = false → x.wanted = none → x.start16 + (x.winSpan b w).1 ≤ s.tb.local16 →
       exec (.windowStart n w) s = .next (s.setMtx n { x with
         window := some w.val, open16 := x.start16 + (x.winSpan b w).1, sent := false, missed := false })) ∧
     (∀ b, s.awake → x.active = true → x.src = 2 → x.cycle = some b →
       2 * x.start16 + 3 * (x.cycleNs * 65536) ≤ 2 * s.tb.local16 →
       Completes (.mtxRefMiss n) s fun t =>
         (t.canU n).mtx.cycle = none ∧ t.flag (Reg.CFD_FLAGS_MTX_REF_MISS n) = true ∧
         Posts s t 0x049 (Reg.canUnit n + b * 256) 0 ∧ SameBytes s t))

/-- Resynchronisation frames (R416): once the period of a CAN_TX policy has passed, its next freshness value is used up and the frame is handed to its mailbox; without a usable
key nothing is sent and the mailbox ends in TX_ERROR. -/
def Obligations.ResynchronisationFramesAreSent : Prop :=
  ∀ (i : Fin 1024) (n : CanNo) (s : State), s.awake →
    (let g := s.rd Reg.STR_GEN
     let ms := bits (s.polW g i 5) 0 16
     let m := bits (s.polW g i 5) 16 6
     bitOf (s.polW g i 0) 2 = true → s.polKind g i = 1 → bitOf (s.polW g i 4) 30 = true → ms ≠ 0 →
     s.polUnit g i n = true → (s.pol i).resync = [] → ms * 65536000000 ≤ s.tb.local16 →
     (s.keyUsable (s.polSlot g i) = true →
       Completes (.resyncSend i n) s fun t =>
         t.rd Reg.CPH_RESYNC_TX = satInc (s.rd Reg.CPH_RESYNC_TX) ∧
         (t.pol i).fv = ((s.pol i).fv + 1) % 2 ^ 32 ∧ (t.pol i).resync = [(n.val, s.tb.local16)] ∧
         t.slotCount (s.polSlot g i) = (s.slotCount (s.polSlot g i) + 1) % 2 ^ 48 ∧ SameBytes s t) ∧
     (s.keyUsable (s.polSlot g i) = false →
       Completes (.resyncSend i n) s fun t =>
         t.rd Reg.CPH_TX_NOKEY = satInc (s.rd Reg.CPH_TX_NOKEY) ∧ t.mbState n m = 7 ∧
         (t.pol i).fv = (s.pol i).fv ∧ Posts s t 0x041 (Reg.canUnit n + m * 256 + 7 * 65536) 0))

/-! ## Serial lanes and discrete banks -/

/-- Characters of a UART or RS-485 lane (R266, R267, R277, R281 to R283): each enters the FIFO, over the oldest with GAP and RX_LOST at 512, or with FRAMED = 1 the frame being gathered; an errored one
counts; a BREAK enters as an item of its own; after IDLE_BITS of idle line a gathered frame of allowed length is counted and
released to the FIFO whole. A TIMEOUT is an event of the custom state machine, here in a cell that only names a state.
A WIDTH outside 5 to 9 is clamped (the model's choice, notes/assumptions/162.md), and without a parity bit there is no
parity error. -/
def Obligations.CharactersAreReceived : Prop :=
  ∀ (n : LaneNo) (c : SerChar) (s : State), s.awake → s.staged = [] → s.hears n = true →
    (s.pers n ≠ persCustom →
      (let w := rxWord c.framing (c.parity && s.hasParity n) false (c.data.toNat % 2 ^ s.laneWidth n)
       (s.flag (Reg.SLN_MODE_FRAMED n) = false →
        (Completes (.characterReceived n c) s fun t =>
          (t.lane n).rx = (if (s.lane n).rx.length < 512 then (s.lane n).rx ++ [w]
            else gapHead ((s.lane n).rx.tail ++ [w])) ∧
          (512 ≤ (s.lane n).rx.length → t.rd (Reg.SLN_RX_LOST n) = satInc (s.rd (Reg.SLN_RX_LOST n))) ∧
          t.rd (Reg.SLN_CHAR_ERR n) = (if c.framing = true ∨ (c.parity = true ∧ s.hasParity n = true) then
            satInc (s.rd (Reg.SLN_CHAR_ERR n)) else s.rd (Reg.SLN_CHAR_ERR n)) ∧
          (t.lane n).lastChar16 = some s.tb.local16 ∧ t.sig = s.sig) ∧
        ((s.lane n).rx.length < 512 → Completes (.break_ n) s fun t =>
          (t.lane n).rx = (s.lane n).rx ++ [rxWord false false true 0] ∧ t.sig = s.sig)) ∧
       (s.flag (Reg.SLN_MODE_FRAMED n) = true → (s.lane n).hunting = false →
        ((s.lane n).buf.length + 1) * s.itemBytes n ≤ s.laneMax n →
        Completes (.characterReceived n c) s fun t =>
          (t.lane n).buf = (s.lane n).buf ++ [w] ∧ (t.lane n).rx = (s.lane n).rx ∧ t.sig = s.sig)) ∧
      (∀ l, s.flag (Reg.SLN_MODE_FRAMED n) = true → (s.lane n).hunting = false → (s.lane n).buf ≠ [] →
        (s.lane n).lastChar16 = some l → (s.lane n).idleDone = false →
        2 * l + (s.stopHalves n + 2 * (if s.fld (Reg.SLN_IDLE_IDLE_BITS n) = 0 then 20
          else s.fld (Reg.SLN_IDLE_IDLE_BITS n))) * s.laneBit16 n ≤ 2 * s.tb.local16 →
        s.laneMin n ≤ (s.lane n).buf.length * s.itemBytes n →
        (s.lane n).rx.length + (s.lane n).buf.length ≤ 512 → s.flag (Reg.SLN_CHAIN_CHAIN_EN n 0) = false →
        Completes (.idle n) s fun t =>
          (t.lane n).rx = (s.lane n).rx ++ frameWords (s.lane n).buf false ∧ (t.lane n).buf = [] ∧
          (t.lane n).idleDone = true ∧ t.rd (Reg.SLN_RX_FRAMES n) = s.rd (Reg.SLN_RX_FRAMES n) + 1 ∧
          t.sig = s.sig)) ∧
    (s.pers n = persCustom → s.fld (Reg.SLN_IDLE_FRAME_TMO n) ≠ 0 → s.smState n ≠ 0 →
      (s.lane n).tmo16 + s.fld (Reg.SLN_IDLE_FRAME_TMO n) * s.laneBit16 n ≤ s.tb.local16 →
      (let cell := s.smWord n (16 * s.smState n + 14)
       bits cell 22 4 = 0 → bitOf cell 11 = false →
       Completes (.timeout n) s fun t =>
        t.smState n = bits cell 26 6 ∧ t.smCount n = s.smCount n ∧ (t.lane n).tmo16 = s.tb.local16 ∧
        (t.lane n).buf = (s.lane n).buf ∧ OnlyRegs { s with lanes := t.lanes, freeCnt := t.freeCnt } t [Reg.SLN_SM_STATE n]))

/-- The transmitting side (R268, R269, R288, R289): SLN_TX_PUSH appends an item or, with the FIFO full or absent, counts in TX_REFUSED; the next item leaves in
order, and the one marked LAST, or the last there is, ends its frame, which counts; DE falls after DE_LAG; the three
commands of SLN_CMD empty the FIFOs and put the state machine in state 0; CTS shows its pin, which reads low on an
invalid bank (R478). That the write side may still count the items of the last clocks is a free value (R286,
notes/assumptions/177.md): the statement says what holds for each. -/
def Obligations.LanesTransmit : Prop :=
  ∀ (p : PageNo) (n : LaneNo) (s : State),
    (∀ item, s.takes p (Reg.SLN_TX_PUSH n) →
      (s.laneSends n = true → (s.lane n).tx.length + (s.lane n).txOut < 512 →
        exec (.txPush p n item) s = .next (s.useFree.setLane n { s.lane n with
          tx := (s.lane n).tx ++ [item &&& 0x30FFFFFF#32] })) ∧
      ((s.laneSends n = false ∨ 512 ≤ (s.lane n).tx.length) →
        Completes (.txPush p n item) s fun t =>
          t.rd (Reg.SLN_TX_REFUSED n) = satInc (s.rd (Reg.SLN_TX_REFUSED n)) ∧
          t.flag (Reg.SLN_STATUS_TX_FULL_WRITE n) = true ∧
          OnlyRegs { s with freeCnt := t.freeCnt } t [Reg.SLN_TX_REFUSED n, Reg.SLN_STATUS n])) ∧
    (∀ w ws, s.awake → s.staged = [] → s.laneRuns n = true → s.pers n = persUart → s.ctsHolds n = false →
      (s.lane n).tx = w :: ws →
      Completes (.characterTransmitted n none) s fun t =>
        t.out = s.out ++ [.serialTx n w] ∧ (t.lane n).tx = ws ∧
        (if bitOf w.toNat 28 = true ∨ ws = [] then
          (t.lane n).line = none ∧ t.rd (Reg.SLN_TX_FRAMES n) = s.rd (Reg.SLN_TX_FRAMES n) + 1
        else (t.lane n).line = some w ∧ t.regs = s.regs) ∧
        OnlyRegs { s with lanes := t.lanes, out := t.out } t [Reg.SLN_TX_FRAMES n]) ∧
    (∀ l, s.awake → (s.lane n).lag16 = some l → l + s.fld (Reg.SLN_DE_DE_LAG n) * 6553600 ≤ s.tb.local16 →
      exec (.deLagExpiry n) s = .next ((s.setLane n { s.lane n with sending := false, lag16 := none }).emit
        (.lineDriver n false (l + s.fld (Reg.SLN_DE_DE_LAG n) * 6553600)))) ∧
    (s.takes p (Reg.SLN_CMD n) →
      (Completes (.rxFlush p n) s fun t =>
        (t.lane n).rx = [] ∧ (t.lane n).tx = (s.lane n).tx ∧
        OnlyRegs { s with lanes := t.lanes } t [Reg.SLN_STATUS n]) ∧
      ((s.lane n).line = none →
        exec (.txFlush p n) s = .next (s.setLane n { s.lane n with tx := [] })) ∧
      ((s.lane n).line ≠ none → s.staged = [] → s.pers n ≠ persSpiCtl →
        Completes (.txFlush p n) s fun t =>
          (t.lane n).tx = [] ∧ (t.lane n).line = none ∧
          t.rd (Reg.SLN_TX_FRAMES n) = s.rd (Reg.SLN_TX_FRAMES n) + 1) ∧
      (Completes (.smReset p n) s fun t =>
        t.smState n = 0 ∧ (t.lane n).buf = [] ∧ OnlyRegs { s with lanes := t.lanes } t [Reg.SLN_SM_STATE n])) ∧
    (∀ high, s.awake →
      Completes (.ctsNChange n high) s fun t =>
        t.flag (Reg.SLN_STATUS_CTS n) = (high && s.pinsSeen (Reg.laneUnit n)) ∧ OnlyRegs s t [Reg.SLN_STATUS n])

/-- LIN (R270 to R272): a commander sends the header of each enabled slot, its break of BREAK_BITS bit times, when it is due and sets the next slot's time; a responder opens a frame for a good header that its
table names as received; a good response enters the FIFO and counts; a header or a response that fails its check counts in
BAD_FRAME; a frame whose time passes counts in NORESP. A low level of fewer than 11 bit times is no break.
Protected identifiers and checksums are those of ISO 17987 (PRESUMED, notes/assumptions/25.md). -/
def Obligations.LinFramesRun : Prop :=
  ∀ (n : LaneNo) (s : State), s.awake → s.staged = [] → s.laneRuns n = true →
    (∀ d, s.pers n = persLinCmd → (s.lane n).slotDue16 = some d → d ≤ s.tb.local16 →
      s.flag (Reg.SLN_LIN_CTRL_RUN n) = true →
      (let w := s.linSlot n (s.lane n).sched (s.lane n).slot
       bits w 8 16 ≠ 0 →
       Completes (.linSlotStart n) s fun t =>
        t.out = (if bitOf w 7 then s.out ++ [.linHeader n (s.linBreak n) (linPid (bits w 0 6))] else s.out) ∧
        (t.lane n).slot = (s.lane n).slot + 1 ∧ (t.lane n).slotDue16 = some (d + bits w 8 16 * 6553600000) ∧
        SameBytes s t)) ∧
    (∀ (pid : Byte) (div : BitVec 24) (brk : Nat), brk < 11 → exec (.linHeaderReceived n pid ⟨div, brk⟩) s = .next s) ∧
    (∀ (pid : Byte) (div : BitVec 24) (brk : Nat), s.pers n = persLinResp → s.pinsSeen (Reg.laneUnit n) = true → 11 ≤ brk →
      (linPid (pid.toNat % 64) = pid.toNat → (s.lane n).lin = none → s.linDir n (pid.toNat % 64) = 1 →
        100 * ((div.toNat : Int) - s.fld (Reg.SLN_BAUD_BAUD_DIV n)).natAbs ≤ 15 * s.fld (Reg.SLN_BAUD_BAUD_DIV n) →
        Completes (.linHeaderReceived n pid ⟨div, brk⟩) s fun t =>
          (t.lane n).lin = some { ident := pid.toNat % 64, at16 := s.tb.local16, div := div.toNat } ∧
          (t.lane n).rx = (s.lane n).rx ∧ t.sig = s.sig) ∧
      (linPid (pid.toNat % 64) ≠ pid.toNat →
        Completes (.linHeaderReceived n pid ⟨div, brk⟩) s fun t =>
          t.rd (Reg.SLN_BAD_FRAME n) = satInc (s.rd (Reg.SLN_BAD_FRAME n)) ∧
          t.flag (Reg.SLN_STATUS_BAD_SEEN n) = true ∧ t.lanes = s.lanes ∧ t.sig = s.sig)) ∧
    (∀ (f : LinFrame) (data : List Byte) (sum : Byte), (s.lane n).lin = some f → f.response = none →
      s.pinsSeen (Reg.laneUnit n) = true → s.tb.local16 ≤ s.linDeadline n f → s.linDir n f.ident = 1 → data.length = s.linLen n f.ident →
      (sum = linChecksum f.ident data → (s.lane n).rx.length + data.length ≤ 512 →
        Completes (.linResponseReceived n data sum) s fun t =>
          (t.lane n).rx = (s.lane n).rx ++ frameWords (data.map fun b => rxWord false false false b.toNat) false ∧
          (t.lane n).lin = none ∧ t.rd (Reg.SLN_RX_FRAMES n) = s.rd (Reg.SLN_RX_FRAMES n) + 1) ∧
      (sum ≠ linChecksum f.ident data → s.flag (Reg.SLN_MODE_KEEP_BAD n) = false →
        Completes (.linResponseReceived n data sum) s fun t =>
          t.rd (Reg.SLN_BAD_FRAME n) = satInc (s.rd (Reg.SLN_BAD_FRAME n)) ∧ (t.lane n).rx = (s.lane n).rx ∧
          (t.lane n).lin = none ∧ t.sig = s.sig)) ∧
    (∀ f, (s.lane n).lin = some f → s.linDeadline n f < s.tb.local16 →
      Completes (.linNoresp n) s fun t =>
        (t.lane n).lin = none ∧ t.rd (Reg.SLN_LIN_NORESP n) = satInc (s.rd (Reg.SLN_LIN_NORESP n)) ∧
        t.flag (Reg.SLN_STATUS_NORESP_SEEN n) = true ∧
        OnlyRegs { s with lanes := t.lanes } t [Reg.SLN_LIN_NORESP n, Reg.SLN_STATUS n])

/-- SPI and SENT (R273 to R276): every SPI word exchanges an item, WIDTH bits in the order of MSB_FIRST, a controller with SCK_DIV even and at
least 4 and CS_LEAD at least 1; a target with an empty FIFO sends zeros and counts UNDERRUN; a partial word is not stored
and counts as it is cut off, but has taken its item; a SENT message in its tick range with a good CRC is released as its status and data items, one with a wrong CRC counts
in BAD_FRAME.
The SENT CRC is that of SAE J2716 (PRESUMED, notes/assumptions/24.md). -/
def Obligations.SpiAndSent : Prop :=
  ∀ (n : LaneNo) (s : State), s.awake → s.staged = [] → s.laneRuns n = true → s.pinsSeen (Reg.laneUnit n) = true →
    (s.lane n).rx.length < 511 →
    (∀ rx : BitVec 24, s.flag (Reg.SLN_MODE_FRAMED n) = false →
      (let got := (s.lane n).rx ++ [rxWord false false false (s.spiValue n rx.toNat)]
       (∀ w ws, s.pers n = persSpiCtl → (s.lane n).tx = w :: ws → bitOf w.toNat 28 = false →
        Completes (.spiWord n rx) s fun t =>
          s.out ++ [.spiTx n (s.spiBits n w.toNat) (s.sckDiv n) (s.fld (Reg.SLN_FMT_SPI_MODE n))
            (if (s.lane n).line = none then max 1 (s.fld (Reg.SLN_SPI_CS_LEAD n)) else 0) 0] <+: t.out ∧ (t.lane n).tx = ws ∧
          (t.lane n).rx = got ∧ t.sig = s.sig) ∧
       (∀ w ws, s.pers n = persSpiTgt → (s.lane n).tx = w :: ws →
        Completes (.spiTargetWord n rx) s fun t =>
          s.out ++ [.spiTx n (s.spiBits n w.toNat) 0 0 0 0] <+: t.out ∧ (t.lane n).tx = ws ∧
          (t.lane n).rx = got) ∧
       (s.pers n = persSpiTgt → (s.lane n).tx = [] →
        Completes (.spiTargetWord n rx) s fun t =>
          s.out ++ [.spiTx n (s.spiBits n 0) 0 0 0 0] <+: t.out ∧
          t.rd (Reg.SLN_UNDERRUN n) = satInc (s.rd (Reg.SLN_UNDERRUN n)) ∧ (t.lane n).rx = got))) ∧
    (s.pers n = persSpiTgt → (s.lane n).buf = [] →
      Completes (.csNRise n true) s fun t =>
        t.rd (Reg.SLN_CHAR_ERR n) = satInc (s.rd (Reg.SLN_CHAR_ERR n)) ∧ (t.lane n).rx = (s.lane n).rx ∧
        (t.lane n).tx = (s.lane n).tx.tail ∧
        ((s.lane n).tx = [] → t.rd (Reg.SLN_UNDERRUN n) = satInc (s.rd (Reg.SLN_UNDERRUN n))) ∧
        (t.lane n).hunting = false ∧ t.sig = s.sig) ∧
    (∀ (tick v c : Nat) (ds pause : List Nat), s.pers n = persSent → s.flag (Reg.SLN_SENT_SLOW n) = false →
      s.flag (Reg.SLN_CHAIN_CHAIN_EN n 0) = false →
      (let nom := max 30 (min 900 (s.fld (Reg.SLN_SENT_TICK n))) * 100
       pause.length = (if s.flag (Reg.SLN_SENT_PAUSE n) then 1 else 0) → 3 * nom ≤ 4 * tick → 4 * tick ≤ 5 * nom → v < 16 → c < 16 → (∀ d ∈ ds, d < 16) →
       ds.length = (if s.fld (Reg.SLN_SENT_NIBBLES n) = 0 ∨ s.fld (Reg.SLN_SENT_NIBBLES n) = 7 then 6
         else s.fld (Reg.SLN_SENT_NIBBLES n)) →
       (c = sentCrc (s.flag (Reg.SLN_SENT_CRC_LEGACY n)) ds →
        Completes (.sentMessage n { tickNs := tick, pulses := (v + 12) :: ds.map (· + 12) ++ [c + 12] ++ pause }) s fun t =>
          (t.lane n).rx = (s.lane n).rx ++ frameWords [rxWord false false false v,
            rxWord false false false (ds.foldl (fun a x => 16 * a + x) 0)] false ∧
          t.rd (Reg.SLN_RX_FRAMES n) = s.rd (Reg.SLN_RX_FRAMES n) + 1) ∧
       (c ≠ sentCrc (s.flag (Reg.SLN_SENT_CRC_LEGACY n)) ds → s.flag (Reg.SLN_MODE_KEEP_BAD n) = false →
        Completes (.sentMessage n { tickNs := tick, pulses := (v + 12) :: ds.map (· + 12) ++ [c + 12] ++ pause }) s fun t =>
          t.rd (Reg.SLN_BAD_FRAME n) = satInc (s.rd (Reg.SLN_BAD_FRAME n)) ∧ (t.lane n).rx = (s.lane n).rx)))

/-- Discrete banks (R291 to R295): a level that has held for DEB × DEB_UNIT sets the debounced one and, if its edge is enabled on an input, stamps it, counts it and
queues a write of its cell; a shorter one shows in RAW alone; after a commit
each FROM_CELL output that is not latched drives the bit of its cell, if that is valid and not stale, and otherwise stands at
its safe value with SRC_BAD. -/
def Obligations.BanksFollowLinesAndCells : Prop :=
  ∀ (b : BankNo) (l : Fin 8) (s : State), s.awake → s.running (Reg.bankUnit b) = true →
    (∀ level age, age < s.debNs b l → (level = true → s.pinsSeen (Reg.bankUnit b) = true) →
      Completes (.edgeAccepted b l level age) s fun t =>
        bitOf (t.fld (Reg.DSC_LEVEL_RAW b)) l = level ∧ t.fld (Reg.DSC_LEVEL_LEVEL b) = s.fld (Reg.DSC_LEVEL_LEVEL b) ∧
        OnlyRegs s t [Reg.DSC_LEVEL b]) ∧
    (∀ level age, bitOf (s.fld (Reg.DSC_LEVEL_LEVEL b)) l ≠ level → s.debNs b l ≤ age →
      (level = true → s.pinsSeen (Reg.bankUnit b) = true) →
      Completes (.edgeAccepted b l level age) s fun t =>
        bitOf (t.fld (Reg.DSC_LEVEL_LEVEL b)) l = level ∧ bitOf (t.bank b).changed l = true ∧
        (∀ k : Fin 8, k ≠ l → bitOf (t.fld (Reg.DSC_LEVEL_LEVEL b)) k = bitOf (s.fld (Reg.DSC_LEVEL_LEVEL b)) k) ∧
        (bitOf (s.fld (if level then Reg.DSC_EDGE_CFG_RISE_EN b else Reg.DSC_EDGE_CFG_FALL_EN b)) l = true →
          s.lineOut b l = false →
          t.rd (if level then Reg.DSC_RISE_TS b l else Reg.DSC_FALL_TS b l) =
            s.stampAt (s.tb.local16 - age * 65536) ∧
          t.rd (Reg.DSC_EDGE_CNT b l) = s.rd (Reg.DSC_EDGE_CNT b l) + 1 ∧
          ∃ w, t.sig.batches = s.sig.batches ++ [w] ∧ w.src = .other (some (Reg.bankUnit b)) ∧
            w.items.length = 1) ∧
        SameBytes s t) ∧
    (Reg.bankUnit b ∈ s.sig.refresh → s.lineOut b l = true → s.fromCell b l = true → s.latched b l = false →
      (let w := s.live (s.fld (Reg.DSC_SRC_CELL b l))
       Completes (.stagingRefresh b) s fun t =>
        Reg.bankUnit b ∉ t.sig.refresh ∧
        (if cwBit w stValid = true ∧ cwBit w stStale = false then
          bitOf (t.fld (Reg.DSC_OUT_NOW_DRIVEN b)) l = bitOf (cwValue w) (s.fld (Reg.DSC_SRC_BIT b l)) ∧
          bitOf (t.fld (Reg.DSC_OUT_NOW_SAFE_ACTIVE b)) l = false
        else
          bitOf (t.fld (Reg.DSC_OUT_NOW_SAFE_ACTIVE b)) l = true ∧ t.flag (Reg.DSC_FLAGS_SRC_BAD b) = true) ∧
        SameBytes s t ∧ t.cells = s.cells))

/-! ## The switch core -/

/-- Reception at a switch port (R302, R311, R312, R315, R319, R320, R330): a frame of fewer than 64 bytes, one above the
largest, and one with a wrong FCS count in RUNT, GIANT or FCS_ERR and go nowhere; a good frame counts with its bytes, and
without free pans it is dropped with SALTERN_FULL; one that no stream filter and no forwarding entry takes counts in
NO_ROUTE and its pans are free again; one that its entry sends to one port joins the tail of its queue there, or counts in
TAIL_DROP above HARD_LIMIT. The head of a frame takes a pan and starts cut-through on an egress port that is eligible for
it, else nowhere. A frame on a ring port is a RING_FRAME_RECEIVED (R343). The timestamp point of a frame is its eighth
byte on the line (R163), and its tables are those in force at its first byte (R74). -/
def Obligations.FramesEnterTheSwitch : Prop :=
  ∀ (port : PortNo) (f : EthFrame) (q : RxQuality) (s : State), s.awake →
    (port.val = 20 ∨ port.val = 21 → exec (.ethFrameReceived port f q) s = .next s) ∧
    (port.val ≠ 20 → port.val ≠ 21 → s.portTakes port = true → (s.port port).cut = none →
      (s.staged = [] →
        (let counts := fun (a : Nat) => Completes (.ethFrameReceived port f q) s fun t =>
           t.rd a = satInc (s.rd a) ∧
           OnlyRegs { s with waking := t.waking, dev := t.dev } t [a, Reg.GEN_REGION_STEP]
         (f.bytes.length + 4 < 64 → counts (Reg.SWC_P_RUNT port)) ∧
         (64 ≤ f.bytes.length + 4 → s.maxFrame port f.bytes < f.bytes.length + 4 → counts (Reg.SWC_P_GIANT port)) ∧
         (64 ≤ f.bytes.length + 4 → f.bytes.length + 4 ≤ s.maxFrame port f.bytes →
           q.fcsOk = false ∨ q.lineOk = false → counts (Reg.SWC_P_FCS_ERR port)))) ∧
      (s.staged = [] → 64 ≤ f.bytes.length + 4 → f.bytes.length + 4 ≤ s.maxFrame port f.bytes → q.fcsOk = true →
        q.lineOk = true → (isMac port = true → s.macMode port = 1 ∧ etypeOf f.bytes ≠ 0x8808) →
        s.isOwnGptp port f.bytes = false → s.panUse s.nextId = {} →
        (let at16 := s.tb.local16 - s.wire16 port f.bytes
         let g := s.genAt at16
         (s.freePans < pansOf f.bytes →
          Completes (.ethFrameReceived port f q) s fun t =>
            t.flag Reg.SWC_FLAGS_SALTERN_FULL = true ∧
            t.rd (Reg.SWC_P_TAIL_DROP port) = satInc (s.rd (Reg.SWC_P_TAIL_DROP port)) ∧
            t.queues = s.queues ∧ t.out = s.out ∧ t.freePans = s.freePans) ∧
         (pansOf f.bytes ≤ s.freePans → s.streamFilter g port f.bytes = none →
          (s.forwardEntry g f.bytes = none →
           Completes (.ethFrameReceived port f q) s fun t =>
            t.rd (Reg.SWC_P_NO_ROUTE port) = satInc (s.rd (Reg.SWC_P_NO_ROUTE port)) ∧
            t.rd64 (Reg.SWC_P_RX_FRAMES_LO port) = s.rd64 (Reg.SWC_P_RX_FRAMES_LO port) + 1 ∧
            t.rd64 (Reg.SWC_P_RX_BYTES_LO port)
              = s.rd64 (Reg.SWC_P_RX_BYTES_LO port) + BitVec.ofNat 64 (f.bytes.length + 4) ∧
            t.freePans = s.freePans ∧ (∀ e : PortNo, t.port e = s.port e) ∧ (∀ fid, t.panUse fid = s.panUse fid) ∧
            OnlyRegs { s with waking := t.waking, dev := t.dev, nextId := s.nextId + 1, saltern := t.saltern
                              ports := t.ports } t
              [Reg.SWC_P_NO_ROUTE port, Reg.SWC_P_RX_FRAMES_LO port, Reg.SWC_P_RX_FRAMES_HI port,
               Reg.SWC_P_RX_BYTES_LO port, Reg.SWC_P_RX_BYTES_HI port, Reg.SWC_PANS, Reg.GEN_REGION_STEP]) ∧
          (∀ i (e : PortNo), s.forwardEntry g f.bytes = some i → s.fwW g i 2 % 2 ^ 24 = 2 ^ e.val → e ≠ port →
           e.val ≠ 20 → e.val ≠ 21 →
           (let k := if bitOf (s.fwW g i 2) 27 then bits (s.fwW g i 2) 24 3 else s.ingressQueue port f.bytes
            let hard := if s.fld (Reg.SWC_Q_LIMITS_HARD_LIMIT e k) = 0 then 49152
              else s.fld (Reg.SWC_Q_LIMITS_HARD_LIMIT e k)
            (hard < (s.queue e k).depth + pansOf f.bytes →
             Completes (.ethFrameReceived port f q) s fun t =>
              t.rd (Reg.SWC_P_TAIL_DROP e) = satInc (s.rd (Reg.SWC_P_TAIL_DROP e)) ∧ t.queues = s.queues ∧
              t.freePans = s.freePans) ∧
            ((s.queue e k).depth + pansOf f.bytes ≤ hard → s.fld (Reg.SWC_Q_LIMITS_MARK_TH e k) = 0 →
             Completes (.ethFrameReceived port f q) s fun t =>
              (t.queue e k).frames = (s.queue e k).frames
                ++ [{ fid := s.nextId, bytes := f.bytes, at16 := s.tb.local16, src := port
                      rx16 := some (at16 + s.lineTime port 8) }] ∧
              (∀ (e' : PortNo) (k' : Fin 8), ¬(e' = e ∧ k'.val = k) → t.queue e' k' = s.queue e' k') ∧
              t.rd64 (Reg.SWC_P_RX_FRAMES_LO port) = s.rd64 (Reg.SWC_P_RX_FRAMES_LO port) + 1 ∧
              t.freePans = s.freePans - pansOf f.bytes ∧ t.out = s.out ∧ t.sig = s.sig)))))) ∧
      (∀ i (e : PortNo), (isMac port = true → s.macMode port = 1 ∧ etypeOf f.bytes ≠ 0x8808) →
        s.isOwnGptp port f.bytes = false → s.panUse s.nextId = {} → 1 ≤ s.freePans →
        (∀ (e' : PortNo) x l, (s.port e').sending = some x → x.end16 = some l → s.tb.local16 < l) →
        (let at16 := s.tb.local16 - s.lineTime port (f.bytes.length + 8)
         let g := s.genAt at16
         s.streamFilter g port f.bytes = none → s.forwardEntry g f.bytes = some i →
         s.fwW g i 2 % 2 ^ 24 = 2 ^ e.val → e ≠ port → e.val ≠ 20 → e.val ≠ 21 →
         (let k := if bitOf (s.fwW g i 2) 27 then bits (s.fwW g i 2) 24 3 else s.ingressQueue port f.bytes
          let cut : CutThrough :=
            { fid := s.nextId, gen := g, head := f.bytes, start16 := at16, rx16 := at16 + s.lineTime port 8 }
          (s.cutEligible port e = true → bitOf (s.gates e) k = true → s.fitsCut port e k = true →
           Completes (.forwardingDecision port f) s fun t =>
            (t.port port).cut = some { cut with egress := [e.val] } ∧
            (∃ x, (t.port e).sending = some x ∧ x.q = k ∧ x.cut = true ∧ x.frame.bytes = f.bytes ∧
              x.start16 = s.tb.local16 ∧ x.end16 = none) ∧
            (∀ (e' : PortNo) (k' : Fin 8), (t.queue e' k').frames = (s.queue e' k').frames) ∧
            t.freePans = s.freePans - 1 ∧
            OnlyRegs { s with waking := t.waking, dev := t.dev, nextId := s.nextId + 1, saltern := t.saltern
                              ports := t.ports, queues := t.queues } t
              [Reg.SWC_PANS, Reg.SWC_Q_CREDIT e k, Reg.GEN_REGION_STEP]) ∧
          (s.cutEligible port e = false ∨ bitOf (s.gates e) k = false ∨ s.fitsCut port e k = false →
           Completes (.forwardingDecision port f) s fun t =>
            (t.port port).cut = some cut ∧ (∀ e' : PortNo, (t.port e').sending = (s.port e').sending) ∧
            OnlyRegs { s with nextId := s.nextId + 1, saltern := t.saltern, ports := t.ports } t [Reg.SWC_PANS])))))

/-- What leaves a switch port (R302, R303, R309, R318, R322 to R324, R331, R333): a busy line waits; a frame that has gone
counts; a free line takes the head of queue 7, then 6, then of the weighted queue with the smallest finish tag, with its
FCS; a shaped queue whose credit is back at 0 is served, one below 0 is not; a flush empties the named queues and counts
their frames; a due sample records the depth of each queue. A MAC link that changes sets its fields and posts ETH_LINK, a
half-duplex partner only HDX_SEEN; an idle MAC enters LPI and leaves it TW after a frame. The frames of the management
engine enter the switch core before a port chooses, which is the model's choice (notes/assumptions/172.md). -/
def Obligations.FramesLeaveTheSwitch : Prop :=
  ∀ (port : PortNo) (s : State), s.awake →
    (s.ring.taken = s.out.length →
      (∀ x, (s.port port).sending = some x → (∀ l, x.end16 = some l → s.tb.local16 < l) →
        exec (.egressSelect port) s = .next s) ∧
      (∀ x l, (s.port port).sending = some x → x.q < 8 → x.end16 = some l → l ≤ s.tb.local16 → s.staged = [] →
        s.queuesEmpty port = true →
        Completes (.egressSelect port) s fun t =>
          (t.port port).sending = none ∧ (t.port port).idle16 = l ∧ t.out = s.out ∧
          t.rd64 (Reg.SWC_P_TX_FRAMES_LO port) = s.rd64 (Reg.SWC_P_TX_FRAMES_LO port) + 1 ∧
          t.rd64 (Reg.SWC_P_TX_BYTES_LO port)
            = s.rd64 (Reg.SWC_P_TX_BYTES_LO port) + BitVec.ofNat 64 (x.frame.bytes.length + 4))) ∧
    (∀ (q : Fin 8) (f : QFrame) (fs : List QFrame), (s.port port).sending = none → s.portSends port = true →
      s.guarded port = false → bitOf (s.gates port) q = true →
      (s.queue port q).frames = f :: fs → f.src ≠ 23 →
      (let bs := s.corrected port f.rx16 (s.tb.local16 + s.lineTime port 8) f.bytes
       let leaves := fun (t : State) =>
        t.out = s.out ++ [.ethTx port (withFcs bs f.stomp) f.stomp] ∧
        (t.queue port q).frames = fs ∧ (∀ k : Fin 8, k ≠ q → (t.queue port k).frames = (s.queue port k).frames) ∧
        (∃ x, (t.port port).sending = some x ∧ x.q = q.val ∧ x.frame.fid = f.fid ∧ x.cut = false ∧
          x.start16 = s.tb.local16 ∧ x.end16 = some (s.tb.local16 + s.lineTime port (bs.length + 24)))
       (s.ring.taken = s.out.length →
        (∀ k : Fin 8, s.flag (Reg.SWC_Q_CFG_CBS_EN port k) = false ∧ bitOf (s.gates port) k = true) →
        (q.val = 7 ∨ ((s.queue port 7).frames = [] ∧ (q.val = 6 ∨ ((s.queue port 6).frames = [] ∧
          ∀ k : Fin 8, k.val < 6 → k ≠ q → (s.queue port k).frames = [] ∨
            (s.queue port q).fin < (s.queue port k).fin ∨
            ((s.queue port q).fin = (s.queue port k).fin ∧ k.val < q.val))))) →
        Completes (.egressSelect port) s leaves) ∧
       (s.flag (Reg.SWC_Q_CFG_CBS_EN port q) = true → (∀ k : Fin 8, k ≠ q → (s.queue port k).frames = []) →
        (let credit := (s.queue port q).credit
           + (s.rd (Reg.SWC_Q_IDLESLOPE port q)).toNat * (s.tb.local16 - (s.queue port q).creditAt16 : Nat)
         (0 ≤ credit → Completes (.cbsCreditRecovered port q) s leaves) ∧
         (credit < 0 → Completes (.cbsCreditRecovered port q) s fun t =>
          t.out = s.out ∧ t.ports = s.ports ∧ (t.queue port q).frames = f :: fs))))) ∧
    (∀ (p : PageNo) (mask : Byte), s.takes p Reg.SWC_CMD →
      Completes (.flush p port mask) s fun t =>
        (∀ q : Fin 8, (t.queue port q).frames = if bitOf mask.toNat q then [] else (s.queue port q).frames) ∧
        (t.rd (Reg.SWC_P_FLUSHED port)).toNat = min (2 ^ 32 - 1) ((s.rd (Reg.SWC_P_FLUSHED port)).toNat
          + ((List.range 8).map fun q => if bitOf mask.toNat q then (s.queue port q).frames.length else 0).sum) ∧
        (∀ (p' : PortNo) (q : Fin 8), p' ≠ port → t.queue p' q = s.queue p' q) ∧
        (∀ p' : PortNo, p' ≠ port → t.port p' = s.port p') ∧ (t.port port).sending = (s.port port).sending ∧
        t.out = s.out) ∧
    (let us := if s.fld (Reg.SWC_P_SAMPLE_SAMPLE_US port) = 0 then 100 else s.fld (Reg.SWC_P_SAMPLE_SAMPLE_US port)
     let window := if s.fld (Reg.SWC_P_SAMPLE_WINDOW port) = 0 then 1000 else s.fld (Reg.SWC_P_SAMPLE_WINDOW port)
     (s.tb.local16 < (s.port port).lastSample16 + min 1000 us * 65536000 →
      exec (.queueSample port) s = .next s) ∧
     ((s.port port).lastSample16 + min 1000 us * 65536000 ≤ s.tb.local16 →
      (∀ q : Fin 8, (s.queue port q).samples.length + 1 < window) →
      Completes (.queueSample port) s fun t =>
        (t.port port).lastSample16 = s.tb.local16 ∧
        (∀ q : Fin 8, (t.queue port q).frames = (s.queue port q).frames ∧
          ((t.queue port q).samples.map Prod.fst) = ((s.queue port q).samples.map Prod.fst) ++ [(s.queue port q).depth] ∧
          t.fld (Reg.SWC_Q_LAST_DEPTH_DEPTH port q) = min (s.queue port q).depth 65535))) ∧
    (∀ (m : MacNo) (speed : BitVec 4), port.val = m.val →
      ((s.port m).cut = none →
       (s.flag (Reg.EMC_LINK_UP m) = false → s.laneServes (16 + m) = true → Completes (.ethLink m true speed false) s fun t =>
        t.flag (Reg.EMC_LINK_UP m) = true ∧ t.flag (Reg.SWC_P_STATUS_LINK m) = true ∧
        t.fld (Reg.EMC_LINK_SPEED m) = s.linkSpeed m speed.toNat ∧
        t.fld (Reg.SWC_P_STATUS_SPEED m) = s.linkSpeed m speed.toNat ∧
        t.flag (Reg.EMC_FLAGS_LINK_CHG m) = true ∧
        Posts s t 0x060 m (w32 (s.linkSpeed m speed.toNat * 2 ^ 28 + 2 ^ 27))) ∧
       (s.flag (Reg.EMC_LINK_UP m) = true → Completes (.ethLink m false speed false) s fun t =>
        t.flag (Reg.EMC_LINK_UP m) = false ∧ t.flag (Reg.SWC_P_STATUS_LINK m) = false ∧
        t.fld (Reg.EMC_LINK_SPEED m) = 0 ∧ t.flag (Reg.EMC_FLAGS_LINK_CHG m) = true ∧ Posts s t 0x060 m 0)) ∧
      (s.flag (Reg.EMC_LINK_UP m) = false → Completes (.ethLink m true speed true) s fun t =>
        t.flag (Reg.EMC_FLAGS_HDX_SEEN m) = true ∧ OnlyRegs s t [Reg.EMC_FLAGS m]) ∧
      (s.flag (Reg.EMC_MODE_EEE_EN m) = true → s.flag (Reg.EMC_LINK_UP m) = true →
        s.flag (Reg.SWC_P_STATUS_LPI m) = false → s.queuesEmpty m = true → (s.port m).sending = none →
        (s.port m).idle16 + (if s.fld (Reg.EMC_EEE_IDLE m) = 0 then 100 else s.fld (Reg.EMC_EEE_IDLE m)) * 65536000
          ≤ s.tb.local16 →
        Completes (.lpiEntry m) s fun t =>
          t.flag (Reg.EMC_LINK_LPI_TX m) = true ∧ t.flag (Reg.SWC_P_STATUS_LPI m) = true ∧
          t.rd (Reg.EMC_LPI_CNT m) = s.rd (Reg.EMC_LPI_CNT m) + 1 ∧
          OnlyRegs { s with ports := t.ports } t [Reg.EMC_LINK m, Reg.SWC_P_STATUS m, Reg.EMC_LPI_CNT m]) ∧
      (∀ w, (s.port m).wake16 = some w → w ≤ s.tb.local16 → s.flag (Reg.SWC_P_STATUS_LPI m) = true → s.staged = [] →
        Completes (.lpiWake m) s fun t =>
          t.flag (Reg.SWC_P_STATUS_LPI m) = false ∧
          (t.port m).wake16 = none) ∧
      (∀ on, Completes (.receiveLpi m on) s fun t =>
        t.flag (Reg.EMC_LINK_LPI_RX m) = on ∧ OnlyRegs s t [Reg.EMC_LINK m]))

/-- Sluice lists (R177, R183, R326): ARM sets the takeover of a pending list with TAKE = TIME to the first grid point of
its start and cycle that lies at least 2 µs ahead; at that time, or at the instant at which it is sealed, the list becomes
the active one and starts at entry 0; each next entry of a cycle sets its gates when the one before it ends; STOP leaves
entry 0 and every gate open and no takeover that could still be cancelled. -/
def Obligations.SluiceListsRun : Prop :=
  ∀ (p : PageNo) (port : Fin 22) (s : State),
    (s.takes p (Reg.SWC_P_LIST_CMD port) →
      (s.pendAction port = true → exec (.listArm p port) s = .next s) ∧
      (s.pendAction port = false → (s.port port).list.pending = true →
        Completes (.listArm p port) s fun t =>
          (let due := gridStart (s.pendBase port) (s.pendCycle port) (ceilNs (s.disc16At s.tb.local16))
           (t.port port).list.take
             = some { due := due, late := decide (due ≠ s.pendBase port), words := s.pendWords port }) ∧
          (t.port port).list.active = (s.port port).list.active ∧ { t with ports := s.ports } = s) ∧
      (Completes (.listStop p port) s fun t =>
        (t.port port).list.active = false ∧ (t.port port).list.take = none ∧
        t.fld (Reg.SWC_P_LIST_STATE_GATES port) = 255 ∧
        t.fld (Reg.SWC_P_LIST_STATE_ENTRY port) = 0 ∧ t.flag (Reg.SWC_P_STATUS_LIST_ACTIVE port) = false ∧
        (∀ (p' : PortNo) (q : Fin 8), (t.queue p' q).frames = (s.queue p' q).frames))) ∧
    (∀ (x : Takeover) (own : Bool), s.awake → x.late = false →
      (∃ l, (s.port port).list.sealedTake = some { at16 := l, take := x, own := own } ∧ l ≤ s.tb.local16) ∨
        ((s.port port).list.sealedTake = none ∧ own = true ∧ (s.port port).list.pending = true ∧
          (s.port port).list.take = some x ∧ x.due * 65536 ≤ s.disc16) →
      Completes (.sluiceCycleStart port) s fun t =>
        (t.port port).list.active = true ∧ (t.port port).list.sealedTake = none ∧
        (t.port port).list.pending = ((s.port port).list.pending && !own) ∧ (t.port port).list.entry = 0 ∧
        (t.port port).list.start16 = s.tb.local16 ∧ (t.port port).list.words = x.words ∧
        t.fld (Reg.SWC_P_LIST_STATE_GATES port) = bits (Tbl.get tblDefault x.words 4).toNat 0 8 ∧
        t.fld (Reg.SWC_P_LIST_STATE_ENTRY port) = 0 ∧ t.flag (Reg.SWC_P_STATUS_LIST_ACTIVE port) = true ∧
        t.flag (Reg.SWC_P_STATUS_LIST_PENDING port) = ((s.port port).list.pending && !own) ∧
        t.rd (Reg.SWC_P_LIST_CYCLES port) = s.rd (Reg.SWC_P_LIST_CYCLES port) + 1 ∧
        Posts s t 0x063 port (BitVec.ofInt 32 x.due)) ∧
    (∀ e, s.awake → (s.port port).list.active = true → (s.port port).list.end16 = some e →
      (s.tb.local16 < e → exec (.gateEntryAdvance port) s = .next s) ∧
      (e ≤ s.tb.local16 → (s.port port).list.resume = none → (s.port port).list.entry + 1 < (s.port port).list.count →
        e < (s.port port).list.start16 + (s.port port).list.cycleNs * 65536 →
        Completes (.gateEntryAdvance port) s fun t =>
          (t.port port).list.entry = (s.port port).list.entry + 1 ∧
          t.fld (Reg.SWC_P_LIST_STATE_ENTRY port) = (s.port port).list.entry + 1 ∧
          t.fld (Reg.SWC_P_LIST_STATE_GATES port)
            = (s.port port).list.gatesAt ((s.port port).list.entry + 1) ∧
          t.out = s.out ∧ t.eqs = s.eqs))

/-! ## The ring -/

/-- The Avzin ring (R317, R333, R337, R342 to R353): links come up and down with ETH_LINK, the first one up starting the
quiet time, and a link that goes down empties its queues; a received frame is untagged, of class 3, this node's own, past
the hop limit, or judged by its source's window: a first copy counts in ACCEPTED, a duplicate in DUP_DISCARD, and each goes
on to the other port, cut-through where R320 allows it; windows age; the quiet time ends in OPEN; a PERIODIC frame takes
the next sequence number; RESUME ends the stop of R350; the grandmaster sends Sync on both ports, and a chain without Sync
is lost. -/
def Obligations.RingFramesCircle : Prop :=
  ∀ (k : Fin 2) (s : State), s.awake →
    (s.ringUp k = false → s.ringOn = true → s.laneServes (12 + k) = true →
      Completes (.ringLinkUp k) s fun t =>
        (let speed := if s.flag Reg.RNG_CFG_RATE25 then 6 else 5
         t.ringUp k = true ∧ t.flag (Reg.SWC_P_STATUS_LINK (20 + k)) = true ∧
         t.fld (Reg.SWC_P_STATUS_SPEED (20 + k)) = speed ∧
         t.ring.quiet16 = some (s.ring.quiet16.getD (s.tb.local16 + 20000 * 65536000)) ∧
         Posts s t 0x060 (20 + k) (w32 (speed * 2 ^ 28 + 2 ^ 27)) ∧
         { t with regs := s.regs, ring := s.ring, eqs := s.eqs, out := s.out } = s)) ∧
    (s.ringUp k = true → exec (.ringLinkUp k) s = .next s) ∧
    (s.ringUp k = false → exec (.ringLinkDown k) s = .next s) ∧
    (s.ringUp k = true →
      Completes (.ringLinkDown k) s fun t =>
        t.ringUp k = false ∧ (∀ q : Fin 8, (t.queue (20 + k) q).frames = []) ∧ t.ring.chains.getD k none = none) ∧
    (∀ f : EthFrame, s.ringOn = true → s.ringUp k = true → s.flag Reg.SWC_BSTAT_RUN = true → s.staged = [] →
      (s.port (20 + k)).cut = none → s.panUse s.nextId = {} →
      64 ≤ f.bytes.length + 4 → f.bytes.length + 4 ≤ s.maxFrame (20 + k) f.bytes → isGptp f.bytes = false →
      (Completes (.ringFrameReceived k f false) s fun t =>
        t.rd (Reg.SWC_P_FCS_ERR (20 + k)) = satInc (s.rd (Reg.SWC_P_FCS_ERR (20 + k))) ∧
        OnlyRegs s t [Reg.SWC_P_FCS_ERR (20 + k)]) ∧
      (be16At f.bytes 12 ≠ s.ringEtype → Completes (.ringFrameReceived k f true) s fun t =>
        t.rd (Reg.RNG_P_UNTAGGED k) = satInc (s.rd (Reg.RNG_P_UNTAGGED k)) ∧ t.queues = s.queues ∧
        { t with regs := s.regs } = s) ∧
      (be16At f.bytes 12 = s.ringEtype → pansOf f.bytes ≤ s.freePans →
        (let w := tagWord f.bytes
         let src := bits w 26 6
         let goesNowhere := fun (t : State) => t.freePans = s.freePans ∧ (∀ e : PortNo, t.port e = s.port e) ∧
          { t with regs := s.regs, nextId := s.nextId, saltern := s.saltern, ports := s.ports } = s
         (bits w 22 2 = 3 → Completes (.ringFrameReceived k f true) s fun t =>
          t.rd (Reg.RNG_P_BAD_TAG k) = satInc (s.rd (Reg.RNG_P_BAD_TAG k)) ∧ goesNowhere t) ∧
         (bits w 22 2 < 2 → src = s.node → Completes (.ringFrameReceived k f true) s fun t =>
          t.rd64 (Reg.RNG_P_OWN_REMOVED_LO k) = s.rd64 (Reg.RNG_P_OWN_REMOVED_LO k) + 1 ∧ goesNowhere t) ∧
         (bits w 22 2 < 2 → src ≠ s.node →
          (if s.fld Reg.RNG_CFG_MAX_HOPS = 0 then 63 else s.fld Reg.RNG_CFG_MAX_HOPS) ≤ bits w 16 6 →
          Completes (.ringFrameReceived k f true) s fun t =>
            t.rd (Reg.RNG_P_HOP_DROP k) = satInc (s.rd (Reg.RNG_P_HOP_DROP k)) ∧ goesNowhere t) ∧
         (bits w 22 2 = 1 → f.bytes.take 6 ≠ s.mgmtMac → src ≠ s.node →
          bits w 16 6 < (if s.fld Reg.RNG_CFG_MAX_HOPS = 0 then 63 else s.fld Reg.RNG_CFG_MAX_HOPS) →
          s.ringUp (1 - k.val) = false →
          ((s.ringWin src).active = false → Completes (.ringFrameReceived k f true) s fun t =>
            (t.ringWin src).active = true ∧ (t.ringWin src).hi = bits w 0 16 ∧
            t.rd64 (Reg.RNG_P_ACCEPTED_LO k) = s.rd64 (Reg.RNG_P_ACCEPTED_LO k) + 1 ∧
            t.rd (Reg.RNG_P_NOLINK (1 - k.val)) = satInc (s.rd (Reg.RNG_P_NOLINK (1 - k.val))) ∧
            t.queues = s.queues) ∧
          ((s.ringWin src).active = true → (s.ringWin src).hi = bits w 0 16 → bitOf (s.ringWin src).seen 0 = true →
            Completes (.ringFrameReceived k f true) s fun t =>
              t.ringWins = s.ringWins ∧
              t.rd64 (Reg.RNG_P_DUP_DISCARD_LO k) = s.rd64 (Reg.RNG_P_DUP_DISCARD_LO k) + 1 ∧
              t.rd (Reg.RNG_P_NOLINK (1 - k.val)) = satInc (s.rd (Reg.RNG_P_NOLINK (1 - k.val))) ∧
              t.queues = s.queues)))) ∧
      ((∀ (e : PortNo) x l, (s.port e).sending = some x → x.end16 = some l → s.tb.local16 < l) → 1 ≤ s.freePans →
        be16At f.bytes 12 = s.ringEtype → bits (tagWord f.bytes) 22 2 ≠ 3 → bits (tagWord f.bytes) 26 6 ≠ s.node →
        bits (tagWord f.bytes) 16 6 < s.maxHops →
        (let e := 21 - k.val
         let q := s.transitQueue k f.bytes
         s.cutEligible (20 + k) e = true → bitOf (s.gates e) q = true → s.fitsCut (20 + k) e q = true →
         Completes (.forwardingDecision (Fin.ofNat 24 (20 + k.val)) f) s fun t =>
          (∃ x, (t.port e).sending = some x ∧ x.cut = true ∧ x.start16 = s.tb.local16 ∧ x.end16 = none ∧
            tagWord x.frame.bytes = (tagWord f.bytes + 2 ^ 16) % 2 ^ 32) ∧
          t.freePans = s.freePans - 1 ∧ t.ringWins = s.ringWins ∧ t.out = s.out))) ∧
    (∀ src : Fin 64, (s.ringWin src).active = true →
      (let ms := min 20 (if s.fld Reg.RNG_TIMERS_AGE_MS = 0 then 10 else s.fld Reg.RNG_TIMERS_AGE_MS)
       ((s.ringWin src).last16 + ms * 1000 * 65536000 ≤ s.tb.local16 →
        Completes (.windowAge src) s fun t => (t.ringWin src).active = false ∧ { t with ringWins := s.ringWins } = s) ∧
       (s.tb.local16 < (s.ringWin src).last16 + ms * 1000 * 65536000 →
        exec (.windowAge src) s = .next s))) ∧
    (∀ q, s.ring.quiet16 = some q → s.ring.quietOver = false → q ≤ s.tb.local16 →
      Completes .quietTimeEnd s fun t =>
        t.ring.quietOver = true ∧ t.fld Reg.RNG_STATE_RING = 1 ∧
        (s.fld Reg.RNG_STATE_RING ≠ 1 → t.flag Reg.RNG_FLAGS_RING_OPENED = true)) ∧
    (s.mayOriginate = true → s.ring.periodic = none → 1 ≤ s.freePans → s.ring.seq < 65536 →
      Completes .periodic s fun t =>
        t.ring.seq = (s.ring.seq + 1) % 65536 ∧ t.ring.periodic = some (s.ring.seq, s.tb.local16) ∧
        t.ring.returned = [none, none]) ∧
    (s.mayOriginate = true → s.flag Reg.HLT_STATUS_REPLACE = true → s.ring.announce16 = 0 → 1 ≤ s.freePans →
      Completes .announce s fun t =>
        t.ring.seq = (s.ring.seq + 1) % 65536 ∧ t.ring.announce16 = s.tb.local16) ∧
    (∀ p : PageNo, s.takes p Reg.RNG_CMD →
      exec (.resume p) s = .next { s with ring := { s.ring with stopped := false } }) ∧
    (s.rtOn = true → s.flag Reg.RNG_STATE_GM_SELF = true → s.ring.lastSync16 + 125 * 65536000 ≤ s.tb.local16 →
      Completes .ringSyncSend s fun t =>
        (let sync := fun (k : Nat) => if s.ringUp k then
            [Emit.mgmtFrame (20 + k) (ptpFrame s.mgmtMac (State.portIdent (20 + k)) (s.fld Reg.TMB_GPTP_CTRL_DOMAIN)
              { type := ptpSync, domain := 0, corr16 := 0, steps := 0, src := [], seq := (s.gport (20 + k)).syncSeq
                body := List.replicate 10 0#8 })]
          else []
         t.out = s.out ++ sync 0 ++ sync 1) ∧
        (∀ k : Fin 2, s.ringUp k = true → (t.gport (20 + k)).syncSeq = ((s.gport (20 + k)).syncSeq + 1) % 65536) ∧
        t.ring.lastSync16 = s.tb.local16 ∧ { t with out := s.out, ring := s.ring, tb := s.tb } = s) ∧
    (∀ c, s.rtOn = true → s.flag Reg.RNG_STATE_GM_SELF = false → s.ring.chains.getD (s.rtPrimary) none = some c →
      c.last16 + 375 * 65536000 ≤ s.tb.local16 →
      Completes .syncTimeout s fun t =>
        t.ring.chains.getD (s.rtPrimary) none = none ∧
        (s.chainLive (1 - s.rtPrimary) = true → t.rtPrimary = 1 - s.rtPrimary ∧ t.flag Reg.RNG_FLAGS_RT_SWITCHED = true))

/-! ## Hosts and their pages -/

/-- Reads over PCIe (R9, R12, R48, R118, R247, R284, R332, R335, R361, R379, R381): a permitted read of a register returns
what it shows, clears its RC fields, and copies the high word of a 64-bit value; a peak or a least value since the last
read starts again at what it measures now; a forbidden one returns zero and sets DENIED, one of a reserved range HOLE, each
with GEN_ACCESS_LAST; a read of a pop register returns the oldest entry and takes it away; a read of the pinned view returns
the cell of the page's pinned epoch. Nothing else is changed. -/
def Obligations.ReadsAreAnswered : Prop :=
  ∀ (p : PageNo) (s : State), s.mayRead p →
    (∀ (addr : BitVec 26) (c : Instr), c = .rcRead p addr ∨ c = .lowWordRead p addr →
      (∀ a, s.target p addr.toNat = .reg a → isPop a = false →
        (0x200000 ≤ a → a < 0x400000 → isRc a = true → s.mayUnit p ((a - 0x200000) / 0x2000) = true) →
        Completes c s fun t =>
          t.out = s.out ++ [.readData p addr.toNat [if isPair a = false ∧ 4 ≤ a ∧ isPair (a - 4) = true
            then s.highWord p (a - 4) (s.peek a) else s.peek a]] ∧
          (isPair a = true → t.holding p = { src := some a, hi := s.peek (a + 4) }) ∧
          (a ≠ Reg.CPH_HOLD ∧ a ≠ Reg.SWC_PANS ∧ (∀ n : CanNo, a ≠ Reg.CFD_RXQ_STATE n) ∧
              (∀ n : LaneNo, a ≠ Reg.SLN_RX_DEPTH n) ∧ (∀ q : PageNo, a ≠ Reg.PG_OUTSTANDING q) ∧
              (∀ (q : PageNo) (k : Fin 4), a ≠ Reg.EQ_PEAK q k) →
            ∀ r, regAt a = some r → t.rd a = s.rd a &&& ~~~(BitVec.ofNat 32 r.rc)) ∧
          (a = Reg.SWC_PANS → t.fld Reg.SWC_PANS_MIN_FREE = s.freePans ∧ t.freePans = s.freePans) ∧
          (∀ n : CanNo, a = Reg.CFD_RXQ_STATE n →
            t.fld (Reg.CFD_RXQ_STATE_PEAK n) = (s.canU n).rxq.length % 2 ^ 8) ∧
          (∀ (q : PageNo) (k : Fin 4), a = Reg.EQ_PEAK q k →
            t.fld (Reg.EQ_PEAK_PEAK q k) = (s.eq q k).entries.length % 2 ^ 11) ∧
          OnlyRegs { s with out := t.out, hold := t.hold } t [a, Reg.PG_OUTSTANDING p]) ∧
      (s.target p addr.toNat = .barred →
        Completes c s fun t =>
          t.out = s.out ++ [.readData p addr.toNat [0]] ∧ t.flag ⟨Reg.GEN_ACCESS_ERR, p, 1⟩ = true ∧
          t.rd Reg.GEN_ACCESS_LAST = w32 (p * 2 ^ 29 + addr.toNat) ∧
          OnlyRegs { s with out := t.out } t [Reg.GEN_ACCESS_ERR, Reg.GEN_ACCESS_LAST, Reg.PG_OUTSTANDING p]) ∧
      (s.target p addr.toNat = .reserved →
        Completes c s fun t =>
          t.out = s.out ++ [.readData p addr.toNat [0]] ∧ t.flag ⟨Reg.GEN_ACCESS_ERR, 8 + p, 1⟩ = true ∧
          t.rd Reg.GEN_ACCESS_LAST = w32 (p * 2 ^ 29 + addr.toNat) ∧
          OnlyRegs { s with out := t.out } t [Reg.GEN_ACCESS_ERR, Reg.GEN_ACCESS_LAST, Reg.PG_OUTSTANDING p])) ∧
    (∀ q : Fin 4,
      ((s.eq p q).entries = [] → Completes (.eqPop p q) s fun t =>
        t.out = s.out ++ [.readData p (0x100 + 0x20 * q) [0]] ∧ t.eqs = s.eqs ∧ t.rd (Reg.EQ_POP_HI p q) = 0) ∧
      (∀ e es, (s.eq p q).entries = e :: es → Completes (.eqPop p q) s fun t =>
        t.out = s.out ++ [.readData p (0x100 + 0x20 * q) [loWord e]] ∧ (t.eq p q).entries = es ∧
        t.rd (Reg.EQ_POP_HI p q) = hiWord e ∧
        (∀ (p' : PageNo) (q' : Fin 4), ¬(p' = p ∧ q' = q) → t.eq p' q' = s.eq p' q') ∧
        RegsBut s t [Reg.EQ_POP_HI p q, Reg.EQ_PEAK p q, Reg.PG_OUTSTANDING p])) ∧
    (∀ (port : PortNo) e es, (s.port port).stamps = e :: es → Completes (.tsPop p port) s fun t =>
      t.out = s.out ++ [.readData p (Reg.SWC_P_TS_POP port) [e.word]] ∧ (t.port port).stamps = es ∧
      t.rd64 (Reg.SWC_P_TS_LO port) = e.time ∧
      RegsBut s t [Reg.SWC_P_TS_LO port, Reg.SWC_P_TS_HI port, Reg.PG_OUTSTANDING p]) ∧
    (∀ (n : CanNo) e es, s.mayUnit p (Reg.canUnit n) = true → (s.canU n).rxq = e :: es →
      Completes (.rxPop p n) s fun t =>
        t.out = s.out ++ [.readData p (Reg.canBase n + 0x184) [e.getD 0 0]] ∧ (t.canU n).rxq = es ∧
        (∀ j : Fin 20, t.rd (Reg.CFD_RX_BUF n j) = e.getD j 0) ∧ t.sig = s.sig) ∧
    (∀ (n : LaneNo) w ws, s.mayUnit p (Reg.laneUnit n) = true → s.laneDepth n ≠ 0 → (s.lane n).rx = w :: ws →
      Completes (.slnRxPop p n) s fun t =>
        t.out = s.out ++ [.readData p (Reg.laneBase n + 0x100) [w]] ∧ (t.lane n).rx = ws ∧
        (t.lane n).tx = (s.lane n).tx ∧ t.sig = s.sig) ∧
    (∀ cell : Fin 131072,
      (s.flag (Reg.PSG_PIN_STATUS_PINNED p) = true → Completes (.pinnedRead p cell) s fun t =>
        (let r := s.readAt cell (s.rd (Reg.PSG_PIN_EPOCH p))
         t.out = s.out ++ [.readData p (0x500000 + 8 * cell) [loWord r.1, hiWord r.1]] ∧
         (r.2 = true → t.flag (Reg.PSG_PIN_STATUS_EPOCH_LOST p) = true)) ∧
        OnlyRegs { s with out := t.out } t [Reg.PSG_PIN_STATUS p, Reg.PG_OUTSTANDING p]) ∧
      (s.flag (Reg.PSG_PIN_STATUS_PINNED p) = false → Completes (.pinnedRead p cell) s fun t =>
        t.out = s.out ++ [.readData p (0x500000 + 8 * cell) [0, 0]] ∧
        t.flag (Reg.PSG_PIN_STATUS_NO_PIN_READ p) = true ∧
        OnlyRegs { s with out := t.out } t [Reg.PSG_PIN_STATUS p, Reg.PG_OUTSTANDING p]))

/-- Writes (R12, R16, R17, R46, R48, R88): a word of PG_SCRATCH takes what is written; a write-1-to-clear flag is cleared by a 1; class F fields of a block that
runs keep their value and set WRITE_REFUSED; a class B field waits for its boundary; a forbidden write sets DENIED, one to
a reserved range HOLE, each with GEN_ACCESS_LAST, and changes nothing else. -/
def Obligations.WritesFollowTheirAccessCode : Prop :=
  ∀ (p : PageNo) (addr : BitVec 26) (v : Word) (s : State), s.settled →
    (∀ i : Fin 8, s.takes p (Reg.PG_SCRATCH p i) → addr.toNat = 0x40 + 4 * i →
      exec (.registerWrite p addr v) s = .next (s.wr (Reg.PG_SCRATCH p i) v)) ∧
    (s.takes p Reg.RNG_FLAGS → addr.toNat = Reg.RNG_FLAGS →
      exec (.registerWrite p addr v) s = .next (s.wr Reg.RNG_FLAGS (s.rd Reg.RNG_FLAGS &&& ~~~(v &&& 0x3F#32)))) ∧
    (s.takes p Reg.RNG_CFG → addr.toNat = Reg.RNG_CFG →
      (s.flag Reg.RNG_BSTAT_RUN = true → Completes (.registerWrite p addr v) s fun t =>
        t.rd Reg.RNG_CFG = (s.rd Reg.RNG_CFG &&& 0xFFFFC0FF#32) ||| (v &&& 0x3F00#32) ∧
        t.flag Reg.RNG_BSTAT_WRITE_REFUSED = true ∧ OnlyRegs s t [Reg.RNG_CFG, Reg.RNG_BSTAT]) ∧
      (s.flag Reg.RNG_BSTAT_RUN = false → Completes (.registerWrite p addr v) s fun t =>
        t.rd Reg.RNG_CFG = (s.rd Reg.RNG_CFG &&& 0x403F#32) ||| (v &&& 0xFFFFBFC0#32) ∧
        OnlyRegs s t [Reg.RNG_CFG])) ∧
    (s.takes p Reg.SIG_PERIOD → addr.toNat = Reg.SIG_PERIOD →
      (s.flag Reg.SIG_BSTAT_RUN = true → exec (.registerWrite p addr v) s = .next { s with
        staged := (s.staged.filter fun x => x.addr != Reg.SIG_PERIOD)
          ++ [{ addr := Reg.SIG_PERIOD, mask := 0xFFFFF, value := v, bound := .epoch }] }) ∧
      (s.flag Reg.SIG_BSTAT_RUN = false → Completes (.registerWrite p addr v) s fun t =>
        t.rd Reg.SIG_PERIOD = (s.rd Reg.SIG_PERIOD &&& 0xFFF00000#32) ||| (v &&& 0xFFFFF#32) ∧
        OnlyRegs s t [Reg.SIG_PERIOD])) ∧
    (∀ a, s.awake → (s.target p addr.toNat = .reg a ∧ s.mayWrite p a = false) ∨ s.target p addr.toNat = .barred →
      Completes (.registerWrite p addr v) s fun t =>
        t.flag ⟨Reg.GEN_ACCESS_ERR, p, 1⟩ = true ∧
        t.rd Reg.GEN_ACCESS_LAST = w32 (p * 2 ^ 29 + 2 ^ 28 + addr.toNat) ∧
        OnlyRegs s t [Reg.GEN_ACCESS_ERR, Reg.GEN_ACCESS_LAST]) ∧
    (s.awake → s.target p addr.toNat = .reserved →
      Completes (.registerWrite p addr v) s fun t =>
        t.flag ⟨Reg.GEN_ACCESS_ERR, 8 + p, 1⟩ = true ∧
        t.rd Reg.GEN_ACCESS_LAST = w32 (p * 2 ^ 29 + 2 ^ 28 + addr.toNat) ∧
        OnlyRegs s t [Reg.GEN_ACCESS_ERR, Reg.GEN_ACCESS_LAST])

/-- Page access frames and AtomicOps (R366 to R371), on a word of PG_SCRATCH: READ, FETCH_ADD, SWAP and CAS answer the word as it was, WRITE answers nothing, WRITE_ACK
answers OK, PROBE answers PG_PATH and PG_PATH_STATUS; the word becomes what the operation makes of it; with no
slot free the answer is BUSY, for a wrong version BAD_FRAME, and nothing is executed. -/
def Obligations.FramesAndAtomicOps : Prop :=
  ∀ (x : Fin 8) (f : PageFrame) (i : Fin 8) (s : State),
    (s.serves f.page x → f.ver = 1#4 → f.addr.toNat = 0x40 + 4 * i →
      (let a := Reg.PG_SCRATCH f.page i
       let old := s.rd a
       let answers := fun (t : State) (status : Nat) (data : List Byte) =>
        t.out = s.out ++ [.paResp f.page x f.op.toNat status f.tag.toNat f.addr.toNat data f.src]
       (s.opRoom f.page = true →
        (f.op = 1#4 → f.len = 4 → Completes (.read x f) s fun t =>
          answers t 0 (leBytes 4 old.toNat) ∧ RegsBut s t [Reg.PG_OUTSTANDING f.page]) ∧
        (f.op = 3#4 → f.len = 4 → f.data.length = 4 → Completes (.writeAck x f) s fun t =>
          answers t 0 [] ∧ t.rd a = w32 (leNat f.data) ∧ RegsBut s t [a, Reg.PG_OUTSTANDING f.page] ∧ SameBytes s t) ∧
        (f.op = 4#4 → f.len = 4 → f.data.length = 4 → Completes (.fetchAdd x f) s fun t =>
          answers t 0 (leBytes 4 old.toNat) ∧ t.rd a = old + w32 (leNat f.data) ∧
          RegsBut s t [a, Reg.PG_OUTSTANDING f.page]) ∧
        (f.op = 5#4 → f.len = 4 → f.data.length = 4 → Completes (.swap x f) s fun t =>
          answers t 0 (leBytes 4 old.toNat) ∧ t.rd a = w32 (leNat f.data) ∧
          RegsBut s t [a, Reg.PG_OUTSTANDING f.page]) ∧
        (f.op = 6#4 → f.len = 8 → f.data.length = 8 → Completes (.cas x f) s fun t =>
          answers t 0 (leBytes 4 old.toNat) ∧
          t.rd a = (if old = w32 (leNat (f.data.take 4)) then w32 (leNat (f.data.drop 4)) else old) ∧
          RegsBut s t [a, Reg.PG_OUTSTANDING f.page]) ∧
        (f.op = 10#4 → f.len = 0 → Completes (.probe x f) s fun t =>
          answers t 0 (leBytes 4 (s.peek (Reg.PG_PATH f.page)).toNat
            ++ leBytes 4 (s.peek (Reg.PG_PATH_STATUS f.page)).toNat) ∧
          RegsBut s t [Reg.PG_OUTSTANDING f.page])) ∧
       (f.op = 2#4 → f.len = 4 → f.data.length = 4 → Completes (.write x f) s fun t =>
        t.out = s.out ∧ t.rd a = w32 (leNat f.data) ∧ RegsBut s t [a] ∧ SameBytes s t) ∧
       (s.opRoom f.page = false → f.op = 1#4 → f.len = 4 → Completes (.read x f) s fun t =>
        answers t 1 [] ∧ t.rd (Reg.PG_BUSY_CNT f.page) = satInc (s.rd (Reg.PG_BUSY_CNT f.page)) ∧
        RegsBut s t [Reg.PG_BUSY_CNT f.page]))) ∧
    (s.serves f.page x → f.ver ≠ 1#4 → f.op = 1#4 → Completes (.read x f) s fun t =>
      t.out = s.out ++ [.paResp f.page x 1 3 f.tag.toNat f.addr.toNat [] f.src] ∧ t.regs = s.regs) ∧
    (∀ (p : PageNo) (addr : BitVec 26) (k : AtomicKind) (operand compare : DWord), s.mayRead p →
      s.flag Reg.HLT_RESET_CAUSE_OPT_FAIL = false → x.val = 1 ∨ x.val = 2 → s.named p x = true →
      addr.toNat = 0x40 + 4 * i →
      (let a := Reg.PG_SCRATCH p i
       let old := s.rd a
       Completes (.pcieAtomicop p x addr k .w32 operand compare) s (fun t =>
        t.out = s.out ++ [.readData p addr.toNat [old]] ∧
        t.rd a = (match k with
          | .fetchAdd => old + loWord operand
          | .swap => loWord operand
          | .cas => if old = loWord compare then loWord operand else old) ∧
        RegsBut s t [a, Reg.PG_OUTSTANDING p]) ∧
       exec (.pcieAtomicop p x addr k .w128 operand compare) s = .next { s with out := s.out ++ [.unsupported p x] }))

/-- Paths of a page (R362, R372 to R375, R382): a path that fails is shown down; if it was the active one, the other takes its place if it
is up, and is counted as a switch, or else the page has no path; a path without frames for HB_MS fails; a path that comes
up is taken if the page has none; PATH_SEL selects a path that is up once nothing is outstanding, and is
refused otherwise; a flush empties one event queue. -/
def Obligations.PathsFailOver : Prop :=
  ∀ (p : PageNo) (x : Fin 8) (s : State),
    (s.awake → s.settled → s.named p x = true → s.pathIsUp p x = true →
      ∀ c : Instr, c = .pathFail p x ∨ (c = .heartbeatExpiry p x ∧ 3 ≤ x.val ∧ s.fld (Reg.PG_HB_HB_MS p) ≠ 0 ∧
          Tbl.get (fun _ => 0) (s.page p).lastHeard x + s.fld (Reg.PG_HB_HB_MS p) * 1000 * 65536000 ≤ s.tb.local16) →
        (∀ y : Fin 8, s.activePath p = x → y ≠ x → s.pathIsUp p y = true → Completes c s fun t =>
          t.pathIsUp p x = false ∧ t.activePath p = y ∧ t.flag (Reg.PG_PATH_STATUS_SWITCHED p) = true ∧
          t.rd (Reg.PG_SWITCH_CNT p) = satInc (s.rd (Reg.PG_SWITCH_CNT p)) ∧
          (∀ o ∈ (t.page p).outstanding, o.path ≠ x)) ∧
        (s.activePath p = x → (∀ y : Fin 8, y ≠ x → s.pathIsUp p y = false) → Completes c s fun t =>
          t.pathIsUp p x = false ∧ t.activePath p = 0 ∧ t.flag (Reg.PG_PATH_STATUS_NO_PATH p) = true) ∧
        (s.activePath p ≠ x → Completes c s fun t =>
          t.pathIsUp p x = false ∧ t.activePath p = s.activePath p ∧
          t.rd (Reg.PG_SWITCH_CNT p) = s.rd (Reg.PG_SWITCH_CNT p))) ∧
    (s.awake → s.settled → s.fld (Reg.PG_HB_HB_MS p) = 0 → exec (.heartbeatExpiry p x) s = .next s) ∧
    (s.awake → s.settled → s.named p x = true → s.pathIsUp p x = false → x.val ≠ 3 → s.dev.perst = 0 →
      (s.page p).took16 = none →
      Completes (.pathUp p x) s fun t =>
        t.pathIsUp p x = true ∧ t.activePath p = (if s.activePath p = 0 then x.val else s.activePath p)) ∧
    (s.takes p (Reg.PG_CMD p) →
      (s.named p x = true → s.pathIsUp p x = true → s.activePath p ≠ x →
        ((∀ o ∈ (s.page p).outstanding, o.path ≠ s.activePath p) → Completes (.pathSel p x) s fun t =>
          t.activePath p = x ∧ t.rd (Reg.PG_SWITCH_CNT p) = s.rd (Reg.PG_SWITCH_CNT p)) ∧
        ((∃ o ∈ (s.page p).outstanding, o.path = s.activePath p) → Completes (.pathSel p x) s fun t =>
          (t.page p).selected = some x.val ∧ { t with pages := s.pages } = s)) ∧
      (s.named p x = false ∨ s.pathIsUp p x = false → Completes (.pathSel p x) s fun t =>
        t.flag (Reg.PG_PATH_STATUS_PATH_REFUSED p) = true ∧ OnlyRegs s t [Reg.PG_PATH_STATUS p])) ∧
    (∀ q : Fin 4, s.takes p (Reg.EQ_CMD p q) → Completes (.eqFlush p q) s fun t =>
      (t.eq p q).entries = [] ∧ (∀ (p' : PageNo) (q' : Fin 4), ¬(p' = p ∧ q' = q) → t.eq p' q' = s.eq p' q') ∧
      { t with eqs := s.eqs } = s)

/-- Event queues (R378, R380, R381): an event without a routing entry goes to queue 0 of the owner page, one with an entry to the queue that the entry names of each page in
its mask, and to no other; an entry joins the end of its queue, or, in a full queue of 1,024, takes the
place of the oldest one, with GAP in the next and LOST counted; POSTED counts each; a depth that rises above LEVEL sets
LEVEL_HIT. -/
def Obligations.EventsEnterTheQueues : Prop :=
  ∀ (code src : Nat) (data : Word) (s : State), code < 1024 →
    (let t := s.postEvent code src data
     let e := eventEntry code src data
     let put := fun (p q : Nat) =>
      (t.eq p q).entries = (if (s.eq p q).entries.length < 1024 then (s.eq p q).entries ++ [e]
        else markGap (s.eq p q).entries.tail ++ [e]) ∧
      t.rd (Reg.EQ_POSTED p q) = s.rd (Reg.EQ_POSTED p q) + 1 ∧
      t.rd (Reg.EQ_LOST p q) = (if (s.eq p q).entries.length < 1024 then s.rd (Reg.EQ_LOST p q)
        else satInc (s.rd (Reg.EQ_LOST p q))) ∧
      ((s.eq p q).entries.length ≤ s.fld (Reg.EQ_CTRL_LEVEL p q) →
        s.fld (Reg.EQ_CTRL_LEVEL p q) < (t.eq p q).entries.length → t.flag (Reg.EQ_STATE_LEVEL_HIT p q) = true)
     let w := s.tw 0x0D devScope code 0
     (bitOf w 24 = false → code ≠ 0x010 →
      put s.owner 0 ∧ ∀ (p : PageNo) (q : Fin 4), ¬(p.val = s.owner ∧ q = 0) → t.eq p q = s.eq p q) ∧
     (bitOf w 24 = false → code = 0x010 → t.eqs = s.eqs) ∧
     (bitOf w 24 = true → ∀ p : PageNo,
      (bitOf w p = true → put p (bits w (8 + 2 * p) 2)) ∧
      (∀ q : Fin 4, ¬(bitOf w p = true ∧ q.val = bits w (8 + 2 * p) 2) → t.eq p q = s.eq p q)) ∧
     { t with regs := s.regs, eqs := s.eqs, out := s.out } = s)

/-! ## The local bus bridge -/

/-- Outbound accesses (R384 to R391): a write or a read of an open window waits for the far bus; at the grant its cycle starts with
the byte lanes of the window's order; at its end a read is answered and the bus released; one that waits for WAIT_TMO ends
with TIMEOUT_SEEN and an event; a backoff ends in a new request. GO makes one locked sequence. A prefetch line
that is too old is discarded, and counted if a word of it was never returned. -/
def Obligations.OutboundAccessesRun : Prop :=
  ∀ (p : PageNo) (off : BitVec 24) (be : BitVec 4) (data : Word) (w : Fin 16) (s : State),
    (s.awake → s.settled → s.target p (0x1000000 + off.toNat) = .bridge off.toNat →
      (s.windowMay p (off.toNat / 2 ^ 20) = false → Completes (.bridgeWrite p off be data) s fun t =>
        t.flag ⟨Reg.GEN_ACCESS_ERR, p, 1⟩ = true ∧ t.bridge = s.bridge ∧
        OnlyRegs s t [Reg.GEN_ACCESS_ERR, Reg.GEN_ACCESS_LAST]) ∧
      (s.windowMay p (off.toNat / 2 ^ 20) = true → s.bridge.cur = none → s.bridge.accs = [] →
        s.line (off.toNat / 2 ^ 20 % 16) = none →
        (Completes (.bridgeWrite p off be data) s fun t =>
          t.bridge.cur = some { s.farAcc p .write off.toNat with be := be.toNat, data := data } ∧
          t.bridge.phase = .requesting ∧ t.bridge.req16 = s.tb.local16 ∧ { t with bridge := s.bridge } = s) ∧
        (s.opRoom p = true → Completes (.bridgeRead p off be) s fun t =>
          t.bridge.cur = some { s.farAcc p .read off.toNat with be := be.toNat, op := some s.nextId } ∧
          t.bridge.phase = .requesting ∧ (t.page p).outstanding.length = (s.page p).outstanding.length + 1 ∧
          t.out = s.out))) ∧
    (∀ a, s.awake → s.bridge.cur = some a → s.bridge.phase = .requesting →
      (Completes .busGrant s fun t =>
        t.bridge = { s.bridge with phase := .owned } ∧ t.flag Reg.LBB_STATUS_BUS_OWNED = true ∧
        (a.kind = .write → t.out = s.out
          ++ [.farCycle true a.far (farBe a.order a.be) (farWord a.order a.data) false a.timing]) ∧
        (a.kind = .read → a.prefetch = false → t.out = s.out
          ++ [.farCycle false a.far (farBe a.order a.be) 0 false a.timing]) ∧
        (a.kind = .lrmw → t.out = s.out ++ [.farCycle false a.far 15 0 true a.timing])) ∧
      (s.settled → s.bridge.accs = [] → s.bridge.req16 + s.waitTmo16 ≤ s.tb.local16 →
        Completes .waitTmo s fun t =>
          t.rd Reg.LBB_TMO_CNT = satInc (s.rd Reg.LBB_TMO_CNT) ∧ t.flag Reg.LBB_STATUS_TIMEOUT_SEEN = true ∧
          t.bridge.cur = none ∧ t.bridge.phase = .idle ∧ Posts s t 0x093 a.win (w32 a.far))) ∧
    (∀ a, s.awake → s.settled → s.bridge.cur = some a → s.bridge.phase = .owned → s.bridge.accs = [] →
      (a.kind = .write → Completes (.farCycleEnd []) s fun t =>
        t.bridge.cur = none ∧ t.bridge.phase = .idle ∧ t.flag Reg.LBB_STATUS_BUS_OWNED = false ∧ t.out = s.out) ∧
      (∀ (v : Word) (o : HostOp) (q : PageNo), a.kind = .read → a.prefetch = false → a.page = q.val →
        a.op = some o.id → a.slot = 0 → (s.page q).outstanding = [o] → o.left = 1 → o.data = [0] → o.frame = none →
        Completes (.farCycleEnd [v]) s fun t =>
          t.out = s.out ++ [.readData q o.addr [farWord a.order v]] ∧ (t.page q).outstanding = [] ∧
          t.bridge.cur = none ∧ t.flag Reg.LBB_STATUS_BUS_OWNED = false) ∧
      (∀ v : Word, a.kind = .lrmw → Completes (.farCycleEnd [v]) s fun t =>
        (let x := farWord a.order v
         t.rd (Reg.PG_LRMW_OLD a.page) = x ∧
         t.out = s.out ++ [.farCycle true a.far 15
          (farWord a.order ((x &&& ~~~(loWord a.compare)) ||| (loWord a.operand &&& loWord a.compare))) true a.timing]) ∧
        t.flag (Reg.PG_LRMW_STATUS_DONE a.page) = true ∧ t.flag (Reg.PG_LRMW_STATUS_BUSY a.page) = false)) ∧
    (s.takes p (Reg.PG_LRMW_CMD p) → s.flag (Reg.PG_LRMW_STATUS_BUSY p) = false →
      (let o := 4 * s.fld (Reg.PG_LRMW_ADDR_ADDR p)
       let win := o / 2 ^ 20 % 16
       (s.windowMay p win = true → s.flag (Reg.LBB_W_CFG_ATOMIC_EN win) = true → s.bridge.cur = none →
        s.bridge.accs = [] → s.line win = none → Completes (.go p) s fun t =>
          t.flag (Reg.PG_LRMW_STATUS_BUSY p) = true ∧ t.bridge.phase = .requesting ∧
          (∀ a, t.bridge.cur = some a → a.kind = .lrmw ∧ a.page = p ∧ a.far = (s.farAcc p .lrmw o).far) ∧
          t.bridge.cur.isSome = true ∧ t.out = s.out) ∧
       (s.windowMay p win = false ∨ s.flag (Reg.LBB_W_CFG_ATOMIC_EN win) = false → Completes (.go p) s fun t =>
        t.flag ⟨Reg.GEN_ACCESS_ERR, p, 1⟩ = true ∧ t.flag (Reg.PG_LRMW_STATUS_DONE p) = true ∧
        t.bridge = s.bridge))) ∧
    (∀ x, s.awake → s.line w = some x →
      (s.tb.local16 ≤ x.at16 + s.pfTmo16 w → exec (.prefetchTimeout w) s = .next s) ∧
      (x.at16 + s.pfTmo16 w < s.tb.local16 → Completes (.prefetchTimeout w) s fun t =>
        t.line w = none ∧
        ((∀ k < 16, bitOf x.returned k = true) → t.regs = s.regs) ∧
        (bitOf x.returned 0 = false → t.rd (Reg.LBB_W_DISC_CNT w) = satInc (s.rd (Reg.LBB_W_DISC_CNT w)) ∧
          t.rd (Reg.LBB_W_DISC_ADDR w 0) = w32 (2 ^ 31 + x.far)))) ∧
    (∀ e, s.awake → s.bridge.phase = .backoff e →
      (e ≤ s.tb.local16 → exec .backoffExpiry s = .next { s with bridge := { s.bridge with phase := .requesting } }) ∧
      (s.tb.local16 < e → exec .backoffExpiry s = .next s))

/-- Inbound cycles and side-band lines (R392 to R394): a far master's write stores its enabled bytes in the inbound memory, at the word it names and nowhere else, its read returns that
word, and a bridge that was requesting gives way, counts it and backs off; a poll shows every enabled line in LBB_INT_LEVEL
and leaves the others. -/
def Obligations.InboundCyclesAndLines : Prop :=
  ∀ (c : FarCycle) (levels : BitVec 16) (s : State), s.awake → s.flag Reg.LBB_BSTAT_RUN = true →
    s.flag Reg.LBB_CTRL_EN = true →
    (s.flag Reg.LBB_CTRL_IN_EN = true → s.bridge.phase ≠ .owned →
      (let a := inMem c.word.toNat
       let order := s.flag Reg.LBB_CTRL_IN_ORDER
       (c.write = true → Completes (.inboundCycle c) s fun t =>
        t.memWord a = mergeBe (farBe order c.be.toNat) (s.memWord a) (farWord order c.data) ∧
        (∀ k, k < a ∨ a + 4 ≤ k → t.byte k = s.byte k) ∧ t.flash = s.flash ∧
        t.rd Reg.LBB_IN_CNT = s.rd Reg.LBB_IN_CNT + 1) ∧
       (c.write = false → Completes (.inboundCycle c) s fun t =>
        t.out = s.out ++ [.farReply (farWord order (s.memWord a))] ∧ SameBytes s t ∧
        t.rd Reg.LBB_IN_CNT = s.rd Reg.LBB_IN_CNT + 1) ∧
       (s.bridge.phase = .requesting → Completes (.inboundCycle c) s fun t =>
        t.rd Reg.LBB_RETRY_CNT = satInc (s.rd Reg.LBB_RETRY_CNT) ∧ t.flag Reg.LBB_STATUS_RETRY_SEEN = true ∧
        t.bridge.phase = .backoff (s.tb.local16 + min 64 (2 ^ s.bridge.retries) * 65536000)))) ∧
    (s.flag Reg.LBB_CTRL_IN_EN = false → exec (.inboundCycle c) s = .next s) ∧
    (s.bridge.poll16 + s.pollUs * 65536000 ≤ s.tb.local16 →
      Completes (.intPoll levels) s fun t =>
        (∀ l : Fin 16, bitOf (t.rd Reg.LBB_INT_LEVEL).toNat l
          = if bitOf (s.fld Reg.LBB_INT_CFG_EN) l
            then bitOf levels.toNat l != bitOf (s.fld Reg.LBB_INT_CFG_POL) l
            else bitOf (s.rd Reg.LBB_INT_LEVEL).toNat l) ∧
        t.bridge = { s.bridge with poll16 := s.tb.local16 } ∧ SameBytes s t)

/-! ## The cipher engine -/

/-- Keys (R400 to R403, R406, R407): a WRITE loads the key and the fixed field, counts the generation from 1 to 65,535 and around, and starts
the count at 0; a key in use drains first; a WRITE to a slot that drains, or of the size 3, is refused; an
ERASE zeroises at once or when the last item has ended; KEY_DATA is cleared by each command; WARNED comes at 90 % of LIMIT,
EXHAUSTED at LIMIT, each with its event. -/
def Obligations.KeysAreLoadedAndErased : Prop :=
  ∀ (p : PageNo) (k : SlotNo) (s : State),
    (s.takes p Reg.CPH_KEY_CMD →
      (∀ size : BitVec 2, size ≠ 3 → s.flag (Reg.CPH_SLOT_STATE_DRAINING k) = false → s.slotState k ≠ 3 →
        Completes (.keyWrite p k size) s fun t =>
          (t.slot k).key = s.keyData size.toNat ∧ t.slotState k = 1 ∧
          t.slotGen k = (if s.slotGen k = 65535 then 1 else s.slotGen k + 1) ∧ t.slotCount k = 0 ∧
          t.flag (Reg.CPH_SLOT_STATE_WARNED k) = false ∧ t.rd (Reg.CPH_SLOT_FIXED k) = s.rd Reg.CPH_KEY_FIXED ∧
          ((s.slot k).items = 0 → t.flag (Reg.CPH_SLOT_STATE_DRAINING k) = false) ∧
          ((s.slot k).items ≠ 0 → t.flag (Reg.CPH_SLOT_STATE_DRAINING k) = true ∧
            (t.slot k).old = some ((s.slot k).key, s.slotGen k)) ∧
          (∀ j : Fin 8, t.rd (Reg.CPH_KEY_DATA j) = 0) ∧ t.rd Reg.CPH_KEY_FIXED = 0 ∧
          (∀ j : SlotNo, j ≠ k → t.slot j = s.slot j ∧ t.slotState j = s.slotState j)) ∧
      (Completes (.keyWrite p k 3) s fun t =>
        t.flag Reg.CPH_FLAGS_KEY_BAD = true ∧ t.slots = s.slots ∧ (∀ j : Fin 8, t.rd (Reg.CPH_KEY_DATA j) = 0)) ∧
      (∀ size : BitVec 2, size ≠ 3 → s.flag (Reg.CPH_SLOT_STATE_DRAINING k) = true ∨ s.slotState k = 3 →
        Completes (.keyWrite p k size) s fun t =>
          t.flag Reg.CPH_FLAGS_KEY_BUSY = true ∧ t.slots = s.slots ∧
          (∀ j : Fin 8, t.rd (Reg.CPH_KEY_DATA j) = 0)) ∧
      (s.slotState k = 1 ∨ s.slotState k = 2 →
        ((s.slot k).items = 0 → (s.slot k).oldItems = 0 → Completes (.keyErase p k) s fun t =>
          t.slotState k = 0 ∧ t.slot k = {} ∧ t.slotGen k = s.slotGen k ∧ Posts s t 0x0A2 k (w32 (s.slotGen k))) ∧
        ((s.slot k).items ≠ 0 → Completes (.keyErase p k) s fun t =>
          t.slotState k = 3 ∧ (t.slot k).key = (s.slot k).key))) ∧
    (s.awake → s.slotState k = 3 → (s.slot k).items = 0 → (s.slot k).oldItems = 0 →
      Completes (.keyZeroise k) s fun t =>
        t.slotState k = 0 ∧ t.slot k = {} ∧ Posts s t 0x0A2 k (w32 (s.slotGen k))) ∧
    (s.awake → s.slotState k ≠ 3 → (s.slot k).old.isSome = true → (s.slot k).oldItems = 0 →
      Completes (.keyZeroise k) s fun t =>
        t.slot k = { s.slot k with old := none } ∧ t.flag (Reg.CPH_SLOT_STATE_DRAINING k) = false ∧
        OnlyRegs { s with slots := t.slots } t [Reg.CPH_SLOT_STATE k]) ∧
    (s.awake → s.slotState k = 1 →
      (9 * s.slotLimit k ≤ 10 * s.slotCount k → s.flag (Reg.CPH_SLOT_STATE_WARNED k) = false →
        Completes (.keyWarn k) s fun t =>
          t.flag (Reg.CPH_SLOT_STATE_WARNED k) = true ∧ t.slotState k = 1 ∧
          Posts s t 0x0A0 k (w32 (s.slotCount k)) ∧ SameBytes s t) ∧
      (s.slotLimit k ≤ s.slotCount k → Completes (.keyExhausted k) s fun t =>
        t.slotState k = 2 ∧ Posts s t 0x0A1 k (w32 (s.slotLimit k)) ∧ SameBytes s t) ∧
      (s.slotCount k < s.slotLimit k → exec (.keyExhausted k) s = .next s))

/-- Job rings (R399, R404, R406, R408 to R411): PROD takes what the host writes; a job of the ring whose turn it is starts with its status decided, and takes one
invocation of its slot if it may use the key; a job that ends writes its completion, word 0 last, counts in DONE and
JOBS, and leaves its ring.
What a job computes rests on notes/assumptions/20.md (PRESUMED). -/
def Obligations.JobsRun : Prop :=
  ∀ (p : PageNo) (r : Fin 2) (s : State),
    (∀ index : BitVec 12, s.takes p (Reg.PCJ_PROD p r) → s.pathFrames p = false →
      Completes (.pcjProd p r index) s fun t =>
        t.fld (Reg.PCJ_PROD_INDEX p r) = index.toNat ∧ OnlyRegs s t [Reg.PCJ_PROD p r]) ∧
    (∀ desc : List Word, s.awake → s.flag Reg.CPH_BSTAT_RUN = true → s.jobsRunning < 4 →
      s.nextRing = some (2 * p.val + r.val) → (s.jring p r).size ≤ 12 →
      Completes (.jobStart p r desc) s fun t =>
        (∃ j, (t.jring p r).job = some j ∧ j.desc = desc ∧ j.status = s.jobStatus p desc ∧
          j.index = s.fld (Reg.PCJ_CONS_INDEX p r) % 2 ^ (s.jring p r).size) ∧
        t.fld (Reg.PCJ_CONS_INDEX p r)
          = (s.fld (Reg.PCJ_CONS_INDEX p r) % 2 ^ (s.jring p r).size + 1) % 2 ^ (s.jring p r).size ∧
        t.ringState p r = 2 ∧
        (s.jobStatus p desc = 0 → t.slotCount (descSlot desc) = (s.slotCount (descSlot desc) + 1) % 2 ^ 48) ∧
        (s.jobStatus p desc ≠ 0 → t.slots = s.slots ∧ t.eqs = s.eqs)) ∧
    (∀ (j : Job) (input : List Byte) (o : JobOut), s.awake → (s.jring p r).job = some j → s.pathPcie p = true →
      (s.jring p r).size ≤ 12 →
      (2 ≤ j.status ∧ j.status ≤ 5 ∧ o = { status := j.status }) ∨
        (j.status = 0 ∧ descMode j.desc = 4 ∧ o = { status := 0, tag :=
          (cmac j.key ((input.drop (descAad j.desc)).take (descLength j.desc))).take (descTagLen j.desc) }) →
      Completes (.jobComplete p r input false) s fun t =>
        (let c := completion (s.jring p r).phase j o false false
         s.out ++ [.dma p ((s.jring p r).cpl + 64 * j.index + 4) c.2,
          .dma p ((s.jring p r).cpl + 64 * j.index) (leBytes 4 c.1.toNat)] <+: t.out) ∧
        (t.jring p r).job = none ∧ t.fld (Reg.PCJ_DONE_INDEX p r) = (j.index + 1) % 2 ^ (s.jring p r).size ∧
        t.rd (Reg.PCJ_JOBS p r) = s.rd (Reg.PCJ_JOBS p r) + 1 ∧
        (s.flag (Reg.PCJ_CTRL_EN p r) = true → t.ringState p r = 1))

/-! ## Field update -/

/-- The update manager (R426 to R430, R432, R435, R437, R438, R440 to R442, Table 13.2): pieces are checked and stored in
flash, at their place and nowhere else; the last one starts the verification, which computes the hashes of both parts and
checks the image as at boot; STAGING, READY, ARMING, ARMED and TRIAL follow in order; CONFIRM raises the fuse count and
erases the record; ABORT fails the update or, in FAILED, ends it; a command that the state does not list sets CMD_IGNORED.
A doorbell written without its bit RING does nothing. The verdicts that BUNDLE_VERIFY_COMPLETE carries are those that the
stored bytes give.
SHA-384 and ECDSA P-384 are those of their standards (PRESUMED, notes/assumptions/149.md); that a piece without an open
transfer is refused before its CMAC is DEDUCED (notes/assumptions/120.md). -/
def Obligations.UpdatesGoThroughTheirStates : Prop :=
  ∀ (p : PageNo) (ok : Bool) (s : State),
    (s.takes p Reg.UPD_PIECE_DB →
      (let idx := s.fld Reg.UPD_PIECE_IDX_IDX
       let n := s.fld Reg.UPD_PIECE_LEN_LEN
       exec (.updPieceDb p false) s = .next s ∧
       (s.fld Reg.UPD_PIECE_STATUS_RESULT = 1 → Completes (.updPieceDb p true) s fun t =>
        t.flag Reg.UPD_FLAGS_DB_IGNORED = true ∧ OnlyRegs s t [Reg.UPD_FLAGS]) ∧
       (s.fld Reg.UPD_PIECE_STATUS_RESULT ≠ 1 → s.slotState (s.fld Reg.UPD_CTRL_SLOT) ≠ 1 →
        Completes (.updPieceDb p true) s fun t =>
          t.fld Reg.UPD_PIECE_STATUS_RESULT = 3 ∧ t.rd Reg.UPD_PIECE_BAD = satInc (s.rd Reg.UPD_PIECE_BAD) ∧
          OnlyRegs s t [Reg.UPD_PIECE_STATUS, Reg.UPD_PIECE_BAD]) ∧
       (s.fld Reg.UPD_PIECE_STATUS_RESULT ≠ 1 → s.slotState (s.fld Reg.UPD_CTRL_SLOT) = 1 → idx ≠ 0 → 1 ≤ n → n ≤ 4096 →
        (s.updOpen = false → Completes (.updPieceDb p true) s fun t =>
          t.fld Reg.UPD_PIECE_STATUS_RESULT = 4 ∧ OnlyRegs s t [Reg.UPD_PIECE_STATUS, Reg.UPD_STATE]) ∧
        (s.updOpen = true →
         let good := s.pieceMac (s.rd Reg.UPD_BUNDLE_ID).toNat idx (s.bytes (Reg.UPD_PIECE 0) n) = s.givenMac
         (¬good → Completes (.updPieceDb p true) s fun t =>
          t.fld Reg.UPD_PIECE_STATUS_RESULT = 2 ∧ t.rd Reg.UPD_PIECE_BAD = satInc (s.rd Reg.UPD_PIECE_BAD) ∧
          OnlyRegs s t [Reg.UPD_PIECE_STATUS, Reg.UPD_PIECE_BAD]) ∧
         (good → idx < s.fld Reg.UPD_PIECES_TOTAL →
          n = 4096 ∨ idx + 1 = s.fld Reg.UPD_PIECES_TOTAL → idx ∉ s.upd.stored →
          Completes (.updPieceDb p true) s fun t =>
            t.upd = { s.upd with storing := some (idx, s.bytes (Reg.UPD_PIECE 0) n) } ∧
            t.fld Reg.UPD_PIECE_STATUS_RESULT = 1 ∧
            OnlyRegs { s with upd := t.upd } t [Reg.UPD_PIECE_STATUS]))))) ∧
    (∀ i data, s.awake → s.upd.storing = some (i, data) → s.hlt.meDown = false → data.length ≤ 4096 →
      s.upd.stored.length < 4095 →
      Completes .pieceStored s fun t =>
        t.flashBytes (0x1401000 + 4096 * i) 4096 = data ++ List.replicate (4096 - data.length) 0xFF ∧
        (∀ a, a < 0x1401000 + 4096 * i ∨ 0x1401000 + 4096 * i + 4096 ≤ a →
          Tbl.get flashDefault t.flash a = Tbl.get flashDefault s.flash a) ∧
        t.upd.stored = i :: s.upd.stored ∧ t.upd.storing = none ∧ (∀ a, t.byte a = s.byte a) ∧
        (s.upd.stored.length + 1 = s.fld Reg.UPD_PIECES_TOTAL →
          t.updState = 2 ∧ Posts s t 0x0C0 0 (s.rd Reg.UPD_BUNDLE_ID)) ∧
        (s.upd.stored.length + 1 ≠ s.fld Reg.UPD_PIECES_TOTAL → t.updState = s.updState)) ∧
    (∀ (rb : BitVec 8), s.awake → s.updState = 2 →
      (∀ fwOk, s.hashesOk = false →
        Completes (.bundleVerifyComplete s.fwHashOk s.imgHashOk (s.imgSigOk s.bundleImage) fwOk rb ok) s fun t =>
          t.updState = 8 ∧ t.fld Reg.UPD_STATE_ERR = 5 ∧ Posts s t 0x0C2 0 5 ∧ SameBytes s t) ∧
      (s.hashesOk = true → s.bundleImageErr = 0 → rb.toNat = mfRollback s.manifest → s.fld Reg.UPD_BANK_RUNNING = s.activeBank →
        Completes (.bundleVerifyComplete true true true true rb ok) s fun t =>
          t.updState = 3 ∧ (∀ a, fwBase s.otherBank ≤ a → a < fwBase s.otherBank + 0x900000 →
            Tbl.get flashDefault t.flash a = 0xFF) ∧
          (Memory.wf s = true → ∀ a, a < fwBase s.otherBank ∨ fwBase s.otherBank + 0x900000 ≤ a →
            Tbl.get flashDefault t.flash a = Tbl.get flashDefault s.flash a))) ∧
    (s.awake → s.updState = 3 →
      (Completes (.stagingComplete false) s fun t =>
        t.updState = 8 ∧ t.fld Reg.UPD_STATE_ERR = 8 ∧ Posts s t 0x0C2 0 8 ∧ SameBytes s t) ∧
      (s.flag Reg.UPD_CTRL_AUTO_ACT = false → Completes (.stagingComplete true) s fun t =>
        t.updState = 4 ∧ t.flashBytes (imgBase s.otherBank) (mfImgLen s.manifest) = s.bundleImage ∧
        (∀ a, t.byte a = s.byte a))) ∧
    (s.awake → s.updState = 5 → s.strState = strStaged → s.str.forUpdate = true →
      Completes .armingComplete s fun t =>
        t.updState = 6 ∧ Posts s t 0x0C3 0 (s.rd Reg.UPD_BUNDLE_ID) ∧ SameBytes s t) ∧
    (s.awake → exec .handoverResume s = .next { s with upd := { s.upd with paused := false } }) ∧
    (s.takes p Reg.UPD_CMD →
      (s.updState = 4 → s.strState = strIdle → Completes (.updArm p) s fun t =>
        t.updState = 5 ∧ t.strState = strLoading ∧ t.str.forUpdate = true) ∧
      (s.updState = 4 → s.strState ≠ strIdle → Completes (.updArm p) s fun t =>
        t.flag Reg.UPD_FLAGS_STR_BUSY = true ∧ OnlyRegs s t [Reg.UPD_FLAGS]) ∧
      (s.updState ≠ 4 → Completes (.updArm p) s fun t =>
        t.flag Reg.UPD_FLAGS_CMD_IGNORED = true ∧ OnlyRegs s t [Reg.UPD_FLAGS]) ∧
      (s.updState = 5 ∨ s.updState = 6 → exec (.activate p) s = .next { s with upd := { s.upd with fallback := true } }) ∧
      (s.updState ≠ 5 → s.updState ≠ 6 → Completes (.activate p) s fun t =>
        t.flag Reg.UPD_FLAGS_CMD_IGNORED = true ∧ OnlyRegs s t [Reg.UPD_FLAGS]) ∧
      (s.updState = 7 →
        (Completes (.confirm p false) s fun t => t.updState = 7 ∧ t.upd = s.upd) ∧
        (Completes (.confirm p true) s fun t =>
          t.updState = 0 ∧ t.rd Reg.UPD_BUNDLE_ID = 0 ∧ t.upd.stored = [] ∧
          t.fld Reg.UPD_FUSE_COUNT = max (s.fld Reg.UPD_FUSE_COUNT) (s.fld Reg.UPD_NEW_INFO_ROLLBACK) ∧
          (∀ h, newestStore s.stores = some h → h.schema ≠ s.fld Reg.UPD_NEW_INFO_SCHEMA → t.archive = some h) ∧
          SameBytes s t)) ∧
      (1 ≤ s.updState → s.updState ≤ 6 → Completes (.updAbort p) s fun t =>
        t.updState = 8 ∧ t.fld Reg.UPD_STATE_ERR = 12 ∧ t.upd.stored = [] ∧ t.rd Reg.UPD_BUNDLE_ID = 0 ∧
        Posts s t 0x0C2 0 12 ∧ SameBytes s t) ∧
      (s.updState = 8 → Completes (.updAbort p) s fun t =>
        t.updState = 0 ∧ t.upd.stored = [] ∧ t.eqs = s.eqs ∧ SameBytes s t) ∧
      (Completes (.archClear p) s fun t =>
        t.archive = none ∧ t.flag Reg.UPD_ARCH_VALID = false ∧
        OnlyRegs { s with archive := none } t [Reg.UPD_ARCH]))

/-! ## Health, options, reset and supplies -/

/-- The health monitor (R454, R456 to R460, R462 to R464, R470): an option program writes the copy that is not the newest,
which alone changes; OPT_READ copies a copy into the buffer; FORCE_SPARE and a failed check move a unit to its spare,
HAND_BACK and its next frame end back; a failed check of a MAC's SerDes lane takes its link down; a patrol read counts what
it corrects, and a sweep no sooner than its period after the one before, and an uncorrectable codeword of retained memory
reads 0 from then on; a self-test that passes makes a transient, one that fails a lasting error; transients leave the
history after 24 h. -/
def Obligations.HealthIsMonitored : Prop :=
  ∀ (p : PageNo) (s : State),
    (s.takes p Reg.HLT_CMD →
      (s.hlt.program = none →
        (s.optLocked s.optBuf = true → Completes (.optProgram p) s fun t =>
          t.fld Reg.HLT_OPT_STATUS_RESULT = 3 ∧ OnlyRegs s t [Reg.HLT_OPT_STATUS]) ∧
        (s.optLocked s.optBuf = false → Completes (.optProgram p) s fun t =>
          t.fld Reg.HLT_OPT_STATUS_RESULT = 1 ∧
          t.hlt.program = some (s.optTarget.1, makeCopy s.optBuf s.optTarget.2, false) ∧
          OnlyRegs { s with hlt := t.hlt } t [Reg.HLT_OPT_STATUS])) ∧
      (∀ k : Fin 2, Completes (.optRead p k) s fun t =>
        t.bytes (Reg.HLT_OPT_BUF 0) 1024 = s.optCopy k ∧
        (∀ a, a < Reg.HLT_OPT_BUF 0 ∨ Reg.HLT_OPT_BUF 0 + 1024 ≤ a → t.byte a = s.byte a) ∧
        { t with mem := s.mem } = s) ∧
      (∀ u : Fin 256, bitOf s.spared u = false →
        (s.spareFree u = true → Completes (.forceSpare p (BitVec.ofNat 20 u)) s fun t =>
          bitOf t.spared u = true ∧ (∀ n, spareOf u = some n → t.spareState n = 1) ∧
          (∀ k : Fin 256, k ≠ u → bitOf t.spared k = bitOf s.spared k)) ∧
        (s.spareFree u = false → exec (.forceSpare p (BitVec.ofNat 20 u)) s = .next s)) ∧
      (∀ u : Fin 256, bitOf s.spared u = true → s.retired u = false → s.underTest u = false →
        (∀ b, unitKind u = .bank b → Completes (.handBack p (BitVec.ofNat 20 u)) s fun t =>
          bitOf t.spared u = false ∧ Posts s t 0x0E2 u 0) ∧
        ((∀ b, unitKind u ≠ .bank b) → Completes (.handBack p (BitVec.ofNat 20 u)) s fun t =>
          u.val ∈ t.hlt.toReturn ∧ t.spared = s.spared ∧ t.regs = s.regs))) ∧
    (∀ k bs c, s.awake → s.hlt.program = some (k, bs, c) → k < 2 → bs.length = 1024 →
      (Completes (.optProgramComplete true) s fun t =>
        t.optCopy k = bs ∧ t.optCopy (1 - k) = s.optCopy (1 - k) ∧ t.hlt.program = none ∧
        t.fld Reg.HLT_OPT_STATUS_RESULT = 0 ∧ t.fld Reg.HLT_OPT_STATUS_TARGET = k ∧
        Posts s t 0x0E8 k (w32 (copySeq bs)) ∧ SameBytes s t) ∧
      (Completes (.optProgramComplete false) s fun t =>
        t.optCopy (1 - k) = s.optCopy (1 - k) ∧ t.hlt.program = none ∧ t.fld Reg.HLT_OPT_STATUS_RESULT = 2)) ∧
    (∀ u : Fin 256, s.awake → s.hlt.toReturn.contains u.val = true → bitOf s.spared u = true → s.unitIdle u = true →
      (spareOf u).isSome = true → Completes (.spareHandback u) s fun t =>
        bitOf t.spared u = false ∧ Posts s t 0x0E2 u 0 ∧ SameBytes s t) ∧
    (∀ (bank : Fin 65536) (row : BitVec 24) (kind : MemKind), s.awake →
      exec (.patrolRead bank row kind .clean false) s = .next s ∧
      (let min := s.fld Reg.HLT_SCRUB_PERIOD_MIN
       let next16 := s.hlt.sweep16 + clampTo 10 10080 (if min = 0 then 1440 else min) * (60000000 * 65536000)
       (next16 ≤ s.tb.local16 → Completes (.patrolRead bank row kind .corrected true) s fun t =>
        t.rd Reg.HLT_CE_CNT = satInc (s.rd Reg.HLT_CE_CNT) ∧
        t.rd Reg.HLT_SCRUB_SWEEPS = s.rd Reg.HLT_SCRUB_SWEEPS + 1 ∧
        OnlyRegs { s with hlt := { s.hlt with sweep16 := s.tb.local16 } } t [Reg.HLT_CE_CNT, Reg.HLT_SCRUB_SWEEPS]) ∧
       (s.tb.local16 < next16 → Completes (.patrolRead bank row kind .corrected true) s fun t =>
        t.rd Reg.HLT_CE_CNT = satInc (s.rd Reg.HLT_CE_CNT) ∧ OnlyRegs s t [Reg.HLT_CE_CNT])) ∧
      (∀ w, kind = .retained w → Completes (.patrolRead bank row kind .uncorrectable false) s fun t =>
        t.rd Reg.HLT_UE_CNT = satInc (s.rd Reg.HLT_UE_CNT) ∧ t.memWord (Reg.HLT_RETAINED w) = 0 ∧
        t.flag Reg.HLT_RET_FLAGS_RET_UE = true)) ∧
    (∀ u : Fin 256, s.awake → s.retired u = false → bitOf s.spared u = false → s.spareFree u = true →
      Completes (.unitCheck (.unit u)) s fun t =>
        bitOf t.spared u = true ∧ (u.val, 4) ∈ t.hlt.testing ∧
        (∀ n, spareOf u = some n → t.spareState n = 1) ∧ t.flash = s.flash) ∧
    (∀ (m : MacNo) (n : Fin 32), n.val = 16 + m.val → s.awake → s.hlt.badLanes.contains n.val = false →
      s.flag (Reg.EMC_LINK_UP m) = true → (s.port m).cut = none →
      Completes (.unitCheck (.lane n)) s fun t =>
        t.laneServes n = false ∧ t.flag (Reg.EMC_LINK_UP m) = false ∧ t.flag (Reg.SWC_P_STATUS_LINK m) = false ∧
        t.flag (Reg.EMC_FLAGS_LINK_CHG m) = true ∧ t.flash = s.flash) ∧
    (∀ (item : Item) (code : Nat), s.awake →
      s.hlt.testing.find? (fun x => x.1 == itemId item) = some (itemId item, code) →
      (s.transients (itemId item) < 2 → Completes (.selftestComplete item true) s fun t =>
        t.rd Reg.HLT_TRANSIENT_CNT = satInc (s.rd Reg.HLT_TRANSIENT_CNT) ∧
        t.hlt.history = s.hlt.history ++ [(itemId item, (s.tb.local16 : Int))] ∧
        (∀ x ∈ t.hlt.testing, x.1 ≠ itemId item)) ∧
      (Completes (.selftestComplete item false) s fun t =>
        t.rd Reg.HLT_LASTING_CNT = satInc (s.rd Reg.HLT_LASTING_CNT) ∧ t.flag Reg.HLT_STATUS_DEGRADED = true ∧
        (∀ x ∈ t.hlt.testing, x.1 ≠ itemId item))) ∧
    (∀ item : Item, s.awake → Completes (.transientAgeExpiry item) s fun t =>
      (∀ h ∈ s.hlt.history, h ∈ t.hlt.history ↔
        ¬(h.1 = itemId item ∧ h.2 + 86400 * 1000000000 * 65536 ≤ (s.tb.local16 : Int))) ∧
      { t with hlt := { t.hlt with history := s.hlt.history } } = s) ∧
    (s.awake → exec .meRestartComplete s = .next { s with hlt := { s.hlt with meDown := false } })

/-- Resets, supplies and input pins (R445 to R449, R472, R476, R478, R479, R483, Tables 14.1 and 14.10): a core supply that
fails and a long RESET_N pulse hold the device in reset with nothing volatile left, flash and the settings store as they
were, and, for RESET_N, retained memory, the backup registers and the replace state with its reasons too; a short pulse does
nothing; the release names the cause; a field bank that comes or goes shows in GEN_VIO_STATE and resets nothing, and the
discrete inputs of one that goes read low; its buffer class is latched once; PERST fails the paths of its link. -/
def Obligations.ResetsAndSupplies : Prop :=
  ∀ s : State,
    (∀ (x : Supply) (k : Nat), supplyBit x = some k →
      (Completes (.powerOn x) s fun t =>
        t.dev.held = true ∧ t.dev.por = true ∧ t.cleared ∧ t.dev.supplies = setBit s.dev.supplies k false ∧
        t.flash = s.flash ∧ t.stores = s.stores ∧ t.archive = s.archive) ∧
      exec (.supplyValid x) s = .next { s with dev := { s.dev with supplies := setBit s.dev.supplies k true } }) ∧
    (∀ n : Fin 16, Completes (.powerOn (.vioF n)) s fun t =>
      t.flag ⟨Reg.GEN_VIO_STATE, n, 1⟩ = false ∧ t.dev.held = s.dev.held ∧ SameBytes s t) ∧
    (∀ lowNs, lowNs < 150 → exec (.resetNFall lowNs) s = .next s) ∧
    (∀ lowNs, 250 ≤ lowNs →
      Completes (.resetNFall lowNs) s fun t =>
        t.dev.held = true ∧ t.dev.resetN = false ∧ t.cleared ∧ t.flash = s.flash ∧ t.stores = s.stores ∧
        (s.awake → t.dev.por = false ∧ (∀ k : Fin 16, t.rd (Reg.HLT_BACKUP k) = s.rd (Reg.HLT_BACKUP k)) ∧
          t.flag Reg.HLT_STATUS_REPLACE = s.flag Reg.HLT_STATUS_REPLACE ∧
          t.fld Reg.HLT_STATUS_REASON = s.fld Reg.HLT_STATUS_REASON ∧
          (Memory.wf s = true → ∀ a, 0x194000 ≤ a → a < 0x196000 → t.byte a = s.byte a))) ∧
    (s.awake → exec .resetRelease s = .next s) ∧
    (s.dev.held = true → s.dev.supplies = 63 →
      Completes .resetRelease s fun t =>
        t.awake ∧ t.dev.resetN = true ∧
        (s.dev.por = true → t.flag Reg.HLT_RESET_CAUSE_POR = true) ∧
        (s.dev.por = false → t.flag Reg.HLT_RESET_CAUSE_PIN = true) ∧ t.flash = s.flash) ∧
    (∀ (n : Fin 16) (valid : Bool),
      (s.flag ⟨Reg.GEN_VIO_STATE, n, 1⟩ = valid → exec (.vioChange n valid) s = .next s) ∧
      (s.awake → s.flag ⟨Reg.GEN_VIO_STATE, n, 1⟩ ≠ valid → Completes (.vioChange n valid) s fun t =>
        t.flag ⟨Reg.GEN_VIO_STATE, n, 1⟩ = valid ∧ Posts s t 0x0E9 n (if valid then 1 else 0) ∧
        (valid = false → t.dev.classes = s.dev.classes.set n 0 ∧
          ∀ b : BankNo, unitVio (Reg.bankUnit b) = some n.val → t.fld (Reg.DSC_LEVEL_RAW b) = 0) ∧
        t.awake ∧ SameBytes s t)) ∧
    (∀ (n : Fin 16) (c : BufClass),
      (s.flag ⟨Reg.GEN_VIO_STATE, n, 1⟩ = true → s.dev.classes.getD n 0 = 0 →
        exec (.classLatch n c) s = .next { s with dev := { s.dev with classes := s.dev.classes.set n (classCode c) } }) ∧
      (s.flag ⟨Reg.GEN_VIO_STATE, n, 1⟩ = false ∨ s.dev.classes.getD n 0 ≠ 0 →
        exec (.classLatch n c) s = .next s)) ∧
    (∀ n : Fin 2, s.awake → s.settled →
      exec (.perst n false) s = .next { s with dev := { s.dev with perst := setBit s.dev.perst n false } } ∧
      (Completes (.perst n true) s fun t =>
        bitOf t.dev.perst n = true ∧
        (∀ q : PageNo, t.pathIsUp q (n + 1) = false ∧ (t.page q).msixOn.getD n false = false)))

/-! ## Memory -/

/-- A command that may not store changes no byte of any memory or of flash, and what a page writes to engine memory changes the four
bytes of its word and nothing else (R8, R46, R227). -/
def Obligations.OnlyStoresChangeBytes : Prop :=
  (∀ (c : Instr) (s t : State), storesBytes c = false → exec c s = .next t → SameBytes s t) ∧
  (∀ (p : PageNo) (addr : BitVec 26) (v : Word) (a : Nat) (s : State), s.awake → s.settled →
    s.target p addr.toNat = .mem a → s.flag Reg.HLT_RESET_CAUSE_OPT_FAIL = false →
    exec (.registerWrite p addr v) s = .next (s.setMemWord a v) ∧ (s.setMemWord a v).memWord a = v ∧
    ∀ k, k < a ∨ a + 4 ≤ k → (s.setMemWord a v).byte k = s.byte k)

/-- Every step keeps the byte memories and the flash in their canonical form: addresses rising, and no entry that reads
as an unlisted one.
The form, and what an unlisted byte reads as, are the model's choices (notes/assumptions/5.md and 6.md). -/
def Obligations.EveryStepKeepsMemoryCanonical : Prop :=
  ∀ s t : State, Memory.wf s = true → step s = .next t → Memory.wf t = true
end

