-- ==== Sys2Proof/Laws/Bits.lean ====
section
/-!
SUPPORT. The laws of bit fields: a field reads as it was written, and every other field of the register reads as
before.
-/

namespace Sys2Proof.Machine

theorem add_mul_lt {x y a b : Nat} (hx : x < a) (hy : y < b) : x + a * y < a * b :=
  calc x + a * y < a + a * y := Nat.add_lt_add_right hx _
    _ = a * (y + 1) := by ring
    _ ≤ a * b := Nat.mul_le_mul_left a hy

theorem putBits_lt (w : Word) (l n v : Nat) (h : l + n ≤ 32) :
    w.toNat % 2 ^ l + 2 ^ l * (v % 2 ^ n) + 2 ^ (l + n) * (w.toNat / 2 ^ (l + n)) < 2 ^ 32 := by
  have h1 : w.toNat % 2 ^ l < 2 ^ l := Nat.mod_lt _ (by positivity)
  have h2 : v % 2 ^ n < 2 ^ n := Nat.mod_lt _ (by positivity)
  have h3 : w.toNat / 2 ^ (l + n) < 2 ^ (32 - (l + n)) := by
    rw [Nat.div_lt_iff_lt_mul (by positivity), ← pow_add, show 32 - (l + n) + (l + n) = 32 by omega]
    exact w.isLt
  have h4 : w.toNat % 2 ^ l + 2 ^ l * (v % 2 ^ n) < 2 ^ (l + n) := by
    rw [pow_add]; exact add_mul_lt h1 h2
  have h5 : 2 ^ 32 = 2 ^ (l + n) * 2 ^ (32 - (l + n)) := by
    rw [← pow_add]; congr 1; omega
  rw [h5]; exact add_mul_lt h4 h3

theorem toNat_putBits (w : Word) (l n v : Nat) (h : l + n ≤ 32) :
    (putBits w l n v).toNat =
      w.toNat % 2 ^ l + 2 ^ l * (v % 2 ^ n) + 2 ^ (l + n) * (w.toNat / 2 ^ (l + n)) := by
  rw [putBits, BitVec.toNat_ofNat, Nat.mod_eq_of_lt (putBits_lt w l n v h)]

/-- A field reads as it was written. -/
theorem getBits_putBits_same (w : Word) (l n v : Nat) (h : l + n ≤ 32) :
    getBits (putBits w l n v) l n = v % 2 ^ n := by
  rw [getBits, toNat_putBits w l n v h]
  have h1 : w.toNat % 2 ^ l < 2 ^ l := Nat.mod_lt _ (by positivity)
  rw [show w.toNat % 2 ^ l + 2 ^ l * (v % 2 ^ n) + 2 ^ (l + n) * (w.toNat / 2 ^ (l + n))
      = w.toNat % 2 ^ l + 2 ^ l * (v % 2 ^ n + 2 ^ n * (w.toNat / 2 ^ (l + n))) by rw [pow_add]; ring,
    Nat.add_mul_div_left _ _ (by positivity), Nat.div_eq_of_lt h1]
  simp

/-- A field that lies above the one written reads as before. -/
theorem getBits_putBits_above (w : Word) (l n v l' n' : Nat) (h : l + n ≤ 32) (h' : l + n ≤ l') :
    getBits (putBits w l n v) l' n' = getBits w l' n' := by
  rw [getBits, getBits, toNat_putBits w l n v h]
  have h1 : w.toNat % 2 ^ l < 2 ^ l := Nat.mod_lt _ (by positivity)
  have h2 : v % 2 ^ n < 2 ^ n := Nat.mod_lt _ (by positivity)
  have h4 : w.toNat % 2 ^ l + 2 ^ l * (v % 2 ^ n) < 2 ^ (l + n) := by
    rw [pow_add]; exact add_mul_lt h1 h2
  congr 1
  obtain ⟨k, rfl⟩ := Nat.exists_eq_add_of_le h'
  rw [pow_add 2 (l + n) k, ← Nat.div_div_eq_div_mul, ← Nat.div_div_eq_div_mul,
    Nat.add_mul_div_left _ _ (by positivity), Nat.div_eq_of_lt h4, Nat.zero_add]

/-- A field that lies below the one written reads as before. -/
theorem getBits_putBits_below (w : Word) (l n v l' n' : Nat) (h : l + n ≤ 32) (h' : l' + n' ≤ l) :
    getBits (putBits w l n v) l' n' = getBits w l' n' := by
  rw [getBits, getBits, toNat_putBits w l n v h]
  have key : ∀ x : Nat, x / 2 ^ l' % 2 ^ n' = x % 2 ^ l / 2 ^ l' % 2 ^ n' := by
    intro x
    obtain ⟨k, rfl⟩ := Nat.exists_eq_add_of_le h'
    rw [show 2 ^ (l' + n' + k) = 2 ^ l' * 2 ^ (n' + k) by rw [← pow_add]; congr 1; omega,
      Nat.mod_mul_right_div_self, pow_add 2 n' k, Nat.mod_mul_right_mod]
  rw [key, key w.toNat]
  congr 2
  rw [show 2 ^ (l + n) * (w.toNat / 2 ^ (l + n)) = 2 ^ l * (2 ^ n * (w.toNat / 2 ^ (l + n))) by rw [pow_add]; ring,
    Nat.add_mul_mod_self_left, Nat.add_mul_mod_self_left, Nat.mod_mod]

theorem getBits_lt (w : Word) (l n : Nat) : getBits w l n < 2 ^ n := Nat.mod_lt _ (by positivity)

end Sys2Proof.Machine
end

