-- ==== Sys2Proof/Laws/State.lean ====
section
/-!
SUPPORT. What each primitive update leaves alone: one lemma for every field and every update, true by unfolding, so that
no proof unfolds a record update.
-/

namespace Sys2Proof.Machine

variable (s : State)

/-! ## `State.wr` -/

@[simp] theorem State.wr_mem (a : Nat) (v : Word) : (s.wr a v).mem = s.mem := rfl
@[simp] theorem State.wr_flash (a : Nat) (v : Word) : (s.wr a v).flash = s.flash := rfl
@[simp] theorem State.wr_staged (a : Nat) (v : Word) : (s.wr a v).staged = s.staged := rfl
@[simp] theorem State.wr_hold (a : Nat) (v : Word) : (s.wr a v).hold = s.hold := rfl
@[simp] theorem State.wr_eqs (a : Nat) (v : Word) : (s.wr a v).eqs = s.eqs := rfl
@[simp] theorem State.wr_out (a : Nat) (v : Word) : (s.wr a v).out = s.out := rfl
@[simp] theorem State.wr_freeCnt (a : Nat) (v : Word) : (s.wr a v).freeCnt = s.freeCnt := rfl
@[simp] theorem State.wr_tbl (a : Nat) (v : Word) : (s.wr a v).tbl = s.tbl := rfl
@[simp] theorem State.wr_tblOld (a : Nat) (v : Word) : (s.wr a v).tblOld = s.tblOld := rfl
@[simp] theorem State.wr_str (a : Nat) (v : Word) : (s.wr a v).str = s.str := rfl
@[simp] theorem State.wr_stores (a : Nat) (v : Word) : (s.wr a v).stores = s.stores := rfl
@[simp] theorem State.wr_archive (a : Nat) (v : Word) : (s.wr a v).archive = s.archive := rfl
@[simp] theorem State.wr_cells (a : Nat) (v : Word) : (s.wr a v).cells = s.cells := rfl
@[simp] theorem State.wr_sig (a : Nat) (v : Word) : (s.wr a v).sig = s.sig := rfl
@[simp] theorem State.wr_pages (a : Nat) (v : Word) : (s.wr a v).pages = s.pages := rfl
@[simp] theorem State.wr_tb (a : Nat) (v : Word) : (s.wr a v).tb = s.tb := rfl
@[simp] theorem State.wr_trk (a : Nat) (v : Word) : (s.wr a v).trk = s.trk := rfl
@[simp] theorem State.wr_limits (a : Nat) (v : Word) : (s.wr a v).limits = s.limits := rfl
@[simp] theorem State.wr_evRoutes (a : Nat) (v : Word) : (s.wr a v).evRoutes = s.evRoutes := rfl
@[simp] theorem State.wr_pdus (a : Nat) (v : Word) : (s.wr a v).pdus = s.pdus := rfl
@[simp] theorem State.wr_engines (a : Nat) (v : Word) : (s.wr a v).engines = s.engines := rfl
@[simp] theorem State.wr_waking (a : Nat) (v : Word) : (s.wr a v).waking = s.waking := rfl
@[simp] theorem State.wr_spared (a : Nat) (v : Word) : (s.wr a v).spared = s.spared := rfl
@[simp] theorem State.wr_mbs (a : Nat) (v : Word) : (s.wr a v).mbs = s.mbs := rfl
@[simp] theorem State.wr_can (a : Nat) (v : Word) : (s.wr a v).can = s.can := rfl
@[simp] theorem State.wr_lanes (a : Nat) (v : Word) : (s.wr a v).lanes = s.lanes := rfl
@[simp] theorem State.wr_banks (a : Nat) (v : Word) : (s.wr a v).banks = s.banks := rfl
@[simp] theorem State.wr_queues (a : Nat) (v : Word) : (s.wr a v).queues = s.queues := rfl
@[simp] theorem State.wr_ports (a : Nat) (v : Word) : (s.wr a v).ports = s.ports := rfl
@[simp] theorem State.wr_saltern (a : Nat) (v : Word) : (s.wr a v).saltern = s.saltern := rfl
@[simp] theorem State.wr_pduSeq (a : Nat) (v : Word) : (s.wr a v).pduSeq = s.pduSeq := rfl
@[simp] theorem State.wr_ringWins (a : Nat) (v : Word) : (s.wr a v).ringWins = s.ringWins := rfl
@[simp] theorem State.wr_ringPeers (a : Nat) (v : Word) : (s.wr a v).ringPeers = s.ringPeers := rfl
@[simp] theorem State.wr_ring (a : Nat) (v : Word) : (s.wr a v).ring = s.ring := rfl
@[simp] theorem State.wr_slots (a : Nat) (v : Word) : (s.wr a v).slots = s.slots := rfl
@[simp] theorem State.wr_pols (a : Nat) (v : Word) : (s.wr a v).pols = s.pols := rfl
@[simp] theorem State.wr_holdBuf (a : Nat) (v : Word) : (s.wr a v).holdBuf = s.holdBuf := rfl
@[simp] theorem State.wr_bridge (a : Nat) (v : Word) : (s.wr a v).bridge = s.bridge := rfl
@[simp] theorem State.wr_rings (a : Nat) (v : Word) : (s.wr a v).rings = s.rings := rfl
@[simp] theorem State.wr_jobTurn (a : Nat) (v : Word) : (s.wr a v).jobTurn = s.jobTurn := rfl
@[simp] theorem State.wr_acts (a : Nat) (v : Word) : (s.wr a v).acts = s.acts := rfl
@[simp] theorem State.wr_crowd (a : Nat) (v : Word) : (s.wr a v).crowd = s.crowd := rfl
@[simp] theorem State.wr_hlt (a : Nat) (v : Word) : (s.wr a v).hlt = s.hlt := rfl
@[simp] theorem State.wr_dev (a : Nat) (v : Word) : (s.wr a v).dev = s.dev := rfl
@[simp] theorem State.wr_upd (a : Nat) (v : Word) : (s.wr a v).upd = s.upd := rfl
@[simp] theorem State.wr_opts (a : Nat) (v : Word) : (s.wr a v).opts = s.opts := rfl
@[simp] theorem State.wr_fieldReady (a : Nat) (v : Word) : (s.wr a v).fieldReady = s.fieldReady := rfl
@[simp] theorem State.wr_nextId (a : Nat) (v : Word) : (s.wr a v).nextId = s.nextId := rfl
@[simp] theorem State.wr_pending (a : Nat) (v : Word) : (s.wr a v).pending = s.pending := rfl

/-! ## `State.setFld` -/

@[simp] theorem State.setFld_mem (f : Fld) (v : Nat) : (s.setFld f v).mem = s.mem := rfl
@[simp] theorem State.setFld_flash (f : Fld) (v : Nat) : (s.setFld f v).flash = s.flash := rfl
@[simp] theorem State.setFld_staged (f : Fld) (v : Nat) : (s.setFld f v).staged = s.staged := rfl
@[simp] theorem State.setFld_hold (f : Fld) (v : Nat) : (s.setFld f v).hold = s.hold := rfl
@[simp] theorem State.setFld_eqs (f : Fld) (v : Nat) : (s.setFld f v).eqs = s.eqs := rfl
@[simp] theorem State.setFld_out (f : Fld) (v : Nat) : (s.setFld f v).out = s.out := rfl
@[simp] theorem State.setFld_freeCnt (f : Fld) (v : Nat) : (s.setFld f v).freeCnt = s.freeCnt := rfl
@[simp] theorem State.setFld_tbl (f : Fld) (v : Nat) : (s.setFld f v).tbl = s.tbl := rfl
@[simp] theorem State.setFld_tblOld (f : Fld) (v : Nat) : (s.setFld f v).tblOld = s.tblOld := rfl
@[simp] theorem State.setFld_str (f : Fld) (v : Nat) : (s.setFld f v).str = s.str := rfl
@[simp] theorem State.setFld_stores (f : Fld) (v : Nat) : (s.setFld f v).stores = s.stores := rfl
@[simp] theorem State.setFld_archive (f : Fld) (v : Nat) : (s.setFld f v).archive = s.archive := rfl
@[simp] theorem State.setFld_cells (f : Fld) (v : Nat) : (s.setFld f v).cells = s.cells := rfl
@[simp] theorem State.setFld_sig (f : Fld) (v : Nat) : (s.setFld f v).sig = s.sig := rfl
@[simp] theorem State.setFld_pages (f : Fld) (v : Nat) : (s.setFld f v).pages = s.pages := rfl
@[simp] theorem State.setFld_tb (f : Fld) (v : Nat) : (s.setFld f v).tb = s.tb := rfl
@[simp] theorem State.setFld_trk (f : Fld) (v : Nat) : (s.setFld f v).trk = s.trk := rfl
@[simp] theorem State.setFld_limits (f : Fld) (v : Nat) : (s.setFld f v).limits = s.limits := rfl
@[simp] theorem State.setFld_evRoutes (f : Fld) (v : Nat) : (s.setFld f v).evRoutes = s.evRoutes := rfl
@[simp] theorem State.setFld_pdus (f : Fld) (v : Nat) : (s.setFld f v).pdus = s.pdus := rfl
@[simp] theorem State.setFld_engines (f : Fld) (v : Nat) : (s.setFld f v).engines = s.engines := rfl
@[simp] theorem State.setFld_waking (f : Fld) (v : Nat) : (s.setFld f v).waking = s.waking := rfl
@[simp] theorem State.setFld_spared (f : Fld) (v : Nat) : (s.setFld f v).spared = s.spared := rfl
@[simp] theorem State.setFld_mbs (f : Fld) (v : Nat) : (s.setFld f v).mbs = s.mbs := rfl
@[simp] theorem State.setFld_can (f : Fld) (v : Nat) : (s.setFld f v).can = s.can := rfl
@[simp] theorem State.setFld_lanes (f : Fld) (v : Nat) : (s.setFld f v).lanes = s.lanes := rfl
@[simp] theorem State.setFld_banks (f : Fld) (v : Nat) : (s.setFld f v).banks = s.banks := rfl
@[simp] theorem State.setFld_queues (f : Fld) (v : Nat) : (s.setFld f v).queues = s.queues := rfl
@[simp] theorem State.setFld_ports (f : Fld) (v : Nat) : (s.setFld f v).ports = s.ports := rfl
@[simp] theorem State.setFld_saltern (f : Fld) (v : Nat) : (s.setFld f v).saltern = s.saltern := rfl
@[simp] theorem State.setFld_pduSeq (f : Fld) (v : Nat) : (s.setFld f v).pduSeq = s.pduSeq := rfl
@[simp] theorem State.setFld_ringWins (f : Fld) (v : Nat) : (s.setFld f v).ringWins = s.ringWins := rfl
@[simp] theorem State.setFld_ringPeers (f : Fld) (v : Nat) : (s.setFld f v).ringPeers = s.ringPeers := rfl
@[simp] theorem State.setFld_ring (f : Fld) (v : Nat) : (s.setFld f v).ring = s.ring := rfl
@[simp] theorem State.setFld_slots (f : Fld) (v : Nat) : (s.setFld f v).slots = s.slots := rfl
@[simp] theorem State.setFld_pols (f : Fld) (v : Nat) : (s.setFld f v).pols = s.pols := rfl
@[simp] theorem State.setFld_holdBuf (f : Fld) (v : Nat) : (s.setFld f v).holdBuf = s.holdBuf := rfl
@[simp] theorem State.setFld_bridge (f : Fld) (v : Nat) : (s.setFld f v).bridge = s.bridge := rfl
@[simp] theorem State.setFld_rings (f : Fld) (v : Nat) : (s.setFld f v).rings = s.rings := rfl
@[simp] theorem State.setFld_jobTurn (f : Fld) (v : Nat) : (s.setFld f v).jobTurn = s.jobTurn := rfl
@[simp] theorem State.setFld_acts (f : Fld) (v : Nat) : (s.setFld f v).acts = s.acts := rfl
@[simp] theorem State.setFld_crowd (f : Fld) (v : Nat) : (s.setFld f v).crowd = s.crowd := rfl
@[simp] theorem State.setFld_hlt (f : Fld) (v : Nat) : (s.setFld f v).hlt = s.hlt := rfl
@[simp] theorem State.setFld_dev (f : Fld) (v : Nat) : (s.setFld f v).dev = s.dev := rfl
@[simp] theorem State.setFld_upd (f : Fld) (v : Nat) : (s.setFld f v).upd = s.upd := rfl
@[simp] theorem State.setFld_opts (f : Fld) (v : Nat) : (s.setFld f v).opts = s.opts := rfl
@[simp] theorem State.setFld_fieldReady (f : Fld) (v : Nat) : (s.setFld f v).fieldReady = s.fieldReady := rfl
@[simp] theorem State.setFld_nextId (f : Fld) (v : Nat) : (s.setFld f v).nextId = s.nextId := rfl
@[simp] theorem State.setFld_pending (f : Fld) (v : Nat) : (s.setFld f v).pending = s.pending := rfl

/-! ## `State.bump` -/

@[simp] theorem State.bump_mem (a : Nat) : (s.bump a).mem = s.mem := rfl
@[simp] theorem State.bump_flash (a : Nat) : (s.bump a).flash = s.flash := rfl
@[simp] theorem State.bump_staged (a : Nat) : (s.bump a).staged = s.staged := rfl
@[simp] theorem State.bump_hold (a : Nat) : (s.bump a).hold = s.hold := rfl
@[simp] theorem State.bump_eqs (a : Nat) : (s.bump a).eqs = s.eqs := rfl
@[simp] theorem State.bump_out (a : Nat) : (s.bump a).out = s.out := rfl
@[simp] theorem State.bump_freeCnt (a : Nat) : (s.bump a).freeCnt = s.freeCnt := rfl
@[simp] theorem State.bump_tbl (a : Nat) : (s.bump a).tbl = s.tbl := rfl
@[simp] theorem State.bump_tblOld (a : Nat) : (s.bump a).tblOld = s.tblOld := rfl
@[simp] theorem State.bump_str (a : Nat) : (s.bump a).str = s.str := rfl
@[simp] theorem State.bump_stores (a : Nat) : (s.bump a).stores = s.stores := rfl
@[simp] theorem State.bump_archive (a : Nat) : (s.bump a).archive = s.archive := rfl
@[simp] theorem State.bump_cells (a : Nat) : (s.bump a).cells = s.cells := rfl
@[simp] theorem State.bump_sig (a : Nat) : (s.bump a).sig = s.sig := rfl
@[simp] theorem State.bump_pages (a : Nat) : (s.bump a).pages = s.pages := rfl
@[simp] theorem State.bump_tb (a : Nat) : (s.bump a).tb = s.tb := rfl
@[simp] theorem State.bump_trk (a : Nat) : (s.bump a).trk = s.trk := rfl
@[simp] theorem State.bump_limits (a : Nat) : (s.bump a).limits = s.limits := rfl
@[simp] theorem State.bump_evRoutes (a : Nat) : (s.bump a).evRoutes = s.evRoutes := rfl
@[simp] theorem State.bump_pdus (a : Nat) : (s.bump a).pdus = s.pdus := rfl
@[simp] theorem State.bump_engines (a : Nat) : (s.bump a).engines = s.engines := rfl
@[simp] theorem State.bump_waking (a : Nat) : (s.bump a).waking = s.waking := rfl
@[simp] theorem State.bump_spared (a : Nat) : (s.bump a).spared = s.spared := rfl
@[simp] theorem State.bump_mbs (a : Nat) : (s.bump a).mbs = s.mbs := rfl
@[simp] theorem State.bump_can (a : Nat) : (s.bump a).can = s.can := rfl
@[simp] theorem State.bump_lanes (a : Nat) : (s.bump a).lanes = s.lanes := rfl
@[simp] theorem State.bump_banks (a : Nat) : (s.bump a).banks = s.banks := rfl
@[simp] theorem State.bump_queues (a : Nat) : (s.bump a).queues = s.queues := rfl
@[simp] theorem State.bump_ports (a : Nat) : (s.bump a).ports = s.ports := rfl
@[simp] theorem State.bump_saltern (a : Nat) : (s.bump a).saltern = s.saltern := rfl
@[simp] theorem State.bump_pduSeq (a : Nat) : (s.bump a).pduSeq = s.pduSeq := rfl
@[simp] theorem State.bump_ringWins (a : Nat) : (s.bump a).ringWins = s.ringWins := rfl
@[simp] theorem State.bump_ringPeers (a : Nat) : (s.bump a).ringPeers = s.ringPeers := rfl
@[simp] theorem State.bump_ring (a : Nat) : (s.bump a).ring = s.ring := rfl
@[simp] theorem State.bump_slots (a : Nat) : (s.bump a).slots = s.slots := rfl
@[simp] theorem State.bump_pols (a : Nat) : (s.bump a).pols = s.pols := rfl
@[simp] theorem State.bump_holdBuf (a : Nat) : (s.bump a).holdBuf = s.holdBuf := rfl
@[simp] theorem State.bump_bridge (a : Nat) : (s.bump a).bridge = s.bridge := rfl
@[simp] theorem State.bump_rings (a : Nat) : (s.bump a).rings = s.rings := rfl
@[simp] theorem State.bump_jobTurn (a : Nat) : (s.bump a).jobTurn = s.jobTurn := rfl
@[simp] theorem State.bump_acts (a : Nat) : (s.bump a).acts = s.acts := rfl
@[simp] theorem State.bump_crowd (a : Nat) : (s.bump a).crowd = s.crowd := rfl
@[simp] theorem State.bump_hlt (a : Nat) : (s.bump a).hlt = s.hlt := rfl
@[simp] theorem State.bump_dev (a : Nat) : (s.bump a).dev = s.dev := rfl
@[simp] theorem State.bump_upd (a : Nat) : (s.bump a).upd = s.upd := rfl
@[simp] theorem State.bump_opts (a : Nat) : (s.bump a).opts = s.opts := rfl
@[simp] theorem State.bump_fieldReady (a : Nat) : (s.bump a).fieldReady = s.fieldReady := rfl
@[simp] theorem State.bump_nextId (a : Nat) : (s.bump a).nextId = s.nextId := rfl
@[simp] theorem State.bump_pending (a : Nat) : (s.bump a).pending = s.pending := rfl

/-! ## `State.tick` -/

@[simp] theorem State.tick_mem (a : Nat) : (s.tick a).mem = s.mem := rfl
@[simp] theorem State.tick_flash (a : Nat) : (s.tick a).flash = s.flash := rfl
@[simp] theorem State.tick_staged (a : Nat) : (s.tick a).staged = s.staged := rfl
@[simp] theorem State.tick_hold (a : Nat) : (s.tick a).hold = s.hold := rfl
@[simp] theorem State.tick_eqs (a : Nat) : (s.tick a).eqs = s.eqs := rfl
@[simp] theorem State.tick_out (a : Nat) : (s.tick a).out = s.out := rfl
@[simp] theorem State.tick_freeCnt (a : Nat) : (s.tick a).freeCnt = s.freeCnt := rfl
@[simp] theorem State.tick_tbl (a : Nat) : (s.tick a).tbl = s.tbl := rfl
@[simp] theorem State.tick_tblOld (a : Nat) : (s.tick a).tblOld = s.tblOld := rfl
@[simp] theorem State.tick_str (a : Nat) : (s.tick a).str = s.str := rfl
@[simp] theorem State.tick_stores (a : Nat) : (s.tick a).stores = s.stores := rfl
@[simp] theorem State.tick_archive (a : Nat) : (s.tick a).archive = s.archive := rfl
@[simp] theorem State.tick_cells (a : Nat) : (s.tick a).cells = s.cells := rfl
@[simp] theorem State.tick_sig (a : Nat) : (s.tick a).sig = s.sig := rfl
@[simp] theorem State.tick_pages (a : Nat) : (s.tick a).pages = s.pages := rfl
@[simp] theorem State.tick_tb (a : Nat) : (s.tick a).tb = s.tb := rfl
@[simp] theorem State.tick_trk (a : Nat) : (s.tick a).trk = s.trk := rfl
@[simp] theorem State.tick_limits (a : Nat) : (s.tick a).limits = s.limits := rfl
@[simp] theorem State.tick_evRoutes (a : Nat) : (s.tick a).evRoutes = s.evRoutes := rfl
@[simp] theorem State.tick_pdus (a : Nat) : (s.tick a).pdus = s.pdus := rfl
@[simp] theorem State.tick_engines (a : Nat) : (s.tick a).engines = s.engines := rfl
@[simp] theorem State.tick_waking (a : Nat) : (s.tick a).waking = s.waking := rfl
@[simp] theorem State.tick_spared (a : Nat) : (s.tick a).spared = s.spared := rfl
@[simp] theorem State.tick_mbs (a : Nat) : (s.tick a).mbs = s.mbs := rfl
@[simp] theorem State.tick_can (a : Nat) : (s.tick a).can = s.can := rfl
@[simp] theorem State.tick_lanes (a : Nat) : (s.tick a).lanes = s.lanes := rfl
@[simp] theorem State.tick_banks (a : Nat) : (s.tick a).banks = s.banks := rfl
@[simp] theorem State.tick_queues (a : Nat) : (s.tick a).queues = s.queues := rfl
@[simp] theorem State.tick_ports (a : Nat) : (s.tick a).ports = s.ports := rfl
@[simp] theorem State.tick_saltern (a : Nat) : (s.tick a).saltern = s.saltern := rfl
@[simp] theorem State.tick_pduSeq (a : Nat) : (s.tick a).pduSeq = s.pduSeq := rfl
@[simp] theorem State.tick_ringWins (a : Nat) : (s.tick a).ringWins = s.ringWins := rfl
@[simp] theorem State.tick_ringPeers (a : Nat) : (s.tick a).ringPeers = s.ringPeers := rfl
@[simp] theorem State.tick_ring (a : Nat) : (s.tick a).ring = s.ring := rfl
@[simp] theorem State.tick_slots (a : Nat) : (s.tick a).slots = s.slots := rfl
@[simp] theorem State.tick_pols (a : Nat) : (s.tick a).pols = s.pols := rfl
@[simp] theorem State.tick_holdBuf (a : Nat) : (s.tick a).holdBuf = s.holdBuf := rfl
@[simp] theorem State.tick_bridge (a : Nat) : (s.tick a).bridge = s.bridge := rfl
@[simp] theorem State.tick_rings (a : Nat) : (s.tick a).rings = s.rings := rfl
@[simp] theorem State.tick_jobTurn (a : Nat) : (s.tick a).jobTurn = s.jobTurn := rfl
@[simp] theorem State.tick_acts (a : Nat) : (s.tick a).acts = s.acts := rfl
@[simp] theorem State.tick_crowd (a : Nat) : (s.tick a).crowd = s.crowd := rfl
@[simp] theorem State.tick_hlt (a : Nat) : (s.tick a).hlt = s.hlt := rfl
@[simp] theorem State.tick_dev (a : Nat) : (s.tick a).dev = s.dev := rfl
@[simp] theorem State.tick_upd (a : Nat) : (s.tick a).upd = s.upd := rfl
@[simp] theorem State.tick_opts (a : Nat) : (s.tick a).opts = s.opts := rfl
@[simp] theorem State.tick_fieldReady (a : Nat) : (s.tick a).fieldReady = s.fieldReady := rfl
@[simp] theorem State.tick_nextId (a : Nat) : (s.tick a).nextId = s.nextId := rfl
@[simp] theorem State.tick_pending (a : Nat) : (s.tick a).pending = s.pending := rfl

/-! ## `State.setByte` -/

@[simp] theorem State.setByte_regs (a : Nat) (b : Byte) : (s.setByte a b).regs = s.regs := rfl
@[simp] theorem State.setByte_flash (a : Nat) (b : Byte) : (s.setByte a b).flash = s.flash := rfl
@[simp] theorem State.setByte_staged (a : Nat) (b : Byte) : (s.setByte a b).staged = s.staged := rfl
@[simp] theorem State.setByte_hold (a : Nat) (b : Byte) : (s.setByte a b).hold = s.hold := rfl
@[simp] theorem State.setByte_eqs (a : Nat) (b : Byte) : (s.setByte a b).eqs = s.eqs := rfl
@[simp] theorem State.setByte_out (a : Nat) (b : Byte) : (s.setByte a b).out = s.out := rfl
@[simp] theorem State.setByte_freeCnt (a : Nat) (b : Byte) : (s.setByte a b).freeCnt = s.freeCnt := rfl
@[simp] theorem State.setByte_tbl (a : Nat) (b : Byte) : (s.setByte a b).tbl = s.tbl := rfl
@[simp] theorem State.setByte_tblOld (a : Nat) (b : Byte) : (s.setByte a b).tblOld = s.tblOld := rfl
@[simp] theorem State.setByte_str (a : Nat) (b : Byte) : (s.setByte a b).str = s.str := rfl
@[simp] theorem State.setByte_stores (a : Nat) (b : Byte) : (s.setByte a b).stores = s.stores := rfl
@[simp] theorem State.setByte_archive (a : Nat) (b : Byte) : (s.setByte a b).archive = s.archive := rfl
@[simp] theorem State.setByte_cells (a : Nat) (b : Byte) : (s.setByte a b).cells = s.cells := rfl
@[simp] theorem State.setByte_sig (a : Nat) (b : Byte) : (s.setByte a b).sig = s.sig := rfl
@[simp] theorem State.setByte_pages (a : Nat) (b : Byte) : (s.setByte a b).pages = s.pages := rfl
@[simp] theorem State.setByte_tb (a : Nat) (b : Byte) : (s.setByte a b).tb = s.tb := rfl
@[simp] theorem State.setByte_trk (a : Nat) (b : Byte) : (s.setByte a b).trk = s.trk := rfl
@[simp] theorem State.setByte_limits (a : Nat) (b : Byte) : (s.setByte a b).limits = s.limits := rfl
@[simp] theorem State.setByte_evRoutes (a : Nat) (b : Byte) : (s.setByte a b).evRoutes = s.evRoutes := rfl
@[simp] theorem State.setByte_pdus (a : Nat) (b : Byte) : (s.setByte a b).pdus = s.pdus := rfl
@[simp] theorem State.setByte_engines (a : Nat) (b : Byte) : (s.setByte a b).engines = s.engines := rfl
@[simp] theorem State.setByte_waking (a : Nat) (b : Byte) : (s.setByte a b).waking = s.waking := rfl
@[simp] theorem State.setByte_spared (a : Nat) (b : Byte) : (s.setByte a b).spared = s.spared := rfl
@[simp] theorem State.setByte_mbs (a : Nat) (b : Byte) : (s.setByte a b).mbs = s.mbs := rfl
@[simp] theorem State.setByte_can (a : Nat) (b : Byte) : (s.setByte a b).can = s.can := rfl
@[simp] theorem State.setByte_lanes (a : Nat) (b : Byte) : (s.setByte a b).lanes = s.lanes := rfl
@[simp] theorem State.setByte_banks (a : Nat) (b : Byte) : (s.setByte a b).banks = s.banks := rfl
@[simp] theorem State.setByte_queues (a : Nat) (b : Byte) : (s.setByte a b).queues = s.queues := rfl
@[simp] theorem State.setByte_ports (a : Nat) (b : Byte) : (s.setByte a b).ports = s.ports := rfl
@[simp] theorem State.setByte_saltern (a : Nat) (b : Byte) : (s.setByte a b).saltern = s.saltern := rfl
@[simp] theorem State.setByte_pduSeq (a : Nat) (b : Byte) : (s.setByte a b).pduSeq = s.pduSeq := rfl
@[simp] theorem State.setByte_ringWins (a : Nat) (b : Byte) : (s.setByte a b).ringWins = s.ringWins := rfl
@[simp] theorem State.setByte_ringPeers (a : Nat) (b : Byte) : (s.setByte a b).ringPeers = s.ringPeers := rfl
@[simp] theorem State.setByte_ring (a : Nat) (b : Byte) : (s.setByte a b).ring = s.ring := rfl
@[simp] theorem State.setByte_slots (a : Nat) (b : Byte) : (s.setByte a b).slots = s.slots := rfl
@[simp] theorem State.setByte_pols (a : Nat) (b : Byte) : (s.setByte a b).pols = s.pols := rfl
@[simp] theorem State.setByte_holdBuf (a : Nat) (b : Byte) : (s.setByte a b).holdBuf = s.holdBuf := rfl
@[simp] theorem State.setByte_bridge (a : Nat) (b : Byte) : (s.setByte a b).bridge = s.bridge := rfl
@[simp] theorem State.setByte_rings (a : Nat) (b : Byte) : (s.setByte a b).rings = s.rings := rfl
@[simp] theorem State.setByte_jobTurn (a : Nat) (b : Byte) : (s.setByte a b).jobTurn = s.jobTurn := rfl
@[simp] theorem State.setByte_acts (a : Nat) (b : Byte) : (s.setByte a b).acts = s.acts := rfl
@[simp] theorem State.setByte_crowd (a : Nat) (b : Byte) : (s.setByte a b).crowd = s.crowd := rfl
@[simp] theorem State.setByte_hlt (a : Nat) (b : Byte) : (s.setByte a b).hlt = s.hlt := rfl
@[simp] theorem State.setByte_dev (a : Nat) (b : Byte) : (s.setByte a b).dev = s.dev := rfl
@[simp] theorem State.setByte_upd (a : Nat) (b : Byte) : (s.setByte a b).upd = s.upd := rfl
@[simp] theorem State.setByte_opts (a : Nat) (b : Byte) : (s.setByte a b).opts = s.opts := rfl
@[simp] theorem State.setByte_fieldReady (a : Nat) (b : Byte) : (s.setByte a b).fieldReady = s.fieldReady := rfl
@[simp] theorem State.setByte_nextId (a : Nat) (b : Byte) : (s.setByte a b).nextId = s.nextId := rfl
@[simp] theorem State.setByte_pending (a : Nat) (b : Byte) : (s.setByte a b).pending = s.pending := rfl

/-! ## `State.setBytes` -/

@[simp] theorem State.setBytes_regs (a : Nat) (bs : List Byte) : (s.setBytes a bs).regs = s.regs := rfl
@[simp] theorem State.setBytes_flash (a : Nat) (bs : List Byte) : (s.setBytes a bs).flash = s.flash := rfl
@[simp] theorem State.setBytes_staged (a : Nat) (bs : List Byte) : (s.setBytes a bs).staged = s.staged := rfl
@[simp] theorem State.setBytes_hold (a : Nat) (bs : List Byte) : (s.setBytes a bs).hold = s.hold := rfl
@[simp] theorem State.setBytes_eqs (a : Nat) (bs : List Byte) : (s.setBytes a bs).eqs = s.eqs := rfl
@[simp] theorem State.setBytes_out (a : Nat) (bs : List Byte) : (s.setBytes a bs).out = s.out := rfl
@[simp] theorem State.setBytes_freeCnt (a : Nat) (bs : List Byte) : (s.setBytes a bs).freeCnt = s.freeCnt := rfl
@[simp] theorem State.setBytes_tbl (a : Nat) (bs : List Byte) : (s.setBytes a bs).tbl = s.tbl := rfl
@[simp] theorem State.setBytes_tblOld (a : Nat) (bs : List Byte) : (s.setBytes a bs).tblOld = s.tblOld := rfl
@[simp] theorem State.setBytes_str (a : Nat) (bs : List Byte) : (s.setBytes a bs).str = s.str := rfl
@[simp] theorem State.setBytes_stores (a : Nat) (bs : List Byte) : (s.setBytes a bs).stores = s.stores := rfl
@[simp] theorem State.setBytes_archive (a : Nat) (bs : List Byte) : (s.setBytes a bs).archive = s.archive := rfl
@[simp] theorem State.setBytes_cells (a : Nat) (bs : List Byte) : (s.setBytes a bs).cells = s.cells := rfl
@[simp] theorem State.setBytes_sig (a : Nat) (bs : List Byte) : (s.setBytes a bs).sig = s.sig := rfl
@[simp] theorem State.setBytes_pages (a : Nat) (bs : List Byte) : (s.setBytes a bs).pages = s.pages := rfl
@[simp] theorem State.setBytes_tb (a : Nat) (bs : List Byte) : (s.setBytes a bs).tb = s.tb := rfl
@[simp] theorem State.setBytes_trk (a : Nat) (bs : List Byte) : (s.setBytes a bs).trk = s.trk := rfl
@[simp] theorem State.setBytes_limits (a : Nat) (bs : List Byte) : (s.setBytes a bs).limits = s.limits := rfl
@[simp] theorem State.setBytes_evRoutes (a : Nat) (bs : List Byte) : (s.setBytes a bs).evRoutes = s.evRoutes := rfl
@[simp] theorem State.setBytes_pdus (a : Nat) (bs : List Byte) : (s.setBytes a bs).pdus = s.pdus := rfl
@[simp] theorem State.setBytes_engines (a : Nat) (bs : List Byte) : (s.setBytes a bs).engines = s.engines := rfl
@[simp] theorem State.setBytes_waking (a : Nat) (bs : List Byte) : (s.setBytes a bs).waking = s.waking := rfl
@[simp] theorem State.setBytes_spared (a : Nat) (bs : List Byte) : (s.setBytes a bs).spared = s.spared := rfl
@[simp] theorem State.setBytes_mbs (a : Nat) (bs : List Byte) : (s.setBytes a bs).mbs = s.mbs := rfl
@[simp] theorem State.setBytes_can (a : Nat) (bs : List Byte) : (s.setBytes a bs).can = s.can := rfl
@[simp] theorem State.setBytes_lanes (a : Nat) (bs : List Byte) : (s.setBytes a bs).lanes = s.lanes := rfl
@[simp] theorem State.setBytes_banks (a : Nat) (bs : List Byte) : (s.setBytes a bs).banks = s.banks := rfl
@[simp] theorem State.setBytes_queues (a : Nat) (bs : List Byte) : (s.setBytes a bs).queues = s.queues := rfl
@[simp] theorem State.setBytes_ports (a : Nat) (bs : List Byte) : (s.setBytes a bs).ports = s.ports := rfl
@[simp] theorem State.setBytes_saltern (a : Nat) (bs : List Byte) : (s.setBytes a bs).saltern = s.saltern := rfl
@[simp] theorem State.setBytes_pduSeq (a : Nat) (bs : List Byte) : (s.setBytes a bs).pduSeq = s.pduSeq := rfl
@[simp] theorem State.setBytes_ringWins (a : Nat) (bs : List Byte) : (s.setBytes a bs).ringWins = s.ringWins := rfl
@[simp] theorem State.setBytes_ringPeers (a : Nat) (bs : List Byte) : (s.setBytes a bs).ringPeers = s.ringPeers := rfl
@[simp] theorem State.setBytes_ring (a : Nat) (bs : List Byte) : (s.setBytes a bs).ring = s.ring := rfl
@[simp] theorem State.setBytes_slots (a : Nat) (bs : List Byte) : (s.setBytes a bs).slots = s.slots := rfl
@[simp] theorem State.setBytes_pols (a : Nat) (bs : List Byte) : (s.setBytes a bs).pols = s.pols := rfl
@[simp] theorem State.setBytes_holdBuf (a : Nat) (bs : List Byte) : (s.setBytes a bs).holdBuf = s.holdBuf := rfl
@[simp] theorem State.setBytes_bridge (a : Nat) (bs : List Byte) : (s.setBytes a bs).bridge = s.bridge := rfl
@[simp] theorem State.setBytes_rings (a : Nat) (bs : List Byte) : (s.setBytes a bs).rings = s.rings := rfl
@[simp] theorem State.setBytes_jobTurn (a : Nat) (bs : List Byte) : (s.setBytes a bs).jobTurn = s.jobTurn := rfl
@[simp] theorem State.setBytes_acts (a : Nat) (bs : List Byte) : (s.setBytes a bs).acts = s.acts := rfl
@[simp] theorem State.setBytes_crowd (a : Nat) (bs : List Byte) : (s.setBytes a bs).crowd = s.crowd := rfl
@[simp] theorem State.setBytes_hlt (a : Nat) (bs : List Byte) : (s.setBytes a bs).hlt = s.hlt := rfl
@[simp] theorem State.setBytes_dev (a : Nat) (bs : List Byte) : (s.setBytes a bs).dev = s.dev := rfl
@[simp] theorem State.setBytes_upd (a : Nat) (bs : List Byte) : (s.setBytes a bs).upd = s.upd := rfl
@[simp] theorem State.setBytes_opts (a : Nat) (bs : List Byte) : (s.setBytes a bs).opts = s.opts := rfl
@[simp] theorem State.setBytes_fieldReady (a : Nat) (bs : List Byte) : (s.setBytes a bs).fieldReady = s.fieldReady := rfl
@[simp] theorem State.setBytes_nextId (a : Nat) (bs : List Byte) : (s.setBytes a bs).nextId = s.nextId := rfl
@[simp] theorem State.setBytes_pending (a : Nat) (bs : List Byte) : (s.setBytes a bs).pending = s.pending := rfl

/-! ## `State.setMemWord` -/

@[simp] theorem State.setMemWord_regs (a : Nat) (v : Word) : (s.setMemWord a v).regs = s.regs := rfl
@[simp] theorem State.setMemWord_flash (a : Nat) (v : Word) : (s.setMemWord a v).flash = s.flash := rfl
@[simp] theorem State.setMemWord_staged (a : Nat) (v : Word) : (s.setMemWord a v).staged = s.staged := rfl
@[simp] theorem State.setMemWord_hold (a : Nat) (v : Word) : (s.setMemWord a v).hold = s.hold := rfl
@[simp] theorem State.setMemWord_eqs (a : Nat) (v : Word) : (s.setMemWord a v).eqs = s.eqs := rfl
@[simp] theorem State.setMemWord_out (a : Nat) (v : Word) : (s.setMemWord a v).out = s.out := rfl
@[simp] theorem State.setMemWord_freeCnt (a : Nat) (v : Word) : (s.setMemWord a v).freeCnt = s.freeCnt := rfl
@[simp] theorem State.setMemWord_tbl (a : Nat) (v : Word) : (s.setMemWord a v).tbl = s.tbl := rfl
@[simp] theorem State.setMemWord_tblOld (a : Nat) (v : Word) : (s.setMemWord a v).tblOld = s.tblOld := rfl
@[simp] theorem State.setMemWord_str (a : Nat) (v : Word) : (s.setMemWord a v).str = s.str := rfl
@[simp] theorem State.setMemWord_stores (a : Nat) (v : Word) : (s.setMemWord a v).stores = s.stores := rfl
@[simp] theorem State.setMemWord_archive (a : Nat) (v : Word) : (s.setMemWord a v).archive = s.archive := rfl
@[simp] theorem State.setMemWord_cells (a : Nat) (v : Word) : (s.setMemWord a v).cells = s.cells := rfl
@[simp] theorem State.setMemWord_sig (a : Nat) (v : Word) : (s.setMemWord a v).sig = s.sig := rfl
@[simp] theorem State.setMemWord_pages (a : Nat) (v : Word) : (s.setMemWord a v).pages = s.pages := rfl
@[simp] theorem State.setMemWord_tb (a : Nat) (v : Word) : (s.setMemWord a v).tb = s.tb := rfl
@[simp] theorem State.setMemWord_trk (a : Nat) (v : Word) : (s.setMemWord a v).trk = s.trk := rfl
@[simp] theorem State.setMemWord_limits (a : Nat) (v : Word) : (s.setMemWord a v).limits = s.limits := rfl
@[simp] theorem State.setMemWord_evRoutes (a : Nat) (v : Word) : (s.setMemWord a v).evRoutes = s.evRoutes := rfl
@[simp] theorem State.setMemWord_pdus (a : Nat) (v : Word) : (s.setMemWord a v).pdus = s.pdus := rfl
@[simp] theorem State.setMemWord_engines (a : Nat) (v : Word) : (s.setMemWord a v).engines = s.engines := rfl
@[simp] theorem State.setMemWord_waking (a : Nat) (v : Word) : (s.setMemWord a v).waking = s.waking := rfl
@[simp] theorem State.setMemWord_spared (a : Nat) (v : Word) : (s.setMemWord a v).spared = s.spared := rfl
@[simp] theorem State.setMemWord_mbs (a : Nat) (v : Word) : (s.setMemWord a v).mbs = s.mbs := rfl
@[simp] theorem State.setMemWord_can (a : Nat) (v : Word) : (s.setMemWord a v).can = s.can := rfl
@[simp] theorem State.setMemWord_lanes (a : Nat) (v : Word) : (s.setMemWord a v).lanes = s.lanes := rfl
@[simp] theorem State.setMemWord_banks (a : Nat) (v : Word) : (s.setMemWord a v).banks = s.banks := rfl
@[simp] theorem State.setMemWord_queues (a : Nat) (v : Word) : (s.setMemWord a v).queues = s.queues := rfl
@[simp] theorem State.setMemWord_ports (a : Nat) (v : Word) : (s.setMemWord a v).ports = s.ports := rfl
@[simp] theorem State.setMemWord_saltern (a : Nat) (v : Word) : (s.setMemWord a v).saltern = s.saltern := rfl
@[simp] theorem State.setMemWord_pduSeq (a : Nat) (v : Word) : (s.setMemWord a v).pduSeq = s.pduSeq := rfl
@[simp] theorem State.setMemWord_ringWins (a : Nat) (v : Word) : (s.setMemWord a v).ringWins = s.ringWins := rfl
@[simp] theorem State.setMemWord_ringPeers (a : Nat) (v : Word) : (s.setMemWord a v).ringPeers = s.ringPeers := rfl
@[simp] theorem State.setMemWord_ring (a : Nat) (v : Word) : (s.setMemWord a v).ring = s.ring := rfl
@[simp] theorem State.setMemWord_slots (a : Nat) (v : Word) : (s.setMemWord a v).slots = s.slots := rfl
@[simp] theorem State.setMemWord_pols (a : Nat) (v : Word) : (s.setMemWord a v).pols = s.pols := rfl
@[simp] theorem State.setMemWord_holdBuf (a : Nat) (v : Word) : (s.setMemWord a v).holdBuf = s.holdBuf := rfl
@[simp] theorem State.setMemWord_bridge (a : Nat) (v : Word) : (s.setMemWord a v).bridge = s.bridge := rfl
@[simp] theorem State.setMemWord_rings (a : Nat) (v : Word) : (s.setMemWord a v).rings = s.rings := rfl
@[simp] theorem State.setMemWord_jobTurn (a : Nat) (v : Word) : (s.setMemWord a v).jobTurn = s.jobTurn := rfl
@[simp] theorem State.setMemWord_acts (a : Nat) (v : Word) : (s.setMemWord a v).acts = s.acts := rfl
@[simp] theorem State.setMemWord_crowd (a : Nat) (v : Word) : (s.setMemWord a v).crowd = s.crowd := rfl
@[simp] theorem State.setMemWord_hlt (a : Nat) (v : Word) : (s.setMemWord a v).hlt = s.hlt := rfl
@[simp] theorem State.setMemWord_dev (a : Nat) (v : Word) : (s.setMemWord a v).dev = s.dev := rfl
@[simp] theorem State.setMemWord_upd (a : Nat) (v : Word) : (s.setMemWord a v).upd = s.upd := rfl
@[simp] theorem State.setMemWord_opts (a : Nat) (v : Word) : (s.setMemWord a v).opts = s.opts := rfl
@[simp] theorem State.setMemWord_fieldReady (a : Nat) (v : Word) : (s.setMemWord a v).fieldReady = s.fieldReady := rfl
@[simp] theorem State.setMemWord_nextId (a : Nat) (v : Word) : (s.setMemWord a v).nextId = s.nextId := rfl
@[simp] theorem State.setMemWord_pending (a : Nat) (v : Word) : (s.setMemWord a v).pending = s.pending := rfl

/-! ## `State.setFlash` -/

@[simp] theorem State.setFlash_regs (a : Nat) (bs : List Byte) : (s.setFlash a bs).regs = s.regs := rfl
@[simp] theorem State.setFlash_mem (a : Nat) (bs : List Byte) : (s.setFlash a bs).mem = s.mem := rfl
@[simp] theorem State.setFlash_staged (a : Nat) (bs : List Byte) : (s.setFlash a bs).staged = s.staged := rfl
@[simp] theorem State.setFlash_hold (a : Nat) (bs : List Byte) : (s.setFlash a bs).hold = s.hold := rfl
@[simp] theorem State.setFlash_eqs (a : Nat) (bs : List Byte) : (s.setFlash a bs).eqs = s.eqs := rfl
@[simp] theorem State.setFlash_out (a : Nat) (bs : List Byte) : (s.setFlash a bs).out = s.out := rfl
@[simp] theorem State.setFlash_freeCnt (a : Nat) (bs : List Byte) : (s.setFlash a bs).freeCnt = s.freeCnt := rfl
@[simp] theorem State.setFlash_tbl (a : Nat) (bs : List Byte) : (s.setFlash a bs).tbl = s.tbl := rfl
@[simp] theorem State.setFlash_tblOld (a : Nat) (bs : List Byte) : (s.setFlash a bs).tblOld = s.tblOld := rfl
@[simp] theorem State.setFlash_str (a : Nat) (bs : List Byte) : (s.setFlash a bs).str = s.str := rfl
@[simp] theorem State.setFlash_stores (a : Nat) (bs : List Byte) : (s.setFlash a bs).stores = s.stores := rfl
@[simp] theorem State.setFlash_archive (a : Nat) (bs : List Byte) : (s.setFlash a bs).archive = s.archive := rfl
@[simp] theorem State.setFlash_cells (a : Nat) (bs : List Byte) : (s.setFlash a bs).cells = s.cells := rfl
@[simp] theorem State.setFlash_sig (a : Nat) (bs : List Byte) : (s.setFlash a bs).sig = s.sig := rfl
@[simp] theorem State.setFlash_pages (a : Nat) (bs : List Byte) : (s.setFlash a bs).pages = s.pages := rfl
@[simp] theorem State.setFlash_tb (a : Nat) (bs : List Byte) : (s.setFlash a bs).tb = s.tb := rfl
@[simp] theorem State.setFlash_trk (a : Nat) (bs : List Byte) : (s.setFlash a bs).trk = s.trk := rfl
@[simp] theorem State.setFlash_limits (a : Nat) (bs : List Byte) : (s.setFlash a bs).limits = s.limits := rfl
@[simp] theorem State.setFlash_evRoutes (a : Nat) (bs : List Byte) : (s.setFlash a bs).evRoutes = s.evRoutes := rfl
@[simp] theorem State.setFlash_pdus (a : Nat) (bs : List Byte) : (s.setFlash a bs).pdus = s.pdus := rfl
@[simp] theorem State.setFlash_engines (a : Nat) (bs : List Byte) : (s.setFlash a bs).engines = s.engines := rfl
@[simp] theorem State.setFlash_waking (a : Nat) (bs : List Byte) : (s.setFlash a bs).waking = s.waking := rfl
@[simp] theorem State.setFlash_spared (a : Nat) (bs : List Byte) : (s.setFlash a bs).spared = s.spared := rfl
@[simp] theorem State.setFlash_mbs (a : Nat) (bs : List Byte) : (s.setFlash a bs).mbs = s.mbs := rfl
@[simp] theorem State.setFlash_can (a : Nat) (bs : List Byte) : (s.setFlash a bs).can = s.can := rfl
@[simp] theorem State.setFlash_lanes (a : Nat) (bs : List Byte) : (s.setFlash a bs).lanes = s.lanes := rfl
@[simp] theorem State.setFlash_banks (a : Nat) (bs : List Byte) : (s.setFlash a bs).banks = s.banks := rfl
@[simp] theorem State.setFlash_queues (a : Nat) (bs : List Byte) : (s.setFlash a bs).queues = s.queues := rfl
@[simp] theorem State.setFlash_ports (a : Nat) (bs : List Byte) : (s.setFlash a bs).ports = s.ports := rfl
@[simp] theorem State.setFlash_saltern (a : Nat) (bs : List Byte) : (s.setFlash a bs).saltern = s.saltern := rfl
@[simp] theorem State.setFlash_pduSeq (a : Nat) (bs : List Byte) : (s.setFlash a bs).pduSeq = s.pduSeq := rfl
@[simp] theorem State.setFlash_ringWins (a : Nat) (bs : List Byte) : (s.setFlash a bs).ringWins = s.ringWins := rfl
@[simp] theorem State.setFlash_ringPeers (a : Nat) (bs : List Byte) : (s.setFlash a bs).ringPeers = s.ringPeers := rfl
@[simp] theorem State.setFlash_ring (a : Nat) (bs : List Byte) : (s.setFlash a bs).ring = s.ring := rfl
@[simp] theorem State.setFlash_slots (a : Nat) (bs : List Byte) : (s.setFlash a bs).slots = s.slots := rfl
@[simp] theorem State.setFlash_pols (a : Nat) (bs : List Byte) : (s.setFlash a bs).pols = s.pols := rfl
@[simp] theorem State.setFlash_holdBuf (a : Nat) (bs : List Byte) : (s.setFlash a bs).holdBuf = s.holdBuf := rfl
@[simp] theorem State.setFlash_bridge (a : Nat) (bs : List Byte) : (s.setFlash a bs).bridge = s.bridge := rfl
@[simp] theorem State.setFlash_rings (a : Nat) (bs : List Byte) : (s.setFlash a bs).rings = s.rings := rfl
@[simp] theorem State.setFlash_jobTurn (a : Nat) (bs : List Byte) : (s.setFlash a bs).jobTurn = s.jobTurn := rfl
@[simp] theorem State.setFlash_acts (a : Nat) (bs : List Byte) : (s.setFlash a bs).acts = s.acts := rfl
@[simp] theorem State.setFlash_crowd (a : Nat) (bs : List Byte) : (s.setFlash a bs).crowd = s.crowd := rfl
@[simp] theorem State.setFlash_hlt (a : Nat) (bs : List Byte) : (s.setFlash a bs).hlt = s.hlt := rfl
@[simp] theorem State.setFlash_dev (a : Nat) (bs : List Byte) : (s.setFlash a bs).dev = s.dev := rfl
@[simp] theorem State.setFlash_upd (a : Nat) (bs : List Byte) : (s.setFlash a bs).upd = s.upd := rfl
@[simp] theorem State.setFlash_opts (a : Nat) (bs : List Byte) : (s.setFlash a bs).opts = s.opts := rfl
@[simp] theorem State.setFlash_fieldReady (a : Nat) (bs : List Byte) : (s.setFlash a bs).fieldReady = s.fieldReady := rfl
@[simp] theorem State.setFlash_nextId (a : Nat) (bs : List Byte) : (s.setFlash a bs).nextId = s.nextId := rfl
@[simp] theorem State.setFlash_pending (a : Nat) (bs : List Byte) : (s.setFlash a bs).pending = s.pending := rfl

/-! ## `State.emit` -/

@[simp] theorem State.emit_regs (e : Emit) : (s.emit e).regs = s.regs := rfl
@[simp] theorem State.emit_mem (e : Emit) : (s.emit e).mem = s.mem := rfl
@[simp] theorem State.emit_flash (e : Emit) : (s.emit e).flash = s.flash := rfl
@[simp] theorem State.emit_staged (e : Emit) : (s.emit e).staged = s.staged := rfl
@[simp] theorem State.emit_hold (e : Emit) : (s.emit e).hold = s.hold := rfl
@[simp] theorem State.emit_eqs (e : Emit) : (s.emit e).eqs = s.eqs := rfl
@[simp] theorem State.emit_freeCnt (e : Emit) : (s.emit e).freeCnt = s.freeCnt := rfl
@[simp] theorem State.emit_tbl (e : Emit) : (s.emit e).tbl = s.tbl := rfl
@[simp] theorem State.emit_tblOld (e : Emit) : (s.emit e).tblOld = s.tblOld := rfl
@[simp] theorem State.emit_str (e : Emit) : (s.emit e).str = s.str := rfl
@[simp] theorem State.emit_stores (e : Emit) : (s.emit e).stores = s.stores := rfl
@[simp] theorem State.emit_archive (e : Emit) : (s.emit e).archive = s.archive := rfl
@[simp] theorem State.emit_cells (e : Emit) : (s.emit e).cells = s.cells := rfl
@[simp] theorem State.emit_sig (e : Emit) : (s.emit e).sig = s.sig := rfl
@[simp] theorem State.emit_pages (e : Emit) : (s.emit e).pages = s.pages := rfl
@[simp] theorem State.emit_tb (e : Emit) : (s.emit e).tb = s.tb := rfl
@[simp] theorem State.emit_trk (e : Emit) : (s.emit e).trk = s.trk := rfl
@[simp] theorem State.emit_limits (e : Emit) : (s.emit e).limits = s.limits := rfl
@[simp] theorem State.emit_evRoutes (e : Emit) : (s.emit e).evRoutes = s.evRoutes := rfl
@[simp] theorem State.emit_pdus (e : Emit) : (s.emit e).pdus = s.pdus := rfl
@[simp] theorem State.emit_engines (e : Emit) : (s.emit e).engines = s.engines := rfl
@[simp] theorem State.emit_waking (e : Emit) : (s.emit e).waking = s.waking := rfl
@[simp] theorem State.emit_spared (e : Emit) : (s.emit e).spared = s.spared := rfl
@[simp] theorem State.emit_mbs (e : Emit) : (s.emit e).mbs = s.mbs := rfl
@[simp] theorem State.emit_can (e : Emit) : (s.emit e).can = s.can := rfl
@[simp] theorem State.emit_lanes (e : Emit) : (s.emit e).lanes = s.lanes := rfl
@[simp] theorem State.emit_banks (e : Emit) : (s.emit e).banks = s.banks := rfl
@[simp] theorem State.emit_queues (e : Emit) : (s.emit e).queues = s.queues := rfl
@[simp] theorem State.emit_ports (e : Emit) : (s.emit e).ports = s.ports := rfl
@[simp] theorem State.emit_saltern (e : Emit) : (s.emit e).saltern = s.saltern := rfl
@[simp] theorem State.emit_pduSeq (e : Emit) : (s.emit e).pduSeq = s.pduSeq := rfl
@[simp] theorem State.emit_ringWins (e : Emit) : (s.emit e).ringWins = s.ringWins := rfl
@[simp] theorem State.emit_ringPeers (e : Emit) : (s.emit e).ringPeers = s.ringPeers := rfl
@[simp] theorem State.emit_ring (e : Emit) : (s.emit e).ring = s.ring := rfl
@[simp] theorem State.emit_slots (e : Emit) : (s.emit e).slots = s.slots := rfl
@[simp] theorem State.emit_pols (e : Emit) : (s.emit e).pols = s.pols := rfl
@[simp] theorem State.emit_holdBuf (e : Emit) : (s.emit e).holdBuf = s.holdBuf := rfl
@[simp] theorem State.emit_bridge (e : Emit) : (s.emit e).bridge = s.bridge := rfl
@[simp] theorem State.emit_rings (e : Emit) : (s.emit e).rings = s.rings := rfl
@[simp] theorem State.emit_jobTurn (e : Emit) : (s.emit e).jobTurn = s.jobTurn := rfl
@[simp] theorem State.emit_acts (e : Emit) : (s.emit e).acts = s.acts := rfl
@[simp] theorem State.emit_crowd (e : Emit) : (s.emit e).crowd = s.crowd := rfl
@[simp] theorem State.emit_hlt (e : Emit) : (s.emit e).hlt = s.hlt := rfl
@[simp] theorem State.emit_dev (e : Emit) : (s.emit e).dev = s.dev := rfl
@[simp] theorem State.emit_upd (e : Emit) : (s.emit e).upd = s.upd := rfl
@[simp] theorem State.emit_opts (e : Emit) : (s.emit e).opts = s.opts := rfl
@[simp] theorem State.emit_fieldReady (e : Emit) : (s.emit e).fieldReady = s.fieldReady := rfl
@[simp] theorem State.emit_nextId (e : Emit) : (s.emit e).nextId = s.nextId := rfl
@[simp] theorem State.emit_pending (e : Emit) : (s.emit e).pending = s.pending := rfl

/-! ## `State.useFree` -/

@[simp] theorem State.useFree_regs : (s.useFree).regs = s.regs := rfl
@[simp] theorem State.useFree_mem : (s.useFree).mem = s.mem := rfl
@[simp] theorem State.useFree_flash : (s.useFree).flash = s.flash := rfl
@[simp] theorem State.useFree_staged : (s.useFree).staged = s.staged := rfl
@[simp] theorem State.useFree_hold : (s.useFree).hold = s.hold := rfl
@[simp] theorem State.useFree_eqs : (s.useFree).eqs = s.eqs := rfl
@[simp] theorem State.useFree_out : (s.useFree).out = s.out := rfl
@[simp] theorem State.useFree_tbl : (s.useFree).tbl = s.tbl := rfl
@[simp] theorem State.useFree_tblOld : (s.useFree).tblOld = s.tblOld := rfl
@[simp] theorem State.useFree_str : (s.useFree).str = s.str := rfl
@[simp] theorem State.useFree_stores : (s.useFree).stores = s.stores := rfl
@[simp] theorem State.useFree_archive : (s.useFree).archive = s.archive := rfl
@[simp] theorem State.useFree_cells : (s.useFree).cells = s.cells := rfl
@[simp] theorem State.useFree_sig : (s.useFree).sig = s.sig := rfl
@[simp] theorem State.useFree_pages : (s.useFree).pages = s.pages := rfl
@[simp] theorem State.useFree_tb : (s.useFree).tb = s.tb := rfl
@[simp] theorem State.useFree_trk : (s.useFree).trk = s.trk := rfl
@[simp] theorem State.useFree_limits : (s.useFree).limits = s.limits := rfl
@[simp] theorem State.useFree_evRoutes : (s.useFree).evRoutes = s.evRoutes := rfl
@[simp] theorem State.useFree_pdus : (s.useFree).pdus = s.pdus := rfl
@[simp] theorem State.useFree_engines : (s.useFree).engines = s.engines := rfl
@[simp] theorem State.useFree_waking : (s.useFree).waking = s.waking := rfl
@[simp] theorem State.useFree_spared : (s.useFree).spared = s.spared := rfl
@[simp] theorem State.useFree_mbs : (s.useFree).mbs = s.mbs := rfl
@[simp] theorem State.useFree_can : (s.useFree).can = s.can := rfl
@[simp] theorem State.useFree_lanes : (s.useFree).lanes = s.lanes := rfl
@[simp] theorem State.useFree_banks : (s.useFree).banks = s.banks := rfl
@[simp] theorem State.useFree_queues : (s.useFree).queues = s.queues := rfl
@[simp] theorem State.useFree_ports : (s.useFree).ports = s.ports := rfl
@[simp] theorem State.useFree_saltern : (s.useFree).saltern = s.saltern := rfl
@[simp] theorem State.useFree_pduSeq : (s.useFree).pduSeq = s.pduSeq := rfl
@[simp] theorem State.useFree_ringWins : (s.useFree).ringWins = s.ringWins := rfl
@[simp] theorem State.useFree_ringPeers : (s.useFree).ringPeers = s.ringPeers := rfl
@[simp] theorem State.useFree_ring : (s.useFree).ring = s.ring := rfl
@[simp] theorem State.useFree_slots : (s.useFree).slots = s.slots := rfl
@[simp] theorem State.useFree_pols : (s.useFree).pols = s.pols := rfl
@[simp] theorem State.useFree_holdBuf : (s.useFree).holdBuf = s.holdBuf := rfl
@[simp] theorem State.useFree_bridge : (s.useFree).bridge = s.bridge := rfl
@[simp] theorem State.useFree_rings : (s.useFree).rings = s.rings := rfl
@[simp] theorem State.useFree_jobTurn : (s.useFree).jobTurn = s.jobTurn := rfl
@[simp] theorem State.useFree_acts : (s.useFree).acts = s.acts := rfl
@[simp] theorem State.useFree_crowd : (s.useFree).crowd = s.crowd := rfl
@[simp] theorem State.useFree_hlt : (s.useFree).hlt = s.hlt := rfl
@[simp] theorem State.useFree_dev : (s.useFree).dev = s.dev := rfl
@[simp] theorem State.useFree_upd : (s.useFree).upd = s.upd := rfl
@[simp] theorem State.useFree_opts : (s.useFree).opts = s.opts := rfl
@[simp] theorem State.useFree_fieldReady : (s.useFree).fieldReady = s.fieldReady := rfl
@[simp] theorem State.useFree_nextId : (s.useFree).nextId = s.nextId := rfl
@[simp] theorem State.useFree_pending : (s.useFree).pending = s.pending := rfl

/-! ## `State.setCell` -/

@[simp] theorem State.setCell_regs (n : Nat) (c : Cell) : (s.setCell n c).regs = s.regs := rfl
@[simp] theorem State.setCell_mem (n : Nat) (c : Cell) : (s.setCell n c).mem = s.mem := rfl
@[simp] theorem State.setCell_flash (n : Nat) (c : Cell) : (s.setCell n c).flash = s.flash := rfl
@[simp] theorem State.setCell_staged (n : Nat) (c : Cell) : (s.setCell n c).staged = s.staged := rfl
@[simp] theorem State.setCell_hold (n : Nat) (c : Cell) : (s.setCell n c).hold = s.hold := rfl
@[simp] theorem State.setCell_eqs (n : Nat) (c : Cell) : (s.setCell n c).eqs = s.eqs := rfl
@[simp] theorem State.setCell_out (n : Nat) (c : Cell) : (s.setCell n c).out = s.out := rfl
@[simp] theorem State.setCell_freeCnt (n : Nat) (c : Cell) : (s.setCell n c).freeCnt = s.freeCnt := rfl
@[simp] theorem State.setCell_tbl (n : Nat) (c : Cell) : (s.setCell n c).tbl = s.tbl := rfl
@[simp] theorem State.setCell_tblOld (n : Nat) (c : Cell) : (s.setCell n c).tblOld = s.tblOld := rfl
@[simp] theorem State.setCell_str (n : Nat) (c : Cell) : (s.setCell n c).str = s.str := rfl
@[simp] theorem State.setCell_stores (n : Nat) (c : Cell) : (s.setCell n c).stores = s.stores := rfl
@[simp] theorem State.setCell_archive (n : Nat) (c : Cell) : (s.setCell n c).archive = s.archive := rfl
@[simp] theorem State.setCell_sig (n : Nat) (c : Cell) : (s.setCell n c).sig = s.sig := rfl
@[simp] theorem State.setCell_pages (n : Nat) (c : Cell) : (s.setCell n c).pages = s.pages := rfl
@[simp] theorem State.setCell_tb (n : Nat) (c : Cell) : (s.setCell n c).tb = s.tb := rfl
@[simp] theorem State.setCell_trk (n : Nat) (c : Cell) : (s.setCell n c).trk = s.trk := rfl
@[simp] theorem State.setCell_limits (n : Nat) (c : Cell) : (s.setCell n c).limits = s.limits := rfl
@[simp] theorem State.setCell_evRoutes (n : Nat) (c : Cell) : (s.setCell n c).evRoutes = s.evRoutes := rfl
@[simp] theorem State.setCell_pdus (n : Nat) (c : Cell) : (s.setCell n c).pdus = s.pdus := rfl
@[simp] theorem State.setCell_engines (n : Nat) (c : Cell) : (s.setCell n c).engines = s.engines := rfl
@[simp] theorem State.setCell_waking (n : Nat) (c : Cell) : (s.setCell n c).waking = s.waking := rfl
@[simp] theorem State.setCell_spared (n : Nat) (c : Cell) : (s.setCell n c).spared = s.spared := rfl
@[simp] theorem State.setCell_mbs (n : Nat) (c : Cell) : (s.setCell n c).mbs = s.mbs := rfl
@[simp] theorem State.setCell_can (n : Nat) (c : Cell) : (s.setCell n c).can = s.can := rfl
@[simp] theorem State.setCell_lanes (n : Nat) (c : Cell) : (s.setCell n c).lanes = s.lanes := rfl
@[simp] theorem State.setCell_banks (n : Nat) (c : Cell) : (s.setCell n c).banks = s.banks := rfl
@[simp] theorem State.setCell_queues (n : Nat) (c : Cell) : (s.setCell n c).queues = s.queues := rfl
@[simp] theorem State.setCell_ports (n : Nat) (c : Cell) : (s.setCell n c).ports = s.ports := rfl
@[simp] theorem State.setCell_saltern (n : Nat) (c : Cell) : (s.setCell n c).saltern = s.saltern := rfl
@[simp] theorem State.setCell_pduSeq (n : Nat) (c : Cell) : (s.setCell n c).pduSeq = s.pduSeq := rfl
@[simp] theorem State.setCell_ringWins (n : Nat) (c : Cell) : (s.setCell n c).ringWins = s.ringWins := rfl
@[simp] theorem State.setCell_ringPeers (n : Nat) (c : Cell) : (s.setCell n c).ringPeers = s.ringPeers := rfl
@[simp] theorem State.setCell_ring (n : Nat) (c : Cell) : (s.setCell n c).ring = s.ring := rfl
@[simp] theorem State.setCell_slots (n : Nat) (c : Cell) : (s.setCell n c).slots = s.slots := rfl
@[simp] theorem State.setCell_pols (n : Nat) (c : Cell) : (s.setCell n c).pols = s.pols := rfl
@[simp] theorem State.setCell_holdBuf (n : Nat) (c : Cell) : (s.setCell n c).holdBuf = s.holdBuf := rfl
@[simp] theorem State.setCell_bridge (n : Nat) (c : Cell) : (s.setCell n c).bridge = s.bridge := rfl
@[simp] theorem State.setCell_rings (n : Nat) (c : Cell) : (s.setCell n c).rings = s.rings := rfl
@[simp] theorem State.setCell_jobTurn (n : Nat) (c : Cell) : (s.setCell n c).jobTurn = s.jobTurn := rfl
@[simp] theorem State.setCell_acts (n : Nat) (c : Cell) : (s.setCell n c).acts = s.acts := rfl
@[simp] theorem State.setCell_crowd (n : Nat) (c : Cell) : (s.setCell n c).crowd = s.crowd := rfl
@[simp] theorem State.setCell_hlt (n : Nat) (c : Cell) : (s.setCell n c).hlt = s.hlt := rfl
@[simp] theorem State.setCell_dev (n : Nat) (c : Cell) : (s.setCell n c).dev = s.dev := rfl
@[simp] theorem State.setCell_upd (n : Nat) (c : Cell) : (s.setCell n c).upd = s.upd := rfl
@[simp] theorem State.setCell_opts (n : Nat) (c : Cell) : (s.setCell n c).opts = s.opts := rfl
@[simp] theorem State.setCell_fieldReady (n : Nat) (c : Cell) : (s.setCell n c).fieldReady = s.fieldReady := rfl
@[simp] theorem State.setCell_nextId (n : Nat) (c : Cell) : (s.setCell n c).nextId = s.nextId := rfl
@[simp] theorem State.setCell_pending (n : Nat) (c : Cell) : (s.setCell n c).pending = s.pending := rfl

/-! ## `State.setPage` -/

@[simp] theorem State.setPage_regs (p : Nat) (x : PageState) : (s.setPage p x).regs = s.regs := rfl
@[simp] theorem State.setPage_mem (p : Nat) (x : PageState) : (s.setPage p x).mem = s.mem := rfl
@[simp] theorem State.setPage_flash (p : Nat) (x : PageState) : (s.setPage p x).flash = s.flash := rfl
@[simp] theorem State.setPage_staged (p : Nat) (x : PageState) : (s.setPage p x).staged = s.staged := rfl
@[simp] theorem State.setPage_hold (p : Nat) (x : PageState) : (s.setPage p x).hold = s.hold := rfl
@[simp] theorem State.setPage_eqs (p : Nat) (x : PageState) : (s.setPage p x).eqs = s.eqs := rfl
@[simp] theorem State.setPage_out (p : Nat) (x : PageState) : (s.setPage p x).out = s.out := rfl
@[simp] theorem State.setPage_freeCnt (p : Nat) (x : PageState) : (s.setPage p x).freeCnt = s.freeCnt := rfl
@[simp] theorem State.setPage_tbl (p : Nat) (x : PageState) : (s.setPage p x).tbl = s.tbl := rfl
@[simp] theorem State.setPage_tblOld (p : Nat) (x : PageState) : (s.setPage p x).tblOld = s.tblOld := rfl
@[simp] theorem State.setPage_str (p : Nat) (x : PageState) : (s.setPage p x).str = s.str := rfl
@[simp] theorem State.setPage_stores (p : Nat) (x : PageState) : (s.setPage p x).stores = s.stores := rfl
@[simp] theorem State.setPage_archive (p : Nat) (x : PageState) : (s.setPage p x).archive = s.archive := rfl
@[simp] theorem State.setPage_cells (p : Nat) (x : PageState) : (s.setPage p x).cells = s.cells := rfl
@[simp] theorem State.setPage_sig (p : Nat) (x : PageState) : (s.setPage p x).sig = s.sig := rfl
@[simp] theorem State.setPage_tb (p : Nat) (x : PageState) : (s.setPage p x).tb = s.tb := rfl
@[simp] theorem State.setPage_trk (p : Nat) (x : PageState) : (s.setPage p x).trk = s.trk := rfl
@[simp] theorem State.setPage_limits (p : Nat) (x : PageState) : (s.setPage p x).limits = s.limits := rfl
@[simp] theorem State.setPage_evRoutes (p : Nat) (x : PageState) : (s.setPage p x).evRoutes = s.evRoutes := rfl
@[simp] theorem State.setPage_pdus (p : Nat) (x : PageState) : (s.setPage p x).pdus = s.pdus := rfl
@[simp] theorem State.setPage_engines (p : Nat) (x : PageState) : (s.setPage p x).engines = s.engines := rfl
@[simp] theorem State.setPage_waking (p : Nat) (x : PageState) : (s.setPage p x).waking = s.waking := rfl
@[simp] theorem State.setPage_spared (p : Nat) (x : PageState) : (s.setPage p x).spared = s.spared := rfl
@[simp] theorem State.setPage_mbs (p : Nat) (x : PageState) : (s.setPage p x).mbs = s.mbs := rfl
@[simp] theorem State.setPage_can (p : Nat) (x : PageState) : (s.setPage p x).can = s.can := rfl
@[simp] theorem State.setPage_lanes (p : Nat) (x : PageState) : (s.setPage p x).lanes = s.lanes := rfl
@[simp] theorem State.setPage_banks (p : Nat) (x : PageState) : (s.setPage p x).banks = s.banks := rfl
@[simp] theorem State.setPage_queues (p : Nat) (x : PageState) : (s.setPage p x).queues = s.queues := rfl
@[simp] theorem State.setPage_ports (p : Nat) (x : PageState) : (s.setPage p x).ports = s.ports := rfl
@[simp] theorem State.setPage_saltern (p : Nat) (x : PageState) : (s.setPage p x).saltern = s.saltern := rfl
@[simp] theorem State.setPage_pduSeq (p : Nat) (x : PageState) : (s.setPage p x).pduSeq = s.pduSeq := rfl
@[simp] theorem State.setPage_ringWins (p : Nat) (x : PageState) : (s.setPage p x).ringWins = s.ringWins := rfl
@[simp] theorem State.setPage_ringPeers (p : Nat) (x : PageState) : (s.setPage p x).ringPeers = s.ringPeers := rfl
@[simp] theorem State.setPage_ring (p : Nat) (x : PageState) : (s.setPage p x).ring = s.ring := rfl
@[simp] theorem State.setPage_slots (p : Nat) (x : PageState) : (s.setPage p x).slots = s.slots := rfl
@[simp] theorem State.setPage_pols (p : Nat) (x : PageState) : (s.setPage p x).pols = s.pols := rfl
@[simp] theorem State.setPage_holdBuf (p : Nat) (x : PageState) : (s.setPage p x).holdBuf = s.holdBuf := rfl
@[simp] theorem State.setPage_bridge (p : Nat) (x : PageState) : (s.setPage p x).bridge = s.bridge := rfl
@[simp] theorem State.setPage_rings (p : Nat) (x : PageState) : (s.setPage p x).rings = s.rings := rfl
@[simp] theorem State.setPage_jobTurn (p : Nat) (x : PageState) : (s.setPage p x).jobTurn = s.jobTurn := rfl
@[simp] theorem State.setPage_acts (p : Nat) (x : PageState) : (s.setPage p x).acts = s.acts := rfl
@[simp] theorem State.setPage_crowd (p : Nat) (x : PageState) : (s.setPage p x).crowd = s.crowd := rfl
@[simp] theorem State.setPage_hlt (p : Nat) (x : PageState) : (s.setPage p x).hlt = s.hlt := rfl
@[simp] theorem State.setPage_dev (p : Nat) (x : PageState) : (s.setPage p x).dev = s.dev := rfl
@[simp] theorem State.setPage_upd (p : Nat) (x : PageState) : (s.setPage p x).upd = s.upd := rfl
@[simp] theorem State.setPage_opts (p : Nat) (x : PageState) : (s.setPage p x).opts = s.opts := rfl
@[simp] theorem State.setPage_fieldReady (p : Nat) (x : PageState) : (s.setPage p x).fieldReady = s.fieldReady := rfl
@[simp] theorem State.setPage_nextId (p : Nat) (x : PageState) : (s.setPage p x).nextId = s.nextId := rfl
@[simp] theorem State.setPage_pending (p : Nat) (x : PageState) : (s.setPage p x).pending = s.pending := rfl

/-! ## `State.setTracker` -/

@[simp] theorem State.setTracker_regs (n : Nat) (x : Tracker) : (s.setTracker n x).regs = s.regs := rfl
@[simp] theorem State.setTracker_mem (n : Nat) (x : Tracker) : (s.setTracker n x).mem = s.mem := rfl
@[simp] theorem State.setTracker_flash (n : Nat) (x : Tracker) : (s.setTracker n x).flash = s.flash := rfl
@[simp] theorem State.setTracker_staged (n : Nat) (x : Tracker) : (s.setTracker n x).staged = s.staged := rfl
@[simp] theorem State.setTracker_hold (n : Nat) (x : Tracker) : (s.setTracker n x).hold = s.hold := rfl
@[simp] theorem State.setTracker_eqs (n : Nat) (x : Tracker) : (s.setTracker n x).eqs = s.eqs := rfl
@[simp] theorem State.setTracker_out (n : Nat) (x : Tracker) : (s.setTracker n x).out = s.out := rfl
@[simp] theorem State.setTracker_freeCnt (n : Nat) (x : Tracker) : (s.setTracker n x).freeCnt = s.freeCnt := rfl
@[simp] theorem State.setTracker_tbl (n : Nat) (x : Tracker) : (s.setTracker n x).tbl = s.tbl := rfl
@[simp] theorem State.setTracker_tblOld (n : Nat) (x : Tracker) : (s.setTracker n x).tblOld = s.tblOld := rfl
@[simp] theorem State.setTracker_str (n : Nat) (x : Tracker) : (s.setTracker n x).str = s.str := rfl
@[simp] theorem State.setTracker_stores (n : Nat) (x : Tracker) : (s.setTracker n x).stores = s.stores := rfl
@[simp] theorem State.setTracker_archive (n : Nat) (x : Tracker) : (s.setTracker n x).archive = s.archive := rfl
@[simp] theorem State.setTracker_cells (n : Nat) (x : Tracker) : (s.setTracker n x).cells = s.cells := rfl
@[simp] theorem State.setTracker_sig (n : Nat) (x : Tracker) : (s.setTracker n x).sig = s.sig := rfl
@[simp] theorem State.setTracker_pages (n : Nat) (x : Tracker) : (s.setTracker n x).pages = s.pages := rfl
@[simp] theorem State.setTracker_tb (n : Nat) (x : Tracker) : (s.setTracker n x).tb = s.tb := rfl
@[simp] theorem State.setTracker_limits (n : Nat) (x : Tracker) : (s.setTracker n x).limits = s.limits := rfl
@[simp] theorem State.setTracker_evRoutes (n : Nat) (x : Tracker) : (s.setTracker n x).evRoutes = s.evRoutes := rfl
@[simp] theorem State.setTracker_pdus (n : Nat) (x : Tracker) : (s.setTracker n x).pdus = s.pdus := rfl
@[simp] theorem State.setTracker_engines (n : Nat) (x : Tracker) : (s.setTracker n x).engines = s.engines := rfl
@[simp] theorem State.setTracker_waking (n : Nat) (x : Tracker) : (s.setTracker n x).waking = s.waking := rfl
@[simp] theorem State.setTracker_spared (n : Nat) (x : Tracker) : (s.setTracker n x).spared = s.spared := rfl
@[simp] theorem State.setTracker_mbs (n : Nat) (x : Tracker) : (s.setTracker n x).mbs = s.mbs := rfl
@[simp] theorem State.setTracker_can (n : Nat) (x : Tracker) : (s.setTracker n x).can = s.can := rfl
@[simp] theorem State.setTracker_lanes (n : Nat) (x : Tracker) : (s.setTracker n x).lanes = s.lanes := rfl
@[simp] theorem State.setTracker_banks (n : Nat) (x : Tracker) : (s.setTracker n x).banks = s.banks := rfl
@[simp] theorem State.setTracker_queues (n : Nat) (x : Tracker) : (s.setTracker n x).queues = s.queues := rfl
@[simp] theorem State.setTracker_ports (n : Nat) (x : Tracker) : (s.setTracker n x).ports = s.ports := rfl
@[simp] theorem State.setTracker_saltern (n : Nat) (x : Tracker) : (s.setTracker n x).saltern = s.saltern := rfl
@[simp] theorem State.setTracker_pduSeq (n : Nat) (x : Tracker) : (s.setTracker n x).pduSeq = s.pduSeq := rfl
@[simp] theorem State.setTracker_ringWins (n : Nat) (x : Tracker) : (s.setTracker n x).ringWins = s.ringWins := rfl
@[simp] theorem State.setTracker_ringPeers (n : Nat) (x : Tracker) : (s.setTracker n x).ringPeers = s.ringPeers := rfl
@[simp] theorem State.setTracker_ring (n : Nat) (x : Tracker) : (s.setTracker n x).ring = s.ring := rfl
@[simp] theorem State.setTracker_slots (n : Nat) (x : Tracker) : (s.setTracker n x).slots = s.slots := rfl
@[simp] theorem State.setTracker_pols (n : Nat) (x : Tracker) : (s.setTracker n x).pols = s.pols := rfl
@[simp] theorem State.setTracker_holdBuf (n : Nat) (x : Tracker) : (s.setTracker n x).holdBuf = s.holdBuf := rfl
@[simp] theorem State.setTracker_bridge (n : Nat) (x : Tracker) : (s.setTracker n x).bridge = s.bridge := rfl
@[simp] theorem State.setTracker_rings (n : Nat) (x : Tracker) : (s.setTracker n x).rings = s.rings := rfl
@[simp] theorem State.setTracker_jobTurn (n : Nat) (x : Tracker) : (s.setTracker n x).jobTurn = s.jobTurn := rfl
@[simp] theorem State.setTracker_acts (n : Nat) (x : Tracker) : (s.setTracker n x).acts = s.acts := rfl
@[simp] theorem State.setTracker_crowd (n : Nat) (x : Tracker) : (s.setTracker n x).crowd = s.crowd := rfl
@[simp] theorem State.setTracker_hlt (n : Nat) (x : Tracker) : (s.setTracker n x).hlt = s.hlt := rfl
@[simp] theorem State.setTracker_dev (n : Nat) (x : Tracker) : (s.setTracker n x).dev = s.dev := rfl
@[simp] theorem State.setTracker_upd (n : Nat) (x : Tracker) : (s.setTracker n x).upd = s.upd := rfl
@[simp] theorem State.setTracker_opts (n : Nat) (x : Tracker) : (s.setTracker n x).opts = s.opts := rfl
@[simp] theorem State.setTracker_fieldReady (n : Nat) (x : Tracker) : (s.setTracker n x).fieldReady = s.fieldReady := rfl
@[simp] theorem State.setTracker_nextId (n : Nat) (x : Tracker) : (s.setTracker n x).nextId = s.nextId := rfl
@[simp] theorem State.setTracker_pending (n : Nat) (x : Tracker) : (s.setTracker n x).pending = s.pending := rfl

/-! ## `State.setEngine` -/

@[simp] theorem State.setEngine_regs (e : Nat) (x : Engine) : (s.setEngine e x).regs = s.regs := rfl
@[simp] theorem State.setEngine_mem (e : Nat) (x : Engine) : (s.setEngine e x).mem = s.mem := rfl
@[simp] theorem State.setEngine_flash (e : Nat) (x : Engine) : (s.setEngine e x).flash = s.flash := rfl
@[simp] theorem State.setEngine_staged (e : Nat) (x : Engine) : (s.setEngine e x).staged = s.staged := rfl
@[simp] theorem State.setEngine_hold (e : Nat) (x : Engine) : (s.setEngine e x).hold = s.hold := rfl
@[simp] theorem State.setEngine_eqs (e : Nat) (x : Engine) : (s.setEngine e x).eqs = s.eqs := rfl
@[simp] theorem State.setEngine_out (e : Nat) (x : Engine) : (s.setEngine e x).out = s.out := rfl
@[simp] theorem State.setEngine_freeCnt (e : Nat) (x : Engine) : (s.setEngine e x).freeCnt = s.freeCnt := rfl
@[simp] theorem State.setEngine_tbl (e : Nat) (x : Engine) : (s.setEngine e x).tbl = s.tbl := rfl
@[simp] theorem State.setEngine_tblOld (e : Nat) (x : Engine) : (s.setEngine e x).tblOld = s.tblOld := rfl
@[simp] theorem State.setEngine_str (e : Nat) (x : Engine) : (s.setEngine e x).str = s.str := rfl
@[simp] theorem State.setEngine_stores (e : Nat) (x : Engine) : (s.setEngine e x).stores = s.stores := rfl
@[simp] theorem State.setEngine_archive (e : Nat) (x : Engine) : (s.setEngine e x).archive = s.archive := rfl
@[simp] theorem State.setEngine_cells (e : Nat) (x : Engine) : (s.setEngine e x).cells = s.cells := rfl
@[simp] theorem State.setEngine_sig (e : Nat) (x : Engine) : (s.setEngine e x).sig = s.sig := rfl
@[simp] theorem State.setEngine_pages (e : Nat) (x : Engine) : (s.setEngine e x).pages = s.pages := rfl
@[simp] theorem State.setEngine_tb (e : Nat) (x : Engine) : (s.setEngine e x).tb = s.tb := rfl
@[simp] theorem State.setEngine_trk (e : Nat) (x : Engine) : (s.setEngine e x).trk = s.trk := rfl
@[simp] theorem State.setEngine_limits (e : Nat) (x : Engine) : (s.setEngine e x).limits = s.limits := rfl
@[simp] theorem State.setEngine_evRoutes (e : Nat) (x : Engine) : (s.setEngine e x).evRoutes = s.evRoutes := rfl
@[simp] theorem State.setEngine_pdus (e : Nat) (x : Engine) : (s.setEngine e x).pdus = s.pdus := rfl
@[simp] theorem State.setEngine_waking (e : Nat) (x : Engine) : (s.setEngine e x).waking = s.waking := rfl
@[simp] theorem State.setEngine_spared (e : Nat) (x : Engine) : (s.setEngine e x).spared = s.spared := rfl
@[simp] theorem State.setEngine_mbs (e : Nat) (x : Engine) : (s.setEngine e x).mbs = s.mbs := rfl
@[simp] theorem State.setEngine_can (e : Nat) (x : Engine) : (s.setEngine e x).can = s.can := rfl
@[simp] theorem State.setEngine_lanes (e : Nat) (x : Engine) : (s.setEngine e x).lanes = s.lanes := rfl
@[simp] theorem State.setEngine_banks (e : Nat) (x : Engine) : (s.setEngine e x).banks = s.banks := rfl
@[simp] theorem State.setEngine_queues (e : Nat) (x : Engine) : (s.setEngine e x).queues = s.queues := rfl
@[simp] theorem State.setEngine_ports (e : Nat) (x : Engine) : (s.setEngine e x).ports = s.ports := rfl
@[simp] theorem State.setEngine_saltern (e : Nat) (x : Engine) : (s.setEngine e x).saltern = s.saltern := rfl
@[simp] theorem State.setEngine_pduSeq (e : Nat) (x : Engine) : (s.setEngine e x).pduSeq = s.pduSeq := rfl
@[simp] theorem State.setEngine_ringWins (e : Nat) (x : Engine) : (s.setEngine e x).ringWins = s.ringWins := rfl
@[simp] theorem State.setEngine_ringPeers (e : Nat) (x : Engine) : (s.setEngine e x).ringPeers = s.ringPeers := rfl
@[simp] theorem State.setEngine_ring (e : Nat) (x : Engine) : (s.setEngine e x).ring = s.ring := rfl
@[simp] theorem State.setEngine_slots (e : Nat) (x : Engine) : (s.setEngine e x).slots = s.slots := rfl
@[simp] theorem State.setEngine_pols (e : Nat) (x : Engine) : (s.setEngine e x).pols = s.pols := rfl
@[simp] theorem State.setEngine_holdBuf (e : Nat) (x : Engine) : (s.setEngine e x).holdBuf = s.holdBuf := rfl
@[simp] theorem State.setEngine_bridge (e : Nat) (x : Engine) : (s.setEngine e x).bridge = s.bridge := rfl
@[simp] theorem State.setEngine_rings (e : Nat) (x : Engine) : (s.setEngine e x).rings = s.rings := rfl
@[simp] theorem State.setEngine_jobTurn (e : Nat) (x : Engine) : (s.setEngine e x).jobTurn = s.jobTurn := rfl
@[simp] theorem State.setEngine_acts (e : Nat) (x : Engine) : (s.setEngine e x).acts = s.acts := rfl
@[simp] theorem State.setEngine_crowd (e : Nat) (x : Engine) : (s.setEngine e x).crowd = s.crowd := rfl
@[simp] theorem State.setEngine_hlt (e : Nat) (x : Engine) : (s.setEngine e x).hlt = s.hlt := rfl
@[simp] theorem State.setEngine_dev (e : Nat) (x : Engine) : (s.setEngine e x).dev = s.dev := rfl
@[simp] theorem State.setEngine_upd (e : Nat) (x : Engine) : (s.setEngine e x).upd = s.upd := rfl
@[simp] theorem State.setEngine_opts (e : Nat) (x : Engine) : (s.setEngine e x).opts = s.opts := rfl
@[simp] theorem State.setEngine_fieldReady (e : Nat) (x : Engine) : (s.setEngine e x).fieldReady = s.fieldReady := rfl
@[simp] theorem State.setEngine_nextId (e : Nat) (x : Engine) : (s.setEngine e x).nextId = s.nextId := rfl
@[simp] theorem State.setEngine_pending (e : Nat) (x : Engine) : (s.setEngine e x).pending = s.pending := rfl

/-! ## `State.setAct` -/

@[simp] theorem State.setAct_regs (e : Nat) (x : ActEntry) : (s.setAct e x).regs = s.regs := rfl
@[simp] theorem State.setAct_mem (e : Nat) (x : ActEntry) : (s.setAct e x).mem = s.mem := rfl
@[simp] theorem State.setAct_flash (e : Nat) (x : ActEntry) : (s.setAct e x).flash = s.flash := rfl
@[simp] theorem State.setAct_staged (e : Nat) (x : ActEntry) : (s.setAct e x).staged = s.staged := rfl
@[simp] theorem State.setAct_hold (e : Nat) (x : ActEntry) : (s.setAct e x).hold = s.hold := rfl
@[simp] theorem State.setAct_eqs (e : Nat) (x : ActEntry) : (s.setAct e x).eqs = s.eqs := rfl
@[simp] theorem State.setAct_out (e : Nat) (x : ActEntry) : (s.setAct e x).out = s.out := rfl
@[simp] theorem State.setAct_freeCnt (e : Nat) (x : ActEntry) : (s.setAct e x).freeCnt = s.freeCnt := rfl
@[simp] theorem State.setAct_tbl (e : Nat) (x : ActEntry) : (s.setAct e x).tbl = s.tbl := rfl
@[simp] theorem State.setAct_tblOld (e : Nat) (x : ActEntry) : (s.setAct e x).tblOld = s.tblOld := rfl
@[simp] theorem State.setAct_str (e : Nat) (x : ActEntry) : (s.setAct e x).str = s.str := rfl
@[simp] theorem State.setAct_stores (e : Nat) (x : ActEntry) : (s.setAct e x).stores = s.stores := rfl
@[simp] theorem State.setAct_archive (e : Nat) (x : ActEntry) : (s.setAct e x).archive = s.archive := rfl
@[simp] theorem State.setAct_cells (e : Nat) (x : ActEntry) : (s.setAct e x).cells = s.cells := rfl
@[simp] theorem State.setAct_sig (e : Nat) (x : ActEntry) : (s.setAct e x).sig = s.sig := rfl
@[simp] theorem State.setAct_pages (e : Nat) (x : ActEntry) : (s.setAct e x).pages = s.pages := rfl
@[simp] theorem State.setAct_tb (e : Nat) (x : ActEntry) : (s.setAct e x).tb = s.tb := rfl
@[simp] theorem State.setAct_trk (e : Nat) (x : ActEntry) : (s.setAct e x).trk = s.trk := rfl
@[simp] theorem State.setAct_limits (e : Nat) (x : ActEntry) : (s.setAct e x).limits = s.limits := rfl
@[simp] theorem State.setAct_evRoutes (e : Nat) (x : ActEntry) : (s.setAct e x).evRoutes = s.evRoutes := rfl
@[simp] theorem State.setAct_pdus (e : Nat) (x : ActEntry) : (s.setAct e x).pdus = s.pdus := rfl
@[simp] theorem State.setAct_engines (e : Nat) (x : ActEntry) : (s.setAct e x).engines = s.engines := rfl
@[simp] theorem State.setAct_waking (e : Nat) (x : ActEntry) : (s.setAct e x).waking = s.waking := rfl
@[simp] theorem State.setAct_spared (e : Nat) (x : ActEntry) : (s.setAct e x).spared = s.spared := rfl
@[simp] theorem State.setAct_mbs (e : Nat) (x : ActEntry) : (s.setAct e x).mbs = s.mbs := rfl
@[simp] theorem State.setAct_can (e : Nat) (x : ActEntry) : (s.setAct e x).can = s.can := rfl
@[simp] theorem State.setAct_lanes (e : Nat) (x : ActEntry) : (s.setAct e x).lanes = s.lanes := rfl
@[simp] theorem State.setAct_banks (e : Nat) (x : ActEntry) : (s.setAct e x).banks = s.banks := rfl
@[simp] theorem State.setAct_queues (e : Nat) (x : ActEntry) : (s.setAct e x).queues = s.queues := rfl
@[simp] theorem State.setAct_ports (e : Nat) (x : ActEntry) : (s.setAct e x).ports = s.ports := rfl
@[simp] theorem State.setAct_saltern (e : Nat) (x : ActEntry) : (s.setAct e x).saltern = s.saltern := rfl
@[simp] theorem State.setAct_pduSeq (e : Nat) (x : ActEntry) : (s.setAct e x).pduSeq = s.pduSeq := rfl
@[simp] theorem State.setAct_ringWins (e : Nat) (x : ActEntry) : (s.setAct e x).ringWins = s.ringWins := rfl
@[simp] theorem State.setAct_ringPeers (e : Nat) (x : ActEntry) : (s.setAct e x).ringPeers = s.ringPeers := rfl
@[simp] theorem State.setAct_ring (e : Nat) (x : ActEntry) : (s.setAct e x).ring = s.ring := rfl
@[simp] theorem State.setAct_slots (e : Nat) (x : ActEntry) : (s.setAct e x).slots = s.slots := rfl
@[simp] theorem State.setAct_pols (e : Nat) (x : ActEntry) : (s.setAct e x).pols = s.pols := rfl
@[simp] theorem State.setAct_holdBuf (e : Nat) (x : ActEntry) : (s.setAct e x).holdBuf = s.holdBuf := rfl
@[simp] theorem State.setAct_bridge (e : Nat) (x : ActEntry) : (s.setAct e x).bridge = s.bridge := rfl
@[simp] theorem State.setAct_rings (e : Nat) (x : ActEntry) : (s.setAct e x).rings = s.rings := rfl
@[simp] theorem State.setAct_jobTurn (e : Nat) (x : ActEntry) : (s.setAct e x).jobTurn = s.jobTurn := rfl
@[simp] theorem State.setAct_crowd (e : Nat) (x : ActEntry) : (s.setAct e x).crowd = s.crowd := rfl
@[simp] theorem State.setAct_hlt (e : Nat) (x : ActEntry) : (s.setAct e x).hlt = s.hlt := rfl
@[simp] theorem State.setAct_dev (e : Nat) (x : ActEntry) : (s.setAct e x).dev = s.dev := rfl
@[simp] theorem State.setAct_upd (e : Nat) (x : ActEntry) : (s.setAct e x).upd = s.upd := rfl
@[simp] theorem State.setAct_opts (e : Nat) (x : ActEntry) : (s.setAct e x).opts = s.opts := rfl
@[simp] theorem State.setAct_fieldReady (e : Nat) (x : ActEntry) : (s.setAct e x).fieldReady = s.fieldReady := rfl
@[simp] theorem State.setAct_nextId (e : Nat) (x : ActEntry) : (s.setAct e x).nextId = s.nextId := rfl
@[simp] theorem State.setAct_pending (e : Nat) (x : ActEntry) : (s.setAct e x).pending = s.pending := rfl

/-! ## `State.setMb` -/

@[simp] theorem State.setMb_regs (n m : Nat) (x : Mailbox) : (s.setMb n m x).regs = s.regs := rfl
@[simp] theorem State.setMb_mem (n m : Nat) (x : Mailbox) : (s.setMb n m x).mem = s.mem := rfl
@[simp] theorem State.setMb_flash (n m : Nat) (x : Mailbox) : (s.setMb n m x).flash = s.flash := rfl
@[simp] theorem State.setMb_staged (n m : Nat) (x : Mailbox) : (s.setMb n m x).staged = s.staged := rfl
@[simp] theorem State.setMb_hold (n m : Nat) (x : Mailbox) : (s.setMb n m x).hold = s.hold := rfl
@[simp] theorem State.setMb_eqs (n m : Nat) (x : Mailbox) : (s.setMb n m x).eqs = s.eqs := rfl
@[simp] theorem State.setMb_out (n m : Nat) (x : Mailbox) : (s.setMb n m x).out = s.out := rfl
@[simp] theorem State.setMb_freeCnt (n m : Nat) (x : Mailbox) : (s.setMb n m x).freeCnt = s.freeCnt := rfl
@[simp] theorem State.setMb_tbl (n m : Nat) (x : Mailbox) : (s.setMb n m x).tbl = s.tbl := rfl
@[simp] theorem State.setMb_tblOld (n m : Nat) (x : Mailbox) : (s.setMb n m x).tblOld = s.tblOld := rfl
@[simp] theorem State.setMb_str (n m : Nat) (x : Mailbox) : (s.setMb n m x).str = s.str := rfl
@[simp] theorem State.setMb_stores (n m : Nat) (x : Mailbox) : (s.setMb n m x).stores = s.stores := rfl
@[simp] theorem State.setMb_archive (n m : Nat) (x : Mailbox) : (s.setMb n m x).archive = s.archive := rfl
@[simp] theorem State.setMb_cells (n m : Nat) (x : Mailbox) : (s.setMb n m x).cells = s.cells := rfl
@[simp] theorem State.setMb_sig (n m : Nat) (x : Mailbox) : (s.setMb n m x).sig = s.sig := rfl
@[simp] theorem State.setMb_pages (n m : Nat) (x : Mailbox) : (s.setMb n m x).pages = s.pages := rfl
@[simp] theorem State.setMb_tb (n m : Nat) (x : Mailbox) : (s.setMb n m x).tb = s.tb := rfl
@[simp] theorem State.setMb_trk (n m : Nat) (x : Mailbox) : (s.setMb n m x).trk = s.trk := rfl
@[simp] theorem State.setMb_limits (n m : Nat) (x : Mailbox) : (s.setMb n m x).limits = s.limits := rfl
@[simp] theorem State.setMb_evRoutes (n m : Nat) (x : Mailbox) : (s.setMb n m x).evRoutes = s.evRoutes := rfl
@[simp] theorem State.setMb_pdus (n m : Nat) (x : Mailbox) : (s.setMb n m x).pdus = s.pdus := rfl
@[simp] theorem State.setMb_engines (n m : Nat) (x : Mailbox) : (s.setMb n m x).engines = s.engines := rfl
@[simp] theorem State.setMb_waking (n m : Nat) (x : Mailbox) : (s.setMb n m x).waking = s.waking := rfl
@[simp] theorem State.setMb_spared (n m : Nat) (x : Mailbox) : (s.setMb n m x).spared = s.spared := rfl
@[simp] theorem State.setMb_can (n m : Nat) (x : Mailbox) : (s.setMb n m x).can = s.can := rfl
@[simp] theorem State.setMb_lanes (n m : Nat) (x : Mailbox) : (s.setMb n m x).lanes = s.lanes := rfl
@[simp] theorem State.setMb_banks (n m : Nat) (x : Mailbox) : (s.setMb n m x).banks = s.banks := rfl
@[simp] theorem State.setMb_queues (n m : Nat) (x : Mailbox) : (s.setMb n m x).queues = s.queues := rfl
@[simp] theorem State.setMb_ports (n m : Nat) (x : Mailbox) : (s.setMb n m x).ports = s.ports := rfl
@[simp] theorem State.setMb_saltern (n m : Nat) (x : Mailbox) : (s.setMb n m x).saltern = s.saltern := rfl
@[simp] theorem State.setMb_pduSeq (n m : Nat) (x : Mailbox) : (s.setMb n m x).pduSeq = s.pduSeq := rfl
@[simp] theorem State.setMb_ringWins (n m : Nat) (x : Mailbox) : (s.setMb n m x).ringWins = s.ringWins := rfl
@[simp] theorem State.setMb_ringPeers (n m : Nat) (x : Mailbox) : (s.setMb n m x).ringPeers = s.ringPeers := rfl
@[simp] theorem State.setMb_ring (n m : Nat) (x : Mailbox) : (s.setMb n m x).ring = s.ring := rfl
@[simp] theorem State.setMb_slots (n m : Nat) (x : Mailbox) : (s.setMb n m x).slots = s.slots := rfl
@[simp] theorem State.setMb_pols (n m : Nat) (x : Mailbox) : (s.setMb n m x).pols = s.pols := rfl
@[simp] theorem State.setMb_holdBuf (n m : Nat) (x : Mailbox) : (s.setMb n m x).holdBuf = s.holdBuf := rfl
@[simp] theorem State.setMb_bridge (n m : Nat) (x : Mailbox) : (s.setMb n m x).bridge = s.bridge := rfl
@[simp] theorem State.setMb_rings (n m : Nat) (x : Mailbox) : (s.setMb n m x).rings = s.rings := rfl
@[simp] theorem State.setMb_jobTurn (n m : Nat) (x : Mailbox) : (s.setMb n m x).jobTurn = s.jobTurn := rfl
@[simp] theorem State.setMb_acts (n m : Nat) (x : Mailbox) : (s.setMb n m x).acts = s.acts := rfl
@[simp] theorem State.setMb_crowd (n m : Nat) (x : Mailbox) : (s.setMb n m x).crowd = s.crowd := rfl
@[simp] theorem State.setMb_hlt (n m : Nat) (x : Mailbox) : (s.setMb n m x).hlt = s.hlt := rfl
@[simp] theorem State.setMb_dev (n m : Nat) (x : Mailbox) : (s.setMb n m x).dev = s.dev := rfl
@[simp] theorem State.setMb_upd (n m : Nat) (x : Mailbox) : (s.setMb n m x).upd = s.upd := rfl
@[simp] theorem State.setMb_opts (n m : Nat) (x : Mailbox) : (s.setMb n m x).opts = s.opts := rfl
@[simp] theorem State.setMb_fieldReady (n m : Nat) (x : Mailbox) : (s.setMb n m x).fieldReady = s.fieldReady := rfl
@[simp] theorem State.setMb_nextId (n m : Nat) (x : Mailbox) : (s.setMb n m x).nextId = s.nextId := rfl
@[simp] theorem State.setMb_pending (n m : Nat) (x : Mailbox) : (s.setMb n m x).pending = s.pending := rfl

/-! ## `State.setCan` -/

@[simp] theorem State.setCan_regs (n : Nat) (x : CanUnit) : (s.setCan n x).regs = s.regs := rfl
@[simp] theorem State.setCan_mem (n : Nat) (x : CanUnit) : (s.setCan n x).mem = s.mem := rfl
@[simp] theorem State.setCan_flash (n : Nat) (x : CanUnit) : (s.setCan n x).flash = s.flash := rfl
@[simp] theorem State.setCan_staged (n : Nat) (x : CanUnit) : (s.setCan n x).staged = s.staged := rfl
@[simp] theorem State.setCan_hold (n : Nat) (x : CanUnit) : (s.setCan n x).hold = s.hold := rfl
@[simp] theorem State.setCan_eqs (n : Nat) (x : CanUnit) : (s.setCan n x).eqs = s.eqs := rfl
@[simp] theorem State.setCan_out (n : Nat) (x : CanUnit) : (s.setCan n x).out = s.out := rfl
@[simp] theorem State.setCan_freeCnt (n : Nat) (x : CanUnit) : (s.setCan n x).freeCnt = s.freeCnt := rfl
@[simp] theorem State.setCan_tbl (n : Nat) (x : CanUnit) : (s.setCan n x).tbl = s.tbl := rfl
@[simp] theorem State.setCan_tblOld (n : Nat) (x : CanUnit) : (s.setCan n x).tblOld = s.tblOld := rfl
@[simp] theorem State.setCan_str (n : Nat) (x : CanUnit) : (s.setCan n x).str = s.str := rfl
@[simp] theorem State.setCan_stores (n : Nat) (x : CanUnit) : (s.setCan n x).stores = s.stores := rfl
@[simp] theorem State.setCan_archive (n : Nat) (x : CanUnit) : (s.setCan n x).archive = s.archive := rfl
@[simp] theorem State.setCan_cells (n : Nat) (x : CanUnit) : (s.setCan n x).cells = s.cells := rfl
@[simp] theorem State.setCan_sig (n : Nat) (x : CanUnit) : (s.setCan n x).sig = s.sig := rfl
@[simp] theorem State.setCan_pages (n : Nat) (x : CanUnit) : (s.setCan n x).pages = s.pages := rfl
@[simp] theorem State.setCan_tb (n : Nat) (x : CanUnit) : (s.setCan n x).tb = s.tb := rfl
@[simp] theorem State.setCan_trk (n : Nat) (x : CanUnit) : (s.setCan n x).trk = s.trk := rfl
@[simp] theorem State.setCan_limits (n : Nat) (x : CanUnit) : (s.setCan n x).limits = s.limits := rfl
@[simp] theorem State.setCan_evRoutes (n : Nat) (x : CanUnit) : (s.setCan n x).evRoutes = s.evRoutes := rfl
@[simp] theorem State.setCan_pdus (n : Nat) (x : CanUnit) : (s.setCan n x).pdus = s.pdus := rfl
@[simp] theorem State.setCan_engines (n : Nat) (x : CanUnit) : (s.setCan n x).engines = s.engines := rfl
@[simp] theorem State.setCan_waking (n : Nat) (x : CanUnit) : (s.setCan n x).waking = s.waking := rfl
@[simp] theorem State.setCan_spared (n : Nat) (x : CanUnit) : (s.setCan n x).spared = s.spared := rfl
@[simp] theorem State.setCan_mbs (n : Nat) (x : CanUnit) : (s.setCan n x).mbs = s.mbs := rfl
@[simp] theorem State.setCan_lanes (n : Nat) (x : CanUnit) : (s.setCan n x).lanes = s.lanes := rfl
@[simp] theorem State.setCan_banks (n : Nat) (x : CanUnit) : (s.setCan n x).banks = s.banks := rfl
@[simp] theorem State.setCan_queues (n : Nat) (x : CanUnit) : (s.setCan n x).queues = s.queues := rfl
@[simp] theorem State.setCan_ports (n : Nat) (x : CanUnit) : (s.setCan n x).ports = s.ports := rfl
@[simp] theorem State.setCan_saltern (n : Nat) (x : CanUnit) : (s.setCan n x).saltern = s.saltern := rfl
@[simp] theorem State.setCan_pduSeq (n : Nat) (x : CanUnit) : (s.setCan n x).pduSeq = s.pduSeq := rfl
@[simp] theorem State.setCan_ringWins (n : Nat) (x : CanUnit) : (s.setCan n x).ringWins = s.ringWins := rfl
@[simp] theorem State.setCan_ringPeers (n : Nat) (x : CanUnit) : (s.setCan n x).ringPeers = s.ringPeers := rfl
@[simp] theorem State.setCan_ring (n : Nat) (x : CanUnit) : (s.setCan n x).ring = s.ring := rfl
@[simp] theorem State.setCan_slots (n : Nat) (x : CanUnit) : (s.setCan n x).slots = s.slots := rfl
@[simp] theorem State.setCan_pols (n : Nat) (x : CanUnit) : (s.setCan n x).pols = s.pols := rfl
@[simp] theorem State.setCan_holdBuf (n : Nat) (x : CanUnit) : (s.setCan n x).holdBuf = s.holdBuf := rfl
@[simp] theorem State.setCan_bridge (n : Nat) (x : CanUnit) : (s.setCan n x).bridge = s.bridge := rfl
@[simp] theorem State.setCan_rings (n : Nat) (x : CanUnit) : (s.setCan n x).rings = s.rings := rfl
@[simp] theorem State.setCan_jobTurn (n : Nat) (x : CanUnit) : (s.setCan n x).jobTurn = s.jobTurn := rfl
@[simp] theorem State.setCan_acts (n : Nat) (x : CanUnit) : (s.setCan n x).acts = s.acts := rfl
@[simp] theorem State.setCan_crowd (n : Nat) (x : CanUnit) : (s.setCan n x).crowd = s.crowd := rfl
@[simp] theorem State.setCan_hlt (n : Nat) (x : CanUnit) : (s.setCan n x).hlt = s.hlt := rfl
@[simp] theorem State.setCan_dev (n : Nat) (x : CanUnit) : (s.setCan n x).dev = s.dev := rfl
@[simp] theorem State.setCan_upd (n : Nat) (x : CanUnit) : (s.setCan n x).upd = s.upd := rfl
@[simp] theorem State.setCan_opts (n : Nat) (x : CanUnit) : (s.setCan n x).opts = s.opts := rfl
@[simp] theorem State.setCan_fieldReady (n : Nat) (x : CanUnit) : (s.setCan n x).fieldReady = s.fieldReady := rfl
@[simp] theorem State.setCan_nextId (n : Nat) (x : CanUnit) : (s.setCan n x).nextId = s.nextId := rfl
@[simp] theorem State.setCan_pending (n : Nat) (x : CanUnit) : (s.setCan n x).pending = s.pending := rfl

/-! ## `State.setLane` -/

@[simp] theorem State.setLane_regs (n : Nat) (x : Lane) : (s.setLane n x).regs = s.regs := rfl
@[simp] theorem State.setLane_mem (n : Nat) (x : Lane) : (s.setLane n x).mem = s.mem := rfl
@[simp] theorem State.setLane_flash (n : Nat) (x : Lane) : (s.setLane n x).flash = s.flash := rfl
@[simp] theorem State.setLane_staged (n : Nat) (x : Lane) : (s.setLane n x).staged = s.staged := rfl
@[simp] theorem State.setLane_hold (n : Nat) (x : Lane) : (s.setLane n x).hold = s.hold := rfl
@[simp] theorem State.setLane_eqs (n : Nat) (x : Lane) : (s.setLane n x).eqs = s.eqs := rfl
@[simp] theorem State.setLane_out (n : Nat) (x : Lane) : (s.setLane n x).out = s.out := rfl
@[simp] theorem State.setLane_freeCnt (n : Nat) (x : Lane) : (s.setLane n x).freeCnt = s.freeCnt := rfl
@[simp] theorem State.setLane_tbl (n : Nat) (x : Lane) : (s.setLane n x).tbl = s.tbl := rfl
@[simp] theorem State.setLane_tblOld (n : Nat) (x : Lane) : (s.setLane n x).tblOld = s.tblOld := rfl
@[simp] theorem State.setLane_str (n : Nat) (x : Lane) : (s.setLane n x).str = s.str := rfl
@[simp] theorem State.setLane_stores (n : Nat) (x : Lane) : (s.setLane n x).stores = s.stores := rfl
@[simp] theorem State.setLane_archive (n : Nat) (x : Lane) : (s.setLane n x).archive = s.archive := rfl
@[simp] theorem State.setLane_cells (n : Nat) (x : Lane) : (s.setLane n x).cells = s.cells := rfl
@[simp] theorem State.setLane_sig (n : Nat) (x : Lane) : (s.setLane n x).sig = s.sig := rfl
@[simp] theorem State.setLane_pages (n : Nat) (x : Lane) : (s.setLane n x).pages = s.pages := rfl
@[simp] theorem State.setLane_tb (n : Nat) (x : Lane) : (s.setLane n x).tb = s.tb := rfl
@[simp] theorem State.setLane_trk (n : Nat) (x : Lane) : (s.setLane n x).trk = s.trk := rfl
@[simp] theorem State.setLane_limits (n : Nat) (x : Lane) : (s.setLane n x).limits = s.limits := rfl
@[simp] theorem State.setLane_evRoutes (n : Nat) (x : Lane) : (s.setLane n x).evRoutes = s.evRoutes := rfl
@[simp] theorem State.setLane_pdus (n : Nat) (x : Lane) : (s.setLane n x).pdus = s.pdus := rfl
@[simp] theorem State.setLane_engines (n : Nat) (x : Lane) : (s.setLane n x).engines = s.engines := rfl
@[simp] theorem State.setLane_waking (n : Nat) (x : Lane) : (s.setLane n x).waking = s.waking := rfl
@[simp] theorem State.setLane_spared (n : Nat) (x : Lane) : (s.setLane n x).spared = s.spared := rfl
@[simp] theorem State.setLane_mbs (n : Nat) (x : Lane) : (s.setLane n x).mbs = s.mbs := rfl
@[simp] theorem State.setLane_can (n : Nat) (x : Lane) : (s.setLane n x).can = s.can := rfl
@[simp] theorem State.setLane_banks (n : Nat) (x : Lane) : (s.setLane n x).banks = s.banks := rfl
@[simp] theorem State.setLane_queues (n : Nat) (x : Lane) : (s.setLane n x).queues = s.queues := rfl
@[simp] theorem State.setLane_ports (n : Nat) (x : Lane) : (s.setLane n x).ports = s.ports := rfl
@[simp] theorem State.setLane_saltern (n : Nat) (x : Lane) : (s.setLane n x).saltern = s.saltern := rfl
@[simp] theorem State.setLane_pduSeq (n : Nat) (x : Lane) : (s.setLane n x).pduSeq = s.pduSeq := rfl
@[simp] theorem State.setLane_ringWins (n : Nat) (x : Lane) : (s.setLane n x).ringWins = s.ringWins := rfl
@[simp] theorem State.setLane_ringPeers (n : Nat) (x : Lane) : (s.setLane n x).ringPeers = s.ringPeers := rfl
@[simp] theorem State.setLane_ring (n : Nat) (x : Lane) : (s.setLane n x).ring = s.ring := rfl
@[simp] theorem State.setLane_slots (n : Nat) (x : Lane) : (s.setLane n x).slots = s.slots := rfl
@[simp] theorem State.setLane_pols (n : Nat) (x : Lane) : (s.setLane n x).pols = s.pols := rfl
@[simp] theorem State.setLane_holdBuf (n : Nat) (x : Lane) : (s.setLane n x).holdBuf = s.holdBuf := rfl
@[simp] theorem State.setLane_bridge (n : Nat) (x : Lane) : (s.setLane n x).bridge = s.bridge := rfl
@[simp] theorem State.setLane_rings (n : Nat) (x : Lane) : (s.setLane n x).rings = s.rings := rfl
@[simp] theorem State.setLane_jobTurn (n : Nat) (x : Lane) : (s.setLane n x).jobTurn = s.jobTurn := rfl
@[simp] theorem State.setLane_acts (n : Nat) (x : Lane) : (s.setLane n x).acts = s.acts := rfl
@[simp] theorem State.setLane_crowd (n : Nat) (x : Lane) : (s.setLane n x).crowd = s.crowd := rfl
@[simp] theorem State.setLane_hlt (n : Nat) (x : Lane) : (s.setLane n x).hlt = s.hlt := rfl
@[simp] theorem State.setLane_dev (n : Nat) (x : Lane) : (s.setLane n x).dev = s.dev := rfl
@[simp] theorem State.setLane_upd (n : Nat) (x : Lane) : (s.setLane n x).upd = s.upd := rfl
@[simp] theorem State.setLane_opts (n : Nat) (x : Lane) : (s.setLane n x).opts = s.opts := rfl
@[simp] theorem State.setLane_fieldReady (n : Nat) (x : Lane) : (s.setLane n x).fieldReady = s.fieldReady := rfl
@[simp] theorem State.setLane_nextId (n : Nat) (x : Lane) : (s.setLane n x).nextId = s.nextId := rfl
@[simp] theorem State.setLane_pending (n : Nat) (x : Lane) : (s.setLane n x).pending = s.pending := rfl

/-! ## `State.setBank` -/

@[simp] theorem State.setBank_regs (b : Nat) (x : Bank) : (s.setBank b x).regs = s.regs := rfl
@[simp] theorem State.setBank_mem (b : Nat) (x : Bank) : (s.setBank b x).mem = s.mem := rfl
@[simp] theorem State.setBank_flash (b : Nat) (x : Bank) : (s.setBank b x).flash = s.flash := rfl
@[simp] theorem State.setBank_staged (b : Nat) (x : Bank) : (s.setBank b x).staged = s.staged := rfl
@[simp] theorem State.setBank_hold (b : Nat) (x : Bank) : (s.setBank b x).hold = s.hold := rfl
@[simp] theorem State.setBank_eqs (b : Nat) (x : Bank) : (s.setBank b x).eqs = s.eqs := rfl
@[simp] theorem State.setBank_out (b : Nat) (x : Bank) : (s.setBank b x).out = s.out := rfl
@[simp] theorem State.setBank_freeCnt (b : Nat) (x : Bank) : (s.setBank b x).freeCnt = s.freeCnt := rfl
@[simp] theorem State.setBank_tbl (b : Nat) (x : Bank) : (s.setBank b x).tbl = s.tbl := rfl
@[simp] theorem State.setBank_tblOld (b : Nat) (x : Bank) : (s.setBank b x).tblOld = s.tblOld := rfl
@[simp] theorem State.setBank_str (b : Nat) (x : Bank) : (s.setBank b x).str = s.str := rfl
@[simp] theorem State.setBank_stores (b : Nat) (x : Bank) : (s.setBank b x).stores = s.stores := rfl
@[simp] theorem State.setBank_archive (b : Nat) (x : Bank) : (s.setBank b x).archive = s.archive := rfl
@[simp] theorem State.setBank_cells (b : Nat) (x : Bank) : (s.setBank b x).cells = s.cells := rfl
@[simp] theorem State.setBank_sig (b : Nat) (x : Bank) : (s.setBank b x).sig = s.sig := rfl
@[simp] theorem State.setBank_pages (b : Nat) (x : Bank) : (s.setBank b x).pages = s.pages := rfl
@[simp] theorem State.setBank_tb (b : Nat) (x : Bank) : (s.setBank b x).tb = s.tb := rfl
@[simp] theorem State.setBank_trk (b : Nat) (x : Bank) : (s.setBank b x).trk = s.trk := rfl
@[simp] theorem State.setBank_limits (b : Nat) (x : Bank) : (s.setBank b x).limits = s.limits := rfl
@[simp] theorem State.setBank_evRoutes (b : Nat) (x : Bank) : (s.setBank b x).evRoutes = s.evRoutes := rfl
@[simp] theorem State.setBank_pdus (b : Nat) (x : Bank) : (s.setBank b x).pdus = s.pdus := rfl
@[simp] theorem State.setBank_engines (b : Nat) (x : Bank) : (s.setBank b x).engines = s.engines := rfl
@[simp] theorem State.setBank_waking (b : Nat) (x : Bank) : (s.setBank b x).waking = s.waking := rfl
@[simp] theorem State.setBank_spared (b : Nat) (x : Bank) : (s.setBank b x).spared = s.spared := rfl
@[simp] theorem State.setBank_mbs (b : Nat) (x : Bank) : (s.setBank b x).mbs = s.mbs := rfl
@[simp] theorem State.setBank_can (b : Nat) (x : Bank) : (s.setBank b x).can = s.can := rfl
@[simp] theorem State.setBank_lanes (b : Nat) (x : Bank) : (s.setBank b x).lanes = s.lanes := rfl
@[simp] theorem State.setBank_queues (b : Nat) (x : Bank) : (s.setBank b x).queues = s.queues := rfl
@[simp] theorem State.setBank_ports (b : Nat) (x : Bank) : (s.setBank b x).ports = s.ports := rfl
@[simp] theorem State.setBank_saltern (b : Nat) (x : Bank) : (s.setBank b x).saltern = s.saltern := rfl
@[simp] theorem State.setBank_pduSeq (b : Nat) (x : Bank) : (s.setBank b x).pduSeq = s.pduSeq := rfl
@[simp] theorem State.setBank_ringWins (b : Nat) (x : Bank) : (s.setBank b x).ringWins = s.ringWins := rfl
@[simp] theorem State.setBank_ringPeers (b : Nat) (x : Bank) : (s.setBank b x).ringPeers = s.ringPeers := rfl
@[simp] theorem State.setBank_ring (b : Nat) (x : Bank) : (s.setBank b x).ring = s.ring := rfl
@[simp] theorem State.setBank_slots (b : Nat) (x : Bank) : (s.setBank b x).slots = s.slots := rfl
@[simp] theorem State.setBank_pols (b : Nat) (x : Bank) : (s.setBank b x).pols = s.pols := rfl
@[simp] theorem State.setBank_holdBuf (b : Nat) (x : Bank) : (s.setBank b x).holdBuf = s.holdBuf := rfl
@[simp] theorem State.setBank_bridge (b : Nat) (x : Bank) : (s.setBank b x).bridge = s.bridge := rfl
@[simp] theorem State.setBank_rings (b : Nat) (x : Bank) : (s.setBank b x).rings = s.rings := rfl
@[simp] theorem State.setBank_jobTurn (b : Nat) (x : Bank) : (s.setBank b x).jobTurn = s.jobTurn := rfl
@[simp] theorem State.setBank_acts (b : Nat) (x : Bank) : (s.setBank b x).acts = s.acts := rfl
@[simp] theorem State.setBank_crowd (b : Nat) (x : Bank) : (s.setBank b x).crowd = s.crowd := rfl
@[simp] theorem State.setBank_hlt (b : Nat) (x : Bank) : (s.setBank b x).hlt = s.hlt := rfl
@[simp] theorem State.setBank_dev (b : Nat) (x : Bank) : (s.setBank b x).dev = s.dev := rfl
@[simp] theorem State.setBank_upd (b : Nat) (x : Bank) : (s.setBank b x).upd = s.upd := rfl
@[simp] theorem State.setBank_opts (b : Nat) (x : Bank) : (s.setBank b x).opts = s.opts := rfl
@[simp] theorem State.setBank_fieldReady (b : Nat) (x : Bank) : (s.setBank b x).fieldReady = s.fieldReady := rfl
@[simp] theorem State.setBank_nextId (b : Nat) (x : Bank) : (s.setBank b x).nextId = s.nextId := rfl
@[simp] theorem State.setBank_pending (b : Nat) (x : Bank) : (s.setBank b x).pending = s.pending := rfl

/-! ## `State.setQueue` -/

@[simp] theorem State.setQueue_regs (p q : Nat) (x : EgressQ) : (s.setQueue p q x).regs = s.regs := rfl
@[simp] theorem State.setQueue_mem (p q : Nat) (x : EgressQ) : (s.setQueue p q x).mem = s.mem := rfl
@[simp] theorem State.setQueue_flash (p q : Nat) (x : EgressQ) : (s.setQueue p q x).flash = s.flash := rfl
@[simp] theorem State.setQueue_staged (p q : Nat) (x : EgressQ) : (s.setQueue p q x).staged = s.staged := rfl
@[simp] theorem State.setQueue_hold (p q : Nat) (x : EgressQ) : (s.setQueue p q x).hold = s.hold := rfl
@[simp] theorem State.setQueue_eqs (p q : Nat) (x : EgressQ) : (s.setQueue p q x).eqs = s.eqs := rfl
@[simp] theorem State.setQueue_out (p q : Nat) (x : EgressQ) : (s.setQueue p q x).out = s.out := rfl
@[simp] theorem State.setQueue_freeCnt (p q : Nat) (x : EgressQ) : (s.setQueue p q x).freeCnt = s.freeCnt := rfl
@[simp] theorem State.setQueue_tbl (p q : Nat) (x : EgressQ) : (s.setQueue p q x).tbl = s.tbl := rfl
@[simp] theorem State.setQueue_tblOld (p q : Nat) (x : EgressQ) : (s.setQueue p q x).tblOld = s.tblOld := rfl
@[simp] theorem State.setQueue_str (p q : Nat) (x : EgressQ) : (s.setQueue p q x).str = s.str := rfl
@[simp] theorem State.setQueue_stores (p q : Nat) (x : EgressQ) : (s.setQueue p q x).stores = s.stores := rfl
@[simp] theorem State.setQueue_archive (p q : Nat) (x : EgressQ) : (s.setQueue p q x).archive = s.archive := rfl
@[simp] theorem State.setQueue_cells (p q : Nat) (x : EgressQ) : (s.setQueue p q x).cells = s.cells := rfl
@[simp] theorem State.setQueue_sig (p q : Nat) (x : EgressQ) : (s.setQueue p q x).sig = s.sig := rfl
@[simp] theorem State.setQueue_pages (p q : Nat) (x : EgressQ) : (s.setQueue p q x).pages = s.pages := rfl
@[simp] theorem State.setQueue_tb (p q : Nat) (x : EgressQ) : (s.setQueue p q x).tb = s.tb := rfl
@[simp] theorem State.setQueue_trk (p q : Nat) (x : EgressQ) : (s.setQueue p q x).trk = s.trk := rfl
@[simp] theorem State.setQueue_limits (p q : Nat) (x : EgressQ) : (s.setQueue p q x).limits = s.limits := rfl
@[simp] theorem State.setQueue_evRoutes (p q : Nat) (x : EgressQ) : (s.setQueue p q x).evRoutes = s.evRoutes := rfl
@[simp] theorem State.setQueue_pdus (p q : Nat) (x : EgressQ) : (s.setQueue p q x).pdus = s.pdus := rfl
@[simp] theorem State.setQueue_engines (p q : Nat) (x : EgressQ) : (s.setQueue p q x).engines = s.engines := rfl
@[simp] theorem State.setQueue_waking (p q : Nat) (x : EgressQ) : (s.setQueue p q x).waking = s.waking := rfl
@[simp] theorem State.setQueue_spared (p q : Nat) (x : EgressQ) : (s.setQueue p q x).spared = s.spared := rfl
@[simp] theorem State.setQueue_mbs (p q : Nat) (x : EgressQ) : (s.setQueue p q x).mbs = s.mbs := rfl
@[simp] theorem State.setQueue_can (p q : Nat) (x : EgressQ) : (s.setQueue p q x).can = s.can := rfl
@[simp] theorem State.setQueue_lanes (p q : Nat) (x : EgressQ) : (s.setQueue p q x).lanes = s.lanes := rfl
@[simp] theorem State.setQueue_banks (p q : Nat) (x : EgressQ) : (s.setQueue p q x).banks = s.banks := rfl
@[simp] theorem State.setQueue_ports (p q : Nat) (x : EgressQ) : (s.setQueue p q x).ports = s.ports := rfl
@[simp] theorem State.setQueue_saltern (p q : Nat) (x : EgressQ) : (s.setQueue p q x).saltern = s.saltern := rfl
@[simp] theorem State.setQueue_pduSeq (p q : Nat) (x : EgressQ) : (s.setQueue p q x).pduSeq = s.pduSeq := rfl
@[simp] theorem State.setQueue_ringWins (p q : Nat) (x : EgressQ) : (s.setQueue p q x).ringWins = s.ringWins := rfl
@[simp] theorem State.setQueue_ringPeers (p q : Nat) (x : EgressQ) : (s.setQueue p q x).ringPeers = s.ringPeers := rfl
@[simp] theorem State.setQueue_ring (p q : Nat) (x : EgressQ) : (s.setQueue p q x).ring = s.ring := rfl
@[simp] theorem State.setQueue_slots (p q : Nat) (x : EgressQ) : (s.setQueue p q x).slots = s.slots := rfl
@[simp] theorem State.setQueue_pols (p q : Nat) (x : EgressQ) : (s.setQueue p q x).pols = s.pols := rfl
@[simp] theorem State.setQueue_holdBuf (p q : Nat) (x : EgressQ) : (s.setQueue p q x).holdBuf = s.holdBuf := rfl
@[simp] theorem State.setQueue_bridge (p q : Nat) (x : EgressQ) : (s.setQueue p q x).bridge = s.bridge := rfl
@[simp] theorem State.setQueue_rings (p q : Nat) (x : EgressQ) : (s.setQueue p q x).rings = s.rings := rfl
@[simp] theorem State.setQueue_jobTurn (p q : Nat) (x : EgressQ) : (s.setQueue p q x).jobTurn = s.jobTurn := rfl
@[simp] theorem State.setQueue_acts (p q : Nat) (x : EgressQ) : (s.setQueue p q x).acts = s.acts := rfl
@[simp] theorem State.setQueue_crowd (p q : Nat) (x : EgressQ) : (s.setQueue p q x).crowd = s.crowd := rfl
@[simp] theorem State.setQueue_hlt (p q : Nat) (x : EgressQ) : (s.setQueue p q x).hlt = s.hlt := rfl
@[simp] theorem State.setQueue_dev (p q : Nat) (x : EgressQ) : (s.setQueue p q x).dev = s.dev := rfl
@[simp] theorem State.setQueue_upd (p q : Nat) (x : EgressQ) : (s.setQueue p q x).upd = s.upd := rfl
@[simp] theorem State.setQueue_opts (p q : Nat) (x : EgressQ) : (s.setQueue p q x).opts = s.opts := rfl
@[simp] theorem State.setQueue_fieldReady (p q : Nat) (x : EgressQ) : (s.setQueue p q x).fieldReady = s.fieldReady := rfl
@[simp] theorem State.setQueue_nextId (p q : Nat) (x : EgressQ) : (s.setQueue p q x).nextId = s.nextId := rfl
@[simp] theorem State.setQueue_pending (p q : Nat) (x : EgressQ) : (s.setQueue p q x).pending = s.pending := rfl

/-! ## `State.setPort` -/

@[simp] theorem State.setPort_regs (p : Nat) (x : PortState) : (s.setPort p x).regs = s.regs := rfl
@[simp] theorem State.setPort_mem (p : Nat) (x : PortState) : (s.setPort p x).mem = s.mem := rfl
@[simp] theorem State.setPort_flash (p : Nat) (x : PortState) : (s.setPort p x).flash = s.flash := rfl
@[simp] theorem State.setPort_staged (p : Nat) (x : PortState) : (s.setPort p x).staged = s.staged := rfl
@[simp] theorem State.setPort_hold (p : Nat) (x : PortState) : (s.setPort p x).hold = s.hold := rfl
@[simp] theorem State.setPort_eqs (p : Nat) (x : PortState) : (s.setPort p x).eqs = s.eqs := rfl
@[simp] theorem State.setPort_out (p : Nat) (x : PortState) : (s.setPort p x).out = s.out := rfl
@[simp] theorem State.setPort_freeCnt (p : Nat) (x : PortState) : (s.setPort p x).freeCnt = s.freeCnt := rfl
@[simp] theorem State.setPort_tbl (p : Nat) (x : PortState) : (s.setPort p x).tbl = s.tbl := rfl
@[simp] theorem State.setPort_tblOld (p : Nat) (x : PortState) : (s.setPort p x).tblOld = s.tblOld := rfl
@[simp] theorem State.setPort_str (p : Nat) (x : PortState) : (s.setPort p x).str = s.str := rfl
@[simp] theorem State.setPort_stores (p : Nat) (x : PortState) : (s.setPort p x).stores = s.stores := rfl
@[simp] theorem State.setPort_archive (p : Nat) (x : PortState) : (s.setPort p x).archive = s.archive := rfl
@[simp] theorem State.setPort_cells (p : Nat) (x : PortState) : (s.setPort p x).cells = s.cells := rfl
@[simp] theorem State.setPort_sig (p : Nat) (x : PortState) : (s.setPort p x).sig = s.sig := rfl
@[simp] theorem State.setPort_pages (p : Nat) (x : PortState) : (s.setPort p x).pages = s.pages := rfl
@[simp] theorem State.setPort_tb (p : Nat) (x : PortState) : (s.setPort p x).tb = s.tb := rfl
@[simp] theorem State.setPort_trk (p : Nat) (x : PortState) : (s.setPort p x).trk = s.trk := rfl
@[simp] theorem State.setPort_limits (p : Nat) (x : PortState) : (s.setPort p x).limits = s.limits := rfl
@[simp] theorem State.setPort_evRoutes (p : Nat) (x : PortState) : (s.setPort p x).evRoutes = s.evRoutes := rfl
@[simp] theorem State.setPort_pdus (p : Nat) (x : PortState) : (s.setPort p x).pdus = s.pdus := rfl
@[simp] theorem State.setPort_engines (p : Nat) (x : PortState) : (s.setPort p x).engines = s.engines := rfl
@[simp] theorem State.setPort_waking (p : Nat) (x : PortState) : (s.setPort p x).waking = s.waking := rfl
@[simp] theorem State.setPort_spared (p : Nat) (x : PortState) : (s.setPort p x).spared = s.spared := rfl
@[simp] theorem State.setPort_mbs (p : Nat) (x : PortState) : (s.setPort p x).mbs = s.mbs := rfl
@[simp] theorem State.setPort_can (p : Nat) (x : PortState) : (s.setPort p x).can = s.can := rfl
@[simp] theorem State.setPort_lanes (p : Nat) (x : PortState) : (s.setPort p x).lanes = s.lanes := rfl
@[simp] theorem State.setPort_banks (p : Nat) (x : PortState) : (s.setPort p x).banks = s.banks := rfl
@[simp] theorem State.setPort_queues (p : Nat) (x : PortState) : (s.setPort p x).queues = s.queues := rfl
@[simp] theorem State.setPort_saltern (p : Nat) (x : PortState) : (s.setPort p x).saltern = s.saltern := rfl
@[simp] theorem State.setPort_pduSeq (p : Nat) (x : PortState) : (s.setPort p x).pduSeq = s.pduSeq := rfl
@[simp] theorem State.setPort_ringWins (p : Nat) (x : PortState) : (s.setPort p x).ringWins = s.ringWins := rfl
@[simp] theorem State.setPort_ringPeers (p : Nat) (x : PortState) : (s.setPort p x).ringPeers = s.ringPeers := rfl
@[simp] theorem State.setPort_ring (p : Nat) (x : PortState) : (s.setPort p x).ring = s.ring := rfl
@[simp] theorem State.setPort_slots (p : Nat) (x : PortState) : (s.setPort p x).slots = s.slots := rfl
@[simp] theorem State.setPort_pols (p : Nat) (x : PortState) : (s.setPort p x).pols = s.pols := rfl
@[simp] theorem State.setPort_holdBuf (p : Nat) (x : PortState) : (s.setPort p x).holdBuf = s.holdBuf := rfl
@[simp] theorem State.setPort_bridge (p : Nat) (x : PortState) : (s.setPort p x).bridge = s.bridge := rfl
@[simp] theorem State.setPort_rings (p : Nat) (x : PortState) : (s.setPort p x).rings = s.rings := rfl
@[simp] theorem State.setPort_jobTurn (p : Nat) (x : PortState) : (s.setPort p x).jobTurn = s.jobTurn := rfl
@[simp] theorem State.setPort_acts (p : Nat) (x : PortState) : (s.setPort p x).acts = s.acts := rfl
@[simp] theorem State.setPort_crowd (p : Nat) (x : PortState) : (s.setPort p x).crowd = s.crowd := rfl
@[simp] theorem State.setPort_hlt (p : Nat) (x : PortState) : (s.setPort p x).hlt = s.hlt := rfl
@[simp] theorem State.setPort_dev (p : Nat) (x : PortState) : (s.setPort p x).dev = s.dev := rfl
@[simp] theorem State.setPort_upd (p : Nat) (x : PortState) : (s.setPort p x).upd = s.upd := rfl
@[simp] theorem State.setPort_opts (p : Nat) (x : PortState) : (s.setPort p x).opts = s.opts := rfl
@[simp] theorem State.setPort_fieldReady (p : Nat) (x : PortState) : (s.setPort p x).fieldReady = s.fieldReady := rfl
@[simp] theorem State.setPort_nextId (p : Nat) (x : PortState) : (s.setPort p x).nextId = s.nextId := rfl
@[simp] theorem State.setPort_pending (p : Nat) (x : PortState) : (s.setPort p x).pending = s.pending := rfl

/-! ## `State.setSlot` -/

@[simp] theorem State.setSlot_regs (k : Nat) (x : KeySlot) : (s.setSlot k x).regs = s.regs := rfl
@[simp] theorem State.setSlot_mem (k : Nat) (x : KeySlot) : (s.setSlot k x).mem = s.mem := rfl
@[simp] theorem State.setSlot_flash (k : Nat) (x : KeySlot) : (s.setSlot k x).flash = s.flash := rfl
@[simp] theorem State.setSlot_staged (k : Nat) (x : KeySlot) : (s.setSlot k x).staged = s.staged := rfl
@[simp] theorem State.setSlot_hold (k : Nat) (x : KeySlot) : (s.setSlot k x).hold = s.hold := rfl
@[simp] theorem State.setSlot_eqs (k : Nat) (x : KeySlot) : (s.setSlot k x).eqs = s.eqs := rfl
@[simp] theorem State.setSlot_out (k : Nat) (x : KeySlot) : (s.setSlot k x).out = s.out := rfl
@[simp] theorem State.setSlot_freeCnt (k : Nat) (x : KeySlot) : (s.setSlot k x).freeCnt = s.freeCnt := rfl
@[simp] theorem State.setSlot_tbl (k : Nat) (x : KeySlot) : (s.setSlot k x).tbl = s.tbl := rfl
@[simp] theorem State.setSlot_tblOld (k : Nat) (x : KeySlot) : (s.setSlot k x).tblOld = s.tblOld := rfl
@[simp] theorem State.setSlot_str (k : Nat) (x : KeySlot) : (s.setSlot k x).str = s.str := rfl
@[simp] theorem State.setSlot_stores (k : Nat) (x : KeySlot) : (s.setSlot k x).stores = s.stores := rfl
@[simp] theorem State.setSlot_archive (k : Nat) (x : KeySlot) : (s.setSlot k x).archive = s.archive := rfl
@[simp] theorem State.setSlot_cells (k : Nat) (x : KeySlot) : (s.setSlot k x).cells = s.cells := rfl
@[simp] theorem State.setSlot_sig (k : Nat) (x : KeySlot) : (s.setSlot k x).sig = s.sig := rfl
@[simp] theorem State.setSlot_pages (k : Nat) (x : KeySlot) : (s.setSlot k x).pages = s.pages := rfl
@[simp] theorem State.setSlot_tb (k : Nat) (x : KeySlot) : (s.setSlot k x).tb = s.tb := rfl
@[simp] theorem State.setSlot_trk (k : Nat) (x : KeySlot) : (s.setSlot k x).trk = s.trk := rfl
@[simp] theorem State.setSlot_limits (k : Nat) (x : KeySlot) : (s.setSlot k x).limits = s.limits := rfl
@[simp] theorem State.setSlot_evRoutes (k : Nat) (x : KeySlot) : (s.setSlot k x).evRoutes = s.evRoutes := rfl
@[simp] theorem State.setSlot_pdus (k : Nat) (x : KeySlot) : (s.setSlot k x).pdus = s.pdus := rfl
@[simp] theorem State.setSlot_engines (k : Nat) (x : KeySlot) : (s.setSlot k x).engines = s.engines := rfl
@[simp] theorem State.setSlot_waking (k : Nat) (x : KeySlot) : (s.setSlot k x).waking = s.waking := rfl
@[simp] theorem State.setSlot_spared (k : Nat) (x : KeySlot) : (s.setSlot k x).spared = s.spared := rfl
@[simp] theorem State.setSlot_mbs (k : Nat) (x : KeySlot) : (s.setSlot k x).mbs = s.mbs := rfl
@[simp] theorem State.setSlot_can (k : Nat) (x : KeySlot) : (s.setSlot k x).can = s.can := rfl
@[simp] theorem State.setSlot_lanes (k : Nat) (x : KeySlot) : (s.setSlot k x).lanes = s.lanes := rfl
@[simp] theorem State.setSlot_banks (k : Nat) (x : KeySlot) : (s.setSlot k x).banks = s.banks := rfl
@[simp] theorem State.setSlot_queues (k : Nat) (x : KeySlot) : (s.setSlot k x).queues = s.queues := rfl
@[simp] theorem State.setSlot_ports (k : Nat) (x : KeySlot) : (s.setSlot k x).ports = s.ports := rfl
@[simp] theorem State.setSlot_saltern (k : Nat) (x : KeySlot) : (s.setSlot k x).saltern = s.saltern := rfl
@[simp] theorem State.setSlot_pduSeq (k : Nat) (x : KeySlot) : (s.setSlot k x).pduSeq = s.pduSeq := rfl
@[simp] theorem State.setSlot_ringWins (k : Nat) (x : KeySlot) : (s.setSlot k x).ringWins = s.ringWins := rfl
@[simp] theorem State.setSlot_ringPeers (k : Nat) (x : KeySlot) : (s.setSlot k x).ringPeers = s.ringPeers := rfl
@[simp] theorem State.setSlot_ring (k : Nat) (x : KeySlot) : (s.setSlot k x).ring = s.ring := rfl
@[simp] theorem State.setSlot_pols (k : Nat) (x : KeySlot) : (s.setSlot k x).pols = s.pols := rfl
@[simp] theorem State.setSlot_holdBuf (k : Nat) (x : KeySlot) : (s.setSlot k x).holdBuf = s.holdBuf := rfl
@[simp] theorem State.setSlot_bridge (k : Nat) (x : KeySlot) : (s.setSlot k x).bridge = s.bridge := rfl
@[simp] theorem State.setSlot_rings (k : Nat) (x : KeySlot) : (s.setSlot k x).rings = s.rings := rfl
@[simp] theorem State.setSlot_jobTurn (k : Nat) (x : KeySlot) : (s.setSlot k x).jobTurn = s.jobTurn := rfl
@[simp] theorem State.setSlot_acts (k : Nat) (x : KeySlot) : (s.setSlot k x).acts = s.acts := rfl
@[simp] theorem State.setSlot_crowd (k : Nat) (x : KeySlot) : (s.setSlot k x).crowd = s.crowd := rfl
@[simp] theorem State.setSlot_hlt (k : Nat) (x : KeySlot) : (s.setSlot k x).hlt = s.hlt := rfl
@[simp] theorem State.setSlot_dev (k : Nat) (x : KeySlot) : (s.setSlot k x).dev = s.dev := rfl
@[simp] theorem State.setSlot_upd (k : Nat) (x : KeySlot) : (s.setSlot k x).upd = s.upd := rfl
@[simp] theorem State.setSlot_opts (k : Nat) (x : KeySlot) : (s.setSlot k x).opts = s.opts := rfl
@[simp] theorem State.setSlot_fieldReady (k : Nat) (x : KeySlot) : (s.setSlot k x).fieldReady = s.fieldReady := rfl
@[simp] theorem State.setSlot_nextId (k : Nat) (x : KeySlot) : (s.setSlot k x).nextId = s.nextId := rfl
@[simp] theorem State.setSlot_pending (k : Nat) (x : KeySlot) : (s.setSlot k x).pending = s.pending := rfl

/-! ## `State.setPol` -/

@[simp] theorem State.setPol_regs (i : Nat) (x : PolState) : (s.setPol i x).regs = s.regs := rfl
@[simp] theorem State.setPol_mem (i : Nat) (x : PolState) : (s.setPol i x).mem = s.mem := rfl
@[simp] theorem State.setPol_flash (i : Nat) (x : PolState) : (s.setPol i x).flash = s.flash := rfl
@[simp] theorem State.setPol_staged (i : Nat) (x : PolState) : (s.setPol i x).staged = s.staged := rfl
@[simp] theorem State.setPol_hold (i : Nat) (x : PolState) : (s.setPol i x).hold = s.hold := rfl
@[simp] theorem State.setPol_eqs (i : Nat) (x : PolState) : (s.setPol i x).eqs = s.eqs := rfl
@[simp] theorem State.setPol_out (i : Nat) (x : PolState) : (s.setPol i x).out = s.out := rfl
@[simp] theorem State.setPol_freeCnt (i : Nat) (x : PolState) : (s.setPol i x).freeCnt = s.freeCnt := rfl
@[simp] theorem State.setPol_tbl (i : Nat) (x : PolState) : (s.setPol i x).tbl = s.tbl := rfl
@[simp] theorem State.setPol_tblOld (i : Nat) (x : PolState) : (s.setPol i x).tblOld = s.tblOld := rfl
@[simp] theorem State.setPol_str (i : Nat) (x : PolState) : (s.setPol i x).str = s.str := rfl
@[simp] theorem State.setPol_stores (i : Nat) (x : PolState) : (s.setPol i x).stores = s.stores := rfl
@[simp] theorem State.setPol_archive (i : Nat) (x : PolState) : (s.setPol i x).archive = s.archive := rfl
@[simp] theorem State.setPol_cells (i : Nat) (x : PolState) : (s.setPol i x).cells = s.cells := rfl
@[simp] theorem State.setPol_sig (i : Nat) (x : PolState) : (s.setPol i x).sig = s.sig := rfl
@[simp] theorem State.setPol_pages (i : Nat) (x : PolState) : (s.setPol i x).pages = s.pages := rfl
@[simp] theorem State.setPol_tb (i : Nat) (x : PolState) : (s.setPol i x).tb = s.tb := rfl
@[simp] theorem State.setPol_trk (i : Nat) (x : PolState) : (s.setPol i x).trk = s.trk := rfl
@[simp] theorem State.setPol_limits (i : Nat) (x : PolState) : (s.setPol i x).limits = s.limits := rfl
@[simp] theorem State.setPol_evRoutes (i : Nat) (x : PolState) : (s.setPol i x).evRoutes = s.evRoutes := rfl
@[simp] theorem State.setPol_pdus (i : Nat) (x : PolState) : (s.setPol i x).pdus = s.pdus := rfl
@[simp] theorem State.setPol_engines (i : Nat) (x : PolState) : (s.setPol i x).engines = s.engines := rfl
@[simp] theorem State.setPol_waking (i : Nat) (x : PolState) : (s.setPol i x).waking = s.waking := rfl
@[simp] theorem State.setPol_spared (i : Nat) (x : PolState) : (s.setPol i x).spared = s.spared := rfl
@[simp] theorem State.setPol_mbs (i : Nat) (x : PolState) : (s.setPol i x).mbs = s.mbs := rfl
@[simp] theorem State.setPol_can (i : Nat) (x : PolState) : (s.setPol i x).can = s.can := rfl
@[simp] theorem State.setPol_lanes (i : Nat) (x : PolState) : (s.setPol i x).lanes = s.lanes := rfl
@[simp] theorem State.setPol_banks (i : Nat) (x : PolState) : (s.setPol i x).banks = s.banks := rfl
@[simp] theorem State.setPol_queues (i : Nat) (x : PolState) : (s.setPol i x).queues = s.queues := rfl
@[simp] theorem State.setPol_ports (i : Nat) (x : PolState) : (s.setPol i x).ports = s.ports := rfl
@[simp] theorem State.setPol_saltern (i : Nat) (x : PolState) : (s.setPol i x).saltern = s.saltern := rfl
@[simp] theorem State.setPol_pduSeq (i : Nat) (x : PolState) : (s.setPol i x).pduSeq = s.pduSeq := rfl
@[simp] theorem State.setPol_ringWins (i : Nat) (x : PolState) : (s.setPol i x).ringWins = s.ringWins := rfl
@[simp] theorem State.setPol_ringPeers (i : Nat) (x : PolState) : (s.setPol i x).ringPeers = s.ringPeers := rfl
@[simp] theorem State.setPol_ring (i : Nat) (x : PolState) : (s.setPol i x).ring = s.ring := rfl
@[simp] theorem State.setPol_slots (i : Nat) (x : PolState) : (s.setPol i x).slots = s.slots := rfl
@[simp] theorem State.setPol_holdBuf (i : Nat) (x : PolState) : (s.setPol i x).holdBuf = s.holdBuf := rfl
@[simp] theorem State.setPol_bridge (i : Nat) (x : PolState) : (s.setPol i x).bridge = s.bridge := rfl
@[simp] theorem State.setPol_rings (i : Nat) (x : PolState) : (s.setPol i x).rings = s.rings := rfl
@[simp] theorem State.setPol_jobTurn (i : Nat) (x : PolState) : (s.setPol i x).jobTurn = s.jobTurn := rfl
@[simp] theorem State.setPol_acts (i : Nat) (x : PolState) : (s.setPol i x).acts = s.acts := rfl
@[simp] theorem State.setPol_crowd (i : Nat) (x : PolState) : (s.setPol i x).crowd = s.crowd := rfl
@[simp] theorem State.setPol_hlt (i : Nat) (x : PolState) : (s.setPol i x).hlt = s.hlt := rfl
@[simp] theorem State.setPol_dev (i : Nat) (x : PolState) : (s.setPol i x).dev = s.dev := rfl
@[simp] theorem State.setPol_upd (i : Nat) (x : PolState) : (s.setPol i x).upd = s.upd := rfl
@[simp] theorem State.setPol_opts (i : Nat) (x : PolState) : (s.setPol i x).opts = s.opts := rfl
@[simp] theorem State.setPol_fieldReady (i : Nat) (x : PolState) : (s.setPol i x).fieldReady = s.fieldReady := rfl
@[simp] theorem State.setPol_nextId (i : Nat) (x : PolState) : (s.setPol i x).nextId = s.nextId := rfl
@[simp] theorem State.setPol_pending (i : Nat) (x : PolState) : (s.setPol i x).pending = s.pending := rfl

/-! ## `State.setJring` -/

@[simp] theorem State.setJring_regs (p r : Nat) (x : JobRing) : (s.setJring p r x).regs = s.regs := rfl
@[simp] theorem State.setJring_mem (p r : Nat) (x : JobRing) : (s.setJring p r x).mem = s.mem := rfl
@[simp] theorem State.setJring_flash (p r : Nat) (x : JobRing) : (s.setJring p r x).flash = s.flash := rfl
@[simp] theorem State.setJring_staged (p r : Nat) (x : JobRing) : (s.setJring p r x).staged = s.staged := rfl
@[simp] theorem State.setJring_hold (p r : Nat) (x : JobRing) : (s.setJring p r x).hold = s.hold := rfl
@[simp] theorem State.setJring_eqs (p r : Nat) (x : JobRing) : (s.setJring p r x).eqs = s.eqs := rfl
@[simp] theorem State.setJring_out (p r : Nat) (x : JobRing) : (s.setJring p r x).out = s.out := rfl
@[simp] theorem State.setJring_freeCnt (p r : Nat) (x : JobRing) : (s.setJring p r x).freeCnt = s.freeCnt := rfl
@[simp] theorem State.setJring_tbl (p r : Nat) (x : JobRing) : (s.setJring p r x).tbl = s.tbl := rfl
@[simp] theorem State.setJring_tblOld (p r : Nat) (x : JobRing) : (s.setJring p r x).tblOld = s.tblOld := rfl
@[simp] theorem State.setJring_str (p r : Nat) (x : JobRing) : (s.setJring p r x).str = s.str := rfl
@[simp] theorem State.setJring_stores (p r : Nat) (x : JobRing) : (s.setJring p r x).stores = s.stores := rfl
@[simp] theorem State.setJring_archive (p r : Nat) (x : JobRing) : (s.setJring p r x).archive = s.archive := rfl
@[simp] theorem State.setJring_cells (p r : Nat) (x : JobRing) : (s.setJring p r x).cells = s.cells := rfl
@[simp] theorem State.setJring_sig (p r : Nat) (x : JobRing) : (s.setJring p r x).sig = s.sig := rfl
@[simp] theorem State.setJring_pages (p r : Nat) (x : JobRing) : (s.setJring p r x).pages = s.pages := rfl
@[simp] theorem State.setJring_tb (p r : Nat) (x : JobRing) : (s.setJring p r x).tb = s.tb := rfl
@[simp] theorem State.setJring_trk (p r : Nat) (x : JobRing) : (s.setJring p r x).trk = s.trk := rfl
@[simp] theorem State.setJring_limits (p r : Nat) (x : JobRing) : (s.setJring p r x).limits = s.limits := rfl
@[simp] theorem State.setJring_evRoutes (p r : Nat) (x : JobRing) : (s.setJring p r x).evRoutes = s.evRoutes := rfl
@[simp] theorem State.setJring_pdus (p r : Nat) (x : JobRing) : (s.setJring p r x).pdus = s.pdus := rfl
@[simp] theorem State.setJring_engines (p r : Nat) (x : JobRing) : (s.setJring p r x).engines = s.engines := rfl
@[simp] theorem State.setJring_waking (p r : Nat) (x : JobRing) : (s.setJring p r x).waking = s.waking := rfl
@[simp] theorem State.setJring_spared (p r : Nat) (x : JobRing) : (s.setJring p r x).spared = s.spared := rfl
@[simp] theorem State.setJring_mbs (p r : Nat) (x : JobRing) : (s.setJring p r x).mbs = s.mbs := rfl
@[simp] theorem State.setJring_can (p r : Nat) (x : JobRing) : (s.setJring p r x).can = s.can := rfl
@[simp] theorem State.setJring_lanes (p r : Nat) (x : JobRing) : (s.setJring p r x).lanes = s.lanes := rfl
@[simp] theorem State.setJring_banks (p r : Nat) (x : JobRing) : (s.setJring p r x).banks = s.banks := rfl
@[simp] theorem State.setJring_queues (p r : Nat) (x : JobRing) : (s.setJring p r x).queues = s.queues := rfl
@[simp] theorem State.setJring_ports (p r : Nat) (x : JobRing) : (s.setJring p r x).ports = s.ports := rfl
@[simp] theorem State.setJring_saltern (p r : Nat) (x : JobRing) : (s.setJring p r x).saltern = s.saltern := rfl
@[simp] theorem State.setJring_pduSeq (p r : Nat) (x : JobRing) : (s.setJring p r x).pduSeq = s.pduSeq := rfl
@[simp] theorem State.setJring_ringWins (p r : Nat) (x : JobRing) : (s.setJring p r x).ringWins = s.ringWins := rfl
@[simp] theorem State.setJring_ringPeers (p r : Nat) (x : JobRing) : (s.setJring p r x).ringPeers = s.ringPeers := rfl
@[simp] theorem State.setJring_ring (p r : Nat) (x : JobRing) : (s.setJring p r x).ring = s.ring := rfl
@[simp] theorem State.setJring_slots (p r : Nat) (x : JobRing) : (s.setJring p r x).slots = s.slots := rfl
@[simp] theorem State.setJring_pols (p r : Nat) (x : JobRing) : (s.setJring p r x).pols = s.pols := rfl
@[simp] theorem State.setJring_holdBuf (p r : Nat) (x : JobRing) : (s.setJring p r x).holdBuf = s.holdBuf := rfl
@[simp] theorem State.setJring_bridge (p r : Nat) (x : JobRing) : (s.setJring p r x).bridge = s.bridge := rfl
@[simp] theorem State.setJring_jobTurn (p r : Nat) (x : JobRing) : (s.setJring p r x).jobTurn = s.jobTurn := rfl
@[simp] theorem State.setJring_acts (p r : Nat) (x : JobRing) : (s.setJring p r x).acts = s.acts := rfl
@[simp] theorem State.setJring_crowd (p r : Nat) (x : JobRing) : (s.setJring p r x).crowd = s.crowd := rfl
@[simp] theorem State.setJring_hlt (p r : Nat) (x : JobRing) : (s.setJring p r x).hlt = s.hlt := rfl
@[simp] theorem State.setJring_dev (p r : Nat) (x : JobRing) : (s.setJring p r x).dev = s.dev := rfl
@[simp] theorem State.setJring_upd (p r : Nat) (x : JobRing) : (s.setJring p r x).upd = s.upd := rfl
@[simp] theorem State.setJring_opts (p r : Nat) (x : JobRing) : (s.setJring p r x).opts = s.opts := rfl
@[simp] theorem State.setJring_fieldReady (p r : Nat) (x : JobRing) : (s.setJring p r x).fieldReady = s.fieldReady := rfl
@[simp] theorem State.setJring_nextId (p r : Nat) (x : JobRing) : (s.setJring p r x).nextId = s.nextId := rfl
@[simp] theorem State.setJring_pending (p r : Nat) (x : JobRing) : (s.setJring p r x).pending = s.pending := rfl

/-! ## `State.setRingWin` -/

@[simp] theorem State.setRingWin_regs (n : Nat) (x : RingWin) : (s.setRingWin n x).regs = s.regs := rfl
@[simp] theorem State.setRingWin_mem (n : Nat) (x : RingWin) : (s.setRingWin n x).mem = s.mem := rfl
@[simp] theorem State.setRingWin_flash (n : Nat) (x : RingWin) : (s.setRingWin n x).flash = s.flash := rfl
@[simp] theorem State.setRingWin_staged (n : Nat) (x : RingWin) : (s.setRingWin n x).staged = s.staged := rfl
@[simp] theorem State.setRingWin_hold (n : Nat) (x : RingWin) : (s.setRingWin n x).hold = s.hold := rfl
@[simp] theorem State.setRingWin_eqs (n : Nat) (x : RingWin) : (s.setRingWin n x).eqs = s.eqs := rfl
@[simp] theorem State.setRingWin_out (n : Nat) (x : RingWin) : (s.setRingWin n x).out = s.out := rfl
@[simp] theorem State.setRingWin_freeCnt (n : Nat) (x : RingWin) : (s.setRingWin n x).freeCnt = s.freeCnt := rfl
@[simp] theorem State.setRingWin_tbl (n : Nat) (x : RingWin) : (s.setRingWin n x).tbl = s.tbl := rfl
@[simp] theorem State.setRingWin_tblOld (n : Nat) (x : RingWin) : (s.setRingWin n x).tblOld = s.tblOld := rfl
@[simp] theorem State.setRingWin_str (n : Nat) (x : RingWin) : (s.setRingWin n x).str = s.str := rfl
@[simp] theorem State.setRingWin_stores (n : Nat) (x : RingWin) : (s.setRingWin n x).stores = s.stores := rfl
@[simp] theorem State.setRingWin_archive (n : Nat) (x : RingWin) : (s.setRingWin n x).archive = s.archive := rfl
@[simp] theorem State.setRingWin_cells (n : Nat) (x : RingWin) : (s.setRingWin n x).cells = s.cells := rfl
@[simp] theorem State.setRingWin_sig (n : Nat) (x : RingWin) : (s.setRingWin n x).sig = s.sig := rfl
@[simp] theorem State.setRingWin_pages (n : Nat) (x : RingWin) : (s.setRingWin n x).pages = s.pages := rfl
@[simp] theorem State.setRingWin_tb (n : Nat) (x : RingWin) : (s.setRingWin n x).tb = s.tb := rfl
@[simp] theorem State.setRingWin_trk (n : Nat) (x : RingWin) : (s.setRingWin n x).trk = s.trk := rfl
@[simp] theorem State.setRingWin_limits (n : Nat) (x : RingWin) : (s.setRingWin n x).limits = s.limits := rfl
@[simp] theorem State.setRingWin_evRoutes (n : Nat) (x : RingWin) : (s.setRingWin n x).evRoutes = s.evRoutes := rfl
@[simp] theorem State.setRingWin_pdus (n : Nat) (x : RingWin) : (s.setRingWin n x).pdus = s.pdus := rfl
@[simp] theorem State.setRingWin_engines (n : Nat) (x : RingWin) : (s.setRingWin n x).engines = s.engines := rfl
@[simp] theorem State.setRingWin_waking (n : Nat) (x : RingWin) : (s.setRingWin n x).waking = s.waking := rfl
@[simp] theorem State.setRingWin_spared (n : Nat) (x : RingWin) : (s.setRingWin n x).spared = s.spared := rfl
@[simp] theorem State.setRingWin_mbs (n : Nat) (x : RingWin) : (s.setRingWin n x).mbs = s.mbs := rfl
@[simp] theorem State.setRingWin_can (n : Nat) (x : RingWin) : (s.setRingWin n x).can = s.can := rfl
@[simp] theorem State.setRingWin_lanes (n : Nat) (x : RingWin) : (s.setRingWin n x).lanes = s.lanes := rfl
@[simp] theorem State.setRingWin_banks (n : Nat) (x : RingWin) : (s.setRingWin n x).banks = s.banks := rfl
@[simp] theorem State.setRingWin_queues (n : Nat) (x : RingWin) : (s.setRingWin n x).queues = s.queues := rfl
@[simp] theorem State.setRingWin_ports (n : Nat) (x : RingWin) : (s.setRingWin n x).ports = s.ports := rfl
@[simp] theorem State.setRingWin_saltern (n : Nat) (x : RingWin) : (s.setRingWin n x).saltern = s.saltern := rfl
@[simp] theorem State.setRingWin_pduSeq (n : Nat) (x : RingWin) : (s.setRingWin n x).pduSeq = s.pduSeq := rfl
@[simp] theorem State.setRingWin_ringPeers (n : Nat) (x : RingWin) : (s.setRingWin n x).ringPeers = s.ringPeers := rfl
@[simp] theorem State.setRingWin_ring (n : Nat) (x : RingWin) : (s.setRingWin n x).ring = s.ring := rfl
@[simp] theorem State.setRingWin_slots (n : Nat) (x : RingWin) : (s.setRingWin n x).slots = s.slots := rfl
@[simp] theorem State.setRingWin_pols (n : Nat) (x : RingWin) : (s.setRingWin n x).pols = s.pols := rfl
@[simp] theorem State.setRingWin_holdBuf (n : Nat) (x : RingWin) : (s.setRingWin n x).holdBuf = s.holdBuf := rfl
@[simp] theorem State.setRingWin_bridge (n : Nat) (x : RingWin) : (s.setRingWin n x).bridge = s.bridge := rfl
@[simp] theorem State.setRingWin_rings (n : Nat) (x : RingWin) : (s.setRingWin n x).rings = s.rings := rfl
@[simp] theorem State.setRingWin_jobTurn (n : Nat) (x : RingWin) : (s.setRingWin n x).jobTurn = s.jobTurn := rfl
@[simp] theorem State.setRingWin_acts (n : Nat) (x : RingWin) : (s.setRingWin n x).acts = s.acts := rfl
@[simp] theorem State.setRingWin_crowd (n : Nat) (x : RingWin) : (s.setRingWin n x).crowd = s.crowd := rfl
@[simp] theorem State.setRingWin_hlt (n : Nat) (x : RingWin) : (s.setRingWin n x).hlt = s.hlt := rfl
@[simp] theorem State.setRingWin_dev (n : Nat) (x : RingWin) : (s.setRingWin n x).dev = s.dev := rfl
@[simp] theorem State.setRingWin_upd (n : Nat) (x : RingWin) : (s.setRingWin n x).upd = s.upd := rfl
@[simp] theorem State.setRingWin_opts (n : Nat) (x : RingWin) : (s.setRingWin n x).opts = s.opts := rfl
@[simp] theorem State.setRingWin_fieldReady (n : Nat) (x : RingWin) : (s.setRingWin n x).fieldReady = s.fieldReady := rfl
@[simp] theorem State.setRingWin_nextId (n : Nat) (x : RingWin) : (s.setRingWin n x).nextId = s.nextId := rfl
@[simp] theorem State.setRingWin_pending (n : Nat) (x : RingWin) : (s.setRingWin n x).pending = s.pending := rfl

end Sys2Proof.Machine
end

