-- ==== Sys2Proof/Laws/Tbl.lean ====
section
/-!
SUPPORT. The laws of sparse tables: a read after a write to the same key gives the value written, every other key
reads as before, and a write keeps the canonical form.
-/

namespace Sys2Proof.Machine

variable {α : Type} [DecidableEq α] (d : Nat → α)

omit [DecidableEq α] in
@[simp] theorem Tbl.get_nil (k : Nat) : Tbl.get d [] k = d k := rfl

omit [DecidableEq α] in
theorem Tbl.get_of_startsAbove {t : Tbl α} {k j : Nat} (h : Tbl.startsAbove k t = true) (hj : j ≤ k) :
    Tbl.get d t j = d j := by
  match t with
  | [] => rfl
  | (b, v) :: t =>
    have hb : k < b := by simpa [Tbl.startsAbove] using h
    simp [Tbl.get, show j < b by omega]

@[simp] theorem Tbl.get_set_same (t : Tbl α) (k : Nat) (v : α) : Tbl.get d (Tbl.set d t k v) k = v := by
  induction t with
  | nil =>
    by_cases h : v = d k
    · simp [Tbl.set, h]
    · simp [Tbl.set, h, Tbl.get]
  | cons p t ih =>
    obtain ⟨a, w⟩ := p
    simp only [Tbl.set]
    split
    · split
      · simp_all [Tbl.get]
      · simp [Tbl.get]
    · split
      · split
        · rename_i h
          rw [Tbl.get_of_startsAbove d h.2 (le_refl k), h.1]
        · simp [Tbl.get]
      · simp_all [Tbl.get]

theorem Tbl.get_set_ne (t : Tbl α) {k j : Nat} (v : α) (h : j ≠ k) :
    Tbl.get d (Tbl.set d t k v) j = Tbl.get d t j := by
  induction t with
  | nil =>
    simp only [Tbl.set]
    split
    · rfl
    · simp [Tbl.get, h]
  | cons p t ih =>
    obtain ⟨a, w⟩ := p
    simp only [Tbl.set]
    split
    · rename_i hka
      split
      · rfl
      · by_cases hj : j < k
        · simp [Tbl.get, hj, show j < a by omega]
        · simp [Tbl.get, hj, h]
    · split
      · rename_i hka
        subst hka
        split
        · rename_i hv
          by_cases hj : j < k
          · rw [Tbl.get_of_startsAbove d hv.2 (le_of_lt hj)]
            simp [Tbl.get, hj]
          · simp [Tbl.get, hj, h]
        · simp [Tbl.get, h]
      · simp [Tbl.get, ih]

theorem Tbl.get_set (t : Tbl α) (k j : Nat) (v : α) :
    Tbl.get d (Tbl.set d t k v) j = if j = k then v else Tbl.get d t j := by
  split
  · simp_all
  · exact Tbl.get_set_ne d t v ‹_›

theorem Tbl.startsAbove_set {t : Tbl α} {a k : Nat} {v : α} (h : Tbl.startsAbove a t = true) (hk : a < k)
    (hw : Tbl.wf d t = true) : Tbl.startsAbove a (Tbl.set d t k v) = true := by
  match t with
  | [] =>
    simp only [Tbl.set]
    split <;> simp [Tbl.startsAbove, hk]
  | (b, w) :: t =>
    have hb : a < b := by simpa [Tbl.startsAbove] using h
    simp only [Tbl.wf, Bool.and_eq_true, decide_eq_true_eq] at hw
    simp only [Tbl.set]
    split
    · split <;> simp [Tbl.startsAbove, hk, hb]
    · split
      · split
        · rename_i h1 h2
          match t with
          | [] => rfl
          | (c, u) :: t' =>
            have := h2.2
            simp only [Tbl.startsAbove, decide_eq_true_eq] at this ⊢
            omega
        · simp [Tbl.startsAbove, hk]
      · simp [Tbl.startsAbove, hb]

/-- A write keeps the canonical form. -/
theorem Tbl.wf_set {t : Tbl α} (k : Nat) (v : α) (hw : Tbl.wf d t = true) :
    Tbl.wf d (Tbl.set d t k v) = true := by
  induction t with
  | nil =>
    simp only [Tbl.set]
    split
    · rfl
    · rename_i h
      simp [Tbl.wf, Tbl.startsAbove, h]
  | cons p t ih =>
    obtain ⟨a, w⟩ := p
    have hw' := hw
    simp only [Tbl.wf, Bool.and_eq_true, decide_eq_true_eq] at hw
    obtain ⟨⟨h1, h2⟩, h3⟩ := hw
    simp only [Tbl.set]
    split
    · split
      · exact hw'
      · rename_i hka hv
        have h6 : Tbl.wf d ((a, w) :: t) = true := hw'
        rw [Tbl.wf, h6]
        simp [Tbl.startsAbove, hka, hv]
    · split
      · split
        · exact h3
        · rename_i hka hv
          subst hka
          have : v ≠ d k := fun hv' => hv ⟨hv', h2⟩
          simp [Tbl.wf, this, h2, h3]
      · rename_i h4 h5
        have : a < k := by omega
        simp [Tbl.wf, h1, ih h3, Tbl.startsAbove_set d h2 this h3]

/-- A run of writes keeps the canonical form. -/
theorem Tbl.wf_setList {t : Tbl α} (k : Nat) (vs : List α) (hw : Tbl.wf d t = true) :
    Tbl.wf d (Tbl.setList d t k vs) = true := by
  induction vs generalizing t k with
  | nil => exact hw
  | cons v vs ih => exact ih (k + 1) (Tbl.wf_set d k v hw)

theorem Tbl.get_setList_lt (t : Tbl α) (k j : Nat) (vs : List α) (h : j < k) :
    Tbl.get d (Tbl.setList d t k vs) j = Tbl.get d t j := by
  induction vs generalizing t k with
  | nil => rfl
  | cons v vs ih =>
    rw [Tbl.setList, ih _ _ (by omega), Tbl.get_set_ne d t v (by omega)]

theorem Tbl.get_setList_ge (t : Tbl α) (k j : Nat) (vs : List α) (h : k + vs.length ≤ j) :
    Tbl.get d (Tbl.setList d t k vs) j = Tbl.get d t j := by
  induction vs generalizing t k with
  | nil => rfl
  | cons v vs ih =>
    simp only [List.length_cons] at h
    rw [Tbl.setList, ih _ _ (by omega), Tbl.get_set_ne d t v (by omega)]

end Sys2Proof.Machine
end

