-- ==== Sys2Proof/Laws/Regs.lean ====
section
/-!
SUPPORT. The laws of the named operations: a register, a field, a byte or a record reads as it was written, every other
one reads as before, and every write of memory keeps the canonical form.
-/

namespace Sys2Proof.Machine

variable (s : State)

/-! ## Registers -/

@[simp] theorem State.rd_wr_same (a : Nat) (v : Word) : (s.wr a v).rd a = v := Tbl.get_set_same _ _ _ _

theorem State.rd_wr_ne {a b : Nat} (v : Word) (h : b ≠ a) : (s.wr a v).rd b = s.rd b := Tbl.get_set_ne _ _ _ h

theorem State.rd_wr (a b : Nat) (v : Word) : (s.wr a v).rd b = if b = a then v else s.rd b := Tbl.get_set _ _ _ _ _

/-- Only the register table decides what a register reads. -/
theorem State.rd_congr {t : State} (h : t.regs = s.regs) (a : Nat) : t.rd a = s.rd a := by simp [State.rd, h]

theorem State.fld_congr {t : State} (h : t.regs = s.regs) (f : Fld) : t.fld f = s.fld f := by
  simp [State.fld, State.rd, h]

theorem State.rd_setFld (f : Fld) (v b : Nat) :
    (s.setFld f v).rd b = if b = f.addr then putBits (s.rd f.addr) f.lsb f.width v else s.rd b := s.rd_wr _ _ _

theorem State.rd_setFld_ne {f : Fld} {b : Nat} (v : Nat) (h : b ≠ f.addr) : (s.setFld f v).rd b = s.rd b :=
  s.rd_wr_ne _ h

theorem State.fld_wr_ne {f : Fld} {a : Nat} (v : Word) (h : f.addr ≠ a) : (s.wr a v).fld f = s.fld f := by
  simp [State.fld, s.rd_wr_ne v h]

/-- A field reads as it was written. -/
theorem State.fld_setFld_same (f : Fld) (v : Nat) (h : f.lsb + f.width ≤ 32) :
    (s.setFld f v).fld f = v % 2 ^ f.width := by
  simp [State.fld, State.setFld, getBits_putBits_same _ _ _ _ h]

/-- A field of another register reads as before. -/
theorem State.fld_setFld_addr {f g : Fld} (v : Nat) (h : g.addr ≠ f.addr) : (s.setFld f v).fld g = s.fld g :=
  s.fld_wr_ne _ h

/-- A field above the one written reads as before. -/
theorem State.fld_setFld_above {f g : Fld} (v : Nat) (ha : g.addr = f.addr) (h : f.lsb + f.width ≤ 32)
    (hg : f.lsb + f.width ≤ g.lsb) : (s.setFld f v).fld g = s.fld g := by
  simp only [State.fld, State.setFld, ha, rd_wr_same]
  exact getBits_putBits_above _ _ _ _ _ _ h hg

/-- A field below the one written reads as before. -/
theorem State.fld_setFld_below {f g : Fld} (v : Nat) (ha : g.addr = f.addr) (h : f.lsb + f.width ≤ 32)
    (hg : g.lsb + g.width ≤ f.lsb) : (s.setFld f v).fld g = s.fld g := by
  simp only [State.fld, State.setFld, ha, rd_wr_same]
  exact getBits_putBits_below _ _ _ _ _ _ h hg

theorem State.flag_setFld_one (f : Fld) (hw : f.width = 1) (h : f.lsb + f.width ≤ 32) :
    (s.setFld f 1).flag f = true := by
  simp [State.flag, s.fld_setFld_same f 1 h, hw]

theorem State.flag_setFld_zero (f : Fld) (h : f.lsb + f.width ≤ 32) : (s.setFld f 0).flag f = false := by
  simp [State.flag, s.fld_setFld_same f 0 h]

theorem State.rd_bump_same (a : Nat) : (s.bump a).rd a = satInc (s.rd a) := s.rd_wr_same _ _

theorem State.rd_bump_ne {a b : Nat} (h : b ≠ a) : (s.bump a).rd b = s.rd b := s.rd_wr_ne _ h

theorem State.rd_tick_same (a : Nat) : (s.tick a).rd a = s.rd a + 1 := s.rd_wr_same _ _

theorem State.rd_tick_ne {a b : Nat} (h : b ≠ a) : (s.tick a).rd b = s.rd b := s.rd_wr_ne _ h

/-! ## Byte memory -/

@[simp] theorem State.byte_setByte_same (a : Nat) (b : Byte) : (s.setByte a b).byte a = b := Tbl.get_set_same _ _ _ _

theorem State.byte_setByte_ne {a k : Nat} (b : Byte) (h : k ≠ a) : (s.setByte a b).byte k = s.byte k :=
  Tbl.get_set_ne _ _ _ h

/-- A byte outside a run reads as before the run was written. -/
theorem State.byte_setBytes_out {a k : Nat} (bs : List Byte) (h : k < a ∨ a + bs.length ≤ k) :
    (s.setBytes a bs).byte k = s.byte k := by
  rcases h with h | h
  · exact Tbl.get_setList_lt _ _ _ _ _ h
  · exact Tbl.get_setList_ge _ _ _ _ _ h

@[simp] theorem length_leBytes (n x : Nat) : (leBytes n x).length = n := by
  induction n generalizing x with
  | zero => rfl
  | succ n ih => simp [leBytes, ih]

theorem State.byte_setMemWord_out {a k : Nat} (v : Word) (h : k < a ∨ a + 4 ≤ k) :
    (s.setMemWord a v).byte k = s.byte k := s.byte_setBytes_out _ (by simpa using h)

theorem Memory.wf_iff : Memory.wf s = true ↔ Tbl.wf memDefault s.mem = true ∧ Tbl.wf flashDefault s.flash = true := by
  simp [Memory.wf]

theorem Memory.wf_setByte (a : Nat) (b : Byte) (h : Memory.wf s = true) : Memory.wf (s.setByte a b) = true := by
  rw [Memory.wf_iff] at *
  exact ⟨Tbl.wf_set _ _ _ h.1, h.2⟩

theorem Memory.wf_setBytes (a : Nat) (bs : List Byte) (h : Memory.wf s = true) :
    Memory.wf (s.setBytes a bs) = true := by
  rw [Memory.wf_iff] at *
  exact ⟨Tbl.wf_setList _ _ _ h.1, h.2⟩

theorem Memory.wf_setMemWord (a : Nat) (v : Word) (h : Memory.wf s = true) : Memory.wf (s.setMemWord a v) = true :=
  Memory.wf_setBytes s a _ h

theorem Memory.wf_setFlash (a : Nat) (bs : List Byte) (h : Memory.wf s = true) :
    Memory.wf (s.setFlash a bs) = true := by
  rw [Memory.wf_iff] at *
  exact ⟨h.1, Tbl.wf_setList _ _ _ h.2⟩

/-- Memory after reset has the canonical form. -/
theorem Memory.wf_reset : Memory.wf State.reset = true := by decide

/-! ## Records -/

@[simp] theorem State.act_setAct_same (e : Nat) (x : ActEntry) : (s.setAct e x).act e = x := Tbl.get_set_same _ _ _ _
theorem State.act_setAct_ne {e k : Nat} (x : ActEntry) (h : k ≠ e) : (s.setAct e x).act k = s.act k :=
  Tbl.get_set_ne _ _ _ h
@[simp] theorem State.page_setPage_same (p : Nat) (x : PageState) : (s.setPage p x).page p = x :=
  Tbl.get_set_same _ _ _ _
theorem State.page_setPage_ne {p k : Nat} (x : PageState) (h : k ≠ p) : (s.setPage p x).page k = s.page k :=
  Tbl.get_set_ne _ _ _ h
@[simp] theorem State.tracker_setTracker_same (n : Nat) (x : Tracker) : (s.setTracker n x).tracker n = x :=
  Tbl.get_set_same _ _ _ _
theorem State.tracker_setTracker_ne {n k : Nat} (x : Tracker) (h : k ≠ n) :
    (s.setTracker n x).tracker k = s.tracker k := Tbl.get_set_ne _ _ _ h
@[simp] theorem State.engine_setEngine_same (e : Nat) (x : Engine) : (s.setEngine e x).engine e = x :=
  Tbl.get_set_same _ _ _ _
theorem State.engine_setEngine_ne {e k : Nat} (x : Engine) (h : k ≠ e) : (s.setEngine e x).engine k = s.engine k :=
  Tbl.get_set_ne _ _ _ h
@[simp] theorem State.mb_setMb_same (n m : Nat) (x : Mailbox) : (s.setMb n m x).mb n m = x := Tbl.get_set_same _ _ _ _
@[simp] theorem State.canU_setCan_same (n : Nat) (x : CanUnit) : (s.setCan n x).canU n = x := Tbl.get_set_same _ _ _ _
theorem State.canU_setCan_ne {n k : Nat} (x : CanUnit) (h : k ≠ n) : (s.setCan n x).canU k = s.canU k :=
  Tbl.get_set_ne _ _ _ h
@[simp] theorem State.lane_setLane_same (n : Nat) (x : Lane) : (s.setLane n x).lane n = x := Tbl.get_set_same _ _ _ _
theorem State.lane_setLane_ne {n k : Nat} (x : Lane) (h : k ≠ n) : (s.setLane n x).lane k = s.lane k :=
  Tbl.get_set_ne _ _ _ h
@[simp] theorem State.bank_setBank_same (b : Nat) (x : Bank) : (s.setBank b x).bank b = x := Tbl.get_set_same _ _ _ _
@[simp] theorem State.queue_setQueue_same (p q : Nat) (x : EgressQ) : (s.setQueue p q x).queue p q = x :=
  Tbl.get_set_same _ _ _ _
@[simp] theorem State.port_setPort_same (p : Nat) (x : PortState) : (s.setPort p x).port p = x :=
  Tbl.get_set_same _ _ _ _
theorem State.port_setPort_ne {p k : Nat} (x : PortState) (h : k ≠ p) : (s.setPort p x).port k = s.port k :=
  Tbl.get_set_ne _ _ _ h
@[simp] theorem State.slot_setSlot_same (k : Nat) (x : KeySlot) : (s.setSlot k x).slot k = x := Tbl.get_set_same _ _ _ _
theorem State.slot_setSlot_ne {k j : Nat} (x : KeySlot) (h : j ≠ k) : (s.setSlot k x).slot j = s.slot j :=
  Tbl.get_set_ne _ _ _ h
@[simp] theorem State.pol_setPol_same (i : Nat) (x : PolState) : (s.setPol i x).pol i = x := Tbl.get_set_same _ _ _ _
@[simp] theorem State.jring_setJring_same (p r : Nat) (x : JobRing) : (s.setJring p r x).jring p r = x :=
  Tbl.get_set_same _ _ _ _
@[simp] theorem State.ringWin_setRingWin_same (n : Nat) (x : RingWin) : (s.setRingWin n x).ringWin n = x :=
  Tbl.get_set_same _ _ _ _
@[simp] theorem State.cell_setCell_same (n : Nat) (c : Cell) : (s.setCell n c).cell n = c := Tbl.get_set_same _ _ _ _
theorem State.cell_setCell_ne {n k : Nat} (c : Cell) (h : k ≠ n) : (s.setCell n c).cell k = s.cell k :=
  Tbl.get_set_ne _ _ _ h

end Sys2Proof.Machine
end

