-- ==== Sys2Proof/Laws/Views.lean ====
section
/-!
SUPPORT. What each primitive update leaves alone, read through the named accessors.
-/

namespace Sys2Proof.Machine

variable (s : State)

@[simp] theorem State.byte_wr (a : Nat) (v : Word) (k : Nat) : (s.wr a v).byte k = s.byte k := rfl
@[simp] theorem State.optByte_wr (a : Nat) (v : Word) (k : Nat) : (s.wr a v).optByte k = s.optByte k := rfl
@[simp] theorem State.owner_wr (a : Nat) (v : Word) : (s.wr a v).owner = s.owner := rfl
@[simp] theorem State.cell_wr (a : Nat) (v : Word) (k : Nat) : (s.wr a v).cell k = s.cell k := rfl
@[simp] theorem State.page_wr (a : Nat) (v : Word) (k : Nat) : (s.wr a v).page k = s.page k := rfl
@[simp] theorem State.tracker_wr (a : Nat) (v : Word) (k : Nat) : (s.wr a v).tracker k = s.tracker k := rfl
@[simp] theorem State.engine_wr (a : Nat) (v : Word) (k : Nat) : (s.wr a v).engine k = s.engine k := rfl
@[simp] theorem State.act_wr (a : Nat) (v : Word) (k : Nat) : (s.wr a v).act k = s.act k := rfl
@[simp] theorem State.mb_wr (a : Nat) (v : Word) (k j : Nat) : (s.wr a v).mb k j = s.mb k j := rfl
@[simp] theorem State.canU_wr (a : Nat) (v : Word) (k : Nat) : (s.wr a v).canU k = s.canU k := rfl
@[simp] theorem State.lane_wr (a : Nat) (v : Word) (k : Nat) : (s.wr a v).lane k = s.lane k := rfl
@[simp] theorem State.bank_wr (a : Nat) (v : Word) (k : Nat) : (s.wr a v).bank k = s.bank k := rfl
@[simp] theorem State.queue_wr (a : Nat) (v : Word) (k j : Nat) : (s.wr a v).queue k j = s.queue k j := rfl
@[simp] theorem State.port_wr (a : Nat) (v : Word) (k : Nat) : (s.wr a v).port k = s.port k := rfl
@[simp] theorem State.slot_wr (a : Nat) (v : Word) (k : Nat) : (s.wr a v).slot k = s.slot k := rfl
@[simp] theorem State.pol_wr (a : Nat) (v : Word) (k : Nat) : (s.wr a v).pol k = s.pol k := rfl
@[simp] theorem State.jring_wr (a : Nat) (v : Word) (k j : Nat) : (s.wr a v).jring k j = s.jring k j := rfl
@[simp] theorem State.eq_wr (a : Nat) (v : Word) (k j : Nat) : (s.wr a v).eq k j = s.eq k j := rfl

@[simp] theorem State.byte_setFld (f : Fld) (v : Nat) (k : Nat) : (s.setFld f v).byte k = s.byte k := rfl
@[simp] theorem State.optByte_setFld (f : Fld) (v : Nat) (k : Nat) : (s.setFld f v).optByte k = s.optByte k := rfl
@[simp] theorem State.owner_setFld (f : Fld) (v : Nat) : (s.setFld f v).owner = s.owner := rfl
@[simp] theorem State.cell_setFld (f : Fld) (v : Nat) (k : Nat) : (s.setFld f v).cell k = s.cell k := rfl
@[simp] theorem State.page_setFld (f : Fld) (v : Nat) (k : Nat) : (s.setFld f v).page k = s.page k := rfl
@[simp] theorem State.tracker_setFld (f : Fld) (v : Nat) (k : Nat) : (s.setFld f v).tracker k = s.tracker k := rfl
@[simp] theorem State.engine_setFld (f : Fld) (v : Nat) (k : Nat) : (s.setFld f v).engine k = s.engine k := rfl
@[simp] theorem State.act_setFld (f : Fld) (v : Nat) (k : Nat) : (s.setFld f v).act k = s.act k := rfl
@[simp] theorem State.mb_setFld (f : Fld) (v : Nat) (k j : Nat) : (s.setFld f v).mb k j = s.mb k j := rfl
@[simp] theorem State.canU_setFld (f : Fld) (v : Nat) (k : Nat) : (s.setFld f v).canU k = s.canU k := rfl
@[simp] theorem State.lane_setFld (f : Fld) (v : Nat) (k : Nat) : (s.setFld f v).lane k = s.lane k := rfl
@[simp] theorem State.bank_setFld (f : Fld) (v : Nat) (k : Nat) : (s.setFld f v).bank k = s.bank k := rfl
@[simp] theorem State.queue_setFld (f : Fld) (v : Nat) (k j : Nat) : (s.setFld f v).queue k j = s.queue k j := rfl
@[simp] theorem State.port_setFld (f : Fld) (v : Nat) (k : Nat) : (s.setFld f v).port k = s.port k := rfl
@[simp] theorem State.slot_setFld (f : Fld) (v : Nat) (k : Nat) : (s.setFld f v).slot k = s.slot k := rfl
@[simp] theorem State.pol_setFld (f : Fld) (v : Nat) (k : Nat) : (s.setFld f v).pol k = s.pol k := rfl
@[simp] theorem State.jring_setFld (f : Fld) (v : Nat) (k j : Nat) : (s.setFld f v).jring k j = s.jring k j := rfl
@[simp] theorem State.eq_setFld (f : Fld) (v : Nat) (k j : Nat) : (s.setFld f v).eq k j = s.eq k j := rfl

@[simp] theorem State.byte_bump (a : Nat) (k : Nat) : (s.bump a).byte k = s.byte k := rfl
@[simp] theorem State.optByte_bump (a : Nat) (k : Nat) : (s.bump a).optByte k = s.optByte k := rfl
@[simp] theorem State.owner_bump (a : Nat) : (s.bump a).owner = s.owner := rfl
@[simp] theorem State.cell_bump (a : Nat) (k : Nat) : (s.bump a).cell k = s.cell k := rfl
@[simp] theorem State.page_bump (a : Nat) (k : Nat) : (s.bump a).page k = s.page k := rfl
@[simp] theorem State.tracker_bump (a : Nat) (k : Nat) : (s.bump a).tracker k = s.tracker k := rfl
@[simp] theorem State.engine_bump (a : Nat) (k : Nat) : (s.bump a).engine k = s.engine k := rfl
@[simp] theorem State.act_bump (a : Nat) (k : Nat) : (s.bump a).act k = s.act k := rfl
@[simp] theorem State.mb_bump (a : Nat) (k j : Nat) : (s.bump a).mb k j = s.mb k j := rfl
@[simp] theorem State.canU_bump (a : Nat) (k : Nat) : (s.bump a).canU k = s.canU k := rfl
@[simp] theorem State.lane_bump (a : Nat) (k : Nat) : (s.bump a).lane k = s.lane k := rfl
@[simp] theorem State.bank_bump (a : Nat) (k : Nat) : (s.bump a).bank k = s.bank k := rfl
@[simp] theorem State.queue_bump (a : Nat) (k j : Nat) : (s.bump a).queue k j = s.queue k j := rfl
@[simp] theorem State.port_bump (a : Nat) (k : Nat) : (s.bump a).port k = s.port k := rfl
@[simp] theorem State.slot_bump (a : Nat) (k : Nat) : (s.bump a).slot k = s.slot k := rfl
@[simp] theorem State.pol_bump (a : Nat) (k : Nat) : (s.bump a).pol k = s.pol k := rfl
@[simp] theorem State.jring_bump (a : Nat) (k j : Nat) : (s.bump a).jring k j = s.jring k j := rfl
@[simp] theorem State.eq_bump (a : Nat) (k j : Nat) : (s.bump a).eq k j = s.eq k j := rfl

@[simp] theorem State.byte_tick (a : Nat) (k : Nat) : (s.tick a).byte k = s.byte k := rfl
@[simp] theorem State.optByte_tick (a : Nat) (k : Nat) : (s.tick a).optByte k = s.optByte k := rfl
@[simp] theorem State.owner_tick (a : Nat) : (s.tick a).owner = s.owner := rfl
@[simp] theorem State.cell_tick (a : Nat) (k : Nat) : (s.tick a).cell k = s.cell k := rfl
@[simp] theorem State.page_tick (a : Nat) (k : Nat) : (s.tick a).page k = s.page k := rfl
@[simp] theorem State.tracker_tick (a : Nat) (k : Nat) : (s.tick a).tracker k = s.tracker k := rfl
@[simp] theorem State.engine_tick (a : Nat) (k : Nat) : (s.tick a).engine k = s.engine k := rfl
@[simp] theorem State.act_tick (a : Nat) (k : Nat) : (s.tick a).act k = s.act k := rfl
@[simp] theorem State.mb_tick (a : Nat) (k j : Nat) : (s.tick a).mb k j = s.mb k j := rfl
@[simp] theorem State.canU_tick (a : Nat) (k : Nat) : (s.tick a).canU k = s.canU k := rfl
@[simp] theorem State.lane_tick (a : Nat) (k : Nat) : (s.tick a).lane k = s.lane k := rfl
@[simp] theorem State.bank_tick (a : Nat) (k : Nat) : (s.tick a).bank k = s.bank k := rfl
@[simp] theorem State.queue_tick (a : Nat) (k j : Nat) : (s.tick a).queue k j = s.queue k j := rfl
@[simp] theorem State.port_tick (a : Nat) (k : Nat) : (s.tick a).port k = s.port k := rfl
@[simp] theorem State.slot_tick (a : Nat) (k : Nat) : (s.tick a).slot k = s.slot k := rfl
@[simp] theorem State.pol_tick (a : Nat) (k : Nat) : (s.tick a).pol k = s.pol k := rfl
@[simp] theorem State.jring_tick (a : Nat) (k j : Nat) : (s.tick a).jring k j = s.jring k j := rfl
@[simp] theorem State.eq_tick (a : Nat) (k j : Nat) : (s.tick a).eq k j = s.eq k j := rfl

@[simp] theorem State.rd_setBytes (a : Nat) (bs : List Byte) (k : Nat) : (s.setBytes a bs).rd k = s.rd k := rfl
@[simp] theorem State.fld_setBytes (a : Nat) (bs : List Byte) (g : Fld) : (s.setBytes a bs).fld g = s.fld g := rfl
@[simp] theorem State.flag_setBytes (a : Nat) (bs : List Byte) (g : Fld) : (s.setBytes a bs).flag g = s.flag g := rfl
@[simp] theorem State.rd64_setBytes (a : Nat) (bs : List Byte) (k : Nat) : (s.setBytes a bs).rd64 k = s.rd64 k := rfl
@[simp] theorem State.cell_setBytes (a : Nat) (bs : List Byte) (k : Nat) : (s.setBytes a bs).cell k = s.cell k := rfl
@[simp] theorem State.page_setBytes (a : Nat) (bs : List Byte) (k : Nat) : (s.setBytes a bs).page k = s.page k := rfl
@[simp] theorem State.tracker_setBytes (a : Nat) (bs : List Byte) (k : Nat) : (s.setBytes a bs).tracker k = s.tracker k := rfl
@[simp] theorem State.engine_setBytes (a : Nat) (bs : List Byte) (k : Nat) : (s.setBytes a bs).engine k = s.engine k := rfl
@[simp] theorem State.act_setBytes (a : Nat) (bs : List Byte) (k : Nat) : (s.setBytes a bs).act k = s.act k := rfl
@[simp] theorem State.mb_setBytes (a : Nat) (bs : List Byte) (k j : Nat) : (s.setBytes a bs).mb k j = s.mb k j := rfl
@[simp] theorem State.canU_setBytes (a : Nat) (bs : List Byte) (k : Nat) : (s.setBytes a bs).canU k = s.canU k := rfl
@[simp] theorem State.lane_setBytes (a : Nat) (bs : List Byte) (k : Nat) : (s.setBytes a bs).lane k = s.lane k := rfl
@[simp] theorem State.bank_setBytes (a : Nat) (bs : List Byte) (k : Nat) : (s.setBytes a bs).bank k = s.bank k := rfl
@[simp] theorem State.queue_setBytes (a : Nat) (bs : List Byte) (k j : Nat) : (s.setBytes a bs).queue k j = s.queue k j := rfl
@[simp] theorem State.port_setBytes (a : Nat) (bs : List Byte) (k : Nat) : (s.setBytes a bs).port k = s.port k := rfl
@[simp] theorem State.slot_setBytes (a : Nat) (bs : List Byte) (k : Nat) : (s.setBytes a bs).slot k = s.slot k := rfl
@[simp] theorem State.pol_setBytes (a : Nat) (bs : List Byte) (k : Nat) : (s.setBytes a bs).pol k = s.pol k := rfl
@[simp] theorem State.jring_setBytes (a : Nat) (bs : List Byte) (k j : Nat) : (s.setBytes a bs).jring k j = s.jring k j := rfl
@[simp] theorem State.eq_setBytes (a : Nat) (bs : List Byte) (k j : Nat) : (s.setBytes a bs).eq k j = s.eq k j := rfl

@[simp] theorem State.rd_emit (e : Emit) (k : Nat) : (s.emit e).rd k = s.rd k := rfl
@[simp] theorem State.fld_emit (e : Emit) (g : Fld) : (s.emit e).fld g = s.fld g := rfl
@[simp] theorem State.flag_emit (e : Emit) (g : Fld) : (s.emit e).flag g = s.flag g := rfl
@[simp] theorem State.rd64_emit (e : Emit) (k : Nat) : (s.emit e).rd64 k = s.rd64 k := rfl
@[simp] theorem State.byte_emit (e : Emit) (k : Nat) : (s.emit e).byte k = s.byte k := rfl
@[simp] theorem State.optByte_emit (e : Emit) (k : Nat) : (s.emit e).optByte k = s.optByte k := rfl
@[simp] theorem State.owner_emit (e : Emit) : (s.emit e).owner = s.owner := rfl
@[simp] theorem State.cell_emit (e : Emit) (k : Nat) : (s.emit e).cell k = s.cell k := rfl
@[simp] theorem State.page_emit (e : Emit) (k : Nat) : (s.emit e).page k = s.page k := rfl
@[simp] theorem State.tracker_emit (e : Emit) (k : Nat) : (s.emit e).tracker k = s.tracker k := rfl
@[simp] theorem State.engine_emit (e : Emit) (k : Nat) : (s.emit e).engine k = s.engine k := rfl
@[simp] theorem State.act_emit (e : Emit) (k : Nat) : (s.emit e).act k = s.act k := rfl
@[simp] theorem State.mb_emit (e : Emit) (k j : Nat) : (s.emit e).mb k j = s.mb k j := rfl
@[simp] theorem State.canU_emit (e : Emit) (k : Nat) : (s.emit e).canU k = s.canU k := rfl
@[simp] theorem State.lane_emit (e : Emit) (k : Nat) : (s.emit e).lane k = s.lane k := rfl
@[simp] theorem State.bank_emit (e : Emit) (k : Nat) : (s.emit e).bank k = s.bank k := rfl
@[simp] theorem State.queue_emit (e : Emit) (k j : Nat) : (s.emit e).queue k j = s.queue k j := rfl
@[simp] theorem State.port_emit (e : Emit) (k : Nat) : (s.emit e).port k = s.port k := rfl
@[simp] theorem State.slot_emit (e : Emit) (k : Nat) : (s.emit e).slot k = s.slot k := rfl
@[simp] theorem State.pol_emit (e : Emit) (k : Nat) : (s.emit e).pol k = s.pol k := rfl
@[simp] theorem State.jring_emit (e : Emit) (k j : Nat) : (s.emit e).jring k j = s.jring k j := rfl
@[simp] theorem State.eq_emit (e : Emit) (k j : Nat) : (s.emit e).eq k j = s.eq k j := rfl

@[simp] theorem State.rd_setCell (n : Nat) (c : Cell) (k : Nat) : (s.setCell n c).rd k = s.rd k := rfl
@[simp] theorem State.fld_setCell (n : Nat) (c : Cell) (g : Fld) : (s.setCell n c).fld g = s.fld g := rfl
@[simp] theorem State.flag_setCell (n : Nat) (c : Cell) (g : Fld) : (s.setCell n c).flag g = s.flag g := rfl
@[simp] theorem State.rd64_setCell (n : Nat) (c : Cell) (k : Nat) : (s.setCell n c).rd64 k = s.rd64 k := rfl
@[simp] theorem State.byte_setCell (n : Nat) (c : Cell) (k : Nat) : (s.setCell n c).byte k = s.byte k := rfl
@[simp] theorem State.optByte_setCell (n : Nat) (c : Cell) (k : Nat) : (s.setCell n c).optByte k = s.optByte k := rfl
@[simp] theorem State.owner_setCell (n : Nat) (c : Cell) : (s.setCell n c).owner = s.owner := rfl
@[simp] theorem State.page_setCell (n : Nat) (c : Cell) (k : Nat) : (s.setCell n c).page k = s.page k := rfl
@[simp] theorem State.tracker_setCell (n : Nat) (c : Cell) (k : Nat) : (s.setCell n c).tracker k = s.tracker k := rfl
@[simp] theorem State.engine_setCell (n : Nat) (c : Cell) (k : Nat) : (s.setCell n c).engine k = s.engine k := rfl
@[simp] theorem State.act_setCell (n : Nat) (c : Cell) (k : Nat) : (s.setCell n c).act k = s.act k := rfl
@[simp] theorem State.mb_setCell (n : Nat) (c : Cell) (k j : Nat) : (s.setCell n c).mb k j = s.mb k j := rfl
@[simp] theorem State.canU_setCell (n : Nat) (c : Cell) (k : Nat) : (s.setCell n c).canU k = s.canU k := rfl
@[simp] theorem State.lane_setCell (n : Nat) (c : Cell) (k : Nat) : (s.setCell n c).lane k = s.lane k := rfl
@[simp] theorem State.bank_setCell (n : Nat) (c : Cell) (k : Nat) : (s.setCell n c).bank k = s.bank k := rfl
@[simp] theorem State.queue_setCell (n : Nat) (c : Cell) (k j : Nat) : (s.setCell n c).queue k j = s.queue k j := rfl
@[simp] theorem State.port_setCell (n : Nat) (c : Cell) (k : Nat) : (s.setCell n c).port k = s.port k := rfl
@[simp] theorem State.slot_setCell (n : Nat) (c : Cell) (k : Nat) : (s.setCell n c).slot k = s.slot k := rfl
@[simp] theorem State.pol_setCell (n : Nat) (c : Cell) (k : Nat) : (s.setCell n c).pol k = s.pol k := rfl
@[simp] theorem State.jring_setCell (n : Nat) (c : Cell) (k j : Nat) : (s.setCell n c).jring k j = s.jring k j := rfl
@[simp] theorem State.eq_setCell (n : Nat) (c : Cell) (k j : Nat) : (s.setCell n c).eq k j = s.eq k j := rfl

@[simp] theorem State.rd_setPage (p : Nat) (x : PageState) (k : Nat) : (s.setPage p x).rd k = s.rd k := rfl
@[simp] theorem State.fld_setPage (p : Nat) (x : PageState) (g : Fld) : (s.setPage p x).fld g = s.fld g := rfl
@[simp] theorem State.flag_setPage (p : Nat) (x : PageState) (g : Fld) : (s.setPage p x).flag g = s.flag g := rfl
@[simp] theorem State.rd64_setPage (p : Nat) (x : PageState) (k : Nat) : (s.setPage p x).rd64 k = s.rd64 k := rfl
@[simp] theorem State.byte_setPage (p : Nat) (x : PageState) (k : Nat) : (s.setPage p x).byte k = s.byte k := rfl
@[simp] theorem State.optByte_setPage (p : Nat) (x : PageState) (k : Nat) : (s.setPage p x).optByte k = s.optByte k := rfl
@[simp] theorem State.owner_setPage (p : Nat) (x : PageState) : (s.setPage p x).owner = s.owner := rfl
@[simp] theorem State.cell_setPage (p : Nat) (x : PageState) (k : Nat) : (s.setPage p x).cell k = s.cell k := rfl
@[simp] theorem State.tracker_setPage (p : Nat) (x : PageState) (k : Nat) : (s.setPage p x).tracker k = s.tracker k := rfl
@[simp] theorem State.engine_setPage (p : Nat) (x : PageState) (k : Nat) : (s.setPage p x).engine k = s.engine k := rfl
@[simp] theorem State.act_setPage (p : Nat) (x : PageState) (k : Nat) : (s.setPage p x).act k = s.act k := rfl
@[simp] theorem State.mb_setPage (p : Nat) (x : PageState) (k j : Nat) : (s.setPage p x).mb k j = s.mb k j := rfl
@[simp] theorem State.canU_setPage (p : Nat) (x : PageState) (k : Nat) : (s.setPage p x).canU k = s.canU k := rfl
@[simp] theorem State.lane_setPage (p : Nat) (x : PageState) (k : Nat) : (s.setPage p x).lane k = s.lane k := rfl
@[simp] theorem State.bank_setPage (p : Nat) (x : PageState) (k : Nat) : (s.setPage p x).bank k = s.bank k := rfl
@[simp] theorem State.queue_setPage (p : Nat) (x : PageState) (k j : Nat) : (s.setPage p x).queue k j = s.queue k j := rfl
@[simp] theorem State.port_setPage (p : Nat) (x : PageState) (k : Nat) : (s.setPage p x).port k = s.port k := rfl
@[simp] theorem State.slot_setPage (p : Nat) (x : PageState) (k : Nat) : (s.setPage p x).slot k = s.slot k := rfl
@[simp] theorem State.pol_setPage (p : Nat) (x : PageState) (k : Nat) : (s.setPage p x).pol k = s.pol k := rfl
@[simp] theorem State.jring_setPage (p : Nat) (x : PageState) (k j : Nat) : (s.setPage p x).jring k j = s.jring k j := rfl
@[simp] theorem State.eq_setPage (p : Nat) (x : PageState) (k j : Nat) : (s.setPage p x).eq k j = s.eq k j := rfl

@[simp] theorem State.rd_setTracker (n : Nat) (x : Tracker) (k : Nat) : (s.setTracker n x).rd k = s.rd k := rfl
@[simp] theorem State.fld_setTracker (n : Nat) (x : Tracker) (g : Fld) : (s.setTracker n x).fld g = s.fld g := rfl
@[simp] theorem State.flag_setTracker (n : Nat) (x : Tracker) (g : Fld) : (s.setTracker n x).flag g = s.flag g := rfl
@[simp] theorem State.rd64_setTracker (n : Nat) (x : Tracker) (k : Nat) : (s.setTracker n x).rd64 k = s.rd64 k := rfl
@[simp] theorem State.byte_setTracker (n : Nat) (x : Tracker) (k : Nat) : (s.setTracker n x).byte k = s.byte k := rfl
@[simp] theorem State.optByte_setTracker (n : Nat) (x : Tracker) (k : Nat) : (s.setTracker n x).optByte k = s.optByte k := rfl
@[simp] theorem State.owner_setTracker (n : Nat) (x : Tracker) : (s.setTracker n x).owner = s.owner := rfl
@[simp] theorem State.cell_setTracker (n : Nat) (x : Tracker) (k : Nat) : (s.setTracker n x).cell k = s.cell k := rfl
@[simp] theorem State.page_setTracker (n : Nat) (x : Tracker) (k : Nat) : (s.setTracker n x).page k = s.page k := rfl
@[simp] theorem State.engine_setTracker (n : Nat) (x : Tracker) (k : Nat) : (s.setTracker n x).engine k = s.engine k := rfl
@[simp] theorem State.act_setTracker (n : Nat) (x : Tracker) (k : Nat) : (s.setTracker n x).act k = s.act k := rfl
@[simp] theorem State.mb_setTracker (n : Nat) (x : Tracker) (k j : Nat) : (s.setTracker n x).mb k j = s.mb k j := rfl
@[simp] theorem State.canU_setTracker (n : Nat) (x : Tracker) (k : Nat) : (s.setTracker n x).canU k = s.canU k := rfl
@[simp] theorem State.lane_setTracker (n : Nat) (x : Tracker) (k : Nat) : (s.setTracker n x).lane k = s.lane k := rfl
@[simp] theorem State.bank_setTracker (n : Nat) (x : Tracker) (k : Nat) : (s.setTracker n x).bank k = s.bank k := rfl
@[simp] theorem State.queue_setTracker (n : Nat) (x : Tracker) (k j : Nat) : (s.setTracker n x).queue k j = s.queue k j := rfl
@[simp] theorem State.port_setTracker (n : Nat) (x : Tracker) (k : Nat) : (s.setTracker n x).port k = s.port k := rfl
@[simp] theorem State.slot_setTracker (n : Nat) (x : Tracker) (k : Nat) : (s.setTracker n x).slot k = s.slot k := rfl
@[simp] theorem State.pol_setTracker (n : Nat) (x : Tracker) (k : Nat) : (s.setTracker n x).pol k = s.pol k := rfl
@[simp] theorem State.jring_setTracker (n : Nat) (x : Tracker) (k j : Nat) : (s.setTracker n x).jring k j = s.jring k j := rfl
@[simp] theorem State.eq_setTracker (n : Nat) (x : Tracker) (k j : Nat) : (s.setTracker n x).eq k j = s.eq k j := rfl

@[simp] theorem State.rd_setEngine (e : Nat) (x : Engine) (k : Nat) : (s.setEngine e x).rd k = s.rd k := rfl
@[simp] theorem State.fld_setEngine (e : Nat) (x : Engine) (g : Fld) : (s.setEngine e x).fld g = s.fld g := rfl
@[simp] theorem State.flag_setEngine (e : Nat) (x : Engine) (g : Fld) : (s.setEngine e x).flag g = s.flag g := rfl
@[simp] theorem State.rd64_setEngine (e : Nat) (x : Engine) (k : Nat) : (s.setEngine e x).rd64 k = s.rd64 k := rfl
@[simp] theorem State.byte_setEngine (e : Nat) (x : Engine) (k : Nat) : (s.setEngine e x).byte k = s.byte k := rfl
@[simp] theorem State.optByte_setEngine (e : Nat) (x : Engine) (k : Nat) : (s.setEngine e x).optByte k = s.optByte k := rfl
@[simp] theorem State.owner_setEngine (e : Nat) (x : Engine) : (s.setEngine e x).owner = s.owner := rfl
@[simp] theorem State.cell_setEngine (e : Nat) (x : Engine) (k : Nat) : (s.setEngine e x).cell k = s.cell k := rfl
@[simp] theorem State.page_setEngine (e : Nat) (x : Engine) (k : Nat) : (s.setEngine e x).page k = s.page k := rfl
@[simp] theorem State.tracker_setEngine (e : Nat) (x : Engine) (k : Nat) : (s.setEngine e x).tracker k = s.tracker k := rfl
@[simp] theorem State.act_setEngine (e : Nat) (x : Engine) (k : Nat) : (s.setEngine e x).act k = s.act k := rfl
@[simp] theorem State.mb_setEngine (e : Nat) (x : Engine) (k j : Nat) : (s.setEngine e x).mb k j = s.mb k j := rfl
@[simp] theorem State.canU_setEngine (e : Nat) (x : Engine) (k : Nat) : (s.setEngine e x).canU k = s.canU k := rfl
@[simp] theorem State.lane_setEngine (e : Nat) (x : Engine) (k : Nat) : (s.setEngine e x).lane k = s.lane k := rfl
@[simp] theorem State.bank_setEngine (e : Nat) (x : Engine) (k : Nat) : (s.setEngine e x).bank k = s.bank k := rfl
@[simp] theorem State.queue_setEngine (e : Nat) (x : Engine) (k j : Nat) : (s.setEngine e x).queue k j = s.queue k j := rfl
@[simp] theorem State.port_setEngine (e : Nat) (x : Engine) (k : Nat) : (s.setEngine e x).port k = s.port k := rfl
@[simp] theorem State.slot_setEngine (e : Nat) (x : Engine) (k : Nat) : (s.setEngine e x).slot k = s.slot k := rfl
@[simp] theorem State.pol_setEngine (e : Nat) (x : Engine) (k : Nat) : (s.setEngine e x).pol k = s.pol k := rfl
@[simp] theorem State.jring_setEngine (e : Nat) (x : Engine) (k j : Nat) : (s.setEngine e x).jring k j = s.jring k j := rfl
@[simp] theorem State.eq_setEngine (e : Nat) (x : Engine) (k j : Nat) : (s.setEngine e x).eq k j = s.eq k j := rfl

@[simp] theorem State.rd_setAct (e : Nat) (x : ActEntry) (k : Nat) : (s.setAct e x).rd k = s.rd k := rfl
@[simp] theorem State.fld_setAct (e : Nat) (x : ActEntry) (g : Fld) : (s.setAct e x).fld g = s.fld g := rfl
@[simp] theorem State.flag_setAct (e : Nat) (x : ActEntry) (g : Fld) : (s.setAct e x).flag g = s.flag g := rfl
@[simp] theorem State.rd64_setAct (e : Nat) (x : ActEntry) (k : Nat) : (s.setAct e x).rd64 k = s.rd64 k := rfl
@[simp] theorem State.byte_setAct (e : Nat) (x : ActEntry) (k : Nat) : (s.setAct e x).byte k = s.byte k := rfl
@[simp] theorem State.optByte_setAct (e : Nat) (x : ActEntry) (k : Nat) : (s.setAct e x).optByte k = s.optByte k := rfl
@[simp] theorem State.owner_setAct (e : Nat) (x : ActEntry) : (s.setAct e x).owner = s.owner := rfl
@[simp] theorem State.cell_setAct (e : Nat) (x : ActEntry) (k : Nat) : (s.setAct e x).cell k = s.cell k := rfl
@[simp] theorem State.page_setAct (e : Nat) (x : ActEntry) (k : Nat) : (s.setAct e x).page k = s.page k := rfl
@[simp] theorem State.tracker_setAct (e : Nat) (x : ActEntry) (k : Nat) : (s.setAct e x).tracker k = s.tracker k := rfl
@[simp] theorem State.engine_setAct (e : Nat) (x : ActEntry) (k : Nat) : (s.setAct e x).engine k = s.engine k := rfl
@[simp] theorem State.mb_setAct (e : Nat) (x : ActEntry) (k j : Nat) : (s.setAct e x).mb k j = s.mb k j := rfl
@[simp] theorem State.canU_setAct (e : Nat) (x : ActEntry) (k : Nat) : (s.setAct e x).canU k = s.canU k := rfl
@[simp] theorem State.lane_setAct (e : Nat) (x : ActEntry) (k : Nat) : (s.setAct e x).lane k = s.lane k := rfl
@[simp] theorem State.bank_setAct (e : Nat) (x : ActEntry) (k : Nat) : (s.setAct e x).bank k = s.bank k := rfl
@[simp] theorem State.queue_setAct (e : Nat) (x : ActEntry) (k j : Nat) : (s.setAct e x).queue k j = s.queue k j := rfl
@[simp] theorem State.port_setAct (e : Nat) (x : ActEntry) (k : Nat) : (s.setAct e x).port k = s.port k := rfl
@[simp] theorem State.slot_setAct (e : Nat) (x : ActEntry) (k : Nat) : (s.setAct e x).slot k = s.slot k := rfl
@[simp] theorem State.pol_setAct (e : Nat) (x : ActEntry) (k : Nat) : (s.setAct e x).pol k = s.pol k := rfl
@[simp] theorem State.jring_setAct (e : Nat) (x : ActEntry) (k j : Nat) : (s.setAct e x).jring k j = s.jring k j := rfl
@[simp] theorem State.eq_setAct (e : Nat) (x : ActEntry) (k j : Nat) : (s.setAct e x).eq k j = s.eq k j := rfl

@[simp] theorem State.rd_setMb (n m : Nat) (x : Mailbox) (k : Nat) : (s.setMb n m x).rd k = s.rd k := rfl
@[simp] theorem State.fld_setMb (n m : Nat) (x : Mailbox) (g : Fld) : (s.setMb n m x).fld g = s.fld g := rfl
@[simp] theorem State.flag_setMb (n m : Nat) (x : Mailbox) (g : Fld) : (s.setMb n m x).flag g = s.flag g := rfl
@[simp] theorem State.rd64_setMb (n m : Nat) (x : Mailbox) (k : Nat) : (s.setMb n m x).rd64 k = s.rd64 k := rfl
@[simp] theorem State.byte_setMb (n m : Nat) (x : Mailbox) (k : Nat) : (s.setMb n m x).byte k = s.byte k := rfl
@[simp] theorem State.optByte_setMb (n m : Nat) (x : Mailbox) (k : Nat) : (s.setMb n m x).optByte k = s.optByte k := rfl
@[simp] theorem State.owner_setMb (n m : Nat) (x : Mailbox) : (s.setMb n m x).owner = s.owner := rfl
@[simp] theorem State.cell_setMb (n m : Nat) (x : Mailbox) (k : Nat) : (s.setMb n m x).cell k = s.cell k := rfl
@[simp] theorem State.page_setMb (n m : Nat) (x : Mailbox) (k : Nat) : (s.setMb n m x).page k = s.page k := rfl
@[simp] theorem State.tracker_setMb (n m : Nat) (x : Mailbox) (k : Nat) : (s.setMb n m x).tracker k = s.tracker k := rfl
@[simp] theorem State.engine_setMb (n m : Nat) (x : Mailbox) (k : Nat) : (s.setMb n m x).engine k = s.engine k := rfl
@[simp] theorem State.act_setMb (n m : Nat) (x : Mailbox) (k : Nat) : (s.setMb n m x).act k = s.act k := rfl
@[simp] theorem State.canU_setMb (n m : Nat) (x : Mailbox) (k : Nat) : (s.setMb n m x).canU k = s.canU k := rfl
@[simp] theorem State.lane_setMb (n m : Nat) (x : Mailbox) (k : Nat) : (s.setMb n m x).lane k = s.lane k := rfl
@[simp] theorem State.bank_setMb (n m : Nat) (x : Mailbox) (k : Nat) : (s.setMb n m x).bank k = s.bank k := rfl
@[simp] theorem State.queue_setMb (n m : Nat) (x : Mailbox) (k j : Nat) : (s.setMb n m x).queue k j = s.queue k j := rfl
@[simp] theorem State.port_setMb (n m : Nat) (x : Mailbox) (k : Nat) : (s.setMb n m x).port k = s.port k := rfl
@[simp] theorem State.slot_setMb (n m : Nat) (x : Mailbox) (k : Nat) : (s.setMb n m x).slot k = s.slot k := rfl
@[simp] theorem State.pol_setMb (n m : Nat) (x : Mailbox) (k : Nat) : (s.setMb n m x).pol k = s.pol k := rfl
@[simp] theorem State.jring_setMb (n m : Nat) (x : Mailbox) (k j : Nat) : (s.setMb n m x).jring k j = s.jring k j := rfl
@[simp] theorem State.eq_setMb (n m : Nat) (x : Mailbox) (k j : Nat) : (s.setMb n m x).eq k j = s.eq k j := rfl

@[simp] theorem State.rd_setCan (n : Nat) (x : CanUnit) (k : Nat) : (s.setCan n x).rd k = s.rd k := rfl
@[simp] theorem State.fld_setCan (n : Nat) (x : CanUnit) (g : Fld) : (s.setCan n x).fld g = s.fld g := rfl
@[simp] theorem State.flag_setCan (n : Nat) (x : CanUnit) (g : Fld) : (s.setCan n x).flag g = s.flag g := rfl
@[simp] theorem State.rd64_setCan (n : Nat) (x : CanUnit) (k : Nat) : (s.setCan n x).rd64 k = s.rd64 k := rfl
@[simp] theorem State.byte_setCan (n : Nat) (x : CanUnit) (k : Nat) : (s.setCan n x).byte k = s.byte k := rfl
@[simp] theorem State.optByte_setCan (n : Nat) (x : CanUnit) (k : Nat) : (s.setCan n x).optByte k = s.optByte k := rfl
@[simp] theorem State.owner_setCan (n : Nat) (x : CanUnit) : (s.setCan n x).owner = s.owner := rfl
@[simp] theorem State.cell_setCan (n : Nat) (x : CanUnit) (k : Nat) : (s.setCan n x).cell k = s.cell k := rfl
@[simp] theorem State.page_setCan (n : Nat) (x : CanUnit) (k : Nat) : (s.setCan n x).page k = s.page k := rfl
@[simp] theorem State.tracker_setCan (n : Nat) (x : CanUnit) (k : Nat) : (s.setCan n x).tracker k = s.tracker k := rfl
@[simp] theorem State.engine_setCan (n : Nat) (x : CanUnit) (k : Nat) : (s.setCan n x).engine k = s.engine k := rfl
@[simp] theorem State.act_setCan (n : Nat) (x : CanUnit) (k : Nat) : (s.setCan n x).act k = s.act k := rfl
@[simp] theorem State.mb_setCan (n : Nat) (x : CanUnit) (k j : Nat) : (s.setCan n x).mb k j = s.mb k j := rfl
@[simp] theorem State.lane_setCan (n : Nat) (x : CanUnit) (k : Nat) : (s.setCan n x).lane k = s.lane k := rfl
@[simp] theorem State.bank_setCan (n : Nat) (x : CanUnit) (k : Nat) : (s.setCan n x).bank k = s.bank k := rfl
@[simp] theorem State.queue_setCan (n : Nat) (x : CanUnit) (k j : Nat) : (s.setCan n x).queue k j = s.queue k j := rfl
@[simp] theorem State.port_setCan (n : Nat) (x : CanUnit) (k : Nat) : (s.setCan n x).port k = s.port k := rfl
@[simp] theorem State.slot_setCan (n : Nat) (x : CanUnit) (k : Nat) : (s.setCan n x).slot k = s.slot k := rfl
@[simp] theorem State.pol_setCan (n : Nat) (x : CanUnit) (k : Nat) : (s.setCan n x).pol k = s.pol k := rfl
@[simp] theorem State.jring_setCan (n : Nat) (x : CanUnit) (k j : Nat) : (s.setCan n x).jring k j = s.jring k j := rfl
@[simp] theorem State.eq_setCan (n : Nat) (x : CanUnit) (k j : Nat) : (s.setCan n x).eq k j = s.eq k j := rfl

@[simp] theorem State.rd_setLane (n : Nat) (x : Lane) (k : Nat) : (s.setLane n x).rd k = s.rd k := rfl
@[simp] theorem State.fld_setLane (n : Nat) (x : Lane) (g : Fld) : (s.setLane n x).fld g = s.fld g := rfl
@[simp] theorem State.flag_setLane (n : Nat) (x : Lane) (g : Fld) : (s.setLane n x).flag g = s.flag g := rfl
@[simp] theorem State.rd64_setLane (n : Nat) (x : Lane) (k : Nat) : (s.setLane n x).rd64 k = s.rd64 k := rfl
@[simp] theorem State.byte_setLane (n : Nat) (x : Lane) (k : Nat) : (s.setLane n x).byte k = s.byte k := rfl
@[simp] theorem State.optByte_setLane (n : Nat) (x : Lane) (k : Nat) : (s.setLane n x).optByte k = s.optByte k := rfl
@[simp] theorem State.owner_setLane (n : Nat) (x : Lane) : (s.setLane n x).owner = s.owner := rfl
@[simp] theorem State.cell_setLane (n : Nat) (x : Lane) (k : Nat) : (s.setLane n x).cell k = s.cell k := rfl
@[simp] theorem State.page_setLane (n : Nat) (x : Lane) (k : Nat) : (s.setLane n x).page k = s.page k := rfl
@[simp] theorem State.tracker_setLane (n : Nat) (x : Lane) (k : Nat) : (s.setLane n x).tracker k = s.tracker k := rfl
@[simp] theorem State.engine_setLane (n : Nat) (x : Lane) (k : Nat) : (s.setLane n x).engine k = s.engine k := rfl
@[simp] theorem State.act_setLane (n : Nat) (x : Lane) (k : Nat) : (s.setLane n x).act k = s.act k := rfl
@[simp] theorem State.mb_setLane (n : Nat) (x : Lane) (k j : Nat) : (s.setLane n x).mb k j = s.mb k j := rfl
@[simp] theorem State.canU_setLane (n : Nat) (x : Lane) (k : Nat) : (s.setLane n x).canU k = s.canU k := rfl
@[simp] theorem State.bank_setLane (n : Nat) (x : Lane) (k : Nat) : (s.setLane n x).bank k = s.bank k := rfl
@[simp] theorem State.queue_setLane (n : Nat) (x : Lane) (k j : Nat) : (s.setLane n x).queue k j = s.queue k j := rfl
@[simp] theorem State.port_setLane (n : Nat) (x : Lane) (k : Nat) : (s.setLane n x).port k = s.port k := rfl
@[simp] theorem State.slot_setLane (n : Nat) (x : Lane) (k : Nat) : (s.setLane n x).slot k = s.slot k := rfl
@[simp] theorem State.pol_setLane (n : Nat) (x : Lane) (k : Nat) : (s.setLane n x).pol k = s.pol k := rfl
@[simp] theorem State.jring_setLane (n : Nat) (x : Lane) (k j : Nat) : (s.setLane n x).jring k j = s.jring k j := rfl
@[simp] theorem State.eq_setLane (n : Nat) (x : Lane) (k j : Nat) : (s.setLane n x).eq k j = s.eq k j := rfl

@[simp] theorem State.rd_setBank (b : Nat) (x : Bank) (k : Nat) : (s.setBank b x).rd k = s.rd k := rfl
@[simp] theorem State.fld_setBank (b : Nat) (x : Bank) (g : Fld) : (s.setBank b x).fld g = s.fld g := rfl
@[simp] theorem State.flag_setBank (b : Nat) (x : Bank) (g : Fld) : (s.setBank b x).flag g = s.flag g := rfl
@[simp] theorem State.rd64_setBank (b : Nat) (x : Bank) (k : Nat) : (s.setBank b x).rd64 k = s.rd64 k := rfl
@[simp] theorem State.byte_setBank (b : Nat) (x : Bank) (k : Nat) : (s.setBank b x).byte k = s.byte k := rfl
@[simp] theorem State.optByte_setBank (b : Nat) (x : Bank) (k : Nat) : (s.setBank b x).optByte k = s.optByte k := rfl
@[simp] theorem State.owner_setBank (b : Nat) (x : Bank) : (s.setBank b x).owner = s.owner := rfl
@[simp] theorem State.cell_setBank (b : Nat) (x : Bank) (k : Nat) : (s.setBank b x).cell k = s.cell k := rfl
@[simp] theorem State.page_setBank (b : Nat) (x : Bank) (k : Nat) : (s.setBank b x).page k = s.page k := rfl
@[simp] theorem State.tracker_setBank (b : Nat) (x : Bank) (k : Nat) : (s.setBank b x).tracker k = s.tracker k := rfl
@[simp] theorem State.engine_setBank (b : Nat) (x : Bank) (k : Nat) : (s.setBank b x).engine k = s.engine k := rfl
@[simp] theorem State.act_setBank (b : Nat) (x : Bank) (k : Nat) : (s.setBank b x).act k = s.act k := rfl
@[simp] theorem State.mb_setBank (b : Nat) (x : Bank) (k j : Nat) : (s.setBank b x).mb k j = s.mb k j := rfl
@[simp] theorem State.canU_setBank (b : Nat) (x : Bank) (k : Nat) : (s.setBank b x).canU k = s.canU k := rfl
@[simp] theorem State.lane_setBank (b : Nat) (x : Bank) (k : Nat) : (s.setBank b x).lane k = s.lane k := rfl
@[simp] theorem State.queue_setBank (b : Nat) (x : Bank) (k j : Nat) : (s.setBank b x).queue k j = s.queue k j := rfl
@[simp] theorem State.port_setBank (b : Nat) (x : Bank) (k : Nat) : (s.setBank b x).port k = s.port k := rfl
@[simp] theorem State.slot_setBank (b : Nat) (x : Bank) (k : Nat) : (s.setBank b x).slot k = s.slot k := rfl
@[simp] theorem State.pol_setBank (b : Nat) (x : Bank) (k : Nat) : (s.setBank b x).pol k = s.pol k := rfl
@[simp] theorem State.jring_setBank (b : Nat) (x : Bank) (k j : Nat) : (s.setBank b x).jring k j = s.jring k j := rfl
@[simp] theorem State.eq_setBank (b : Nat) (x : Bank) (k j : Nat) : (s.setBank b x).eq k j = s.eq k j := rfl

@[simp] theorem State.rd_setQueue (p q : Nat) (x : EgressQ) (k : Nat) : (s.setQueue p q x).rd k = s.rd k := rfl
@[simp] theorem State.fld_setQueue (p q : Nat) (x : EgressQ) (g : Fld) : (s.setQueue p q x).fld g = s.fld g := rfl
@[simp] theorem State.flag_setQueue (p q : Nat) (x : EgressQ) (g : Fld) : (s.setQueue p q x).flag g = s.flag g := rfl
@[simp] theorem State.rd64_setQueue (p q : Nat) (x : EgressQ) (k : Nat) : (s.setQueue p q x).rd64 k = s.rd64 k := rfl
@[simp] theorem State.byte_setQueue (p q : Nat) (x : EgressQ) (k : Nat) : (s.setQueue p q x).byte k = s.byte k := rfl
@[simp] theorem State.optByte_setQueue (p q : Nat) (x : EgressQ) (k : Nat) : (s.setQueue p q x).optByte k = s.optByte k := rfl
@[simp] theorem State.owner_setQueue (p q : Nat) (x : EgressQ) : (s.setQueue p q x).owner = s.owner := rfl
@[simp] theorem State.cell_setQueue (p q : Nat) (x : EgressQ) (k : Nat) : (s.setQueue p q x).cell k = s.cell k := rfl
@[simp] theorem State.page_setQueue (p q : Nat) (x : EgressQ) (k : Nat) : (s.setQueue p q x).page k = s.page k := rfl
@[simp] theorem State.tracker_setQueue (p q : Nat) (x : EgressQ) (k : Nat) : (s.setQueue p q x).tracker k = s.tracker k := rfl
@[simp] theorem State.engine_setQueue (p q : Nat) (x : EgressQ) (k : Nat) : (s.setQueue p q x).engine k = s.engine k := rfl
@[simp] theorem State.act_setQueue (p q : Nat) (x : EgressQ) (k : Nat) : (s.setQueue p q x).act k = s.act k := rfl
@[simp] theorem State.mb_setQueue (p q : Nat) (x : EgressQ) (k j : Nat) : (s.setQueue p q x).mb k j = s.mb k j := rfl
@[simp] theorem State.canU_setQueue (p q : Nat) (x : EgressQ) (k : Nat) : (s.setQueue p q x).canU k = s.canU k := rfl
@[simp] theorem State.lane_setQueue (p q : Nat) (x : EgressQ) (k : Nat) : (s.setQueue p q x).lane k = s.lane k := rfl
@[simp] theorem State.bank_setQueue (p q : Nat) (x : EgressQ) (k : Nat) : (s.setQueue p q x).bank k = s.bank k := rfl
@[simp] theorem State.port_setQueue (p q : Nat) (x : EgressQ) (k : Nat) : (s.setQueue p q x).port k = s.port k := rfl
@[simp] theorem State.slot_setQueue (p q : Nat) (x : EgressQ) (k : Nat) : (s.setQueue p q x).slot k = s.slot k := rfl
@[simp] theorem State.pol_setQueue (p q : Nat) (x : EgressQ) (k : Nat) : (s.setQueue p q x).pol k = s.pol k := rfl
@[simp] theorem State.jring_setQueue (p q : Nat) (x : EgressQ) (k j : Nat) : (s.setQueue p q x).jring k j = s.jring k j := rfl
@[simp] theorem State.eq_setQueue (p q : Nat) (x : EgressQ) (k j : Nat) : (s.setQueue p q x).eq k j = s.eq k j := rfl

@[simp] theorem State.rd_setPort (p : Nat) (x : PortState) (k : Nat) : (s.setPort p x).rd k = s.rd k := rfl
@[simp] theorem State.fld_setPort (p : Nat) (x : PortState) (g : Fld) : (s.setPort p x).fld g = s.fld g := rfl
@[simp] theorem State.flag_setPort (p : Nat) (x : PortState) (g : Fld) : (s.setPort p x).flag g = s.flag g := rfl
@[simp] theorem State.rd64_setPort (p : Nat) (x : PortState) (k : Nat) : (s.setPort p x).rd64 k = s.rd64 k := rfl
@[simp] theorem State.byte_setPort (p : Nat) (x : PortState) (k : Nat) : (s.setPort p x).byte k = s.byte k := rfl
@[simp] theorem State.optByte_setPort (p : Nat) (x : PortState) (k : Nat) : (s.setPort p x).optByte k = s.optByte k := rfl
@[simp] theorem State.owner_setPort (p : Nat) (x : PortState) : (s.setPort p x).owner = s.owner := rfl
@[simp] theorem State.cell_setPort (p : Nat) (x : PortState) (k : Nat) : (s.setPort p x).cell k = s.cell k := rfl
@[simp] theorem State.page_setPort (p : Nat) (x : PortState) (k : Nat) : (s.setPort p x).page k = s.page k := rfl
@[simp] theorem State.tracker_setPort (p : Nat) (x : PortState) (k : Nat) : (s.setPort p x).tracker k = s.tracker k := rfl
@[simp] theorem State.engine_setPort (p : Nat) (x : PortState) (k : Nat) : (s.setPort p x).engine k = s.engine k := rfl
@[simp] theorem State.act_setPort (p : Nat) (x : PortState) (k : Nat) : (s.setPort p x).act k = s.act k := rfl
@[simp] theorem State.mb_setPort (p : Nat) (x : PortState) (k j : Nat) : (s.setPort p x).mb k j = s.mb k j := rfl
@[simp] theorem State.canU_setPort (p : Nat) (x : PortState) (k : Nat) : (s.setPort p x).canU k = s.canU k := rfl
@[simp] theorem State.lane_setPort (p : Nat) (x : PortState) (k : Nat) : (s.setPort p x).lane k = s.lane k := rfl
@[simp] theorem State.bank_setPort (p : Nat) (x : PortState) (k : Nat) : (s.setPort p x).bank k = s.bank k := rfl
@[simp] theorem State.queue_setPort (p : Nat) (x : PortState) (k j : Nat) : (s.setPort p x).queue k j = s.queue k j := rfl
@[simp] theorem State.slot_setPort (p : Nat) (x : PortState) (k : Nat) : (s.setPort p x).slot k = s.slot k := rfl
@[simp] theorem State.pol_setPort (p : Nat) (x : PortState) (k : Nat) : (s.setPort p x).pol k = s.pol k := rfl
@[simp] theorem State.jring_setPort (p : Nat) (x : PortState) (k j : Nat) : (s.setPort p x).jring k j = s.jring k j := rfl
@[simp] theorem State.eq_setPort (p : Nat) (x : PortState) (k j : Nat) : (s.setPort p x).eq k j = s.eq k j := rfl

@[simp] theorem State.rd_setSlot (i : Nat) (x : KeySlot) (k : Nat) : (s.setSlot i x).rd k = s.rd k := rfl
@[simp] theorem State.fld_setSlot (i : Nat) (x : KeySlot) (g : Fld) : (s.setSlot i x).fld g = s.fld g := rfl
@[simp] theorem State.flag_setSlot (i : Nat) (x : KeySlot) (g : Fld) : (s.setSlot i x).flag g = s.flag g := rfl
@[simp] theorem State.rd64_setSlot (i : Nat) (x : KeySlot) (k : Nat) : (s.setSlot i x).rd64 k = s.rd64 k := rfl
@[simp] theorem State.byte_setSlot (i : Nat) (x : KeySlot) (k : Nat) : (s.setSlot i x).byte k = s.byte k := rfl
@[simp] theorem State.optByte_setSlot (i : Nat) (x : KeySlot) (k : Nat) : (s.setSlot i x).optByte k = s.optByte k := rfl
@[simp] theorem State.owner_setSlot (i : Nat) (x : KeySlot) : (s.setSlot i x).owner = s.owner := rfl
@[simp] theorem State.cell_setSlot (i : Nat) (x : KeySlot) (k : Nat) : (s.setSlot i x).cell k = s.cell k := rfl
@[simp] theorem State.page_setSlot (i : Nat) (x : KeySlot) (k : Nat) : (s.setSlot i x).page k = s.page k := rfl
@[simp] theorem State.tracker_setSlot (i : Nat) (x : KeySlot) (k : Nat) : (s.setSlot i x).tracker k = s.tracker k := rfl
@[simp] theorem State.engine_setSlot (i : Nat) (x : KeySlot) (k : Nat) : (s.setSlot i x).engine k = s.engine k := rfl
@[simp] theorem State.act_setSlot (i : Nat) (x : KeySlot) (k : Nat) : (s.setSlot i x).act k = s.act k := rfl
@[simp] theorem State.mb_setSlot (i : Nat) (x : KeySlot) (k j : Nat) : (s.setSlot i x).mb k j = s.mb k j := rfl
@[simp] theorem State.canU_setSlot (i : Nat) (x : KeySlot) (k : Nat) : (s.setSlot i x).canU k = s.canU k := rfl
@[simp] theorem State.lane_setSlot (i : Nat) (x : KeySlot) (k : Nat) : (s.setSlot i x).lane k = s.lane k := rfl
@[simp] theorem State.bank_setSlot (i : Nat) (x : KeySlot) (k : Nat) : (s.setSlot i x).bank k = s.bank k := rfl
@[simp] theorem State.queue_setSlot (i : Nat) (x : KeySlot) (k j : Nat) : (s.setSlot i x).queue k j = s.queue k j := rfl
@[simp] theorem State.port_setSlot (i : Nat) (x : KeySlot) (k : Nat) : (s.setSlot i x).port k = s.port k := rfl
@[simp] theorem State.pol_setSlot (i : Nat) (x : KeySlot) (k : Nat) : (s.setSlot i x).pol k = s.pol k := rfl
@[simp] theorem State.jring_setSlot (i : Nat) (x : KeySlot) (k j : Nat) : (s.setSlot i x).jring k j = s.jring k j := rfl
@[simp] theorem State.eq_setSlot (i : Nat) (x : KeySlot) (k j : Nat) : (s.setSlot i x).eq k j = s.eq k j := rfl

@[simp] theorem State.rd_setPol (i : Nat) (x : PolState) (k : Nat) : (s.setPol i x).rd k = s.rd k := rfl
@[simp] theorem State.fld_setPol (i : Nat) (x : PolState) (g : Fld) : (s.setPol i x).fld g = s.fld g := rfl
@[simp] theorem State.flag_setPol (i : Nat) (x : PolState) (g : Fld) : (s.setPol i x).flag g = s.flag g := rfl
@[simp] theorem State.rd64_setPol (i : Nat) (x : PolState) (k : Nat) : (s.setPol i x).rd64 k = s.rd64 k := rfl
@[simp] theorem State.byte_setPol (i : Nat) (x : PolState) (k : Nat) : (s.setPol i x).byte k = s.byte k := rfl
@[simp] theorem State.optByte_setPol (i : Nat) (x : PolState) (k : Nat) : (s.setPol i x).optByte k = s.optByte k := rfl
@[simp] theorem State.owner_setPol (i : Nat) (x : PolState) : (s.setPol i x).owner = s.owner := rfl
@[simp] theorem State.cell_setPol (i : Nat) (x : PolState) (k : Nat) : (s.setPol i x).cell k = s.cell k := rfl
@[simp] theorem State.page_setPol (i : Nat) (x : PolState) (k : Nat) : (s.setPol i x).page k = s.page k := rfl
@[simp] theorem State.tracker_setPol (i : Nat) (x : PolState) (k : Nat) : (s.setPol i x).tracker k = s.tracker k := rfl
@[simp] theorem State.engine_setPol (i : Nat) (x : PolState) (k : Nat) : (s.setPol i x).engine k = s.engine k := rfl
@[simp] theorem State.act_setPol (i : Nat) (x : PolState) (k : Nat) : (s.setPol i x).act k = s.act k := rfl
@[simp] theorem State.mb_setPol (i : Nat) (x : PolState) (k j : Nat) : (s.setPol i x).mb k j = s.mb k j := rfl
@[simp] theorem State.canU_setPol (i : Nat) (x : PolState) (k : Nat) : (s.setPol i x).canU k = s.canU k := rfl
@[simp] theorem State.lane_setPol (i : Nat) (x : PolState) (k : Nat) : (s.setPol i x).lane k = s.lane k := rfl
@[simp] theorem State.bank_setPol (i : Nat) (x : PolState) (k : Nat) : (s.setPol i x).bank k = s.bank k := rfl
@[simp] theorem State.queue_setPol (i : Nat) (x : PolState) (k j : Nat) : (s.setPol i x).queue k j = s.queue k j := rfl
@[simp] theorem State.port_setPol (i : Nat) (x : PolState) (k : Nat) : (s.setPol i x).port k = s.port k := rfl
@[simp] theorem State.slot_setPol (i : Nat) (x : PolState) (k : Nat) : (s.setPol i x).slot k = s.slot k := rfl
@[simp] theorem State.jring_setPol (i : Nat) (x : PolState) (k j : Nat) : (s.setPol i x).jring k j = s.jring k j := rfl
@[simp] theorem State.eq_setPol (i : Nat) (x : PolState) (k j : Nat) : (s.setPol i x).eq k j = s.eq k j := rfl

@[simp] theorem State.rd_setJring (p r : Nat) (x : JobRing) (k : Nat) : (s.setJring p r x).rd k = s.rd k := rfl
@[simp] theorem State.fld_setJring (p r : Nat) (x : JobRing) (g : Fld) : (s.setJring p r x).fld g = s.fld g := rfl
@[simp] theorem State.flag_setJring (p r : Nat) (x : JobRing) (g : Fld) : (s.setJring p r x).flag g = s.flag g := rfl
@[simp] theorem State.rd64_setJring (p r : Nat) (x : JobRing) (k : Nat) : (s.setJring p r x).rd64 k = s.rd64 k := rfl
@[simp] theorem State.byte_setJring (p r : Nat) (x : JobRing) (k : Nat) : (s.setJring p r x).byte k = s.byte k := rfl
@[simp] theorem State.optByte_setJring (p r : Nat) (x : JobRing) (k : Nat) : (s.setJring p r x).optByte k = s.optByte k := rfl
@[simp] theorem State.owner_setJring (p r : Nat) (x : JobRing) : (s.setJring p r x).owner = s.owner := rfl
@[simp] theorem State.cell_setJring (p r : Nat) (x : JobRing) (k : Nat) : (s.setJring p r x).cell k = s.cell k := rfl
@[simp] theorem State.page_setJring (p r : Nat) (x : JobRing) (k : Nat) : (s.setJring p r x).page k = s.page k := rfl
@[simp] theorem State.tracker_setJring (p r : Nat) (x : JobRing) (k : Nat) : (s.setJring p r x).tracker k = s.tracker k := rfl
@[simp] theorem State.engine_setJring (p r : Nat) (x : JobRing) (k : Nat) : (s.setJring p r x).engine k = s.engine k := rfl
@[simp] theorem State.act_setJring (p r : Nat) (x : JobRing) (k : Nat) : (s.setJring p r x).act k = s.act k := rfl
@[simp] theorem State.mb_setJring (p r : Nat) (x : JobRing) (k j : Nat) : (s.setJring p r x).mb k j = s.mb k j := rfl
@[simp] theorem State.canU_setJring (p r : Nat) (x : JobRing) (k : Nat) : (s.setJring p r x).canU k = s.canU k := rfl
@[simp] theorem State.lane_setJring (p r : Nat) (x : JobRing) (k : Nat) : (s.setJring p r x).lane k = s.lane k := rfl
@[simp] theorem State.bank_setJring (p r : Nat) (x : JobRing) (k : Nat) : (s.setJring p r x).bank k = s.bank k := rfl
@[simp] theorem State.queue_setJring (p r : Nat) (x : JobRing) (k j : Nat) : (s.setJring p r x).queue k j = s.queue k j := rfl
@[simp] theorem State.port_setJring (p r : Nat) (x : JobRing) (k : Nat) : (s.setJring p r x).port k = s.port k := rfl
@[simp] theorem State.slot_setJring (p r : Nat) (x : JobRing) (k : Nat) : (s.setJring p r x).slot k = s.slot k := rfl
@[simp] theorem State.pol_setJring (p r : Nat) (x : JobRing) (k : Nat) : (s.setJring p r x).pol k = s.pol k := rfl
@[simp] theorem State.eq_setJring (p r : Nat) (x : JobRing) (k j : Nat) : (s.setJring p r x).eq k j = s.eq k j := rfl

end Sys2Proof.Machine
end

