-- ==== Sys2Proof/Laws/Live.lean ====
section
/-!
SUPPORT. What the two wrappers of every command do, when a page's write of a command register is taken, and what an
event changes.
-/

namespace Sys2Proof.Machine

variable (s : State)

/-- Out of reset, a command answers with what its meaning makes, its queue as it was. -/
theorem live_next (f : State → State) (h : s.awake) :
    live s f = .next { f s with pending := s.pending, dev := { (f s).dev with held := false } } := by
  unfold State.awake at h
  simp [live, h]

/-- Out of reset, a meaning that leaves the queue and the reset pins alone is the answer. -/
theorem live_exact (f : State → State) (h : s.awake) (hp : (f s).pending = s.pending) (hd : (f s).dev = s.dev) :
    live s f = .next (f s) := by
  rw [live_next s f h]
  unfold State.awake at h
  congr 1
  have : (f s).dev.held = false := by rw [hd]; exact h
  rw [← hp, ← this]

/-- A command that acts only out of reset leaves a held device as it is. -/
theorem live_held (f : State → State) (h : s.dev.held = true) : live s f = .next s := by simp [live, h]

/-- A taken write acts. -/
theorem onWrite_takes {p a : Nat} (f : State → State) (h : s.takes p a) : s.onWrite p a f = f s := by
  obtain ⟨-, ht, hm⟩ := h
  simp [State.onWrite, ht, hm]

/-- The owner page may write every register of the device blocks. -/
theorem takes_dev {p a : Nat} (h : s.awake) (hf : s.flag Reg.HLT_RESET_CAUSE_OPT_FAIL = false) (hp : p = s.owner)
    (ha : 0x100000 ≤ a) (hb : a < 0x1C0000) (hc : a % 0x10000 < 0x8000) : s.takes p a := by
  have h8 : s.owner < 8 := Nat.mod_lt _ (by norm_num)
  have hq : pageAddr p a = a := by
    unfold pageAddr
    rw [if_neg]
    omega
  refine ⟨h, ?_, ?_⟩
  · rw [hq]
    unfold State.target
    simp [hf, show ¬ a < 0x100000 by omega, hb, hc]
  · unfold State.mayWrite
    simp [hf, show a < 0x200000 by omega, hp]

/-! ## Events -/

/-- The entries of a queue after one more is posted (R380). -/
def entriesAfter (old : List DWord) (e : DWord) : List DWord :=
  if decide (1024 ≤ old.length) then markGap old.tail ++ [e] else old ++ [e]

@[simp] theorem levelRise_eqs (p q : Nat) : (s.levelRise p q).eqs = s.eqs := by
  simp only [State.levelRise]
  split <;> rfl

/-- Posting changes one queue, by what it holds. -/
theorem postTo_eqs (p q : Nat) (e : DWord) :
    (s.postTo p q e).eqs = Tbl.set (fun _ => { entries := [] }) s.eqs (4 * p + q)
      { entries := entriesAfter (s.eq p q).entries e } := by
  simp only [State.postTo, apply_ite State.eqs, levelRise_eqs, ite_self, State.setFld_eqs, State.bump_eqs,
    State.tick_eqs]
  rfl

/-- Posting touches the queues by what the queues hold, whatever the registers are. -/
theorem postTo_eqs_congr {t : State} (h : t.eqs = s.eqs) (p q : Nat) (e : DWord) :
    (t.postTo p q e).eqs = (s.postTo p q e).eqs := by
  simp [postTo_eqs, State.eq, h]

theorem foldl_postTo_eqs_congr (l : List (Nat × Nat)) (e : DWord) {t u : State} (h : t.eqs = u.eqs) :
    (l.foldl (fun t pq => t.postTo pq.1 pq.2 e) t).eqs = (l.foldl (fun t pq => t.postTo pq.1 pq.2 e) u).eqs := by
  induction l generalizing t u with
  | nil => exact h
  | cons x l ih => exact ih (postTo_eqs_congr u h _ _ _)

/-- The queues after an event depend on the queues, the routing table and the owner page only. -/
theorem postEvent_eqs_congr {t : State} (he : t.eqs = s.eqs) (hm : t.mem = s.mem) (ht : t.tbl = s.tbl)
    (code src : Nat) (data : Word) : (t.postEvent code src data).eqs = (s.postEvent code src data).eqs := by
  have h : t.eventTargets code = s.eventTargets code := by
    unfold State.eventTargets State.tw State.owner State.optByte State.byte
    rw [hm, ht]
  simp only [State.postEvent, h]
  exact foldl_postTo_eqs_congr _ _ he

end Sys2Proof.Machine
end

