-- ==== Sys2Proof/WellFormed.lean ====
section
/-!
DEFINITION. Which commands can reach the part at all: the operands that the manual's formats and the standards it names
allow. The meanings are total and need no check; a command that fails one cannot be made by a host, a bus or a pin.
-/

namespace Sys2Proof

/-- Registers and words are aligned to 4 bytes (R7, R367). -/
def wordAligned (a : Nat) : Bool := decide (a % 4 = 0)

/-- The operand bytes of an AtomicOp: PCIe aligns it to its size (R366). -/
def atomicBytes : AtomicWidth → Nat
  | .w32 => 4
  | .w64 => 8
  | .w128 => 16

/-- The data bytes of a DLC (R232, ISO 11898-1). -/
def dlcBytes (fdf : Bool) (dlc : Nat) : Nat :=
  if dlc ≤ 8 then dlc
  else if fdf then [12, 16, 20, 24, 32, 48, 64].getD (dlc - 9) 64
  else 8

/-- A CAN frame of ISO 11898-1: a base identifier stands in [28:18] (R501), remote frames are CAN frames without data, BRS and ESI
belong to CAN FD, the data follow the DLC. -/
def canFrameOk (f : CanFrame) : Bool :=
  (f.ide || decide (f.ident.toNat % 2 ^ 18 = 0))
    && !(f.fdf && f.rtr) && (f.fdf || (!f.brs && !f.esi))
    && decide (f.data.length = if f.rtr then 0 else dlcBytes f.fdf f.dlc.toNat)

/-- A received Ethernet frame has bytes; its length is judged by the port (R319). -/
def ethFrameOk (f : EthFrame) : Bool := decide (1 ≤ f.bytes.length)

/-- The command can reach the part. -/
def wellFormed : Instr → Bool
  | .registerWrite _ addr _ => wordAligned addr.toNat
  | .lowWordRead _ addr => wordAligned addr.toNat
  | .rcRead _ addr => wordAligned addr.toNat
  | .regionStepDown _ b => decide (b ≤ 100)
  | .bootFirmwareCheck a b => decide (a.rollback < 256) && decide (b.rollback < 256)
  | .gptpMessage _ m => ethFrameOk m.frame
  | .loadWindow _ b => decide (b.toNat ≤ 100)
  | .canFrameReceived _ f _ => canFrameOk f
  | .linResponseReceived _ d _ => decide (1 ≤ d.length) && decide (d.length ≤ 8)
  | .sentMessage _ m => decide (m.pulses.length ≤ 9) && decide (0 < m.tickNs)
  | .ethFrameReceived _ f _ => ethFrameOk f
  | .forwardingDecision _ h => decide (h.bytes.length = 64)
  | .ethLink _ up speed _ => !up || decide (1 ≤ speed.toNat)
  | .ringFrameReceived _ f _ => ethFrameOk f
  | .read path f => decide (3 ≤ path.val) && decide (f.data.length ≤ 1484)
  | .write path f => decide (3 ≤ path.val) && decide (f.data.length ≤ 1484)
  | .writeAck path f => decide (3 ≤ path.val) && decide (f.data.length ≤ 1484)
  | .fetchAdd path f => decide (3 ≤ path.val) && decide (f.data.length ≤ 1484)
  | .swap path f => decide (3 ≤ path.val) && decide (f.data.length ≤ 1484)
  | .cas path f => decide (3 ≤ path.val) && decide (f.data.length ≤ 1484)
  | .probe path f => decide (3 ≤ path.val) && decide (f.data.length ≤ 1484)
  | .pcieAtomicop _ _ addr _ w _ _ => decide (addr.toNat % atomicBytes w = 0)
  | .bridgeWrite _ off _ _ => wordAligned off.toNat
  | .bridgeRead _ off _ => wordAligned off.toNat
  | .farCycleEnd d => decide (d.length ≤ 16)
  | .jobStart _ _ d => decide (d.length = 16)
  | .regionMemoryWake _ | .regionHold _ | .codewordReceived _ _ | .linkDown _ | .linkRetrain _ _
  | .tempMeasure _ _ _ | .loadA _ | .loadB _ | .push _ | .commit _ | .abort _ | .saveSettings _ | .saveDone
  | .strPieceDb _ | .imageReadComplete | .signatureVerified _ | .imageApplied | .fullReloadComplete
  | .drainComplete | .unitStop _ | .batchWritten | .bondTimeout _ | .sigCommit _ | .cadenceTick | .commitServed
  | .epochCommit | .pinNow _ | .pinAt _ | .unpin _ | .pinExpired _ | .pinnedRead _ _ | .start _ | .cancel _
  | .ashlarDone _ | .psgWgDb _ | .referencePoint _ _ | .syntheticReferencePoint _ | .referenceLost _
  | .holdExpired _ | .forceSearch _ _ | .hwReset _ _ | .forwardCrossing _ | .rateWrite _ _ | .adjustment _
  | .slewComplete | .ppsInEdge _ | .ppsMiss | .masterLost | .masterReturn | .ppsOutRise | .ppsOutFall | .snap _
  | .actWrite _ _ | .actRead _ _ | .actArm _ _ | .disarm _ _ | .disarmAll _ | .triggerDispatch _ | .releaseSealed _
  | .triggerMessageArrival _ _ | .actionRelease _ | .routeSecondPass | .pduHoldExpiry _ | .eventGapExpiry _
  | .verificationComplete | .recipeInvocation _ _ | .recipeOverrun _ | .lockstepMismatch _ | .forceTakeover _ _
  | .secHandBack _ _ | .mbLoad _ _ _ | .mbRead _ _ _ | .txRequest _ _ _ | .txCancel _ _ _ | .txResume _ _ _
  | .recover _ _ | .resetBo _ _ | .mtxArm _ _ | .mtxStop _ _ | .startOfFrame _ | .arbitrationLost _
  | .transmissionComplete _ _ | .busError _ _ _ _ | .busOffDelayExpiry _ | .recoveryComplete _ | .rxPop _ _
  | .matrixCycleStart _ | .windowStart _ _ | .mtxRefMiss _ | .resyncSend _ _ | .characterReceived _ _ | .break_ _
  | .idle _ | .timeout _ | .characterTransmitted _ _ | .deLagExpiry _ | .linSlotStart _ | .linHeaderReceived _ _ _
  | .linNoresp _ | .spiWord _ _ | .spiTargetWord _ _ | .csNRise _ _ | .slnRxPop _ _ | .txPush _ _ _ | .rxFlush _ _
  | .txFlush _ _ | .smReset _ _ | .edgeAccepted _ _ _ _ | .stagingRefresh _ | .egressSelect _ | .tsPop _ _
  | .lpiEntry _ | .lpiWake _ | .flush _ _ _ | .listArm _ _ | .listStop _ _ | .sluiceCycleStart _
  | .gateEntryAdvance _ | .queueSample _ | .ringLinkUp _ | .ringLinkDown _ | .windowAge _ | .quietTimeEnd
  | .periodic | .announce | .resume _ | .ringSyncSend | .syncTimeout | .pathFail _ _ | .heartbeatExpiry _ _
  | .pathUp _ _ | .pathSel _ _ | .eqPop _ _ | .eqFlush _ _ | .busGrant | .waitTmo | .go _ | .prefetchTimeout _
  | .inboundCycle _ | .backoffExpiry | .intPoll _ | .keyWrite _ _ _ | .keyErase _ _ | .keyZeroise _ | .keyWarn _
  | .keyExhausted _ | .pcjProd _ _ _ | .jobComplete _ _ _ _ | .updPieceDb _ _ | .pieceStored
  | .bundleVerifyComplete _ _ _ _ _ _ | .stagingComplete _ | .updArm _ | .armingComplete | .activate _
  | .handoverResume | .confirm _ _ | .updAbort _ | .archClear _ | .powerOn _ | .resetNFall _ | .resetRelease
  | .optProgram _ | .optProgramComplete _ | .optRead _ _ | .forceSpare _ _ | .handBack _ _ | .patrolRead _ _ _ _ _
  | .unitCheck _ | .selftestComplete _ _ | .spareHandback _ | .transientAgeExpiry _ | .meRestartComplete
  | .supplyValid _ | .vioChange _ _ | .classLatch _ _ | .perst _ _ | .mortarLinkUp _ | .flashReadError
  | .busIntegration _ | .ctsNChange _ _ | .receiveLpi _ _ | .cbsCreditRecovered _ _ => true

end Sys2Proof
end

