-- ==== Sys2Proof/Tests/Slice0.lean ====
section
/-!
SUPPORT. Tests of the model: which commands are well formed, values that the manual and the standards it names give, one
step of each family of commands on a small state, and, for every statement of Sys2Proof/Certificates/Slice0/Obligations.lean
with hypotheses, states and operands that meet them together (`witness_<statement>`).
-/

open Sys2Proof Sys2Proof.Machine

namespace Sys2Proof.Tests

set_option Elab.async false


/-- Registers set to values. -/
def regsAre (l : List (Nat × Nat)) (s : State) : State := l.foldl (fun (t : State) x => t.wr x.1 (w32 x.2)) s
/-- Fields set to values. -/
def fldsAre (l : List (Fld × Nat)) (s : State) : State := l.foldl (fun (t : State) x => t.setFld x.1 x.2) s
/-- The local counter stands at `us` microseconds. -/
def atUs (us : Nat) (s : State) : State := { s with tb := { s.tb with local16 := us * 65536000 } }

def w0 : State := State.reset
/-- The field banks have their supplies, and each its buffer class. -/
def wVioOn : State := { regsAre [(Reg.GEN_VIO_STATE, 0xFFFF)] w0 with dev := { w0.dev with classes := List.replicate 16 1 } }
def wRun : State := fldsAre [(Reg.SIG_BSTAT_RUN, 1)] w0

/-- 10 µs after the last commit. -/
def wCommit : State := { atUs 10 wRun with sig := { w0.sig with lastInstant := some 0, lastDisc16 := some 0 } }
/-- Just before. -/
def wCommitEarly : State := { wCommit with tb := { wCommit.tb with local16 := 655359999 } }
def wCommitKept : State := { wCommit with sig := { wCommit.sig with requests := 3 } }
def wCadence : State :=
  let s := fldsAre [(Reg.SIG_CADENCE_MODE, 1), (Reg.SIG_PERIOD_PERIOD_US, 10)] wCommit
  { s with sig := { s.sig with lastInstant := none, cadLast := some 0 } }
def wServed : State := { atUs 11 wRun with sig := { w0.sig with served := some (1000, 5) } }

/-- A commit of this very instant. -/
def wServedNow : State := { wServed with sig := { wServed.sig with lastInstant := some wServed.tb.local16 } }

/-! ## pins, ashlars, batches -/
def wPin : State := regsAre [(Reg.SIG_EPOCH, 2)] wRun
def wPinOld : State := regsAre [(Reg.SIG_EPOCH, 2 ^ 30)] (fldsAre [(Reg.PSG_PIN_STATUS_PINNED 0, 1)] wRun)
/-- PSG_PIN_AT just inside and just outside what PIN_AT takes. -/
def wPinAt (n : Nat) : State := regsAre [(Reg.PSG_PIN_AT 0, n)] wPin
def anAshlar : Ashlar := { epoch := 2, commitTime := 0, ranges := [(0, 1)], addr := 64, copied := 0, restarts := 0, since := 0 }
def wAshlar : State := (regsAre [(Reg.PSG_ASH_ADDR_LO 0, 100)] wRun).setPage 0 { w0.page 0 with ashlar := some anAshlar }
def wAshlarPath : State := fldsAre [(Reg.PG_PATH_ACTIVE 0, 1)] wAshlar
/-- Cell 5 exists and page 0 may write it. -/
def wCell : State := { wRun with tbl :=
  [(tkey 0x06 devScope 5 0, 0x10000000), (tkey 0x06 devScope 5 1, 0x40000)] }
/-- A write group of one cell. -/
def wGroup : State := fldsAre [(Reg.PSG_WG_COUNT_COUNT 0, 1), (Reg.PSG_WG_CELL_CELL 0 0, 5)] wCell
def wGroupFull : State := fldsAre [(Reg.PSG_WG_COUNT_COUNT 0, 512)] wCell
def wGroupOver : State := fldsAre [(Reg.PSG_WG_COUNT_COUNT 0, 513)] wCell
def wGroupBusy : State := fldsAre [(Reg.PSG_WG_STATUS_BUSY 0, 1)] wGroup
def wBatch : State := { wCell with sig := { wCell.sig with
  batches := [{ id := 1, src := .group 0, gen := 0, items := [.write ⟨5, .put 3⟩] }] } }
def wBond : State := { atUs 1000 wRun with sig := { w0.sig with
  bonds := [{ bond := 1023, held := [⟨5, .put 3⟩], since := 0 }] } }


/-! ## trackers and time -/
def wWheel (state : Nat) : State :=
  (fldsAre [(Reg.PHS_CFG_KIND 0, 1), (Reg.PHS_CFG_EN 0, 1), (Reg.PHS_STATE_STATE 0, state), (Reg.PHS_STATE_VALID 0, 1),
    (Reg.PHS_HOLD_TOOTH_TMO 0, 1), (Reg.PHS_HOLD_HOLD_MAX 0, 1)] (atUs 1001 w0)).setTracker 0 { w0.tracker 0 with edge16 := some 0 }
def wHoldover : State := (wWheel 3).setTracker 0 { w0.tracker 0 with pos := 2 ^ 24 + 5, hw := 2 ^ 24 + 5 }
def wMains : State :=
  (fldsAre [(Reg.PHS_CFG_EN 0, 1), (Reg.PHS_BAND_LOW 0, 450), (Reg.PHS_BAND_HIGH 0, 550)] (atUs 20000 w0)).setTracker 0
    { w0.tracker 0 with edge16 := some 0 }
def wSynth : State := fldsAre [(Reg.PHS_CFG_EN 3, 1), (Reg.PHS_CFG_KIND 3, 3)] (atUs 20000 w0)
def wCross : State := (fldsAre [(Reg.PHS_STATE_STATE 0, 2)] w0).setTracker 0 { w0.tracker 0 with pos := 5, hw := 4 }
def wRate : State := atUs 5 w0
def wServo : State := fldsAre [(Reg.TMB_CTRL_SERVO, 1)] w0
def wTimeSet : State := fldsAre [(Reg.TMB_STATUS_TIME_SET, 1)] w0
def wSlewing : State := fldsAre [(Reg.TMB_STATUS_SLEWING, 1)] w0
def wPps : State :=
  let s := fldsAre [(Reg.TMB_CTRL_GM_PPS, 1), (Reg.TMB_STATUS_SYNC, 1)] (atUs 1500000 w0)
  { s with tb := { s.tb with lastPps := some 0 } }
def wPpsOut : State := fldsAre [(Reg.TMB_BSTAT_RUN, 1), (Reg.TMB_CTRL_PPSO_EN, 1)] w0
def wPpsFall : State :=
  let s := regsAre [(Reg.TMB_PPSO_WIDTH, 1000)] (atUs 1000 w0)
  { s with tb := { s.tb with ppsOut := true } }
def wHold : State := fldsAre [(Reg.TMB_STATUS_SYNC, 2)] w0
/-- Port 0 is the one toward the best master. -/
def wGptp : State :=
  let s := fldsAre [(Reg.TMB_BSTAT_RUN, 1), (Reg.TMB_GPTP_CTRL_MODE, 1), (Reg.TMB_GPTP_PORTS_PORTS, 1)] w0
  let p : GptpPort := { ann := some { key := 0, steps := 0, src := [], at16 := 0 }, sync := some (7, 64, 0) }
  { s with tb := { s.tb with gptp := [(0, p)] } }
/-- A gPTP message from the clock of ones, and its frame. -/
def aPtp (type : Nat) : PtpMsg :=
  { type := type, domain := 0, corr16 := 0, steps := 0, src := List.replicate 10 1, seq := 7, body := List.replicate 12 0 }
def aPtpFrame (type : Nat) : EthFrame := ⟨ptpFrame (List.replicate 6 2) (aPtp type).src 0 (aPtp type)⟩


/-! ## actions -/
/-- An entry of ACTION `code` and TRIGGER `trig` with more bits of word 0, its time, and a state. -/
def anEntry (code trig more time state : Nat) : ActEntry :=
  { words := [w32 (code * 2 ^ 28 + trig * 2 ^ 26 + more), 0, w32 time] ++ List.replicate 13 0, state := state, due := time }
def withAct (e : ActEntry) (s : State) : State := s.setAct 0 e
def wStaging : State := regsAre [(Reg.ACT_E_CTRL, 0x60000000)] w0
def wActIdle : State := withAct (anEntry 6 0 0 2000 0) wStaging
def wActFired : State := withAct (anEntry 6 0 0 2000 2) wStaging
def wActArmed : State := withAct (anEntry 6 0 0 2000 1) wStaging
def wActDispatch : State := withAct (anEntry 6 0 0 20000 1) w0
def wActLate : State := withAct { anEntry 1 0 0x800000 0 1 with relAt := some 64 } (atUs 5 w0)
def wActDue : State := withAct { anEntry 1 0 0x800000 0 1 with relAt := some 655360000 } (atUs 5 w0)
def wActRelease : State := withAct { anEntry 6 0 0 0 1 with relAt := some 65536000 } (atUs 1 wRun)

/-! ## structure image -/
def le (n v : Nat) : List Byte := leBytes n v
/-- An empty section of default settings. -/
def emptySect : List Byte := le 4 0 ++ le 2 16 ++ le 2 0xFFFF ++ le 4 0 ++ le 4 0
/-- The x coordinate of the sum of the base point of P-384 and the key at `wKeyed`: the signature of the smallest image
whose r and s are its hash. -/
def aSig : Nat := 0xFD17548F97A5D224FAA131A21210EC1679147DD9E19A21F5FC786B91C6A07968030A7B301AB3E59501AAACB82E3A41E3
/-- The smallest image: 0x480 bytes, one empty section at 0x400, signed with key 0. -/
def smallImage : List Byte :=
  let head := le 4 0x49534A58 ++ le 2 1 ++ le 2 0x400 ++ le 4 (w0.rd Reg.GEN_HWTYPE).toNat ++ le 4 0 ++ List.replicate 12 0
    ++ le 4 0 ++ le 4 1 ++ le 2 0 ++ le 2 0 ++ le 4 0x480 ++ le 2 1 ++ le 2 0
  let dir := le 4 0x0E ++ le 4 0x400 ++ le 4 16 ++ le 4 (crc32 emptySect)
  let a := head ++ List.replicate (0x80 - head.length) 0 ++ dir
  let b := a ++ List.replicate (0x400 - a.length) 0 ++ emptySect
  b ++ List.replicate 16 0 ++ beBytes 48 aSig ++ beBytes 48 aSig
/-- The verification key: x, then y. -/
def aKey : List Byte :=
  beBytes 48 0xF54EE402ADFDBCD8303E00ADB1FA1C89BE583CA229AAF211E32B68FBF763328E79B873A7C19497086E8C7E39D5666C23
    ++ beBytes 48 0x98FACA2D13CE56C858E4F4D3B6C651A9E684910D4889770F2851AEEBCE14AD1FDBAA72CC6511C0EA8AF6A442B6C0403E
/-- The option store holds verification key 0. -/
def wKeyed (s : State) : State := { s with mem := Tbl.setList memDefault (Tbl.set memDefault s.mem 0x191024 1) 0x191040 aKey }
def flashWith (base : Nat) (bs : List Byte) : Tbl Byte := (bs.zipIdx base).map fun x => (x.2, x.1)
def wLoading : State :=
  let s := fldsAre [(Reg.STR_STATE_STATE, 1), (Reg.STR_STATE_SOURCE, 1)] w0
  { s with flash := Tbl.setList flashDefault [] 0x100000 smallImage }
/-- Its magic is wrong. -/
def wLoadingBad : State := { wLoading with flash := Tbl.set flashDefault wLoading.flash 0x100000 0 }
def wVerifying (gen : Nat) : State :=
  let s := regsAre [(Reg.STR_GEN, gen)] (fldsAre [(Reg.STR_STATE_STATE, 2), (Reg.STR_STATE_SOURCE, 1)] (wKeyed w0))
  { s with str := { s.str with bytes := smallImage, sects := imgSects smallImage } }
def wNoKey : State := { wVerifying 1 with mem := Tbl.set memDefault (wVerifying 1).mem 0x191024 0 }
def wStr (state kind : Nat) : State := fldsAre [(Reg.STR_STATE_STATE, state), (Reg.STR_BOUNDARY_KIND, kind)] w0
def wPush (off len : Nat) : State :=
  let s := fldsAre [(Reg.STR_STATE_STATE, 1), (Reg.STR_PIECE_OFF_OFF, off), (Reg.STR_PIECE_LEN_LEN, len)] w0
  { s with str := { s.str with pushing := true, bytes := smallImage.take 0x29 ++ [0x30#8] ++ List.replicate 4054 0 } }
/-- The last piece of the smallest image stands in the buffer. -/
def wPushLast : State :=
  let s := wPush 1024 128
  { s with str := { s.str with bytes := smallImage.take 1024 }
           mem := Tbl.setList memDefault s.mem (Reg.STR_PIECE 0) (smallImage.drop 1024) }
def wOptFail : State := fldsAre [(Reg.HLT_RESET_CAUSE_OPT_FAIL, 1)] w0
def wApplying : State := { wVerifying 0 with str := { (wVerifying 0).str with applying := true, boot := true } }
def wReloading : State :=
  let s := fldsAre [(Reg.STR_STATE_STATE, 5)] w0
  { s with str := { s.str with reloading := true } }
def wDraining : State := { regsAre [(Reg.STR_GEN, 2)] (fldsAre [(Reg.STR_STATE_STATE, 6)] w0) with tblOld := [(5, 5)] }
/-- Unit 0, a CAN unit, runs and is to stop. -/
def wStop : State := fldsAre [(⟨Reg.STR_UNIT_STOP 0, 0, 1⟩, 1), (bstatRun (Reg.unitBase 0), 1)] w0
def wStopBusy : State := wStop.setCan 0 { wStop.canU 0 with onBus := some { mb := none, words := [] } }
def aHalf : StoreHalf := { seq := 1, schema := 0, fields := [{ addr := Reg.SIG_PERIOD, msb := 19, lsb := 0, value := 10 }] }
def wSaving : State := { w0 with str := { w0.str with saving := some aHalf } }


/-! ## regions, temperatures, links -/
def wRegion : State := fldsAre [(⟨Reg.STR_GEN, 0, 32⟩, 1), (⟨Reg.GEN_REGION_FLOOR, 0, 2⟩, 1), (Reg.GEN_REGION_IDLE_IDLE_HOLD, 1)] (atUs 1000 w0)
def wAsleep : State := { fldsAre [(⟨Reg.GEN_REGION_FLOOR, 0, 2⟩, 2), (⟨Reg.GEN_REGION_STEP, 0, 2⟩, 3)] w0 with waking := 257 }
def wAsleepFloor : State := { wAsleep with waking := 256 }
def wRegionHold : State :=
  let s := fldsAre [(⟨Reg.GEN_REGION_STEP, 0, 2⟩, 3), (⟨Reg.GEN_REGION_STEP, 2, 2⟩, 2)] w0
  let e := anEntry 1 0 0 9999 1
  s.setAct 0 { e with words := (e.words.set 8 1).set 9 2 }
def wWarn : State := regsAre [(Reg.GEN_TEMP_WARN, 1)] (atUs 1000 w0)
def wLink (state replays : Nat) : State :=
  let s := fldsAre [(⟨Reg.GEN_MORTAR_STATE, 0, 2⟩, state)] w0
  { s with dev := { s.dev with replays := [replays, 0, 0, 0] } }
def wLinkDown1 : State := fldsAre [(⟨Reg.GEN_MORTAR_STATE, 2, 2⟩, 2)] (wLink 0 9)

/-! ## the gateway -/
def anItem (r : Nat) : ChainItem :=
  { unit := some 0, gen := 0, payload := [1#8, 2#8], len := 2, time := 0, phases := [0, 0, 0, 0], filter := some r }
/-- Route 3 packs format 0, one byte of 8 bits from cell 5, for lane 0. -/
def wSecond (n : Nat) : State :=
  let s := wCell.setLane 0 { w0.lane 0 with tx := List.replicate n 0x10#32 }
  { s with
    sig := { s.sig with second := [(anItem 3, [3])] }
    tbl := [(tkey 0x04 devScope 0 0, 0x40000001), (tkey 0x04 devScope 1 0, 0x81C00005), (tkey 0x04 devScope 1 2, 1),
      (tkey 0x06 devScope 5 0, 0x10000000), (tkey 0x06 devScope 5 1, 0x40000),
      (tkey 0x07 devScope 3 0, 2), (tkey 0x07 devScope 3 2, 16)] }
/-- Route 3 is a PDU entry with HOLD_US 10. -/
def wPdu : State :=
  let s := { atUs 10 w0 with tbl := [(tkey 0x07 devScope 3 0, 7), (tkey 0x07 devScope 3 6, 10)] }
  (s.setPdu 3 { s.pdu 3 with records := [[1#8]], since := 0, seq := 65535 }).setEvRoute 3 { s.evRoute 3 with gapEnd := some 655360000 }
def wGap : State := { wPdu with tb := { wPdu.tb with local16 := 655359999 } }
/-- A CAN_RX policy with MAC_LEN 4 and FV_BITS 8 on slot 2. -/
def aPolicy : Tbl Word := [(tkey 0x0C devScope 1 0, w32 (4 + 2 * 8 + 4 * 512 + 8 * 16384)), (tkey 0x0C devScope 1 1, 0)]
/-- AES-CMAC of `macMsg` under the key of zeros. -/
def macMsg : List Byte := [0, 0, 1, 0x23, 0, 0, 0, 1, 0]
def macEx : List Byte := [61, 178, 110, 34, 210, 179, 41, 227, 32, 62, 198, 43, 61, 31, 155, 1]
def heldItem (mac : List Byte) : ChainItem :=
  { anItem 0 with
    payload := [0#8, 0#8] ++ mac
    can := some { ide := false, rtr := false, fdf := false, brs := false, esi := false, ident := 0x48C0000, dlc := 6, data := [0#8, 0#8] ++ mac } }
def aHeld (usable : Bool) (mac : List Byte) : HoldEntry :=
  { tgen := 0, policy := 1, slot := 2, gen := 0, key := List.replicate 16 0, usable := usable, units := 1, kind := .chain (heldItem mac) 0 }
def wHeld (e : HoldEntry) : State := { atUs 100 w0 with tbl := aPolicy, holdBuf := [e] }

/-! ## engines -/
def anInvoc (id : Nat) : Invoc :=
  { id := id, recipe := 1, batch := some 1, cell := 5, w1 := 0, w3 := 0, w4 := 0, gen := 0, time := 0, phases := [0, 0, 0, 0], spare := false }
def wInvoc : State :=
  let s := wCell.setEngine 0 { wCell.engine 0 with queue := [anInvoc 7, anInvoc 8] }
  { s with sig := { s.sig with batches := [{ id := 1, src := .other none, gen := 0, items := [.waits 7 5, .waits 8 5] }] } }
/-- w1 := w1 + 5; cell 6 := w1. -/
def aCode : List SeInstr := [.bin .add 1 1 (.imm 5), .cst (.imm 6) 1, .ret]
def wRetired : State := fldsAre [(⟨Reg.secBase 0, 0, 2⟩, 2), (⟨Reg.secBase 1, 0, 2⟩, 1)] w0


/-! ## CAN -/
/-- CAN unit 0 runs in NORMAL mode. -/
def wCan : State := fldsAre [(bstatRun (Reg.canBase 0), 1), (Reg.CFD_MODE_MODE 0, 1)] wVioOn
/-- A classic frame of base identifier `id` and `len` bytes; `more`: bits of word 1. -/
def mbWords (id len more : Nat) : List Word := [w32 (id * 2 ^ 18), w32 (len * 2 ^ 20 + more), 0, 0] ++ List.replicate 16 0x55#32
def wMbBuf (len more state : Nat) : State :=
  fldsAre [(Reg.CFD_MB_STAT_STATE 0 1, state)] (regsAre [(Reg.CFD_MB_BUF 0 0, 0x48C0000), (Reg.CFD_MB_BUF 0 1, len * 2 ^ 20 + more)] wCan)
def withMb (m id state more : Nat) (s : State) : State :=
  (fldsAre [(Reg.CFD_MB_STAT_STATE 0 m, state)] s).setMb 0 m { s.mb 0 m with words := mbWords id 8 more }
/-- Mailboxes in five states; 2 holds FD content, which cannot be sent. -/
def wMbs : State := withMb 0 1 1 0 (withMb 1 2 2 0 (withMb 2 3 8 (2 ^ 31) (withMb 63 4 8 0 wCan)))
def wMbOn : State :=
  let s := withMb 1 2 3 0 wMbs
  s.setCan 0 { s.canU 0 with onBus := some { mb := some 1, words := mbWords 2 8 0 } }
def wSof : State :=
  let s := withMb 1 0x10 2 0 (withMb 63 0x20 2 0 wCan)
  s.setCan 0 { s.canU 0 with gwq := [mbWords 0x18 8 0] }
def wOn (oneShot more tec : Nat) : State :=
  let s := regsAre [(Reg.CFD_ERRC 0, tec)] wCan
  let ws := mbWords (0x10 + oneShot * 2 ^ 12) 8 more
  (((fldsAre [(Reg.CFD_MB_STAT_STATE 0 1, 3)] s).setMb 0 1 { words := ws }).setCan 0 { s.canU 0 with
    onBus := some { mb := some 1, words := ws } })
def wErrc (state tec : Nat) : State := fldsAre [(Reg.CFD_ERRC_STATE 0, state), (Reg.CFD_ERRC_TEC 0, tec)] wCan
def wBoDelay (w : BoWait) : State :=
  let s := atUs 1000000 (fldsAre [(Reg.CFD_RECOV_DELAY_MS 0, 1000)] (wErrc 2 0))
  s.setCan 0 { s.canU 0 with boWait := w }
def aFrame : CanFrame := { ident := 0x48C0000, ide := false, fdf := false, brs := false, esi := false, rtr := false, dlc := 2, data := [1#8, 2#8] }
def wRx (n : Nat) : State :=
  let s := { wCan with tbl := [(tkey 0x11 0 4 0, 0x848C0000), (tkey 0x11 0 4 1, 0x1FFC0000), (tkey 0x11 0 4 2, 0x10000)] }
  s.setCan 0 { s.canU 0 with rxq := List.replicate n (List.replicate 20 0) }
def wRxNone : State := { wRx 0 with tbl := [] }
/-- A matrix. -/
def wMtx (x : MtxRun) (us : Nat) : State :=
  let s := { atUs us wCan with tbl := [(tkey 0x0A 0 0 0, 0xC0), (tkey 0x0A 0 0 1, 100)] }
  s.setCan 0 { s.canU 0 with mtx := x }
def mtxPending : MtxRun := { pending := true }
def mtxArmed : MtxRun := { pending := true, armed := true, takeDue := some 1000 }
def mtxCycle : MtxRun := { active := true, words := [(1, 100)], cycle := some 0 }
def mtxWindow : MtxRun := { mtxCycle with words := [(1, 100), (5, 10), (6, 1)] }
def mtxRef : MtxRun := { mtxCycle with words := [(0, 0x80), (1, 100)] }
/-- Policy 1, CAN_TX with mailbox 1 of unit 0, on slot 2, every 1 ms. -/
def wResync (valid : Nat) : State :=
  let s := fldsAre [(Reg.CPH_SLOT_STATE_STATE 2, valid)] (regsAre [(Reg.CPH_SLOT_LIMIT_LO 2, 100)] (atUs 1000 wCan))
  let t := { s with tbl := [(tkey 0x0C devScope 1 0, w32 (1 + 4 + 2 * 8 + 4 * 512)), (tkey 0x0C devScope 1 2, 0x448C0000),
    (tkey 0x0C devScope 1 4, 0x40000000), (tkey 0x0C devScope 1 5, w32 (1 + 65536))] }
  t.setSlot 2 { t.slot 2 with key := List.replicate 16 0 }


/-! ## serial lanes -/
def wLane (pers : Nat) (more : List (Fld × Nat)) (x : Lane) (ns : Nat) : State :=
  let s := fldsAre ([(bstatRun (Reg.laneBase 0), 1), (Reg.SLN_MODE_PERS 0, pers), (Reg.SLN_FMT_WIDTH 0, 8),
    (Reg.SLN_BAUD_BAUD_DIV 0, 1600)] ++ more) wVioOn
  { s.setLane 0 x with tb := { s.tb with local16 := ns * 65536 } }
def wUart (n : Nat) : State := wLane 0 [] { rx := List.replicate n 5#32 } 0
def wFramed : State := wLane 3 [(Reg.SLN_MODE_FRAMED 0, 1), (Reg.SLN_FRAME_MAX_LEN 0, 2)] { buf := [5#32] } 0
/-- IDLE_BITS = 20 of 100 bits of 625 ns, and half a stop bit, since the last character. -/
def wIdle (ns : Nat) : State :=
  wLane 0 [(Reg.SLN_MODE_FRAMED 0, 1), (Reg.SLN_BAUD_BAUD_DIV 0, 16)] { buf := [5#32], lastChar16 := some 0, idleDone := false } ns
def wCustom : State :=
  { wLane 7 [(Reg.SLN_IDLE_FRAME_TMO 0, 1), (Reg.SLN_SM_STATE_STATE 0, 1)] {} 1000 with
    tbl := [(tkey 0x03 16 (16 + 14) 0, w32 (5 * 2 ^ 26))] }
def wTx (n : Nat) (more : List (Fld × Nat)) : State := wLane 0 more { tx := List.replicate n 0x10000041#32 } 0
def wTxMore : State := wLane 0 [] { tx := [0x41#32, 0x42#32], line := some 0x40#32 } 0
def wDe : State := wLane 3 [(Reg.SLN_DE_DE_LAG 0, 1)] { sending := true, lag16 := some 0 } 100
def wLinCmd : State :=
  { wLane 1 [(Reg.SLN_LIN_CTRL_RUN 0, 1)] { slotDue16 := some 64 } 1 with
    tbl := [(tkey 0x03 16 1152 0, w32 (0x3C + 128 + 5 * 256))] }
def linTbl (dir : Nat) : Tbl Word := [(tkey 0x03 16 (1088 + 1) 0, w32 (dir + 8 * 2))]
def wLinResp : State := { wLane 2 [] {} 0 with tbl := linTbl 1 }
def linOpen : LinFrame := { ident := 1, at16 := 0, div := 1600 }
def wLinOpen (ns : Nat) : State := { wLane 2 [] { lin := some linOpen } ns with tbl := linTbl 1 }
def wSpi (pers : Nat) (tx : List Word) : State := wLane pers [] { tx := tx } 0
def wSent : State := wLane 6 [(Reg.SLN_SENT_TICK 0, 30), (Reg.SLN_SENT_NIBBLES 0, 3)] {} 0

/-! ## discrete banks -/
def wBank (more : List (Fld × Nat)) : State := fldsAre ([(bstatRun (Reg.bankBase 0), 1)] ++ more) (atUs 1 wVioOn)
def wEdge : State := wBank [(Reg.DSC_EDGE_CFG_RISE_EN 0, 0x81), (Reg.DSC_EDGE_CFG_FALL_EN 0, 0x81)]
/-- Outputs 0 and 7 follow bit 3 of cell 5. -/
def wFromCell (word : Nat) : State :=
  let s := wBank [(Reg.DSC_DIR_DIR 0, 0x81), (Reg.DSC_OUT_MODE_FROM_CELL 0, 0x81), (Reg.DSC_SRC_CELL 0 0, 5), (Reg.DSC_SRC_BIT 0 0, 3)]
  { s with tbl := wCell.tbl
           cells := [(5, { vers := [{ slot := 0, tag := 0, word := BitVec.ofNat 64 word, isBase := false }] })]
           sig := { s.sig with refresh := [Reg.bankUnit 0] } }


/-! ## the switch -/
def macs : List Byte := [2, 0, 0, 0, 0, 1, 2, 0, 0, 0, 0, 2]
/-- A frame of `n` bytes without its FCS. -/
def ethOf (n : Nat) : EthFrame := { bytes := macs ++ [8, 0] ++ List.replicate (n - 14) 0x5A#8 }
def aQ (fid : Nat) : QFrame := { fid := fid, bytes := (ethOf 60).bytes, at16 := 0, src := 16 }
/-- The switch runs, and ports 16 and 17 are open. -/
def wSw : State :=
  fldsAre [(Reg.SWC_BSTAT_RUN, 1), (Reg.SWC_P_STATUS_LINK 16, 1), (Reg.SWC_P_STATUS_LINK 17, 1),
    (Reg.SWC_P_STATUS_SPEED 16, 3), (Reg.SWC_P_STATUS_SPEED 17, 3)] (atUs 100 wVioOn)
/-- Entry 0 sends frames to `macs` to port 17, through queue 3. -/
def wFwd : State :=
  { fldsAre [(Reg.SWC_Q_LIMITS_HARD_LIMIT 17 3, 1)] wSw with
    tbl := [(tkey 0x0F devScope 0 0, 2), (tkey 0x0F devScope 0 1, w32 (0x0100 + 2 ^ 28)),
      (tkey 0x0F devScope 0 2, w32 (2 ^ 31 + 2 ^ 27 + 3 * 2 ^ 24 + 2 ^ 17))] }
def wFwdFull : State := { wFwd.setQueue 17 3 { wFwd.queue 17 3 with frames := [aQ 1] } with nextId := 5 }
def wCut : State := fldsAre [(Reg.SWC_P_CT_CT_EGRESS 16, 2 ^ 17)] wFwd
/-- Frames wait at port 17. -/
def wQueues (qs : List (Nat × Nat)) : State :=
  qs.foldl (fun (t : State) x => t.setQueue 17 x.1 { t.queue 17 x.1 with frames := [aQ (x.1 + 1)], fin := x.2 }) wSw
def wCbs (credit : Int) : State :=
  let s := fldsAre [(Reg.SWC_Q_CFG_CBS_EN 17 3, 1)] (regsAre [(Reg.SWC_Q_IDLESLOPE 17 3, 1)] wSw)
  s.setQueue 17 3 { s.queue 17 3 with frames := [aQ 1], credit := credit, creditAt16 := 0 }
def aSending (cut : Bool) (end16 : Nat) : Sending := { q := 3, frame := aQ 1, start16 := 0, end16 := some end16, cut := cut }
def wSending (cut : Bool) (end16 : Nat) : State := wSw.setPort 17 { wSw.port 17 with sending := some (aSending cut end16) }
def wMac (more : List (Fld × Nat)) : State := fldsAre ([(bstatRun (Reg.macBase 0), 1), (Reg.EMC_MODE_MODE 0, 1)] ++ more) wSw
def wLpi : State := fldsAre [(Reg.EMC_EEE_IDLE 0, 100)] (wMac [(Reg.EMC_MODE_EEE_EN 0, 1), (Reg.EMC_LINK_UP 0, 1)])
def wLpiTx : State :=
  let s := wMac [(Reg.EMC_LINK_UP 0, 1), (Reg.EMC_LINK_LPI_TX 0, 1), (Reg.SWC_P_STATUS_LPI 0, 1)]
  s.setPort 0 { s.port 0 with wake16 := some 64 }
def wList (x : ListRun) : State := { wSw.setPort 0 { wSw.port 0 with list := x } with
  tbl := [(tkey 0x0B devScope 0 0, 2), (tkey 0x0B devScope 0 1, 10000), (tkey 0x0B devScope 1 0, 0x0F), (tkey 0x0B devScope 1 1, 5000)] }
def wListAction : State := { wList { pending := true } with tbl := [(tkey 0x0B devScope 0 0, 0x202)] }
def listTwo (end16 : Nat) : ListRun :=
  { active := true, words := [(0, 2), (1, 200000), (4, 0x0F), (5, 100000), (8, 0xF0), (9, 100000)], entry := 0, end16 := some end16 }

def aTake : Takeover := { due := 0, late := false, words := [(0, 2), (1, 10000), (4, 0x0F), (5, 5000)] }

/-! ## the ring -/
def wRing (more : List (Fld × Nat)) : State :=
  fldsAre ([(Reg.RNG_BSTAT_RUN, 1), (Reg.RNG_CFG_EN, 1)] ++ more) wSw
def wRingUp : State := wRing [(Reg.RNG_STATE_LINK_A, 1)]
def ringOf (src cls hops seq : Nat) : EthFrame :=
  { bytes := macs ++ beBytes 2 0x88B5 ++ beBytes 4 (src * 2 ^ 26 + cls * 2 ^ 22 + hops * 2 ^ 16 + seq) ++ [8, 0] ++ List.replicate 40 0#8 }
def wRingWin (seen last : Nat) : State :=
  { wRingUp with ringWins := [(5, { active := true, hi := 7, seen := seen, last16 := last })], tb := { wRingUp.tb with local16 := 10000 * 65536000 } }
def wQuiet : State := { wRingUp with ring := { wRingUp.ring with quiet16 := some 6553600000 } }
/-- Frames pass on to the other side cut-through. -/
def wRingCut : State :=
  fldsAre [(Reg.RNG_STATE_LINK_B, 1), (Reg.SWC_P_STATUS_LINK 20, 1), (Reg.SWC_P_STATUS_LINK 21, 1), (Reg.SWC_P_STATUS_SPEED 20, 5),
    (Reg.SWC_P_STATUS_SPEED 21, 5), (Reg.SWC_P_CT_CT_EGRESS 20, 2 ^ 21)] wRingUp
def wOpen : State := { wRingUp with ring := { wRingUp.ring with quietOver := true, seq := 65535 } }
def wReplace : State := fldsAre [(Reg.HLT_STATUS_REPLACE, 1)] wOpen
def wRt (gm : Nat) : State :=
  let s := atUs 375 (wRing [(Reg.RNG_STATE_LINK_A, 1), (Reg.RNG_STATE_LINK_B, 1), (Reg.RNG_CFG_RT_EN, 1), (Reg.TMB_BSTAT_RUN, 1),
    (Reg.TMB_GPTP_CTRL_MODE, 2), (Reg.RNG_STATE_GM_SELF, gm)])
  { s with ring := { s.ring with chains := [some { steps := 1, offset := 0, last16 := 0 }, some { steps := 1, offset := 0, last16 := 64 }] } }


/-! ## pages -/
/-- A byte of the option block. -/
def opt (off v : Nat) (s : State) : State := { s with mem := Tbl.set memDefault s.mem (0x191000 + off) (BitVec.ofNat 8 v) }
/-- Page 0 has the primary path `a` and the secondary path `b`, with these of them up and this one active. -/
def wPaths (a b up act : Nat) : State :=
  fldsAre [(Reg.PG_PATH_STATUS_PRI_UP 0, up % 2), (Reg.PG_PATH_STATUS_SEC_UP 0, up / 2), (Reg.PG_PATH_ACTIVE 0, act),
    (Reg.PG_HB_HB_MS 0, 1)] (opt 0xC (a + 16 * b) (atUs 1000 w0))
def anOp (path : Nat) : HostOp := { id := 1, path := path, frame := none, addr := 0, data := [0], left := 1, status := 0 }
def withOps (l : List HostOp) (s : State) : State := s.setPage 0 { s.page 0 with outstanding := l }
def wRegs : State := regsAre [(Reg.PG_SCRATCH 0 0, 5), (Reg.PG_SCRATCH 0 7, 7), (Reg.TMB_PPS_SEC_LO, 9), (Reg.TMB_PPS_SEC_HI, 8),
  (Reg.RNG_FLAGS, 0x3F), (Reg.RNG_CFG, 0xFFFFFFFF), (Reg.SIG_PERIOD, 0xFFFFFFFF)] w0
def wHeldHi : State := { wRegs with hold := [(0, { src := some Reg.TMB_PPS_SEC_LO, hi := 3 })] }
def wEq (n : Nat) : State := { w0 with eqs := (if n = 0 then [] else [(1, { entries := List.replicate n 5#64 })]) }
def wStamps : State := w0.setPort 16 { w0.port 16 with stamps := [{ word := 5, time := 9 }] }
def wRxq : State := (wRx 2)
def wLaneRx : State := atUs 1 (wUart 3)
def wPinnedRead : State := regsAre [(Reg.SIG_EPOCH, 2), (Reg.PSG_PIN_EPOCH 0, 1)] (fldsAre [(Reg.PSG_PIN_STATUS_PINNED 0, 1)] (wFromCell 0x8000000000))
def wBlocks : State := fldsAre [(Reg.RNG_BSTAT_RUN, 1), (Reg.SIG_BSTAT_RUN, 1)] wRegs
def pf (ver op addr len : Nat) (data : List Byte) : PageFrame :=
  { ver := BitVec.ofNat 4 ver, op := BitVec.ofNat 4 op, page := 0, tag := 77, addr := w32 addr, len := BitVec.ofNat 16 len, data := data, src := 9 }
/-- The ring is OPEN, and path 3 goes over it. -/
def wRingPath (s : State) : State := fldsAre [(Reg.RNG_BSTAT_RUN, 1), (Reg.RNG_CFG_EN, 1), (Reg.RNG_STATE_RING, 1), (Reg.RNG_STATE_LINK_A, 1)] s
def pathM (l : List HostOp) : State := withOps l (regsAre [(Reg.PG_SCRATCH 0 0, 5), (Reg.PG_SCRATCH 0 7, 7)] (wRingPath (wPaths 3 4 3 3)))
def wBusyOps : State := pathM (List.replicate 32 (anOp 3))
def wEvt (n : Nat) (mask : Nat) : State :=
  { w0 with eqs := (if n = 0 then [] else [(0, { entries := List.replicate n 5#64 }), (1, { entries := List.replicate n 5#64 })])
            tbl := [(tkey 0x0D devScope 0x21 0, w32 mask)] }


/-! ## the bridge -/
def wBridge (more : List (Fld × Nat)) : State :=
  fldsAre ([(Reg.LBB_BSTAT_RUN, 1), (Reg.LBB_CTRL_EN, 1), (Reg.LBB_W_CFG_EN 0, 1), (Reg.LBB_W_CFG_PAGES 0, 1),
    (Reg.LBB_W_BASE_BASE 0, 2)] ++ more) (atUs 10000 w0)
def acc (kind : FarKind) : FarAcc := { page := 0, kind := kind, op := some 1, win := 0, far := 0x200004, order := true, prefetch := false, data := 0x11223344, operand := 0xFF, compare := 0xF }
def wAcc (kind : FarKind) (ph : BusPhase) : State :=
  let s := withOps [anOp 1] (wBridge [(Reg.PG_LRMW_STATUS_BUSY 0, 1), (Reg.LBB_STATUS_BUS_OWNED, 1)])
  { s with bridge := { s.bridge with cur := some (acc kind), phase := ph } }
def wGo (atomic : Nat) : State := wBridge [(Reg.LBB_W_CFG_ATOMIC_EN 0, atomic)]
def wLine (returned us : Nat) : State :=
  let s := atUs us (wBridge [(Reg.LBB_W_TIMING_PF_TMO 0, 10)])
  { s with bridge := { s.bridge with lines := [(0, some { far := 0x200000, words := List.replicate 16 0, returned := returned, at16 := 0 })] } }
def wBackoff (n : Nat) : State := { w0 with bridge := { w0.bridge with phase := .backoff n } }
def wInbound (ph : BusPhase) : State :=
  let s := wBridge [(Reg.LBB_CTRL_IN_EN, 1), (Reg.LBB_INT_CFG_EN, 0x8001), (Reg.LBB_INT_CFG_POL, 0x8000)]
  { s with bridge := { s.bridge with phase := ph } }

/-! ## keys -/
def wKey (state items gen : Nat) : State :=
  let s := fldsAre [(Reg.CPH_SLOT_STATE_STATE 2, state), (Reg.CPH_SLOT_STATE_GEN 2, gen)] (regsAre [(Reg.CPH_KEY_DATA 0, 5), (Reg.CPH_KEY_FIXED, 6)] w0)
  s.setSlot 2 { s.slot 2 with key := [1#8], items := items }
def wKeyDrain : State := fldsAre [(Reg.CPH_SLOT_STATE_DRAINING 2, 1)] (wKey 1 1 7)
def wKeyOld : State :=
  let s := fldsAre [(Reg.CPH_SLOT_STATE_DRAINING 2, 1)] (wKey 1 0 7)
  s.setSlot 2 { s.slot 2 with old := some ([9#8], 6) }
def wKeyCount (n : Nat) : State := regsAre [(Reg.CPH_SLOT_LIMIT_LO 2, 10), (Reg.CPH_SLOT_CNT_LO 2, n)] (wKey 1 0 7)

/-! ## job rings -/
def aDesc (mode slot : Nat) : List Word := [w32 (mode + 4 * 256 + slot * 65536), 3] ++ List.replicate 14 0
def wJobs (slot prod : Nat) : State :=
  fldsAre [(Reg.CPH_BSTAT_RUN, 1), (Reg.PG_PATH_ACTIVE 0, 1), (Reg.PCJ_STATUS_STATE 0 0, 1), (Reg.PCJ_PROD_INDEX 0 0, prod)]
    (regsAre [(Reg.CPH_GRANT_LO 0, 2 ^ slot), (Reg.CPH_SLOT_LIMIT_LO 2, 10)] (wKey 1 0 7))
def aJob (status : Nat) : Job := { index := 0, desc := aDesc 4 2, status := status, gen := 7, key := List.replicate 16 0, fixed := 0, count := 0 }
def wJob (status : Nat) : State :=
  let s := fldsAre [(Reg.PCJ_STATUS_STATE 0 0, 2), (Reg.PCJ_CTRL_EN 0 0, 1)] (wJobs 2 0)
  s.setJring 0 0 { s.jring 0 0 with job := some (aJob status) }

/-! ## update -/
def wPiece (idx n res slotState : Nat) (good : Bool) : State :=
  let s := fldsAre [(Reg.UPD_PIECE_IDX_IDX, idx), (Reg.UPD_PIECE_LEN_LEN, n), (Reg.UPD_PIECE_STATUS_RESULT, res), (Reg.UPD_CTRL_SLOT, 2),
    (Reg.UPD_PIECES_TOTAL, 2), (Reg.UPD_STATE_STATE, 1)] (regsAre [(Reg.UPD_BUNDLE_ID, 0x123)] (wKey slotState 0 7))
  let s := s.setSlot 2 { s.slot 2 with key := List.replicate 16 0 }
  let s := { s with upd := { s.upd with stored := [0] } }
  if good then regsAre ((List.range 4).map fun k => (Reg.UPD_PIECE_MAC k, leNat ((macEx.drop (4 * k)).take 4))) s else s
def wStoring (total : Nat) : State :=
  let s := fldsAre [(Reg.UPD_PIECES_TOTAL, total), (Reg.UPD_STATE_STATE, 1)] w0
  { s with upd := { s.upd with stored := [0], storing := some (1, [1#8, 2#8]) } }
/-- A stored bundle: firmware of one byte, and the smallest image. -/
def aManifest : List Byte :=
  le 4 0x42554A58 ++ le 2 1 ++ le 2 0 ++ le 4 (w0.rd Reg.GEN_HWTYPE).toNat ++ le 4 0 ++ le 4 0x2480 ++ le 4 0x1000 ++ le 4 1 ++ le 4 0x2000
    ++ le 4 0x480 ++ le 4 0 ++ [3#8, 0#8] ++ le 2 0 ++ le 4 1
    ++ beBytes 48 0x43950796D9883503655E35B5190AEE687A2DD99F265012625B95753978E4EFFF3E8414D178A6E2318480D8EB6DDEE643
    ++ beBytes 48 0x3EB1A71D885DE66B8828FB098A2C0E09C9C352A40C75B28F002CF09274215DF532799870AF08BB87885C802EF175C8AE
/-- The flash below the image of the bundle. -/
def bundleFlash : Tbl Byte :=
  Tbl.setList flashDefault [(0, 5#8), (0x900000, 6#8), (0x1200000, 7#8)] 0x1401000 aManifest
/-- Another byte stands where the firmware should. -/
def bundleFlashBad : Tbl Byte := Tbl.set flashDefault bundleFlash 0x1402000 0x5A
def wUpd (state : Nat) (more : List (Fld × Nat)) : State :=
  let s := fldsAre ([(Reg.UPD_STATE_STATE, state)] ++ more) (wKeyed w0)
  { s with flash := Tbl.setList flashDefault bundleFlash 0x1403000 smallImage
           upd := { s.upd with stored := [0, 1] }
           stores := [aHalf] }
def wUpdBad : State := { wUpd 2 [] with flash := Tbl.setList flashDefault bundleFlashBad 0x1403000 smallImage }
def wArming : State :=
  let s := wUpd 5 [(Reg.STR_STATE_STATE, 3)]
  { s with str := { s.str with forUpdate := true } }

/-! ## health and resets -/
def wProgram (k : Nat) : State := { w0 with hlt := { w0.hlt with program := some (k, List.replicate 1024 0, false) } }
/-- The newest copy locks its keys. -/
def wLocked : State := { w0 with opts := [(0, 0x58), (1, 0x4A), (2, 0x4F), (3, 0x50), (0x25, 1), (1020, 141), (1021, 59), (1022, 80), (1023, 197)] }
/-- Both copies are invalid. -/
def wNoCopy : State := { w0 with opts := [] }
def wSpared (u : Nat) : State := { w0 with spared := 2 ^ u }
def wReturn (u : Nat) : State := { wSpared u with hlt := { w0.hlt with toReturn := [u] } }
def wTesting (id n : Nat) : State :=
  { atUs 86400000000 w0 with hlt := { w0.hlt with testing := [(id, 3)], history := List.replicate n (id, (0 : Int)) ++ [(id, 1)] } }
def wDown (por : Bool) : State := { w0 with dev := { w0.dev with held := true, por := por, resetN := false } }
def wVio : State := fldsAre [(⟨Reg.GEN_VIO_STATE, 0, 1⟩, 1), (⟨Reg.GEN_VIO_STATE, 15, 1⟩, 1)] w0

/-! ## Helpers -/
theorem allSome {α : Type} {o : Option α} {P : α → Prop} [DecidablePred P] (h : (o.all fun a => decide (P a)) = true) :
    ∀ a, o = some a → P a := by
  rintro a rfl; simpa using h

theorem allSome_allSome {α β : Type} {o : Option α} {q : Option β} {P : β → Prop} [DecidablePred P]
    (h : (q.all fun b => decide (P b)) = true) : ∀ (a : α) (b : β), o = some a → q = some b → P b := by
  rintro _ b - rfl; simpa using h
/-- No port is sending. -/
theorem quietPorts {s : State} (h : ∀ e : PortNo, (s.port e).sending = none) :
    ∀ (e : PortNo) (x : Sending) (l : Nat), (s.port e).sending = some x → x.end16 = some l → s.tb.local16 < l := by
  intro e x l hx; simp [h e] at hx
theorem slave_of {s : State} {a : Announce} (hx : s.flag Reg.TMB_GPTP_CTRL_EXT_PORT_CFG = false)
    (hp : (List.range 22).filter s.gptpPort = [0]) (ha : s.annLive 0 = some a) (hk : a.key = 0) : s.slavePort = some 0 := by
  have h : a.key < s.ownKey := by rw [hk, State.ownKey, masterKey]; omega
  simp [State.slavePort, hx, hp, ha, h]

theorem test_aes_zero : aes zeroBlock zeroBlock =
    [0x66, 0xE9, 0x4B, 0xD4, 0xEF, 0x8A, 0x2C, 0x3B, 0x88, 0x4C, 0xFA, 0x59, 0xCA, 0x34, 0x2B, 0x2E] := by decide +kernel
theorem cmac_ex : cmac zeroBlock macMsg = macEx := by
  unfold cmac
  rw [test_aes_zero]
  decide +kernel
theorem verdict_ok {s : State} {e : HoldEntry} {item : ChainItem} {r c : Nat} {id : Nat × Bool} (hu : e.usable = true)
    (hk : e.kind = .chain item r) (hi : item.canId = id) (key : e.key = zeroBlock)
    (h0 : ¬ item.payload.length < 1 + s.polMac e.tgen e.policy)
    (hc : freshCandidate ((if s.slotGen e.slot = e.gen then s.pol e.policy else {}) : PolState).fv
      (byteAt item.payload (item.payload.length - 1 - s.polMac e.tgen e.policy)) (s.polBits e.tgen e.policy) = c)
    (hm : item.payload.drop (item.payload.length - 1 - s.polMac e.tgen e.policy + 1) = macEx.take (s.polMac e.tgen e.policy))
    (h : canMacInput id.1 id.2 (item.payload.take (item.payload.length - 1 - s.polMac e.tgen e.policy)) c = macMsg) :
    s.verdict e = .ok c := by
  subst hi
  simp only [State.verdict, hu, hk, verifyCan, h0, key, hc, hm, h, cmac_ex, if_true, if_false, Bool.not_true, Bool.false_eq_true]
theorem piece_ok {s : State} {idx : Nat} {data : List Byte} (hk : (s.slot (s.fld Reg.UPD_CTRL_SLOT)).key = zeroBlock)
    (h : beBytes 4 (s.rd Reg.UPD_BUNDLE_ID).toNat ++ beBytes 4 idx ++ data = macMsg) :
    s.pieceMac (s.rd Reg.UPD_BUNDLE_ID).toNat idx data = macEx := by rw [State.pieceMac, hk, h, cmac_ex]

/-! ### Bytes written into flash are read back -/
theorem getList_setList_above (t : Tbl Byte) (k j n : Nat) (vs : List Byte) (h : k + n ≤ j) :
    Tbl.getList flashDefault (Tbl.setList flashDefault t j vs) k n = Tbl.getList flashDefault t k n := by
  induction n generalizing k with
  | zero => rfl
  | succ n ih => rw [Tbl.getList, Tbl.getList, ih (k + 1) (by omega), Tbl.get_setList_lt flashDefault t j k vs (by omega)]
theorem getList_setList_self (t : Tbl Byte) (k : Nat) (vs : List Byte) :
    Tbl.getList flashDefault (Tbl.setList flashDefault t k vs) k vs.length = vs := by
  induction vs generalizing t k with
  | nil => rfl
  | cons v vs ih =>
    rw [List.length_cons, Tbl.getList, Tbl.setList, ih, Tbl.get_setList_lt flashDefault _ (k + 1) k vs (by omega), Tbl.get_set_same]
theorem wUpd_flash (n : Nat) (more : List (Fld × Nat)) :
    (wUpd n more).flash = Tbl.setList flashDefault bundleFlash 0x1403000 smallImage := by dsimp only [wUpd]
theorem stored_bundle {s : State} {t : Tbl Byte} (hf : s.flash = Tbl.setList flashDefault t 0x1403000 smallImage)
    (ho : mfImgOff (Tbl.getList flashDefault t 0x1401000 4096) = 0x2000)
    (hn : mfImgLen (Tbl.getList flashDefault t 0x1401000 4096) = smallImage.length) :
    s.manifest = Tbl.getList flashDefault t 0x1401000 4096 ∧ s.bundleImage = smallImage ∧
      s.bundle 0x1000 1 = Tbl.getList flashDefault t 0x1402000 1 := by
  have h1 : s.manifest = Tbl.getList flashDefault t 0x1401000 4096 := by
    rw [State.manifest, State.bundle, State.flashBytes, hf]; exact getList_setList_above t 0x1401000 0x1403000 4096 smallImage (by norm_num)
  refine ⟨h1, ?_, ?_⟩
  · rw [State.bundleImage, State.bundle, State.flashBytes, h1, ho, hn, hf]; exact getList_setList_self _ _ _
  · rw [State.bundle, State.flashBytes, hf]; exact getList_setList_above t 0x1402000 0x1403000 1 smallImage (by norm_num)
/-- What FW_HASH and IMG_HASH are compared with. -/
theorem hashes_eq {s : State} {m bs fw : List Byte} (hs : s.manifest = m ∧ s.bundleImage = bs ∧ s.bundle 0x1000 1 = fw)
    (ho : mfFwOff m = 0x1000) (hl : mfFwLen m = 1) :
    s.hashesOk = (sha384 fw == (m.drop 0x30).take 48 && sha384 bs == (m.drop 0x60).take 48) := by
  rw [State.hashesOk, State.fwHashOk, State.imgHashOk, hs.1, ho, hl, hs.2.1, hs.2.2]
theorem wUpd_stored (n : Nat) (more : List (Fld × Nat)) :
    (wUpd n more).manifest = Tbl.getList flashDefault bundleFlash 0x1401000 4096 ∧ (wUpd n more).bundleImage = smallImage ∧
      (wUpd n more).bundle 0x1000 1 = Tbl.getList flashDefault bundleFlash 0x1402000 1 :=
  stored_bundle (wUpd_flash n more) (by decide +kernel) (by decide +kernel)
theorem wUpd_hashesOk : (wUpd 2 []).hashesOk = true :=
  (hashes_eq (wUpd_stored 2 []) (by decide +kernel) (by decide +kernel)).trans (by decide +kernel)
theorem wUpd_imageOk : (wUpd 2 []).bundleImageErr = 0 := by
  rw [State.bundleImageErr, (wUpd_stored 2 []).1, (wUpd_stored 2 []).2.1]; decide +kernel
theorem wUpd_rollback : (3#8).toNat = mfRollback (wUpd 2 []).manifest := by rw [(wUpd_stored 2 []).1]; decide +kernel
theorem wUpdBad_stored : wUpdBad.manifest = Tbl.getList flashDefault bundleFlashBad 0x1401000 4096 ∧
    wUpdBad.bundleImage = smallImage ∧ wUpdBad.bundle 0x1000 1 = Tbl.getList flashDefault bundleFlashBad 0x1402000 1 :=
  stored_bundle (by dsimp only [wUpdBad]) (by decide +kernel) (by decide +kernel)
theorem wUpdBad_hashes : wUpdBad.hashesOk = false :=
  (hashes_eq wUpdBad_stored (by decide +kernel) (by decide +kernel)).trans (by decide +kernel)

/-! ## Well-formed and ill-formed commands -/
theorem test_wf_registerWrite : wellFormed (.registerWrite 0 0x40 1) = true ∧ wellFormed (.registerWrite 0 0x41 1) = false := by decide
theorem test_wf_lowWordRead : wellFormed (.lowWordRead 0 0x40) = true ∧ wellFormed (.lowWordRead 0 0x42) = false := by decide
theorem test_wf_rcRead : wellFormed (.rcRead 0 0x40) = true ∧ wellFormed (.rcRead 0 0x43) = false := by decide
theorem test_wf_regionStepDown : wellFormed (.regionStepDown 0 100) = true ∧ wellFormed (.regionStepDown 0 101) = false := by decide
theorem test_wf_bootFirmwareCheck :
    wellFormed (.bootFirmwareCheck ⟨true, 255, 0⟩ ⟨true, 0, 0⟩) = true ∧
    wellFormed (.bootFirmwareCheck ⟨true, 256, 0⟩ ⟨true, 0, 0⟩) = false := by decide
theorem test_wf_gptpMessage :
    wellFormed (.gptpMessage 0 ⟨⟨macs⟩, none⟩) = true ∧ wellFormed (.gptpMessage 0 ⟨⟨[]⟩, none⟩) = false := by decide
theorem test_wf_loadWindow : wellFormed (.loadWindow 0 100) = true ∧ wellFormed (.loadWindow 0 101) = false := by decide
/-- A base identifier stands in bits 28 to 18. -/
theorem test_wf_can_base :
    wellFormed (.canFrameReceived 0 aFrame 0) = true ∧ wellFormed (.canFrameReceived 0 { aFrame with ident := 1 } 0) = false := by decide
theorem test_wf_can_remote :
    wellFormed (.canFrameReceived 0 { aFrame with rtr := true, data := [] } 0) = true ∧
    wellFormed (.canFrameReceived 0 { aFrame with rtr := true, fdf := true, data := [] } 0) = false := by decide
theorem test_wf_can_brs :
    wellFormed (.canFrameReceived 0 { aFrame with fdf := true, brs := true } 0) = true ∧
    wellFormed (.canFrameReceived 0 { aFrame with brs := true } 0) = false := by decide
/-- DLC 9 says 12 bytes in an FD frame, and 8 in a classic one. -/
theorem test_wf_can_dlc :
    wellFormed (.canFrameReceived 0 { aFrame with fdf := true, dlc := 9, data := List.replicate 12 0 } 0) = true ∧
    wellFormed (.canFrameReceived 0 { aFrame with dlc := 9, data := List.replicate 12 0 } 0) = false := by decide
theorem test_wf_linResponse :
    wellFormed (.linResponseReceived 0 (List.replicate 8 0) 0) = true ∧ wellFormed (.linResponseReceived 0 (List.replicate 9 0) 0) = false ∧
    wellFormed (.linResponseReceived 0 [] 0) = false := by decide
theorem test_wf_sentMessage :
    wellFormed (.sentMessage 0 ⟨3000, [12, 27]⟩) = true ∧ wellFormed (.sentMessage 0 ⟨0, [12, 27]⟩) = false ∧
    wellFormed (.sentMessage 0 ⟨3000, List.replicate 10 12⟩) = false := by decide
theorem test_wf_ethFrame :
    wellFormed (.ethFrameReceived 0 ⟨[1]⟩ ⟨true, true⟩) = true ∧ wellFormed (.ethFrameReceived 0 ⟨[]⟩ ⟨true, true⟩) = false := by decide
theorem test_wf_forwardingDecision :
    wellFormed (.forwardingDecision 0 (ethOf 64)) = true ∧ wellFormed (.forwardingDecision 0 (ethOf 63)) = false := by decide
theorem test_wf_ethLink :
    wellFormed (.ethLink 0 true 1 false) = true ∧ wellFormed (.ethLink 0 true 0 false) = false := by decide
theorem test_wf_ringFrame :
    wellFormed (.ringFrameReceived 0 (ethOf 60) true) = true ∧ wellFormed (.ringFrameReceived 0 ⟨[]⟩ true) = false := by decide
/-- A page access frame comes over one of the Ethernet paths 3 to 7. -/
theorem test_wf_pageFrame_path : ∀ c ∈ [Instr.read, .write, .writeAck, .fetchAdd, .swap, .cas, .probe],
    wellFormed (c 3 (pf 1 1 0x40 4 [])) = true ∧ wellFormed (c 2 (pf 1 1 0x40 4 [])) = false := by decide
theorem test_wf_pageFrame_data : ∀ c ∈ [Instr.read, .write, .writeAck, .fetchAdd, .swap, .cas, .probe],
    wellFormed (c 3 (pf 1 1 0x40 4 (List.replicate 1485 0))) = false := by decide +kernel
theorem test_wf_pcieAtomicop :
    wellFormed (.pcieAtomicop 0 1 0x48 .swap .w64 0 0) = true ∧ wellFormed (.pcieAtomicop 0 1 0x44 .swap .w64 0 0) = false := by decide
theorem test_wf_bridge :
    wellFormed (.bridgeWrite 0 4 15 0) = true ∧ wellFormed (.bridgeWrite 0 2 15 0) = false ∧
    wellFormed (.bridgeRead 0 4 15) = true ∧ wellFormed (.bridgeRead 0 2 15) = false := by decide
theorem test_wf_farCycleEnd :
    wellFormed (.farCycleEnd (List.replicate 16 0)) = true ∧ wellFormed (.farCycleEnd (List.replicate 17 0)) = false := by decide
theorem test_wf_jobStart :
    wellFormed (.jobStart 0 0 (aDesc 4 2)) = true ∧ wellFormed (.jobStart 0 0 []) = false := by decide

/-! ## Tables and functions with values from the manual and the standards -/
/-- Reset values of the register tables. -/
theorem test_reset_values :
    ([(Reg.GEN_MORTAR_STATE, 0x55), (Reg.TMB_SLEW, 500), (Reg.TMB_STEP_THRESH, 1000), (Reg.TMB_PPSO_WIDTH, 100000),
      (Reg.GEN_TEMP_WARN, 0x8C0), (Reg.STR_PIECE_LEN, 4096)] : List (Nat × Nat)).all
      (fun x => w0.rd x.1 = w32 x.2) = true := by decide +kernel
/-- CRC-32 of "123456789" (the check value of the polynomial). -/
theorem test_crc32 : crc32 [0x31, 0x32, 0x33, 0x34, 0x35, 0x36, 0x37, 0x38, 0x39] = 0xCBF43926 := by decide +kernel
/-- Protected identifiers of the LIN standard. -/
theorem test_linPid : [0, 1, 0x3C, 0x3D].map linPid = [0x80, 0xC1, 0x3C, 0x7D] := by decide
/-- The recommended CRC of six nibbles of 0 (SAE J2716). -/
theorem test_sentCrc : sentCrc false [0, 0, 0, 0, 0, 0] = 5 := by decide +kernel

/-! ## Commands, each on a small state -/
/-- The next state of a command has this property. -/
def after (c : Instr) (s : State) (P : State → Bool) : Bool :=
  match exec c s with
  | .next t => P t
  | _ => false

/-- PG_SCRATCH7 stands at 0x5C of the own window (Table 11.5); the other scratch registers keep their values. -/
theorem test_registerWrite_scratch :
    after (.registerWrite 0 0x5C 9) wRegs (fun t => t.rd (Reg.PG_SCRATCH 0 7) = 9 && t.rd (Reg.PG_SCRATCH 0 0) = 5) = true := by
  decide +kernel
/-- R17: a 1 clears, a 0 keeps. -/
theorem test_registerWrite_w1c :
    after (.registerWrite 0 (BitVec.ofNat 26 Reg.RNG_FLAGS) 0x05) wRegs (fun t => t.rd Reg.RNG_FLAGS = 0x3A) = true := by decide +kernel
/-- GEN_HWTYPE reads 0x4802 (chapter 0). -/
theorem test_lowWordRead_hwtype :
    after (.lowWordRead 0 (BitVec.ofNat 26 Reg.GEN_HWTYPE)) w0
      (fun t => t.out = [.readData 0 Reg.GEN_HWTYPE [0x4802#32]]) = true := by decide +kernel
theorem test_sigCommit_early : after (.sigCommit 0) wCommitEarly (fun t => t.sig.requests = 1 && t.sig.served = none) = true := by decide +kernel
theorem test_epochCommit : after .epochCommit wServed (fun t => t.rd Reg.SIG_EPOCH = 1 && t.rd Reg.SIG_COMMIT_TIME = 1000) = true := by
  decide +kernel
/-- SIG_EPOCH counts modulo 2^32. -/
theorem test_epochCommit_wraps :
    after .epochCommit (regsAre [(Reg.SIG_EPOCH, 0xFFFFFFFF)] wServed) (fun t => t.rd Reg.SIG_EPOCH = 0) = true := by decide +kernel
/-- The newest epoch is 2: 0, 1 and 2 can be pinned, 3 cannot. -/
theorem test_pinAt : after (.pinAt 0) (wPinAt 0) (fun t => t.flag (Reg.PSG_PIN_STATUS_PINNED 0)) = true ∧
    after (.pinAt 0) (wPinAt 3) (fun t => t.flag (Reg.PSG_PIN_STATUS_PIN_REFUSED 0)) = true := by decide +kernel
/-- 513 cells are one too many. -/
theorem test_psgWgDb_range : after (.psgWgDb 0) wGroupOver (fun t => t.flag (Reg.PSG_WG_STATUS_RANGE 0)) = true := by decide +kernel
/-- Beyond ±1,000 ppm the rate is clamped. -/
theorem test_rateWrite_clamps : after (.rateWrite 0 0x7FFFFFFF) wRate
    (fun t => t.rd Reg.TMB_RATE = 1099511628 && t.flag Reg.TMB_STATUS_RATE_CLAMP) = true := by decide +kernel
theorem test_snap : after (.snap 0) (atUs 7 w0) (fun t => t.rd Reg.TMB_SNAP_LOC_LO = 7000) = true := by decide +kernel
theorem test_actArm : after (.actArm 0 0) (withAct (anEntry 6 0 0 2000 0) w0) (fun t => (t.act 0).state = 1) = true := by decide +kernel
theorem test_actWrite_busy : after (.actWrite 0 0) wActArmed
    (fun t => t.flag Reg.ACT_STATUS_ENTRY_BUSY && t.acts = wActArmed.acts) = true := by decide +kernel
theorem test_loadA_bad_state : after (.loadA 0) (wStr 3 0) (fun t => t.flag Reg.STR_FLAGS_CMD_IGNORED && t.strState = 3) = true := by
  decide +kernel

theorem test_unitStop : after (.unitStop 0) wStop (fun t => t.flag (bstatRun (Reg.unitBase 0))) = false := by decide +kernel
/-- R257: the unit comes back error active with both counters at 0. -/
theorem test_recoveryComplete : after (.recoveryComplete 0) (wBoDelay .sequence)
    (fun t => t.errState 0 = 0 && t.fld (Reg.CFD_ERRC_TEC 0) = 0) = true := by decide +kernel
/-- A classic frame holds 8 bytes at most. -/
theorem test_mbLoad_length : after (.mbLoad 0 0 1) (wMbBuf 9 0 0) (fun t => t.flag (Reg.CFD_FLAGS_MB_BAD 0)) = true ∧
    after (.mbLoad 0 0 1) (wMbBuf 8 0 0) (fun t => t.mbState 0 1 = 1) = true := by decide +kernel
/-- The lowest identifier goes first. -/
theorem test_startOfFrame_lowest : after (.startOfFrame 0) wSof (fun t => t.mbState 0 1 = 3 && t.mbState 0 63 = 2) = true := by
  decide +kernel
/-- TEC 127 + 8 = 135 is error passive. -/
theorem test_busError_passive : after (.busError 0 .ack .tx8 ⟨false, none⟩) (wOn 0 0 (127 * 65536))
    (fun t => t.fld (Reg.CFD_ERRC_TEC 0) = 135 && t.errState 0 = 1) = true := by decide +kernel
/-- The identifier 0x123 is accepted by the filter for it, and by no other. -/
theorem test_canFrameReceived : after (.canFrameReceived 0 aFrame 0) (wRx 0) (fun t => (t.canU 0).rxq.length = 1) = true ∧
    after (.canFrameReceived 0 { aFrame with ident := 0x4880000 } 0) (wRx 0) (fun t => t.rd (Reg.CFD_RX_NOMATCH 0) = 1) = true := by
  decide +kernel
theorem test_characterReceived_masks : after (.characterReceived 0 ⟨0x1FF, false, false⟩) (wUart 0)
    (fun t => (t.lane 0).rx.map (fun w => w.toNat % 2 ^ 24) = [0xFF]) = true := by decide +kernel
/-- 0xC1 is the protected identifier of 1; 0x01 has wrong parity bits. -/
theorem test_linHeader : after (.linHeaderReceived 0 0xC1 ⟨1600, 11⟩) wLinResp (fun t => (t.lane 0).lin.isSome) = true ∧
    after (.linHeaderReceived 0 0x01 ⟨1600, 11⟩) wLinResp (fun t => (t.lane 0).lin.isSome) = false := by decide +kernel
theorem test_edgeAccepted_counts : after (.edgeAccepted 0 7 true 100000) wEdge (fun t => t.rd (Reg.DSC_EDGE_CNT 0 7) = 1) = true := by
  decide +kernel
/-- 59 bytes and an FCS are one byte short of the smallest frame. -/
theorem test_ethFrameReceived_short : after (.ethFrameReceived 16 (ethOf 59) ⟨true, true⟩) wSw
    (fun t => t.rd (Reg.SWC_P_RUNT 16) = 1) = true := by decide +kernel
/-- Strict priority: queue 7 goes before queues 6 and 3. -/
theorem test_egressSelect : after (.egressSelect 17) (wQueues [(7, 0), (6, 0), (3, 0)]) (fun t => (t.queue 17 7).frames = []) = true := by
  decide +kernel
theorem test_ring_own : after (.ringFrameReceived 0 (ringOf 0 1 0 7) true) wRingUp
    (fun t => t.rd (Reg.RNG_P_OWN_REMOVED_LO 0) = 1) = true := by decide +kernel
/-- The sequence number counts modulo 65,536. -/
theorem test_periodic_wraps : after .periodic wOpen (fun t => t.ring.seq = 0) = true := by decide +kernel
theorem test_fetchAdd : after (.fetchAdd 3 (pf 1 4 0x5C 4 [2, 0, 0, 0])) (pathM []) (fun t => t.rd (Reg.PG_SCRATCH 0 7) = 9) = true := by decide +kernel
/-- CAS exchanges on equality only. -/
theorem test_cas : after (.cas 3 (pf 1 6 0x5C 8 [7, 0, 0, 0, 1, 2, 3, 4])) (pathM []) (fun t => t.rd (Reg.PG_SCRATCH 0 7) = 0x04030201) = true ∧
    after (.cas 3 (pf 1 6 0x5C 8 [8, 0, 0, 0, 1, 2, 3, 4])) (pathM []) (fun t => t.rd (Reg.PG_SCRATCH 0 7) = 7) = true := by decide +kernel
theorem test_pathFail : after (.pathFail 0 3) (wPaths 3 4 3 3) (fun t => t.fld (Reg.PG_PATH_ACTIVE 0) = 4) = true := by decide +kernel
theorem test_eqPop : after (.eqPop 0 1) (wEq 2) (fun t => (t.eq 0 1).entries.length = 1) = true := by decide +kernel
theorem test_farCycleEnd_lrmw : after (.farCycleEnd [0x0F0F0F0F]) (wAcc .lrmw .owned)
    (fun t => !t.flag (Reg.PG_LRMW_STATUS_BUSY 0)) = true := by decide +kernel
theorem test_keyWrite_generation : after (.keyWrite 0 2 0) (wKey 0 0 6) (fun t => t.fld (Reg.CPH_SLOT_STATE_GEN 2) = 7) = true := by
  decide +kernel
theorem test_updPieceDb_order : after (.updPieceDb 0 true) (wPiece 1 0 0 1 true) (fun t => t.fld Reg.UPD_PIECE_STATUS_RESULT = 0) = false := by
  decide +kernel
theorem test_resetNFall : after (.resetNFall 149) w0 (fun t => t.dev.held) = false ∧
    after (.resetNFall 250) w0 (fun t => t.dev.held) = true := by decide +kernel
theorem test_tempMeasure : after (.tempMeasure 0x0190 0 0) (atUs 1000 w0) (fun t => t.rd Reg.GEN_TEMP_CORE = 0x190) = true := by decide +kernel
theorem test_linkDown_ninth : after (.linkDown 0) (wLink 0 8) (fun t => t.linkState 0 = 2) = false ∧
    after (.linkDown 0) (wLink 0 9) (fun t => t.linkState 0 = 2) = true := by decide +kernel

/-! ## Witnesses: for each statement with hypotheses, states and operands that meet those of each of its clauses -/

theorem witness_StepRunsFrontCommand :
    ∃ (c : Instr) (rest : List Instr) (s : State), s.pending = c :: rest :=
  ⟨.epochCommit, [.cadenceTick], { wServed with pending := [.epochCommit, .cadenceTick] }, by decide +kernel⟩

theorem witness_EmptyQueueIsOneTick :
    (∃ (s : State), s.pending = [] ∧ s.dev.held = true) ∧
    (∃ (s : State), s.pending = [] ∧ s.awake) :=
  ⟨⟨wDown true, by decide +kernel⟩,
   ⟨wRun, by decide +kernel⟩⟩

theorem witness_HeldDeviceIgnoresCommands :
    ∃ (c : Instr) (s : State), s.dev.held = true ∧ actsInReset c = false :=
  ⟨.epochCommit, wDown true, by decide +kernel⟩

theorem witness_EveryStepKeepsResetClear :
    ∃ (s : State) (t : State), s.quietInReset ∧ step s = .next t :=
  ⟨wDown true, wDown true, fun _ => by unfold State.cleared; decide +kernel, rfl⟩

theorem witness_CommitsAreServedAndRaiseTheEpoch :
    (∃ (p : PageNo) (s : State), (∀ k, s.sig.lastInstant = some k → s.sig.lastDisc16 = none → k + 10000 * 65536 ≤
      s.tb.local16) ∧ (∀ k m, s.sig.lastInstant = some k → s.sig.lastDisc16 = some m → m + 10000 * 65536 ≤ s.disc16) ∧
      s.flag Reg.SIG_BSTAT_RUN = true ∧ s.takes p Reg.SIG_CMD ∧ s.sig.requests = 0 ∧ s.sig.served = none) ∧
    (∃ (p : PageNo) (s : State), s.flag Reg.SIG_BSTAT_RUN = true ∧ s.takes p Reg.SIG_CMD ∧ s.sig.served ≠ none ∧
      s.sig.lastInstant ≠ some s.tb.local16) ∧
    (∃ (p : PageNo) (s : State) (k : _) (m : _), s.flag Reg.SIG_BSTAT_RUN = true ∧ s.takes p Reg.SIG_CMD ∧
      s.sig.served = none ∧ s.sig.lastInstant = some k ∧ s.sig.lastDisc16 = some m ∧ s.disc16 < m + 10000 * 65536) ∧
    (∃ (p : PageNo) (s : State), s.flag Reg.SIG_BSTAT_RUN = true ∧ s.takes p Reg.SIG_CMD ∧ s.sig.served ≠ none ∧
      s.sig.lastInstant = some s.tb.local16) ∧
    (∃ (s : State) (k : _) (m : _), s.flag Reg.SIG_BSTAT_RUN = true ∧ s.awake ∧ s.sig.lastInstant = some k ∧
      s.sig.lastDisc16 = some m ∧ 0 < s.sig.requests ∧ s.sig.served = none ∧ m + 10000 * 65536 ≤ s.disc16) ∧
    (∃ (s : State) (m : Int) (k : Int), (∀ k, s.sig.lastInstant = some k → s.sig.lastDisc16 = none → k + 10000 * 65536
      ≤ s.tb.local16) ∧ (∀ k d, s.sig.lastInstant = some k → s.sig.lastDisc16 = some d → d + 10000 * 65536 ≤ s.disc16)
      ∧ s.flag Reg.SIG_BSTAT_RUN = true ∧ s.awake ∧ s.fld Reg.SIG_CADENCE_MODE = 1 ∧ s.disc16 = m * ((clampTo 10
      1000000 (s.fld Reg.SIG_PERIOD_PERIOD_US) : Nat) * 1000) * 65536 ∧ s.sig.cadLast = some k ∧ k < m * ((clampTo 10
      1000000 (s.fld Reg.SIG_PERIOD_PERIOD_US) : Nat) * 1000) ∧ s.sig.cadHold ≤ m * ((clampTo 10 1000000 (s.fld
      Reg.SIG_PERIOD_PERIOD_US) : Nat) * 1000) ∧ s.sig.requests = 0 ∧ s.sig.served = none) ∧
    (∃ (d : Int) (l : Nat) (s : State), s.awake ∧ s.sig.served = some (d, l) ∧ s.tbl = [] ∧ s.tblOld = [] ∧ s.staged =
      [] ∧ s.pages = [] ∧ s.engines = [] ∧ s.strState ≠ strArmed) :=
  ⟨⟨0, wCommit, allSome (by decide +kernel), allSome_allSome (by decide +kernel), by decide +kernel⟩,
   ⟨0, wServed, by decide +kernel⟩,
   ⟨0, wCommitEarly, 0, 0, by decide +kernel⟩,
   ⟨0, wServedNow, by decide +kernel⟩,
   ⟨wCommitKept, 0, 0, by decide +kernel⟩,
   ⟨wCadence, 1, 0, allSome (by decide +kernel), allSome_allSome (by decide +kernel), by decide +kernel⟩,
   ⟨1000, 5, wServed, by decide +kernel⟩⟩

theorem witness_PinsOfAPage :
    (∃ (p : PageNo) (s : State), s.takes p (Reg.PSG_PIN_CMD p)) ∧
    (∃ (p : PageNo) (s : State), s.awake ∧ s.flag (Reg.PSG_PIN_STATUS_PINNED p) = true ∧ (2 : Int) ^ 30 ≤ sdiff 32
      (s.rd Reg.SIG_EPOCH).toNat (s.rd (Reg.PSG_PIN_EPOCH p)).toNat) :=
  ⟨⟨0, wPin, by decide +kernel⟩,
   ⟨0, wPinOld, by decide +kernel⟩⟩

theorem witness_AshlarsStartAndEnd :
    (∃ (p : PageNo) (s : State), s.takes p (Reg.PSG_ASH_CMD p) ∧ (s.page p).ashlar = none) ∧
    (∃ (p : PageNo) (s : State) (a : _), s.takes p (Reg.PSG_ASH_CMD p) ∧ (s.page p).ashlar = some a) ∧
    (∃ (p : PageNo) (s : State) (a : _), s.awake ∧ (s.page p).ashlar = some a ∧ s.fld (Reg.PG_PATH_ACTIVE p) ≠ 0) :=
  ⟨⟨0, wRun, by decide +kernel⟩,
   ⟨0, wAshlar, anAshlar, by decide +kernel⟩,
   ⟨0, wAshlarPath, anAshlar, by decide +kernel⟩⟩

theorem witness_BatchesEnterTheSignalSpace :
    (∃ (p : PageNo) (s : State), s.takes p (Reg.PSG_WG_DB p)) ∧
    (∃ (p : PageNo) (s : State) (b : Batch) (n : Nat) (w : DWord), s.awake ∧ s.sig.batches = [b] ∧ b.src = .group p ∧
      b.items = [.write ⟨n, .put w⟩] ∧ s.inUse n = true ∧ s.bondOf n = none) ∧
    (∃ (s : State) (k : Fin 1024) (x : Bond), s.awake ∧ s.sig.bonds.find? (fun y => y.bond == k.val) = some x ∧
      x.since + (if s.fld Reg.SIG_BOND_TMO_TMO_US = 0 then 1000 else s.fld Reg.SIG_BOND_TMO_TMO_US) * 65536000 ≤
      s.tb.local16) :=
  ⟨⟨0, wGroup, by decide +kernel⟩,
   ⟨0, wBatch, { id := 1, src := .group 0, gen := 0, items := [.write ⟨5, .put 3⟩] }, 5, 3, by decide +kernel⟩,
   ⟨wBond, 1023, { bond := 1023, held := [⟨5, .put 3⟩], since := 0 }, by decide +kernel⟩⟩

theorem witness_TrackerCommands :
    (∃ (p : PageNo) (s : State), s.takes p Reg.PHS_CMD) ∧
    (∃ (p : PageNo) (mask : BitVec 4) (s : State) (k : PtNo), s.takes p Reg.PHS_CMD ∧ mask.toNat = 2 ^ k.val) ∧
    (∃ (p : PageNo) (mask : BitVec 4) (s : State), s.takes p Reg.PHS_CMD ∧ (∀ k : PtNo, bitOf mask.toNat k = true →
      later 48 (s.ptPos k) (s.tracker k).hw = false)) :=
  ⟨⟨0, wWheel 2, by decide +kernel⟩,
   ⟨0, 8, wWheel 2, 3, by decide +kernel⟩,
   ⟨0, 1, wWheel 2, by decide +kernel⟩⟩

theorem witness_TrackersLoseTheirReference :
    (∃ (n : PtNo) (s : State), s.awake ∧ later 48 (s.ptPos n) (s.tracker n).hw = false ∧ s.refOverdue n = true ∧
      s.ptState n = 1) ∧
    (∃ (n : PtNo) (s : State), s.awake ∧ later 48 (s.ptPos n) (s.tracker n).hw = false ∧ s.refOverdue n = true ∧
      s.ptState n = 2) ∧
    (∃ (n : PtNo) (s : State), s.awake ∧ later 48 (s.ptPos n) (s.tracker n).hw = false ∧ s.holdOver n = true) :=
  ⟨⟨0, wWheel 1, by decide +kernel⟩,
   ⟨0, wWheel 2, by decide +kernel⟩,
   ⟨0, wHoldover, by decide +kernel⟩⟩

theorem witness_TrackersAcquireAndCross :
    (∃ (n : PtNo) (s : State) (e : _) (a : _), s.awake ∧ s.ptState n = 0 ∧ s.ptOn n = true ∧ s.ptKind n = 0 ∧ s.fld
      (Reg.PHS_CFG_EDGE n) = 0 ∧ (s.tracker n).edge16 = some e ∧ s.glitchNs n ≤ a ∧ s.inBand n (s.tb.local16 - a *
      65536 - e) = true) ∧
    (∃ (n : PtNo) (s : State) (a : _), s.awake ∧ s.ptState n = 0 ∧ s.ptOn n = true ∧ a < s.glitchNs n) ∧
    (∃ (n : PtNo) (s : State) (m : Int), s.awake ∧ s.ptState n = 0 ∧ s.ptOn n = true ∧ s.ptKind n = 3 ∧ (s.tracker
      n).syn16 ≠ some s.tb.local16 ∧ s.disc16At (s.tb.local16 - 131072) < m * ((s.synPeriod n : Nat) * 65536) ∧ m *
      ((s.synPeriod n : Nat) * 65536) ≤ s.disc16) ∧
    (∃ (n : PtNo) (s : State), s.awake ∧ (s.ptState n = 2 ∨ s.ptState n = 3) ∧ s.fld Reg.SIG_CADENCE_MODE ≠ 2 ∧ s.acts
      = [] ∧ (s.tracker n).hw < s.ptPos n ∧ s.ptPos n / 2 ^ 24 = (s.tracker n).hw / 2 ^ 24) :=
  ⟨⟨0, wMains, 0, 20, by decide +kernel⟩,
   ⟨0, wMains, 19, by decide +kernel⟩,
   ⟨3, wSynth, 2000, by decide +kernel⟩,
   ⟨0, wCross, by decide +kernel⟩⟩

theorem witness_TimeIsAdjustedWithoutJumps :
    (∃ (p : PageNo) (s : State), s.takes p Reg.TMB_RATE ∧ s.flag Reg.TMB_CTRL_SERVO = false) ∧
    (∃ (p : PageNo) (s : State), s.takes p Reg.TMB_RATE ∧ s.flag Reg.TMB_CTRL_SERVO = true) ∧
    (∃ (p : PageNo) (s : State), s.takes p Reg.TMB_ADJ_HI ∧ s.flag Reg.TMB_CTRL_SERVO = true) ∧
    (∃ (p : PageNo) (s : State) (addr : BitVec 26) (a : Nat), a ∈ [Reg.TMB_RATE, Reg.TMB_ADJ_LO, Reg.TMB_ADJ_HI] ∧
      addr.toNat = a ∧ s.settled ∧ s.takes p a ∧ s.flag Reg.TMB_CTRL_SERVO = true) ∧
    (∃ (p : PageNo) (v : Word) (s : State), s.takes p Reg.TMB_ADJ_HI ∧ s.flag Reg.TMB_CTRL_SERVO = false ∧ s.flag
      Reg.TMB_STATUS_TIME_SET = true ∧ ((mkDWord (s.rd Reg.TMB_ADJ_LO) v).toInt.natAbs < (s.rd
      Reg.TMB_STEP_THRESH).toNat ∨ s.flag Reg.TMB_CTRL_STEP_ALLOW = false)) ∧
    (∃ (s : State), s.awake ∧ s.flag Reg.TMB_STATUS_SLEWING = true ∧ s.slewLeft = 0) :=
  ⟨⟨0, wRate, by decide +kernel⟩,
   ⟨0, wServo, by decide +kernel⟩,
   ⟨0, wServo, by decide +kernel⟩,
   ⟨0, wServo, BitVec.ofNat 26 Reg.TMB_ADJ_LO, Reg.TMB_ADJ_LO, by decide +kernel⟩,
   ⟨0, 0, wTimeSet, by decide +kernel⟩,
   ⟨wSlewing, by decide +kernel⟩⟩

theorem witness_PulsesAndTimeMasters :
    (∃ (s : State) (a : _), s.awake ∧ 20 ≤ a) ∧
    (∃ (s : State) (a : _), s.awake ∧ a < 20) ∧
    (∃ (s : State) (l : _), s.awake ∧ s.flag Reg.TMB_CTRL_GM_PPS = true ∧ s.tb.lastPps = some l ∧ l + 1500000000 *
      65536 ≤ s.tb.local16) ∧
    (∃ (s : State), s.awake ∧ s.flag Reg.TMB_BSTAT_RUN = true ∧ s.flag Reg.TMB_CTRL_PPSO_EN = true ∧ (s.tb.ppsNext :
      Int) * 1000000000 ≤ s.disc) ∧
    (∃ (s : State), s.awake ∧ s.tb.ppsOut = true ∧ s.tb.ppsOutAt + clampTo 1 500000 (s.fld Reg.TMB_PPSO_WIDTH_WIDTH) *
      65536000 ≤ s.tb.local16) ∧
    (∃ (p : PageNo) (s : State), s.awake ∧ s.takes p Reg.TMB_CMD) ∧
    (∃ (s : State), s.awake ∧ s.fld Reg.TMB_STATUS_SYNC = 1) ∧
    (∃ (s : State), s.awake ∧ s.fld Reg.TMB_STATUS_SYNC = 2) ∧
    (∃ (s : State) (port : Fin 22) (f : EthFrame) (m : PtpMsg), s.slavePort = some port.val ∧ s.awake ∧ port.val < 20
      ∧ s.flag Reg.TMB_BSTAT_RUN = true ∧ s.fld Reg.TMB_GPTP_CTRL_MODE = 1 ∧ bitOf (s.fld Reg.TMB_GPTP_PORTS_PORTS)
      port = true ∧ s.hlt.meDown = false ∧ ptpMsg f.bytes = some m ∧ m.domain = s.fld Reg.TMB_GPTP_CTRL_DOMAIN ∧
      m.type = 0) ∧
    (∃ (s : State) (port : Fin 22) (f : EthFrame) (m : PtpMsg) (rx16 : _) (c : _), s.slavePort = some port.val ∧
      s.awake ∧ port.val < 20 ∧ s.flag Reg.TMB_BSTAT_RUN = true ∧ s.fld Reg.TMB_GPTP_CTRL_MODE = 1 ∧ bitOf (s.fld
      Reg.TMB_GPTP_PORTS_PORTS) port = true ∧ s.hlt.meDown = false ∧ ptpMsg f.bytes = some m ∧ m.domain = s.fld
      Reg.TMB_GPTP_CTRL_DOMAIN ∧ m.type = 8 ∧ (s.gport port).sync = some (m.seq, rx16, c) ∧ s.flag Reg.TMB_CTRL_GM_PPS
      = false) :=
  ⟨⟨wPps, 20, by decide +kernel⟩,
   ⟨wPps, 19, by decide +kernel⟩,
   ⟨wPps, 0, by decide +kernel⟩,
   ⟨wPpsOut, by decide +kernel⟩,
   ⟨wPpsFall, by decide +kernel⟩,
   ⟨0, wPps, by decide +kernel⟩,
   ⟨wPps, by decide +kernel⟩,
   ⟨wHold, by decide +kernel⟩,
   ⟨wGptp, 0, aPtpFrame 0, aPtp 0, slave_of (by decide +kernel) (by decide +kernel) rfl rfl, by decide +kernel⟩,
   ⟨wGptp, 0, aPtpFrame 8, aPtp 8, 64, 0, slave_of (by decide +kernel) (by decide +kernel) rfl rfl, by decide +kernel⟩⟩

theorem witness_ActionEntryCommands :
    (∃ (p : PageNo) (s : State), s.takes p Reg.ACT_CMD) ∧
    (∃ (p : PageNo) (e : ActNo) (s : State), s.takes p Reg.ACT_CMD ∧ (s.act e).state = 0 ∧ actOk (s.act e).words =
      true ∧ actTrig (s.act e).words = 0 ∧ s.disc16 + 2000 * 65536 ≤ (actTime (s.act e).words : Int) * 65536) ∧
    (∃ (p : PageNo) (e : ActNo) (s : State), s.takes p Reg.ACT_CMD ∧ ((s.act e).state = 2 ∨ (s.act e).state = 3)) :=
  ⟨⟨0, wActFired, by decide +kernel⟩,
   ⟨0, 0, wActIdle, by decide +kernel⟩,
   ⟨0, 0, wActFired, by decide +kernel⟩⟩

theorem witness_ActionsRelease :
    (∃ (e : ActNo) (s : State), s.awake ∧ (s.act e).state = 1 ∧ actTrig (s.act e).words < 2 ∧ (s.act e).due * 65536 ≤
      s.disc16 + 20000 * 65536) ∧
    (∃ (e : ActNo) (s : State), s.awake ∧ (s.act e).state = 1 ∧ actTrig (s.act e).words < 2 ∧ (s.act e).relAt = none ∧
      (s.act e).due * 65536 ≤ s.disc16 + 2000 * 65536) ∧
    (∃ (e : ActNo) (s : State) (t16 : Nat), s.awake ∧ (s.act e).state = 1 ∧ (s.act e).relAt = some t16 ∧ s.tb.local16
      ≤ t16 ∧ (s.act e).ghost = [] ∧ (s.act e).await = []) ∧
    (∃ (e : ActNo) (s : State) (t16 : Nat) (d : Fin 2), s.awake ∧ (s.act e).state = 1 ∧ (s.act e).relAt = some t16 ∧
      t16 < s.tb.local16 ∧ (s.act e).ghost = [] ∧ (s.act e).await = [] ∧ (s.act e).lateDies.contains d.val = false ∧
      actSkip (s.act e).words = true ∧ actCode (s.act e).words ≠ 8) ∧
    (∃ (e : ActNo) (s : State) (t16 : _), s.awake ∧ (s.act e).state = 1 ∧ (s.act e).relAt = some t16 ∧ t16 ≤
      s.tb.local16 ∧ (s.act e).ghost = [] ∧ s.notFirst e t16 = false ∧ s.crowd.1 ≠ t16 ∧ actTrig (s.act e).words = 0 ∧
      actCode (s.act e).words = 6 ∧ actEvtFire (s.act e).words = false ∧ s.flag Reg.SIG_BSTAT_RUN = true ∧
      s.sig.requests = 0 ∧ s.sig.served = none ∧ s.sig.lastInstant = none) :=
  ⟨⟨0, wActDispatch, by decide +kernel⟩,
   ⟨0, wActArmed, by decide +kernel⟩,
   ⟨0, wActDue, 655360000, by decide +kernel⟩,
   ⟨0, wActLate, 64, 0, by decide +kernel⟩,
   ⟨0, wActRelease, 65536000, by decide +kernel⟩⟩

theorem witness_StructureCommands :
    (∃ (p : PageNo) (s : State) (c : _) (k : _), s.takes p Reg.STR_CMD ∧ (c, k) ∈ [(Instr.loadA p, 1), (Instr.loadB p,
      2), (Instr.push p, 3)]) ∧
    (∃ (p : PageNo) (s : State), s.takes p Reg.STR_CMD) ∧
    (∃ (p : PageNo) (s : State), s.takes p Reg.STR_CMD ∧ s.str.forUpdate = false) :=
  ⟨⟨0, wStr 3 1, .push 0, 3, by decide +kernel⟩,
   ⟨0, wStr 3 1, by decide +kernel⟩,
   ⟨0, wStr 3 1, by decide +kernel⟩⟩

theorem witness_PiecesOfAPushedImage :
    (∃ (p : PageNo) (s : State), s.takes p Reg.STR_PIECE_DB ∧ s.strState = 1 ∧ s.str.pushing = true ∧ (s.fld
      Reg.STR_PIECE_LEN_LEN = 0 ∨ 4096 < s.fld Reg.STR_PIECE_LEN_LEN)) ∧
    (∃ (p : PageNo) (s : State), s.takes p Reg.STR_PIECE_DB ∧ s.strState = 1 ∧ s.str.pushing = true ∧ 1 ≤ s.fld
      Reg.STR_PIECE_LEN_LEN ∧ s.fld Reg.STR_PIECE_LEN_LEN ≤ 4096 ∧ s.fld Reg.STR_PIECE_OFF_OFF ≠ s.str.bytes.length) ∧
    (∃ (p : PageNo) (s : State), s.takes p Reg.STR_PIECE_DB ∧ s.strState = 1 ∧ s.str.pushing = true ∧ s.fld
      Reg.STR_PIECE_LEN_LEN = 4096 ∧ s.str.bytes ≠ [] ∧ s.fld Reg.STR_PIECE_OFF_OFF = s.str.bytes.length ∧
      s.str.bytes.length + 4096 < imgLength (s.str.bytes ++ s.bytes (Reg.STR_PIECE 0) 4096) ∧ lengthOk (s.str.bytes ++
      s.bytes (Reg.STR_PIECE 0) 4096) = true) ∧
    (∃ (p : PageNo) (s : State) (bs : _), s.takes p Reg.STR_PIECE_DB ∧ s.strState = 1 ∧ s.str.pushing = true ∧ 1 ≤
      s.fld Reg.STR_PIECE_LEN_LEN ∧ s.fld Reg.STR_PIECE_LEN_LEN ≤ 4096 ∧ s.fld Reg.STR_PIECE_OFF_OFF =
      s.str.bytes.length ∧ bs = s.str.bytes ++ s.bytes (Reg.STR_PIECE 0) (s.fld Reg.STR_PIECE_LEN_LEN) ∧ imgLength bs
      = bs.length ∧ s.imageErr false bs = 0) ∧
    (∃ (p : PageNo) (s : State), s.takes p Reg.STR_PIECE_DB ∧ (s.strState ≠ 1 ∨ s.str.pushing = false)) :=
  ⟨⟨0, wPush 0 0, by decide +kernel⟩,
   ⟨0, wPush 0 4096, by decide +kernel⟩,
   ⟨0, wPush 4096 4096, by decide +kernel⟩,
   ⟨0, wPushLast, smallImage, by decide +kernel⟩,
   ⟨0, w0, by decide +kernel⟩⟩

theorem witness_ImagesAreChecked :
    (∃ (s : State), s.awake ∧ s.str.boot = false ∧ s.strState = 1 ∧ s.str.pushing = false ∧ lengthOk (s.flashBytes
      (imgBase (s.fld Reg.STR_STATE_SOURCE - 1)) 0x80) = true) ∧
    (∃ (s : State), s.awake ∧ s.str.boot = false ∧ s.strState = 1 ∧ s.str.pushing = false) ∧
    (∃ (s : State), s.awake ∧ s.str.boot = false ∧ s.strState = 2 ∧ s.str.applying = false ∧ s.imgSigOk s.str.bytes =
      true ∧ s.rd Reg.STR_GEN ≠ 0) ∧
    (∃ (s : State), s.awake ∧ s.str.boot = false ∧ s.strState = 2 ∧ s.str.applying = false ∧ s.imgSigOk s.str.bytes =
      true ∧ s.rd Reg.STR_GEN = 0) ∧
    (∃ (s : State), s.awake ∧ s.str.boot = false ∧ s.strState = 2 ∧ s.str.applying = false ∧ s.imgSigOk s.str.bytes =
      false) :=
  ⟨⟨wLoading, by decide +kernel⟩,
   ⟨wLoading, by decide +kernel⟩,
   ⟨wVerifying 1, by decide +kernel⟩,
   ⟨wVerifying 0, by decide +kernel⟩,
   ⟨wNoKey, by decide +kernel⟩⟩

theorem witness_BootChecksTheFirmware :
    (∃ (a : FwInfo) (b : FwInfo) (s : State), (
        let bank := s.optByte 9 % 2
        let mine := if bank = 0 then a else b
        s.awake ∧ s.flag Reg.HLT_RESET_CAUSE_OPT_FAIL = false ∧ s.strState = 0 ∧ s.rd Reg.STR_GEN = 0 ∧ s.fwPasses
        mine = true)) ∧
    (∃ (a : FwInfo) (b : FwInfo) (s : State), (
        let bank := s.optByte 9 % 2
        let mine := if bank = 0 then a else b
        let other := if bank = 0 then b else a
        s.awake ∧ s.flag Reg.HLT_RESET_CAUSE_OPT_FAIL = false ∧ s.strState = 0 ∧ s.rd Reg.STR_GEN = 0 ∧ s.fwPasses
        mine = false ∧ s.fwPasses other = true)) ∧
    (∃ (s : State), s.awake ∧ s.flag Reg.HLT_RESET_CAUSE_OPT_FAIL = true) :=
  ⟨⟨{ sigOk := true, rollback := 0, version := 9 }, { sigOk := true, rollback := 0, version := 9 }, w0,
     by decide +kernel⟩,
   ⟨{ sigOk := false, rollback := 0, version := 8 }, { sigOk := true, rollback := 0, version := 9 }, w0,
     by decide +kernel⟩,
   ⟨wOptFail, by decide +kernel⟩⟩

theorem witness_StructureComesIntoService :
    (∃ (s : State), s.awake ∧ s.strState = 2 ∧ s.str.applying = true) ∧
    (∃ (s : State), s.awake ∧ s.strState = 5 ∧ s.str.reloading = true) ∧
    (∃ (s : State), s.awake ∧ s.strState = 6 ∧ s.oldItems (s.rd Reg.STR_GEN) = false) :=
  ⟨⟨wApplying, by decide +kernel⟩,
   ⟨wReloading, by decide +kernel⟩,
   ⟨wDraining, by decide +kernel⟩⟩

theorem witness_UnitsStopAndSettingsAreSaved :
    (∃ (u : Fin 256) (s : State), s.awake ∧ s.stopBit u = true ∧ s.flag (bstatRun (Reg.unitBase u)) = true ∧
      s.unitIdle u = true) ∧
    (∃ (u : Fin 256) (s : State), s.awake ∧ s.stopBit u = true ∧ s.flag (bstatRun (Reg.unitBase u)) = true ∧
      s.unitIdle u = false) ∧
    (∃ (p : PageNo) (s : State), s.takes p Reg.STR_CMD ∧ s.str.saving = none ∧ s.strState ≠ 1 ∧ s.strState ≠ 2 ∧
      s.strState ≠ 5) ∧
    (∃ (p : PageNo) (s : State), s.takes p Reg.STR_CMD ∧ s.str.saving = none ∧ (s.strState = 1 ∨ s.strState = 2 ∨
      s.strState = 5)) ∧
    (∃ (s : State) (h : _), s.awake ∧ s.str.saving = some h) :=
  ⟨⟨0, wStop, by decide +kernel⟩,
   ⟨0, wStopBusy, by decide +kernel⟩,
   ⟨0, wStop, by decide +kernel⟩,
   ⟨0, wReloading, by decide +kernel⟩,
   ⟨wSaving, aHalf, by decide +kernel⟩⟩

theorem witness_RegionsAndTemperatures :
    (∃ (r : Fin 8) (busyPct : Nat) (s : State), s.awake ∧ busyPct < 25 ∧ s.regionStep r < s.fld ⟨Reg.GEN_REGION_FLOOR,
      2 * r, 2⟩ ∧ s.rd Reg.STR_GEN ≠ 0 ∧ s.dev.stepAt16.getD r 0 + (if s.fld Reg.GEN_REGION_IDLE_IDLE_HOLD = 0 then
      100 else s.fld Reg.GEN_REGION_IDLE_IDLE_HOLD) * 65536000 ≤ s.tb.local16 ∧ s.regionHeld r = false ∧
      s.dev.work16.getD r 0 / (131072 * 2 ^ s.regionStep r) ≠ s.tb.local16 / (131072 * 2 ^ s.regionStep r)) ∧
    (∃ (r : Fin 8) (busyPct : Nat) (s : State), s.awake ∧ (25 ≤ busyPct ∨ s.fld ⟨Reg.GEN_REGION_FLOOR, 2 * r, 2⟩ ≤
      s.regionStep r ∨ s.rd Reg.STR_GEN = 0 ∨ s.regionHeld r = true)) ∧
    (∃ (r : Fin 8) (s : State), s.awake ∧ s.regionStep r = 3 ∧ (bitOf s.waking r = true ∨ bitOf s.waking (8 + r) =
      true)) ∧
    (∃ (s : State) (e : ActNo), s.awake ∧ (s.act e).state = 1 ∧ actOnUnits (s.act e).words = true ∧ s.releaseNear
      (s.act e) = true) ∧
    (∃ (s : State), s.awake ∧ s.tb.local16 < s.dev.temp16 + 1000 * 65536000) ∧
    (∃ (s : State), s.awake ∧ s.dev.temp16 + 1000 * 65536000 ≤ s.tb.local16) ∧
    (∃ (core : BitVec 16) (pd0 : BitVec 16) (pd1 : BitVec 16) (s : State), s.awake ∧ s.dev.temp16 + 1000 * 65536000 ≤
      s.tb.local16 ∧ sgn 16 (s.fld Reg.GEN_TEMP_WARN_WARN) < core.toInt ∧ pd0.toInt ≤ sgn 16 (s.fld
      Reg.GEN_TEMP_WARN_WARN) ∧ pd1.toInt ≤ sgn 16 (s.fld Reg.GEN_TEMP_WARN_WARN)) :=
  ⟨⟨0, 24, wRegion, by decide +kernel⟩,
   ⟨0, 24, wAsleep, by decide +kernel⟩,
   ⟨0, wAsleep, by decide +kernel⟩,
   ⟨wRegionHold, 0, by decide +kernel⟩,
   ⟨wAsleep, by decide +kernel⟩,
   ⟨atUs 1000 w0, by decide +kernel⟩,
   ⟨2, 1, 1, wWarn, by decide +kernel⟩⟩

theorem witness_MortarLinks :
    (∃ (l : Fin 4) (s : State), s.awake ∧ s.linkState l ≠ 2) ∧
    (∃ (l : Fin 4) (s : State), s.awake ∧ s.linkState l ≠ 2 ∧ s.dev.replays.getD l 0 < 9) ∧
    (∃ (l : Fin 4) (s : State), s.awake ∧ s.linkState l ≠ 2 ∧ 9 ≤ s.dev.replays.getD l 0) ∧
    (∃ (l : Fin 4) (s : State), s.awake ∧ s.linkState l = 2) ∧
    (∃ (l : Fin 4) (s : State), s.awake ∧ s.linkState l = 2 ∧ s.tb.local16 < s.dev.retrain16.getD l 0 + 10000 *
      65536000) ∧
    (∃ (l : Fin 4) (s : State), s.awake ∧ s.linkState l = 2 ∧ s.dev.retrain16.getD l 0 + 10000 * 65536000 ≤
      s.tb.local16 ∧ s.hlt.badLinks.contains l.val = false) ∧
    (∃ (l : Fin 4) (s : State) (b : _), s.awake ∧ s.linkState l = 2 ∧ s.dev.retrain16.getD l 0 + 10000 * 65536000 ≤
      s.tb.local16 ∧ (b = false ∨ s.hlt.badLinks.contains l.val = true)) ∧
    (∃ (l : Fin 4) (s : State), s.awake ∧ s.linkState l = 1) :=
  ⟨⟨0, wLink 0 8, by decide +kernel⟩,
   ⟨0, wLink 0 0, by decide +kernel⟩,
   ⟨0, wLink 0 9, by decide +kernel⟩,
   ⟨0, wLink 2 0, by decide +kernel⟩,
   ⟨0, wLink 2 0, by decide +kernel⟩,
   ⟨0, atUs 10000 (wLink 2 0), by decide +kernel⟩,
   ⟨0, atUs 10000 (wLink 2 0), false, by decide +kernel⟩,
   ⟨0, wLink 1 3, by decide +kernel⟩⟩

theorem witness_SecondPassesAndExpiries :
    (∃ (item : ChainItem) (r : Nat) (rest : List (ChainItem × List Nat)) (n : LaneNo) (s : State), (
        let data := (s.pack item.gen (s.rtFormat item.gen r) s.packRead).1
        s.awake ∧ s.sig.second = (item, [r]) :: rest ∧ s.rtType item.gen r = rtPack ∧ s.rtToPdu item.gen r = false ∧
        unitKind (s.rtUnit item.gen r) = .lane n ∧ s.takesWork (Reg.laneUnit n) = true ∧ s.laneSends n = true ∧
        (s.lane n).tx.length + (s.lane n).txOut + (txItems (s.itemBytes n) data).length ≤ 512)) ∧
    (∃ (r : Fin 32768) (s : State), s.awake ∧ s.rtType (s.rd Reg.STR_GEN) r = rtPduEntry ∧ (s.pdu r).records ≠ [] ∧
      (s.polFor (s.rd Reg.STR_GEN) 3 r = none) ∧ (s.pdu r).since + bits (s.rtW (s.rd Reg.STR_GEN) r 6) 0 16 * 65536000
      ≤ s.tb.local16) ∧
    (∃ (r : Fin 32768) (s : State), s.awake ∧ (s.pdu r).records = []) ∧
    (∃ (r : Fin 32768) (s : State) (e : _), s.awake ∧ (s.evRoute r).gapEnd = some e ∧ e ≤ s.tb.local16) ∧
    (∃ (r : Fin 32768) (s : State) (e : _), s.awake ∧ (s.evRoute r).gapEnd = some e ∧ s.tb.local16 < e) :=
  ⟨⟨anItem 3, 3, [], 0, wSecond 0, by decide +kernel⟩,
   ⟨3, wPdu, by decide +kernel⟩,
   ⟨3, wSecond 0, by decide +kernel⟩,
   ⟨3, wPdu, 655360000, by decide +kernel⟩,
   ⟨3, wGap, 655360000, by decide +kernel⟩⟩

theorem witness_VerificationsEnd :
    (∃ (e : HoldEntry) (rest : List HoldEntry) (item : ChainItem) (route : Nat) (s : State), (∀ x ∈ rest, ∀ i r,
      x.kind ≠ .after i r) ∧ s.awake ∧ s.holdBuf = e :: rest ∧ e.kind = .chain item route ∧ e.rxq = none ∧ e.usable =
      false) ∧
    (∃ (e : HoldEntry) (rest : List HoldEntry) (item : ChainItem) (route : Nat) (s : State) (fv : _), (∀ x ∈ rest, ∀ i
      r, x.kind ≠ .after i r) ∧ s.verdict e = .ok fv ∧ s.awake ∧ s.holdBuf = e :: rest ∧ e.kind = .chain item route ∧
      e.rxq = none ∧ s.slotGen e.slot = e.gen) :=
  ⟨⟨aHeld false [], [], heldItem [], 0, wHeld (aHeld false []), by simp, by decide +kernel⟩,
   ⟨aHeld true (macEx.take 4), [], heldItem (macEx.take 4), 0, wHeld (aHeld true (macEx.take 4)), 256, by simp,
     verdict_ok (item := heldItem (macEx.take 4)) (r := 0) (id := (0x48C0000, false)) (by decide +kernel) rfl rfl rfl
     (by decide +kernel) (by decide +kernel) rfl (by decide +kernel), by decide +kernel⟩⟩

theorem witness_RecipesRunToTheirEnd :
    (∃ (e : Fin 8) (i : Invoc) (q : List Invoc) (b : Nat) (s : State), s.awake ∧ (s.engine e).queue = i :: q ∧ i.batch
      = some b ∧ s.engineRuns e = true ∧ (∀ k < 8, (s.engine k).ownDue = false)) ∧
    (∃ (e : Fin 8) (code : List SeInstr) (i : Invoc) (q : List Invoc) (b : Nat) (s : State) (res : _), s.awake ∧
      (s.engine e).queue = i :: q ∧ i.batch = some b ∧ s.engineRuns e = true ∧ (∀ k < 8, (s.engine k).ownDue = false)
      ∧ s.gnoisk e i code = some res) ∧
    (∃ (e : Fin 8) (code : List SeInstr) (i : Invoc) (q : List Invoc) (b : Nat) (s : State) (c : Instr), s.awake ∧
      (s.engine e).queue = i :: q ∧ i.batch = some b ∧ s.engineRuns e = true ∧ (∀ k < 8, (s.engine k).ownDue = false)
      ∧ (c = .recipeOverrun e ∨ (c = .recipeInvocation e code ∧ s.gnoisk e i code = none))) :=
  ⟨⟨0, anInvoc 7, [anInvoc 8], 1, wInvoc, by decide +kernel⟩,
   ⟨0, aCode, anInvoc 7, [anInvoc 8], 1, wInvoc,
     { w1 := 5, w2 := 5, w3 := 0, stores := [⟨6, 5, false⟩], own := [], scratch := [] }, by decide +kernel⟩,
   ⟨0, [.branch .always 0], anInvoc 7, [anInvoc 8], 1, wInvoc, .recipeOverrun 0, by decide +kernel⟩⟩

theorem witness_EnginesWorkInPairs :
    (∃ (e : Fin 8) (s : State), s.awake ∧ s.engineOut e = false ∧ s.engineOut (buddy e) = false) ∧
    (∃ (p : PageNo) (e : Fin 8) (s : State), s.awake ∧ s.engineOut e = false ∧ s.engineOut (buddy e) = false ∧ s.takes
      p (Reg.SEC_CMD e)) ∧
    (∃ (e : Fin 8) (s : State), s.awake ∧ s.engineOut e = true) ∧
    (∃ (s : State), s.awake) ∧
    (∃ (p : PageNo) (e : Fin 8) (s : State), s.takes p (Reg.SEC_CMD e) ∧ s.role e = 2) ∧
    (∃ (p : PageNo) (e : Fin 8) (s : State), s.takes p (Reg.SEC_CMD e) ∧ s.role e ≠ 2) ∧
    (∃ (p : PageNo) (e : Fin 8) (s : State), s.takes p (Reg.SEC_CMD e) ∧ (s.engineOut e = true ∨ s.engineOut (buddy e)
      = true)) :=
  ⟨⟨0, wInvoc, by decide +kernel⟩,
   ⟨0, 0, wInvoc, by decide +kernel⟩,
   ⟨0, wRetired, by decide +kernel⟩,
   ⟨wInvoc, by decide +kernel⟩,
   ⟨0, 0, wRetired, by decide +kernel⟩,
   ⟨0, 0, wInvoc, by decide +kernel⟩,
   ⟨0, 0, wRetired, by decide +kernel⟩⟩

theorem witness_MailboxesAreLoadedAndRead :
    (∃ (p : PageNo) (n : CanNo) (m : MbNo) (s : State), (
        let ws := (List.range 20).map fun j => s.rd (Reg.CFD_MB_BUF n j)
        s.takes p (Reg.CFD_MB_CMD n) ∧ lenOk (mbFdf ws) (mbLen ws) = true ∧ mbAuth ws = false ∧ s.mbState n m ≠ 3)) ∧
    (∃ (p : PageNo) (n : CanNo) (s : State), (
        let ws := (List.range 20).map fun j => s.rd (Reg.CFD_MB_BUF n j)
        s.takes p (Reg.CFD_MB_CMD n) ∧ lenOk (mbFdf ws) (mbLen ws) = false)) ∧
    (∃ (p : PageNo) (n : CanNo) (s : State), s.takes p (Reg.CFD_MB_CMD n)) :=
  ⟨⟨0, 0, 1, wMbBuf 8 0 0, by decide +kernel⟩,
   ⟨0, 0, wMbBuf 9 0 0, by decide +kernel⟩,
   ⟨0, 0, wMbBuf 9 0 0, by decide +kernel⟩⟩

theorem witness_MailboxMasks :
    (∃ (p : PageNo) (n : CanNo) (s : State), s.takes p (Reg.CFD_TX_REQ_LO n)) ∧
    (∃ (p : PageNo) (n : CanNo) (s : State), s.takes p (Reg.CFD_TX_CANCEL_LO n)) ∧
    (∃ (p : PageNo) (n : CanNo) (s : State), s.takes p (Reg.CFD_TX_RESUME_LO n)) :=
  ⟨⟨0, 0, wMbs, by decide +kernel⟩,
   ⟨0, 0, wMbs, by decide +kernel⟩,
   ⟨0, 0, wMbs, by decide +kernel⟩⟩

theorem witness_FramesAreSentAndEnd :
    (∃ (n : CanNo) (s : State), s.awake ∧ s.canMaySend n = true ∧ s.mtxRuns n = false ∧ (s.canU n).mtx.window = none ∧
      (s.canU n).receiving = false ∧ (∀ ws ∈ (s.canU n).gwq, mbFdf ws = false ∨ s.fdEn n = true) ∧ (∃ m : MbNo,
      s.mbState n m = 2) ∧ (∀ m : MbNo, s.mbState n m = 2 → s.mbSendable n m = true)) ∧
    (∃ (n : CanNo) (o : OnBus) (m : MbNo) (s : State), s.awake ∧ s.staged = [] ∧ (s.canU n).onBus = some o ∧ o.mb =
      some m.val ∧ o.cancel = false ∧ o.exclusive = false ∧ o.refCycle = none ∧ o.observed = false ∧ (s.mb n m).held =
      none ∧ s.errState n = 0 ∧ s.fld (Reg.CFD_ERRC_TEC n) ≤ 127 ∧ s.fld (Reg.CFD_ERRC_REC n) ≤ 127) ∧
    (∃ (n : CanNo) (o : OnBus) (m : MbNo) (s : State), s.awake ∧ s.staged = [] ∧ (s.canU n).onBus = some o ∧ o.mb =
      some m.val ∧ o.cancel = false ∧ o.exclusive = false ∧ o.refCycle = none ∧ o.observed = false ∧ (s.mb n m).held =
      none ∧ s.errState n = 0 ∧ s.fld (Reg.CFD_ERRC_TEC n) ≤ 127 ∧ s.fld (Reg.CFD_ERRC_REC n) ≤ 127 ∧ mbFdf o.words =
      false) ∧
    (∃ (n : CanNo) (o : OnBus) (m : MbNo) (s : State) (k : BusErrKind), s.awake ∧ s.staged = [] ∧ (s.canU n).onBus =
      some o ∧ o.mb = some m.val ∧ o.cancel = false ∧ o.exclusive = false ∧ o.refCycle = none ∧ o.observed = false ∧
      (s.mb n m).held = none ∧ s.errState n = 0 ∧ s.fld (Reg.CFD_ERRC_TEC n) ≤ 127 ∧ s.fld (Reg.CFD_ERRC_REC n) ≤ 127
      ∧ k ≠ .res ∧ s.running (Reg.canUnit n) = true ∧ s.canMode n = 1) :=
  ⟨⟨0, wSof, by decide +kernel⟩,
   ⟨0, { mb := some 1, words := mbWords 0x10 8 0 }, 1, wOn 0 0 127, by decide +kernel⟩,
   ⟨0, { mb := some 1, words := mbWords 0x10 8 0 }, 1, wOn 0 0 127, by decide +kernel⟩,
   ⟨0, { mb := some 1, words := mbWords 0x10 8 0 }, 1, wOn 0 0 127, BusErrKind.ack, by decide +kernel⟩⟩

theorem witness_BusOffAndRecovery :
    (∃ (n : CanNo) (s : State), s.awake ∧ s.staged = [] ∧ s.running (Reg.canUnit n) = true ∧ s.canMode n = 1 ∧
      s.errState n = 1 ∧ 247 < s.fld (Reg.CFD_ERRC_TEC n) ∧ s.fld (Reg.CFD_RECOV_BO_LIMIT n) = 0) ∧
    (∃ (n : CanNo) (s : State) (since : _), s.awake ∧ s.errState n = 2 ∧ (s.canU n).boWait = .delay since ∧ since +
      s.fld (Reg.CFD_RECOV_DELAY_MS n) * 65536000000 ≤ s.tb.local16) ∧
    (∃ (p : PageNo) (n : CanNo) (s : State), s.takes p (Reg.CFD_CMD n) ∧ s.errState n = 2 ∧ (s.canU n).boWait =
      .manual) ∧
    (∃ (p : PageNo) (n : CanNo) (s : State), s.takes p (Reg.CFD_CMD n) ∧ s.errState n ≠ 2) ∧
    (∃ (p : PageNo) (n : CanNo) (s : State), s.takes p (Reg.CFD_CMD n)) ∧
    (∃ (n : CanNo) (s : State), s.awake ∧ s.errState n = 2 ∧ (s.canU n).boWait = .sequence) ∧
    (∃ (n : CanNo) (s : State), s.awake ∧ s.running (Reg.canUnit n) = true ∧ s.errState n = 3) :=
  ⟨⟨0, wErrc 1 248, by decide +kernel⟩,
   ⟨0, wBoDelay (.delay 0), 0, by decide +kernel⟩,
   ⟨0, 0, wBoDelay .manual, by decide +kernel⟩,
   ⟨0, 0, wErrc 1 248, by decide +kernel⟩,
   ⟨0, 0, wErrc 1 248, by decide +kernel⟩,
   ⟨0, wBoDelay .sequence, by decide +kernel⟩,
   ⟨0, wErrc 3 128, by decide +kernel⟩⟩

theorem witness_CanFramesAreReceived :
    (∃ (n : CanNo) (f : CanFrame) (age : Nat) (s : State) (i : _), s.awake ∧ s.staged = [] ∧ s.canOnBus n = true ∧
      (s.canU n).onBus = none ∧ (s.canU n).modeWas = none ∧ s.pinsSeen (Reg.canUnit n) = true ∧ s.canMode n = 1 ∧
      s.errState n = 0 ∧ s.fld (Reg.CFD_ERRC_TEC n) ≤ 127 ∧ s.fld (Reg.CFD_ERRC_REC n) ≤ 127 ∧ (f.fdf = false ∨ s.fdEn
      n = true) ∧ s.mtxNext n = none ∧ s.policies (s.rd Reg.STR_GEN) = [] ∧ s.fld (Reg.CFD_RXQ_STATE_LEVEL n) = 0 ∧
      s.acceptBy (s.genAt (s.tb.local16 - age * 65536)) n f = some i ∧ bitOf (s.afW (s.genAt (s.tb.local16 - age *
      65536)) n i 2) 15 = false ∧ bitOf (s.afW (s.genAt (s.tb.local16 - age * 65536)) n i 2) 16 = true) ∧
    (∃ (n : CanNo) (f : CanFrame) (age : Nat) (s : State), s.awake ∧ s.staged = [] ∧ s.canOnBus n = true ∧ (s.canU
      n).onBus = none ∧ (s.canU n).modeWas = none ∧ s.pinsSeen (Reg.canUnit n) = true ∧ s.canMode n = 1 ∧ s.errState n
      = 0 ∧ s.fld (Reg.CFD_ERRC_TEC n) ≤ 127 ∧ s.fld (Reg.CFD_ERRC_REC n) ≤ 127 ∧ (f.fdf = false ∨ s.fdEn n = true) ∧
      s.mtxNext n = none ∧ s.policies (s.rd Reg.STR_GEN) = [] ∧ s.fld (Reg.CFD_RXQ_STATE_LEVEL n) = 0 ∧ s.acceptBy
      (s.genAt (s.tb.local16 - age * 65536)) n f = none) :=
  ⟨⟨0, aFrame, 0, wRx 0, 4, by decide +kernel⟩,
   ⟨0, aFrame, 0, wRxNone, by decide +kernel⟩⟩

theorem witness_MatricesRun :
    (∃ (p : PageNo) (n : CanNo) (s : State), (
        let x := (s.canU n).mtx
        s.takes p (Reg.CFD_MTX_CMD n) ∧ x.pending = true)) ∧
    (∃ (p : PageNo) (n : CanNo) (s : State), (
        let x := (s.canU n).mtx
        s.takes p (Reg.CFD_MTX_CMD n) ∧ x.pending = false)) ∧
    (∃ (p : PageNo) (n : CanNo) (s : State), s.takes p (Reg.CFD_MTX_CMD n)) ∧
    (∃ (n : CanNo) (s : State) (d : _), (
        let x := (s.canU n).mtx
        s.awake ∧ x.pending = true ∧ x.armed = true ∧ x.takeDue = some d ∧ d * 65536 ≤ s.disc16)) ∧
    (∃ (n : CanNo) (s : State) (b : _), (
        let x := (s.canU n).mtx
        s.awake ∧ x.pending = false ∧ x.active = true ∧ x.src ≤ 1 ∧ x.cycle = some b ∧ x.wanted = none ∧ x.start16 +
        x.cycleNs * 65536 ≤ s.tb.local16)) ∧
    (∃ (n : CanNo) (s : State) (b : _) (w : Fin 32), (
        let x := (s.canU n).mtx
        s.awake ∧ x.active = true ∧ x.cycle = some b ∧ x.window = none ∧ x.winType b w ≠ 0 ∧ x.rephased = false ∧
        x.wanted = none ∧ x.start16 + (x.winSpan b w).1 ≤ s.tb.local16)) ∧
    (∃ (n : CanNo) (s : State) (b : _), (
        let x := (s.canU n).mtx
        s.awake ∧ x.active = true ∧ x.src = 2 ∧ x.cycle = some b ∧ 2 * x.start16 + 3 * (x.cycleNs * 65536) ≤ 2 *
        s.tb.local16)) :=
  ⟨⟨0, 0, wMtx mtxPending 0, by decide +kernel⟩,
   ⟨0, 0, wMtx mtxCycle 10, by decide +kernel⟩,
   ⟨0, 0, wMtx mtxPending 0, by decide +kernel⟩,
   ⟨0, wMtx mtxArmed 1, 1000, by decide +kernel⟩,
   ⟨0, wMtx mtxCycle 10, 0, by decide +kernel⟩,
   ⟨0, wMtx mtxWindow 0, 0, 0, by decide +kernel⟩,
   ⟨0, wMtx mtxRef 15, 0, by decide +kernel⟩⟩

theorem witness_ResynchronisationFramesAreSent :
    (∃ (i : Fin 1024) (n : CanNo) (s : State), (
        let g := s.rd Reg.STR_GEN
        let ms := bits (s.polW g i 5) 0 16
        s.awake ∧ bitOf (s.polW g i 0) 2 = true ∧ s.polKind g i = 1 ∧ bitOf (s.polW g i 4) 30 = true ∧ ms ≠ 0 ∧
        s.polUnit g i n = true ∧ (s.pol i).resync = [] ∧ ms * 65536000000 ≤ s.tb.local16 ∧ s.keyUsable (s.polSlot g i)
        = true)) ∧
    (∃ (i : Fin 1024) (n : CanNo) (s : State), (
        let g := s.rd Reg.STR_GEN
        let ms := bits (s.polW g i 5) 0 16
        s.awake ∧ bitOf (s.polW g i 0) 2 = true ∧ s.polKind g i = 1 ∧ bitOf (s.polW g i 4) 30 = true ∧ ms ≠ 0 ∧
        s.polUnit g i n = true ∧ (s.pol i).resync = [] ∧ ms * 65536000000 ≤ s.tb.local16 ∧ s.keyUsable (s.polSlot g i)
        = false)) :=
  ⟨⟨1, 0, wResync 1, by decide +kernel⟩,
   ⟨1, 0, wResync 0, by decide +kernel⟩⟩

theorem witness_CharactersAreReceived :
    (∃ (n : LaneNo) (s : State), s.awake ∧ s.staged = [] ∧ s.hears n = true ∧ s.pers n ≠ persCustom ∧ s.flag
      (Reg.SLN_MODE_FRAMED n) = false) ∧
    (∃ (n : LaneNo) (s : State), s.awake ∧ s.staged = [] ∧ s.hears n = true ∧ s.pers n ≠ persCustom ∧ s.flag
      (Reg.SLN_MODE_FRAMED n) = false ∧ (s.lane n).rx.length < 512) ∧
    (∃ (n : LaneNo) (s : State), s.awake ∧ s.staged = [] ∧ s.hears n = true ∧ s.pers n ≠ persCustom ∧ s.flag
      (Reg.SLN_MODE_FRAMED n) = true ∧ (s.lane n).hunting = false ∧ ((s.lane n).buf.length + 1) * s.itemBytes n ≤
      s.laneMax n) ∧
    (∃ (n : LaneNo) (s : State) (l : _), s.awake ∧ s.staged = [] ∧ s.hears n = true ∧ s.pers n ≠ persCustom ∧ s.flag
      (Reg.SLN_MODE_FRAMED n) = true ∧ (s.lane n).hunting = false ∧ (s.lane n).buf ≠ [] ∧ (s.lane n).lastChar16 = some
      l ∧ (s.lane n).idleDone = false ∧ 2 * l + (s.stopHalves n + 2 * (if s.fld (Reg.SLN_IDLE_IDLE_BITS n) = 0 then 20
      else s.fld (Reg.SLN_IDLE_IDLE_BITS n))) * s.laneBit16 n ≤ 2 * s.tb.local16 ∧ s.laneMin n ≤ (s.lane n).buf.length
      * s.itemBytes n ∧ (s.lane n).rx.length + (s.lane n).buf.length ≤ 512 ∧ s.flag (Reg.SLN_CHAIN_CHAIN_EN n 0) =
      false) ∧
    (∃ (n : LaneNo) (s : State), (
        let cell := s.smWord n (16 * s.smState n + 14)
        s.awake ∧ s.staged = [] ∧ s.hears n = true ∧ s.pers n = persCustom ∧ s.fld (Reg.SLN_IDLE_FRAME_TMO n) ≠ 0 ∧
        s.smState n ≠ 0 ∧ (s.lane n).tmo16 + s.fld (Reg.SLN_IDLE_FRAME_TMO n) * s.laneBit16 n ≤ s.tb.local16 ∧ bits
        cell 22 4 = 0 ∧ bitOf cell 11 = false)) :=
  ⟨⟨0, wUart 0, by decide +kernel⟩,
   ⟨0, wUart 0, by decide +kernel⟩,
   ⟨0, wFramed, by decide +kernel⟩,
   ⟨0, wIdle 12812, 0, by decide +kernel⟩,
   ⟨0, wCustom, by decide +kernel⟩⟩

theorem witness_LanesTransmit :
    (∃ (p : PageNo) (n : LaneNo) (s : State), s.takes p (Reg.SLN_TX_PUSH n) ∧ s.laneSends n = true ∧ (s.lane
      n).tx.length + (s.lane n).txOut < 512) ∧
    (∃ (p : PageNo) (n : LaneNo) (s : State), s.takes p (Reg.SLN_TX_PUSH n) ∧ (s.laneSends n = false ∨ 512 ≤ (s.lane
      n).tx.length)) ∧
    (∃ (n : LaneNo) (s : State) (w : _) (ws : _), s.awake ∧ s.staged = [] ∧ s.laneRuns n = true ∧ s.pers n = persUart
      ∧ s.ctsHolds n = false ∧ (s.lane n).tx = w :: ws) ∧
    (∃ (n : LaneNo) (s : State) (l : _), s.awake ∧ (s.lane n).lag16 = some l ∧ l + s.fld (Reg.SLN_DE_DE_LAG n) *
      6553600 ≤ s.tb.local16) ∧
    (∃ (p : PageNo) (n : LaneNo) (s : State), s.takes p (Reg.SLN_CMD n)) ∧
    (∃ (p : PageNo) (n : LaneNo) (s : State), s.takes p (Reg.SLN_CMD n) ∧ (s.lane n).line = none) ∧
    (∃ (p : PageNo) (n : LaneNo) (s : State), s.takes p (Reg.SLN_CMD n) ∧ (s.lane n).line ≠ none ∧ s.staged = [] ∧
      s.pers n ≠ persSpiCtl) ∧
    (∃ (s : State), s.awake) :=
  ⟨⟨0, 0, wTx 1 [], by decide +kernel⟩,
   ⟨0, 0, wTx 512 [], by decide +kernel⟩,
   ⟨0, wTx 1 [], 0x10000041, [], by decide +kernel⟩,
   ⟨0, wDe, 0, by decide +kernel⟩,
   ⟨0, 0, wTx 1 [], by decide +kernel⟩,
   ⟨0, 0, wTx 1 [], by decide +kernel⟩,
   ⟨0, 0, wTxMore, by decide +kernel⟩,
   ⟨wTx 1 [], by decide +kernel⟩⟩

theorem witness_LinFramesRun :
    (∃ (n : LaneNo) (s : State) (d : _), (
        let w := s.linSlot n (s.lane n).sched (s.lane n).slot
        s.awake ∧ s.staged = [] ∧ s.laneRuns n = true ∧ s.pers n = persLinCmd ∧ (s.lane n).slotDue16 = some d ∧ d ≤
        s.tb.local16 ∧ s.flag (Reg.SLN_LIN_CTRL_RUN n) = true ∧ bits w 8 16 ≠ 0)) ∧
    (∃ (n : LaneNo) (s : State) (brk : Nat), s.awake ∧ s.staged = [] ∧ s.laneRuns n = true ∧ brk < 11) ∧
    (∃ (n : LaneNo) (s : State) (pid : Byte) (div : BitVec 24) (brk : Nat), s.awake ∧ s.staged = [] ∧ s.laneRuns n =
      true ∧ s.pers n = persLinResp ∧ s.pinsSeen (Reg.laneUnit n) = true ∧ 11 ≤ brk ∧ linPid (pid.toNat % 64) =
      pid.toNat ∧ (s.lane n).lin = none ∧ s.linDir n (pid.toNat % 64) = 1 ∧ 100 * ((div.toNat : Int) - s.fld
      (Reg.SLN_BAUD_BAUD_DIV n)).natAbs ≤ 15 * s.fld (Reg.SLN_BAUD_BAUD_DIV n)) ∧
    (∃ (n : LaneNo) (s : State) (pid : Byte) (brk : Nat), s.awake ∧ s.staged = [] ∧ s.laneRuns n = true ∧ s.pers n =
      persLinResp ∧ s.pinsSeen (Reg.laneUnit n) = true ∧ 11 ≤ brk ∧ linPid (pid.toNat % 64) ≠ pid.toNat) ∧
    (∃ (n : LaneNo) (s : State) (f : LinFrame) (data : List Byte) (sum : Byte), s.awake ∧ s.staged = [] ∧ s.laneRuns n
      = true ∧ (s.lane n).lin = some f ∧ f.response = none ∧ s.pinsSeen (Reg.laneUnit n) = true ∧ s.tb.local16 ≤
      s.linDeadline n f ∧ s.linDir n f.ident = 1 ∧ data.length = s.linLen n f.ident ∧ sum = linChecksum f.ident data ∧
      (s.lane n).rx.length + data.length ≤ 512) ∧
    (∃ (n : LaneNo) (s : State) (f : LinFrame) (data : List Byte) (sum : Byte), s.awake ∧ s.staged = [] ∧ s.laneRuns n
      = true ∧ (s.lane n).lin = some f ∧ f.response = none ∧ s.pinsSeen (Reg.laneUnit n) = true ∧ s.tb.local16 ≤
      s.linDeadline n f ∧ s.linDir n f.ident = 1 ∧ data.length = s.linLen n f.ident ∧ sum ≠ linChecksum f.ident data ∧
      s.flag (Reg.SLN_MODE_KEEP_BAD n) = false) ∧
    (∃ (n : LaneNo) (s : State) (f : _), s.awake ∧ s.staged = [] ∧ s.laneRuns n = true ∧ (s.lane n).lin = some f ∧
      s.linDeadline n f < s.tb.local16) :=
  ⟨⟨0, wLinCmd, 64, by decide +kernel⟩,
   ⟨0, wLinResp, 10, by decide +kernel⟩,
   ⟨0, wLinResp, 0xC1, 1840, 11, by decide +kernel⟩,
   ⟨0, wLinResp, 0x01, 11, by decide +kernel⟩,
   ⟨0, wLinOpen 0, linOpen, [1, 2], linChecksum 1 [1, 2], by decide +kernel⟩,
   ⟨0, wLinOpen 0, linOpen, [1, 2], BitVec.ofNat 8 0, by decide +kernel⟩,
   ⟨0, wLinOpen 4200000, linOpen, by decide +kernel⟩⟩

theorem witness_SpiAndSent :
    (∃ (n : LaneNo) (s : State) (w : Word) (ws : _), s.awake ∧ s.staged = [] ∧ s.laneRuns n = true ∧ s.pinsSeen
      (Reg.laneUnit n) = true ∧ (s.lane n).rx.length < 511 ∧ s.flag (Reg.SLN_MODE_FRAMED n) = false ∧ s.pers n =
      persSpiCtl ∧ (s.lane n).tx = w :: ws ∧ bitOf w.toNat 28 = false) ∧
    (∃ (n : LaneNo) (s : State) (w : Word) (ws : _), s.awake ∧ s.staged = [] ∧ s.laneRuns n = true ∧ s.pinsSeen
      (Reg.laneUnit n) = true ∧ (s.lane n).rx.length < 511 ∧ s.flag (Reg.SLN_MODE_FRAMED n) = false ∧ s.pers n =
      persSpiTgt ∧ (s.lane n).tx = w :: ws) ∧
    (∃ (n : LaneNo) (s : State), s.awake ∧ s.staged = [] ∧ s.laneRuns n = true ∧ s.pinsSeen (Reg.laneUnit n) = true ∧
      (s.lane n).rx.length < 511 ∧ s.flag (Reg.SLN_MODE_FRAMED n) = false ∧ s.pers n = persSpiTgt ∧ (s.lane n).tx =
      []) ∧
    (∃ (n : LaneNo) (s : State), s.awake ∧ s.staged = [] ∧ s.laneRuns n = true ∧ s.pinsSeen (Reg.laneUnit n) = true ∧
      (s.lane n).rx.length < 511 ∧ s.pers n = persSpiTgt ∧ (s.lane n).buf = []) ∧
    (∃ (n : LaneNo) (s : State) (tick : Nat) (v : Nat) (c : Nat) (ds : List Nat) (pause : List Nat), (
        let nom := max 30 (min 900 (s.fld (Reg.SLN_SENT_TICK n))) * 100
        s.awake ∧ s.staged = [] ∧ s.laneRuns n = true ∧ s.pinsSeen (Reg.laneUnit n) = true ∧ (s.lane n).rx.length <
        511 ∧ s.pers n = persSent ∧ s.flag (Reg.SLN_SENT_SLOW n) = false ∧ s.flag (Reg.SLN_CHAIN_CHAIN_EN n 0) = false
        ∧ pause.length = (if s.flag (Reg.SLN_SENT_PAUSE n) then 1 else 0) ∧ 3 * nom ≤ 4 * tick ∧ 4 * tick ≤ 5 * nom ∧
        v < 16 ∧ c < 16 ∧ (∀ d ∈ ds, d < 16) ∧ (ds.length = (if s.fld (Reg.SLN_SENT_NIBBLES n) = 0 ∨ s.fld
        (Reg.SLN_SENT_NIBBLES n) = 7 then 6 else s.fld (Reg.SLN_SENT_NIBBLES n))) ∧ c = sentCrc (s.flag
        (Reg.SLN_SENT_CRC_LEGACY n)) ds)) ∧
    (∃ (n : LaneNo) (s : State) (tick : Nat) (v : Nat) (c : Nat) (ds : List Nat) (pause : List Nat), (
        let nom := max 30 (min 900 (s.fld (Reg.SLN_SENT_TICK n))) * 100
        s.awake ∧ s.staged = [] ∧ s.laneRuns n = true ∧ s.pinsSeen (Reg.laneUnit n) = true ∧ (s.lane n).rx.length <
        511 ∧ s.pers n = persSent ∧ s.flag (Reg.SLN_SENT_SLOW n) = false ∧ s.flag (Reg.SLN_CHAIN_CHAIN_EN n 0) = false
        ∧ pause.length = (if s.flag (Reg.SLN_SENT_PAUSE n) then 1 else 0) ∧ 3 * nom ≤ 4 * tick ∧ 4 * tick ≤ 5 * nom ∧
        v < 16 ∧ c < 16 ∧ (∀ d ∈ ds, d < 16) ∧ (ds.length = (if s.fld (Reg.SLN_SENT_NIBBLES n) = 0 ∨ s.fld
        (Reg.SLN_SENT_NIBBLES n) = 7 then 6 else s.fld (Reg.SLN_SENT_NIBBLES n))) ∧ c ≠ sentCrc (s.flag
        (Reg.SLN_SENT_CRC_LEGACY n)) ds ∧ s.flag (Reg.SLN_MODE_KEEP_BAD n) = false)) :=
  ⟨⟨0, wSpi 4 [0x41], 0x41, [], by decide +kernel⟩,
   ⟨0, wSpi 5 [0x41], 0x41, [], by decide +kernel⟩,
   ⟨0, wSpi 5 [], by decide +kernel⟩,
   ⟨0, wSpi 5 [0x41], by decide +kernel⟩,
   ⟨0, wSent, 2250, 15, sentCrc false [1, 2, 3], [1, 2, 3], [], by decide +kernel⟩,
   ⟨0, wSent, 2250, 15, (sentCrc false [1, 2, 3] + 1) % 16, [1, 2, 3], [], by decide +kernel⟩⟩

theorem witness_BanksFollowLinesAndCells :
    (∃ (b : BankNo) (l : Fin 8) (s : State) (level : _) (age : _), s.awake ∧ s.running (Reg.bankUnit b) = true ∧ age <
      s.debNs b l ∧ (level = true → s.pinsSeen (Reg.bankUnit b) = true)) ∧
    (∃ (b : BankNo) (l : Fin 8) (s : State) (level : _) (age : _), s.awake ∧ s.running (Reg.bankUnit b) = true ∧ bitOf
      (s.fld (Reg.DSC_LEVEL_LEVEL b)) l ≠ level ∧ s.debNs b l ≤ age ∧ (level = true → s.pinsSeen (Reg.bankUnit b) =
      true)) ∧
    (∃ (b : BankNo) (l : Fin 8) (s : State), s.awake ∧ s.running (Reg.bankUnit b) = true ∧ Reg.bankUnit b ∈
      s.sig.refresh ∧ s.lineOut b l = true ∧ s.fromCell b l = true ∧ s.latched b l = false) :=
  ⟨⟨0, 7, regsAre [(Reg.DSC_DEB_HI 0, 2 ^ 25)] wEdge, true, 19, by decide +kernel⟩,
   ⟨0, 7, regsAre [(Reg.DSC_DEB_HI 0, 2 ^ 25)] wEdge, true, 20, by decide +kernel⟩,
   ⟨0, 7, wFromCell 0, by decide +kernel⟩⟩

theorem witness_FramesEnterTheSwitch :
    (∃ (port : PortNo) (s : State), s.awake ∧ (port.val = 20 ∨ port.val = 21)) ∧
    (∃ (port : PortNo) (f : EthFrame) (s : State), s.awake ∧ port.val ≠ 20 ∧ port.val ≠ 21 ∧ s.portTakes port = true ∧
      (s.port port).cut = none ∧ s.staged = [] ∧ f.bytes.length + 4 < 64) ∧
    (∃ (port : PortNo) (f : EthFrame) (s : State), s.awake ∧ port.val ≠ 20 ∧ port.val ≠ 21 ∧ s.portTakes port = true ∧
      (s.port port).cut = none ∧ s.staged = [] ∧ 64 ≤ f.bytes.length + 4 ∧ s.maxFrame port f.bytes < f.bytes.length +
      4) ∧
    (∃ (port : PortNo) (f : EthFrame) (q : RxQuality) (s : State), s.awake ∧ port.val ≠ 20 ∧ port.val ≠ 21 ∧
      s.portTakes port = true ∧ (s.port port).cut = none ∧ s.staged = [] ∧ 64 ≤ f.bytes.length + 4 ∧ f.bytes.length +
      4 ≤ s.maxFrame port f.bytes ∧ (q.fcsOk = false ∨ q.lineOk = false)) ∧
    (∃ (port : PortNo) (f : EthFrame) (q : RxQuality) (s : State), s.awake ∧ port.val ≠ 20 ∧ port.val ≠ 21 ∧
      s.portTakes port = true ∧ (s.port port).cut = none ∧ s.staged = [] ∧ 64 ≤ f.bytes.length + 4 ∧ f.bytes.length +
      4 ≤ s.maxFrame port f.bytes ∧ q.fcsOk = true ∧ q.lineOk = true ∧ (isMac port = true → s.macMode port = 1 ∧
      etypeOf f.bytes ≠ 0x8808) ∧ s.isOwnGptp port f.bytes = false ∧ s.panUse s.nextId = {} ∧ s.freePans < pansOf
      f.bytes) ∧
    (∃ (port : PortNo) (f : EthFrame) (q : RxQuality) (s : State), (
        let at16 := s.tb.local16 - s.wire16 port f.bytes
        let g := s.genAt at16
        s.awake ∧ port.val ≠ 20 ∧ port.val ≠ 21 ∧ s.portTakes port = true ∧ (s.port port).cut = none ∧ s.staged = [] ∧
        64 ≤ f.bytes.length + 4 ∧ f.bytes.length + 4 ≤ s.maxFrame port f.bytes ∧ q.fcsOk = true ∧ q.lineOk = true ∧
        (isMac port = true → s.macMode port = 1 ∧ etypeOf f.bytes ≠ 0x8808) ∧ s.isOwnGptp port f.bytes = false ∧
        s.panUse s.nextId = {} ∧ pansOf f.bytes ≤ s.freePans ∧ s.streamFilter g port f.bytes = none ∧ s.forwardEntry g
        f.bytes = none)) ∧
    (∃ (port : PortNo) (f : EthFrame) (q : RxQuality) (s : State) (i : _) (e : PortNo), (
        let at16 := s.tb.local16 - s.wire16 port f.bytes
        let g := s.genAt at16
        let k := if bitOf (s.fwW g i 2) 27 then bits (s.fwW g i 2) 24 3 else s.ingressQueue port f.bytes
        let hard := if s.fld (Reg.SWC_Q_LIMITS_HARD_LIMIT e k) = 0 then 49152 else s.fld (Reg.SWC_Q_LIMITS_HARD_LIMIT
            e k)
        s.awake ∧ port.val ≠ 20 ∧ port.val ≠ 21 ∧ s.portTakes port = true ∧ (s.port port).cut = none ∧ s.staged = [] ∧
        64 ≤ f.bytes.length + 4 ∧ f.bytes.length + 4 ≤ s.maxFrame port f.bytes ∧ q.fcsOk = true ∧ q.lineOk = true ∧
        (isMac port = true → s.macMode port = 1 ∧ etypeOf f.bytes ≠ 0x8808) ∧ s.isOwnGptp port f.bytes = false ∧
        s.panUse s.nextId = {} ∧ pansOf f.bytes ≤ s.freePans ∧ s.streamFilter g port f.bytes = none ∧ s.forwardEntry g
        f.bytes = some i ∧ s.fwW g i 2 % 2 ^ 24 = 2 ^ e.val ∧ e ≠ port ∧ e.val ≠ 20 ∧ e.val ≠ 21 ∧ hard < (s.queue e
        k).depth + pansOf f.bytes)) ∧
    (∃ (port : PortNo) (f : EthFrame) (q : RxQuality) (s : State) (i : _) (e : PortNo), (
        let at16 := s.tb.local16 - s.wire16 port f.bytes
        let g := s.genAt at16
        let k := if bitOf (s.fwW g i 2) 27 then bits (s.fwW g i 2) 24 3 else s.ingressQueue port f.bytes
        let hard := if s.fld (Reg.SWC_Q_LIMITS_HARD_LIMIT e k) = 0 then 49152 else s.fld (Reg.SWC_Q_LIMITS_HARD_LIMIT
            e k)
        s.awake ∧ port.val ≠ 20 ∧ port.val ≠ 21 ∧ s.portTakes port = true ∧ (s.port port).cut = none ∧ s.staged = [] ∧
        64 ≤ f.bytes.length + 4 ∧ f.bytes.length + 4 ≤ s.maxFrame port f.bytes ∧ q.fcsOk = true ∧ q.lineOk = true ∧
        (isMac port = true → s.macMode port = 1 ∧ etypeOf f.bytes ≠ 0x8808) ∧ s.isOwnGptp port f.bytes = false ∧
        s.panUse s.nextId = {} ∧ pansOf f.bytes ≤ s.freePans ∧ s.streamFilter g port f.bytes = none ∧ s.forwardEntry g
        f.bytes = some i ∧ s.fwW g i 2 % 2 ^ 24 = 2 ^ e.val ∧ e ≠ port ∧ e.val ≠ 20 ∧ e.val ≠ 21 ∧ (s.queue e k).depth
        + pansOf f.bytes ≤ hard ∧ s.fld (Reg.SWC_Q_LIMITS_MARK_TH e k) = 0)) ∧
    (∃ (port : PortNo) (f : EthFrame) (s : State) (i : _) (e : PortNo), (∀ (e' : PortNo) x l, (s.port e').sending =
      some x → x.end16 = some l → s.tb.local16 < l) ∧ (
        let at16 := s.tb.local16 - s.lineTime port (f.bytes.length + 8)
        let g := s.genAt at16
        let k := if bitOf (s.fwW g i 2) 27 then bits (s.fwW g i 2) 24 3 else s.ingressQueue port f.bytes
        s.awake ∧ port.val ≠ 20 ∧ port.val ≠ 21 ∧ s.portTakes port = true ∧ (s.port port).cut = none ∧ (isMac port =
        true → s.macMode port = 1 ∧ etypeOf f.bytes ≠ 0x8808) ∧ s.isOwnGptp port f.bytes = false ∧ s.panUse s.nextId =
        {} ∧ 1 ≤ s.freePans ∧ s.streamFilter g port f.bytes = none ∧ s.forwardEntry g f.bytes = some i ∧ s.fwW g i 2 %
        2 ^ 24 = 2 ^ e.val ∧ e ≠ port ∧ e.val ≠ 20 ∧ e.val ≠ 21 ∧ s.cutEligible port e = true ∧ bitOf (s.gates e) k =
        true ∧ s.fitsCut port e k = true)) ∧
    (∃ (port : PortNo) (f : EthFrame) (s : State) (i : _) (e : PortNo), (∀ (e' : PortNo) x l, (s.port e').sending =
      some x → x.end16 = some l → s.tb.local16 < l) ∧ (
        let at16 := s.tb.local16 - s.lineTime port (f.bytes.length + 8)
        let g := s.genAt at16
        let k := if bitOf (s.fwW g i 2) 27 then bits (s.fwW g i 2) 24 3 else s.ingressQueue port f.bytes
        s.awake ∧ port.val ≠ 20 ∧ port.val ≠ 21 ∧ s.portTakes port = true ∧ (s.port port).cut = none ∧ (isMac port =
        true → s.macMode port = 1 ∧ etypeOf f.bytes ≠ 0x8808) ∧ s.isOwnGptp port f.bytes = false ∧ s.panUse s.nextId =
        {} ∧ 1 ≤ s.freePans ∧ s.streamFilter g port f.bytes = none ∧ s.forwardEntry g f.bytes = some i ∧ s.fwW g i 2 %
        2 ^ 24 = 2 ^ e.val ∧ e ≠ port ∧ e.val ≠ 20 ∧ e.val ≠ 21 ∧ (s.cutEligible port e = false ∨ bitOf (s.gates e) k
        = false ∨ s.fitsCut port e k = false))) :=
  ⟨⟨20, wSw, by decide +kernel⟩,
   ⟨16, ethOf 59, wSw, by decide +kernel⟩,
   ⟨16, ethOf 1515, wSw, by decide +kernel⟩,
   ⟨16, ethOf 60, ⟨false, true⟩, wSw, by decide +kernel⟩,
   ⟨16, ethOf 60, ⟨true, true⟩, fldsAre [(Reg.SWC_PANS_FREE, 0)] wSw, by decide +kernel⟩,
   ⟨16, ethOf 60, ⟨true, true⟩, wSw, by decide +kernel⟩,
   ⟨16, ethOf 60, ⟨true, true⟩, wFwdFull, 0, 17, by decide +kernel⟩,
   ⟨16, ethOf 60, ⟨true, true⟩, wFwd, 0, 17, by decide +kernel⟩,
   ⟨16, ethOf 64, wCut, 0, 17, quietPorts (by decide +kernel), by decide +kernel⟩,
   ⟨16, ethOf 64, wFwd, 0, 17, quietPorts (by decide +kernel), by decide +kernel⟩⟩

theorem witness_FramesLeaveTheSwitch :
    (∃ (port : PortNo) (s : State) (x : _), (∀ l, x.end16 = some l → s.tb.local16 < l) ∧ s.awake ∧ s.ring.taken =
      s.out.length ∧ (s.port port).sending = some x) ∧
    (∃ (port : PortNo) (s : State) (x : _) (l : _), s.awake ∧ s.ring.taken = s.out.length ∧ (s.port port).sending =
      some x ∧ x.q < 8 ∧ x.end16 = some l ∧ l ≤ s.tb.local16 ∧ s.staged = [] ∧ s.queuesEmpty port = true) ∧
    (∃ (port : PortNo) (s : State) (q : Fin 8) (f : QFrame) (fs : List QFrame), s.awake ∧ (s.port port).sending = none
      ∧ s.portSends port = true ∧ s.guarded port = false ∧ bitOf (s.gates port) q = true ∧ (s.queue port q).frames = f
      :: fs ∧ f.src ≠ 23 ∧ s.ring.taken = s.out.length ∧ (∀ k : Fin 8, s.flag (Reg.SWC_Q_CFG_CBS_EN port k) = false ∧
      bitOf (s.gates port) k = true) ∧ (q.val = 7 ∨ ((s.queue port 7).frames = [] ∧ (q.val = 6 ∨ ((s.queue port
      6).frames = [] ∧ ∀ k : Fin 8, k.val < 6 → k ≠ q → (s.queue port k).frames = [] ∨ (s.queue port q).fin < (s.queue
      port k).fin ∨ ((s.queue port q).fin = (s.queue port k).fin ∧ k.val < q.val)))))) ∧
    (∃ (port : PortNo) (s : State) (q : Fin 8) (f : QFrame) (fs : List QFrame), (
        let credit := (s.queue port q).credit + (s.rd (Reg.SWC_Q_IDLESLOPE port q)).toNat * (s.tb.local16 - (s.queue
            port q).creditAt16 : Nat)
        s.awake ∧ (s.port port).sending = none ∧ s.portSends port = true ∧ s.guarded port = false ∧ bitOf (s.gates
        port) q = true ∧ (s.queue port q).frames = f :: fs ∧ f.src ≠ 23 ∧ s.flag (Reg.SWC_Q_CFG_CBS_EN port q) = true
        ∧ (∀ k : Fin 8, k ≠ q → (s.queue port k).frames = []) ∧ 0 ≤ credit)) ∧
    (∃ (port : PortNo) (s : State) (q : Fin 8) (f : QFrame) (fs : List QFrame), (
        let credit := (s.queue port q).credit + (s.rd (Reg.SWC_Q_IDLESLOPE port q)).toNat * (s.tb.local16 - (s.queue
            port q).creditAt16 : Nat)
        s.awake ∧ (s.port port).sending = none ∧ s.portSends port = true ∧ s.guarded port = false ∧ bitOf (s.gates
        port) q = true ∧ (s.queue port q).frames = f :: fs ∧ f.src ≠ 23 ∧ s.flag (Reg.SWC_Q_CFG_CBS_EN port q) = true
        ∧ (∀ k : Fin 8, k ≠ q → (s.queue port k).frames = []) ∧ credit < 0)) ∧
    (∃ (s : State) (p : PageNo), s.awake ∧ s.takes p Reg.SWC_CMD) ∧
    (∃ (port : PortNo) (s : State), (
        let us := if s.fld (Reg.SWC_P_SAMPLE_SAMPLE_US port) = 0 then 100 else s.fld (Reg.SWC_P_SAMPLE_SAMPLE_US port)
        s.awake ∧ s.tb.local16 < (s.port port).lastSample16 + min 1000 us * 65536000)) ∧
    (∃ (port : PortNo) (s : State), (
        let us := if s.fld (Reg.SWC_P_SAMPLE_SAMPLE_US port) = 0 then 100 else s.fld (Reg.SWC_P_SAMPLE_SAMPLE_US port)
        let window := if s.fld (Reg.SWC_P_SAMPLE_WINDOW port) = 0 then 1000 else s.fld (Reg.SWC_P_SAMPLE_WINDOW port)
        s.awake ∧ (s.port port).lastSample16 + min 1000 us * 65536000 ≤ s.tb.local16 ∧ (∀ q : Fin 8, (s.queue port
        q).samples.length + 1 < window))) ∧
    (∃ (port : PortNo) (s : State) (m : MacNo), s.awake ∧ port.val = m.val ∧ (s.port m).cut = none ∧ s.flag
      (Reg.EMC_LINK_UP m) = false ∧ s.laneServes (16 + m) = true) ∧
    (∃ (port : PortNo) (s : State) (m : MacNo), s.awake ∧ port.val = m.val ∧ (s.port m).cut = none ∧ s.flag
      (Reg.EMC_LINK_UP m) = true) ∧
    (∃ (port : PortNo) (s : State) (m : MacNo), s.awake ∧ port.val = m.val ∧ s.flag (Reg.EMC_LINK_UP m) = false) ∧
    (∃ (port : PortNo) (s : State) (m : MacNo), s.awake ∧ port.val = m.val ∧ s.flag (Reg.EMC_MODE_EEE_EN m) = true ∧
      s.flag (Reg.EMC_LINK_UP m) = true ∧ s.flag (Reg.SWC_P_STATUS_LPI m) = false ∧ s.queuesEmpty m = true ∧ (s.port
      m).sending = none ∧ (s.port m).idle16 + (if s.fld (Reg.EMC_EEE_IDLE m) = 0 then 100 else s.fld (Reg.EMC_EEE_IDLE
      m)) * 65536000 ≤ s.tb.local16) ∧
    (∃ (port : PortNo) (s : State) (m : MacNo) (w : _), s.awake ∧ port.val = m.val ∧ (s.port m).wake16 = some w ∧ w ≤
      s.tb.local16 ∧ s.flag (Reg.SWC_P_STATUS_LPI m) = true ∧ s.staged = []) ∧
    (∃ (port : PortNo) (s : State) (m : MacNo), s.awake ∧ port.val = m.val) :=
  ⟨⟨17, wSending false 6553600001, aSending false 6553600001, allSome (by decide +kernel), by decide +kernel⟩,
   ⟨17, wSending false 1000, aSending false 1000, 1000, by decide +kernel⟩,
   ⟨17, wQueues [(7,0),(6,0),(3,0)], 7, aQ 8, [], by decide +kernel⟩,
   ⟨17, wCbs 0, 3, aQ 1, [], by decide +kernel⟩,
   ⟨17, wCbs (-6553600001), 3, aQ 1, [], by decide +kernel⟩,
   ⟨wQueues [(7,0),(6,0),(3,0)], 0, by decide +kernel⟩,
   ⟨17, atUs 99 wSw, by decide +kernel⟩,
   ⟨17, wQueues [(7,0),(6,0),(3,0)], by decide +kernel⟩,
   ⟨0, wQueues [(7,0),(6,0),(3,0)], 0, by decide +kernel⟩,
   ⟨0, wMac [(Reg.EMC_LINK_UP 0,1)], 0, by decide +kernel⟩,
   ⟨0, wQueues [(7,0),(6,0),(3,0)], 0, by decide +kernel⟩,
   ⟨0, wLpi, 0, by decide +kernel⟩,
   ⟨0, wLpiTx, 0, 64, by decide +kernel⟩,
   ⟨0, wQueues [(7,0),(6,0),(3,0)], 0, by decide +kernel⟩⟩

theorem witness_SluiceListsRun :
    (∃ (p : PageNo) (port : Fin 22) (s : State), s.takes p (Reg.SWC_P_LIST_CMD port) ∧ s.pendAction port = true) ∧
    (∃ (p : PageNo) (port : Fin 22) (s : State), s.takes p (Reg.SWC_P_LIST_CMD port) ∧ s.pendAction port = false ∧
      (s.port port).list.pending = true) ∧
    (∃ (p : PageNo) (port : Fin 22) (s : State), s.takes p (Reg.SWC_P_LIST_CMD port)) ∧
    (∃ (port : Fin 22) (s : State) (x : Takeover) (own : Bool), ((∃ l, (s.port port).list.sealedTake = some
      { at16 := l, take := x, own := own } ∧ l ≤ s.tb.local16) ∨ ((s.port port).list.sealedTake = none ∧ own = true ∧
      (s.port port).list.pending = true ∧ (s.port port).list.take = some x ∧ x.due * 65536 ≤ s.disc16)) ∧ s.awake ∧
      x.late = false) ∧
    (∃ (port : Fin 22) (s : State) (x : Takeover) (own : Bool), ((∃ l, (s.port port).list.sealedTake = some
      { at16 := l, take := x, own := own } ∧ l ≤ s.tb.local16) ∨ ((s.port port).list.sealedTake = none ∧ own = true ∧
      (s.port port).list.pending = true ∧ (s.port port).list.take = some x ∧ x.due * 65536 ≤ s.disc16)) ∧ s.awake ∧
      x.late = false) ∧
    (∃ (port : Fin 22) (s : State) (e : _), s.awake ∧ (s.port port).list.active = true ∧ (s.port port).list.end16 =
      some e ∧ s.tb.local16 < e) ∧
    (∃ (port : Fin 22) (s : State) (e : _), s.awake ∧ (s.port port).list.active = true ∧ (s.port port).list.end16 =
      some e ∧ e ≤ s.tb.local16 ∧ (s.port port).list.resume = none ∧ (s.port port).list.entry + 1 < (s.port
      port).list.count ∧ e < (s.port port).list.start16 + (s.port port).list.cycleNs * 65536) :=
  ⟨⟨0, 0, wListAction, by decide +kernel⟩,
   ⟨0, 0, wList {pending := true}, by decide +kernel⟩,
   ⟨0, 0, wListAction, by decide +kernel⟩,
   ⟨0, wList { pending := true, take := some aTake }, aTake, true, Or.inr (by decide +kernel), by decide +kernel⟩,
   ⟨0, wList { pending := true, sealedTake := some { at16 := 64, take := aTake, own := false } }, aTake, false, Or.inl
     ⟨64, by decide +kernel⟩, by decide +kernel⟩,
   ⟨0, wList (listTwo 6553600001), 6553600001, by decide +kernel⟩,
   ⟨0, wList (listTwo 64), 64, by decide +kernel⟩⟩

theorem witness_RingFramesCircle :
    (∃ (k : Fin 2) (s : State), s.awake ∧ s.ringUp k = false ∧ s.ringOn = true ∧ s.laneServes (12 + k) = true) ∧
    (∃ (k : Fin 2) (s : State), s.awake ∧ s.ringUp k = true) ∧
    (∃ (k : Fin 2) (s : State), s.awake ∧ s.ringUp k = false) ∧
    (∃ (k : Fin 2) (s : State) (f : EthFrame), s.awake ∧ s.ringOn = true ∧ s.ringUp k = true ∧ s.flag
      Reg.SWC_BSTAT_RUN = true ∧ s.staged = [] ∧ (s.port (20 + k)).cut = none ∧ s.panUse s.nextId = {} ∧ 64 ≤
      f.bytes.length + 4 ∧ f.bytes.length + 4 ≤ s.maxFrame (20 + k) f.bytes ∧ isGptp f.bytes = false) ∧
    (∃ (k : Fin 2) (s : State) (f : EthFrame), s.awake ∧ s.ringOn = true ∧ s.ringUp k = true ∧ s.flag
      Reg.SWC_BSTAT_RUN = true ∧ s.staged = [] ∧ (s.port (20 + k)).cut = none ∧ s.panUse s.nextId = {} ∧ 64 ≤
      f.bytes.length + 4 ∧ f.bytes.length + 4 ≤ s.maxFrame (20 + k) f.bytes ∧ isGptp f.bytes = false ∧ be16At f.bytes
      12 ≠ s.ringEtype) ∧
    (∃ (k : Fin 2) (s : State) (f : EthFrame), (
        let w := tagWord f.bytes
        s.awake ∧ s.ringOn = true ∧ s.ringUp k = true ∧ s.flag Reg.SWC_BSTAT_RUN = true ∧ s.staged = [] ∧ (s.port (20
        + k)).cut = none ∧ s.panUse s.nextId = {} ∧ 64 ≤ f.bytes.length + 4 ∧ f.bytes.length + 4 ≤ s.maxFrame (20 + k)
        f.bytes ∧ isGptp f.bytes = false ∧ be16At f.bytes 12 = s.ringEtype ∧ pansOf f.bytes ≤ s.freePans ∧ bits w 22 2
        = 3)) ∧
    (∃ (k : Fin 2) (s : State) (f : EthFrame), (
        let w := tagWord f.bytes
        let src := bits w 26 6
        s.awake ∧ s.ringOn = true ∧ s.ringUp k = true ∧ s.flag Reg.SWC_BSTAT_RUN = true ∧ s.staged = [] ∧ (s.port (20
        + k)).cut = none ∧ s.panUse s.nextId = {} ∧ 64 ≤ f.bytes.length + 4 ∧ f.bytes.length + 4 ≤ s.maxFrame (20 + k)
        f.bytes ∧ isGptp f.bytes = false ∧ be16At f.bytes 12 = s.ringEtype ∧ pansOf f.bytes ≤ s.freePans ∧ bits w 22 2
        < 2 ∧ src = s.node)) ∧
    (∃ (k : Fin 2) (s : State) (f : EthFrame), (
        let w := tagWord f.bytes
        let src := bits w 26 6
        s.awake ∧ s.ringOn = true ∧ s.ringUp k = true ∧ s.flag Reg.SWC_BSTAT_RUN = true ∧ s.staged = [] ∧ (s.port (20
        + k)).cut = none ∧ s.panUse s.nextId = {} ∧ 64 ≤ f.bytes.length + 4 ∧ f.bytes.length + 4 ≤ s.maxFrame (20 + k)
        f.bytes ∧ isGptp f.bytes = false ∧ be16At f.bytes 12 = s.ringEtype ∧ pansOf f.bytes ≤ s.freePans ∧ bits w 22 2
        < 2 ∧ src ≠ s.node ∧ (if s.fld Reg.RNG_CFG_MAX_HOPS = 0 then 63 else s.fld Reg.RNG_CFG_MAX_HOPS) ≤ bits w 16
        6)) ∧
    (∃ (k : Fin 2) (s : State) (f : EthFrame), (
        let w := tagWord f.bytes
        let src := bits w 26 6
        s.awake ∧ s.ringOn = true ∧ s.ringUp k = true ∧ s.flag Reg.SWC_BSTAT_RUN = true ∧ s.staged = [] ∧ (s.port (20
        + k)).cut = none ∧ s.panUse s.nextId = {} ∧ 64 ≤ f.bytes.length + 4 ∧ f.bytes.length + 4 ≤ s.maxFrame (20 + k)
        f.bytes ∧ isGptp f.bytes = false ∧ be16At f.bytes 12 = s.ringEtype ∧ pansOf f.bytes ≤ s.freePans ∧ bits w 22 2
        = 1 ∧ f.bytes.take 6 ≠ s.mgmtMac ∧ src ≠ s.node ∧ bits w 16 6 < (if s.fld Reg.RNG_CFG_MAX_HOPS = 0 then 63
        else s.fld Reg.RNG_CFG_MAX_HOPS) ∧ s.ringUp (1 - k.val) = false ∧ (s.ringWin src).active = false)) ∧
    (∃ (k : Fin 2) (s : State) (f : EthFrame), (
        let w := tagWord f.bytes
        let src := bits w 26 6
        s.awake ∧ s.ringOn = true ∧ s.ringUp k = true ∧ s.flag Reg.SWC_BSTAT_RUN = true ∧ s.staged = [] ∧ (s.port (20
        + k)).cut = none ∧ s.panUse s.nextId = {} ∧ 64 ≤ f.bytes.length + 4 ∧ f.bytes.length + 4 ≤ s.maxFrame (20 + k)
        f.bytes ∧ isGptp f.bytes = false ∧ be16At f.bytes 12 = s.ringEtype ∧ pansOf f.bytes ≤ s.freePans ∧ bits w 22 2
        = 1 ∧ f.bytes.take 6 ≠ s.mgmtMac ∧ src ≠ s.node ∧ bits w 16 6 < (if s.fld Reg.RNG_CFG_MAX_HOPS = 0 then 63
        else s.fld Reg.RNG_CFG_MAX_HOPS) ∧ s.ringUp (1 - k.val) = false ∧ (s.ringWin src).active = true ∧ (s.ringWin
        src).hi = bits w 0 16 ∧ bitOf (s.ringWin src).seen 0 = true)) ∧
    (∃ (k : Fin 2) (s : State) (f : EthFrame), (∀ (e : PortNo) x l, (s.port e).sending = some x → x.end16 = some l →
      s.tb.local16 < l) ∧ (
        let e := 21 - k.val
        let q := s.transitQueue k f.bytes
        s.awake ∧ s.ringOn = true ∧ s.ringUp k = true ∧ s.flag Reg.SWC_BSTAT_RUN = true ∧ s.staged = [] ∧ (s.port (20
        + k)).cut = none ∧ s.panUse s.nextId = {} ∧ 64 ≤ f.bytes.length + 4 ∧ f.bytes.length + 4 ≤ s.maxFrame (20 + k)
        f.bytes ∧ isGptp f.bytes = false ∧ 1 ≤ s.freePans ∧ be16At f.bytes 12 = s.ringEtype ∧ bits (tagWord f.bytes)
        22 2 ≠ 3 ∧ bits (tagWord f.bytes) 26 6 ≠ s.node ∧ bits (tagWord f.bytes) 16 6 < s.maxHops ∧ s.cutEligible (20
        + k) e = true ∧ bitOf (s.gates e) q = true ∧ s.fitsCut (20 + k) e q = true)) ∧
    (∃ (s : State) (src : Fin 64), (
        let ms := min 20 (if s.fld Reg.RNG_TIMERS_AGE_MS = 0 then 10 else s.fld Reg.RNG_TIMERS_AGE_MS)
        s.awake ∧ (s.ringWin src).active = true ∧ (s.ringWin src).last16 + ms * 1000 * 65536000 ≤ s.tb.local16)) ∧
    (∃ (s : State) (src : Fin 64), (
        let ms := min 20 (if s.fld Reg.RNG_TIMERS_AGE_MS = 0 then 10 else s.fld Reg.RNG_TIMERS_AGE_MS)
        s.awake ∧ (s.ringWin src).active = true ∧ s.tb.local16 < (s.ringWin src).last16 + ms * 1000 * 65536000)) ∧
    (∃ (s : State) (q : _), s.awake ∧ s.ring.quiet16 = some q ∧ s.ring.quietOver = false ∧ q ≤ s.tb.local16) ∧
    (∃ (s : State), s.awake ∧ s.mayOriginate = true ∧ s.ring.periodic = none ∧ 1 ≤ s.freePans ∧ s.ring.seq < 65536) ∧
    (∃ (s : State), s.awake ∧ s.mayOriginate = true ∧ s.flag Reg.HLT_STATUS_REPLACE = true ∧ s.ring.announce16 = 0 ∧ 1
      ≤ s.freePans) ∧
    (∃ (s : State) (p : PageNo), s.awake ∧ s.takes p Reg.RNG_CMD) ∧
    (∃ (s : State), s.awake ∧ s.rtOn = true ∧ s.flag Reg.RNG_STATE_GM_SELF = true ∧ s.ring.lastSync16 + 125 * 65536000
      ≤ s.tb.local16) ∧
    (∃ (s : State) (c : _), s.awake ∧ s.rtOn = true ∧ s.flag Reg.RNG_STATE_GM_SELF = false ∧ s.ring.chains.getD
      (s.rtPrimary) none = some c ∧ c.last16 + 375 * 65536000 ≤ s.tb.local16) :=
  ⟨⟨0, wRing [], by decide +kernel⟩,
   ⟨0, wRingUp, by decide +kernel⟩,
   ⟨0, wRing [], by decide +kernel⟩,
   ⟨0, wRingUp, ethOf 60, by decide +kernel⟩,
   ⟨0, wRingUp, ethOf 60, by decide +kernel⟩,
   ⟨0, wRingUp, ringOf 5 3 0 7, by decide +kernel⟩,
   ⟨0, wRingUp, ringOf 0 1 0 7, by decide +kernel⟩,
   ⟨0, wRingUp, ringOf 5 1 63 7, by decide +kernel⟩,
   ⟨0, wRingUp, ringOf 5 1 62 7, by decide +kernel⟩,
   ⟨0, wRingWin 1 0, ringOf 5 1 62 7, by decide +kernel⟩,
   ⟨0, wRingCut, ringOf 5 1 62 7, quietPorts (by decide +kernel), by decide +kernel⟩,
   ⟨wRingWin 1 0, 5, by decide +kernel⟩,
   ⟨wRingWin 1 64, 5, by decide +kernel⟩,
   ⟨wQuiet, 6553600000, by decide +kernel⟩,
   ⟨wOpen, by decide +kernel⟩,
   ⟨wReplace, by decide +kernel⟩,
   ⟨wRing [], 0, by decide +kernel⟩,
   ⟨wRt 1, by decide +kernel⟩,
   ⟨wRt 0, { steps := 1, offset := 0, last16 := 0 }, by decide +kernel⟩⟩

theorem witness_ReadsAreAnswered :
    (∃ (p : PageNo) (s : State) (addr : BitVec 26) (c : Instr) (a : _), s.mayRead p ∧ (c = .rcRead p addr ∨ c =
      .lowWordRead p addr) ∧ s.target p addr.toNat = .reg a ∧ isPop a = false ∧ (0x200000 ≤ a → a < 0x400000 → isRc a
      = true → s.mayUnit p ((a - 0x200000) / 0x2000) = true)) ∧
    (∃ (p : PageNo) (s : State) (addr : BitVec 26) (c : Instr), s.mayRead p ∧ (c = .rcRead p addr ∨ c = .lowWordRead p
      addr) ∧ s.target p addr.toNat = .barred) ∧
    (∃ (p : PageNo) (s : State) (addr : BitVec 26) (c : Instr), s.mayRead p ∧ (c = .rcRead p addr ∨ c = .lowWordRead p
      addr) ∧ s.target p addr.toNat = .reserved) ∧
    (∃ (p : PageNo) (s : State) (q : Fin 4), s.mayRead p ∧ (s.eq p q).entries = []) ∧
    (∃ (p : PageNo) (s : State) (q : Fin 4) (e : _) (es : _), s.mayRead p ∧ (s.eq p q).entries = e :: es) ∧
    (∃ (p : PageNo) (s : State) (port : PortNo) (e : _) (es : _), s.mayRead p ∧ (s.port port).stamps = e :: es) ∧
    (∃ (p : PageNo) (s : State) (n : CanNo) (e : _) (es : _), s.mayRead p ∧ s.mayUnit p (Reg.canUnit n) = true ∧
      (s.canU n).rxq = e :: es) ∧
    (∃ (p : PageNo) (s : State) (n : LaneNo) (w : _) (ws : _), s.mayRead p ∧ s.mayUnit p (Reg.laneUnit n) = true ∧
      s.laneDepth n ≠ 0 ∧ (s.lane n).rx = w :: ws) ∧
    (∃ (p : PageNo) (s : State), s.mayRead p ∧ s.flag (Reg.PSG_PIN_STATUS_PINNED p) = true) ∧
    (∃ (p : PageNo) (s : State), s.mayRead p ∧ s.flag (Reg.PSG_PIN_STATUS_PINNED p) = false) :=
  ⟨⟨0, wRegs, BitVec.ofNat 26 Reg.TMB_PPS_SEC_LO, .lowWordRead 0 (BitVec.ofNat 26 Reg.TMB_PPS_SEC_LO),
     Reg.TMB_PPS_SEC_LO, by decide +kernel⟩,
   ⟨1, wRegs, 0x2001000, .rcRead 1 0x2001000, by decide +kernel⟩,
   ⟨0, wRegs, 0x1C0000, .rcRead 0 0x1C0000, by decide +kernel⟩,
   ⟨0, wRegs, 1, by decide +kernel⟩,
   ⟨0, wEq 2, 1, 5, [5], by decide +kernel⟩,
   ⟨0, wStamps, 16, { word := 5, time := 9 : StampEntry }, [], by decide +kernel⟩,
   ⟨0, wRxq, 0, List.replicate 20 0, [List.replicate 20 0], by decide +kernel⟩,
   ⟨0, wLaneRx, 0, 5, [5, 5], by decide +kernel⟩,
   ⟨0, wPinnedRead, by decide +kernel⟩,
   ⟨0, wRegs, by decide +kernel⟩⟩

theorem witness_WritesFollowTheirAccessCode :
    (∃ (p : PageNo) (addr : BitVec 26) (s : State) (i : Fin 8), s.settled ∧ s.takes p (Reg.PG_SCRATCH p i) ∧
      addr.toNat = 0x40 + 4 * i) ∧
    (∃ (p : PageNo) (addr : BitVec 26) (s : State), s.settled ∧ s.takes p Reg.RNG_FLAGS ∧ addr.toNat = Reg.RNG_FLAGS) ∧
    (∃ (p : PageNo) (addr : BitVec 26) (s : State), s.settled ∧ s.takes p Reg.RNG_CFG ∧ addr.toNat = Reg.RNG_CFG ∧
      s.flag Reg.RNG_BSTAT_RUN = true) ∧
    (∃ (p : PageNo) (addr : BitVec 26) (s : State), s.settled ∧ s.takes p Reg.RNG_CFG ∧ addr.toNat = Reg.RNG_CFG ∧
      s.flag Reg.RNG_BSTAT_RUN = false) ∧
    (∃ (p : PageNo) (addr : BitVec 26) (s : State), s.settled ∧ s.takes p Reg.SIG_PERIOD ∧ addr.toNat = Reg.SIG_PERIOD
      ∧ s.flag Reg.SIG_BSTAT_RUN = true) ∧
    (∃ (p : PageNo) (addr : BitVec 26) (s : State), s.settled ∧ s.takes p Reg.SIG_PERIOD ∧ addr.toNat = Reg.SIG_PERIOD
      ∧ s.flag Reg.SIG_BSTAT_RUN = false) ∧
    (∃ (p : PageNo) (addr : BitVec 26) (s : State) (a : _), s.settled ∧ s.awake ∧ ((s.target p addr.toNat = .reg a ∧
      s.mayWrite p a = false) ∨ s.target p addr.toNat = .barred)) ∧
    (∃ (p : PageNo) (addr : BitVec 26) (s : State), s.settled ∧ s.awake ∧ s.target p addr.toNat = .reserved) :=
  ⟨⟨0, 0x5C, wRegs, 7, by decide +kernel⟩,
   ⟨0, BitVec.ofNat 26 Reg.RNG_FLAGS, wRegs, by decide +kernel⟩,
   ⟨0, BitVec.ofNat 26 Reg.RNG_CFG, wBlocks, by decide +kernel⟩,
   ⟨0, BitVec.ofNat 26 Reg.RNG_CFG, wRegs, by decide +kernel⟩,
   ⟨0, BitVec.ofNat 26 Reg.SIG_PERIOD, wBlocks, by decide +kernel⟩,
   ⟨0, BitVec.ofNat 26 Reg.SIG_PERIOD, wRegs, by decide +kernel⟩,
   ⟨1, 0x2001000, wRegs, 0, by decide +kernel⟩,
   ⟨0, 0x1C0000, wRegs, by decide +kernel⟩⟩

theorem witness_FramesAndAtomicOps :
    (∃ (x : Fin 8) (f : PageFrame) (i : Fin 8) (s : State), s.serves f.page x ∧ f.ver = 1#4 ∧ f.addr.toNat = 0x40 + 4
      * i ∧ s.opRoom f.page = true ∧ f.op = 1#4 ∧ f.len = 4) ∧
    (∃ (x : Fin 8) (f : PageFrame) (i : Fin 8) (s : State), s.serves f.page x ∧ f.ver = 1#4 ∧ f.addr.toNat = 0x40 + 4
      * i ∧ s.opRoom f.page = true ∧ f.op = 3#4 ∧ f.len = 4 ∧ f.data.length = 4) ∧
    (∃ (x : Fin 8) (f : PageFrame) (i : Fin 8) (s : State), s.serves f.page x ∧ f.ver = 1#4 ∧ f.addr.toNat = 0x40 + 4
      * i ∧ s.opRoom f.page = true ∧ f.op = 4#4 ∧ f.len = 4 ∧ f.data.length = 4) ∧
    (∃ (x : Fin 8) (f : PageFrame) (i : Fin 8) (s : State), s.serves f.page x ∧ f.ver = 1#4 ∧ f.addr.toNat = 0x40 + 4
      * i ∧ s.opRoom f.page = true ∧ f.op = 5#4 ∧ f.len = 4 ∧ f.data.length = 4) ∧
    (∃ (x : Fin 8) (f : PageFrame) (i : Fin 8) (s : State), s.serves f.page x ∧ f.ver = 1#4 ∧ f.addr.toNat = 0x40 + 4
      * i ∧ s.opRoom f.page = true ∧ f.op = 6#4 ∧ f.len = 8 ∧ f.data.length = 8) ∧
    (∃ (x : Fin 8) (f : PageFrame) (i : Fin 8) (s : State), s.serves f.page x ∧ f.ver = 1#4 ∧ f.addr.toNat = 0x40 + 4
      * i ∧ s.opRoom f.page = true ∧ f.op = 10#4 ∧ f.len = 0) ∧
    (∃ (x : Fin 8) (f : PageFrame) (i : Fin 8) (s : State), s.serves f.page x ∧ f.ver = 1#4 ∧ f.addr.toNat = 0x40 + 4
      * i ∧ f.op = 2#4 ∧ f.len = 4 ∧ f.data.length = 4) ∧
    (∃ (x : Fin 8) (f : PageFrame) (i : Fin 8) (s : State), s.serves f.page x ∧ f.ver = 1#4 ∧ f.addr.toNat = 0x40 + 4
      * i ∧ s.opRoom f.page = false ∧ f.op = 1#4 ∧ f.len = 4) ∧
    (∃ (x : Fin 8) (f : PageFrame) (s : State), s.serves f.page x ∧ f.ver ≠ 1#4 ∧ f.op = 1#4) ∧
    (∃ (x : Fin 8) (i : Fin 8) (s : State) (p : PageNo) (addr : BitVec 26), s.mayRead p ∧ s.flag
      Reg.HLT_RESET_CAUSE_OPT_FAIL = false ∧ (x.val = 1 ∨ x.val = 2) ∧ s.named p x = true ∧ addr.toNat = 0x40 + 4 * i) :=
  ⟨⟨3, pf 1 1 0x5C 4 [], 7, pathM [], by decide +kernel⟩,
   ⟨3, pf 1 3 0x5C 4 [1, 2, 3, 4], 7, pathM [], by decide +kernel⟩,
   ⟨3, pf 1 4 0x5C 4 [1, 2, 3, 4], 7, pathM [], by decide +kernel⟩,
   ⟨3, pf 1 5 0x5C 4 [1, 2, 3, 4], 7, pathM [], by decide +kernel⟩,
   ⟨3, pf 1 6 0x5C 8 [5, 0, 0, 0, 1, 2, 3, 4], 7, pathM [], by decide +kernel⟩,
   ⟨3, pf 1 10 0x5C 0 [], 7, pathM [], by decide +kernel⟩,
   ⟨3, pf 1 2 0x5C 4 [1, 2, 3, 4], 7, pathM [], by decide +kernel⟩,
   ⟨3, pf 1 1 0x5C 4 [], 7, wBusyOps, by decide +kernel⟩,
   ⟨3, pf 2 1 0x5C 4 [], pathM [], by decide +kernel⟩,
   ⟨1, 7, wPaths 1 2 3 1, 0, 0x5C, by decide +kernel⟩⟩

theorem witness_PathsFailOver :
    (∃ (p : PageNo) (x : Fin 8) (s : State) (c : Instr) (y : Fin 8), s.awake ∧ s.settled ∧ s.named p x = true ∧
      s.pathIsUp p x = true ∧ (c = .pathFail p x ∨ (c = .heartbeatExpiry p x ∧ 3 ≤ x.val ∧ s.fld (Reg.PG_HB_HB_MS p) ≠
      0 ∧ Tbl.get (fun _ => 0) (s.page p).lastHeard x + s.fld (Reg.PG_HB_HB_MS p) * 1000 * 65536000 ≤ s.tb.local16)) ∧
      s.activePath p = x ∧ y ≠ x ∧ s.pathIsUp p y = true) ∧
    (∃ (p : PageNo) (x : Fin 8) (s : State) (c : Instr), s.awake ∧ s.settled ∧ s.named p x = true ∧ s.pathIsUp p x =
      true ∧ (c = .pathFail p x ∨ (c = .heartbeatExpiry p x ∧ 3 ≤ x.val ∧ s.fld (Reg.PG_HB_HB_MS p) ≠ 0 ∧ Tbl.get (fun
      _ => 0) (s.page p).lastHeard x + s.fld (Reg.PG_HB_HB_MS p) * 1000 * 65536000 ≤ s.tb.local16)) ∧ s.activePath p =
      x ∧ (∀ y : Fin 8, y ≠ x → s.pathIsUp p y = false)) ∧
    (∃ (p : PageNo) (x : Fin 8) (s : State) (c : Instr), s.awake ∧ s.settled ∧ s.named p x = true ∧ s.pathIsUp p x =
      true ∧ (c = .pathFail p x ∨ (c = .heartbeatExpiry p x ∧ 3 ≤ x.val ∧ s.fld (Reg.PG_HB_HB_MS p) ≠ 0 ∧ Tbl.get (fun
      _ => 0) (s.page p).lastHeard x + s.fld (Reg.PG_HB_HB_MS p) * 1000 * 65536000 ≤ s.tb.local16)) ∧ s.activePath p ≠
      x) ∧
    (∃ (p : PageNo) (s : State), s.awake ∧ s.settled ∧ s.fld (Reg.PG_HB_HB_MS p) = 0) ∧
    (∃ (p : PageNo) (x : Fin 8) (s : State), s.awake ∧ s.settled ∧ s.named p x = true ∧ s.pathIsUp p x = false ∧ x.val
      ≠ 3 ∧ s.dev.perst = 0 ∧ (s.page p).took16 = none) ∧
    (∃ (p : PageNo) (x : Fin 8) (s : State), s.takes p (Reg.PG_CMD p) ∧ s.named p x = true ∧ s.pathIsUp p x = true ∧
      s.activePath p ≠ x ∧ (∀ o ∈ (s.page p).outstanding, o.path ≠ s.activePath p)) ∧
    (∃ (p : PageNo) (x : Fin 8) (s : State), s.takes p (Reg.PG_CMD p) ∧ s.named p x = true ∧ s.pathIsUp p x = true ∧
      s.activePath p ≠ x ∧ (∃ o ∈ (s.page p).outstanding, o.path = s.activePath p)) ∧
    (∃ (p : PageNo) (x : Fin 8) (s : State), s.takes p (Reg.PG_CMD p) ∧ (s.named p x = false ∨ s.pathIsUp p x =
      false)) ∧
    (∃ (p : PageNo) (s : State) (q : Fin 4), s.takes p (Reg.EQ_CMD p q)) :=
  ⟨⟨0, 3, wPaths 3 4 3 3, .pathFail 0 3, 4, by decide +kernel⟩,
   ⟨0, 3, wPaths 3 4 1 3, .heartbeatExpiry 0 3, by decide +kernel⟩,
   ⟨0, 4, wPaths 3 4 3 3, .heartbeatExpiry 0 4, by decide +kernel⟩,
   ⟨0, fldsAre [(Reg.PG_HB_HB_MS 0, 0)] (wPaths 3 4 3 3), by decide +kernel⟩,
   ⟨0, 4, wPaths 3 4 1 3, by decide +kernel⟩,
   ⟨0, 4, wPaths 3 4 3 3, by decide +kernel⟩,
   ⟨0, 4, withOps [anOp 3] (wPaths 3 4 3 3), by decide +kernel⟩,
   ⟨0, 3, wPaths 1 2 0 0, by decide +kernel⟩,
   ⟨0, wPaths 3 4 3 3, 0, by decide +kernel⟩⟩

theorem witness_EventsEnterTheQueues :
    (∃ (code : Nat) (s : State), (
        let w := s.tw 0x0D devScope code 0
        code < 1024 ∧ bitOf w 24 = false ∧ code ≠ 0x010)) ∧
    (∃ (code : Nat) (s : State) (p : PageNo) (q : Fin 4), (
        let w := s.tw 0x0D devScope code 0
        code < 1024 ∧ bitOf w 24 = false ∧ code ≠ 0x010 ∧ ¬(p.val = s.owner ∧ q = 0))) ∧
    (∃ (code : Nat) (s : State), (
        let w := s.tw 0x0D devScope code 0
        code < 1024 ∧ bitOf w 24 = false ∧ code = 0x010)) ∧
    (∃ (code : Nat) (s : State) (p : PageNo), (
        let w := s.tw 0x0D devScope code 0
        code < 1024 ∧ bitOf w 24 = true ∧ bitOf w p = true)) ∧
    (∃ (code : Nat) (s : State) (p : PageNo) (q : Fin 4), (
        let w := s.tw 0x0D devScope code 0
        code < 1024 ∧ bitOf w 24 = true ∧ ¬(bitOf w p = true ∧ q.val = bits w (8 + 2 * p) 2))) ∧
    (∃ (code : Nat), code < 1024) :=
  ⟨⟨0x21, wEvt 0 0, by decide +kernel⟩,
   ⟨0x21, wEvt 0 0, 1, 0, by decide +kernel⟩,
   ⟨0x10, wEvt 0 0, by decide +kernel⟩,
   ⟨0x21, wEvt 1 0x01000001, 0, by decide +kernel⟩,
   ⟨0x21, wEvt 1 0x01000001, 1, 0, by decide +kernel⟩,
   ⟨0x10, by decide +kernel⟩⟩

theorem witness_OutboundAccessesRun :
    (∃ (p : PageNo) (off : BitVec 24) (s : State), s.awake ∧ s.settled ∧ s.target p (0x1000000 + off.toNat) = .bridge
      off.toNat ∧ s.windowMay p (off.toNat / 2 ^ 20) = false) ∧
    (∃ (p : PageNo) (off : BitVec 24) (s : State), s.awake ∧ s.settled ∧ s.target p (0x1000000 + off.toNat) = .bridge
      off.toNat ∧ s.windowMay p (off.toNat / 2 ^ 20) = true ∧ s.bridge.cur = none ∧ s.bridge.accs = [] ∧ s.line
      (off.toNat / 2 ^ 20 % 16) = none) ∧
    (∃ (p : PageNo) (off : BitVec 24) (s : State), s.awake ∧ s.settled ∧ s.target p (0x1000000 + off.toNat) = .bridge
      off.toNat ∧ s.windowMay p (off.toNat / 2 ^ 20) = true ∧ s.bridge.cur = none ∧ s.bridge.accs = [] ∧ s.line
      (off.toNat / 2 ^ 20 % 16) = none ∧ s.opRoom p = true) ∧
    (∃ (s : State) (a : _), s.awake ∧ s.bridge.cur = some a ∧ s.bridge.phase = .requesting) ∧
    (∃ (s : State) (a : _), s.awake ∧ s.bridge.cur = some a ∧ s.bridge.phase = .requesting ∧ s.settled ∧ s.bridge.accs
      = [] ∧ s.bridge.req16 + s.waitTmo16 ≤ s.tb.local16) ∧
    (∃ (s : State) (a : _), s.awake ∧ s.settled ∧ s.bridge.cur = some a ∧ s.bridge.phase = .owned ∧ s.bridge.accs = []
      ∧ a.kind = .write) ∧
    (∃ (s : State) (a : _) (o : HostOp) (q : PageNo), s.awake ∧ s.settled ∧ s.bridge.cur = some a ∧ s.bridge.phase =
      .owned ∧ s.bridge.accs = [] ∧ a.kind = .read ∧ a.prefetch = false ∧ a.page = q.val ∧ a.op = some o.id ∧ a.slot =
      0 ∧ (s.page q).outstanding = [o] ∧ o.left = 1 ∧ o.data = [0] ∧ o.frame = none) ∧
    (∃ (s : State) (a : _), s.awake ∧ s.settled ∧ s.bridge.cur = some a ∧ s.bridge.phase = .owned ∧ s.bridge.accs = []
      ∧ a.kind = .lrmw) ∧
    (∃ (p : PageNo) (s : State), (
        let o := 4 * s.fld (Reg.PG_LRMW_ADDR_ADDR p)
        let win := o / 2 ^ 20 % 16
        s.takes p (Reg.PG_LRMW_CMD p) ∧ s.flag (Reg.PG_LRMW_STATUS_BUSY p) = false ∧ s.windowMay p win = true ∧ s.flag
        (Reg.LBB_W_CFG_ATOMIC_EN win) = true ∧ s.bridge.cur = none ∧ s.bridge.accs = [] ∧ s.line win = none)) ∧
    (∃ (p : PageNo) (s : State), (
        let o := 4 * s.fld (Reg.PG_LRMW_ADDR_ADDR p)
        let win := o / 2 ^ 20 % 16
        s.takes p (Reg.PG_LRMW_CMD p) ∧ s.flag (Reg.PG_LRMW_STATUS_BUSY p) = false ∧ (s.windowMay p win = false ∨
        s.flag (Reg.LBB_W_CFG_ATOMIC_EN win) = false))) ∧
    (∃ (w : Fin 16) (s : State) (x : PfLine), s.awake ∧ s.line w = some x ∧ s.tb.local16 ≤ x.at16 + s.pfTmo16 w) ∧
    (∃ (w : Fin 16) (s : State) (x : PfLine), s.awake ∧ s.line w = some x ∧ x.at16 + s.pfTmo16 w < s.tb.local16) ∧
    (∃ (s : State) (e : _), s.awake ∧ s.bridge.phase = .backoff e ∧ e ≤ s.tb.local16) ∧
    (∃ (s : State) (e : _), s.awake ∧ s.bridge.phase = .backoff e ∧ s.tb.local16 < e) :=
  ⟨⟨0, 0x100004, wBridge [], by decide +kernel⟩,
   ⟨0, 0, wBridge [], by decide +kernel⟩,
   ⟨0, 0, wBridge [], by decide +kernel⟩,
   ⟨wAcc .write .requesting, acc .write, by decide +kernel⟩,
   ⟨wAcc .write .requesting, acc .write, by decide +kernel⟩,
   ⟨wAcc .write .owned, acc .write, by decide +kernel⟩,
   ⟨wAcc .read .owned, acc .read, anOp 1, 0, by decide +kernel⟩,
   ⟨wAcc .lrmw .owned, acc .lrmw, by decide +kernel⟩,
   ⟨0, wGo 1, by decide +kernel⟩,
   ⟨0, wBridge [], by decide +kernel⟩,
   ⟨0, wLine 0 10, { far := 0x200000, words := List.replicate 16 0, returned := 0, at16 := 0 }, by decide +kernel⟩,
   ⟨0, wLine 0 11, { far := 0x200000, words := List.replicate 16 0, returned := 0, at16 := 0 }, by decide +kernel⟩,
   ⟨wBackoff 0, 0, by decide +kernel⟩,
   ⟨wBackoff 1, 1, by decide +kernel⟩⟩

theorem witness_InboundCyclesAndLines :
    (∃ (c : FarCycle) (s : State), s.awake ∧ s.flag Reg.LBB_BSTAT_RUN = true ∧ s.flag Reg.LBB_CTRL_EN = true ∧ s.flag
      Reg.LBB_CTRL_IN_EN = true ∧ s.bridge.phase ≠ .owned ∧ c.write = true) ∧
    (∃ (c : FarCycle) (s : State), s.awake ∧ s.flag Reg.LBB_BSTAT_RUN = true ∧ s.flag Reg.LBB_CTRL_EN = true ∧ s.flag
      Reg.LBB_CTRL_IN_EN = true ∧ s.bridge.phase ≠ .owned ∧ c.write = false) ∧
    (∃ (s : State), s.awake ∧ s.flag Reg.LBB_BSTAT_RUN = true ∧ s.flag Reg.LBB_CTRL_EN = true ∧ s.flag
      Reg.LBB_CTRL_IN_EN = true ∧ s.bridge.phase ≠ .owned ∧ s.bridge.phase = .requesting) ∧
    (∃ (s : State), s.awake ∧ s.flag Reg.LBB_BSTAT_RUN = true ∧ s.flag Reg.LBB_CTRL_EN = true ∧ s.flag
      Reg.LBB_CTRL_IN_EN = false) ∧
    (∃ (s : State), s.awake ∧ s.flag Reg.LBB_BSTAT_RUN = true ∧ s.flag Reg.LBB_CTRL_EN = true ∧ s.bridge.poll16 +
      s.pollUs * 65536000 ≤ s.tb.local16) :=
  ⟨⟨⟨true, 4095, 1, 0x11223344⟩, wInbound .idle, by decide +kernel⟩,
   ⟨⟨false, 4095, 15, 0⟩, wInbound .idle, by decide +kernel⟩,
   ⟨wInbound .requesting, by decide +kernel⟩,
   ⟨wBridge [], by decide +kernel⟩,
   ⟨wInbound .idle, by decide +kernel⟩⟩

theorem witness_KeysAreLoadedAndErased :
    (∃ (p : PageNo) (k : SlotNo) (s : State) (size : BitVec 2), s.takes p Reg.CPH_KEY_CMD ∧ size ≠ 3 ∧ s.flag
      (Reg.CPH_SLOT_STATE_DRAINING k) = false ∧ s.slotState k ≠ 3) ∧
    (∃ (p : PageNo) (s : State), s.takes p Reg.CPH_KEY_CMD) ∧
    (∃ (p : PageNo) (k : SlotNo) (s : State) (size : BitVec 2), s.takes p Reg.CPH_KEY_CMD ∧ size ≠ 3 ∧ (s.flag
      (Reg.CPH_SLOT_STATE_DRAINING k) = true ∨ s.slotState k = 3)) ∧
    (∃ (p : PageNo) (k : SlotNo) (s : State), s.takes p Reg.CPH_KEY_CMD ∧ (s.slotState k = 1 ∨ s.slotState k = 2) ∧
      (s.slot k).items = 0 ∧ (s.slot k).oldItems = 0) ∧
    (∃ (p : PageNo) (k : SlotNo) (s : State), s.takes p Reg.CPH_KEY_CMD ∧ (s.slotState k = 1 ∨ s.slotState k = 2) ∧
      (s.slot k).items ≠ 0) ∧
    (∃ (k : SlotNo) (s : State), s.awake ∧ s.slotState k = 3 ∧ (s.slot k).items = 0 ∧ (s.slot k).oldItems = 0) ∧
    (∃ (k : SlotNo) (s : State), s.awake ∧ s.slotState k ≠ 3 ∧ (s.slot k).old.isSome = true ∧ (s.slot k).oldItems = 0) ∧
    (∃ (k : SlotNo) (s : State), s.awake ∧ s.slotState k = 1 ∧ 9 * s.slotLimit k ≤ 10 * s.slotCount k ∧ s.flag
      (Reg.CPH_SLOT_STATE_WARNED k) = false) ∧
    (∃ (k : SlotNo) (s : State), s.awake ∧ s.slotState k = 1 ∧ s.slotLimit k ≤ s.slotCount k) ∧
    (∃ (k : SlotNo) (s : State), s.awake ∧ s.slotState k = 1 ∧ s.slotCount k < s.slotLimit k) :=
  ⟨⟨0, 2, wKey 0 0 0, 2, by decide +kernel⟩,
   ⟨0, wKey 1 2 65534, by decide +kernel⟩,
   ⟨0, 2, wKey 3 0 7, 2, by decide +kernel⟩,
   ⟨0, 2, wKey 1 0 65535, by decide +kernel⟩,
   ⟨0, 2, wKey 1 2 65534, by decide +kernel⟩,
   ⟨2, wKey 3 0 7, by decide +kernel⟩,
   ⟨2, wKeyOld, by decide +kernel⟩,
   ⟨2, wKeyCount 9, by decide +kernel⟩,
   ⟨2, wKeyCount 10, by decide +kernel⟩,
   ⟨2, wKey 1 0 65535, by decide +kernel⟩⟩

theorem witness_JobsRun :
    (∃ (p : PageNo) (r : Fin 2) (s : State), s.takes p (Reg.PCJ_PROD p r) ∧ s.pathFrames p = false) ∧
    (∃ (p : PageNo) (r : Fin 2) (s : State), s.awake ∧ s.flag Reg.CPH_BSTAT_RUN = true ∧ s.jobsRunning < 4 ∧
      s.nextRing = some (2 * p.val + r.val) ∧ (s.jring p r).size ≤ 12) ∧
    (∃ (p : PageNo) (r : Fin 2) (s : State) (j : Job) (input : List Byte) (o : JobOut), s.awake ∧ (s.jring p r).job =
      some j ∧ s.pathPcie p = true ∧ (s.jring p r).size ≤ 12 ∧ ((2 ≤ j.status ∧ j.status ≤ 5 ∧ o =
      { status := j.status }) ∨ (j.status = 0 ∧ descMode j.desc = 4 ∧ o =
      { status := 0, tag := (cmac j.key ((input.drop (descAad j.desc)).take (descLength j.desc))).take (descTagLen j.desc) }))) :=
  ⟨⟨0, 0, wJobs 2 1, by decide +kernel⟩,
   ⟨0, 0, wJobs 2 1, by decide +kernel⟩,
   ⟨0, 0, wJob 2, aJob 2, [1, 2], { status := 2 }, by decide +kernel⟩⟩

theorem witness_UpdatesGoThroughTheirStates :
    (∃ (p : PageNo) (s : State), s.takes p Reg.UPD_PIECE_DB ∧ s.fld Reg.UPD_PIECE_STATUS_RESULT = 1) ∧
    (∃ (p : PageNo) (s : State), s.takes p Reg.UPD_PIECE_DB ∧ s.fld Reg.UPD_PIECE_STATUS_RESULT ≠ 1 ∧ s.slotState
      (s.fld Reg.UPD_CTRL_SLOT) ≠ 1) ∧
    (∃ (p : PageNo) (s : State), (
        let idx := s.fld Reg.UPD_PIECE_IDX_IDX
        let n := s.fld Reg.UPD_PIECE_LEN_LEN
        s.takes p Reg.UPD_PIECE_DB ∧ s.fld Reg.UPD_PIECE_STATUS_RESULT ≠ 1 ∧ s.slotState (s.fld Reg.UPD_CTRL_SLOT) = 1
        ∧ idx ≠ 0 ∧ 1 ≤ n ∧ n ≤ 4096 ∧ s.updOpen = false)) ∧
    (∃ (p : PageNo) (s : State), (
        let idx := s.fld Reg.UPD_PIECE_IDX_IDX
        let n := s.fld Reg.UPD_PIECE_LEN_LEN
        let good := s.pieceMac (s.rd Reg.UPD_BUNDLE_ID).toNat idx (s.bytes (Reg.UPD_PIECE 0) n) = s.givenMac
        s.takes p Reg.UPD_PIECE_DB ∧ s.fld Reg.UPD_PIECE_STATUS_RESULT ≠ 1 ∧ s.slotState (s.fld Reg.UPD_CTRL_SLOT) = 1
        ∧ idx ≠ 0 ∧ 1 ≤ n ∧ n ≤ 4096 ∧ s.updOpen = true ∧ ¬good)) ∧
    (∃ (p : PageNo) (s : State), (
        let idx := s.fld Reg.UPD_PIECE_IDX_IDX
        let n := s.fld Reg.UPD_PIECE_LEN_LEN
        let good := s.pieceMac (s.rd Reg.UPD_BUNDLE_ID).toNat idx (s.bytes (Reg.UPD_PIECE 0) n) = s.givenMac
        s.takes p Reg.UPD_PIECE_DB ∧ s.fld Reg.UPD_PIECE_STATUS_RESULT ≠ 1 ∧ s.slotState (s.fld Reg.UPD_CTRL_SLOT) = 1
        ∧ idx ≠ 0 ∧ 1 ≤ n ∧ n ≤ 4096 ∧ s.updOpen = true ∧ good ∧ idx < s.fld Reg.UPD_PIECES_TOTAL ∧ (n = 4096 ∨ idx +
        1 = s.fld Reg.UPD_PIECES_TOTAL) ∧ idx ∉ s.upd.stored)) ∧
    (∃ (s : State) (i : _) (data : _), s.awake ∧ s.upd.storing = some (i, data) ∧ s.hlt.meDown = false ∧ data.length ≤
      4096 ∧ s.upd.stored.length < 4095) ∧
    (∃ (s : State), s.hashesOk = false ∧ s.awake ∧ s.updState = 2) ∧
    (∃ (s : State) (rb : BitVec 8), s.hashesOk = true ∧ s.bundleImageErr = 0 ∧ rb.toNat = mfRollback s.manifest ∧
      s.awake ∧ s.updState = 2 ∧ s.fld Reg.UPD_BANK_RUNNING = s.activeBank) ∧
    (∃ (s : State), s.awake ∧ s.updState = 3) ∧
    (∃ (s : State), s.awake ∧ s.updState = 3 ∧ s.flag Reg.UPD_CTRL_AUTO_ACT = false) ∧
    (∃ (s : State), s.awake ∧ s.updState = 5 ∧ s.strState = strStaged ∧ s.str.forUpdate = true) ∧
    (∃ (s : State), s.awake) ∧
    (∃ (p : PageNo) (s : State), s.takes p Reg.UPD_CMD ∧ s.updState = 4 ∧ s.strState = strIdle) ∧
    (∃ (p : PageNo) (s : State), s.takes p Reg.UPD_CMD ∧ s.updState = 4 ∧ s.strState ≠ strIdle) ∧
    (∃ (p : PageNo) (s : State), s.takes p Reg.UPD_CMD ∧ s.updState ≠ 4) ∧
    (∃ (p : PageNo) (s : State), s.takes p Reg.UPD_CMD ∧ (s.updState = 5 ∨ s.updState = 6)) ∧
    (∃ (p : PageNo) (s : State), s.takes p Reg.UPD_CMD ∧ s.updState ≠ 5 ∧ s.updState ≠ 6) ∧
    (∃ (p : PageNo) (s : State), s.takes p Reg.UPD_CMD ∧ s.updState = 7) ∧
    (∃ (p : PageNo) (s : State), s.takes p Reg.UPD_CMD ∧ 1 ≤ s.updState ∧ s.updState ≤ 6) ∧
    (∃ (p : PageNo) (s : State), s.takes p Reg.UPD_CMD ∧ s.updState = 8) ∧
    (∃ (p : PageNo) (s : State), s.takes p Reg.UPD_CMD) :=
  ⟨⟨0, wPiece 1 1 1 1 true, by decide +kernel⟩,
   ⟨0, wPiece 1 1 0 0 true, by decide +kernel⟩,
   ⟨0, fldsAre [(Reg.UPD_STATE_STATE, 0)] (wPiece 1 1 0 1 true), by decide +kernel⟩,
   ⟨0, wPiece 1 1 0 1 false, by decide +kernel⟩,
   ⟨0, wPiece 1 1 0 1 true, by decide +kernel⟩,
   ⟨wStoring 2, 1, [1#8, 2#8], by decide +kernel⟩,
   ⟨wUpdBad, wUpdBad_hashes, by decide +kernel⟩,
   ⟨wUpd 2 [], 3, wUpd_hashesOk, wUpd_imageOk, wUpd_rollback, by decide +kernel⟩,
   ⟨wUpd 3 [], by decide +kernel⟩,
   ⟨wUpd 3 [], by decide +kernel⟩,
   ⟨wArming, by decide +kernel⟩,
   ⟨wPiece 1 1 1 1 true, by decide +kernel⟩,
   ⟨0, wUpd 4 [], by decide +kernel⟩,
   ⟨0, wUpd 4 [(Reg.STR_STATE_STATE,3)], by decide +kernel⟩,
   ⟨0, wPiece 1 1 1 1 true, by decide +kernel⟩,
   ⟨0, wArming, by decide +kernel⟩,
   ⟨0, wPiece 1 1 1 1 true, by decide +kernel⟩,
   ⟨0, wUpd 7 [], by decide +kernel⟩,
   ⟨0, wPiece 1 1 1 1 true, by decide +kernel⟩,
   ⟨0, wUpd 8 [], by decide +kernel⟩,
   ⟨0, wPiece 1 1 1 1 true, by decide +kernel⟩⟩

theorem witness_HealthIsMonitored :
    (∃ (p : PageNo) (s : State), s.takes p Reg.HLT_CMD ∧ s.hlt.program = none ∧ s.optLocked s.optBuf = true) ∧
    (∃ (p : PageNo) (s : State), s.takes p Reg.HLT_CMD ∧ s.hlt.program = none ∧ s.optLocked s.optBuf = false) ∧
    (∃ (p : PageNo) (s : State), s.takes p Reg.HLT_CMD) ∧
    (∃ (p : PageNo) (s : State) (u : Fin 256), s.takes p Reg.HLT_CMD ∧ bitOf s.spared u = false ∧ s.spareFree u =
      true) ∧
    (∃ (p : PageNo) (s : State) (u : Fin 256), s.takes p Reg.HLT_CMD ∧ bitOf s.spared u = false ∧ s.spareFree u =
      false) ∧
    (∃ (p : PageNo) (s : State) (u : Fin 256) (b : _), s.takes p Reg.HLT_CMD ∧ bitOf s.spared u = true ∧ s.retired u =
      false ∧ s.underTest u = false ∧ unitKind u = .bank b) ∧
    (∃ (p : PageNo) (s : State) (u : Fin 256), (∀ b, unitKind u ≠ .bank b) ∧ s.takes p Reg.HLT_CMD ∧ bitOf s.spared u
      = true ∧ s.retired u = false ∧ s.underTest u = false) ∧
    (∃ (s : State) (k : _) (bs : _) (c : _), s.awake ∧ s.hlt.program = some (k, bs, c) ∧ k < 2 ∧ bs.length = 1024) ∧
    (∃ (s : State) (u : Fin 256), s.awake ∧ s.hlt.toReturn.contains u.val = true ∧ bitOf s.spared u = true ∧
      s.unitIdle u = true ∧ (spareOf u).isSome = true) ∧
    (∃ (s : State), s.awake) ∧
    (∃ (s : State), (
        let min := s.fld Reg.HLT_SCRUB_PERIOD_MIN
        let next16 := s.hlt.sweep16 + clampTo 10 10080 (if min = 0 then 1440 else min) * (60000000 * 65536000)
        s.awake ∧ next16 ≤ s.tb.local16)) ∧
    (∃ (s : State), (
        let min := s.fld Reg.HLT_SCRUB_PERIOD_MIN
        let next16 := s.hlt.sweep16 + clampTo 10 10080 (if min = 0 then 1440 else min) * (60000000 * 65536000)
        s.awake ∧ s.tb.local16 < next16)) ∧
    (∃ (s : State) (kind : MemKind) (w : _), s.awake ∧ kind = .retained w) ∧
    (∃ (s : State) (u : Fin 256), s.awake ∧ s.retired u = false ∧ bitOf s.spared u = false ∧ s.spareFree u = true) ∧
    (∃ (s : State) (m : MacNo) (n : Fin 32), n.val = 16 + m.val ∧ s.awake ∧ s.hlt.badLanes.contains n.val = false ∧
      s.flag (Reg.EMC_LINK_UP m) = true ∧ (s.port m).cut = none) ∧
    (∃ (s : State) (item : Item) (code : Nat), s.awake ∧ s.hlt.testing.find? (fun x => x.1 == itemId item) = some
      (itemId item, code) ∧ s.transients (itemId item) < 2) ∧
    (∃ (s : State) (item : Item) (code : Nat), s.awake ∧ s.hlt.testing.find? (fun x => x.1 == itemId item) = some
      (itemId item, code)) :=
  ⟨⟨0, wLocked, by decide +kernel⟩,
   ⟨0, wNoCopy, by decide +kernel⟩,
   ⟨0, w0, by decide +kernel⟩,
   ⟨0, w0, 0, by decide +kernel⟩,
   ⟨0, w0, 255, by decide +kernel⟩,
   ⟨0, wSpared 24, 24, 0, by decide +kernel⟩,
   ⟨0, wSpared 0, 0, by simp [unitKind], by decide +kernel⟩,
   ⟨wProgram 0, 0, List.replicate 1024 0, false, by decide +kernel⟩,
   ⟨wReturn 0, 0, by decide +kernel⟩,
   ⟨w0, by decide +kernel⟩,
   ⟨atUs 86400000000 w0, by decide +kernel⟩,
   ⟨w0, by decide +kernel⟩,
   ⟨w0, .retained 2047, 2047, by decide +kernel⟩,
   ⟨w0, 0, by decide +kernel⟩,
   ⟨fldsAre [(Reg.EMC_LINK_UP 0, 1)] w0, 0, 16, by decide +kernel⟩,
   ⟨wTesting 0 1, .unit 0, 3, by decide +kernel⟩,
   ⟨wTesting 0 1, .unit 0, 3, by decide +kernel⟩⟩

theorem witness_ResetsAndSupplies :
    (∃ (x : Supply) (k : Nat), supplyBit x = some k) ∧
    (∃ (lowNs : _), lowNs < 150) ∧
    (∃ (lowNs : _), 250 ≤ lowNs) ∧
    (∃ (s : State), s.awake) ∧
    (∃ (s : State), s.dev.held = true ∧ s.dev.supplies = 63) ∧
    (∃ (s : State) (n : Fin 16) (valid : Bool), s.flag ⟨Reg.GEN_VIO_STATE, n, 1⟩ = valid) ∧
    (∃ (s : State) (n : Fin 16) (valid : Bool), s.awake ∧ s.flag ⟨Reg.GEN_VIO_STATE, n, 1⟩ ≠ valid) ∧
    (∃ (s : State) (n : Fin 16), s.flag ⟨Reg.GEN_VIO_STATE, n, 1⟩ = true ∧ s.dev.classes.getD n 0 = 0) ∧
    (∃ (s : State) (n : Fin 16), (s.flag ⟨Reg.GEN_VIO_STATE, n, 1⟩ = false ∨ s.dev.classes.getD n 0 ≠ 0)) ∧
    (∃ (s : State), s.awake ∧ s.settled) :=
  ⟨⟨.vddNvm, 5, by decide +kernel⟩,
   ⟨149, by decide +kernel⟩,
   ⟨250, by decide +kernel⟩,
   ⟨wCommit, by decide +kernel⟩,
   ⟨wDown true, by decide +kernel⟩,
   ⟨wCommit, 0, false, by decide +kernel⟩,
   ⟨wCommit, 0, true, by decide +kernel⟩,
   ⟨wVio, 0, by decide +kernel⟩,
   ⟨wCommit, 0, by decide +kernel⟩,
   ⟨wCommit, by decide +kernel⟩⟩

theorem witness_OnlyStoresChangeBytes :
    (∃ (c : Instr) (s : State) (t : State), exec c s = .next t ∧ storesBytes c = false) ∧
    (∃ (p : PageNo) (addr : BitVec 26) (a : Nat) (s : State), s.awake ∧ s.settled ∧ s.target p addr.toNat = .mem a ∧
      s.flag Reg.HLT_RESET_CAUSE_OPT_FAIL = false) ∧
    (∃ (p : PageNo) (addr : BitVec 26) (a : Nat) (s : State) (k : _), s.awake ∧ s.settled ∧ s.target p addr.toNat =
      .mem a ∧ s.flag Reg.HLT_RESET_CAUSE_OPT_FAIL = false ∧ (k < a ∨ a + 4 ≤ k)) :=
  ⟨⟨.resume 0, wDown true, wDown true, rfl, by decide +kernel⟩,
   ⟨0, 0x2001000, 0x2001000, w0, by decide +kernel⟩,
   ⟨0, 0x2001000, 0x2001000, w0, 0x2001004, by decide +kernel⟩⟩

theorem witness_EveryStepKeepsMemoryCanonical :
    ∃ (s : State) (t : State), step s = .next t ∧ Memory.wf s = true :=
  ⟨{ wDown true with mem := [(5, 1)] }, { wDown true with mem := [(5, 1)] }, rfl, by decide +kernel⟩

end Sys2Proof.Tests
end

section
/-!
SUPPORT. The rules by which a chain of register writes is framed: each write of a listed register keeps the rest, and a
command that takes over nothing but registers answers with what its operation makes.
-/

namespace Sys2Proof.Machine

variable {s t : State} {as : List Nat}

/-! ## Frames of register writes -/

theorem OnlyRegs.refl (s : State) (as : List Nat) : OnlyRegs s s as := ⟨rfl, fun _ _ => rfl⟩

theorem OnlyRegs.wr (h : OnlyRegs s t as) {a : Nat} (v : Word) (ha : a ∈ as) : OnlyRegs s (t.wr a v) as := by
  obtain ⟨hrest, hregs⟩ := h
  refine ⟨hrest, fun b hb => ?_⟩
  have hne : b ≠ a := fun hba => hb (hba ▸ ha)
  rw [t.rd_wr_ne v hne, hregs b hb]

theorem OnlyRegs.setFld (h : OnlyRegs s t as) (f : Fld) (v : Nat) (hf : f.addr ∈ as) :
    OnlyRegs s (t.setFld f v) as := h.wr _ hf

/-- A bit of a register other than the one written reads as before. -/
theorem State.flag_setFld_bit_ne (s : State) {a j k : Nat} (v : Nat) (hk : k < 32) (h : j ≠ k) :
    (s.setFld ⟨a, k, 1⟩ v).flag ⟨a, j, 1⟩ = s.flag ⟨a, j, 1⟩ := by
  unfold State.flag
  rcases Nat.lt_or_gt_of_ne h with hlt | hgt
  · rw [s.fld_setFld_below (f := ⟨a, k, 1⟩) (g := ⟨a, j, 1⟩) v rfl hk hlt]
  · rw [s.fld_setFld_above (f := ⟨a, k, 1⟩) (g := ⟨a, j, 1⟩) v rfl hk hgt]

/-! ## Commands that write registers only -/

/-- Out of reset, a meaning that takes over the registers of `f s`, which differs from `s` in registers only, answers
with `f s`. -/
theorem live_regs (f : State → State) (h : s.awake) (hf : OnlyRegs s (f s) as) :
    live s (fun s => { s with regs := (f s).regs }) = .next (f s) := by
  obtain ⟨hrest, -⟩ := hf
  have hregs : { s with regs := (f s).regs } = f s :=
    calc { s with regs := (f s).regs }
      _ = { ({ f s with regs := s.regs } : State) with regs := (f s).regs } := by rw [hrest]
      _ = f s := rfl
  rw [live_exact s _ h rfl rfl, hregs]

/-- The same for a page's write of a command register that is taken. -/
theorem live_onWrite_regs {p a : Nat} (f : State → State) (h : s.takes p a) (hf : OnlyRegs s (f s) as) :
    live s (fun s => { s with regs := (s.onWrite p a f).regs }) = .next (f s) := by
  have hact := onWrite_takes s f h
  rw [live_regs (as := as) (fun s => s.onWrite p a f) h.1 (by rw [hact]; exact hf), hact]

end Sys2Proof.Machine
end

section
/-!
The pins of a page (R117, R120): what pinning, unpinning and the expiry of a pin do to the registers, and that the
commands complete with exactly that.
-/

namespace Sys2Proof.Machine

variable (s : State) (p : Nat)

/-! ## A pin is taken -/

theorem pinEpoch_ne_pinStatus : Reg.PSG_PIN_EPOCH p ≠ Reg.PSG_PIN_STATUS p := by
  simp only [Reg.PSG_PIN_EPOCH, Reg.PSG_PIN_STATUS]; omega

theorem pinEpoch_ne_sigPinEpoch : Reg.PSG_PIN_EPOCH p ≠ Reg.SIG_PIN_EPOCH p := by
  simp only [Reg.PSG_PIN_EPOCH, Reg.SIG_PIN_EPOCH, Reg.pageBase]; omega

/-- The registers that taking a pin may change: the pinned epoch where the page and the owner see it, and the status. -/
abbrev pinRegs : List Nat := [Reg.PSG_PIN_EPOCH p, Reg.SIG_PIN_EPOCH p, Reg.PSG_PIN_STATUS p]

theorem State.pin_pinned (e : Word) : (s.pin p e).flag (Reg.PSG_PIN_STATUS_PINNED p) = true :=
  State.flag_setFld_one _ _ rfl (by simp)

theorem State.pin_epoch (e : Word) : (s.pin p e).rd (Reg.PSG_PIN_EPOCH p) = e := by
  rw [State.pin, State.rd_setFld_ne _ _ (pinEpoch_ne_pinStatus p), State.rd_wr_ne _ _ (pinEpoch_ne_sigPinEpoch p),
    State.rd_wr_same]

theorem State.pin_onlyRegs (e : Word) : OnlyRegs s (s.pin p e) (pinRegs p) :=
  (((OnlyRegs.refl s _).wr e (by simp)).wr e (by simp)).setFld _ 1 (by simp)

/-! ## PIN_AT is accepted or refused -/

/-- PIN_AT names an epoch that is at most two behind the newest one (R117). -/
abbrev State.pinAtFits : Prop :=
  0 ≤ sdiff 32 (s.rd Reg.SIG_EPOCH).toNat (s.rd (Reg.PSG_PIN_AT p)).toNat ∧
    sdiff 32 (s.rd Reg.SIG_EPOCH).toNat (s.rd (Reg.PSG_PIN_AT p)).toNat ≤ 2

variable {s p}

theorem State.pinAt_accepted (h : s.pinAtFits p) : s.pinAt p = s.pin p (s.rd (Reg.PSG_PIN_AT p)) := if_pos h

theorem State.pinAt_refused (h : ¬ s.pinAtFits p) : s.pinAt p = s.setFld (Reg.PSG_PIN_STATUS_PIN_REFUSED p) 1 :=
  if_neg h

theorem State.pinAt_onlyRegs : OnlyRegs s (s.pinAt p) (pinRegs p) := by
  by_cases h : s.pinAtFits p
  · rw [pinAt_accepted h]; exact s.pin_onlyRegs p _
  · rw [pinAt_refused h]; exact (OnlyRegs.refl s _).setFld _ 1 (by simp)

/-! ## A pin is released -/

theorem State.unpin_pinned : (s.unpin p).flag (Reg.PSG_PIN_STATUS_PINNED p) = false :=
  State.flag_setFld_zero _ _ (by simp)

theorem State.unpin_onlyRegs : OnlyRegs s (s.unpin p) [Reg.PSG_PIN_STATUS p] :=
  (OnlyRegs.refl s _).setFld _ 0 (by simp)

/-- A pin that has expired is released and marked in three fields of PSG_PIN_STATUS (R120). -/
theorem State.pinExpire_old (h : s.pinOld p = true) :
    s.pinExpire p = ((s.unpin p).setFld (Reg.PSG_PIN_STATUS_PIN_EXPIRED p) 1).setFld
      (Reg.PSG_PIN_STATUS_PIN_BROKEN p) 1 := if_pos h

theorem State.pinExpire_pinned (h : s.pinOld p = true) :
    (s.pinExpire p).flag (Reg.PSG_PIN_STATUS_PINNED p) = false := by
  rw [pinExpire_old h, flag_setFld_bit_ne _ _ (by simp) (by simp), flag_setFld_bit_ne _ _ (by simp) (by simp),
    unpin_pinned]

theorem State.pinExpire_expired (h : s.pinOld p = true) :
    (s.pinExpire p).flag (Reg.PSG_PIN_STATUS_PIN_EXPIRED p) = true := by
  rw [pinExpire_old h, flag_setFld_bit_ne _ _ (by simp) (by simp), flag_setFld_one _ _ rfl (by simp)]

theorem State.pinExpire_broken (h : s.pinOld p = true) :
    (s.pinExpire p).flag (Reg.PSG_PIN_STATUS_PIN_BROKEN p) = true := by
  rw [pinExpire_old h, flag_setFld_one _ _ rfl (by simp)]

theorem State.pinExpire_onlyRegs (h : s.pinOld p = true) : OnlyRegs s (s.pinExpire p) [Reg.PSG_PIN_STATUS p] := by
  rw [pinExpire_old h]
  exact (unpin_onlyRegs.setFld _ 1 (by simp)).setFld _ 1 (by simp)

/-! ## The commands -/

variable {q : PageNo}

theorem exec_pinNow (h : s.takes q (Reg.PSG_PIN_CMD q)) : exec (.pinNow q) s = .next (s.pinNow q) :=
  live_onWrite_regs (fun t => t.pinNow q) h (s.pin_onlyRegs q _)

theorem exec_pinAt (h : s.takes q (Reg.PSG_PIN_CMD q)) : exec (.pinAt q) s = .next (s.pinAt q) :=
  live_onWrite_regs (fun t => t.pinAt q) h State.pinAt_onlyRegs

theorem exec_unpin (h : s.takes q (Reg.PSG_PIN_CMD q)) : exec (.unpin q) s = .next (s.unpin q) :=
  live_onWrite_regs (fun t => t.unpin q) h State.unpin_onlyRegs

theorem exec_pinExpired (h : s.awake) (hold : s.pinOld q = true) : exec (.pinExpired q) s = .next (s.pinExpire q) :=
  live_regs (fun t => t.pinExpire q) h (State.pinExpire_onlyRegs hold)

theorem pinNow_completes (h : s.takes q (Reg.PSG_PIN_CMD q)) :
    Completes (.pinNow q) s fun t =>
      t.flag (Reg.PSG_PIN_STATUS_PINNED q) = true ∧ t.rd (Reg.PSG_PIN_EPOCH q) = s.rd Reg.SIG_EPOCH ∧
      OnlyRegs s t (pinRegs q) :=
  ⟨_, exec_pinNow h, s.pin_pinned q _, s.pin_epoch q _, s.pin_onlyRegs q _⟩

theorem pinAt_completes (h : s.takes q (Reg.PSG_PIN_CMD q)) :
    Completes (.pinAt q) s fun t =>
      OnlyRegs s t (pinRegs q) ∧
      if s.pinAtFits q then
        t.flag (Reg.PSG_PIN_STATUS_PINNED q) = true ∧ t.rd (Reg.PSG_PIN_EPOCH q) = s.rd (Reg.PSG_PIN_AT q)
      else t.flag (Reg.PSG_PIN_STATUS_PIN_REFUSED q) = true ∧
        t.rd (Reg.PSG_PIN_EPOCH q) = s.rd (Reg.PSG_PIN_EPOCH q) := by
  refine ⟨_, exec_pinAt h, State.pinAt_onlyRegs, ?_⟩
  split
  case isTrue hfits =>
    rw [State.pinAt_accepted hfits]
    exact ⟨s.pin_pinned q _, s.pin_epoch q _⟩
  case isFalse hfar =>
    rw [State.pinAt_refused hfar]
    exact ⟨s.flag_setFld_one _ rfl (by simp), s.rd_setFld_ne _ (pinEpoch_ne_pinStatus q)⟩

theorem unpin_completes (h : s.takes q (Reg.PSG_PIN_CMD q)) :
    Completes (.unpin q) s fun t =>
      t.flag (Reg.PSG_PIN_STATUS_PINNED q) = false ∧ OnlyRegs s t [Reg.PSG_PIN_STATUS q] :=
  ⟨_, exec_unpin h, State.unpin_pinned, State.unpin_onlyRegs⟩

theorem pinExpired_completes (h : s.awake) (hold : s.pinOld q = true) :
    Completes (.pinExpired q) s fun t =>
      t.flag (Reg.PSG_PIN_STATUS_PINNED q) = false ∧ t.flag (Reg.PSG_PIN_STATUS_PIN_EXPIRED q) = true ∧
      t.flag (Reg.PSG_PIN_STATUS_PIN_BROKEN q) = true ∧ OnlyRegs s t [Reg.PSG_PIN_STATUS q] :=
  ⟨_, exec_pinExpired h hold, State.pinExpire_pinned hold, State.pinExpire_expired hold, State.pinExpire_broken hold,
    State.pinExpire_onlyRegs hold⟩

end Sys2Proof.Machine

open Sys2Proof.Machine in
/-- Settles O9: each of the four commands answers with its operation on the registers, which is a chain of writes of the
pin's own registers. -/
theorem pinsOfAPage : Obligations.PinsOfAPage := by
  intro p s
  refine ⟨fun h => ⟨pinNow_completes h, pinAt_completes h, unpin_completes h⟩, fun hawake hpinned hbehind => ?_⟩
  have hold : s.pinOld p = true := Bool.and_eq_true_iff.2 ⟨hpinned, decide_eq_true hbehind⟩
  exact pinExpired_completes hawake hold

end

section
/-!
SUPPORT. Further rules of the named operations that the time base and the phase trackers use: 64-bit values beside
other registers, what the posting of an event leaves alone, and pages with nothing waiting.
-/

namespace Sys2Proof.Machine

variable (s : State)

/-! ## 64-bit values -/

/-- A 64-bit value is put together from its own halves. -/
theorem mkDWord_loWord_hiWord (d : DWord) : mkDWord (loWord d) (hiWord d) = d := by
  refine BitVec.eq_of_getLsbD_eq fun i hi => ?_
  simp only [mkDWord, loWord, hiWord, BitVec.getLsbD_or, BitVec.getLsbD_shiftLeft, BitVec.getLsbD_setWidth,
    BitVec.getLsbD_ushiftRight]
  rcases Nat.lt_or_ge i 32 with hlow | hhigh
  · simp [hlow, hi]
  · simp [show ¬ i < 32 by omega, hi, show i - 32 < 32 by omega, show i - 32 < 64 by omega,
      show 32 + (i - 32) = i by omega]

/-- A 64-bit value reads as it was written. -/
@[simp] theorem State.rd64_wr64_same (a : Nat) (v : DWord) : (s.wr64 a v).rd64 a = v := by
  rw [rd64, wr64, State.rd_wr_ne _ _ (by omega), State.rd_wr_same, State.rd_wr_same, mkDWord_loWord_hiWord]

theorem State.rd_wr64_ne {a b : Nat} (v : DWord) (hl : b ≠ a) (hh : b ≠ a + 4) : (s.wr64 a v).rd b = s.rd b := by
  rw [wr64, State.rd_wr_ne _ _ hh, State.rd_wr_ne _ _ hl]

/-- A 64-bit value beside a register that is written reads as before. -/
theorem State.rd64_wr_ne {a b : Nat} (v : Word) (hl : b ≠ a) (hh : b + 4 ≠ a) : (s.wr a v).rd64 b = s.rd64 b := by
  rw [rd64, rd64, State.rd_wr_ne _ _ hl, State.rd_wr_ne _ _ hh]

/-- Of two 64-bit values that share no register, writing one leaves the other. -/
theorem State.rd64_wr64_ne {a b : Nat} (v : DWord) (hl : b + 4 < a ∨ a + 4 < b) : (s.wr64 a v).rd64 b = s.rd64 b := by
  rw [wr64, State.rd64_wr_ne _ _ (by omega) (by omega), State.rd64_wr_ne _ _ (by omega) (by omega)]

/-! ## Events -/

theorem State.levelRise_rd (p q : Nat) {a : Nat} (h : a ≠ Reg.EQ_STATE p q) : (s.levelRise p q).rd a = s.rd a := by
  rw [← s.rd_setFld_ne (f := Reg.EQ_STATE_LEVEL_HIT p q) 1 h, levelRise]
  split <;> rfl

/-- Posting to a queue writes registers of the page's event queues only. -/
theorem State.postTo_rd (p q : Nat) (e : DWord) {a : Nat} (h : a < 0x3000000) : (s.postTo p q e).rd a = s.rd a := by
  have hq : a < Reg.EQ_STATE p q ∧ a < Reg.EQ_PEAK p q ∧ a < Reg.EQ_LOST p q ∧ a < Reg.EQ_POSTED p q := by
    simp only [Reg.EQ_STATE, Reg.EQ_PEAK, Reg.EQ_LOST, Reg.EQ_POSTED, Reg.pageBase]; omega
  obtain ⟨hstate, hpeak, hlost, hposted⟩ := hq
  simp only [postTo]
  split <;> split <;>
    simp only [levelRise_rd _ p q hstate.ne, State.rd_setFld_ne (f := Reg.EQ_PEAK_PEAK p q) _ _ hpeak.ne,
      State.rd_bump_ne _ hlost.ne, State.rd_tick_ne _ hposted.ne] <;> rfl

/-- An event leaves every register below the pages' windows alone. -/
theorem State.postEvent_rd (code src : Nat) (data : Word) {a : Nat} (h : a < 0x3000000) :
    (s.postEvent code src data).rd a = s.rd a := by
  have hall : ∀ (l : List (Nat × Nat)) (e : DWord) (t : State),
      (l.foldl (fun t pq => t.postTo pq.1 pq.2 e) t).rd a = t.rd a := by
    intro l e
    induction l with
    | nil => exact fun _ => rfl
    | cons pq l ih => exact fun t => (ih _).trans (t.postTo_rd pq.1 pq.2 e h)
  exact hall _ _ s

theorem State.postEvent_fld (code src : Nat) (data : Word) {f : Fld} (h : f.addr < 0x3000000) :
    (s.postEvent code src data).fld f = s.fld f := by
  rw [fld, fld, s.postEvent_rd code src data h]

/-! ## Nothing waits for an operation to end -/

variable {s}

/-- With no request withheld and no path selection open, the end of operations starts nothing (R371, R374). -/
theorem State.opsSettle_settled (h : s.settled) : s.opsSettle = s := by
  obtain ⟨hheld, hsel⟩ := h
  have hnow : ∀ p < 8, s.selectNow p = s := fun p hp => by simp only [selectNow, hsel ⟨p, hp⟩]
  have hall : ∀ l : List Nat, (∀ p ∈ l, p < 8) → l.foldl (fun t p => t.selectNow p) s = s := by
    intro l
    induction l with
    | nil => exact fun _ => rfl
    | cons p l ih =>
      intro hl
      rw [List.foldl_cons, hnow p (hl p List.mem_cons_self)]
      exact ih fun q hq => hl q (List.mem_cons_of_mem p hq)
  have hadmit : s.opAdmit s.bridge.withheld.length = s := by rw [hheld]; rfl
  rw [opsSettle, hadmit]
  exact hall _ fun p hp => List.mem_range.1 hp

/-- A page's write of a register that it may write is what the register does. -/
theorem State.hostWrite_takes {p a be : Nat} (v : Word) (ht : s.target p a = .reg a) (hm : s.mayWrite p a = true)
    (h : (s.regWrite a v).settled) : s.hostWrite p a be v = s.regWrite a v := by
  have hput : (s.putWord p a be v).1 = s.regWrite a v := by simp only [putWord, busWrite, ht, hm, if_true]
  rw [hostWrite, hput, opsSettle_settled h]

end Sys2Proof.Machine
end

section
/-!
Rate and adjustments of the time base (R159 to R161): a new rate moves the anchor, an adjustment moves what is left to
slew, and neither moves disciplined time; with SERVO = 1 the writes of a host are refused.
-/

namespace Sys2Proof.Machine

variable (s : State)

/-- A state that differs from `s` in registers and the time base only is `s` with these two taken over. -/
theorem OnlyRegs.frame {s t : State} {as : List Nat} (h : OnlyRegs { s with tb := t.tb } t as) :
    { s with regs := t.regs, tb := t.tb } = t := by
  obtain ⟨hrest, -⟩ := h
  exact (congrArg (fun u : State => { u with regs := t.regs }) hrest).symm

/-! ## The terms of disciplined time -/

/-- At the anchor the rate has added nothing yet. -/
theorem State.rateTerm_anchor : s.rateTerm s.tb.anchor16 = 0 := by simp [rateTerm]

/-- At its start a slew has absorbed nothing yet. -/
theorem State.slewDone_start : s.slewDone s.tb.slewAt16 = 0 := by simp [slewDone]

theorem State.slewDone_wr_ne {a : Nat} (v : Word) (l : Nat) (h : Reg.TMB_SLEW ≠ a) :
    (s.wr a v).slewDone l = s.slewDone l := by
  simp only [slewDone, slewPpm, s.fld_wr_ne v (f := Reg.TMB_SLEW_SLEW_PPM) h, wr_tb]

/-- Disciplined time depends on two registers only: the rate and the speed of a slew. -/
theorem State.disc16_wr_ne {a : Nat} (v : Word) (hr : Reg.TMB_RATE ≠ a) (hs : Reg.TMB_SLEW ≠ a) :
    (s.wr a v).disc16 = s.disc16 := by
  simp only [disc16, disc16At, rateTerm, s.slewDone_wr_ne v _ hs, s.rd_wr_ne v hr, wr_tb]

theorem State.slewLeft_wr_ne {a : Nat} (v : Word) (h : Reg.TMB_SLEW ≠ a) : (s.wr a v).slewLeft = s.slewLeft := by
  simp only [slewLeft, s.slewDone_wr_ne v _ h, wr_tb]

/-! ## A new rate -/

/-- The accumulated rate term moves into OFFSET and the anchor comes to now (R159). -/
def State.anchored : State :=
  { s with tb := { s.tb with offset16 := s.tb.offset16 + s.rateTerm s.tb.local16, anchor16 := s.tb.local16 } }

/-- RATE as it takes effect: at most 1,000 ppm either way (R159). -/
abbrev clampRate (v : Word) : Int := max (-1099511628) (min 1099511628 v.toInt)

variable {s} {v : Word}

theorem State.setRate_within (h : clampRate v = v.toInt) :
    s.setRate v = s.anchored.wr Reg.TMB_RATE (BitVec.ofInt 32 (clampRate v)) := if_pos h

theorem State.setRate_clamped (h : clampRate v ≠ v.toInt) :
    s.setRate v = (s.anchored.wr Reg.TMB_RATE (BitVec.ofInt 32 (clampRate v))).setFld Reg.TMB_STATUS_RATE_CLAMP 1 :=
  if_neg h

/-- From the anchor on, disciplined time goes on from where it was, whatever the new rate. -/
theorem State.anchored_rate_disc16 (w : Word) : (s.anchored.wr Reg.TMB_RATE w).disc16 = s.disc16 := by
  have hslew : (s.anchored.wr Reg.TMB_RATE w).slewDone s.tb.local16 = s.slewDone s.tb.local16 :=
    s.anchored.slewDone_wr_ne w _ (by decide)
  have hrate : (s.anchored.wr Reg.TMB_RATE w).rateTerm s.tb.local16 = 0 :=
    (s.anchored.wr Reg.TMB_RATE w).rateTerm_anchor
  calc (s.anchored.wr Reg.TMB_RATE w).disc16
    _ = s.tb.local16 + (s.tb.offset16 + s.rateTerm s.tb.local16)
          + (s.anchored.wr Reg.TMB_RATE w).slewDone s.tb.local16
          + (s.anchored.wr Reg.TMB_RATE w).rateTerm s.tb.local16 := rfl
    _ = s.disc16 := by rw [hslew, hrate, disc16, disc16At]; ring

theorem State.setRate_disc16 : (s.setRate v).disc16 = s.disc16 := by
  by_cases h : clampRate v = v.toInt
  · rw [setRate_within h, anchored_rate_disc16]
  · rw [setRate_clamped h, setFld, disc16_wr_ne _ _ (by decide) (by decide), anchored_rate_disc16]

theorem State.setRate_rd : (s.setRate v).rd Reg.TMB_RATE = BitVec.ofInt 32 (clampRate v) := by
  by_cases h : clampRate v = v.toInt
  · rw [setRate_within h, rd_wr_same]
  · rw [setRate_clamped h, rd_setFld_ne _ _ (by decide), rd_wr_same]

theorem State.setRate_tb : (s.setRate v).tb = s.anchored.tb := by
  by_cases h : clampRate v = v.toInt
  · rw [setRate_within h, wr_tb]
  · rw [setRate_clamped h, setFld_tb, wr_tb]

theorem State.setRate_clamp_flag (h : v.toInt < -1099511628 ∨ 1099511628 < v.toInt) :
    (s.setRate v).flag Reg.TMB_STATUS_RATE_CLAMP = true := by
  rw [setRate_clamped (by simp only [clampRate]; omega), flag_setFld_one _ _ rfl (by decide)]

theorem State.setRate_onlyRegs : OnlyRegs s.anchored (s.setRate v) [Reg.TMB_RATE, Reg.TMB_STATUS] := by
  by_cases h : clampRate v = v.toInt
  · rw [setRate_within h]
    exact (OnlyRegs.refl _ _).wr _ (by simp)
  · rw [setRate_clamped h]
    exact ((OnlyRegs.refl _ _).wr _ (by simp)).setFld _ 1 (by simp)

/-! ## A new slew -/

variable (s)

/-- From now on `left` is to be slewed; what has been slewed so far is in OFFSET (R160). -/
def State.slewing (left : Int) : State :=
  { s with tb := { s.tb with
    offset16 := s.tb.offset16 + s.slewDone s.tb.local16, slew16 := left, slewAt16 := s.tb.local16 } }

theorem State.slewing_slewDone (left : Int) : (s.slewing left).slewDone s.tb.local16 = 0 :=
  (s.slewing left).slewDone_start

/-- A new slew starts from disciplined time as it is. -/
theorem State.slewing_disc16 (left : Int) : (s.slewing left).disc16 = s.disc16 := by
  calc (s.slewing left).disc16
    _ = s.tb.local16 + (s.tb.offset16 + s.slewDone s.tb.local16) + (s.slewing left).slewDone s.tb.local16
          + s.rateTerm s.tb.local16 := rfl
    _ = s.disc16 := by rw [slewing_slewDone, disc16, disc16At]; ring

theorem State.slewing_slewLeft (left : Int) : (s.slewing left).slewLeft = left := by
  calc (s.slewing left).slewLeft
    _ = left - (s.slewing left).slewDone s.tb.local16 := rfl
    _ = left := by rw [slewing_slewDone, sub_zero]

/-- The adjustment `left` is to be slewed, and SLEWING shows whether it is any (R160). -/
def State.slewTo (left : Int) : State := (s.slewing left).setFld Reg.TMB_STATUS_SLEWING (if left = 0 then 0 else 1)

theorem State.slewTo_disc16 (left : Int) : (s.slewTo left).disc16 = s.disc16 := by
  rw [slewTo, setFld, disc16_wr_ne _ _ (by decide) (by decide), slewing_disc16]

theorem State.slewTo_slewLeft (left : Int) : (s.slewTo left).slewLeft = left := by
  rw [slewTo, setFld, slewLeft_wr_ne _ _ (by decide), slewing_slewLeft]

theorem State.slewTo_flag (left : Int) : (s.slewTo left).flag Reg.TMB_STATUS_SLEWING = true ↔ left ≠ 0 := by
  by_cases h : left = 0
  · simp only [slewTo, h, if_true, flag_setFld_zero _ Reg.TMB_STATUS_SLEWING (by decide)]; simp
  · simp only [slewTo, h, if_false, flag_setFld_one _ Reg.TMB_STATUS_SLEWING rfl (by decide)]; simp [h]

theorem State.slewTo_onlyRegs (left : Int) : OnlyRegs (s.slewing left) (s.slewTo left) [Reg.TMB_STATUS] :=
  (OnlyRegs.refl _ _).setFld _ _ (by simp)

variable {s}

/-- An adjustment below STEP_THRESH, or without STEP_ALLOW, is added to what is left to slew (R160). -/
theorem State.adjust_slewed {adj : Int} (hset : s.flag Reg.TMB_STATUS_TIME_SET = true)
    (h : adj.natAbs < (s.rd Reg.TMB_STEP_THRESH).toNat ∨ s.flag Reg.TMB_CTRL_STEP_ALLOW = false) :
    s.adjust adj = s.slewTo (s.slewLeft + adj * 65536) := by
  have hsmall : (decide ((s.rd Reg.TMB_STEP_THRESH).toNat ≤ adj.natAbs) && s.flag Reg.TMB_CTRL_STEP_ALLOW) = false := by
    rcases h with hthresh | hallow
    · rw [decide_eq_false (by omega), Bool.false_and]
    · rw [hallow, Bool.and_false]
  rw [adjust, hset, hsmall]
  rfl

/-- An absorbed slew ends (R160). -/
theorem State.slewComplete_absorbed (hs : s.flag Reg.TMB_STATUS_SLEWING = true) (h : s.slewLeft = 0) :
    s.slewComplete = s.slewTo 0 := by
  rw [slewComplete, if_pos ⟨hs, h⟩, slewSettle, h]
  rfl

/-! ## Refused writes -/

/-- With SERVO = 1 a host's rate or adjustment is refused: ADJ_REFUSED (R161). -/
abbrev State.adjRefused (s : State) : State := s.setFld Reg.TMB_STATUS_ADJ_REFUSED 1

theorem State.adjRefused_spec :
    s.adjRefused.flag Reg.TMB_STATUS_ADJ_REFUSED = true ∧ OnlyRegs s s.adjRefused [Reg.TMB_STATUS] :=
  ⟨flag_setFld_one _ _ rfl (by decide), (OnlyRegs.refl s _).setFld _ 1 (by simp)⟩

theorem State.rateWrite_servo (h : s.flag Reg.TMB_CTRL_SERVO = true) : s.rateWrite v = s.adjRefused := if_pos h

theorem State.rateWrite_host (h : s.flag Reg.TMB_CTRL_SERVO = false) : s.rateWrite v = s.setRate v :=
  if_neg (by rw [h]; simp)

theorem State.adjWrite_servo (h : s.flag Reg.TMB_CTRL_SERVO = true) : s.adjWrite v = s.adjRefused := if_pos h

theorem State.adjWrite_host (h : s.flag Reg.TMB_CTRL_SERVO = false) :
    s.adjWrite v = s.adjust (mkDWord (s.rd Reg.TMB_ADJ_LO) v).toInt := if_neg (by rw [h]; simp)

/-- The registers of a host's rate and adjustments. -/
abbrev adjRegs : List Nat := [Reg.TMB_RATE, Reg.TMB_ADJ_LO, Reg.TMB_ADJ_HI]

/-- A write in the time base's block. -/
theorem State.regWrite_tmb {a : Nat} (h : a / 0x10000 = 0x13) : s.regWrite a v = s.writeTmb a v := by
  rw [regWrite, if_pos (by omega)]
  simp only [writeDev, h]

theorem State.regWrite_servo {a : Nat} (ha : a ∈ adjRegs) (h : s.flag Reg.TMB_CTRL_SERVO = true) :
    s.regWrite a v = s.adjRefused := by
  simp only [adjRegs, List.mem_cons, List.not_mem_nil, or_false] at ha
  rcases ha with rfl | rfl | rfl <;> rw [regWrite_tmb rfl, writeTmb]
  case inl => simp [rateWrite_servo h]
  case inr.inl => simp [h]
  case inr.inr => simp [adjWrite_servo h]

/-! ## The commands -/

variable {p : PageNo}

/-- A rate write that is taken is answered with what it makes, where that is registers and the time base. -/
theorem exec_rateWrite {t : State} (h : s.takes p Reg.TMB_RATE) (hop : s.rateWrite v = t)
    (hframe : { s with regs := t.regs, tb := t.tb } = t) : exec (.rateWrite p v) s = .next t := by
  change execRateWrite p v s = .next t
  rw [execRateWrite, live_exact s _ h.1 rfl rfl]
  simp only [onWrite_takes s (fun t => t.rateWrite v) h, hop, hframe]

/-- The same for an adjustment of a host: neither a slew nor a refusal uses the rest of what a step may change. -/
theorem exec_adjustment {t : State} (h : s.takes p Reg.TMB_ADJ_HI) (hop : s.adjWrite v = t)
    (hframe : { s with regs := t.regs, tb := t.tb } = t) : exec (.adjustment (.host p v)) s = .next t := by
  have hall : { s with
      regs := t.regs, eqs := t.eqs, out := t.out, sig := t.sig, tb := t.tb, can := t.can, ports := t.ports,
      acts := t.acts, upd := t.upd } = t := by rw [← hframe]
  change execAdjustment (.host p v) s = .next t
  rw [execAdjustment, live_exact s _ h.1 rfl rfl]
  simp only [onWrite_takes s (fun t => t.adjWrite v) h, hop, hall]

/-- A new rate takes effect without a jump, clamped and flagged beyond 1,000 ppm (R159, R161). -/
theorem rateWrite_completes (h : s.takes p Reg.TMB_RATE) (hservo : s.flag Reg.TMB_CTRL_SERVO = false) :
    Completes (.rateWrite p v) s fun t =>
      t.rd Reg.TMB_RATE = BitVec.ofInt 32 (clampRate v) ∧ t.disc16 = s.disc16 ∧ t.tb.local16 = s.tb.local16 ∧
      ((v.toInt < -1099511628 ∨ 1099511628 < v.toInt) → t.flag Reg.TMB_STATUS_RATE_CLAMP = true) ∧
      OnlyRegs { s with tb := t.tb } t [Reg.TMB_RATE, Reg.TMB_STATUS] := by
  have hregs : OnlyRegs { s with tb := (s.setRate v).tb } (s.setRate v) [Reg.TMB_RATE, Reg.TMB_STATUS] := by
    rw [State.setRate_tb]; exact State.setRate_onlyRegs
  refine ⟨_, exec_rateWrite h (State.rateWrite_host hservo) hregs.frame, ?_⟩
  exact ⟨State.setRate_rd, State.setRate_disc16, by rw [State.setRate_tb]; rfl, State.setRate_clamp_flag, hregs⟩

/-- A refused write of a host shows ADJ_REFUSED and changes nothing else (R161). -/
theorem rateWrite_refused (h : s.takes p Reg.TMB_RATE) (hservo : s.flag Reg.TMB_CTRL_SERVO = true) :
    Completes (.rateWrite p v) s fun t =>
      t.flag Reg.TMB_STATUS_ADJ_REFUSED = true ∧ OnlyRegs s t [Reg.TMB_STATUS] :=
  ⟨_, exec_rateWrite h (State.rateWrite_servo hservo) rfl, State.adjRefused_spec⟩

theorem adjustment_refused (h : s.takes p Reg.TMB_ADJ_HI) (hservo : s.flag Reg.TMB_CTRL_SERVO = true) :
    Completes (.adjustment (.host p v)) s fun t =>
      t.flag Reg.TMB_STATUS_ADJ_REFUSED = true ∧ OnlyRegs s t [Reg.TMB_STATUS] :=
  ⟨_, exec_adjustment h (State.adjWrite_servo hservo) rfl, State.adjRefused_spec⟩

theorem registerWrite_refused {addr : BitVec 26} {a : Nat} (ha : a ∈ adjRegs) (haddr : addr.toNat = a)
    (hsettled : s.settled) (h : s.takes p a) (hservo : s.flag Reg.TMB_CTRL_SERVO = true) :
    Completes (.registerWrite p addr v) s fun t =>
      t.flag Reg.TMB_STATUS_ADJ_REFUSED = true ∧ OnlyRegs s t [Reg.TMB_STATUS] := by
  obtain ⟨hawake, htarget, hmay⟩ := h
  have hblock : a / 0x100000 = 1 := by
    simp only [adjRegs, List.mem_cons, List.not_mem_nil, or_false] at ha
    rcases ha with rfl | rfl | rfl <;> rfl
  rw [pageAddr, if_neg (by omega)] at htarget
  have hwrite : s.hostWrite p addr.toNat 15 v = s.adjRefused := by
    rw [haddr, ← State.regWrite_servo (v := v) ha hservo]
    refine State.hostWrite_takes v htarget hmay ?_
    rw [State.regWrite_servo ha hservo]
    exact hsettled
  refine ⟨s.adjRefused, ?_, State.adjRefused_spec⟩
  change execRegisterWrite p addr v s = .next s.adjRefused
  rw [execRegisterWrite, live_exact s _ hawake (by rw [hwrite]; rfl) (by rw [hwrite]; rfl), hwrite]

theorem adjustment_slewed (h : s.takes p Reg.TMB_ADJ_HI) (hservo : s.flag Reg.TMB_CTRL_SERVO = false)
    (hset : s.flag Reg.TMB_STATUS_TIME_SET = true)
    (hsmall : (mkDWord (s.rd Reg.TMB_ADJ_LO) v).toInt.natAbs < (s.rd Reg.TMB_STEP_THRESH).toNat ∨
      s.flag Reg.TMB_CTRL_STEP_ALLOW = false) :
    Completes (.adjustment (.host p v)) s fun t =>
      t.disc16 = s.disc16 ∧ t.slewLeft = s.slewLeft + (mkDWord (s.rd Reg.TMB_ADJ_LO) v).toInt * 65536 ∧
      (t.flag Reg.TMB_STATUS_SLEWING = true ↔ t.slewLeft ≠ 0) ∧
      OnlyRegs { s with tb := t.tb } t [Reg.TMB_STATUS] := by
  refine ⟨_, exec_adjustment h ((State.adjWrite_host hservo).trans (State.adjust_slewed hset hsmall)) rfl, ?_⟩
  exact ⟨s.slewTo_disc16 _, s.slewTo_slewLeft _, by rw [s.slewTo_slewLeft, s.slewTo_flag], s.slewTo_onlyRegs _⟩

theorem slewComplete_completes (h : s.awake) (hs : s.flag Reg.TMB_STATUS_SLEWING = true) (hleft : s.slewLeft = 0) :
    Completes .slewComplete s fun t =>
      t.flag Reg.TMB_STATUS_SLEWING = false ∧ t.disc16 = s.disc16 ∧
      OnlyRegs { s with tb := t.tb } t [Reg.TMB_STATUS] := by
  have hexec : exec .slewComplete s = .next (s.slewTo 0) := by
    change execSlewComplete s = _
    rw [execSlewComplete, live_exact s _ h rfl rfl]
    simp only [State.slewComplete_absorbed hs hleft]
    rfl
  have hflag : ¬ (s.slewTo 0).flag Reg.TMB_STATUS_SLEWING = true := fun hf => (s.slewTo_flag 0).1 hf rfl
  exact ⟨_, hexec, Bool.eq_false_iff.2 hflag, s.slewTo_disc16 0, s.slewTo_onlyRegs 0⟩

end Sys2Proof.Machine

open Sys2Proof.Machine in
/-- Settles O15: a new rate and a new slew each put what has run so far into OFFSET, so that their own terms start at 0
and disciplined time does not jump; with SERVO = 1 all three registers lead to the same refusal. -/
theorem timeIsAdjustedWithoutJumps : Obligations.TimeIsAdjustedWithoutJumps := by
  intro p v s
  exact ⟨rateWrite_completes, rateWrite_refused, adjustment_refused, fun _ _ => registerWrite_refused,
    adjustment_slewed, slewComplete_completes⟩

end

section
/-!
The commands to the phase trackers (R145, R154): FORCE_SEARCH and HW_RESET act on each tracker named in turn, and what
they do to one tracker leaves the others alone.
-/

namespace Sys2Proof.Machine

variable (s : State)

/-! ## The trackers that a mask names -/

/-- The trackers of a mask, in ascending order. -/
abbrev named4 (mask : Nat) : List Nat := (List.range 4).filter (bitOf mask)

theorem mem_named4 {mask k : Nat} : k ∈ named4 mask ↔ k < 4 ∧ bitOf mask k = true := by
  rw [List.mem_filter, List.mem_range]

theorem named4_single (k : PtNo) : named4 (2 ^ k.val) = [k.val] := by
  revert k; decide

/-! ## Staged values -/

/-- Applying one staged write changes its register and its block's status register. -/
theorem OnlyRegs.applyOne {t : State} {as : List Nat} (h : OnlyRegs s t as) {x : Staged} (ha : x.addr ∈ as)
    (hb : blockOf x.addr ∈ as) : OnlyRegs s (t.applyOne x) as :=
  (h.wr _ ha).setFld (bstatApplied (blockOf x.addr)) 1 hb

/-- The state without the staged values of SYN_PERIOD. -/
def State.dropSyn (n : Nat) : State := { s with staged := s.staged.filter fun x => !(x.addr == Reg.PHS_SYN n) }

/-- SYN_PERIOD taken at once changes PHS_SYN and the status register of its block. -/
theorem State.synPeriodNow_onlyRegs (n : Nat) :
    OnlyRegs (s.dropSyn n) (s.synPeriodNow n) [Reg.PHS_SYN n, blockOf (Reg.PHS_SYN n)] := by
  have hall : ∀ (l : List Staged) (t : State), (∀ x ∈ l, x.addr = Reg.PHS_SYN n) →
      OnlyRegs (s.dropSyn n) t [Reg.PHS_SYN n, blockOf (Reg.PHS_SYN n)] →
      OnlyRegs (s.dropSyn n) (l.foldl State.applyOne t) [Reg.PHS_SYN n, blockOf (Reg.PHS_SYN n)] := by
    intro l
    induction l with
    | nil => exact fun _ _ h => h
    | cons x l ih =>
      intro t hl h
      have hx : x.addr = Reg.PHS_SYN n := hl x List.mem_cons_self
      exact ih _ (fun y hy => hl y (List.mem_cons_of_mem x hy)) (h.applyOne _ (by simp [hx]) (by simp [hx]))
  exact hall _ _ (fun x hx => by simpa using (List.mem_filter.1 hx).2) (OnlyRegs.refl _ _)

/-! ## FORCE_SEARCH -/

/-- What FORCE_SEARCH leaves alone: everything but registers, trackers and staged values. -/
def BesideTrackers (s t : State) : Prop := { t with regs := s.regs, trk := s.trk, staged := s.staged } = s

theorem BesideTrackers.trans {s t u : State} (h : BesideTrackers s t) (h' : BesideTrackers t u) :
    BesideTrackers s u := by
  unfold BesideTrackers at *
  calc { u with regs := s.regs, trk := s.trk, staged := s.staged }
    _ = { ({ u with regs := t.regs, trk := t.trk, staged := t.staged } : State) with
          regs := s.regs, trk := s.trk, staged := s.staged } := rfl
    _ = s := by rw [h', h]

/-- The state of tracker `n` with its position held, before the registers show SEARCH. -/
def State.ptHeld (n : Nat) : State :=
  s.setTracker n { s.tracker n with
    pos := s.ptPos n, at16 := s.tb.local16, runN := 0, slew := 0, limit := none,
    ref16 := none, slipping := false, courseOk := true, lockRun := 0 }

/-- The registers show SEARCH without a valid angle. -/
def State.showSearch (n : Nat) : State := (s.setFld (Reg.PHS_STATE_VALID n) 0).setFld (Reg.PHS_STATE_STATE n) ptSearch

theorem State.ptToSearch_eq (n : Nat) : s.ptToSearch n = ((s.ptHeld n).showSearch n).synPeriodNow n := rfl

theorem State.ptToSearch_beside (n : Nat) : BesideTrackers s (s.ptToSearch n) := by
  obtain ⟨hrest, -⟩ := State.synPeriodNow_onlyRegs ((s.ptHeld n).showSearch n) n
  rw [← ptToSearch_eq] at hrest
  have h := congrArg (fun u : State => { u with regs := s.regs, trk := s.trk, staged := s.staged }) hrest
  exact h

/-- PHS_STATE is neither PHS_SYN nor the status register of the block. -/
theorem State.synPeriodNow_ptState {n : Nat} (hn : n < 4) (k : Nat) : (s.synPeriodNow n).ptState k = s.ptState k := by
  obtain ⟨-, hregs⟩ := s.synPeriodNow_onlyRegs n
  have hblock : blockOf (Reg.PHS_SYN n) = Reg.PHS_BSTAT := by
    simp only [blockOf, Reg.PHS_SYN, Reg.PHS_BSTAT]
    rw [if_pos (by omega)]; omega
  have hrd : (s.synPeriodNow n).rd (Reg.PHS_STATE k) = s.rd (Reg.PHS_STATE k) := by
    refine hregs _ ?_
    rw [hblock]
    simp only [List.mem_cons, List.not_mem_nil, or_false, Reg.PHS_SYN, Reg.PHS_STATE, Reg.PHS_BSTAT]
    omega
  rw [ptState, ptState, fld, fld, hrd]

theorem State.showSearch_ptState (n k : Nat) : (s.showSearch n).ptState k = if k = n then 0 else s.ptState k := by
  split
  case isTrue h => rw [h, ptState, showSearch, fld_setFld_same _ _ _ (by simp)]; rfl
  case isFalse h =>
    have hne : Reg.PHS_STATE k ≠ Reg.PHS_STATE n := by simp only [Reg.PHS_STATE]; omega
    rw [ptState, ptState, showSearch, fld_setFld_addr _ _ hne, fld_setFld_addr _ _ hne]

theorem State.ptToSearch_ptState {n : Nat} (hn : n < 4) (k : Nat) :
    (s.ptToSearch n).ptState k = if k = n then 0 else s.ptState k := by
  rw [ptToSearch_eq, synPeriodNow_ptState _ hn, showSearch_ptState]
  rfl

theorem State.ptToSearch_tracker_ne {n k : Nat} (h : k ≠ n) : (s.ptToSearch n).tracker k = s.tracker k := by
  obtain ⟨hrest, -⟩ := State.synPeriodNow_onlyRegs ((s.ptHeld n).showSearch n) n
  rw [← ptToSearch_eq] at hrest
  calc (s.ptToSearch n).tracker k
    _ = (((s.ptHeld n).showSearch n).dropSyn n).tracker k := (congrArg (fun u : State => u.tracker k) hrest :)
    _ = s.tracker k := tracker_setTracker_ne _ _ h

variable {s}

theorem State.ptForce_searching {n : Nat} (h : s.ptState n = 0) : s.ptForce n = s := if_pos h

theorem State.ptForce_locked {n : Nat} (h : s.ptState n ≠ 0) : s.ptForce n = s.ptToSearch n := if_neg h

variable (s)

theorem State.ptForce_ptState {n : Nat} (hn : n < 4) (k : Nat) :
    (s.ptForce n).ptState k = if k = n then 0 else s.ptState k := by
  by_cases h : s.ptState n = 0
  · rw [ptForce_searching h]
    split
    case isTrue hk => rw [hk, h]
    case isFalse => rfl
  · rw [ptForce_locked h, ptToSearch_ptState _ hn]

theorem State.ptForce_tracker_ne {n k : Nat} (hk : k ≠ n) : (s.ptForce n).tracker k = s.tracker k := by
  by_cases h : s.ptState n = 0
  · rw [ptForce_searching h]
  · rw [ptForce_locked h, ptToSearch_tracker_ne _ hk]

theorem State.ptForce_beside (n : Nat) : BesideTrackers s (s.ptForce n) := by
  by_cases h : s.ptState n = 0
  · rw [ptForce_searching h]; rfl
  · rw [ptForce_locked h]; exact s.ptToSearch_beside n

/-- Each tracker of a list goes to SEARCH, the others stay in their state. -/
theorem State.foldl_ptForce_ptState {l : List Nat} (hl : ∀ n ∈ l, n < 4) (k : Nat) :
    (l.foldl State.ptForce s).ptState k = if k ∈ l then 0 else s.ptState k := by
  induction l generalizing s with
  | nil => rfl
  | cons n l ih =>
    rw [List.foldl_cons, ih _ fun m hm => hl m (List.mem_cons_of_mem n hm),
      s.ptForce_ptState (hl n List.mem_cons_self)]
    by_cases hkl : k ∈ l <;> by_cases hkn : k = n <;> simp [hkl, hkn]

theorem State.foldl_ptForce_tracker {l : List Nat} {k : Nat} (hk : k ∉ l) :
    (l.foldl State.ptForce s).tracker k = s.tracker k := by
  induction l generalizing s with
  | nil => rfl
  | cons n l ih =>
    obtain ⟨hkn, hkl⟩ : k ≠ n ∧ k ∉ l := by simpa using hk
    rw [List.foldl_cons, ih _ hkl, ptForce_tracker_ne _ hkn]

theorem State.foldl_ptForce_beside (l : List Nat) : BesideTrackers s (l.foldl State.ptForce s) := by
  induction l generalizing s with
  | nil => rfl
  | cons n l ih => exact (s.ptForce_beside n).trans (ih _)

/-! ## HW_RESET -/

/-- What HW_RESET does to an entry of the action table: a phase trigger of tracker `n` resumes from the mark. -/
def resumed (n : Nat) (x : ActEntry) : ActEntry :=
  if actPhase x.words && actPt x.words == n then { x with armPos := none } else x

/-- The high-water mark of tracker `n` takes its position (R154). -/
def State.hwAtPos (n : Nat) : State :=
  { s.setTracker n { s.tracker n with hw := s.ptPos n } with acts := s.acts.map fun kv => (kv.1, resumed n kv.2) }

/-- HW_RESET reports the crossings up to here first (R147, R154). -/
theorem State.ptHwReset_eq (n : Nat) : s.ptHwReset n = (s.crossings n).hwAtPos n := rfl

theorem State.hwAtPos_tracker (n k : Nat) :
    (s.hwAtPos n).tracker k = if k = n then { s.tracker n with hw := s.ptPos n } else s.tracker k :=
  Tbl.get_set _ _ _ _ _

/-- The position of a tracker does not depend on the high-water marks. -/
theorem State.hwAtPos_ptPos (n k : Nat) : (s.hwAtPos n).ptPos k = s.ptPos k := by
  calc (s.hwAtPos n).ptPos k
    _ = ((s.hwAtPos n).tracker k).posAt (s.ptState k) (s.slewMax k) s.tb.local16 := rfl
    _ = s.ptPos k := by
      rw [hwAtPos_tracker]
      split
      case isTrue h => rw [h]; rfl
      case isFalse => rfl

/-- A map of the records of a table that keeps the empty one maps what each key reads. -/
theorem Tbl.get_map {α : Type} (d : Nat → α) (f : α → α) (t : Tbl α) (k : Nat) (hd : f (d k) = d k) :
    Tbl.get d (t.map fun kv => (kv.1, f kv.2)) k = f (Tbl.get d t k) := by
  induction t with
  | nil => exact hd.symm
  | cons kv t ih =>
    simp only [List.map_cons, Tbl.get, apply_ite f, hd, ih]

theorem State.hwAtPos_act (n e : Nat) : (s.hwAtPos n).act e = resumed n (s.act e) :=
  Tbl.get_map _ (resumed n) s.acts e rfl

variable {s}

theorem resumed_other {n : Nat} {x : ActEntry} (h : actPhase x.words = true → actPt x.words ≠ n) : resumed n x = x := by
  refine if_neg fun hx => ?_
  obtain ⟨hphase, hpt⟩ := Bool.and_eq_true_iff.1 hx
  exact h hphase (beq_iff_eq.1 hpt)

/-- No crossing of tracker `n` is still to report. -/
abbrev State.reported (s : State) (n : Nat) : Prop := later 48 (s.ptPos n) (s.tracker n).hw = false

theorem State.crossings_reported {n : Nat} (h : s.reported n) : s.crossings n = s :=
  if_neg fun ⟨_, hl⟩ => by rw [h] at hl; exact Bool.false_ne_true hl

theorem later_self (n a : Nat) : later n a a = false := by
  simp [later, sdiff, wrapTo, sgn]

theorem State.hwAtPos_reported {n k : Nat} (h : s.reported k) : (s.hwAtPos n).reported k := by
  rw [reported, hwAtPos_ptPos, hwAtPos_tracker]
  split
  case isTrue hk => rw [hk]; exact later_self _ _
  case isFalse => exact h

/-- Where nothing is to report, HW_RESET sets the marks and does nothing else. -/
theorem State.foldl_ptHwReset {l : List Nat} (h : ∀ n ∈ l, s.reported n) :
    l.foldl State.ptHwReset s = l.foldl State.hwAtPos s := by
  induction l generalizing s with
  | nil => rfl
  | cons n l ih =>
    rw [List.foldl_cons, List.foldl_cons, ptHwReset_eq, crossings_reported (h n List.mem_cons_self)]
    exact ih fun k hk => hwAtPos_reported (h k (List.mem_cons_of_mem n hk))

variable (s)

theorem State.foldl_hwAtPos_tracker (l : List Nat) (k : Nat) :
    (l.foldl State.hwAtPos s).tracker k = if k ∈ l then { s.tracker k with hw := s.ptPos k } else s.tracker k := by
  induction l generalizing s with
  | nil => rfl
  | cons n l ih =>
    rw [List.foldl_cons, ih, hwAtPos_ptPos, hwAtPos_tracker]
    by_cases hkl : k ∈ l <;> by_cases hkn : k = n <;> simp [hkl, hkn]

theorem State.foldl_hwAtPos_act {l : List Nat} {e : Nat}
    (h : actPhase (s.act e).words = true → actPt (s.act e).words ∉ l) : (l.foldl State.hwAtPos s).act e = s.act e := by
  induction l generalizing s with
  | nil => rfl
  | cons n l ih =>
    have hsame : (s.hwAtPos n).act e = s.act e := by
      rw [hwAtPos_act, resumed_other fun hp hn => h hp (hn ▸ List.mem_cons_self)]
    rw [List.foldl_cons, ih, hsame]
    rw [hsame]
    exact fun hp hl => h hp (List.mem_cons_of_mem n hl)

theorem State.foldl_hwAtPos_frame (l : List Nat) :
    { l.foldl State.hwAtPos s with trk := s.trk, acts := s.acts } = s := by
  have hall : ∀ (l : List Nat) (t : State), { t with trk := s.trk, acts := s.acts } = s →
      { l.foldl State.hwAtPos t with trk := s.trk, acts := s.acts } = s := by
    intro l
    induction l with
    | nil => exact fun _ h => h
    | cons n l ih => exact fun t h => ih _ h
  exact hall l s rfl

/-! ## The commands -/

variable {s} {p : PageNo} {mask : BitVec 4}

theorem exec_forceSearch (h : s.takes p Reg.PHS_CMD) :
    exec (.forceSearch p mask) s = .next ((named4 mask.toNat).foldl State.ptForce s) := by
  have hframe : { s with
      regs := ((named4 mask.toNat).foldl State.ptForce s).regs
      trk := ((named4 mask.toNat).foldl State.ptForce s).trk
      staged := ((named4 mask.toNat).foldl State.ptForce s).staged } = (named4 mask.toNat).foldl State.ptForce s := by
    have hbeside := s.foldl_ptForce_beside (named4 mask.toNat)
    generalize (named4 mask.toNat).foldl State.ptForce s = t at hbeside ⊢
    rw [← hbeside]
  change execForceSearch p mask s = _
  rw [execForceSearch, live_exact s _ h.1 rfl rfl]
  simp only [onWrite_takes s (fun t => t.forBits 4 mask.toNat State.ptForce) h]
  exact congrArg _ hframe

/-- HW_RESET acts on the trackers that a mask names. -/
theorem exec_hwReset (h : s.takes p Reg.PHS_CMD) :
    exec (.hwReset p mask) s = .next { (named4 mask.toNat).foldl State.ptHwReset s with
      pending := s.pending, dev := { ((named4 mask.toNat).foldl State.ptHwReset s).dev with held := false } } := by
  change execHwReset p mask s = _
  rw [execHwReset, live_next s _ h.1, onWrite_takes s _ h]
  rfl

/-- Where nothing is to report, HW_RESET is answered with the marks set. -/
theorem exec_hwReset_reported (h : s.takes p Reg.PHS_CMD) (hrep : ∀ n ∈ named4 mask.toNat, s.reported n) :
    exec (.hwReset p mask) s = .next ((named4 mask.toNat).foldl State.hwAtPos s) := by
  have hframe := s.foldl_hwAtPos_frame (named4 mask.toNat)
  have hact : s.onWrite p Reg.PHS_CMD (fun t => t.forBits 4 mask.toNat State.ptHwReset)
      = (named4 mask.toNat).foldl State.hwAtPos s :=
    (onWrite_takes s _ h).trans (State.foldl_ptHwReset hrep)
  change execHwReset p mask s = _
  rw [execHwReset, live_exact s _ h.1 ?_ ?_, hact]
  case _ => rw [hact]; exact (congrArg State.pending hframe :)
  case _ => rw [hact]; exact (congrArg State.dev hframe :)

theorem forceSearch_completes (h : s.takes p Reg.PHS_CMD) (n : Fin 4) :
    Completes (.forceSearch p mask) s fun t =>
      { t with regs := s.regs, trk := s.trk, staged := s.staged } = s ∧
      (bitOf mask.toNat n = true → t.ptState n = 0) ∧
      (bitOf mask.toNat n = false → t.tracker n = s.tracker n ∧ t.ptState n = s.ptState n) := by
  have hstate := s.foldl_ptForce_ptState (l := named4 mask.toNat) (fun k hk => (mem_named4.1 hk).1) n
  refine ⟨_, exec_forceSearch h, s.foldl_ptForce_beside _, fun hbit => ?_, fun hbit => ?_⟩
  · rw [hstate, if_pos (mem_named4.2 ⟨n.isLt, hbit⟩)]
  · have hn : n.val ∉ named4 mask.toNat := fun hmem => by simp [(mem_named4.1 hmem).2] at hbit
    exact ⟨s.foldl_ptForce_tracker hn, by rw [hstate, if_neg hn]⟩

theorem hwReset_one_completes (h : s.takes p Reg.PHS_CMD) {k : PtNo} (hk : mask.toNat = 2 ^ k.val) :
    Completes (.hwReset p mask) s fun t => (t.tracker k).hw = t.ptPos k := by
  have hone : (named4 mask.toNat).foldl State.ptHwReset s = (s.crossings k).hwAtPos k := by
    rw [hk, named4_single]; rfl
  refine ⟨_, exec_hwReset h, ?_⟩
  rw [hone]
  change (((s.crossings k).hwAtPos k).tracker k).hw = ((s.crossings k).hwAtPos k).ptPos k
  rw [State.hwAtPos_tracker, if_pos rfl, State.hwAtPos_ptPos]

theorem hwReset_completes (h : s.takes p Reg.PHS_CMD)
    (hrep : ∀ k : PtNo, bitOf mask.toNat k = true → s.reported k) (n : Fin 4) :
    Completes (.hwReset p mask) s fun t =>
      { t with trk := s.trk, acts := s.acts } = s ∧
      (bitOf mask.toNat n = true → (t.tracker n).hw = s.ptPos n) ∧
      (bitOf mask.toNat n = false → t.tracker n = s.tracker n) ∧
      ∀ e, (actPhase (s.act e).words = true → bitOf mask.toNat (actPt (s.act e).words) = false) →
        t.act e = s.act e := by
  have htracker := s.foldl_hwAtPos_tracker (named4 mask.toNat) n
  have hmem : ∀ k ∈ named4 mask.toNat, k < 4 ∧ bitOf mask.toNat k = true := fun k hk => mem_named4.1 hk
  refine ⟨_, exec_hwReset_reported h fun k hk => hrep ⟨k, (hmem k hk).1⟩ (hmem k hk).2,
    s.foldl_hwAtPos_frame _, fun hbit => ?_, fun hbit => ?_, fun e he => ?_⟩
  · rw [htracker, if_pos (mem_named4.2 ⟨n.isLt, hbit⟩)]
  · rw [htracker, if_neg fun hn => by simp [(hmem n hn).2] at hbit]
  · exact s.foldl_hwAtPos_act fun hphase hpt => by simp [(hmem _ hpt).2] at he; simp [he] at hphase

end Sys2Proof.Machine

open Sys2Proof.Machine in
/-- Settles O12: each command is a fold over the trackers named, and one tracker's step leaves the others alone; with no
crossing to report HW_RESET is only the setting of the marks. -/
theorem trackerCommands : Obligations.TrackerCommands := by
  intro p mask n s h
  exact ⟨forceSearch_completes h n, fun _ => hwReset_one_completes h, fun hrep => hwReset_completes h hrep n⟩

end

section
/-!
Pulses, snapshots and masters of the time base (R162, R164 to R168): the edges of PPS_IN, PPS_OUT, SNAP, the loss and
the return of the master, and what a Sync and its Follow_Up do on the port toward the master.
-/

namespace Sys2Proof.Machine

variable (s : State)

/-! ## PPS_IN -/

variable {s} {a : Nat}

/-- Within its 20 ns the filter shows no edge (R164). -/
theorem State.ppsEdge_filtered {o : Option ServoOut} (h : a < 20) : s.ppsEdge o a = s := if_pos h

/-- The second that an edge counts as the master: the edge is noted, TMB_PPS_SEC adds 1 and SYNC shows LOCKED (R164). -/
def State.ppsSecond (s : State) (l : Nat) : State :=
  (State.ppsSecNext { s with tb := { s.tb with lastPps := some l } }).setFld Reg.TMB_STATUS_SYNC syncLocked

/-- The start of a run of `a` ns that ends now. -/
abbrev State.runStart (s : State) (a : Nat) : Nat := s.tb.local16 - a * 65536

/-- An edge of PPS_IN is stamped at the start of its run (R164). -/
abbrev State.ppsStamped (s : State) (a : Nat) : State := s.wr Reg.TMB_PPS_IN_TS (s.stampAt (s.runStart a))

theorem State.ppsEdge_master (ha : 20 ≤ a) (h : s.flag Reg.TMB_CTRL_GM_PPS = true) :
    s.ppsEdge none a = (s.ppsStamped a).ppsSecond (s.runStart a) := by
  rw [ppsEdge, if_neg (by omega), h]
  rfl

theorem State.ppsEdge_other (ha : 20 ≤ a) (h : s.flag Reg.TMB_CTRL_GM_PPS = false) :
    s.ppsEdge none a = s.ppsStamped a := by
  rw [ppsEdge, if_neg (by omega), h]
  rfl

theorem State.ppsSecond_sync (l : Nat) : (s.ppsSecond l).fld Reg.TMB_STATUS_SYNC = syncLocked := by
  rw [ppsSecond, fld_setFld_same _ _ _ (by decide)]
  rfl

theorem State.ppsSecond_rd {b : Nat} (l : Nat) (h : b ∉ [Reg.TMB_STATUS, Reg.TMB_PPS_SEC_LO, Reg.TMB_PPS_SEC_HI]) :
    (s.ppsSecond l).rd b = s.rd b := by
  simp only [List.mem_cons, List.not_mem_nil, or_false, not_or] at h
  obtain ⟨hstatus, hlo, hhi⟩ := h
  rw [ppsSecond, rd_setFld_ne _ _ hstatus, ppsSecNext, rd_wr64_ne _ _ hlo hhi]
  rfl

theorem State.ppsSecond_count (l : Nat) : ((s.ppsSecond l).rd64 Reg.TMB_PPS_SEC_LO).toNat =
    ((s.rd64 Reg.TMB_PPS_SEC_LO).toNat + 1) % 2 ^ 48 := by
  have hlt : ((s.rd64 Reg.TMB_PPS_SEC_LO).toNat + 1) % 2 ^ 48 < 2 ^ 64 :=
    lt_trans (Nat.mod_lt _ (by norm_num)) (by norm_num)
  rw [ppsSecond, setFld, rd64_wr_ne _ _ (by decide) (by decide), ppsSecNext, rd64_wr64_same, BitVec.toNat_ofNat]
  exact Nat.mod_eq_of_lt hlt

theorem State.ppsEdge_stamp (ha : 20 ≤ a) :
    (s.ppsEdge none a).rd Reg.TMB_PPS_IN_TS = s.stampAt (s.runStart a) := by
  cases h : s.flag Reg.TMB_CTRL_GM_PPS
  case true => rw [ppsEdge_master ha h, ppsSecond_rd _ (by decide), rd_wr_same]
  case false => rw [ppsEdge_other ha h, rd_wr_same]

theorem exec_ppsInEdge (h : s.awake) (o : Option ServoOut) (a : Nat) : exec (.ppsInEdge ⟨o, a⟩) s = .next { s with
    regs := (s.ppsEdge o a).regs, eqs := (s.ppsEdge o a).eqs, out := (s.ppsEdge o a).out, sig := (s.ppsEdge o a).sig
    tb := (s.ppsEdge o a).tb, can := (s.ppsEdge o a).can, ports := (s.ppsEdge o a).ports
    acts := (s.ppsEdge o a).acts, upd := (s.ppsEdge o a).upd } := by
  change execPpsInEdge ⟨o, a⟩ s = _
  rw [execPpsInEdge, live_exact s _ h rfl rfl]

theorem ppsInEdge_completes (h : s.awake) (ha : 20 ≤ a) :
    Completes (.ppsInEdge ⟨none, a⟩) s fun t =>
      t.rd Reg.TMB_PPS_IN_TS = s.stampAt (s.runStart a) ∧ SameBytes s t ∧
      (s.flag Reg.TMB_CTRL_GM_PPS = true →
        t.fld Reg.TMB_STATUS_SYNC = 1 ∧ t.tb.lastPps = some (s.runStart a) ∧
        (t.rd64 Reg.TMB_PPS_SEC_LO).toNat = ((s.rd64 Reg.TMB_PPS_SEC_LO).toNat + 1) % 2 ^ 48) := by
  refine ⟨_, exec_ppsInEdge h _ _, State.ppsEdge_stamp ha, ⟨fun _ => rfl, rfl⟩, fun hgm => ?_⟩
  change (s.ppsEdge none a).fld _ = _ ∧ (s.ppsEdge none a).tb.lastPps = _ ∧ ((s.ppsEdge none a).rd64 _).toNat = _
  rw [State.ppsEdge_master ha hgm]
  refine ⟨State.ppsSecond_sync _, rfl, ?_⟩
  rw [State.ppsSecond_count, State.rd64_wr_ne _ _ (by decide) (by decide)]

theorem exec_ppsInEdge_filtered {o : Option ServoOut} (h : s.awake) (ha : a < 20) :
    exec (.ppsInEdge ⟨o, a⟩) s = .next s := by
  rw [exec_ppsInEdge h, State.ppsEdge_filtered ha]

/-! ## The master vanishes and returns -/

/-- A locked time base goes to HOLD: counted and posted (R166). -/
theorem State.masterLost_locked (h : s.fld Reg.TMB_STATUS_SYNC = 1) : s.masterLost =
    ((s.setFld Reg.TMB_STATUS_SYNC syncHold).bump Reg.TMB_SYNC_LOSS).postEvent 0x029 0 0 := if_pos h

theorem State.masterLost_unlocked (h : s.fld Reg.TMB_STATUS_SYNC ≠ 1) : s.masterLost = s := if_neg h

theorem State.masterLost_sync (h : s.fld Reg.TMB_STATUS_SYNC = 1) : s.masterLost.fld Reg.TMB_STATUS_SYNC = 2 := by
  rw [masterLost_locked h, postEvent_fld _ _ _ _ (by decide), bump, fld_wr_ne _ _ (by decide),
    fld_setFld_same _ _ _ (by decide)]
  rfl

theorem State.masterLost_loss (h : s.fld Reg.TMB_STATUS_SYNC = 1) :
    s.masterLost.rd Reg.TMB_SYNC_LOSS = satInc (s.rd Reg.TMB_SYNC_LOSS) := by
  rw [masterLost_locked h, postEvent_rd _ _ _ _ (by decide), rd_bump_same, rd_setFld_ne _ _ (by decide)]

theorem State.masterLost_posts (h : s.fld Reg.TMB_STATUS_SYNC = 1) :
    s.masterLost.eqs = (s.postEvent 0x029 0 0).eqs := by
  rw [masterLost_locked h]
  exact postEvent_eqs_congr s (t := (s.setFld Reg.TMB_STATUS_SYNC syncHold).bump Reg.TMB_SYNC_LOSS) rfl rfl rfl
    _ _ _

theorem State.masterLost_tb : s.masterLost.tb = s.tb := by
  rw [masterLost]
  split <;> rfl

/-- The fields of TMB_STATUS above SYNC stay. -/
theorem State.masterLost_flag {f : Fld} (hf : f.addr = Reg.TMB_STATUS) (hl : 2 ≤ f.lsb) :
    s.masterLost.flag f = s.flag f := by
  by_cases h : s.fld Reg.TMB_STATUS_SYNC = 1
  · rw [masterLost_locked h, flag, postEvent_fld _ _ _ _ (by rw [hf]; decide), bump,
      fld_wr_ne _ _ (by rw [hf]; decide), fld_setFld_above (f := Reg.TMB_STATUS_SYNC) _ _ hf (by decide) hl, flag]
  · rw [masterLost_unlocked h]

theorem State.masterReturn_held (h : s.fld Reg.TMB_STATUS_SYNC = 2) :
    s.masterReturn = s.setFld Reg.TMB_STATUS_SYNC syncLocked := if_pos h

theorem exec_masterLost (h : s.awake) : exec .masterLost s = .next { s with
    regs := s.masterLost.regs, eqs := s.masterLost.eqs, out := s.masterLost.out } := by
  change execMasterLost s = _
  rw [execMasterLost, live_exact s _ h rfl rfl]

theorem masterLost_completes (h : s.awake) (hsync : s.fld Reg.TMB_STATUS_SYNC = 1) :
    Completes .masterLost s fun t =>
      t.fld Reg.TMB_STATUS_SYNC = 2 ∧ t.rd Reg.TMB_SYNC_LOSS = satInc (s.rd Reg.TMB_SYNC_LOSS) ∧
      Posts s t 0x029 0 0 ∧ t.tb = s.tb ∧ SameBytes s t := by
  refine ⟨_, exec_masterLost h, State.masterLost_sync hsync, State.masterLost_loss hsync,
    State.masterLost_posts hsync, rfl, fun _ => rfl, rfl⟩

theorem masterReturn_completes (h : s.awake) (hsync : s.fld Reg.TMB_STATUS_SYNC = 2) :
    Completes .masterReturn s fun t => t.fld Reg.TMB_STATUS_SYNC = 1 ∧ OnlyRegs s t [Reg.TMB_STATUS] := by
  have hregs : OnlyRegs s s.masterReturn [Reg.TMB_STATUS] := by
    rw [State.masterReturn_held hsync]; exact (OnlyRegs.refl s _).setFld _ _ (by simp)
  refine ⟨_, live_regs State.masterReturn h hregs, ?_, hregs⟩
  rw [State.masterReturn_held hsync, State.fld_setFld_same _ _ _ (by decide)]
  rfl

/-! ## An edge of PPS_IN stays out -/

/-- The last edge is forgotten, and PPS_MISS shows it. -/
def State.ppsMissed (s : State) : State :=
  State.setFld { s with tb := { s.tb with lastPps := none } } Reg.TMB_STATUS_PPS_MISS 1

theorem State.ppsMissed_sync : s.ppsMissed.fld Reg.TMB_STATUS_SYNC = s.fld Reg.TMB_STATUS_SYNC :=
  fld_setFld_below (f := Reg.TMB_STATUS_PPS_MISS) _ _ rfl (by decide) (by decide)

/-- 1.5 s after the last edge the master is lost as well (R164). -/
theorem State.ppsMiss_late {l : Nat} (hgm : s.flag Reg.TMB_CTRL_GM_PPS = true) (hl : s.tb.lastPps = some l)
    (h : l + 1500000000 * 65536 ≤ s.tb.local16) : s.ppsMiss = s.ppsMissed.masterLost := by
  rw [ppsMiss, hl]
  exact if_pos ⟨hgm, by omega⟩

theorem exec_ppsMiss (h : s.awake) : exec .ppsMiss s = .next { s with
    regs := s.ppsMiss.regs, eqs := s.ppsMiss.eqs, out := s.ppsMiss.out, tb := s.ppsMiss.tb } := by
  change execPpsMiss s = _
  rw [execPpsMiss, live_exact s _ h rfl rfl]

theorem ppsMiss_completes (h : s.awake) {l : Nat} (hgm : s.flag Reg.TMB_CTRL_GM_PPS = true)
    (hl : s.tb.lastPps = some l) (hlate : l + 1500000000 * 65536 ≤ s.tb.local16) :
    Completes .ppsMiss s fun t =>
      t.flag Reg.TMB_STATUS_PPS_MISS = true ∧ t.tb = { s.tb with lastPps := none } ∧
      (s.fld Reg.TMB_STATUS_SYNC = 1 → t.fld Reg.TMB_STATUS_SYNC = 2) ∧ SameBytes s t := by
  have hmiss := State.ppsMiss_late hgm hl hlate
  refine ⟨_, exec_ppsMiss h, ?_, ?_, fun hsync => ?_, fun _ => rfl, rfl⟩
  · change s.ppsMiss.flag _ = _
    rw [hmiss, State.masterLost_flag rfl (by decide)]
    exact State.flag_setFld_one _ _ rfl (by decide)
  · change s.ppsMiss.tb = _
    rw [hmiss, State.masterLost_tb]
    rfl
  · change s.ppsMiss.fld _ = _
    rw [hmiss, State.masterLost_sync (State.ppsMissed_sync.trans hsync)]

/-! ## PPS_OUT and SNAP -/

theorem State.ppsRise_due (hrun : s.flag Reg.TMB_BSTAT_RUN = true) (hen : s.flag Reg.TMB_CTRL_PPSO_EN = true)
    (h : (s.tb.ppsNext : Int) * 1000000000 ≤ s.disc) : s.ppsRise = { s with tb := { s.tb with
      ppsOut := true, ppsOutAt := s.tb.local16, ppsNext := (s.disc / 1000000000 + 1).toNat } } :=
  if_pos ⟨hrun, hen, h⟩

/-- The second after the one that has begun is still to come. -/
theorem disc_lt_nextSecond (d : Int) : d < ((d / 1000000000 + 1).toNat : Int) * 1000000000 := by omega

theorem exec_ppsOutRise (h : s.awake) : exec .ppsOutRise s = .next { s with tb := s.ppsRise.tb } := by
  change execPpsOutRise s = _
  rw [execPpsOutRise, live_exact s _ h rfl rfl]

theorem ppsOutRise_completes (h : s.awake) (hrun : s.flag Reg.TMB_BSTAT_RUN = true)
    (hen : s.flag Reg.TMB_CTRL_PPSO_EN = true) (hdue : (s.tb.ppsNext : Int) * 1000000000 ≤ s.disc) :
    Completes .ppsOutRise s fun t =>
      t.tb.ppsOut = true ∧ s.disc < (t.tb.ppsNext : Int) * 1000000000 ∧ { t with tb := s.tb } = s := by
  refine ⟨_, exec_ppsOutRise h, ?_, ?_, rfl⟩
  · change s.ppsRise.tb.ppsOut = true
    rw [State.ppsRise_due hrun hen hdue]
  · change s.disc < (s.ppsRise.tb.ppsNext : Int) * 1000000000
    rw [State.ppsRise_due hrun hen hdue]
    exact disc_lt_nextSecond _

theorem exec_ppsOutFall (h : s.awake) (hout : s.tb.ppsOut = true)
    (hdue : s.tb.ppsOutAt + clampTo 1 500000 (s.fld Reg.TMB_PPSO_WIDTH_WIDTH) * 65536000 ≤ s.tb.local16) :
    exec .ppsOutFall s = .next { s with tb := { s.tb with ppsOut := false } } := by
  have hfall : s.ppsFall = { s with tb := { s.tb with ppsOut := false } } := if_pos ⟨hout, hdue⟩
  change execPpsOutFall s = _
  rw [execPpsOutFall, live_exact s _ h rfl rfl]
  simp only [hfall]

theorem State.snap_local : s.snap.rd64 Reg.TMB_SNAP_LOC_LO = BitVec.ofNat 64 (s.tb.local16 / 65536) := by
  rw [snap, rd64_wr_ne _ _ (by decide) (by decide), rd64_wr64_ne _ _ (by decide),
    rd64_wr_ne _ _ (by decide) (by decide), rd64_wr64_same]

theorem State.snap_disc : s.snap.rd64 Reg.TMB_SNAP_DIS_LO = BitVec.ofInt 64 s.disc := by
  rw [snap, rd64_wr_ne _ _ (by decide) (by decide), rd64_wr64_same, disc]

theorem snap_completes {p : PageNo} (h : s.takes p Reg.TMB_CMD) :
    Completes (.snap p) s fun t =>
      t.rd64 Reg.TMB_SNAP_LOC_LO = BitVec.ofNat 64 (s.tb.local16 / 65536) ∧
      t.rd64 Reg.TMB_SNAP_DIS_LO = BitVec.ofInt 64 s.disc ∧ { t with regs := s.regs } = s := by
  have hexec : exec (.snap p) s = .next s.snap := by
    change execSnap p s = _
    rw [execSnap, live_exact s _ h.1 rfl rfl]
    simp only [onWrite_takes s State.snap h]
    rfl
  exact ⟨_, hexec, State.snap_local, State.snap_disc, rfl⟩

/-! ## Messages of the port toward the master -/

variable (s) in
@[simp] theorem State.gport_setGport_same (p : Nat) (x : GptpPort) : (s.setGport p x).gport p = x :=
  Tbl.get_set_same _ _ _ _

variable (s) in
theorem State.gport_setGport_ne {p q : Nat} (x : GptpPort) (h : q ≠ p) : (s.setGport p x).gport q = s.gport q :=
  Tbl.get_set_ne _ _ _ h

/-- The port `p` of an end station leads to the master, and the message is of its domain (R162). -/
structure FromMaster (s : State) (p : Nat) (bs : List Byte) (m : PtpMsg) : Prop where
  port : p < 20
  run : s.flag Reg.TMB_BSTAT_RUN = true
  station : s.fld Reg.TMB_GPTP_CTRL_MODE = 1
  enabled : bitOf (s.fld Reg.TMB_GPTP_PORTS_PORTS) p = true
  engine : s.hlt.meDown = false
  slave : s.slavePort = some p
  message : ptpMsg bs = some m
  domain : m.domain = s.fld Reg.TMB_GPTP_CTRL_DOMAIN

/-- The arrival of a frame that has just come in whole, at 2 ns resolution (R162). -/
abbrev State.arrivedAt (s : State) (p : Nat) (bs : List Byte) : Nat :=
  stampTick (s.tb.local16 - s.lineTime p (wireLen bs))

theorem stampTick_le (l : Nat) : stampTick l ≤ l := Nat.div_mul_le_self _ _

theorem stampTick_mod (l : Nat) : stampTick l % 131072 = 0 := Nat.mul_mod_left _ _

variable {p : Nat} {bs : List Byte} {m : PtpMsg} {o : Option ServoOut}

/-- A message from the master is handled by its type. -/
theorem FromMaster.gptpMsg (h : FromMaster s p bs m) : s.gptpMsg p bs o = s.gptpIn p m (s.arrivedAt p bs) o := by
  have hring : isRing p = false := by
    have hlt := h.port
    simp only [isRing, Bool.or_eq_false_iff, beq_eq_false_iff_ne]
    omega
  have hport : s.gptpPort p = true := by
    simp [State.gptpPort, State.gptpOn, h.run, h.station, h.enabled, hring]
  simp only [State.gptpMsg, h.message, h.engine, hring, hport, Bool.false_and]
  rfl

theorem FromMaster.sync (h : FromMaster s p bs m) (hm : m.type = 0) : s.gptpMsg p bs o =
    s.setGport p { s.gport p with sync := some (m.seq, s.arrivedAt p bs, m.corr16) } := by
  rw [h.gptpMsg, State.gptpIn]
  simp [hm, h.domain, h.slave]

theorem FromMaster.followUp (h : FromMaster s p bs m) (hm : m.type = 8) : s.gptpMsg p bs o = s.followUp p m o := by
  rw [h.gptpMsg, State.gptpIn]
  simp [hm, h.domain, h.slave]

/-- An end station passes no time on. -/
theorem State.relayPorts_station (h : s.fld Reg.TMB_GPTP_CTRL_MODE = 1) : s.relayPorts p = [] :=
  if_neg (by rw [h]; decide)

/-- A measurement without the servo: the offset is shown and SYNC shows LOCKED (R162). -/
def State.measured (s : State) (ofs : Int) : State :=
  (s.wr Reg.TMB_GPTP_OFS (BitVec.ofInt 32 (satSigned 32 ofs))).setFld Reg.TMB_STATUS_SYNC syncLocked

theorem State.measured_ofs (ofs : Int) :
    (s.measured ofs).rd Reg.TMB_GPTP_OFS = BitVec.ofInt 32 (satSigned 32 ofs) := by
  rw [measured, rd_setFld_ne _ _ (by decide), rd_wr_same]

theorem State.measured_sync (ofs : Int) : (s.measured ofs).fld Reg.TMB_STATUS_SYNC = 1 := by
  rw [measured, fld_setFld_same _ _ _ (by decide)]
  rfl

theorem State.measured_onlyRegs (ofs : Int) : OnlyRegs s (s.measured ofs) [Reg.TMB_GPTP_OFS, Reg.TMB_STATUS] :=
  ((OnlyRegs.refl s _).wr _ (by simp)).setFld _ _ (by simp)

/-- The offset from the master that a Follow_Up completes: own time at the arrival of its Sync, less the origin, the
corrections and the link delay. -/
abbrev State.masterOffset (s : State) (p : Nat) (m : PtpMsg) (rx16 : Nat) (c : Int) : Int :=
  (s.disc16At rx16 - ptpTimeOf m.body - (c + m.corr16 + (s.linkDelay p : Nat))) / 65536

/-- A Follow_Up of an end station takes its Sync and measures. -/
theorem State.followUp_station {rx16 : Nat} {c : Int} (hmode : s.fld Reg.TMB_GPTP_CTRL_MODE = 1)
    (hsync : (s.gport p).sync = some (m.seq, rx16, c)) (hgm : s.flag Reg.TMB_CTRL_GM_PPS = false) :
    s.followUp p m none = (s.setGport p { s.gport p with sync := none }).measured (s.masterOffset p m rx16 c) := by
  have hdone : s.syncDone p m = some (rx16, ptpTimeOf m.body, c + m.corr16 + s.linkDelay p) := by
    simp [syncDone, hsync]
  have hflag : (s.setGport p { s.gport p with sync := none }).flag Reg.TMB_CTRL_GM_PPS = false := hgm
  simp only [followUp, hdone, relayPorts_station hmode, List.foldl_nil, measure, hflag]
  rfl

variable {port : Fin 22} {f : EthFrame}

theorem exec_gptpMessage {t : State} (h : s.awake) (hop : s.gptpMsg port f.bytes none = t)
    (hframe : { s with regs := t.regs, tb := t.tb } = t) : exec (.gptpMessage port ⟨f, none⟩) s = .next t := by
  have hall : { s with
      regs := t.regs, eqs := t.eqs, out := t.out, sig := t.sig, tb := t.tb, can := t.can, ports := t.ports,
      ring := t.ring, acts := t.acts, upd := t.upd } = t := by rw [← hframe]
  change execGptpMessage port ⟨f, none⟩ s = .next t
  rw [execGptpMessage, live_exact s _ h rfl rfl]
  simp only [hop, hall]

theorem sync_completes (h : s.awake) (hmaster : FromMaster s port f.bytes m) (hm : m.type = 0) :
    Completes (.gptpMessage port ⟨f, none⟩) s fun t =>
      (∃ rx16, (t.gport port).sync = some (m.seq, rx16, m.corr16) ∧ rx16 ≤ s.tb.local16 ∧ rx16 % 131072 = 0) ∧
      (∀ q, q ≠ port.val → t.gport q = s.gport q) ∧ { t with tb := { t.tb with gptp := s.tb.gptp } } = s := by
  refine ⟨_, exec_gptpMessage h (hmaster.sync hm) rfl, ⟨s.arrivedAt port f.bytes, ?_, ?_, stampTick_mod _⟩, ?_, rfl⟩
  · rw [State.gport_setGport_same]
  · exact (stampTick_le _).trans (Nat.sub_le _ _)
  · exact fun q hq => s.gport_setGport_ne _ hq

theorem followUp_completes (h : s.awake) (hmaster : FromMaster s port f.bytes m) {rx16 : Nat} {c : Int}
    (hm : m.type = 8) (hsync : (s.gport port).sync = some (m.seq, rx16, c))
    (hgm : s.flag Reg.TMB_CTRL_GM_PPS = false) :
    Completes (.gptpMessage port ⟨f, none⟩) s fun t =>
      t.rd Reg.TMB_GPTP_OFS = BitVec.ofInt 32 (satSigned 32 (s.masterOffset port m rx16 c)) ∧
      t.fld Reg.TMB_STATUS_SYNC = 1 ∧ (t.gport port).sync = none ∧
      (∀ q, q ≠ port.val → t.gport q = s.gport q) ∧
      OnlyRegs { s with tb := { s.tb with gptp := t.tb.gptp } } t [Reg.TMB_GPTP_OFS, Reg.TMB_STATUS] := by
  have hop := (hmaster.followUp (o := none) hm).trans (State.followUp_station hmaster.station hsync hgm)
  have hport := s.gport_setGport_same port { s.gport port with sync := none }
  refine ⟨_, exec_gptpMessage h hop rfl, State.measured_ofs _, State.measured_sync _, ?_, ?_,
    State.measured_onlyRegs _⟩
  · exact congrArg GptpPort.sync hport
  · exact fun q hq => s.gport_setGport_ne _ hq

end Sys2Proof.Machine

open Sys2Proof.Machine in
/-- Settles O16: each command is its operation on registers and the time base; SYNC is a field of its own beside the
flags of TMB_STATUS, and the events posted write registers of the pages only. -/
theorem pulsesAndTimeMasters : Obligations.PulsesAndTimeMasters := by
  refine ⟨fun p s h => ⟨fun a ha => ppsInEdge_completes h ha, fun o a ha => exec_ppsInEdge_filtered h ha,
    fun l => ppsMiss_completes h, ppsOutRise_completes h, exec_ppsOutFall h, snap_completes⟩,
    fun s h => ⟨masterLost_completes h, masterReturn_completes h, ?_⟩⟩
  intro port f m hport hrun hmode hbit hengine hslave hmsg hdomain
  have hmaster : FromMaster s port f.bytes m := ⟨hport, hrun, hmode, hbit, hengine, hslave, hmsg, hdomain⟩
  exact ⟨sync_completes h hmaster, fun rx16 c => followUp_completes h hmaster⟩

end

section
/-!
The block as a whole: every command is answered with a next state and leaves the queue alone, and a device held in reset
ignores all but its supplies and reset pins.
-/

namespace Sys2Proof.Machine

/-! ## The two ways in which a command is answered -/

/-- A command that is ignored in reset is answered by its meaning out of reset. -/
theorem exec_isLive {c : Instr} (h : actsInReset c = false) : ∃ f : State → State, ∀ s, exec c s = live s f := by
  cases c with
  | powerOn _ | resetNFall _ | resetRelease | supplyValid _ | vioChange _ _ | classLatch _ _ | perst _ _ =>
    exact absurd h Bool.false_ne_true.symm
  | registerWrite p addr v => exact ⟨fun s => s.hostWrite p addr.toNat 15 v, fun _ => rfl⟩
  | _ => exact ⟨_, fun _ => rfl⟩

/-- The others act in reset as well. -/
theorem exec_isAlways {c : Instr} (h : actsInReset c = true) : ∃ f : State → State, ∀ s, exec c s = always s f := by
  cases c with
  | powerOn _ | resetNFall _ | resetRelease | supplyValid _ | vioChange _ _ | classLatch _ _ | perst _ _ =>
    exact ⟨_, fun _ => rfl⟩
  | _ => exact absurd h Bool.false_ne_true

theorem live_pending (s : State) (f : State → State) : ∃ t, live s f = .next t ∧ t.pending = s.pending := by
  by_cases h : s.dev.held = true
  · exact ⟨s, live_held s f h, rfl⟩
  · exact ⟨_, live_next s f (by simpa using h), rfl⟩

theorem exec_pending (c : Instr) (s : State) : ∃ t, exec c s = .next t ∧ t.pending = s.pending := by
  cases h : actsInReset c with
  | false =>
    obtain ⟨f, hf⟩ := exec_isLive h
    exact hf s ▸ live_pending s f
  | true =>
    obtain ⟨f, hf⟩ := exec_isAlways h
    exact ⟨_, hf s, rfl⟩

/-- A run of one step more goes on from where its first step leads. -/
theorem run_succ (M : Host.Core) {s u : M.State} (k : Nat) (h : M.step s = .next u) : M.run (k + 1) s = M.run k u := by
  rw [Host.Core.run, h]

theorem step_pending {s : State} {c : Instr} {rest : List Instr} (h : s.pending = c :: rest) :
    ∃ u, step s = .next u ∧ u.pending = rest := by
  rw [step, h]
  exact exec_pending c { s with pending := rest }

end Sys2Proof.Machine

open Sys2Proof.Machine in
/-- Settles O3: both wrappers of a command put the queue back as it was. -/
theorem everyCommandKeepsTheQueue : Obligations.EveryCommandKeepsTheQueue := exec_pending

open Sys2Proof.Machine in
/-- Settles O4, by induction on the waiting commands: a step leaves one fewer. -/
theorem waitingCommandsAllRun : Obligations.WaitingCommandsAllRun := by
  intro s
  generalize hq : s.pending = q
  induction q generalizing s with
  | nil => exact ⟨s, rfl, hq⟩
  | cons c rest ih =>
    obtain ⟨u, hu, hpend⟩ := step_pending hq
    obtain ⟨t, ht, hempty⟩ := ih u hpend
    exact ⟨t, (run_succ Sys2Proof.core rest.length hu).trans ht, hempty⟩

open Sys2Proof.Machine in
/-- Settles O5: such a command is answered by its meaning out of reset only. -/
theorem heldDeviceIgnoresCommands : Obligations.HeldDeviceIgnoresCommands := by
  intro c s hheld hacts
  obtain ⟨f, hf⟩ := exec_isLive hacts
  rw [hf s, live_held s f hheld]

end

section
/-!
What an operation leaves alone of the byte memories, of flash, and of whether the device is held in reset: one lemma for
each operation of the model that is used by a command which may store (`storesBytes`) and does not store itself. The
headings are those of the model's files. (`by rfl` keeps a lemma from being used as a definitional one, which
`foldl_mems` could not take.)
-/

namespace Sys2Proof.Machine

/-! ## The byte memories beside all else -/

/-- The byte memories, the flash, and whether the device is held in reset. -/
def State.mems (s : State) : Tbl Byte × Tbl Byte × Bool := (s.mem, s.flash, s.dev.held)

@[simp] theorem State.mems_eta (s : State) : (s.mem, s.flash, s.dev.held) = s.mems := rfl

@[simp] theorem State.mems_mk :
    ∀ regs mem flash staged hold eqs out freeCnt tbl tblOld str stores archive cells sig pages tb trk limits
    evRoutes pdus engines waking spared mbs can lanes banks queues ports saltern pduSeq ringWins ringPeers
    ring slots pols holdBuf bridge rings jobTurn acts crowd hlt dev upd opts fieldReady nextId pending,
    (State.mk regs mem flash staged hold eqs out freeCnt tbl tblOld str stores archive cells sig pages tb trk
      limits evRoutes pdus engines waking spared mbs can lanes banks queues ports saltern pduSeq ringWins
      ringPeers ring slots pols holdBuf bridge rings jobTurn acts crowd hlt dev upd opts fieldReady nextId
      pending).mems = (mem, flash, dev.held) := by
  intros
  rfl

theorem State.held_of_mems {s t : State} (h : t.mems = s.mems) : t.dev.held = s.dev.held := congrArg (fun m => m.2.2) h

@[simp] theorem State.mems_ite (c : Prop) [Decidable c] (s t : State) :
    (if c then s else t).mems = if c then s.mems else t.mems := apply_ite State.mems c s t

/-- What every step of a fold leaves alone, the fold leaves alone. -/
theorem foldl_keeps {α β γ : Type} (g : γ → β) {f : γ → α → γ} (h : ∀ t x, g (f t x) = g t) (l : List α) (s : γ) :
    g (l.foldl f s) = g s := by
  induction l generalizing s with
  | nil => rfl
  | cons x l ih => exact (ih (f s x)).trans (h s x)

@[simp] theorem foldl_mems {α : Type} {f : State → α → State} (h : ∀ t x, (f t x).mems = t.mems) (l : List α)
    (s : State) : (l.foldl f s).mems = s.mems := foldl_keeps State.mems h l s

/-! ### Registers, tables and events -/

@[simp] theorem State.wr_mems (s : State) (a : Nat) (v : Word) : (s.wr a v).mems = s.mems := by rfl
@[simp] theorem State.setFld_mems (s : State) (f : Fld) (v : Nat) : (s.setFld f v).mems = s.mems := by rfl
@[simp] theorem State.bump_mems (s : State) (a : Nat) : (s.bump a).mems = s.mems := by rfl
@[simp] theorem State.tick_mems (s : State) (a : Nat) : (s.tick a).mems = s.mems := by rfl
@[simp] theorem State.wr64_mems (s : State) (lo : Nat) (v : DWord) : (s.wr64 lo v).mems = s.mems := by rfl
@[simp] theorem State.bumpBy_mems (s : State) (r k : Nat) : (s.bumpBy r k).mems = s.mems := by rfl
@[simp] theorem State.emit_mems (s : State) (e : Emit) : (s.emit e).mems = s.mems := by rfl
@[simp] theorem State.useFree_mems (s : State) : (s.useFree).mems = s.mems := by rfl

@[simp] theorem State.asOf_mems {f : State → State} (h : ∀ t, (f t).mems = t.mems) (s : State) (l : Nat) :
    (s.asOf l f).mems = s.mems := h _

@[simp] theorem State.setCell_mems (s : State) (n : Nat) (c : Cell) : (s.setCell n c).mems = s.mems := by rfl
@[simp] theorem State.setPage_mems (s : State) (p : Nat) (x : PageState) : (s.setPage p x).mems = s.mems := by rfl
@[simp] theorem State.setTracker_mems (s : State) (n : Nat) (t : Tracker) : (s.setTracker n t).mems = s.mems := by rfl
@[simp] theorem State.setEngine_mems (s : State) (e : Nat) (x : Engine) : (s.setEngine e x).mems = s.mems := by rfl
@[simp] theorem State.setAct_mems (s : State) (e : Nat) (x : ActEntry) : (s.setAct e x).mems = s.mems := by rfl
@[simp] theorem State.setMb_mems (s : State) (n m : Nat) (x : Mailbox) : (s.setMb n m x).mems = s.mems := by rfl
@[simp] theorem State.setCan_mems (s : State) (n : Nat) (x : CanUnit) : (s.setCan n x).mems = s.mems := by rfl
@[simp] theorem State.setLane_mems (s : State) (n : Nat) (x : Lane) : (s.setLane n x).mems = s.mems := by rfl
@[simp] theorem State.setBank_mems (s : State) (b : Nat) (x : Bank) : (s.setBank b x).mems = s.mems := by rfl
@[simp] theorem State.setQueue_mems (s : State) (p q : Nat) (x : EgressQ) : (s.setQueue p q x).mems = s.mems := by rfl
@[simp] theorem State.setPort_mems (s : State) (p : Nat) (x : PortState) : (s.setPort p x).mems = s.mems := by rfl
@[simp] theorem State.setSlot_mems (s : State) (k : Nat) (x : KeySlot) : (s.setSlot k x).mems = s.mems := by rfl
@[simp] theorem State.setPol_mems (s : State) (i : Nat) (x : PolState) : (s.setPol i x).mems = s.mems := by rfl
@[simp] theorem State.setJring_mems (s : State) (p r : Nat) (x : JobRing) : (s.setJring p r x).mems = s.mems := by rfl

@[simp] theorem State.deny_mems (s : State) (p : Nat) (write : Bool) (addr : Nat) :
    (s.deny p write addr).mems = s.mems := by rfl

@[simp] theorem State.hole_mems (s : State) (p : Nat) (write : Bool) (addr : Nat) :
    (s.hole p write addr).mems = s.mems := by rfl

@[simp] theorem State.signal_mems (s : State) (p q : Nat) : (s.signal p q).mems = s.mems := by rfl

@[simp] theorem State.levelRise_mems (s : State) (p q : Nat) :
    (s.levelRise p q).mems = s.mems := by simp [State.levelRise]

@[simp] theorem State.postTo_mems (s : State) (p q : Nat) (e : DWord) :
    (s.postTo p q e).mems = s.mems := by simp [State.postTo]

@[simp] theorem State.postEvent_mems (s : State) (code src : Nat) (data : Word) :
    (s.postEvent code src data).mems = s.mems := by rfl

@[simp] theorem State.postPage_mems (s : State) (p code src : Nat) (data : Word) :
    (s.postPage p code src data).mems = s.mems := by rfl

/-! ### Cells, batches and epochs -/

@[simp] theorem State.toHost_mems (s : State) (p addr : Nat) (data : List Byte) :
    (s.toHost p addr data).mems = s.mems := by rfl

@[simp] theorem State.endAshlar_mems (s : State) (p : Nat) (a : Ashlar) (status : Nat) :
    (s.endAshlar p a status).mems = s.mems := by simp [State.endAshlar]

@[simp] theorem State.restartAshlar_mems (s : State) (p : Nat) (a : Ashlar) :
    (s.restartAshlar p a).mems = s.mems := by simp [State.restartAshlar]

@[simp] theorem State.startAshlar_mems (s : State) (p : Nat) : (s.startAshlar p).mems = s.mems := by
  unfold State.startAshlar
  split <;> simp

@[simp] theorem State.pinLost_mems (s : State) (p n : Nat) : (s.pinLost p n).mems = s.mems := by simp [State.pinLost]

@[simp] theorem State.holderLost_mems (s : State) (n : Nat) (base : Bool) (told tnext : Word) (p : Nat) :
    (s.holderLost n base told tnext p).mems = s.mems := by
  unfold State.holderLost
  split <;> split <;> simp

@[simp] theorem State.reclaim_mems (s : State) (n : Nat) (base : Bool) (told tnext : Word) :
    (s.reclaim n base told tnext).mems = s.mems := by
  refine (foldl_mems (fun t p => State.holderLost_mems t n base told tnext p) _ _).trans ?_
  split <;> simp

@[simp] theorem State.writeCell_mems (s : State) (n : Nat) (f : Word) (w : DWord) (isBase : Bool) :
    (s.writeCell n f w isBase).mems = s.mems := by
  unfold State.writeCell
  extract_lets
  split
  · simp
  · split
    · rfl
    · split <;> simp

@[simp] theorem State.slotLost_mems (s : State) (n slot : Nat) : (s.slotLost n slot).mems = s.mems := by
  unfold State.slotLost
  extract_lets
  split <;> simp

@[simp] theorem State.giveBase_mems (s : State) (n : Nat) : (s.giveBase n).mems = s.mems := by simp [State.giveBase]

@[simp] theorem State.addBatch_mems (s : State) (src : BatchSrc) (gen : Gen) (items : List BatchItem) :
    (s.addBatch src gen items).mems = s.mems := by rfl

@[simp] theorem State.addWrites_mems (s : State) (u : Option Nat) (ws : List CellWrite) :
    (s.addWrites u ws).mems = s.mems := by simp [State.addWrites]

/-! ### Regions -/

@[simp] theorem State.setStep_mems (s : State) (r k : Nat) : (s.setStep r k).mems = s.mems := by rfl

@[simp] theorem State.regionWork_mems (s : State) (u : Nat) :
    (s.regionWork u).mems = s.mems := by simp [State.regionWork]

/-! ### Staged values -/

@[simp] theorem State.applyOne_mems (s : State) (x : Staged) : (s.applyOne x).mems = s.mems := by rfl

@[simp] theorem State.applyStaged_mems (s : State) (p : Staged → Bool) :
    (s.applyStaged p).mems = s.mems := by simp [State.applyStaged]

@[simp] theorem State.frameEnd_mems (s : State) (u : Nat) : (s.frameEnd u).mems = s.mems := by simp [State.frameEnd]
@[simp] theorem State.epochEnd_mems (s : State) : (s.epochEnd).mems = s.mems := by simp [State.epochEnd]
/-! ### Trackers -/

@[simp] theorem State.ptPlace_mems (s : State) (n : Nat) (pos : Nat) (run : Int × Nat) (slew : Int)
    (limit : Option Nat) :
    (s.ptPlace n pos run slew limit).mems = s.mems := by rfl

@[simp] theorem State.synPeriodNow_mems (s : State) (n : Nat) :
    (s.synPeriodNow n).mems = s.mems := by simp [State.synPeriodNow]

@[simp] theorem State.ptToSearch_mems (s : State) (n : Nat) :
    (s.ptToSearch n).mems = s.mems := by simp [State.ptToSearch]

@[simp] theorem State.ptLost_mems (s : State) (n : Nat) : (s.ptLost n).mems = s.mems := by simp [State.ptLost]

@[simp] theorem State.ptByRate_mems (s : State) (n : Nat) (target : Nat) (nextDist : Int) :
    (s.ptByRate n target nextDist).mems = s.mems := by rfl

@[simp] theorem State.ptStep_mems (s : State) (n : Nat) (target : Nat) (nextDist : Int) :
    (s.ptStep n target nextDist).mems = s.mems := by rfl

@[simp] theorem State.ptByPolicy_mems (s : State) (n : Nat) (e : Int) (target : Nat) (nextDist : Int) :
    (s.ptByPolicy n e target nextDist).mems = s.mems := by simp [State.ptByPolicy]

@[simp] theorem State.ptRecord_mems (s : State) (n : Nat) (e : Int) (target : Nat) :
    (s.ptRecord n e target).mems = s.mems := by rfl

@[simp] theorem State.ptLock_mems (s : State) (n : Nat) (target : Nat) : (s.ptLock n target).mems = s.mems := by rfl

@[simp] theorem State.ptPoint_mems (s : State) (n angle : Nat) (nextDist : Int)
    (ends relock forceStep silent : Bool) :
    (s.ptPoint n angle nextDist ends relock forceStep silent).mems = s.mems := by simp [State.ptPoint]

@[simp] theorem State.ptAcquire_mems (s : State) (n angle : Nat) (nextDist : Int) (est : Int × Nat) :
    (s.ptAcquire n angle nextDist est).mems = s.mems := by rfl

@[simp] theorem State.mainsEdge_mems (s : State) (n : Nat) (rising : Bool) : (s.mainsEdge n rising).mems = s.mems := by
  unfold State.mainsEdge
  extract_lets edge both course fall t iv mark next
  have hmark : ∀ u, (mark u).mems = u.mems := by
    intro u
    unfold mark
    split
    · exact u.setTracker_mems _ _
    · rfl
  clear_value mark next iv course
  split
  · rfl
  · split <;> split
    · split <;> simp [hmark]
    · exact hmark s
    · split <;> simp [hmark]
    · simp [hmark]

@[simp] theorem State.ptSlip_mems (s : State) (n : Nat) : (s.ptSlip n).mems = s.mems := by rfl

@[simp] theorem State.toothEdge_mems (s : State) (n : Nat) (rising : Bool) :
    (s.toothEdge n rising).mems = s.mems := by simp [State.toothEdge]

@[simp] theorem State.quadError_mems (s : State) (n : Nat) :
    (s.quadError n).mems = s.mems := by simp [State.quadError]

@[simp] theorem State.encoderStep_mems (s : State) (n : Nat) (aLeads : Bool) :
    (s.encoderStep n aLeads).mems = s.mems := by
  unfold State.encoderStep
  extract_lets up cnt t c moved shown s' src p e target found t' placed src'
  have hs' : s'.mems = s.mems := by
    unfold s' shown moved
    split <;> simp
  have hplaced : placed.mems = s.mems := by
    unfold placed found
    simp [hs']
  split
  · split
    · split <;> simp [hs']
    · exact hs'
  · split
    · split <;> simp [hplaced]
    · exact hs'

@[simp] theorem State.encoderCount_mems (s : State) (n : Nat) (aLeads : Bool) :
    (s.encoderCount n aLeads).mems = s.mems := by simp [State.encoderCount]

@[simp] theorem State.encoderIndex_mems (s : State) (n : Nat) :
    (s.encoderIndex n).mems = s.mems := by simp [State.encoderIndex]

@[simp] theorem State.ptEvent_mems (s : State) (n : Nat) (ev : RefEvent) : (s.ptEvent n ev).mems = s.mems := by
  unfold State.ptEvent
  split
  · simp
  · split <;> simp

@[simp] theorem State.ptFiltered_mems (s : State) (n : Nat) (ev : RefEvent) (ageNs : Nat) :
    (s.ptFiltered n ev ageNs).mems = s.mems := by
  unfold State.ptFiltered
  split
  · exact State.asOf_mems (fun t => t.ptEvent_mems n ev) _ _
  · rfl

@[simp] theorem State.synPoint_mems (s : State) (n : Nat) : (s.synPoint n).mems = s.mems := by simp [State.synPoint]
@[simp] theorem State.ptExpire_mems (s : State) (n : Nat) : (s.ptExpire n).mems = s.mems := by simp [State.ptExpire]
@[simp] theorem State.ptForce_mems (s : State) (n : Nat) : (s.ptForce n).mems = s.mems := by simp [State.ptForce]
@[simp] theorem State.ptOff_mems (s : State) (n : Nat) : (s.ptOff n).mems = s.mems := by simp [State.ptOff]
/-! ### The action table -/

@[simp] theorem State.postLate_mems (s : State) (e at16 : Nat) : (s.postLate e at16).mems = s.mems := by rfl

@[simp] theorem State.updLate_mems (s : State) (param : Nat) :
    (s.updLate param).mems = s.mems := by simp [State.updLate]

@[simp] theorem State.lateUpdate_mems (s : State) (ws : List Word) :
    (s.lateUpdate ws).mems = s.mems := by simp [State.lateUpdate]

@[simp] theorem State.actLate_mems (s : State) (e : Nat) : (s.actLate e).mems = s.mems := by simp [State.actLate]

@[simp] theorem State.actJudge_mems (s : State) (e : Nat) : (s.actJudge e).mems = s.mems := by
  unfold State.actJudge
  extract_lets
  split <;> simp

@[simp] theorem State.armEntry_mems (s : State) (e : Nat) : (s.armEntry e).mems = s.mems := by simp [State.armEntry]

@[simp] theorem State.judgePhase_mems (s : State) (n : Nat) :
    (s.judgePhase n).mems = s.mems := by simp [State.judgePhase]

@[simp] theorem State.actTimeStep_mems (s old : State) :
    (s.actTimeStep old).mems = s.mems := by simp [State.actTimeStep]

@[simp] theorem State.actWrite_mems (s : State) (e : Nat) : (s.actWrite e).mems = s.mems := by simp [State.actWrite]

@[simp] theorem State.actRead_mems (s : State) (e : Nat) : (s.actRead e).mems = s.mems := by
  have hmask : ∀ (t : State) (l : List Nat),
      (l.foldl (fun t k => t.wr (Reg.ACT_E_MASK k) ((s.act e).words.getD (8 + k) 0)) t).mems = t.mems :=
    fun t l => foldl_mems (fun t k => State.wr_mems t _ _) l t
  simp only [State.actRead, State.wr_mems, hmask]

@[simp] theorem State.actArm_mems (s : State) (e : Nat) : (s.actArm e).mems = s.mems := by simp [State.actArm]

@[simp] theorem State.actDisarm_mems (s : State) (e : Nat) :
    (s.actDisarm e).mems = s.mems := by simp [State.actDisarm]

@[simp] theorem State.actDisarmAll_mems (s : State) : (s.actDisarmAll).mems = s.mems := by simp [State.actDisarmAll]
/-! ### Keys -/

@[simp] theorem State.keyWarn_mems (s : State) (k : Nat) : (s.keyWarn k).mems = s.mems := by simp [State.keyWarn]

@[simp] theorem State.keyExhaust_mems (s : State) (k : Nat) :
    (s.keyExhaust k).mems = s.mems := by simp [State.keyExhaust]

@[simp] theorem State.keyInvoke_mems (s : State) (k : Nat) :
    (s.keyInvoke k).mems = s.mems := by simp [State.keyInvoke]

@[simp] theorem State.showItems_mems (s : State) (k : Nat) : (s.showItems k).mems = s.mems := by rfl
@[simp] theorem State.keyBegin_mems (s : State) (k : Nat) : (s.keyBegin k).mems = s.mems := by rfl

@[simp] theorem State.keyZeroise_mems (s : State) (k : Nat) :
    (s.keyZeroise k).mems = s.mems := by simp [State.keyZeroise]

@[simp] theorem State.keyEnd_mems (s : State) (k gen : Nat) : (s.keyEnd k gen).mems = s.mems := by simp [State.keyEnd]
@[simp] theorem State.clearKeyData_mems (s : State) : (s.clearKeyData).mems = s.mems := by rfl

@[simp] theorem State.restartFresh_mems (s : State) (k gen : Nat) :
    (s.restartFresh k gen).mems = s.mems := by simp [State.restartFresh]

@[simp] theorem State.keyLoad_mems (s : State) (k size : Nat) : (s.keyLoad k size).mems = s.mems := by
  simp only [State.keyLoad, State.restartFresh_mems, State.wr64_mems, State.wr_mems, State.setFld_mems,
    State.setSlot_mems]

@[simp] theorem State.keyWrite_mems (s : State) (k size : Nat) :
    (s.keyWrite k size).mems = s.mems := by simp [State.keyWrite]

@[simp] theorem State.keyErase_mems (s : State) (k : Nat) : (s.keyErase k).mems = s.mems := by simp [State.keyErase]

@[simp] theorem State.authCan_mems (s : State) (g : Gen) (i ident : Nat) (ide : Bool) (payload : List Byte) :
    (s.authCan g i ident ide payload).1.mems = s.mems := by
  unfold State.authCan
  dsimp only
  split <;> simp

@[simp] theorem State.authEth_mems (s : State) (g : Gen) (i : Nat) (frame : List Byte) :
    (s.authEth g i frame).1.mems = s.mems := by
  unfold State.authEth
  extract_lets
  split <;> simp

@[simp] theorem State.showHold_mems (s : State) : (s.showHold).mems = s.mems := by rfl

@[simp] theorem State.hold_mems (s : State) (g : Gen) (i bytes : Nat) (kind : HeldKind) (rxq : Option (Nat × Nat)) :
    (s.hold_ g i bytes kind rxq).mems = s.mems := by simp [State.hold_]

/-! ### CAN mailboxes -/

@[simp] theorem State.setMtx_mems (s : State) (n : Nat) (x : MtxRun) : (s.setMtx n x).mems = s.mems := by rfl

@[simp] theorem State.mtxClose_mems (s : State) (n : Nat) : (s.mtxClose n).mems = s.mems := by
  unfold State.mtxClose
  extract_lets
  split <;> simp

@[simp] theorem State.mbSet_mems (s : State) (n m st : Nat) : (s.mbSet n m st).mems = s.mems := by rfl
@[simp] theorem State.mbFail_mems (s : State) (n m st : Nat) : (s.mbFail n m st).mems = s.mems := by rfl
@[simp] theorem State.mbPend_mems (s : State) (n m : Nat) : (s.mbPend n m).mems = s.mems := by simp [State.mbPend]

@[simp] theorem State.mbPut_mems (s : State) (n m : Nat) (ws : List Word) (noAuth : Bool) :
    (s.mbPut n m ws noAuth).mems = s.mems := by rfl

@[simp] theorem State.mbLoaded_mems (s : State) (n m : Nat) (noAuth : Bool) :
    (s.mbLoaded n m noAuth).mems = s.mems := by simp [State.mbLoaded]

@[simp] theorem State.mbDelivered_mems (s : State) (n m : Nat) :
    (s.mbDelivered n m).mems = s.mems := by simp [State.mbDelivered]

@[simp] theorem State.mbTakeHeld_mems (s : State) (n m : Nat) (completed : Bool) :
    (s.mbTakeHeld n m completed).mems = s.mems := by
  unfold State.mbTakeHeld
  split
  · simp
  · split
    · split <;> simp
    · simp

@[simp] theorem State.mbHostPut_mems (s : State) (n m : Nat) (ws : List Word) (noAuth : Bool) :
    (s.mbHostPut n m ws noAuth).mems = s.mems := by simp [State.mbHostPut]

@[simp] theorem State.mbLoad_mems (s : State) (n m : Nat) : (s.mbLoad n m).mems = s.mems := by
  unfold State.mbLoad
  dsimp only
  split
  · simp
  · split
    · split
      · simp
      · split <;> simp
    · simp

@[simp] theorem State.mbRead_mems (s : State) (n m : Nat) : (s.mbRead n m).mems = s.mems :=
  foldl_mems (fun _ _ => State.wr_mems _ _ _) _ _

@[simp] theorem State.mbRequest_mems (s : State) (n m : Nat) :
    (s.mbRequest n m).mems = s.mems := by simp [State.mbRequest]

@[simp] theorem State.mbCancel_mems (s : State) (n m : Nat) : (s.mbCancel n m).mems = s.mems := by
  unfold State.mbCancel
  split <;> simp

@[simp] theorem State.mbResume_mems (s : State) (n m : Nat) :
    (s.mbResume n m).mems = s.mems := by simp [State.mbResume]

@[simp] theorem State.txDrop_mems (s : State) (u : Nat) : (s.txDrop u).mems = s.mems := by rfl

@[simp] theorem State.mbDeliver_mems (s : State) (n m : Nat) (ws : List Word) :
    (s.mbDeliver n m ws).mems = s.mems := by simp [State.mbDeliver]

@[simp] theorem State.mbAttempt_mems (s : State) (n m : Nat) (o : OnBus) (lostArb busOff suspend : Bool) :
    (s.mbAttempt n m o lostArb busOff suspend).mems = s.mems := by simp [State.mbAttempt]

@[simp] theorem State.canFailed_mems (s : State) (n : Nat) (lostArb busOff suspend : Bool) :
    (s.canFailed n lostArb busOff suspend).mems = s.mems := by
  unfold State.canFailed
  split
  · simp
  · split <;> simp

@[simp] theorem State.canAbandon_mems (s : State) (n : Nat) :
    (s.canAbandon n).mems = s.mems := by simp [State.canAbandon]

/-! ### Schedule matrices -/

@[simp] theorem State.mtxCycle_mems (s : State) (n b l : Nat) (y : MtxRun) :
    (s.mtxCycle n b l y).mems = s.mems := by simp [State.mtxCycle]

@[simp] theorem State.mtxRestart_mems (s : State) (n l : Nat) :
    (s.mtxRestart n l).mems = s.mems := by simp [State.mtxRestart]

@[simp] theorem State.mtxArm_mems (s : State) (n : Nat) : (s.mtxArm n).mems = s.mems := by simp [State.mtxArm]
@[simp] theorem State.mtxPend_mems (s : State) (n : Nat) : (s.mtxPend n).mems = s.mems := by rfl
@[simp] theorem State.mtxStop_mems (s : State) (n : Nat) : (s.mtxStop n).mems = s.mems := by simp [State.mtxStop]

@[simp] theorem State.mtxAction_mems (s : State) (n b l : Nat) : (s.mtxAction n b l).mems = s.mems := by
  unfold State.mtxAction
  split <;> simp

@[simp] theorem State.mtxTimeStep_mems (s : State) (n : Nat) : (s.mtxTimeStep n).mems = s.mems := by
  unfold State.mtxTimeStep
  dsimp only
  split <;> simp

/-! ### Job rings -/

@[simp] theorem State.ringNoDma_mems (s : State) (p r : Nat) : (s.ringNoDma p r).mems = s.mems := by rfl

@[simp] theorem State.ringCheck_mems (s : State) (p r : Nat) :
    (s.ringCheck p r).mems = s.mems := by simp [State.ringCheck]

@[simp] theorem State.ringEnable_mems (s : State) (p r : Nat) (was : Bool) :
    (s.ringEnable p r was).mems = s.mems := by simp [State.ringEnable]

@[simp] theorem State.ringProd_mems (s : State) (p r index : Nat) :
    (s.ringProd p r index).mems = s.mems := by simp [State.ringProd]

@[simp] theorem State.ringPath_mems (s : State) (p r : Nat) : (s.ringPath p r).mems = s.mems := by
  unfold State.ringPath
  extract_lets
  split <;> simp

/-! ### Chains, first pass -/

@[simp] theorem State.limitJudge_mems (s : State) (g : Gen) (r cost : Nat) :
    (s.limitJudge g r cost).1.mems = s.mems := by rfl

@[simp] theorem State.limitEntry_mems (s : State) (item : ChainItem) (r : Nat) :
    (s.limitEntry item r).1.mems = s.mems := by
  unfold State.limitEntry
  extract_lets
  split <;> rfl

@[simp] theorem State.showQueue_mems (s : State) (e : Nat) : (s.showQueue e).mems = s.mems := by rfl

@[simp] theorem State.invoke_mems (s : State) (i : Invoc) : (s.invoke i).1.mems = s.mems := by
  unfold State.invoke
  extract_lets
  split <;> rfl

@[simp] theorem State.fieldEntry_mems (s : State) (item : ChainItem) (r batch : Nat) (d : FieldDesc) :
    (s.fieldEntry item r batch d).1.mems = s.mems := by
  unfold State.fieldEntry
  split
  · simp
  · split <;> simp

@[simp] theorem State.signalEntry_mems (s : State) (item : ChainItem) (r batch : Nat) :
    (s.signalEntry item r batch).1.mems = s.mems := by
  unfold State.signalEntry
  exact foldl_keeps (fun a : State × List BatchItem => a.1.mems)
    (fun a d => by exact a.1.fieldEntry_mems item r batch d) _ _

@[simp] theorem State.firstPass_mems (s : State) (item : ChainItem) (batch : Nat) (l : List Nat) :
    (s.firstPass item batch l).1.mems = s.mems := by
  induction l generalizing s with
  | nil => rfl
  | cons r rs ih =>
    unfold State.firstPass
    dsimp only
    split
    · split
      · exact (ih _).trans (s.limitEntry_mems item r)
      · exact s.limitEntry_mems item r
    · split
      · exact (ih _).trans (s.signalEntry_mems item r batch)
      · exact ih _

@[simp] theorem State.startChain_mems (s : State) (item : ChainItem) (route : Nat) :
    (s.startChain item route).mems = s.mems := by
  unfold State.startChain
  extract_lets c t b f
  have ht : t.mems = s.mems := by
    unfold t
    split
    · exact s.bump_mems _
    · rfl
  have hf : f.1.mems = s.mems := (State.firstPass_mems _ _ _ _).trans ht
  split <;> exact hf

@[simp] theorem State.chainInOrder_mems (s : State) (item : ChainItem) (route : Nat) :
    (s.chainInOrder item route).mems = s.mems := by simp [State.chainInOrder]

theorem State.startWaiting_mems (before after : List HoldEntry) (s : State) :
    (State.startWaiting before after s).mems = s.mems := by
  induction after generalizing before s with
  | nil => rfl
  | cons e es ih =>
    unfold State.startWaiting
    split
    · split
      · exact ih _ _
      · exact (ih _ _).trans (State.startChain_mems _ _ _)
    · exact ih _ _

@[simp] theorem State.holdNext_mems (s : State) : s.holdNext.mems = s.mems := State.startWaiting_mems _ _ _
/-! ### Egress queues -/

@[simp] theorem State.setFree_mems (s : State) (n : Nat) : (s.setFree n).mems = s.mems := by rfl
@[simp] theorem State.setPanUse_mems (s : State) (fid : Nat) (x : PanUse) : (s.setPanUse fid x).mems = s.mems := by rfl

@[simp] theorem State.panHold_mems (s : State) (fid pans : Nat) :
    (s.panHold fid pans).mems = s.mems := by simp [State.panHold]

@[simp] theorem State.panDrop_mems (s : State) (fid : Nat) : (s.panDrop fid).mems = s.mems := by simp [State.panDrop]
@[simp] theorem State.showDepth_mems (s : State) (p q : Nat) : (s.showDepth p q).mems = s.mems := by rfl
@[simp] theorem State.cbsUpdate_mems (s : State) (p q : Nat) : (s.cbsUpdate p q).mems = s.mems := by rfl

@[simp] theorem State.wfqHead_mems (s : State) (p q : Nat) : (s.wfqHead p q).mems = s.mems := by
  unfold State.wfqHead
  extract_lets
  split <;> simp

@[simp] theorem State.mark_mems (s : State) (p q : Nat) (mayMark : Bool) (bs : List Byte) :
    (s.mark p q mayMark bs).1.mems = s.mems := by
  unfold State.mark
  dsimp only
  split
  · rfl
  · split <;> split <;> split <;> simp

@[simp] theorem State.lpiLeave_mems (s : State) (p : Nat) : (s.lpiLeave p).mems = s.mems := by simp [State.lpiLeave]

@[simp] theorem State.takeFrame_mems (s : State) (p q : Nat) (f : QFrame) (mayMark : Bool) :
    (s.takeFrame p q f mayMark).mems = s.mems := by simp [State.takeFrame]

@[simp] theorem State.emptyQueue_mems (s : State) (p q : Nat) :
    (s.emptyQueue p q).mems = s.mems := by simp [State.emptyQueue]

@[simp] theorem State.flushQueue_mems (s : State) (p q : Nat) :
    (s.flushQueue p q).mems = s.mems := by simp [State.flushQueue]

@[simp] theorem State.txStamp_mems (s : State) (p : Nat) (frame : List Byte) (at16 : Nat) :
    (s.txStamp p frame at16).mems = s.mems := by
  unfold State.txStamp
  extract_lets
  split <;> simp

@[simp] theorem State.ringSend_mems (s : State) (k q : Nat) (f : QFrame) (mayMark : Bool) :
    (s.ringSend k q f mayMark).mems = s.mems := by simp [State.ringSend]

@[simp] theorem State.nextSeq_mems (s : State) : (s.nextSeq).mems = s.mems := by rfl

@[simp] theorem State.originate_mems (s : State) (cls q : Nat) (f : QFrame) (mayMark : Bool) :
    (s.originate cls q f mayMark).mems = s.mems := by simp [State.originate]

/-! ### The switch -/

@[simp] theorem State.noPan_mems (s : State) (p : Nat) : (s.noPan p).mems = s.mems := by rfl

@[simp] theorem State.toRing_mems (s : State) (q : Nat) (f : QFrame) (rx : Rx) (mayMark : Bool) :
    (s.toRing q f rx mayMark).mems = s.mems := by
  unfold State.toRing
  split <;> simp

@[simp] theorem State.toEgress_mems (s : State) (p : Nat) (rx : Rx) (v : Verdict9) (mayMark : Bool) (bs : List Byte) :
    (s.toEgress p rx v mayMark bs).mems = s.mems := by simp [State.toEgress]

@[simp] theorem State.meter_mems (s : State) (g : Gen) (filter : Nat) (bs : List Byte) :
    (s.meter g filter bs).1.mems = s.mems := by
  unfold State.meter
  extract_lets
  split <;> simp

theorem State.actOn_mems {start : State → ChainItem → Nat → State} (h : ∀ t i r, (start t i r).mems = t.mems)
    (s : State) (g : Gen) (p : Nat) (rx : Rx) (filter : Option Nat) (stamps : Word × List Word)
    (trailer : Nat) (bs : List Byte) : (s.actOn start g p rx filter stamps trailer bs).mems = s.mems := by
  unfold State.actOn
  extract_lets v
  split
  · split <;> simp
  · extract_lets j chain t
    have hj : j.1.mems = s.mems := by
      unfold j
      split
      · rfl
      · exact s.meter_mems _ _ _
    clear_value chain
    have ht : t.mems = s.mems := by
      unfold t
      split
      · exact (h _ _ _).trans hj
      · exact hj
    split
    · simp [hj]
    · split
      · simp [hj]
      · split
        · simp [ht]
        · split <;> simp [ht]

@[simp] theorem State.forwardG_mems (s : State) (g : Gen) (p : Nat) (rx : Rx) (bs : List Byte) :
    (s.forwardG g p rx bs).mems = s.mems := by
  unfold State.forwardG
  split
  · exact State.actOn_mems State.chainInOrder_mems _ _ _ _ _ _ _ _
  · split
    · exact State.hold_mems _ _ _ _ _ _
    · exact State.actOn_mems State.chainInOrder_mems _ _ _ _ _ _ _ _

@[simp] theorem State.forward_mems (s : State) (p : Nat) (bs : List Byte) :
    (s.forward p bs).mems = s.mems := by simp [State.forward]

@[simp] theorem State.countRx_mems (s : State) (p : Nat) (bs : List Byte) : (s.countRx p bs).mems = s.mems := by rfl

@[simp] theorem State.lineLost_mems (s : State) (p : Nat) : (s.lineLost p).mems = s.mems := by
  unfold State.lineLost
  split <;> simp

@[simp] theorem State.setCut_mems (s : State) (p : Nat) (c : Option CutThrough) : (s.setCut p c).mems = s.mems := by rfl

@[simp] theorem State.cutEnds_mems (s : State) (p e : Nat) (c : CutThrough) (bs : List Byte) (bad : Bool) :
    (s.cutEnds p e c bs bad).mems = s.mems := by
  unfold State.cutEnds
  split <;> simp

@[simp] theorem State.endCut_mems (s : State) (p : Nat) (bs : List Byte) (bad : Bool) :
    (s.endCut p bs bad).mems = s.mems := by
  unfold State.endCut
  split <;> simp

@[simp] theorem State.ingressLost_mems (s : State) (p : Nat) : (s.ingressLost p).mems = s.mems := by
  unfold State.ingressLost
  split <;> simp

@[simp] theorem State.linkEvent_mems (s : State) (p : Nat) : (s.linkEvent p).mems = s.mems := by rfl
/-! ### Chains, second pass -/

@[simp] theorem State.laneDeliver_mems (s : State) (n : Nat) (bs : List Byte) :
    (s.laneDeliver n bs).mems = s.mems := by simp [State.laneDeliver]

@[simp] theorem State.fromG_mems (s : State) (bs : List Byte) : (s.fromG bs).mems = s.mems := by simp [State.fromG]

@[simp] theorem State.pduSend_mems (s : State) (g : Gen) (r : Nat) (payload : List Byte) :
    (s.pduSend g r payload).mems = s.mems := by
  unfold State.pduSend
  dsimp only
  split
  · simp
  · split <;> simp

@[simp] theorem State.canDeliver_mems (s : State) (g : Gen) (n m fmt : Nat) (f : OutFrame) :
    (s.canDeliver g n m fmt f).mems = s.mems := by
  unfold State.canDeliver
  split
  · simp
  · split
    · simp
    · dsimp only
      split <;> simp

@[simp] theorem State.packTo_mems (s : State) (g : Gen) (r u m : Nat) (data : List Byte) :
    (s.packTo g r u m data).mems = s.mems := by
  unfold State.packTo
  split <;> simp

@[simp] theorem State.countSat_mems (s : State) (u k : Nat) : (s.countSat u k).mems = s.mems := by rfl

@[simp] theorem State.packEntry_mems (s : State) (g : Gen) (r : Nat) (read : Nat → DWord) :
    (s.packEntry g r read).mems = s.mems := by simp [State.packEntry]

/-! ### Images -/

@[simp] theorem State.putImg_mems (s : State) (a : Nat) (v : Word) : (s.putImg a v).mems = s.mems := by rfl
@[simp] theorem State.putPers_mems (s : State) (x : Sect) : (s.putPers x).mems = s.mems := by simp [State.putPers]
@[simp] theorem State.putRec_mems (s : State) (r : SetRec) : (s.putRec r).mems = s.mems := by rfl
@[simp] theorem State.clearImg_mems (s : State) : (s.clearImg).mems = s.mems := by simp [State.clearImg]

@[simp] theorem State.fullRegs_mems (s : State) (schema : Nat) (xs : List Sect) :
    (s.fullRegs schema xs).mems = s.mems := by simp [State.fullRegs]

@[simp] theorem State.recWrite_mems (rs : List SetRec) (s : State) (r : SetRec) :
    (State.recWrite rs s r).mems = s.mems := by simp [State.recWrite]

@[simp] theorem State.partRegs_mems (s : State) (xs : List Sect) :
    (s.partRegs xs).mems = s.mems := by simp [State.partRegs]

/-! ### Sluice lists -/

@[simp] theorem State.setGates_mems (s : State) (p g l : Nat) :
    (s.setGates p g l).mems = s.mems := by simp [State.setGates]

@[simp] theorem State.listEntry_mems (s : State) (p k l : Nat) :
    (s.listEntry p k l).mems = s.mems := by simp [State.listEntry]

@[simp] theorem State.listCycle_mems (s : State) (p l : Nat) :
    (s.listCycle p l).mems = s.mems := by simp [State.listCycle]

@[simp] theorem State.listTake_mems (s : State) (p l : Nat) (words : List (Nat × Word)) (onLocal late own : Bool)
    (instant : Word) :
    (s.listTake p l words onLocal late own instant).mems = s.mems := by simp [State.listTake]

@[simp] theorem State.listRequest_mems (s : State) (p l : Nat) :
    (s.listRequest p l).mems = s.mems := by simp [State.listRequest]

@[simp] theorem State.listArm_mems (s : State) (p : Nat) : (s.listArm p).mems = s.mems := by simp [State.listArm]

@[simp] theorem State.listSeal_mems (s old : State) (p : Nat) : (s.listSeal old p).mems = s.mems := by
  unfold State.listSeal
  split <;> simp

@[simp] theorem State.listPend_mems (s old : State) (p : Nat) :
    (s.listPend old p).mems = s.mems := by simp [State.listPend]

@[simp] theorem State.listSwitch_mems (s : State) (p : Nat) (useBase : Bool) (at16 : Nat) :
    (s.listSwitch p useBase at16).mems = s.mems := by simp [State.listSwitch]

@[simp] theorem State.listStop_mems (s : State) (p : Nat) : (s.listStop p).mems = s.mems := by simp [State.listStop]

@[simp] theorem State.listTimeStep_mems (s old : State) (p : Nat) : (s.listTimeStep old p).mems = s.mems := by
  unfold State.listTimeStep
  dsimp only
  split <;> simp

@[simp] theorem State.flushPort_mems (s : State) (p mask : Nat) :
    (s.flushPort p mask).mems = s.mems := by simp [State.flushPort]

@[simp] theorem State.tsPop_mems (s : State) (p : Nat) : (s.tsPop p).1.mems = s.mems := by
  unfold State.tsPop
  split <;> simp

@[simp] theorem State.ethLink_mems (s : State) (m : Nat) (up : Bool) (speed : Nat) (half : Bool) :
    (s.ethLink m up speed half).mems = s.mems := by simp [State.ethLink]

/-! ### The time base -/

@[simp] theorem State.slewSettle_mems (s : State) : (s.slewSettle).mems = s.mems := by rfl
@[simp] theorem State.setRate_mems (s : State) (v : Word) : (s.setRate v).mems = s.mems := by simp [State.setRate]

@[simp] theorem State.rateWrite_mems (s : State) (v : Word) :
    (s.rateWrite v).mems = s.mems := by simp [State.rateWrite]

@[simp] theorem State.timeStep_mems (s old : State) : (s.timeStep old).mems = s.mems := by simp [State.timeStep]

@[simp] theorem State.stepTime_mems (s : State) (adj : Int) :
    (s.stepTime adj).mems = s.mems := by simp [State.stepTime]

@[simp] theorem State.adjust_mems (s : State) (adj : Int) : (s.adjust adj).mems = s.mems := by simp [State.adjust]

@[simp] theorem State.adjWrite_mems (s : State) (hi : Word) :
    (s.adjWrite hi).mems = s.mems := by simp [State.adjWrite]

@[simp] theorem State.ppsArm_mems (s : State) : (s.ppsArm).mems = s.mems := by rfl
@[simp] theorem State.snap_mems (s : State) : (s.snap).mems = s.mems := by rfl
/-! ### CAN reception -/

@[simp] theorem State.canRxPop_mems (s : State) (n : Nat) : (s.canRxPop n).1.mems = s.mems := by
  unfold State.canRxPop
  extract_lets
  split <;> simp

@[simp] theorem State.canRecover_mems (s : State) (n : Nat) :
    (s.canRecover n).mems = s.mems := by simp [State.canRecover]

@[simp] theorem State.canResetBo_mems (s : State) (n : Nat) : (s.canResetBo n).mems = s.mems := by rfl
/-! ### Discrete banks -/

@[simp] theorem State.setLineBit_mems (s : State) (f : Fld) (l : Nat) (v : Bool) :
    (s.setLineBit f l v).mems = s.mems := by rfl

@[simp] theorem State.lineLevel_mems (s : State) (b l : Nat) (v : Bool) : (s.lineLevel b l v).mems = s.mems := by rfl

@[simp] theorem State.bankSample_mems (s : State) (b l16 : Nat) :
    (s.bankSample b l16).mems = s.mems := by simp [State.bankSample]

@[simp] theorem State.driveLine_mems (s : State) (b l : Nat) (v : Bool) :
    (s.driveLine b l v).mems = s.mems := by simp [State.driveLine]

@[simp] theorem State.driveSafe_mems (s : State) (b l safe : Nat) : (s.driveSafe b l safe).mems = s.mems := by
  unfold State.driveSafe
  split <;> simp

@[simp] theorem State.lineClear_mems (s : State) (b l : Nat) (v : Bool) :
    (s.lineClear b l v).mems = s.mems := by simp [State.lineClear]

@[simp] theorem State.lineFollow_mems (s : State) (b l : Nat) :
    (s.lineFollow b l).mems = s.mems := by simp [State.lineFollow]

@[simp] theorem State.bankFollow_mems (s : State) (b : Nat) :
    (s.bankFollow b).mems = s.mems := by simp [State.bankFollow]

@[simp] theorem State.bankLatch_mems (s : State) (b : Nat) :
    (s.bankLatch b).mems = s.mems := by simp [State.bankLatch]

@[simp] theorem State.lineRefresh_mems (s : State) (b l : Nat) :
    (s.lineRefresh b l).mems = s.mems := by simp [State.lineRefresh]

@[simp] theorem State.bankSafe_mems (s : State) (b : Nat) : (s.bankSafe b).mems = s.mems := by simp [State.bankSafe]

@[simp] theorem State.bankStart_mems (s : State) (b : Nat) :
    (s.bankStart b).mems = s.mems := by simp [State.bankStart]

@[simp] theorem State.bankLow_mems (s : State) (b : Nat) : (s.bankLow b).mems = s.mems := by rfl
/-! ### Serial lanes -/

@[simp] theorem State.laneItem_mems (s : State) (n : Nat) (w : Word) :
    (s.laneItem n w).mems = s.mems := by simp [State.laneItem]

@[simp] theorem State.laneFell_mems (s : State) (n : Nat) : (s.laneFell n).mems = s.mems := by simp [State.laneFell]

@[simp] theorem State.laneRxPop_mems (s : State) (n : Nat) : (s.laneRxPop n).1.mems = s.mems := by
  unfold State.laneRxPop
  extract_lets t
  split
  · exact s.useFree_mems
  · split
    · exact s.useFree_mems
    · simp [t]

@[simp] theorem State.laneRxFlush_mems (s : State) (n : Nat) :
    (s.laneRxFlush n).mems = s.mems := by simp [State.laneRxFlush]

@[simp] theorem State.laneItems_mems (s : State) (n : Nat) (ws : List Word) (bad : Bool) :
    (s.laneItems n ws bad).mems = s.mems := by simp [State.laneItems]

@[simp] theorem State.laneChain_mems (s : State) (n route : Nat) (request : Bool) (payload : List Byte) :
    (s.laneChain n route request payload).mems = s.mems := by simp [State.laneChain]

@[simp] theorem State.laneChainK_mems (s : State) (n k : Nat) (payload : List Byte) :
    (s.laneChainK n k payload).mems = s.mems := by simp [State.laneChainK]

@[simp] theorem State.laneKeep_mems (s : State) (n : Nat) (ws : List Word) :
    (s.laneKeep n ws).mems = s.mems := by simp [State.laneKeep]

@[simp] theorem State.laneRelease_mems (s : State) (n k : Nat) (ws : List Word) (payload : List Byte) :
    (s.laneRelease n k ws payload).mems = s.mems := by simp [State.laneRelease]

@[simp] theorem State.laneGood_mems (s : State) (n k : Nat) :
    (s.laneGood n k).mems = s.mems := by simp [State.laneGood]

@[simp] theorem State.laneFrameEnd_mems (s : State) (n : Nat) :
    (s.laneFrameEnd n).mems = s.mems := by simp [State.laneFrameEnd]

@[simp] theorem State.smReset_mems (s : State) (n : Nat) : (s.smReset n).mems = s.mems := by rfl

@[simp] theorem State.laneTxPush_mems (s : State) (n : Nat) (item : Word) :
    (s.laneTxPush n item).mems = s.mems := by simp [State.laneTxPush]

@[simp] theorem State.laneTxEnd_mems (s : State) (n : Nat) :
    (s.laneTxEnd n).mems = s.mems := by simp [State.laneTxEnd]

@[simp] theorem State.laneTxFlush_mems (s : State) (n : Nat) :
    (s.laneTxFlush n).mems = s.mems := by simp [State.laneTxFlush]

@[simp] theorem State.laneStart_mems (s : State) (n : Nat) : (s.laneStart n).mems = s.mems := by rfl
@[simp] theorem State.deFall_mems (s : State) (n : Nat) : (s.deFall n).mems = s.mems := by simp [State.deFall]
@[simp] theorem State.laneSafe_mems (s : State) (n : Nat) : (s.laneSafe n).mems = s.mems := by simp [State.laneSafe]

@[simp] theorem State.laneTakeover_mems (s : State) (n : Nat) :
    (s.laneTakeover n).mems = s.mems := by simp [State.laneTakeover]

/-! ### Units -/

@[simp] theorem State.canStartUp_mems (s : State) (n : Nat) :
    (s.canStartUp n).mems = s.mems := by simp [State.canStartUp]

@[simp] theorem State.persApplied_mems (s : State) (u : Nat) : (s.persApplied u).mems = s.mems := by
  unfold State.persApplied
  split <;> simp

@[simp] theorem State.unitStart_mems (s : State) (u : Nat) : (s.unitStart u).mems = s.mems := by
  unfold State.unitStart
  split
  · simp
  · split <;> simp

@[simp] theorem State.unitSafe_mems (s : State) (u : Nat) : (s.unitSafe u).mems = s.mems := by
  unfold State.unitSafe
  split <;> simp

@[simp] theorem State.unitHalt_mems (s : State) (u : Nat) : (s.unitHalt u).mems = s.mems := by simp [State.unitHalt]

@[simp] theorem State.stopWrite_mems (s : State) (k : Nat) (v : Word) :
    (s.stopWrite k v).mems = s.mems := by simp [State.stopWrite]

@[simp] theorem State.unitTakeover_mems (s : State) (u : Nat) : (s.unitTakeover u).mems = s.mems := by
  unfold State.unitTakeover
  split <;> simp

@[simp] theorem State.dieSafe_mems (s : State) (d : Nat) : (s.dieSafe d).mems = s.mems := by simp [State.dieSafe]

@[simp] theorem State.macDiscard_mems (s : State) (m : Nat) : (s.macDiscard m).mems = s.mems :=
  (State.bumpBy_mems _ _ _).trans (foldl_mems (fun t q => t.emptyQueue_mems m q) _ _)

@[simp] theorem State.dieResume_mems (s : State) (d : Nat) : (s.dieResume d).mems = s.mems :=
  (foldl_mems (fun _ _ => (State.unitStart_mems _ _).trans (State.setFld_mems _ _ _)) _ _).trans
    (foldl_mems (fun _ _ => State.macDiscard_mems _ _) _ _)

/-! ### The structure -/

@[simp] theorem State.strGo_mems (s : State) (k : Nat) : (s.strGo k).mems = s.mems := by rfl
@[simp] theorem State.strIgnored_mems (s : State) : (s.strIgnored).mems = s.mems := by rfl
@[simp] theorem State.dropShadow_mems (s : State) : (s.dropShadow).mems = s.mems := by rfl
@[simp] theorem State.strFail_mems (s : State) (e : Nat) : (s.strFail e).mems = s.mems := by rfl

@[simp] theorem State.strStart_mems (s : State) (src : Nat) (boot forUpdate : Bool) :
    (s.strStart src boot forUpdate).mems = s.mems := by rfl

@[simp] theorem State.strLoad_mems (s : State) (src : Nat) : (s.strLoad src).mems = s.mems := by simp [State.strLoad]

@[simp] theorem State.bootOther_mems (s : State) (e : Nat) : (s.bootOther e).mems = s.mems := by
  unfold State.bootOther
  extract_lets
  split <;> rfl

@[simp] theorem State.imageFails_mems (s : State) (e : Nat) :
    (s.imageFails e).mems = s.mems := by simp [State.imageFails]

@[simp] theorem State.strReceived_mems (s : State) (inFlash : Bool) :
    (s.strReceived inFlash).mems = s.mems := by simp [State.strReceived]

@[simp] theorem State.strPiece_mems (s : State) : (s.strPiece).mems = s.mems := by simp [State.strPiece]
@[simp] theorem State.strCommit_mems (s : State) : (s.strCommit).mems = s.mems := by simp [State.strCommit]
@[simp] theorem State.strAbort_mems (s : State) : (s.strAbort).mems = s.mems := by simp [State.strAbort]
@[simp] theorem State.saveSettings_mems (s : State) : (s.saveSettings).mems = s.mems := by simp [State.saveSettings]

@[simp] theorem State.mapSwitch_mems (s : State) (old new : Tbl Word) :
    (s.mapSwitch old new).mems = s.mems := by simp [State.mapSwitch]

@[simp] theorem State.routesStart_mems (s : State) (part : Bool) (xs : List Sect) :
    (s.routesStart part xs).mems = s.mems := by simp [State.routesStart]

@[simp] theorem State.actReplace_mems (s : State) (e : Nat) :
    (s.actReplace e).mems = s.mems := by simp [State.actReplace]

@[simp] theorem State.actsSwitch_mems (s : State) (part : Bool) (xs : List Sect) :
    (s.actsSwitch part xs).mems = s.mems := by simp [State.actsSwitch]

@[simp] theorem State.pendSwitch_mems (s old : State) (xs : List Sect) : (s.pendSwitch old xs).mems = s.mems := by
  refine (foldl_mems (fun t p => t.listPend_mems old p) _ _).trans (foldl_mems (fun t u => ?_) _ _)
  split
  · exact t.mtxPend_mems _
  · rfl

@[simp] theorem State.floorFollow_mems (s : State) : (s.floorFollow).mems = s.mems := by simp [State.floorFollow]

@[simp] theorem State.afterRegs_mems (s : State) (old : State) :
    (s.afterRegs old).mems = s.mems := by simp [State.afterRegs]

@[simp] theorem State.persStart_mems (s old : State) (xs : List Sect) :
    (s.persStart old xs).mems = s.mems := by simp [State.persStart]

@[simp] theorem State.reclaimOld_mems (s : State) : (s.reclaimOld).mems = s.mems := by rfl

@[simp] theorem State.switchDone_mems (s : State) (frames : Bool) :
    (s.switchDone frames).mems = s.mems := by simp [State.switchDone]

@[simp] theorem State.blocksRun_mems (s : State) (on : Bool) : (s.blocksRun on).mems = s.mems := by rfl

@[simp] theorem State.unitsStart_mems (s : State) : s.unitsStart.mems = s.mems :=
  foldl_mems (fun _ _ => (State.unitStart_mems _ _).trans (State.persApplied_mems _ _)) _ _

@[simp] theorem State.intoService_mems (s : State) : s.intoService.mems = s.mems := by
  have hready : ∀ t : State, { t with fieldReady := true }.mems = t.mems := fun _ => rfl
  rw [State.intoService, hready, State.unitsStart_mems, State.blocksRun_mems]

@[simp] theorem State.reloadHolders_mems (s : State) : s.reloadHolders.mems = s.mems := by
  refine foldl_mems (fun t p => ?_) _ _
  dsimp only
  split <;> split <;> simp

/-! ### Commits and pins -/

@[simp] theorem State.serve_mems (s : State) (d16 : Int) (l : Nat) : (s.serve d16 l).mems = s.mems := by rfl
@[simp] theorem State.merged_mems (s : State) (k : Nat) : (s.merged k).mems = s.mems := by rfl

@[simp] theorem State.requestAt_mems (s : State) (d16 : Int) (l : Nat) :
    (s.requestAt d16 l).mems = s.mems := by simp [State.requestAt]

@[simp] theorem State.request_mems (s : State) : (s.request).mems = s.mems := by simp [State.request]

@[simp] theorem State.writeStale_mems (s : State) (n : Nat) : (s.writeStale n).mems = s.mems := by
  unfold State.writeStale
  split <;> simp

@[simp] theorem State.staleAll_mems (s : State) (l : Nat) : (s.staleAll l).mems = s.mems := by simp [State.staleAll]
@[simp] theorem State.setEvRoute_mems (s : State) (r : Nat) (x : EvRoute) : (s.setEvRoute r x).mems = s.mems := by rfl

@[simp] theorem State.eventEntryAt_mems (s : State) (g : Gen) (e : Word) (r : Nat) :
    (s.eventEntryAt g e r).mems = s.mems := by
  unfold State.eventEntryAt
  extract_lets
  split <;> simp

@[simp] theorem State.onHostPacks_mems (s : State) (g : Gen) (e : Word) :
    (s.onHostPacks g e).mems = s.mems := by simp [State.onHostPacks]

@[simp] theorem State.onCommitRecipes_mems (s : State) (g : Gen) (e time : Word) (phases : List Word) :
    (s.onCommitRecipes g e time phases).mems = s.mems :=
  foldl_mems (fun t _ => t.invoke_mems _) _ _

@[simp] theorem State.setRole_mems (s : State) (e r : Nat) : (s.setRole e r).mems = s.mems := by rfl
@[simp] theorem State.pin_mems (s : State) (p : Nat) (e : Word) : (s.pin p e).mems = s.mems := by rfl
@[simp] theorem State.pinNow_mems (s : State) (p : Nat) : (s.pinNow p).mems = s.mems := by rfl
@[simp] theorem State.pinAt_mems (s : State) (p : Nat) : (s.pinAt p).mems = s.mems := by simp [State.pinAt]
@[simp] theorem State.unpin_mems (s : State) (p : Nat) : (s.unpin p).mems = s.mems := by rfl

@[simp] theorem State.pinExpire_mems (s : State) (p : Nat) :
    (s.pinExpire p).mems = s.mems := by simp [State.pinExpire]

@[simp] theorem State.pinnedRead_mems (s : State) (p n : Nat) : (s.pinnedRead p n).1.mems = s.mems := by
  unfold State.pinnedRead
  split <;> simp

@[simp] theorem State.recordHold_mems (s : State) (l : Nat) : (s.recordHold l).mems = s.mems := by rfl

@[simp] theorem State.ashlarTakes_mems (s : State) (e : Word) (p : Nat) : (s.ashlarTakes e p).mems = s.mems := by
  unfold State.ashlarTakes
  split <;> simp

@[simp] theorem State.groupDoorbell_mems (s : State) (p : Nat) :
    (s.groupDoorbell p).mems = s.mems := by simp [State.groupDoorbell]

@[simp] theorem State.ashlarCancel_mems (s : State) (p : Nat) : (s.ashlarCancel p).mems = s.mems := by
  unfold State.ashlarCancel
  split <;> simp

/-! ### The option store -/

@[simp] theorem State.optProgram_mems (s : State) : (s.optProgram).mems = s.mems := by simp [State.optProgram]

@[simp] theorem State.optSetBank_mems (s : State) (bank : Nat) (ok : Bool) :
    (s.optSetBank bank ok).mems = s.mems := by rfl

/-! ### Signal engines -/

@[simp] theorem State.fill_mems (s : State) (id : Nat) (ws : List CellWrite) : (s.fill id ws).mems = s.mems := by rfl
@[simp] theorem State.engineTake_mems (s : State) (e : Nat) : (s.engineTake e).mems = s.mems := by rfl

@[simp] theorem State.secHandBack_mems (s : State) (e : Nat) :
    (s.secHandBack e).mems = s.mems := by simp [State.secHandBack]

/-! ### The health monitor -/

@[simp] theorem State.setSpare_mems (s : State) (n st slot : Nat) : (s.setSpare n st slot).mems = s.mems := by rfl

@[simp] theorem State.spareTakes_mems (s : State) (u : Nat) (forced : Bool) :
    (s.spareTakes u forced).mems = s.mems := by
  unfold State.spareTakes
  split <;> simp

@[simp] theorem State.unitReturns_mems (s : State) (u : Nat) : (s.unitReturns u).mems = s.mems := by
  unfold State.unitReturns
  split <;> simp

@[simp] theorem State.unitReturn_mems (s : State) (u : Nat) : (s.unitReturn u).mems = s.mems := by
  unfold State.unitReturn
  split <;> simp

@[simp] theorem State.forceSpare_mems (s : State) (item : Nat) :
    (s.forceSpare item).mems = s.mems := by simp [State.forceSpare]

@[simp] theorem State.handBack_mems (s : State) (item : Nat) :
    (s.handBack item).mems = s.mems := by simp [State.handBack]

@[simp] theorem State.takeReasons_mems (s : State) : (s.takeReasons).mems = s.mems := by rfl
@[simp] theorem State.startTest_mems (s : State) (item code : Nat) : (s.startTest item code).mems = s.mems := by rfl
@[simp] theorem State.mortarUp_mems (s : State) (l : Nat) : (s.mortarUp l).mems = s.mems := by simp [State.mortarUp]

@[simp] theorem State.itemReturns_mems (s : State) (item : Nat) : (s.itemReturns item).mems = s.mems := by
  unfold State.itemReturns
  split <;> simp

@[simp] theorem State.itemRetires_mems (s : State) (item : Nat) : (s.itemRetires item).mems = s.mems := by
  unfold State.itemRetires
  split <;> simp

@[simp] theorem State.rowReturns_mems (s : State) (item : Nat) :
    (s.rowReturns item).mems = s.mems := by simp [State.rowReturns]

/-! ### Mortar links -/

@[simp] theorem State.retrainMark_mems (s : State) (l : Nat) : (s.retrainMark l).mems = s.mems := by rfl

@[simp] theorem State.dieDiscard_mems (s : State) (d : Nat) : (s.dieDiscard d).mems = s.mems := by
  refine (foldl_mems (fun t e => ?_) _ _).trans rfl
  dsimp only
  split <;> simp

@[simp] theorem State.holdMessages_mems (s : State) (d : Nat) : (s.holdMessages d).mems = s.mems := by rfl
/-! ### Field updates -/

@[simp] theorem State.updGo_mems (s : State) (k : Nat) : (s.updGo k).mems = s.mems := by rfl
@[simp] theorem State.updIgnored_mems (s : State) : (s.updIgnored).mems = s.mems := by rfl
@[simp] theorem State.updResult_mems (s : State) (k : Nat) : (s.updResult k).mems = s.mems := by rfl
@[simp] theorem State.updRefuse_mems (s : State) (e : Nat) : (s.updRefuse e).mems = s.mems := by rfl
@[simp] theorem State.updFail_mems (s : State) (e detail : Nat) : (s.updFail e detail).mems = s.mems := by rfl

@[simp] theorem State.pieceTake_mems (s : State) (idx : Nat) (data : List Byte) :
    (s.pieceTake idx data).mems = s.mems := by rfl

@[simp] theorem State.pieceDup_mems (s : State) : (s.pieceDup).mems = s.mems := by rfl

@[simp] theorem State.pieceZero_mems (s : State) (data : List Byte) :
    (s.pieceZero data).mems = s.mems := by simp [State.pieceZero]

@[simp] theorem State.pieceOther_mems (s : State) (idx : Nat) (data : List Byte) :
    (s.pieceOther idx data).mems = s.mems := by simp [State.pieceOther]

@[simp] theorem State.updPiece_mems (s : State) : (s.updPiece).mems = s.mems := by simp [State.updPiece]
@[simp] theorem State.updArm_mems (s : State) : (s.updArm).mems = s.mems := by simp [State.updArm]
@[simp] theorem State.updActivate_mems (s : State) : (s.updActivate).mems = s.mems := by simp [State.updActivate]
@[simp] theorem State.eraseRecord_mems (s : State) : (s.eraseRecord).mems = s.mems := by rfl

@[simp] theorem State.archiveStore_mems (s : State) : (s.archiveStore).mems = s.mems := by
  unfold State.archiveStore
  split <;> simp

@[simp] theorem State.updConfirm_mems (s : State) (optOk : Bool) :
    (s.updConfirm optOk).mems = s.mems := by simp [State.updConfirm]

@[simp] theorem State.updAbort_mems (s : State) : (s.updAbort).mems = s.mems := by simp [State.updAbort]
@[simp] theorem State.archClear_mems (s : State) : (s.archClear).mems = s.mems := by rfl
@[simp] theorem State.updReset_mems (s : State) : (s.updReset).mems = s.mems := by simp [State.updReset]
/-! ### Releases -/

@[simp] theorem State.unitActs_mems (s : State) (ws : List Word) (t16 u : Nat) :
    (s.unitActs ws t16 u).mems = s.mems := by
  unfold State.unitActs
  split
  · simp
  · split <;> simp

@[simp] theorem State.dieActs_mems (s : State) (ws : List Word) (t16 d : Nat) :
    (s.dieActs ws t16 d).mems = s.mems := by simp [State.dieActs]

@[simp] theorem State.postFire_mems (s : State) (e : Nat) (g : Sealed) :
    (s.postFire e g).mems = s.mems := by simp [State.postFire]

@[simp] theorem State.countCrowd_mems (s : State) (t16 : Nat) : (s.countCrowd t16).mems = s.mems := by rfl

@[simp] theorem State.delay_mems (s : State) (e : Nat) (x : ActEntry) (again : Bool) :
    (s.delay e x again).mems = s.mems := by simp [State.delay]

@[simp] theorem State.crossEntry_mems (s : State) (n : Nat) (x : Span) (e : Nat) :
    (s.crossEntry n x e).mems = s.mems := by simp [State.crossEntry]

@[simp] theorem State.courseCommits_mems (s : State) (n : Nat) (x : Span) :
    (s.courseCommits n x).mems = s.mems := by simp [State.courseCommits]

@[simp] theorem State.pointJudge_mems (s : State) (n : Nat) (t : State) : (s.pointJudge n t).mems = t.mems := by
  simp [State.pointJudge]

/-! ### The Avzin ring -/

@[simp] theorem State.ringEvent_mems (s : State) (code : Nat) : (s.ringEvent code).mems = s.mems := by rfl

@[simp] theorem State.sendSup_mems (s : State) (kind port peer : Nat) :
    (s.sendSup kind port peer).mems = s.mems := by simp [State.sendSup]

@[simp] theorem State.setChain_mems (s : State) (k : Nat) (c : Option RingChain) :
    (s.setChain k c).mems = s.mems := by rfl

@[simp] theorem State.showStandby_mems (s : State) : (s.showStandby).mems = s.mems := by rfl
@[simp] theorem State.rtSwitch_mems (s : State) : (s.rtSwitch).mems = s.mems := by simp [State.rtSwitch]

@[simp] theorem State.elect_mems (s : State) : s.elect.mems = s.mems := by
  unfold State.elect
  dsimp only
  split
  · rfl
  · split
    · simp
    · split <;> split <;> simp

@[simp] theorem State.addFault_mems (s : State) (key peer : Nat) : (s.addFault key peer).mems = s.mems := by rfl

@[simp] theorem State.ringLinkDown_mems (s : State) (k : Nat) :
    (s.ringLinkDown k).mems = s.mems := by simp [State.ringLinkDown]

@[simp] theorem State.ringResume_mems (s : State) : (s.ringResume).mems = s.mems := by rfl
/-! ### The bridge -/

@[simp] theorem State.opPeakNow_mems (s : State) (p : Nat) : (s.opPeakNow p).mems = s.mems := by rfl
@[simp] theorem State.opPeak_mems (s : State) (p : Nat) : (s.opPeak p).mems = s.mems := by rfl

@[simp] theorem State.opAnswer_mems (s : State) (p : Nat) (o : HostOp) : (s.opAnswer p o).mems = s.mems := by
  unfold State.opAnswer
  split <;> simp

@[simp] theorem State.setLine_mems (s : State) (w : Nat) (x : Option PfLine) : (s.setLine w x).mems = s.mems := by rfl

@[simp] theorem State.discardLine_mems (s : State) (w : Nat) : (s.discardLine w).mems = s.mems := by
  unfold State.discardLine
  split
  · simp
  · split <;> simp

@[simp] theorem State.lineReturn_mems (s : State) (a : FarAcc) : (s.lineReturn a).mems = s.mems := by
  unfold State.lineReturn
  split <;> simp

@[simp] theorem State.opWord_mems (s : State) (p id slot : Nat) (w : Word) (status : Nat) :
    (s.opWord p id slot w status).mems = s.mems := by
  unfold State.opWord
  extract_lets
  split <;> simp

@[simp] theorem State.accAnswer_mems (s : State) (a : FarAcc) (ws : List Word) (status : Nat) :
    (s.accAnswer a ws status).mems = s.mems := by
  unfold State.accAnswer
  split <;> simp

@[simp] theorem State.nextAccess_mems (s : State) (n : Nat) : (s.nextAccess n).mems = s.mems := by
  induction n generalizing s with
  | zero => rfl
  | succ n ih =>
    unfold State.nextAccess
    dsimp only
    split
    · rfl
    · have huse : ∀ (c : Prop) [Decidable c], (if c then s else s.useFree).mems = s.mems := by simp
      split
      · exact (ih _).trans ((State.accAnswer_mems _ _ _ _).trans ((State.lineReturn_mems _ _).trans (huse _)))
      · exact huse _

@[simp] theorem State.bridgeKick_mems (s : State) : s.bridgeKick.mems = s.mems := by
  unfold State.bridgeKick
  split
  · rfl
  · exact s.nextAccess_mems _

@[simp] theorem State.accArrive_mems (s : State) (a : FarAcc) : (s.accArrive a).mems = s.mems := by
  have hqueue : ∀ t : State,
      (State.bridgeKick { t with bridge := { t.bridge with accs := t.bridge.accs ++ [a] } }).mems = t.mems :=
    fun t => (State.bridgeKick_mems _).trans rfl
  unfold State.accArrive
  extract_lets ahead
  cases a.kind <;> cases s.lineHit a
  case read.some w =>
    dsimp only
    split
    · rfl
    · exact (State.accAnswer_mems _ _ _ _).trans (State.lineReturn_mems _ _)
  case read.none => exact hqueue s
  all_goals exact (hqueue _).trans (s.discardLine_mems _)

@[simp] theorem State.opStart_mems (s : State) (p : Nat) (o : HostOp) (as : List FarAcc) :
    (s.opStart p o as).mems = s.mems := by simp [State.opStart]

@[simp] theorem State.lrmwGo_mems (s : State) (p : Nat) : (s.lrmwGo p).mems = s.mems := by simp [State.lrmwGo]
/-! ### Paths of pages -/

@[simp] theorem State.showPath_mems (s : State) (p x v : Nat) :
    (s.showPath p x v).mems = s.mems := by simp [State.showPath]

@[simp] theorem State.hostLink_mems (s : State) (x : Nat) (up : Bool) :
    (s.hostLink x up).mems = s.mems := by simp [State.hostLink]

@[simp] theorem State.dropOps_mems (s : State) (p x : Nat) : (s.dropOps p x).mems = s.mems := by rfl

@[simp] theorem State.pathTake_mems (s : State) (p x : Nat) : (s.pathTake p x).mems = s.mems := by
  unfold State.pathTake
  dsimp only
  split <;> simp

@[simp] theorem State.signalAgain_mems (s : State) (p : Nat) :
    (s.signalAgain p).mems = s.mems := by simp [State.signalAgain]

@[simp] theorem State.pathSwitched_mems (s : State) (p x : Nat) :
    (s.pathSwitched p x).mems = s.mems := by simp [State.pathSwitched]

@[simp] theorem State.pathDown_mems (s : State) (p x : Nat) : (s.pathDown p x).mems = s.mems := by
  unfold State.pathDown
  dsimp only
  split
  · simp
  · split
    · split <;> simp
    · simp

@[simp] theorem State.pathFail_mems (s : State) (p x : Nat) :
    (s.pathFail p x).mems = s.mems := by simp [State.pathFail]

@[simp] theorem State.heard_mems (s : State) (p x : Nat) : (s.heard p x).mems = s.mems := by rfl

@[simp] theorem State.selectNow_mems (s : State) (p : Nat) : (s.selectNow p).mems = s.mems := by
  unfold State.selectNow
  split <;> simp

@[simp] theorem State.pathSel_mems (s : State) (p x : Nat) : (s.pathSel p x).mems = s.mems := by simp [State.pathSel]
@[simp] theorem State.selectAll_mems (s : State) : (s.selectAll).mems = s.mems := by simp [State.selectAll]

@[simp] theorem State.eqPop_mems (s : State) (p q : Nat) : (s.eqPop p q).1.mems = s.mems := by
  unfold State.eqPop
  split <;> simp

@[simp] theorem State.eqFlush_mems (s : State) (p q : Nat) : (s.eqFlush p q).mems = s.mems := by rfl
@[simp] theorem State.eqLevel_mems (s : State) (p q : Nat) : (s.eqLevel p q).mems = s.mems := by simp [State.eqLevel]
/-! ### Resets -/

@[simp] theorem State.vioSet_mems (s : State) (n : Nat) (valid : Bool) :
    (s.vioSet n valid).mems = s.mems := by simp [State.vioSet]

@[simp] theorem State.enginesRetired_mems (s : State) :
    (s.enginesRetired).mems = s.mems := by simp [State.enginesRetired]

@[simp] theorem State.linksRetired_mems (s : State) : (s.linksRetired).mems = s.mems := by simp [State.linksRetired]
@[simp] theorem State.pcieDown_mems (s : State) (n : Nat) : (s.pcieDown n).mems = s.mems := by simp [State.pcieDown]

@[simp] theorem State.perst_mems (s : State) (n : Nat) (low : Bool) :
    (s.perst n low).mems = s.mems := by simp [State.perst]

@[simp] theorem State.laneLinkDown_mems (s : State) (l : Nat) :
    (s.laneLinkDown l).mems = s.mems := by simp [State.laneLinkDown]

@[simp] theorem State.panGone_mems (s : State) (p q fid : Nat) :
    (s.panGone p q fid).mems = s.mems := by simp [State.panGone]

@[simp] theorem State.panStomp_mems (s : State) (p fid : Nat) : (s.panStomp p fid).mems = s.mems := by
  unfold State.panStomp
  split <;> simp

@[simp] theorem State.panLost_mems (s : State) (fid : Nat) : (s.panLost fid).mems = s.mems :=
  foldl_mems (fun _ _ => (State.panStomp_mems _ _ _).trans (foldl_mems (fun _ _ => State.panGone_mems _ _ _ _) _ _)) _ _

@[simp] theorem State.holdLost_mems (s : State) (k : Nat) : (s.holdLost k).mems = s.mems := by
  unfold State.holdLost
  split <;> simp

@[simp] theorem State.eqLost_mems (s : State) (p q k : Nat) : (s.eqLost p q k).mems = s.mems := by simp [State.eqLost]

@[simp] theorem State.canRxLost_mems (s : State) (n k : Nat) :
    (s.canRxLost n k).mems = s.mems := by simp [State.canRxLost]

@[simp] theorem State.canGwLost_mems (s : State) (n k : Nat) :
    (s.canGwLost n k).mems = s.mems := by simp [State.canGwLost]

@[simp] theorem State.laneRxLost_mems (s : State) (n k : Nat) :
    (s.laneRxLost n k).mems = s.mems := by simp [State.laneRxLost]

@[simp] theorem State.laneTxLost_mems (s : State) (n k : Nat) : (s.laneTxLost n k).mems = s.mems := by rfl

@[simp] theorem State.stampLost_mems (s : State) (p k : Nat) :
    (s.stampLost p k).mems = s.mems := by simp [State.stampLost]

@[simp] theorem State.patrolSweep_mems (s : State) : (s.patrolSweep).mems = s.mems := by simp [State.patrolSweep]
/-! ### Register commands -/

@[simp] theorem State.holdHigh_mems (s : State) (p src : Nat) (hi : Word) : (s.holdHigh p src hi).mems = s.mems :=
  by rfl

@[simp] theorem State.peakAgain_mems (s : State) (a : Nat) : (s.peakAgain a).mems = s.mems := by
  unfold State.peakAgain
  dsimp only
  split
  · simp
  · split
    · simp
    · split
      · split <;> simp
      · simp

@[simp] theorem State.clearRc_mems (s : State) (a : Nat) : (s.clearRc a).mems = s.mems := by
  unfold State.clearRc
  split <;> simp

@[simp] theorem State.popRead_mems (s : State) (p a : Nat) : (s.popRead p a).1.mems = s.mems := by
  unfold State.popRead
  split
  · simp
  · split
    · split <;> simp
    · simp

@[simp] theorem State.regRead_mems (s : State) (p a : Nat) : (s.regRead p a).1.mems = s.mems := by
  unfold State.regRead
  split
  · simp
  · split
    · simp
    · split <;> simp

@[simp] theorem State.viewRead_mems (s : State) (p view n : Nat) : (s.viewRead p view n).1.mems = s.mems := by
  unfold State.viewRead
  split <;> simp

@[simp] theorem State.cellRead_mems (s : State) (p view n : Nat) (hi : Bool) :
    (s.cellRead p view n hi).1.mems = s.mems := by
  unfold State.cellRead
  split
  · split <;> simp
  · simp

@[simp] theorem State.busRead_mems (s : State) (p addr : Nat) : (s.busRead p addr).1.mems = s.mems := by
  unfold State.busRead
  split
  · split <;> simp
  · simp
  · simp
  · simp
  · simp
  · simp
  · simp

@[simp] theorem State.modeNoted_mems (s : State) (a : Nat) : (s.modeNoted a).mems = s.mems := by
  unfold State.modeNoted
  split <;> simp

@[simp] theorem State.stage_mems (s : State) (x : Staged) : (s.stage x).mems = s.mems := by simp [State.stage]

@[simp] theorem State.wrMask_mems (s : State) (a : Nat) (v : Word) (mask : Nat) :
    (s.wrMask a v mask).mems = s.mems := by simp [State.wrMask]

@[simp] theorem State.forBits_mems {f : State → Nat → State} (h : ∀ t k, (f t k).mems = t.mems) (s : State)
    (n mask : Nat) : (s.forBits n mask f).mems = s.mems := foldl_mems h _ _

@[simp] theorem State.ifBit_mems {f : State → State} (h : ∀ t, (f t).mems = t.mems) (s : State) (v : Word) (k : Nat) :
    (s.ifBit v k f).mems = s.mems := by
  unfold State.ifBit
  split
  · exact h s
  · rfl

@[simp] theorem State.strCmd_mems (s : State) (op : Nat) : (s.strCmd op).mems = s.mems := by
  unfold State.strCmd
  split <;> simp

@[simp] theorem State.actCmd_mems (s : State) (op e : Nat) : (s.actCmd op e).mems = s.mems := by
  unfold State.actCmd
  split <;> simp

@[simp] theorem State.updCmd_mems (s : State) (op : Nat) : (s.updCmd op).mems = s.mems := by
  unfold State.updCmd
  split <;> simp

@[simp] theorem State.forMbs_mems {f : State → Nat → Nat → State} (h : ∀ t n m, (f t n m).mems = t.mems) (s : State)
    (n mask : Nat) : (s.forMbs n mask f).mems = s.mems :=
  (foldl_mems (fun t m => h t n m) _ _).trans (s.mtxClose_mems n)

@[simp] theorem State.pinCmd_mems (s : State) (p op : Nat) : (s.pinCmd p op).mems = s.mems := by
  unfold State.pinCmd
  split <;> simp

/-! ### Operations of a page -/

theorem Gather.word_mems (g : Gather) (p addr : Nat) : (g.word p addr).st.mems = g.st.mems := by
  unfold Gather.word
  split
  · split
    · rfl
    · exact g.st.deny_mems _ _ _
  · exact g.st.busRead_mems _ _

@[simp] theorem State.gather_mems (s : State) (p addr n : Nat) : (s.gather p addr n).st.mems = s.mems := by
  unfold State.gather
  split
  · exact s.viewRead_mems _ _ _
  · exact foldl_keeps (fun g : Gather => g.st.mems) (fun g k => g.word_mems _ _) _ _

@[simp] theorem State.scratchAtomic_mems (s : State) (a : Nat) (k : AtomicKind) (n : Nat) (operand compare : DWord) :
    (s.scratchAtomic a k n operand compare).1.mems = s.mems := by
  unfold State.scratchAtomic
  extract_lets
  split <;> simp

@[simp] theorem State.opAtOnce_mems (s : State) (p path : Nat) (frame : Option (Nat × Nat × BitVec 48))
    (addr : Nat) (data : List Word) (status : Nat) :
    (s.opAtOnce p path frame addr data status).mems = s.mems := by simp [State.opAtOnce]

@[simp] theorem State.opFar_mems (s : State) (p path : Nat) (frame : Option (Nat × Nat × BitVec 48)) (addr : Nat)
    (data : List Word) (status left : Nat) (as : List FarAcc) :
    (s.opFar p path frame addr data status left as).mems = s.mems := by simp [State.opFar]

@[simp] theorem State.opRead_mems (s : State) (p path : Nat) (frame : Option (Nat × Nat × BitVec 48))
    (addr n be : Nat) : (s.opRead p path frame addr n be).mems = s.mems := by
  unfold State.opRead
  dsimp only
  split
  · exact (State.opAtOnce_mems _ _ _ _ _ _ _).trans (s.gather_mems p addr n)
  · exact (State.opFar_mems _ _ _ _ _ _ _ _ _).trans (s.gather_mems p addr n)

@[simp] theorem State.opAtomic_mems (s : State) (p path : Nat) (frame : Option (Nat × Nat × BitVec 48))
    (addr : Nat) (k : AtomicKind) (n : Nat) (operand compare : DWord) :
    (s.opAtomic p path frame addr k n operand compare).mems = s.mems := by
  unfold State.opAtomic
  split <;> simp

@[simp] theorem State.pcieRun_mems (s : State) (h : Withheld) : (s.pcieRun h).mems = s.mems := by
  unfold State.pcieRun
  split <;> simp

@[simp] theorem State.opAdmit_mems (s : State) (n : Nat) : (s.opAdmit n).mems = s.mems := by
  induction n generalizing s with
  | zero => rfl
  | succ n ih =>
    unfold State.opAdmit
    split
    · rfl
    · exact (ih _).trans (State.pcieRun_mems _ _)

@[simp] theorem State.opsSettle_mems (s : State) : s.opsSettle.mems = s.mems :=
  (State.selectAll_mems _).trans (s.opAdmit_mems _)

@[simp] theorem State.frameStatus_mems (s : State) (x : Nat) (f : PageFrame) (status : Nat) :
    (s.frameStatus x f status).mems = s.mems := by rfl

end Sys2Proof.Machine
end

section
/-!
A device that is held in reset has nothing volatile left (R448, R449), whatever step is taken.
-/

namespace Sys2Proof.Machine

/-! ## A reset leaves nothing volatile -/

variable {s t : State}

theorem State.resetClear_cleared (s : State) (por : Bool) : (s.resetClear por).cleared := by
  simp [State.cleared, State.resetClear]

/-- With nothing volatile left, no operation of a page can end. -/
theorem State.cleared.settled (h : s.cleared) : s.settled := by
  obtain ⟨-, -, -, -, -, -, -, -, -, hpages, -, -, -, -, -, -, -, -, -, -, -, -, -, -, -, -, hbridge, -⟩ := h
  exact ⟨by rw [hbridge], fun q => by rw [State.page, hpages]; rfl⟩

/-! ## What acts in reset -/

/-- How a field bank that comes or goes shows: its state, and for one that goes its class and its lines. -/
def State.vioShown (s : State) (n : Nat) : Bool → State
  | true => s.setFld ⟨Reg.GEN_VIO_STATE, n, 1⟩ 1
  | false => ((List.range 48).filter fun b => unitVio (Reg.bankUnit b) == some n).foldl State.bankLow
      { s.setFld ⟨Reg.GEN_VIO_STATE, n, 1⟩ 0 with dev := { s.dev with classes := s.dev.classes.set n 0 } }

/-- The state without its registers and pins. -/
def State.lessPins (s : State) : State := { s with regs := [], dev := {} }

theorem State.vioShown_lessPins (n : Nat) (valid : Bool) : (s.vioShown n valid).lessPins = s.lessPins := by
  cases valid with
  | true => rfl
  | false => exact foldl_keeps State.lessPins (fun _ _ => by rfl) _ _

theorem State.vioShown_dev (n : Nat) (valid : Bool) : (s.vioShown n valid).dev =
    if valid then s.dev else { s.dev with classes := s.dev.classes.set n 0 } := by
  cases valid with
  | true => rfl
  | false => exact foldl_keeps State.dev (fun _ _ => by rfl) _ _

theorem State.vioShown_held (n : Nat) (valid : Bool) : (s.vioShown n valid).dev.held = s.dev.held := by
  rw [vioShown_dev]
  split <;> rfl

theorem State.vioSet_same {n : Nat} {valid : Bool} (h : s.flag ⟨Reg.GEN_VIO_STATE, n, 1⟩ = valid) :
    s.vioSet n valid = s := if_pos h

/-- The change of a field bank is posted out of reset only. -/
theorem State.vioSet_changed {n : Nat} {valid : Bool} (h : s.flag ⟨Reg.GEN_VIO_STATE, n, 1⟩ ≠ valid) :
    s.vioSet n valid = if s.dev.held then s.vioShown n valid
      else (s.vioShown n valid).postEvent 0x0E9 n (if valid then 1 else 0) := by
  rw [← vioShown_held n valid]
  cases valid <;> exact if_neg h

theorem State.logFault_dev (s : State) (code item detail : Nat) : (s.logFault code item detail).dev = s.dev := by
  simp only [State.logFault, State.bump_dev, State.setBytes_dev]

theorem State.postEvent_dev (s : State) (code src : Nat) (data : Word) : (s.postEvent code src data).dev = s.dev := rfl

theorem State.optLoad_dev (s : State) : s.optLoad.dev = s.dev := by
  unfold State.optLoad
  split
  · simp only [apply_ite State.dev, postEvent_dev, logFault_dev, State.setFld_dev, State.setBytes_dev, ite_self]
  · simp only [logFault_dev, State.setFld_dev, State.setBytes_dev]

theorem State.enginesRetired_dev (s : State) : s.enginesRetired.dev = s.dev := by
  unfold State.enginesRetired
  refine foldl_keeps State.dev (fun t e => ?_) _ s
  split
  · rfl
  · split <;> rfl

theorem State.linksRetired_dev (s : State) : s.linksRetired.dev = s.dev :=
  foldl_keeps State.dev (fun _ _ => by rfl) s.hlt.badLinks s

theorem State.updReset_dev (s : State) : s.updReset.dev = s.dev := by
  unfold State.updReset
  dsimp only
  split
  · rfl
  · split <;> rfl

theorem State.replaceAgain_dev (s : State) : s.replaceAgain.dev = s.dev := by
  unfold State.replaceAgain
  dsimp only
  split <;> rfl

/-- The release ends the reset. -/
theorem State.release_dev (h : s.dev.held = true) (hs : s.dev.supplies = 63) :
    s.release.dev = { s.dev with resetN := true, held := false, por := false } := by
  rw [State.release, if_pos ⟨h, hs⟩]
  simp only [replaceAgain_dev, updReset_dev, linksRetired_dev, enginesRetired_dev, State.setFld_dev, logFault_dev,
    optLoad_dev]

/-- Nothing volatile stands in registers or pins. -/
theorem State.cleared_of_lessPins (h : t.lessPins = s.lessPins) (hs : s.cleared) : t.cleared := by
  have ht : t.lessPins.cleared := h ▸ (show s.lessPins.cleared from hs)
  exact ht

theorem State.quietInReset_of_cleared (h : s.cleared) : s.quietInReset := fun _ => h

theorem State.quietInReset_of_awake (h : s.awake) : s.quietInReset :=
  fun hheld => absurd hheld (Bool.eq_false_iff.1 h)

/-- A change of registers and pins that neither starts nor ends a reset. -/
theorem State.quietInReset.pins (hs : s.quietInReset) (hheld : t.dev.held = s.dev.held)
    (h : s.dev.held = true → t.lessPins = s.lessPins) : t.quietInReset := fun ht =>
  State.cleared_of_lessPins (h (hheld ▸ ht)) (hs (hheld ▸ ht))

theorem State.vioSet_held (n : Nat) (valid : Bool) : (s.vioSet n valid).dev.held = s.dev.held := by
  by_cases hf : s.flag ⟨Reg.GEN_VIO_STATE, n, 1⟩ = valid
  · rw [vioSet_same hf]
  · rw [vioSet_changed hf]
    split <;> exact vioShown_held n valid

/-- In reset a field supply changes registers and the latched classes only. -/
theorem State.vioSet_lessPins (h : s.dev.held = true) (n : Nat) (valid : Bool) :
    (s.vioSet n valid).lessPins = s.lessPins := by
  by_cases hf : s.flag ⟨Reg.GEN_VIO_STATE, n, 1⟩ = valid
  · rw [vioSet_same hf]
  · rw [vioSet_changed hf, if_pos h, vioShown_lessPins]

theorem State.vioSet_quiet (hs : s.quietInReset) (n : Nat) (valid : Bool) : (s.vioSet n valid).quietInReset :=
  hs.pins (vioSet_held n valid) fun h => vioSet_lessPins h n valid

theorem State.supplyFalls_quiet (hs : s.quietInReset) (x : Supply) : (s.supplyFalls x).quietInReset := by
  cases x with
  | vioF n => exact vioSet_quiet hs n false
  | _ => exact quietInReset_of_cleared (resetClear_cleared _ true)

theorem State.supplyRises_held (x : Supply) : (s.supplyRises x).dev.held = s.dev.held := by
  cases x with
  | vioF n => exact vioSet_held n true
  | _ => rfl

theorem State.supplyRises_lessPins (h : s.dev.held = true) (x : Supply) : (s.supplyRises x).lessPins = s.lessPins := by
  cases x with
  | vioF n => exact vioSet_lessPins h n true
  | _ => rfl

theorem State.resetFall_quiet (hs : s.quietInReset) (lowNs : Nat) : (s.resetFall lowNs).quietInReset := by
  unfold resetFall
  split
  · exact hs
  · split
    · exact quietInReset_of_cleared (resetClear_cleared _ false)
    · exact hs

theorem State.classLatch_held (n : Nat) (c : BufClass) : (s.classLatch n c).dev.held = s.dev.held := by
  unfold classLatch
  split <;> rfl

theorem State.perst_held (h : s.dev.held = true) (n : Nat) (low : Bool) :
    s.perst n low = { s with dev := { s.dev with perst := setBit s.dev.perst n low } } := by
  simp [perst, h]

/-! ## Every command keeps a device in reset cleared -/

/-- A command that is ignored in reset leaves a held device as it is, and holds no device. -/
theorem live_quiet {f : State → State} (hs : s.quietInReset) (ht : live s f = .next t) : t.quietInReset := by
  cases h : s.dev.held with
  | true =>
    rw [live_held s f h] at ht
    cases ht
    exact hs
  | false =>
    rw [live_next s f h] at ht
    cases ht
    exact State.quietInReset_of_awake rfl

theorem always_quiet {f : State → State} (hf : (f s).quietInReset) (ht : always s f = .next t) : t.quietInReset := by
  cases ht
  exact hf

/-- What a change of registers and pins is said to take over stays as it was. -/
theorem State.lessPins_takeOver (h : t.lessPins = s.lessPins) :
    { s with regs := t.regs, eqs := t.eqs, out := t.out, dev := t.dev }.lessPins = s.lessPins :=
  congrArg (fun u : State => { s.lessPins with eqs := u.eqs, out := u.out }) h

theorem release_quiet (hs : s.quietInReset) (ht : exec .resetRelease s = .next t) : t.quietInReset := by
  by_cases h : s.dev.held = true ∧ s.dev.supplies = 63
  · obtain ⟨hreset, hpower⟩ := h
    have hawake : s.release.awake := congrArg DevState.held (State.release_dev hreset hpower)
    cases ht
    exact State.quietInReset_of_awake hawake
  · have hrel : s.release = s := if_neg h
    change execResetRelease s = _ at ht
    simp only [execResetRelease, always, hrel] at ht
    cases ht
    exact hs

theorem supplyValid_quiet {x : Supply} (hs : s.quietInReset) (ht : exec (.supplyValid x) s = .next t) :
    t.quietInReset := by
  cases ht
  exact hs.pins (State.supplyRises_held x) fun h => State.lessPins_takeOver (State.supplyRises_lessPins h x)

theorem vioChange_quiet {n : Fin 16} {valid : Bool} (hs : s.quietInReset)
    (ht : exec (.vioChange n valid) s = .next t) : t.quietInReset := by
  cases ht
  exact hs.pins (State.vioSet_held n valid) fun h => State.lessPins_takeOver (State.vioSet_lessPins h n valid)

theorem classLatch_quiet {n : Fin 16} {c : BufClass} (hs : s.quietInReset)
    (ht : exec (.classLatch n c) s = .next t) : t.quietInReset := by
  cases ht
  exact hs.pins (State.classLatch_held n c) fun _ => rfl

theorem perst_quiet {n : Fin 2} {low : Bool} (hs : s.quietInReset) (ht : exec (.perst n low) s = .next t) :
    t.quietInReset := by
  cases h : s.dev.held with
  | true =>
    have hsettled : (s.perst n low).settled := by
      rw [State.perst_held h]
      exact (hs h).settled
    have hop : (s.perst n low).opsSettle = { s with dev := { s.dev with perst := setBit s.dev.perst n low } } := by
      rw [State.opsSettle_settled hsettled, State.perst_held h]
    change execPerst n low s = _ at ht
    simp only [execPerst, always, hop] at ht
    cases ht
    exact hs
  | false =>
    have hmems : (s.perst n low).opsSettle.mems = s.mems := by simp
    have hheld := State.held_of_mems hmems
    change execPerst n low s = _ at ht
    rw [execPerst, always, Host.Outcome.next.injEq] at ht
    have hdev : (s.perst n low).opsSettle.dev = t.dev := by rw [← ht]
    exact State.quietInReset_of_awake ((congrArg DevState.held hdev).symm.trans (hheld.trans h))

theorem exec_quiet {c : Instr} (hs : s.quietInReset) (ht : exec c s = .next t) : t.quietInReset := by
  cases h : actsInReset c with
  | false =>
    obtain ⟨f, hf⟩ := exec_isLive h
    exact live_quiet hs (hf s ▸ ht)
  | true =>
    cases c with
    | powerOn x => exact always_quiet (f := fun s => s.supplyFalls x) (State.supplyFalls_quiet hs x) ht
    | resetNFall lowNs => exact always_quiet (f := fun s => s.resetFall lowNs) (State.resetFall_quiet hs lowNs) ht
    | resetRelease => exact release_quiet hs ht
    | supplyValid x => exact supplyValid_quiet hs ht
    | vioChange n valid => exact vioChange_quiet hs ht
    | classLatch n c => exact classLatch_quiet hs ht
    | perst n low => exact perst_quiet hs ht
    | _ => exact absurd h Bool.false_ne_true

theorem tickClock_quiet (hs : s.quietInReset) : s.tickClock.quietInReset := by
  cases h : s.dev.held with
  | true => rw [State.tickClock, if_pos h]; exact hs
  | false => rw [State.tickClock, if_neg (by simp [h])]; exact State.quietInReset_of_awake h

end Sys2Proof.Machine

open Sys2Proof.Machine in
/-- Settles O6: of the commands, those that act in reset either clear the device, or release it, or change no more than
registers and pins; the clock stands in reset. -/
theorem everyStepKeepsResetClear : Obligations.EveryStepKeepsResetClear := by
  intro s t hs ht
  cases hq : s.pending with
  | nil =>
    rw [step, hq] at ht
    cases ht
    exact tickClock_quiet hs
  | cons c rest =>
    rw [step, hq] at ht
    exact exec_quiet (s := { s with pending := rest }) hs ht

end

section
/-!
Every step keeps the byte memories and the flash in their canonical form: what stores keeps it, and all else leaves them
alone.
-/

namespace Sys2Proof.Machine

/-! ## Tables with entries removed -/

theorem Tbl.startsAbove_iff_of_wf {α : Type} [DecidableEq α] {d : Nat → α} {t : Tbl α} (k : Nat)
    (h : Tbl.wf d t = true) :
    Tbl.startsAbove k t = true ↔ ∀ x ∈ t, k < x.1 := by
  induction t generalizing k with
  | nil => simp [Tbl.startsAbove]
  | cons x t ih =>
    simp only [Tbl.wf, Bool.and_eq_true] at h
    obtain ⟨⟨-, habove⟩, ht⟩ := h
    have hrest := (ih x.1 ht).1 habove
    simp only [Tbl.startsAbove, decide_eq_true_eq, List.forall_mem_cons]
    exact ⟨fun hk => ⟨hk, fun y hy => hk.trans (hrest y hy)⟩, fun hk => hk.1⟩

/-- A table from which entries are removed stays canonical. -/
theorem Tbl.wf_filter {α : Type} [DecidableEq α] {d : Nat → α} {t : Tbl α} (p : Nat × α → Bool)
    (h : Tbl.wf d t = true) : Tbl.wf d (t.filter p) = true := by
  induction t with
  | nil => rfl
  | cons x t ih =>
    have hx := h
    simp only [Tbl.wf, Bool.and_eq_true] at hx
    obtain ⟨⟨hv, habove⟩, ht⟩ := hx
    rw [List.filter_cons]
    split
    · simp only [Tbl.wf, Bool.and_eq_true]
      refine ⟨⟨hv, (Tbl.startsAbove_iff_of_wf _ (ih ht)).2 fun y hy => ?_⟩, ih ht⟩
      exact (Tbl.startsAbove_iff_of_wf _ ht).1 habove y (List.mem_of_mem_filter hy)
    · exact ih ht

/-! ## The canonical form of the byte memories and of flash -/

/-- Both the byte memories and the flash have the canonical form. -/
def Canonical (m : Tbl Byte × Tbl Byte × Bool) : Prop :=
  Tbl.wf memDefault m.1 = true ∧ Tbl.wf flashDefault m.2.1 = true

theorem Memory.wf_iff_canonical {s : State} : Memory.wf s = true ↔ Canonical s.mems := Memory.wf_iff s

@[simp] theorem canonical_ite (c : Prop) [Decidable c] (m k : Tbl Byte × Tbl Byte × Bool) :
    Canonical (if c then m else k) ↔ if c then Canonical m else Canonical k := by split <;> rfl

variable {s : State}

/-- What every step of a fold keeps canonical, the fold keeps canonical. -/
theorem foldl_canonical {α : Type} {f : State → α → State}
    (hf : ∀ t x, Canonical t.mems → Canonical (f t x).mems) (l : List α) (h : Canonical s.mems) :
    Canonical (l.foldl f s).mems := by
  induction l generalizing s with
  | nil => exact h
  | cons x l ih => exact ih (hf s x h)

/-! ## What stores -/

@[simp] theorem State.canonical_setByte (a : Nat) (b : Byte) (h : Canonical s.mems) : Canonical (s.setByte a b).mems :=
  ⟨Tbl.wf_set _ _ _ h.1, h.2⟩

@[simp] theorem State.canonical_setBytes (a : Nat) (bs : List Byte) (h : Canonical s.mems) :
    Canonical (s.setBytes a bs).mems := ⟨Tbl.wf_setList _ _ _ h.1, h.2⟩

@[simp] theorem State.canonical_setMemWord (a : Nat) (v : Word) (h : Canonical s.mems) :
    Canonical (s.setMemWord a v).mems := canonical_setBytes _ _ h

@[simp] theorem State.canonical_setFlash (a : Nat) (bs : List Byte) (h : Canonical s.mems) :
    Canonical (s.setFlash a bs).mems := ⟨h.1, Tbl.wf_setList _ _ _ h.2⟩

/-- An engine's own area takes the words of its recipes, and so does the shadow of it at its buddy. -/
@[simp] theorem State.canonical_loadOwn (e : Nat) (h : Canonical s.mems) : Canonical (s.loadOwn e).mems := by
  unfold State.loadOwn
  extract_lets base shadow clear t
  have ht : Canonical t.mems := ⟨Tbl.wf_filter _ (Tbl.wf_filter _ h.1), h.2⟩
  clear_value base shadow t
  exact foldl_canonical (fun u kv hu => iteInduction (motive := fun v : State => Canonical v.mems)
    (fun _ => canonical_setMemWord _ _ (canonical_setMemWord _ _ hu)) fun _ => hu) _ ht

@[simp] theorem State.canonical_copyBack (e : Nat) (h : Canonical s.mems) : Canonical (s.copyBack e).mems := by
  have hfold : ∀ (l : Tbl Byte) (m : Tbl Byte) (k : Nat × Byte → Nat), Tbl.wf memDefault m = true →
      Tbl.wf memDefault (l.foldl (fun m kv => Tbl.set memDefault m (k kv) kv.2) m) = true := by
    intro l m k hm
    induction l generalizing m with
    | nil => exact hm
    | cons x l ih => exact ih _ (Tbl.wf_set _ _ _ hm)
  exact ⟨hfold _ _ _ (Tbl.wf_filter _ h.1), h.2⟩

@[simp] theorem State.canonical_eraseBank (bank : Nat) (h : Canonical s.mems) : Canonical (s.eraseBank bank).mems :=
  ⟨h.1, Tbl.wf_filter _ h.2⟩

theorem State.keptMem_wf (por : Bool) (h : Canonical s.mems) : Tbl.wf memDefault (s.keptMem por) = true := by
  unfold State.keptMem
  split
  · rfl
  · exact Tbl.wf_filter _ h.1

@[simp] theorem State.canonical_resetClear (por : Bool) (h : Canonical s.mems) : Canonical (s.resetClear por).mems := by
  simp only [State.resetClear, State.mems_mk]
  exact ⟨keptMem_wf _ h, h.2⟩

/-! ## Commands by mask -/

@[simp] theorem State.canonical_ifBit {f : State → State} (hf : ∀ t, Canonical t.mems → Canonical (f t).mems) (v : Word)
    (k : Nat) (h : Canonical s.mems) : Canonical (s.ifBit v k f).mems := by
  unfold State.ifBit
  split
  · exact hf s h
  · exact h

@[simp] theorem State.canonical_forBits {f : State → Nat → State}
    (hf : ∀ t k, Canonical t.mems → Canonical (f t k).mems) (n mask : Nat) (h : Canonical s.mems) :
    Canonical (s.forBits n mask f).mems := foldl_canonical hf _ h

/-! ### The structure -/

@[simp] theorem State.canonical_switchOwn (e : Nat) (h : Canonical s.mems) :
    Canonical (s.switchOwn e).mems := by simp [State.switchOwn, h]

@[simp] theorem State.canonical_ownSettle (e : Nat) (h : Canonical s.mems) :
    Canonical (s.ownSettle e).mems := by simp [State.ownSettle, h]

@[simp] theorem State.canonical_tableSwitch (h : Canonical s.mems) : Canonical s.tableSwitch.mems := by
  unfold State.tableSwitch
  extract_lets part xs gen old t1 src t2 t3 t4 t5 t6 t7 t8 t9 t10 t11 t12
  have h1 : Canonical t1.mems := by
    unfold t1
    split <;> simp [h]
  have h2 : Canonical t2.mems := h1
  have h8 : Canonical t8.mems := by
    simp only [t8, t7, t6, t5, t4, t3, State.actsSwitch_mems, State.routesStart_mems, State.mapSwitch_mems,
      State.mems_ite, State.wr_mems, State.tick_mems, ite_self]
    exact h2
  clear_value t8
  have h9 : Canonical t9.mems := foldl_canonical (fun u e hu => u.canonical_switchOwn e hu) _ h8
  simp only [t12, t11, t10, State.dropShadow_mems, State.postEvent_mems, State.mems_ite, State.persStart_mems,
    State.afterRegs_mems, State.pendSwitch_mems, ite_self]
  exact h9

@[simp] theorem State.canonical_imageApplied (h : Canonical s.mems) :
    Canonical s.imageApplied.mems := by simp [State.imageApplied, h]

@[simp] theorem State.canonical_fullReload (h : Canonical s.mems) :
    Canonical s.fullReload.mems := by simp [State.fullReload, h]

@[simp] theorem State.canonical_strSwitch (h : Canonical s.mems) :
    Canonical s.strSwitch.mems := by simp [State.strSwitch, h]

/-! ### Commits and pins -/

@[simp] theorem State.canonical_engineReturn (e : Nat) (h : Canonical s.mems) :
    Canonical (s.engineReturn e).mems := by simp [State.engineReturn, h]

@[simp] theorem State.canonical_switchAt (l : Nat) (h : Canonical s.mems) : Canonical (s.switchAt l).mems := by
  have hset : { s with tb := { s.tb with local16 := l } }.mems = s.mems := rfl
  exact canonical_strSwitch (hset ▸ h)

@[simp] theorem State.canonical_epochStep (d : Int) (l : Nat) (h : Canonical s.mems) :
    Canonical (s.epochStep d l).mems := by
  unfold State.epochStep
  dsimp only
  split <;> simp [h]

@[simp] theorem State.canonical_afterCommit (l : Nat) (h : Canonical s.mems) : Canonical (s.afterCommit l).mems := by
  have hreturn : ∀ t : State, Canonical t.mems → Canonical ((List.range 8).foldl State.engineReturn t).mems :=
    fun t ht => foldl_canonical (fun u e hu => u.canonical_engineReturn e hu) _ ht
  have hevents : ∀ (t : State) (l : List Nat) (g : Gen) (e : Word),
      (l.foldl (fun t r => t.eventEntryAt g e r) t).mems = t.mems :=
    fun t l g e => foldl_mems (fun u r => u.eventEntryAt_mems g e r) l t
  have hpins : ∀ (t : State) (l : List Nat), (l.foldl State.pinExpire t).mems = t.mems :=
    fun t l => foldl_mems (fun u p => u.pinExpire_mems p) l t
  simp only [State.afterCommit, State.mems_mk, State.mems_eta, hpins, State.onCommitRecipes_mems]
  refine hreturn _ ?_
  rw [State.onHostPacks_mems, hevents, State.postEvent_mems]
  exact h

@[simp] theorem State.canonical_epochCommit (h : Canonical s.mems) : Canonical s.epochCommit.mems := by
  unfold State.epochCommit
  split <;> simp [h]

/-! ### The option store -/

@[simp] theorem State.canonical_optRead (k : Nat) (h : Canonical s.mems) :
    Canonical (s.optRead k).mems := by simp [State.optRead, h]

@[simp] theorem State.canonical_logFault (code item detail : Nat) (h : Canonical s.mems) :
    Canonical (s.logFault code item detail).mems := by simp [State.logFault, h]

@[simp] theorem State.canonical_optLoad (h : Canonical s.mems) : Canonical s.optLoad.mems := by
  have hbad : ∀ (t : State) (k : Nat), Canonical t.mems → Canonical
      (((t.setFld ⟨Reg.HLT_RESET_CAUSE, 3 + k, 1⟩ 1).logFault 0x0A (0x60000 + k) 0).postEvent 0x0E7 k 0).mems :=
    fun t k ht => by simp [ht]
  have hloaded : ∀ a bs f v, Canonical ((s.setBytes a bs).setFld f v).mems := fun a bs f v => by simp [h]
  unfold State.optLoad
  split
  · exact iteInduction (motive := fun u : State => Canonical u.mems) (fun _ => hloaded _ _ _ _)
      fun _ => hbad _ _ (hloaded _ _ _ _)
  · refine canonical_logFault _ _ _ ?_
    rw [State.setFld_mems, State.setFld_mems]
    generalize List.replicate 1024 (0 : Byte) = bs
    exact hloaded _ _ _ _

/-! ### Signal engines -/

@[simp] theorem State.canonical_scratchStores (e : Nat) (bs : List (Nat × Byte)) (h : Canonical s.mems) :
    Canonical (s.scratchStores e bs).mems := foldl_canonical (fun _ _ ht => canonical_setByte _ _ ht) _ h

@[simp] theorem State.canonical_ownStores (home : Nat) (own : List (Fin 114688 × Byte)) (h : Canonical s.mems) :
    Canonical (s.ownStores home own).mems := by
  refine foldl_canonical (fun t x ht => ?_) _ h
  dsimp only
  split <;> simp [ht]

@[simp] theorem State.canonical_recipeReturn (e : Nat) (i : Invoc) (res : RecipeRes) (h : Canonical s.mems) :
    Canonical (s.recipeReturn e i res).mems := by simp [State.recipeReturn, h]

@[simp] theorem State.canonical_ownsSettle (h : Canonical s.mems) : Canonical s.ownsSettle.mems :=
  foldl_canonical (fun _ e ht => State.canonical_ownSettle e ht) _ h

@[simp] theorem State.canonical_recipeOverrun (e : Nat) (h : Canonical s.mems) :
    Canonical (s.recipeOverrun e).mems := by
  unfold State.recipeOverrun
  split <;> simp [h]

@[simp] theorem State.canonical_recipeRun (e : Nat) (code : List SeInstr) (h : Canonical s.mems) :
    Canonical (s.recipeRun e code).mems := by
  unfold State.recipeRun
  split
  · simp [h]
  · split
    · split <;> simp [h]
    · simp [h]

@[simp] theorem State.canonical_dropQueue (e : Nat) (h : Canonical s.mems) :
    Canonical (s.dropQueue e).mems := by simp [State.dropQueue, h]

@[simp] theorem State.canonical_takeover (e r : Nat) (h : Canonical s.mems) :
    Canonical (s.takeover e r).mems := by simp [State.takeover, h]

@[simp] theorem State.canonical_forceTakeover (e : Nat) (h : Canonical s.mems) :
    Canonical (s.forceTakeover e).mems := by simp [State.forceTakeover, h]

/-! ### The health monitor -/

@[simp] theorem State.canonical_replaceEnter (h : Canonical s.mems) :
    Canonical s.replaceEnter.mems := by simp [State.replaceEnter, h]

@[simp] theorem State.canonical_replaceCheck (h : Canonical s.mems) :
    Canonical s.replaceCheck.mems := by simp [State.replaceCheck, h]

@[simp] theorem State.canonical_replaceAgain (h : Canonical s.mems) :
    Canonical s.replaceAgain.mems := by simp [State.replaceAgain, h]

@[simp] theorem State.canonical_unitError (u : Nat) (h : Canonical s.mems) : Canonical (s.unitError u).mems := by
  unfold State.unitError
  split
  · simp [h]
  · split
    · simp [h]
    · split
      · simp [h]
      · split <;> simp [h]

@[simp] theorem State.canonical_spareError (n : Nat) (h : Canonical s.mems) :
    Canonical (s.spareError n).mems := by simp [State.spareError, h]

@[simp] theorem State.canonical_laneError (l : Nat) (h : Canonical s.mems) :
    Canonical (s.laneError l).mems := by simp [State.laneError, h]

@[simp] theorem State.canonical_lockstep (e : Nat) (h : Canonical s.mems) :
    Canonical (s.lockstep e).mems := by simp [State.lockstep, h]

@[simp] theorem State.canonical_lasting (item code : Nat) (h : Canonical s.mems) :
    Canonical (s.lasting item code).mems := by simp [State.lasting, h]

@[simp] theorem State.canonical_selftestDone (item : Nat) (pass : Bool) (h : Canonical s.mems) :
    Canonical (s.selftestDone item pass).mems := by
  unfold State.selftestDone
  split <;> simp [h]

/-! ### Mortar links -/

@[simp] theorem State.canonical_linkDown (l : Nat) (h : Canonical s.mems) : Canonical (s.linkDown l).mems := by
  unfold State.linkDown
  extract_lets t src t2 t3
  have ht2 : t2.mems = s.mems := rfl
  have ht3 : Canonical t3.mems := by
    simp only [t3, State.holdMessages_mems, State.retrainMark_mems]
    exact canonical_logFault _ _ _ (ht2 ▸ h)
  clear_value t3
  split
  · split
    · exact canonical_replaceCheck (by simp [ht3])
    · exact ht3
  · exact h

/-! ### Field updates -/

@[simp] theorem State.canonical_pieceStored (h : Canonical s.mems) : Canonical s.pieceStored.mems := by
  have hflash : ∀ a bs d, Canonical { s.setFlash a bs with upd := d }.mems := fun a bs _ => canonical_setFlash a bs h
  unfold State.pieceStored
  split
  · exact h
  · split
    · exact h
    · extract_lets t stored src t2 t3
      have ht : Canonical t3.mems := by
        simp only [t3, State.setFld_mems, State.updResult_mems]
        exact hflash _ _ _
      clear_value t3
      split <;> simp [ht]

@[simp] theorem State.canonical_bundleVerified (fwHash imgHash imgSig fwOk : Bool) (fwRollback : Nat) (optOk : Bool)
    (h : Canonical s.mems) :
    Canonical (s.bundleVerified fwHash imgHash imgSig fwOk fwRollback optOk).mems := by simp [State.bundleVerified, h]

@[simp] theorem State.canonical_stagingDone (ok : Bool) (h : Canonical s.mems) :
    Canonical (s.stagingDone ok).mems := by simp [State.stagingDone, h]

@[simp] theorem State.canonical_handover (t16 : Nat) (h : Canonical s.mems) :
    Canonical (s.handover t16).mems := by simp [State.handover, h]

@[simp] theorem State.canonical_updRelease (param t16 : Nat) (h : Canonical s.mems) :
    Canonical (s.updRelease param t16).mems := by simp [State.updRelease, h]

/-! ### Releases -/

@[simp] theorem State.canonical_coreActs (ws : List Word) (t16 : Nat) (late : Bool) (h : Canonical s.mems) :
    Canonical (s.coreActs ws t16 late).mems := by
  unfold State.coreActs
  split <;> simp [h]

@[simp] theorem State.canonical_releaseActs (e : Nat) (g : Sealed) (h : Canonical s.mems) :
    Canonical (s.releaseActs e g).mems := by simp [State.releaseActs, h]

@[simp] theorem State.canonical_ghostRelease (e : Nat) (g : Sealed) (h : Canonical s.mems) :
    Canonical (s.ghostRelease e g).mems := by simp [State.ghostRelease, h]

@[simp] theorem State.canonical_armedRelease (e : Nat) (h : Canonical s.mems) :
    Canonical (s.armedRelease e).mems := by
  unfold State.armedRelease
  extract_lets
  split <;> simp [h]

@[simp] theorem State.canonical_actionRelease (e : Nat) (h : Canonical s.mems) :
    Canonical (s.actionRelease e).mems := by
  unfold State.actionRelease
  split <;> simp [h]

@[simp] theorem State.canonical_courseBoundary (n : Nat) (counts : List Nat) (h : Canonical s.mems) :
    Canonical (s.courseBoundary n counts).mems := by simp [State.courseBoundary, h]

@[simp] theorem State.canonical_crossings (n : Nat) (h : Canonical s.mems) :
    Canonical (s.crossings n).mems := by simp [State.crossings, h]

@[simp] theorem State.canonical_ptEventCross (n : Nat) (ev : RefEvent) (ageNs : Nat) (h : Canonical s.mems) :
    Canonical (s.ptEventCross n ev ageNs).mems := by simp [State.ptEventCross, h]

@[simp] theorem State.canonical_ptHwReset (n : Nat) (h : Canonical s.mems) :
    Canonical (s.ptHwReset n).mems := by simp [State.ptHwReset, h]

@[simp] theorem State.canonical_synPointCross (n : Nat) (h : Canonical s.mems) :
    Canonical (s.synPointCross n).mems := by simp [State.synPointCross, h]

/-! ### The bridge -/

@[simp] theorem State.canonical_inboundServe (write : Bool) (w be : Nat) (data : Word) (h : Canonical s.mems) :
    Canonical (s.inboundServe write w be data).mems := by simp [State.inboundServe, h]

@[simp] theorem State.canonical_inbound (write : Bool) (w be : Nat) (data : Word) (h : Canonical s.mems) :
    Canonical (s.inbound write w be data).mems := by
  unfold State.inbound
  split
  · split <;> simp [h]
  · simp [h]

/-! ### Resets -/

@[simp] theorem State.canonical_supplyFalls (x : Supply) (h : Canonical s.mems) :
    Canonical (s.supplyFalls x).mems := by
  unfold State.supplyFalls
  split
  · simp [h]
  · split <;> simp [h]

@[simp] theorem State.canonical_resetFall (lowNs : Nat) (h : Canonical s.mems) :
    Canonical (s.resetFall lowNs).mems := by simp [State.resetFall, h]

@[simp] theorem State.canonical_release (h : Canonical s.mems) : Canonical s.release.mems := by
  unfold State.release
  extract_lets por boots src t t2 t3 t4 t5 t6
  split
  · have ht3 : Canonical t3.mems := by
      simp only [t3, t2, State.setFld_mems]
      exact h
    have ht6 : Canonical t6.mems := by
      rw [State.setFld_mems]
      exact canonical_logFault _ _ _ (canonical_optLoad ht3)
    clear_value t6
    exact canonical_replaceAgain (by simp [ht6])
  · exact h

@[simp] theorem State.canonical_unitCheck (x0 : Item) (h : Canonical s.mems) : Canonical (s.unitCheck x0).mems := by
  unfold State.unitCheck
  split <;> simp [h]

@[simp] theorem State.canonical_bankLasting (bank code : Nat) (h : Canonical s.mems) :
    Canonical (s.bankLasting bank code).mems := by simp [State.bankLasting, h]

@[simp] theorem State.canonical_bankError (bank row code : Nat) (h : Canonical s.mems) :
    Canonical (s.bankError bank row code).mems := by simp [State.bankError, h]

@[simp] theorem State.canonical_ueEffect (bank : Nat) (x0 : MemKind) (h : Canonical s.mems) :
    Canonical (s.ueEffect bank x0).mems := by
  unfold State.ueEffect
  split
  · simp [h]
  · split <;> simp [h]
  · split <;> simp [h]
  · simp [h]
  · simp [h]
  · simp [h]
  · simp [h]
  · simp [h]
  · simp [h]
  · simp [h]
  · simp [h]
  · simp [h]
  · simp [h]
  · simp [h]

@[simp] theorem State.canonical_memUe (bank row : Nat) (kind : MemKind) (h : Canonical s.mems) :
    Canonical (s.memUe bank row kind).mems := by simp [State.memUe, h]

@[simp] theorem State.canonical_patrol (bank row : Nat) (kind : MemKind) (res : PatrolResult) (sweepEnds : Bool)
    (h : Canonical s.mems) :
    Canonical (s.patrol bank row kind res sweepEnds).mems := by
  unfold State.patrol
  split <;> simp [h]

/-! ### Writes of registers -/

@[simp] theorem State.canonical_plainWrite (a : Nat) (v : Word) (h : Canonical s.mems) :
    Canonical (s.plainWrite a v).mems := by
  unfold State.plainWrite
  split <;> simp [h]

@[simp] theorem State.canonical_writeStr (a : Nat) (v : Word) (h : Canonical s.mems) :
    Canonical (s.writeStr a v).mems := by simp [State.writeStr, h]

@[simp] theorem State.canonical_writePhs (a : Nat) (v : Word) (h : Canonical s.mems) :
    Canonical (s.writePhs a v).mems := by
  have hplain := fun b w => s.canonical_plainWrite b w h
  unfold State.writePhs
  split
  · exact canonical_forBits (fun t k ht => t.canonical_ptHwReset k ht) _ _
      ((State.forBits_mems (fun t k => t.ptForce_mems k) s _ _).symm ▸ h)
  · split
    · exact hplain _ _
    · extract_lets n bad t
      have ht : Canonical t.mems := by
        unfold t
        split <;> simp [h]
      split
      · split <;> simp [h]
      · split
        · split <;> simp [ht]
        · exact hplain _ _

@[simp] theorem State.canonical_writeTmb (a : Nat) (v : Word) (h : Canonical s.mems) :
    Canonical (s.writeTmb a v).mems := by simp [State.writeTmb, h]

@[simp] theorem State.canonical_writeSwc (a : Nat) (v : Word) (h : Canonical s.mems) :
    Canonical (s.writeSwc a v).mems := by simp [State.writeSwc, h]

@[simp] theorem State.canonical_writeCph (a : Nat) (v : Word) (h : Canonical s.mems) :
    Canonical (s.writeCph a v).mems := by
  unfold State.writeCph
  split
  · split <;> simp [h]
  · simp [h]

@[simp] theorem State.canonical_writeUpd (a : Nat) (v : Word) (h : Canonical s.mems) :
    Canonical (s.writeUpd a v).mems := by simp [State.writeUpd, h]

@[simp] theorem State.canonical_hltCmd (op item : Nat) (h : Canonical s.mems) :
    Canonical (s.hltCmd op item).mems := by
  unfold State.hltCmd
  split <;> simp [h]

@[simp] theorem State.canonical_writeDev (a : Nat) (v : Word) (h : Canonical s.mems) :
    Canonical (s.writeDev a v).mems := by
  unfold State.writeDev
  split <;> simp [h]

@[simp] theorem State.canonical_writeCan (n a : Nat) (v : Word) (h : Canonical s.mems) :
    Canonical (s.writeCan n a v).mems := by
  unfold State.writeCan
  split
  · simp [h]
  · simp [h]
  · simp [h]
  · simp [h]
  · simp [h]
  · simp [h]
  · simp [h]
  · split <;> simp [h]
  · simp [h]
  · simp [h]

@[simp] theorem State.canonical_writeLane (n a : Nat) (v : Word) (h : Canonical s.mems) :
    Canonical (s.writeLane n a v).mems := by
  unfold State.writeLane
  split <;> simp [h]

@[simp] theorem State.canonical_writeBank (b a : Nat) (v : Word) (h : Canonical s.mems) :
    Canonical (s.writeBank b a v).mems := by simp [State.writeBank, h]

/-- A write of a unit's register, by what the unit is. -/
def State.writeKind (s : State) (a : Nat) (v : Word) : UnitKind → State
  | .can n => s.writeCan n a v
  | .lane n => s.writeLane n a v
  | .bank b => s.writeBank b a v
  | .mac _ => s.plainWrite a v

theorem State.writeUnit_eq_writeKind (s : State) (a : Nat) (v : Word) :
    s.writeUnit a v = s.writeKind a v (unitKind ((a - 0x200000) / 0x2000)) := rfl

@[simp] theorem State.canonical_writeUnit (a : Nat) (v : Word) (h : Canonical s.mems) :
    Canonical (s.writeUnit a v).mems := by
  rw [State.writeUnit_eq_writeKind]
  cases unitKind ((a - 0x200000) / 0x2000) with
  | can n => exact canonical_writeCan _ _ _ h
  | lane n => exact canonical_writeLane _ _ _ h
  | bank b => exact canonical_writeBank _ _ _ h
  | mac _ => exact canonical_plainWrite _ _ h

@[simp] theorem State.canonical_groupReg (p a : Nat) (v : Word) (h : Canonical s.mems) :
    Canonical (s.groupReg p a v).mems := by simp [State.groupReg, h]

@[simp] theorem State.canonical_writeEq (p q a : Nat) (v : Word) (h : Canonical s.mems) :
    Canonical (s.writeEq p q a v).mems := by simp [State.writeEq, h]

@[simp] theorem State.canonical_writePage (p a : Nat) (v : Word) (h : Canonical s.mems) :
    Canonical (s.writePage p a v).mems := by simp [State.writePage, h]

@[simp] theorem State.canonical_writeSec (a : Nat) (v : Word) (h : Canonical s.mems) :
    Canonical (s.writeSec a v).mems := by
  unfold State.writeSec
  extract_lets e
  split
  · rw [State.ifBit_mems fun t => t.secHandBack_mems e]
    exact canonical_ifBit (fun t ht => t.canonical_forceTakeover e ht) _ _ h
  · exact canonical_plainWrite _ _ h

@[simp] theorem State.canonical_regWrite (a : Nat) (v : Word) (h : Canonical s.mems) :
    Canonical (s.regWrite a v).mems := by simp [State.regWrite, h]

@[simp] theorem State.canonical_busWrite (p addr : Nat) (v : Word) (h : Canonical s.mems) :
    Canonical (s.busWrite p addr v).1.mems := by
  unfold State.busWrite
  split
  · split <;> simp [h]
  · simp [h]
  · split <;> simp [h]
  · simp [h]
  · simp [h]
  · simp [h]
  · simp [h]

/-! ### Operations of a page -/

@[simp] theorem State.canonical_putWord (p addr : Nat) (be : Nat) (v : Word) (h : Canonical s.mems) :
    Canonical (s.putWord p addr be v).1.mems := by
  unfold State.putWord
  split
  · split <;> simp [h]
  · simp [h]

@[simp] theorem State.canonical_hostWrite (p addr be : Nat) (v : Word) (h : Canonical s.mems) :
    Canonical (s.hostWrite p addr be v).mems := by simp [State.hostWrite, h]

@[simp] theorem State.canonical_frameWrite (f : PageFrame) (h : Canonical s.mems) :
    Canonical (s.frameWrite f).1.mems := by
  have hword : ∀ (l : List Nat) (sb : State × Bool), Canonical sb.1.mems →
      Canonical (l.foldl (fun sb k =>
        let r := sb.1.putWord f.page (f.addr.toNat + 4 * k) 15 (pfWord f k)
        (r.1, sb.2 && r.2)) sb).1.mems := by
    intro l
    induction l with
    | nil => exact fun _ hsb => hsb
    | cons k l ih => exact fun sb hsb => ih _ (canonical_putWord _ _ _ _ hsb)
  exact hword _ (s, true) h

@[simp] theorem State.canonical_frameRun (x : Nat) (f : PageFrame) (h : Canonical s.mems) :
    Canonical (s.frameRun x f).mems := by
  unfold State.frameRun
  split <;> simp [h]

@[simp] theorem State.canonical_pageFrame (op x : Nat) (f : PageFrame) (h : Canonical s.mems) :
    Canonical (s.pageFrame op x f).mems := by simp [State.pageFrame, h]

end Sys2Proof.Machine
end

section
/-!
Which commands change bytes of memory and of flash, and that each step keeps both canonical.
-/

namespace Sys2Proof.Machine

variable {s t : State}

/-! ## Commands that may not store -/

theorem live_bytes {f : State → State} (hmem : (f s).mem = s.mem) (hflash : (f s).flash = s.flash)
    (ht : live s f = .next t) : t.mem = s.mem ∧ t.flash = s.flash := by
  rw [live, Host.Outcome.next.injEq] at ht
  subst ht
  split
  · exact ⟨rfl, rfl⟩
  · exact ⟨hmem, hflash⟩

theorem always_bytes {f : State → State} (hmem : (f s).mem = s.mem) (hflash : (f s).flash = s.flash)
    (ht : always s f = .next t) : t.mem = s.mem ∧ t.flash = s.flash := by
  rw [always, Host.Outcome.next.injEq] at ht
  exact ht ▸ ⟨hmem, hflash⟩

/-- A command that may not store takes over neither memory nor flash of what its operation makes. -/
theorem exec_takesNoBytes {c : Instr} (h : storesBytes c = false) : ∃ f : State → State,
    (∀ s, exec c s = live s f ∨ exec c s = always s f) ∧ ∀ s, (f s).mem = s.mem ∧ (f s).flash = s.flash := by
  cases c with
  | registerWrite _ _ _ | write _ _ | writeAck _ _ | imageApplied | epochCommit | referencePoint _ _ | hwReset _ _
  | syntheticReferencePoint _ | referenceLost _ | holdExpired _ | forwardCrossing _ | actionRelease _ | inboundCycle _
  | recipeInvocation _ _ | recipeOverrun _ | forceTakeover _ _ | lockstepMismatch _ | linkDown _ | optRead _ _
  | patrolRead _ _ _ _ _ | unitCheck _ | selftestComplete _ _ | resetRelease | powerOn _ | resetNFall _ | pieceStored
  | bundleVerifyComplete _ _ _ _ _ _ | stagingComplete _ => exact absurd h Bool.false_ne_true.symm
  | supplyValid _ | vioChange _ _ | classLatch _ _ | perst _ _ => exact ⟨_, fun _ => .inr rfl, fun _ => ⟨rfl, rfl⟩⟩
  | _ => exact ⟨_, fun _ => .inl rfl, fun _ => ⟨rfl, rfl⟩⟩

theorem exec_bytes {c : Instr} (h : storesBytes c = false) (ht : exec c s = .next t) :
    t.mem = s.mem ∧ t.flash = s.flash := by
  obtain ⟨f, hf, hbytes⟩ := exec_takesNoBytes h
  obtain ⟨hmem, hflash⟩ := hbytes s
  rcases hf s with hlive | halways
  · exact live_bytes hmem hflash (hlive ▸ ht)
  · exact always_bytes hmem hflash (halways ▸ ht)

theorem tickClock_bytes (s : State) : s.tickClock.mem = s.mem ∧ s.tickClock.flash = s.flash := by
  unfold State.tickClock
  exact iteInduction (motive := fun t : State => t.mem = s.mem ∧ t.flash = s.flash) (fun _ => ⟨rfl, rfl⟩)
    fun _ => ⟨rfl, rfl⟩

/-! ## Commands that may store -/

theorem canonical_mk {m k : Tbl Byte} {b : Bool} (hm : Tbl.wf memDefault m = true)
    (hk : Tbl.wf flashDefault k = true) : Canonical (m, k, b) := ⟨hm, hk⟩

theorem Canonical.of_bytes (h : Canonical s.mems) (hb : t.mem = s.mem ∧ t.flash = s.flash) : Canonical t.mems := by
  obtain ⟨hmem, hflash⟩ := hb
  rw [State.mems, hmem, hflash]
  exact h

/-- A state that takes over the memory of one state and the flash of another. -/
theorem Canonical.take {u v : State} (hu : Canonical u.mems) (hv : Canonical v.mems) (hmem : t.mem = u.mem)
    (hflash : t.flash = v.flash) : Canonical t.mems := by
  rw [State.mems, hmem, hflash]
  exact canonical_mk hu.1 hv.2

/-- The command keeps the canonical form. -/
def KeepsCanonical (c : Instr) : Prop := ∀ s t, Canonical s.mems → exec c s = .next t → Canonical t.mems

/-- A command that acts out of reset keeps what its meaning keeps. -/
theorem keepsCanonical_live {c : Instr} {f : State → State} (hc : ∀ s, exec c s = live s f)
    (hf : ∀ s, Canonical s.mems → Canonical (f s).mems) : KeepsCanonical c := by
  intro s t h ht
  rw [hc, live, Host.Outcome.next.injEq] at ht
  subst ht
  split
  · exact h
  · exact hf s h

theorem keepsCanonical_always {c : Instr} {f : State → State} (hc : ∀ s, exec c s = always s f)
    (hf : ∀ s, Canonical s.mems → Canonical (f s).mems) : KeepsCanonical c := by
  intro s t h ht
  rw [hc, always, Host.Outcome.next.injEq] at ht
  exact ht ▸ hf s h

theorem State.canonical_onWrite {f : State → State} (hf : ∀ t, Canonical t.mems → Canonical (f t).mems) (p a : Nat)
    (h : Canonical s.mems) : Canonical (s.onWrite p a f).mems := by
  have hdeny := (s.deny_mems p true (pageAddr p a)).symm ▸ h
  unfold State.onWrite
  split
  · split
    · exact hf s h
    · exact hdeny
  · exact hdeny

/-- A tracker that changes between its crossings. -/
theorem State.canonical_crossed {f : State → State} (hf : ∀ t, (f t).mems = t.mems) (n : Nat) (h : Canonical s.mems) :
    Canonical ((f (s.crossings n)).crossings n).mems :=
  canonical_crossings n ((hf _).symm ▸ canonical_crossings n h)

theorem exec_keepsCanonical (c : Instr) : KeepsCanonical c := by
  cases hc : storesBytes c with
  | false => exact fun s t h ht => h.of_bytes (exec_bytes hc ht)
  | true =>
    cases c with
    | registerWrite p addr v =>
      exact keepsCanonical_live (f := fun s => s.hostWrite p addr.toNat 15 v) (fun _ => rfl) fun s h =>
        State.canonical_hostWrite _ _ _ _ h
    | write x f => exact keepsCanonical_live (fun _ => rfl) fun s h => State.canonical_pageFrame 2 x f h
    | writeAck x f => exact keepsCanonical_live (fun _ => rfl) fun s h => State.canonical_pageFrame 3 x f h
    | imageApplied => exact keepsCanonical_live (fun _ => rfl) fun s h => State.canonical_imageApplied h
    | epochCommit => exact keepsCanonical_live (fun _ => rfl) fun s h => State.canonical_epochCommit h
    | referencePoint pt x =>
      exact keepsCanonical_live (fun _ => rfl) fun s h => State.canonical_ptEventCross pt x.ev x.ageNs h
    | hwReset p mask =>
      exact keepsCanonical_live (fun _ => rfl) fun s h => State.canonical_onWrite
        (fun t h' => State.canonical_forBits (fun u k hu => u.canonical_ptHwReset k hu) 4 mask.toNat h') p _ h
    | syntheticReferencePoint pt =>
      exact keepsCanonical_live (fun _ => rfl) fun s h => State.canonical_synPointCross pt h
    | referenceLost pt =>
      exact keepsCanonical_live (fun _ => rfl) fun s h => iteInduction (motive := fun u : State => Canonical u.mems)
        (fun _ => State.canonical_crossed (fun t => t.ptLost_mems pt) pt h) fun _ => h
    | holdExpired pt =>
      exact keepsCanonical_live (fun _ => rfl) fun s h => iteInduction (motive := fun u : State => Canonical u.mems)
        (fun _ => State.canonical_crossed (fun t => t.ptExpire_mems pt) pt h) fun _ => h
    | forwardCrossing pt => exact keepsCanonical_live (fun _ => rfl) fun s h => State.canonical_crossings pt h
    | actionRelease e => exact keepsCanonical_live (fun _ => rfl) fun s h => State.canonical_actionRelease e h
    | inboundCycle c =>
      exact keepsCanonical_live (fun _ => rfl) fun s h =>
        (State.canonical_inbound c.write c.word.toNat c.be.toNat c.data h).take h rfl rfl
    | recipeInvocation e code =>
      exact keepsCanonical_live (fun _ => rfl) fun s h => (State.canonical_recipeRun e code h).take h rfl rfl
    | recipeOverrun e =>
      exact keepsCanonical_live (fun _ => rfl) fun s h => (State.canonical_recipeOverrun e h).take h rfl rfl
    | forceTakeover p e =>
      exact keepsCanonical_live (fun _ => rfl) fun s h => ((State.canonical_onWrite
        (fun t h' => State.canonical_forceTakeover e h') p (Reg.SEC_CMD e) h).take h rfl rfl)
    | lockstepMismatch e =>
      exact keepsCanonical_live (fun _ => rfl) fun s h => (State.canonical_lockstep e h).take h rfl rfl
    | linkDown l => exact keepsCanonical_live (fun _ => rfl) fun s h => (State.canonical_linkDown l h).take h rfl rfl
    | optRead p k =>
      exact keepsCanonical_live (fun _ => rfl) fun s h => ((State.canonical_onWrite
        (fun t h' => State.canonical_optRead k h') p Reg.HLT_CMD h).take h rfl rfl)
    | patrolRead bank row kind res ends =>
      exact keepsCanonical_live (fun _ => rfl) fun s h =>
        (State.canonical_patrol bank row.toNat kind res ends h).take h rfl rfl
    | unitCheck i => exact keepsCanonical_live (fun _ => rfl) fun s h => State.canonical_unitCheck i h
    | selftestComplete i pass =>
      exact keepsCanonical_live (fun _ => rfl) fun s h =>
        (State.canonical_selftestDone (itemId i) pass h).take h rfl rfl
    | resetRelease => exact keepsCanonical_always (fun _ => rfl) fun s h => (State.canonical_release h).take h rfl rfl
    | powerOn x => exact keepsCanonical_always (fun _ => rfl) fun s h => State.canonical_supplyFalls x h
    | resetNFall lowNs => exact keepsCanonical_always (fun _ => rfl) fun s h => State.canonical_resetFall lowNs h
    | pieceStored => exact keepsCanonical_live (fun _ => rfl) fun s h => h.take (State.canonical_pieceStored h) rfl rfl
    | bundleVerifyComplete a b c d n e =>
      exact keepsCanonical_live (fun _ => rfl) fun s h =>
        h.take (State.canonical_bundleVerified a b c d n.toNat e h) rfl rfl
    | stagingComplete ok =>
      exact keepsCanonical_live (fun _ => rfl) fun s h => h.take (State.canonical_stagingDone ok h) rfl rfl
    | _ => exact absurd hc Bool.false_ne_true

end Sys2Proof.Machine

open Sys2Proof.Machine in
/-- Settles O60: a command that may store keeps the canonical form, the others and the clock change no byte. -/
theorem everyStepKeepsMemoryCanonical : Obligations.EveryStepKeepsMemoryCanonical := by
  intro s t hs ht
  rw [Memory.wf_iff_canonical] at *
  cases hq : s.pending with
  | nil =>
    rw [step, hq, Host.Outcome.next.injEq] at ht
    subst ht
    exact hs.of_bytes (tickClock_bytes s)
  | cons c rest =>
    rw [step, hq] at ht
    exact exec_keepsCanonical c { s with pending := rest } t hs ht

namespace Sys2Proof.Machine

/-! ## Words in memory -/

/-- A run of keys reads as it was written. -/
theorem Tbl.getList_setList_same {α : Type} [DecidableEq α] (d : Nat → α) (t : Tbl α) (k : Nat) (vs : List α) :
    Tbl.getList d (Tbl.setList d t k vs) k vs.length = vs := by
  induction vs generalizing t k with
  | nil => rfl
  | cons v vs ih =>
    simp only [Tbl.setList, List.length_cons, Tbl.getList, ih]
    rw [Tbl.get_setList_lt d _ _ _ vs (Nat.lt_succ_self k), Tbl.get_set_same]

theorem leNat_leBytes (n x : Nat) : leNat (leBytes n x) = x % 256 ^ n := by
  induction n generalizing x with
  | zero => simp [leBytes, leNat, Nat.mod_one]
  | succ n ih =>
    rw [leBytes, leNat, ih, BitVec.toNat_ofNat]
    exact (pow_succ' 256 n ▸ Nat.mod_mul (x := x) (a := 256) (b := 256 ^ n)).symm

theorem State.memWord_setMemWord (s : State) (a : Nat) (v : Word) : (s.setMemWord a v).memWord a = v := by
  have hbytes : (s.setMemWord a v).bytes a 4 = leBytes 4 v.toNat :=
    (length_leBytes 4 v.toNat) ▸ Tbl.getList_setList_same memDefault s.mem a (leBytes 4 v.toNat)
  rw [State.memWord, hbytes, leNat_leBytes, Nat.mod_eq_of_lt (show v.toNat < 256 ^ 4 from v.isLt)]
  exact BitVec.eq_of_toNat_eq (Nat.mod_eq_of_lt v.isLt)

/-- What a page writes to engine memory is stored. -/
theorem State.hostWrite_mem {s : State} {p addr a : Nat} (v : Word) (hs : s.settled) (ht : s.target p addr = .mem a)
    (hopt : s.flag Reg.HLT_RESET_CAUSE_OPT_FAIL = false) : s.hostWrite p addr 15 v = s.setMemWord a v := by
  have hput : (s.putWord p addr 15 v).1 = s.setMemWord a v := by
    simp only [putWord, busWrite, ht, hopt, Bool.false_eq_true, if_false]
  have hsettled : (s.setMemWord a v).settled := hs
  rw [hostWrite, hput, opsSettle_settled hsettled]

end Sys2Proof.Machine

open Sys2Proof.Machine in
/-- Settles O59: a command that may not store takes over no bytes, and a write of engine memory stores its word. -/
theorem onlyStoresChangeBytes : Obligations.OnlyStoresChangeBytes := by
  refine ⟨fun c s t hc ht => ?_, fun p addr v a s hawake hs htarget hopt => ?_⟩
  · obtain ⟨hmem, hflash⟩ := exec_bytes hc ht
    exact ⟨fun a => congrArg (fun m => Tbl.get memDefault m a) hmem, hflash⟩
  · have hwrite := State.hostWrite_mem (addr := addr.toNat) v hs htarget hopt
    refine ⟨?_, s.memWord_setMemWord a v, fun k => s.byte_setMemWord_out v⟩
    change execRegisterWrite p addr v s = .next (s.setMemWord a v)
    rw [execRegisterWrite, live_exact s _ hawake (by rw [hwrite]; rfl) (by rw [hwrite]; rfl), hwrite]

end

section
/-!
A step runs the command at the front of the queue, or else one tick of the clock: the local counter counts 2 ns, ashlars
go on and gPTP ports send. And what a reset leaves meets the invariants.
-/

namespace Sys2Proof.Machine

variable {s : State}

/-! ## What a tick changes -/

/-- The state without what running ashlars change: what is sent, their pages, and the count of free choices. -/
def State.lessAshlars (s : State) : State := { s with out := [], freeCnt := 0, pages := [] }

/-- The state without what gPTP ports change: their own state and what is sent. -/
def State.lessGptp (s : State) : State := { s with out := [], tb := { s.tb with gptp := [] } }

theorem State.copyCells_lessAshlars (s : State) (p : Nat) (a : Ashlar) (i k : Nat) :
    (s.copyCells p a i k).lessAshlars = s.lessAshlars := by
  induction k generalizing s i with
  | zero => rfl
  | succ k ih =>
    rw [copyCells]
    split
    · rfl
    · exact ih _ _

theorem State.ashlarStep_lessAshlars (s : State) (p k : Nat) : (s.ashlarStep p k).lessAshlars = s.lessAshlars := by
  rw [ashlarStep]
  split
  · rfl
  · split
    · rfl
    · exact copyCells_lessAshlars _ _ _ _ _

theorem State.ashlarsRun_lessAshlars (s : State) : s.ashlarsRun.lessAshlars = s.lessAshlars :=
  foldl_keeps State.lessAshlars (fun t p => by exact t.ashlarStep_lessAshlars p _) _ s

/-- Where no page has an ashlar, none goes on. -/
theorem State.ashlarsRun_none (h : ∀ p : PageNo, (s.page p).ashlar = none) : s.ashlarsRun = s := by
  have hnone : (List.range 8).filter (fun p => (s.page p).ashlar.isSome) = [] := by
    refine List.filter_eq_nil_iff.2 fun p hp => ?_
    rw [h ⟨p, List.mem_range.1 hp⟩]
    exact Bool.false_ne_true
  rw [ashlarsRun, hnone, List.foldl_nil]

theorem State.setGport_lessGptp (s : State) (p : Nat) (x : GptpPort) : (s.setGport p x).lessGptp = s.lessGptp := rfl

theorem State.gptpSend_lessGptp (s : State) (p : Nat) (m : PtpMsg) : (s.gptpSend p m).lessGptp = s.lessGptp := rfl

theorem State.syncSend_lessGptp (s : State) (p : Nat) (o : SyncOut) : (s.syncSend p o).lessGptp = s.lessGptp :=
  (gptpSend_lessGptp _ _ _).trans (setGport_lessGptp _ _ _)

theorem State.gptpTimer_lessGptp (s : State) (p : Nat) : (s.gptpTimer p).lessGptp = s.lessGptp := by
  unfold State.gptpTimer
  extract_lets now x t slave x' best key steps t' x2
  have ht : t.lessGptp = s.lessGptp := by
    unfold t
    split
    · exact (gptpSend_lessGptp _ _ _).trans (setGport_lessGptp _ _ _)
    · rfl
  have ht' : t'.lessGptp = s.lessGptp := by
    unfold t'
    split
    · exact ((gptpSend_lessGptp _ _ _).trans (setGport_lessGptp _ _ _)).trans ht
    · exact ht
  clear_value t t'
  split
  · rfl
  · split
    · exact ht
    · split
      · exact ((syncSend_lessGptp _ _ _).trans (setGport_lessGptp _ _ _)).trans ht'
      · exact ht'

theorem State.gptpRun_lessGptp (s : State) : s.gptpRun.lessGptp = s.lessGptp := by
  unfold State.gptpRun
  split
  · rfl
  · exact foldl_keeps State.lessGptp (fun t p => by exact t.gptpTimer_lessGptp p) _ s

/-- Without gPTP and ring time, nothing is due. -/
theorem State.gptpRun_off (hg : s.gptpOn = false) (hr : s.rtOn = false) : s.gptpRun = s := by
  rw [gptpRun, if_pos (by simp [hg, hr])]

/-- The tick's instant: the local counter 2 ns on. -/
def State.ticked (s : State) : State := { s with tb := { s.tb with local16 := s.tb.local16 + tick16 } }

theorem State.tickClock_awake (h : s.awake) : s.tickClock =
    { s with
      tb := s.ticked.ashlarsRun.gptpRun.tb, out := s.ticked.ashlarsRun.gptpRun.out
      freeCnt := s.ticked.ashlarsRun.gptpRun.freeCnt, pages := s.ticked.ashlarsRun.gptpRun.pages } := by
  rw [tickClock, if_neg (by simp [h])]
  rfl

/-- Running ashlars leave gPTP as it stands. -/
theorem State.gptpOn_ashlarsRun : s.ticked.ashlarsRun.gptpOn = s.gptpOn ∧ s.ticked.ashlarsRun.rtOn = s.rtOn := by
  have h := s.ticked.ashlarsRun_lessAshlars
  have hon := congrArg State.gptpOn h
  have hrt := congrArg State.rtOn h
  exact ⟨hon, hrt⟩

end Sys2Proof.Machine

open Sys2Proof.Machine in
/-- Settles O1: it is how a step is defined. -/
theorem stepRunsFrontCommand : Obligations.StepRunsFrontCommand := by
  intro c rest s h
  rw [step, h]

open Sys2Proof.Machine in
/-- Settles O2: ashlars change their pages and what is sent, gPTP ports their own state and what is sent. -/
theorem emptyQueueIsOneTick : Obligations.EmptyQueueIsOneTick := by
  intro s hq
  have hstep : step s = .next s.tickClock := by rw [step, hq]
  refine ⟨fun hheld => by rw [hstep, State.tickClock, if_pos hheld], fun h => ⟨_, hstep, ?_⟩⟩
  rw [State.tickClock_awake h]
  have hgptp := s.ticked.ashlarsRun.gptpRun_lessGptp
  have hashlars := s.ticked.ashlarsRun_lessAshlars
  have hrun : s.ticked.ashlarsRun.tb = { s.tb with local16 := s.tb.local16 + 131072 } := congrArg State.tb hashlars
  have htb : { s.ticked.ashlarsRun.gptpRun.tb with gptp := [] } = { s.ticked.ashlarsRun.tb with gptp := [] } :=
    congrArg State.tb hgptp
  refine ⟨?_, rfl, fun hg hr => ?_, fun hnone => ?_⟩
  · have hput := congrArg (fun b : TimeBase => { b with gptp := s.ticked.ashlarsRun.gptpRun.tb.gptp }) htb
    rw [hrun] at hput
    exact hput
  · obtain ⟨hon, hrt⟩ := State.gptpOn_ashlarsRun (s := s)
    rw [State.gptpRun_off (hon.trans hg) (hrt.trans hr)]
    change s.ticked.ashlarsRun.tb.gptp = s.tb.gptp
    rw [hrun]
  · have hsame : s.ticked.ashlarsRun = s.ticked := State.ashlarsRun_none hnone
    rw [hsame] at hgptp ⊢
    have hpages := congrArg State.pages hgptp
    have hcnt := congrArg State.freeCnt hgptp
    exact ⟨hpages, hcnt⟩

open Sys2Proof.Machine in
/-- Settles O7: the device is out of reset there, and all its memory is erased. -/
theorem resetStateIsClear : Obligations.ResetStateIsClear :=
  ⟨State.quietInReset_of_awake rfl, Memory.wf_reset, rfl⟩

end

section
/-!
Commit requests are served, kept and merged (R103, R104, R106), and a commit raises the epoch (R107, R109).
-/

namespace Sys2Proof.Machine

variable {s : State}

/-! ## Requests -/

theorem exec_sigCommit {p : PageNo} (h : s.takes p Reg.SIG_CMD) :
    exec (.sigCommit p) s = .next { s with regs := s.request.regs, sig := s.request.sig } := by
  change execSigCommit p s = _
  rw [execSigCommit, live_exact s _ h.1 rfl rfl, onWrite_takes s State.request h]

/-- A request that is far enough from the last commit is served at once. -/
theorem State.requestAt_served {d16 : Int} {l : Nat} (hrun : s.flag Reg.SIG_BSTAT_RUN = true) (hreq : s.sig.requests = 0)
    (hserved : s.sig.served = none) (hspaced : s.spaced d16 l = true) : s.requestAt d16 l = s.serve d16 l := by
  simp [requestAt, hrun, hreq, hserved, hspaced]

/-- One that is not is kept. -/
theorem State.requestAt_kept {d16 : Int} {l : Nat} (hrun : s.flag Reg.SIG_BSTAT_RUN = true)
    (h : s.sig.served ≠ none ∧ s.sig.lastInstant ≠ some l ∨ s.sig.served = none ∧ s.spaced d16 l = false) :
    s.requestAt d16 l = { s with sig := { s.sig with requests := s.sig.requests + 1 } } := by
  rcases h with ⟨hserved, hlast⟩ | ⟨hserved, hspaced⟩
  · have hsome : s.sig.served.isSome = true := Option.isSome_iff_ne_none.2 hserved
    simp [requestAt, hrun, hsome, hlast, hserved]
  · simp [requestAt, hrun, hserved, hspaced]

theorem State.requestAt_merged {d16 : Int} {l : Nat} (hrun : s.flag Reg.SIG_BSTAT_RUN = true)
    (hserved : s.sig.served ≠ none) (hlast : s.sig.lastInstant = some l) : s.requestAt d16 l = s.merged 1 := by
  have hsome : s.sig.served.isSome = true := Option.isSome_iff_ne_none.2 hserved
  simp [requestAt, hrun, hsome, hlast]

/-- The 10 µs are of disciplined time where the last commit has one, and of the local counter else. -/
theorem State.spaced_of {d16 : Int} {l : Nat}
    (hlocal : ∀ k, s.sig.lastInstant = some k → s.sig.lastDisc16 = none → k + 10000 * 65536 ≤ l)
    (hdisc : ∀ k m, s.sig.lastInstant = some k → s.sig.lastDisc16 = some m → m + 10000 * 65536 ≤ d16) :
    s.spaced d16 l = true := by
  unfold spaced
  split
  · rfl
  · next k m hk hm => exact decide_eq_true (hdisc _ _ hk hm)
  · next k hk hm => exact decide_eq_true (hlocal _ hk hm)

/-! ## Requests that wait -/

theorem State.commitServed_waiting {k : Nat} {m : Int} (hk : s.sig.lastInstant = some k)
    (hm : s.sig.lastDisc16 = some m) (hreq : 0 < s.sig.requests) (hserved : s.sig.served = none)
    (hdue : m + 10000 * 65536 ≤ s.disc16) : s.commitServed =
      (s.merged (s.sig.requests - 1)).serve (m + 10000 * 65536)
        (s.tb.local16 - (s.disc16 - (m + 10000 * 65536)).toNat) := by
  have hspaced : s.spaced s.disc16 s.tb.local16 = true :=
    spaced_of (fun j _ hnone => by simp [hm] at hnone) fun _ d _ hd => by
      rw [hm, Option.some.injEq] at hd
      exact hd ▸ hdue
  rw [commitServed, if_pos ⟨hreq, hserved, hspaced⟩]
  simp only [hk, hm]
  rfl

theorem State.merged_onlyRegs (s : State) (k : Nat) : OnlyRegs s (s.merged k) [Reg.SIG_MERGED] :=
  (OnlyRegs.refl s _).wr _ List.mem_cons_self

theorem commitServed_completes {k : Nat} {m : Int} (h : s.awake) (hk : s.sig.lastInstant = some k)
    (hm : s.sig.lastDisc16 = some m) (hreq : 0 < s.sig.requests) (hserved : s.sig.served = none)
    (hdue : m + 10000 * 65536 ≤ s.disc16) : Completes .commitServed s fun t =>
      (∃ l, t.sig = { s.sig with
          served := some ((m + 10000 * 65536) / 65536, l), lastInstant := some l
          lastDisc16 := some (m + 10000 * 65536), requests := 0 } ∧
        (l : Int) = max 0 (s.tb.local16 - (s.disc16 - (m + 10000 * 65536)))) ∧
      t.rd Reg.SIG_MERGED = satWord ((s.rd Reg.SIG_MERGED).toNat + (s.sig.requests - 1)) ∧
      OnlyRegs { s with sig := t.sig } t [Reg.SIG_MERGED] := by
  have hop := State.commitServed_waiting hk hm hreq hserved hdue
  have hexec : exec .commitServed s = .next { s with regs := s.commitServed.regs, sig := s.commitServed.sig } := by
    change execCommitServed s = _
    rw [execCommitServed, live_exact s _ h rfl rfl]
  rw [hop] at hexec
  refine ⟨_, hexec, ⟨_, rfl, by omega⟩, State.rd_wr_same _ _ _, rfl, fun a ha => ?_⟩
  exact State.rd_wr_ne _ _ (List.ne_of_not_mem_cons ha)

/-! ## Cadence ticks -/

theorem clampTo_pos (n : Nat) : 0 < clampTo 10 1000000 n := by
  unfold clampTo
  omega

/-- The grid point of the cadence that was ticked last. -/
def State.tickedAt (s : State) (g : Int) : State := { s with sig := { s.sig with cadLast := some g } }

theorem State.cadenceTick_due {m k : Int} {us : Nat} (hperiod : s.cadencePeriod = some us) (hus : 0 < us)
    (hgrid : s.disc16 = m * (us * 1000) * 65536) (hlast : s.sig.cadLast = some k) (hnew : k < m * (us * 1000))
    (hhold : s.sig.cadHold ≤ m * (us * 1000)) : s.cadenceTick =
      (s.tickedAt (m * (us * 1000))).requestAt s.disc16 s.tb.local16 := by
  have hpos : (0 : Int) < us * 1000 := by omega
  have hdisc : s.disc = m * (us * 1000) := by rw [State.disc, hgrid, Int.mul_ediv_cancel _ (by decide)]
  have hm : s.disc / (us * 1000) = m := by rw [hdisc, Int.mul_ediv_cancel _ hpos.ne']
  simp only [cadenceTick, hperiod, hm, hlast, hnew, hhold, decide_true, Bool.and_self, if_true, ← hgrid, sub_self,
    Int.toNat_zero, Nat.sub_zero, tickedAt]

theorem cadenceTick_completes {m k : Int} (h : s.awake) (hrun : s.flag Reg.SIG_BSTAT_RUN = true)
    (hmode : s.fld Reg.SIG_CADENCE_MODE = 1)
    (hgrid : s.disc16 = m * ((clampTo 10 1000000 (s.fld Reg.SIG_PERIOD_PERIOD_US) : Nat) * 1000) * 65536)
    (hlast : s.sig.cadLast = some k) (hnew : k < m * ((clampTo 10 1000000 (s.fld Reg.SIG_PERIOD_PERIOD_US) : Nat) * 1000))
    (hhold : s.sig.cadHold ≤ m * ((clampTo 10 1000000 (s.fld Reg.SIG_PERIOD_PERIOD_US) : Nat) * 1000))
    (hreq : s.sig.requests = 0) (hserved : s.sig.served = none) (hspaced : s.spaced s.disc16 s.tb.local16 = true) :
    Completes .cadenceTick s fun t =>
      { t with sig := s.sig } = s ∧ t.sig.served = some (s.disc, s.tb.local16) ∧
      t.sig.lastInstant = some s.tb.local16 ∧ t.sig.requests = 0 := by
  have hperiod : s.cadencePeriod = some (clampTo 10 1000000 (s.fld Reg.SIG_PERIOD_PERIOD_US)) := by
    simp [State.cadencePeriod, hrun, hmode]
  have hop := State.cadenceTick_due hperiod (clampTo_pos _) hgrid hlast hnew hhold
  rw [State.requestAt_served (s := s.tickedAt _) hrun hreq hserved hspaced] at hop
  have hexec : exec .cadenceTick s = .next { s with sig := s.cadenceTick.sig, regs := s.cadenceTick.regs } := by
    change execCadenceTick s = _
    rw [execCadenceTick, live_exact s _ h rfl rfl]
  rw [hop] at hexec
  exact ⟨_, hexec, rfl, rfl, rfl, rfl⟩

/-! ## The commit takes effect -/

/-- The epoch, its time and its hold, as a commit writes them. -/
def State.epochRaised (s : State) (d : Int) (l : Nat) : State :=
  { (s.wr Reg.SIG_EPOCH (s.rd Reg.SIG_EPOCH + 1)).wr Reg.SIG_COMMIT_TIME (BitVec.ofInt 32 d) with
    sig := { s.sig with served := none } }.recordHold l

theorem State.epochRaised_epoch (d : Int) (l : Nat) :
    (s.epochRaised d l).rd Reg.SIG_EPOCH = s.rd Reg.SIG_EPOCH + 1 := by
  rw [epochRaised, recordHold, rd_setFld_ne _ _ (by decide), rd_setFld_ne _ _ (by decide)]
  exact (rd_wr_ne _ _ (by decide)).trans (rd_wr_same _ _ _)

theorem State.epochRaised_time (d : Int) (l : Nat) :
    (s.epochRaised d l).rd Reg.SIG_COMMIT_TIME = BitVec.ofInt 32 d := by
  rw [epochRaised, recordHold, rd_setFld_ne _ _ (by decide), rd_setFld_ne _ _ (by decide)]
  exact rd_wr_same _ _ _

theorem satTo_lt (n x : Nat) : satTo n x < 2 ^ n := by
  have hpos := Nat.two_pow_pos n
  unfold satTo
  omega

theorem State.recordHold_last (l : Nat) :
    (s.recordHold l).fld Reg.SIG_COMMIT_HOLD_LAST_NS = satTo 16 ((s.tb.local16 - l) / 65536) := by
  unfold recordHold
  rw [fld_setFld_below (f := Reg.SIG_COMMIT_HOLD_PEAK_NS) (g := Reg.SIG_COMMIT_HOLD_LAST_NS) _ _ rfl (by decide)
    (by decide), fld_setFld_same _ _ _ (by decide), Nat.mod_eq_of_lt (satTo_lt 16 _)]

/-- What a commit leaves alone of a device whose commit writes nothing else into the signal space. -/
structure State.PlainCommit (s : State) : Prop where
  tbl : s.tbl = []
  tblOld : s.tblOld = []
  staged : s.staged = []
  pages : s.pages = []
  engines : s.engines = []
  str : s.strState ≠ strArmed

theorem State.PlainCommit.raised (h : s.PlainCommit) (d : Int) (l : Nat) : (s.epochRaised d l).PlainCommit := by
  refine ⟨h.tbl, h.tblOld, h.staged, h.pages, h.engines, ?_⟩
  have hrd : (s.epochRaised d l).rd Reg.STR_STATE = s.rd Reg.STR_STATE := by
    rw [epochRaised, recordHold, rd_setFld_ne _ _ (by decide), rd_setFld_ne _ _ (by decide)]
    exact (rd_wr_ne _ _ (by decide)).trans (rd_wr_ne _ _ (by decide))
  rw [strState, fld, hrd]
  exact h.str

theorem State.ashlarTakes_none (h : s.pages = []) (e : Word) (p : Nat) : s.ashlarTakes e p = s := by
  simp only [ashlarTakes, page, h, Tbl.get_nil]

theorem State.applyStaged_nil (h : s.staged = []) (p : Staged → Bool) : s.applyStaged p = s := by
  have hstaged : { s with staged := [] } = s := by rw [← h]
  simp only [applyStaged, h, List.filter_nil, List.foldl_nil, hstaged]

/-- What a commit does once the epoch is raised: ashlars take it, an armed image is brought into service, staged values
are applied. -/
def State.epochTaken (s : State) (e : Word) (l : Nat) : State :=
  let t := (List.range 8).foldl (fun t p => t.ashlarTakes e p) s
  (if t.strAtEpoch e then t.switchAt l else t).epochEnd

theorem State.epochStep_eq (d : Int) (l : Nat) : s.epochStep d l =
    ((s.staleAll l).epochRaised d l).epochTaken ((s.staleAll l).rd Reg.SIG_EPOCH + 1) l := rfl

theorem State.PlainCommit.epochTaken (h : s.PlainCommit) (e : Word) (l : Nat) : s.epochTaken e l = s := by
  have htakes : (List.range 8).foldl (fun t p => t.ashlarTakes e p) s = s :=
    List.foldl_fixed' (fun p => ashlarTakes_none h.pages e p) _
  have hstr : s.strAtEpoch e = false := by rw [strAtEpoch, beq_false_of_ne h.str, Bool.false_and]
  have hend : s.epochEnd = s := applyStaged_nil h.staged _
  simp only [State.epochTaken, htakes, hstr, Bool.false_eq_true, if_false, hend]

/-- A commit without tables, ashlars, an armed image and staged values. -/
theorem State.PlainCommit.epochStep (h : s.PlainCommit) (d : Int) (l : Nat) : s.epochStep d l = s.epochRaised d l := by
  have hstale : s.staleAll l = s := by simp [staleAll, h.tbl, mapCells]
  rw [epochStep_eq, hstale, (h.raised d l).epochTaken]

/-! ## What follows a commit -/

theorem State.routesOf_nil (h : s.tbl = []) (ho : s.tblOld = []) (g : Gen) (ty : Nat) : s.routesOf g ty = [] := by
  have htab : s.tables g = [] := by rw [tables, h, ho, ite_self]
  simp [routesOf, entriesAt, htab]

theorem State.rcOnCommit_nil (h : s.tbl = []) (ho : s.tblOld = []) (g : Gen) (r : Nat) : s.rcOnCommit g r = false := by
  have htab : s.tables g = [] := by rw [tables, h, ho, ite_self]
  simp [rcOnCommit, rcW, twG, htab, tblDefault, bitOf]

theorem State.engineReturn_none (h : s.engines = []) (e : Nat) : s.engineReturn e = s := by
  simp [engineReturn, engine, h]

theorem State.onHostPacks_nil (h : s.tbl = []) (ho : s.tblOld = []) (g : Gen) (e : Word) :
    s.onHostPacks g e = s := by rw [onHostPacks, routesOf_nil h ho, List.filter_nil, List.foldl_nil]

theorem State.onCommitRecipes_nil (h : s.tbl = []) (ho : s.tblOld = []) (g : Gen) (e time : Word)
    (phases : List Word) : s.onCommitRecipes g e time phases = s := by
  have hnone : (List.range 1024).filter (fun r => s.rcOnCommit g r) = [] :=
    List.filter_eq_nil_iff.2 fun r _ => by rw [rcOnCommit_nil h ho]; exact Bool.false_ne_true
  rw [onCommitRecipes, hnone, List.foldl_nil]

/-- What follows a commit once its event is posted: event entries, packs, engines that return, recipes, pins. -/
def State.commitFollowed (s : State) (g : Gen) (e : Word) (l : Nat) : State :=
  let t := (s.routesOf g rtEvent).foldl (fun t r => t.eventEntryAt g e r) s
  let t := t.onHostPacks g e
  let t := (List.range 8).foldl State.engineReturn t
  let t := t.onCommitRecipes g e (t.stampAt l) (t.phaseStampsAt l)
  let t := (List.range 8).foldl State.pinExpire t
  { t with sig := { t.sig with refresh := t.refreshUnits } }

theorem State.afterCommit_eq (l : Nat) : s.afterCommit l =
    (s.postEvent 0x010 0 (s.rd Reg.SIG_EPOCH)).commitFollowed (s.rd Reg.STR_GEN) (s.rd Reg.SIG_EPOCH) l := rfl

/-- The pins that have fallen too far behind, and the units that read their cells again. -/
def State.pinsExpired (s : State) : State := (List.range 8).foldl State.pinExpire s

theorem State.commitFollowed_plain (h : s.tbl = []) (ho : s.tblOld = []) (he : s.engines = []) (g : Gen) (e : Word)
    (l : Nat) : s.commitFollowed g e l =
      { s.pinsExpired with sig := { s.pinsExpired.sig with refresh := s.pinsExpired.refreshUnits } } := by
  have hreturn : (List.range 8).foldl State.engineReturn s = s :=
    List.foldl_fixed' (fun k => engineReturn_none he k) _
  simp only [commitFollowed, routesOf_nil h ho, List.foldl_nil, onHostPacks_nil h ho, hreturn, onCommitRecipes_nil h ho,
    pinsExpired]

theorem State.pinExpire_rd {a : Nat} (h : a < 0x3000000) (p : Nat) : (s.pinExpire p).rd a = s.rd a := by
  have hne : a ≠ Reg.PSG_PIN_STATUS p := by
    unfold Reg.PSG_PIN_STATUS Reg.pageBase
    omega
  unfold pinExpire
  split
  · rw [rd_setFld_ne _ _ hne, rd_setFld_ne _ _ hne, rd_setFld_ne _ _ hne]
  · rfl

theorem State.pinExpire_lessRegs (p : Nat) : { s.pinExpire p with regs := [] } = { s with regs := [] } := by
  unfold pinExpire
  split <;> rfl

theorem State.pinsExpired_rd {a : Nat} (h : a < 0x3000000) : s.pinsExpired.rd a = s.rd a :=
  foldl_keeps (fun t : State => t.rd a) (fun t p => by exact t.pinExpire_rd h p) _ s

theorem State.pinsExpired_lessRegs : { s.pinsExpired with regs := [] } = { s with regs := [] } :=
  foldl_keeps (fun t : State => { t with regs := [] }) (fun t p => by exact t.pinExpire_lessRegs p) _ s

/-- The state after a commit that writes nothing else into the signal space. -/
def State.committed (s : State) (d : Int) (l : Nat) : State :=
  ((s.epochRaised d l).postEvent 0x010 0 ((s.epochRaised d l).rd Reg.SIG_EPOCH)).pinsExpired

theorem State.PlainCommit.epochCommit (h : s.PlainCommit) {d : Int} {l : Nat} (hserved : s.sig.served = some (d, l)) :
    s.epochCommit =
      { s.committed d l with sig := { (s.committed d l).sig with refresh := (s.committed d l).refreshUnits } } := by
  have hr := h.raised d l
  have hfollowed : ∀ g e, ((s.epochRaised d l).postEvent 0x010 0 e).commitFollowed g e l = _ := fun g e =>
    commitFollowed_plain (s := (s.epochRaised d l).postEvent 0x010 0 e) hr.tbl hr.tblOld hr.engines g e l
  rw [State.epochCommit, hserved]
  dsimp only
  rw [h.epochStep, afterCommit_eq, hfollowed]
  rfl

theorem State.committed_rd (d : Int) (l : Nat) {a : Nat} (ha : a < 0x3000000) :
    (s.committed d l).rd a = (s.epochRaised d l).rd a := (pinsExpired_rd ha).trans (postEvent_rd _ _ _ _ ha)

theorem State.committed_fld (d : Int) (l : Nat) {f : Fld} (hf : f.addr < 0x3000000) :
    (s.committed d l).fld f = (s.epochRaised d l).fld f := by rw [fld, fld, committed_rd d l hf]

theorem State.committed_keeps (d : Int) (l : Nat) : (s.committed d l).sig.served = none ∧
    (s.committed d l).cells = s.cells ∧ (s.committed d l).mem = s.mem ∧ (s.committed d l).flash = s.flash := by
  have h := pinsExpired_lessRegs (s := (s.epochRaised d l).postEvent 0x010 0 ((s.epochRaised d l).rd Reg.SIG_EPOCH))
  have hsig := congrArg (fun t : State => t.sig.served) h
  have hcells := congrArg State.cells h
  have hmem := congrArg State.mem h
  have hflash := congrArg State.flash h
  exact ⟨hsig, hcells, hmem, hflash⟩

theorem epochCommit_completes {d : Int} {l : Nat} (hawake : s.awake) (h : s.PlainCommit)
    (hserved : s.sig.served = some (d, l)) :
    Completes .epochCommit s fun t =>
      t.rd Reg.SIG_EPOCH = s.rd Reg.SIG_EPOCH + 1 ∧ t.rd Reg.SIG_COMMIT_TIME = BitVec.ofInt 32 d ∧ t.sig.served = none ∧
      t.fld Reg.SIG_COMMIT_HOLD_LAST_NS = satTo 16 ((s.tb.local16 - l) / 65536) ∧
      t.cells = s.cells ∧ SameBytes s t := by
  have hexec : exec .epochCommit s = live s State.epochCommit := rfl
  rw [live_next s _ hawake, h.epochCommit hserved] at hexec
  obtain ⟨hsig, hcells, hmem, hflash⟩ := s.committed_keeps d l
  refine ⟨_, hexec, ?_, ?_, hsig, ?_, hcells, fun a => congrArg (fun m => Tbl.get memDefault m a) hmem, hflash⟩
  · exact (State.committed_rd d l (by decide)).trans (State.epochRaised_epoch d l)
  · exact (State.committed_rd d l (by decide)).trans (State.epochRaised_time d l)
  · exact (State.committed_fld d l (by decide)).trans (State.recordHold_last l)

end Sys2Proof.Machine

open Sys2Proof.Machine in
/-- Settles O8: a request is served, kept or merged by what stands before it, and a commit without tables is the epoch
raised, its event and the pins that expire. -/
theorem commitsAreServedAndRaiseTheEpoch : Obligations.CommitsAreServedAndRaiseTheEpoch := by
  refine ⟨fun p s hrun => ⟨?_, ?_, ?_, ?_, ?_, ?_⟩, ?_⟩
  · intro h hreq hserved hlocal hdisc
    rw [exec_sigCommit h, State.request, State.requestAt_served hrun hreq hserved (State.spaced_of hlocal hdisc)]
    simp only [State.serve, hreq, State.disc]
  · intro h hserved hlast
    rw [exec_sigCommit h, State.request, State.requestAt_kept hrun (.inl ⟨hserved, hlast⟩)]
  · intro k m h hserved hk hm hearly
    have hspaced : s.spaced s.disc16 s.tb.local16 = false := by
      simp only [State.spaced, hk, hm, decide_eq_false_iff_not]
      exact Int.not_le.2 hearly
    rw [exec_sigCommit h, State.request, State.requestAt_kept hrun (.inr ⟨hserved, hspaced⟩)]
  · intro h hserved hlast
    have hexec := exec_sigCommit h
    rw [State.request, State.requestAt_merged hrun hserved hlast] at hexec
    exact ⟨_, hexec, s.rd_wr_same _ _, s.merged_onlyRegs 1⟩
  · exact fun k m h hk hm hreq hserved hdue => commitServed_completes h hk hm hreq hserved hdue
  · intro m k h hmode hgrid hlast hnew hhold hreq hserved hlocal hdisc
    exact cadenceTick_completes h hrun hmode hgrid hlast hnew hhold hreq hserved (State.spaced_of hlocal hdisc)
  · intro d l s h hserved htbl hold hstaged hpages hengines hstr
    exact epochCommit_completes h ⟨htbl, hold, hstaged, hpages, hengines, hstr⟩ hserved

end

section
/-!
SUPPORT. Fields that share no bit, and what the posting of an event to a page leaves of the page's own registers.
-/

namespace Sys2Proof.Machine

variable (s : State)

/-! ## Fields that share no bit -/

/-- The two fields share no bit: they stand in different registers, or one above the other. -/
@[simp] abbrev Fld.apart (f g : Fld) : Prop :=
  g.addr ≠ f.addr ∨ f.lsb + f.width ≤ 32 ∧ (f.lsb + f.width ≤ g.lsb ∨ g.lsb + g.width ≤ f.lsb)

/-- A field that shares no bit with the one written reads as before. -/
@[simp] theorem State.fld_setFld_apart {f g : Fld} (v : Nat) (h : f.apart g) : (s.setFld f v).fld g = s.fld g := by
  by_cases ha : g.addr = f.addr
  · obtain ⟨hf, habove | hbelow⟩ := h.resolve_left (not_not_intro ha)
    · exact s.fld_setFld_above v ha hf habove
    · exact s.fld_setFld_below v ha hf hbelow
  · exact s.fld_setFld_addr v ha

@[simp] theorem State.flag_setFld_apart {f g : Fld} (v : Nat) (h : f.apart g) : (s.setFld f v).flag g = s.flag g := by
  rw [flag, flag, s.fld_setFld_apart v h]

@[simp] theorem State.flag_wr_ne {f : Fld} {a : Nat} (v : Word) (h : f.addr ≠ a) : (s.wr a v).flag f = s.flag f := by
  rw [flag, flag, s.fld_wr_ne v h]

/-! ## Events posted to a page -/

/-- Posting writes four registers of its event queue. -/
theorem State.postTo_rd_ne {p q a : Nat} (e : DWord) (hstate : a ≠ Reg.EQ_STATE p q) (hpeak : a ≠ Reg.EQ_PEAK p q)
    (hlost : a ≠ Reg.EQ_LOST p q) (hposted : a ≠ Reg.EQ_POSTED p q) : (s.postTo p q e).rd a = s.rd a := by
  simp only [postTo]
  split <;> split <;>
    simp only [levelRise_rd _ p q hstate, State.rd_setFld_ne (f := Reg.EQ_PEAK_PEAK p q) _ _ hpeak,
      State.rd_bump_ne _ hlost, State.rd_tick_ne _ hposted] <;> rfl

/-- The registers above the event queues of a page's window. -/
abbrev aboveQueues (a : Nat) : Prop := 0x180 ≤ a % 0x100000

theorem State.postTo_rd_above {p q a : Nat} (e : DWord) (hq : q < 4) (h : aboveQueues a) :
    (s.postTo p q e).rd a = s.rd a := by
  refine s.postTo_rd_ne e ?_ ?_ ?_ ?_ <;>
    simp only [Reg.EQ_STATE, Reg.EQ_PEAK, Reg.EQ_LOST, Reg.EQ_POSTED, Reg.pageBase] <;> omega

theorem bits_lt (x lo n : Nat) : bits x lo n < 2 ^ n := Nat.mod_lt _ (Nat.two_pow_pos n)

theorem State.postPage_rd_above {p code src a : Nat} (data : Word) (h : aboveQueues a) :
    (s.postPage p code src data).rd a = s.rd a := by
  refine s.postTo_rd_above _ ?_ h
  split
  · exact bits_lt _ _ 2
  · decide

theorem State.postPage_fld_above {p code src : Nat} {f : Fld} (data : Word) (h : aboveQueues f.addr) :
    (s.postPage p code src data).fld f = s.fld f := by rw [fld, fld, s.postPage_rd_above data h]

end Sys2Proof.Machine
end

section
/-! Ashlars start, are cancelled, and end with their last cell (R123, R124, R126). -/

namespace Sys2Proof.Machine

variable {s : State} {p : PageNo}

theorem aboveQueues_ashState (p : Nat) : aboveQueues (Reg.PSG_ASH_STATUS_STATE p).addr := by
  change 0x180 ≤ (0x3000000 + p * 0x100000 + 0x10110) % 0x100000
  omega

/-- STATE of an ashlar that has ended: complete, cancelled, or broken. -/
def ashlarState (status : Nat) : Nat := match status with | 0 => 2 | 2 => 4 | _ => 3

theorem ashlarState_lt (status : Nat) : ashlarState status < 8 := by
  unfold ashlarState
  split <;> decide

/-- The page and its status of an ashlar that has ended, before its event is posted. -/
def State.ashlarEnded (s : State) (p : Nat) (a : Ashlar) (status : Nat) : State :=
  let t := s.toHost p (a.addr + ceilDiv (8 * a.total) 64 * 64) (ashlarRecord (s.page p).ashSeq a status)
  let t := t.setPage p { t.page p with ashlar := none }
  let t := t.setFld (Reg.PSG_ASH_STATUS_STATE p) (ashlarState status)
  if status = 1 then t.setFld (Reg.PSG_ASH_STATUS_RETRY_EXHAUSTED p) 1 else t

theorem State.endAshlar_eq (s : State) (p : Nat) (a : Ashlar) (status : Nat) : s.endAshlar p a status =
    (s.ashlarEnded p a status).postPage p 0x011 (p + status * 16 + a.restarts * 256) a.epoch := rfl

theorem State.ashlarEnded_spec (s : State) (p : Nat) (a : Ashlar) (status : Nat) :
    ((s.ashlarEnded p a status).page p).ashlar = none ∧
    (s.ashlarEnded p a status).fld (Reg.PSG_ASH_STATUS_STATE p) = ashlarState status := by
  unfold State.ashlarEnded
  extract_lets t src t2 t3
  have hpage : (t3.page p).ashlar = none := congrArg PageState.ashlar (t.page_setPage_same p _)
  have hstate : t3.fld (Reg.PSG_ASH_STATUS_STATE p) = ashlarState status :=
    (t2.fld_setFld_same _ _ (by simp)).trans (Nat.mod_eq_of_lt (ashlarState_lt status))
  clear_value t3
  split
  · exact ⟨hpage, (t3.fld_setFld_apart _ (by simp)).trans hstate⟩
  · exact ⟨hpage, hstate⟩

/-- An ashlar that ends leaves its page, and STATE shows how. -/
theorem State.endAshlar_spec (s : State) (p : Nat) (a : Ashlar) (status : Nat) :
    ((s.endAshlar p a status).page p).ashlar = none ∧
    (s.endAshlar p a status).fld (Reg.PSG_ASH_STATUS_STATE p) = ashlarState status := by
  obtain ⟨hpage, hstate⟩ := s.ashlarEnded_spec p a status
  rw [endAshlar_eq, State.postPage_fld_above _ _ (aboveQueues_ashState p)]
  exact ⟨hpage, hstate⟩

theorem exec_start {t : State} (h : s.takes p (Reg.PSG_ASH_CMD p)) (hop : s.startAshlar p = t) :
    exec (.start p) s = .next { s with regs := t.regs, pages := t.pages } := by
  change execStart p s = _
  rw [execStart, live_exact s _ h.1 rfl rfl, onWrite_takes s _ h, hop]

theorem exec_cancel {t : State} (h : s.takes p (Reg.PSG_ASH_CMD p)) (hop : s.ashlarCancel p = t) :
    exec (.cancel p) s = .next { s with regs := t.regs, eqs := t.eqs, out := t.out, pages := t.pages } := by
  change execCancel p s = _
  rw [execCancel, live_exact s _ h.1 rfl rfl, onWrite_takes s _ h, hop]

theorem exec_ashlarDone {t : State} (h : s.awake) (hop : s.ashlarDone p = t) :
    exec (.ashlarDone p) s = .next { s with regs := t.regs, eqs := t.eqs, out := t.out, pages := t.pages } := by
  change execAshlarDone p s = _
  rw [execAshlarDone, live_exact s _ h rfl rfl, hop]

/-- A START with no ashlar running. -/
theorem start_completes (h : s.takes p (Reg.PSG_ASH_CMD p)) (hnone : (s.page p).ashlar = none) :
    Completes (.start p) s fun t =>
      (∃ a, (t.page p).ashlar = some a ∧ a.epoch = s.rd Reg.SIG_EPOCH ∧ a.copied = 0 ∧ a.restarts = 0 ∧
        a.addr % 64 = 0) ∧
      t.fld (Reg.PSG_ASH_STATUS_STATE p) = 1 ∧ t.rd (Reg.PSG_ASH_EPOCH p) = s.rd Reg.SIG_EPOCH ∧
      OnlyRegs { s with pages := t.pages } t [Reg.PSG_ASH_STATUS p, Reg.PSG_ASH_EPOCH p] := by
  have hop : s.startAshlar p = s.startAshlar p := rfl
  conv_rhs at hop => rw [State.startAshlar, hnone]
  refine ⟨_, exec_start h hop, ⟨_, congrArg PageState.ashlar (s.page_setPage_same p _), rfl, rfl, rfl, ?_⟩, ?_, ?_, rfl,
    fun b hb => ?_⟩
  · exact Nat.mul_mod_left _ 64
  · refine (State.fld_wr_ne _ _ (by simp)).trans ((State.fld_setFld_apart _ _ (by simp)).trans ?_)
    exact State.fld_setFld_same _ _ _ (by simp)
  · exact State.rd_wr_same _ _ _
  · obtain ⟨hstatus, hepoch⟩ : b ≠ Reg.PSG_ASH_STATUS p ∧ b ≠ Reg.PSG_ASH_EPOCH p := by simpa using hb
    exact (State.rd_wr_ne _ _ hepoch).trans ((State.rd_setFld_ne _ _ hstatus).trans (State.rd_setFld_ne _ _ hstatus))

theorem start_ignored {a : Ashlar} (h : s.takes p (Reg.PSG_ASH_CMD p)) (ha : (s.page p).ashlar = some a) :
    Completes (.start p) s fun t =>
      t.flag (Reg.PSG_ASH_STATUS_START_IGNORED p) = true ∧ OnlyRegs s t [Reg.PSG_ASH_STATUS p] := by
  have hop : s.startAshlar p = s.setFld (Reg.PSG_ASH_STATUS_START_IGNORED p) 1 := by rw [State.startAshlar, ha]
  exact ⟨_, exec_start h hop, s.flag_setFld_one _ rfl (by simp),
    (OnlyRegs.refl s _).setFld (Reg.PSG_ASH_STATUS_START_IGNORED p) 1 (by simp)⟩

theorem cancel_completes {a : Ashlar} (h : s.takes p (Reg.PSG_ASH_CMD p)) (ha : (s.page p).ashlar = some a) :
    Completes (.cancel p) s fun t =>
      (t.page p).ashlar = none ∧ t.fld (Reg.PSG_ASH_STATUS_STATE p) = 4 ∧
      { t with regs := s.regs, eqs := s.eqs, out := s.out, pages := s.pages } = s := by
  have hop : s.ashlarCancel p = s.endAshlar p a 2 := by rw [State.ashlarCancel, ha]
  obtain ⟨hpage, hstate⟩ := s.endAshlar_spec p a 2
  generalize s.endAshlar p a 2 = t at hop hpage hstate
  exact ⟨_, exec_cancel h hop, hpage, hstate, rfl⟩

theorem ashlarDone_completes {a : Ashlar} (h : s.awake) (ha : (s.page p).ashlar = some a)
    (hpath : s.fld (Reg.PG_PATH_ACTIVE p) ≠ 0) :
    Completes (.ashlarDone p) s fun t =>
      (t.page p).ashlar = none ∧ t.fld (Reg.PSG_ASH_STATUS_STATE p) = 2 ∧
      { t with regs := s.regs, eqs := s.eqs, out := s.out, pages := s.pages } = s := by
  have hop : s.ashlarDone p = (s.copyCells p a a.copied (a.total - a.copied)).endAshlar p { a with copied := a.total } 0 := by
    rw [State.ashlarDone, ha]
    exact if_neg hpath
  obtain ⟨hpage, hstate⟩ :=
    (s.copyCells p a a.copied (a.total - a.copied)).endAshlar_spec p { a with copied := a.total } 0
  generalize State.endAshlar _ _ _ _ = t at hop hpage hstate
  exact ⟨_, exec_ashlarDone h hop, hpage, hstate, rfl⟩

end Sys2Proof.Machine

open Sys2Proof.Machine in
/-- Settles O10: a START writes the page's ashlar, and every end goes through the one way in which an ashlar ends. -/
theorem ashlarsStartAndEnd : Obligations.AshlarsStartAndEnd :=
  fun _ _ => ⟨start_completes, fun _ h ha => ⟨start_ignored h ha, cancel_completes h ha⟩,
    fun _ h ha hpath => ashlarDone_completes h ha hpath⟩

end

section
/-!
Write groups, batches and bonds (R108, R111, R127): what a doorbell queues, what a batch writes into the forming epoch,
and what a bond that is not complete in time leaves.
-/

namespace Sys2Proof.Machine

variable {s : State}

/-! ## Doorbells -/

theorem exec_psgWgDb {p : PageNo} {t : State} (h : s.takes p (Reg.PSG_WG_DB p)) (hop : s.groupDoorbell p = t) :
    exec (.psgWgDb p) s = .next { s with regs := t.regs, sig := t.sig, nextId := t.nextId } := by
  change execPsgWgDb p s = _
  rw [execPsgWgDb, live_exact s _ h.1 rfl rfl, onWrite_takes s _ h, hop]

/-- Every cell of the group is in use and may be written by the page. -/
theorem State.groupMay_iff (s : State) (p n : Nat) :
    (((List.range n).map (s.groupWrite p)).all fun w => s.inUse w.cell && s.hostMay p w.cell) = true ↔
      ∀ k < n, s.inUse (s.fld (Reg.PSG_WG_CELL_CELL p k)) = true ∧
        s.hostMay p (s.fld (Reg.PSG_WG_CELL_CELL p k)) = true := by
  simp [groupWrite, List.all_eq_true]

theorem psgWgDb_completes {p : PageNo} (h : s.takes p (Reg.PSG_WG_DB p)) :
    Completes (.psgWgDb p) s fun t =>
      { t with regs := s.regs, sig := s.sig, nextId := s.nextId } = s ∧
      (if s.flag (Reg.PSG_WG_STATUS_BUSY p) then
        t.flag (Reg.PSG_WG_STATUS_BUSY_WRITE p) = true ∧ t.sig = s.sig
      else if s.fld (Reg.PSG_WG_COUNT_COUNT p) = 0 ∨ 512 < s.fld (Reg.PSG_WG_COUNT_COUNT p) then
        t.flag (Reg.PSG_WG_STATUS_RANGE p) = true ∧ t.sig = s.sig
      else if ∀ k < s.fld (Reg.PSG_WG_COUNT_COUNT p), s.inUse (s.fld (Reg.PSG_WG_CELL_CELL p k)) = true ∧
          s.hostMay p (s.fld (Reg.PSG_WG_CELL_CELL p k)) = true then
        t.flag (Reg.PSG_WG_STATUS_BUSY p) = true ∧
        ∃ b, t.sig.batches = s.sig.batches ++ [b] ∧ b.src = .group p ∧
          b.items.length = s.fld (Reg.PSG_WG_COUNT_COUNT p)
      else t.flag (Reg.PSG_WG_STATUS_DENIED p) = true ∧ t.sig = s.sig) := by
  refine ⟨_, exec_psgWgDb h rfl, rfl, ?_⟩
  unfold State.groupDoorbell
  extract_lets n ws
  by_cases hbusy : s.flag (Reg.PSG_WG_STATUS_BUSY p) = true
  · rw [if_pos hbusy, if_pos hbusy]
    exact ⟨s.flag_setFld_one _ rfl (by simp), rfl⟩
  rw [if_neg hbusy, if_neg hbusy]
  by_cases hrange : n = 0 ∨ 512 < n
  · rw [if_pos hrange, if_pos hrange]
    exact ⟨s.flag_setFld_one _ rfl (by simp), rfl⟩
  rw [if_neg hrange, if_neg hrange]
  by_cases hmay : ∀ k < n, s.inUse (s.fld (Reg.PSG_WG_CELL_CELL p k)) = true ∧
      s.hostMay p (s.fld (Reg.PSG_WG_CELL_CELL p k)) = true
  · rw [if_pos hmay, if_pos ((s.groupMay_iff p n).2 hmay)]
    exact ⟨s.flag_setFld_one (Reg.PSG_WG_STATUS_BUSY p) rfl (by simp), _, rfl, rfl, by simp [ws, n]⟩
  · rw [if_neg hmay, if_neg fun hall => hmay ((s.groupMay_iff p n).1 hall)]
    exact ⟨s.flag_setFld_one _ rfl (by simp), rfl⟩

/-! ## Batches -/

theorem oldestOf_ne_none {vs : List Ver} (h : vs ≠ []) : oldestOf vs ≠ none := by
  obtain ⟨v, vs, rfl⟩ := List.exists_cons_of_ne_nil h
  rw [oldestOf]
  split
  · exact Option.some_ne_none _
  · split <;> exact Option.some_ne_none _

theorem State.restartAshlar_cells (s : State) (p : Nat) (a : Ashlar) : (s.restartAshlar p a).cells = s.cells := by
  unfold State.restartAshlar
  split
  · rw [endAshlar_eq]
    exact iteInduction (motive := fun t : State => t.cells = s.cells) (fun _ => rfl) fun _ => rfl
  · rfl

theorem State.pinLost_cells (s : State) (p n : Nat) : (s.pinLost p n).cells = s.cells := by
  unfold State.pinLost
  exact iteInduction (motive := fun t : State => t.cells = s.cells) (fun _ => rfl) fun _ => rfl

/-- What loses its hold on a version is a page, not a cell. -/
theorem State.holderLost_cells (s : State) (n : Nat) (base : Bool) (told tnext : Word) (p : Nat) :
    (s.holderLost n base told tnext p).cells = s.cells := by
  unfold State.holderLost
  extract_lets t
  have ht : t.cells = s.cells := by
    unfold t
    split
    · exact s.pinLost_cells p n
    · rfl
  clear_value t
  split
  · exact ht
  · exact (t.restartAshlar_cells p _).trans ht

theorem State.reclaim_cells (s : State) (n : Nat) (base : Bool) (told tnext : Word) :
    (s.reclaim n base told tnext).cells = s.cells := by
  unfold State.reclaim
  refine (foldl_keeps State.cells (fun t p => by exact t.holderLost_cells n base told tnext p) _ _).trans ?_
  split <;> rfl

theorem State.cell_congr {t : State} (h : t.cells = s.cells) (k : Nat) : t.cell k = s.cell k := by rw [cell, cell, h]

/-- A cell that is written has the word as its version of the epoch, and no other cell changes. -/
theorem State.writeCell_cell (s : State) (n : Nat) (f : Word) (w : DWord) (isBase : Bool) :
    (∃ v ∈ ((s.writeCell n f w isBase).cell n).vers, v.tag = f ∧ v.word = w) ∧
    ∀ k, k ≠ n → (s.writeCell n f w isBase).cell k = s.cell k := by
  unfold State.writeCell
  extract_lets c fresh
  split
  · next v hv =>
    refine ⟨?_, fun k hk => s.cell_setCell_ne _ hk⟩
    rw [s.cell_setCell_same]
    have hmem := List.mem_of_find?_eq_some hv
    have htag : v.tag = f := by simpa using List.find?_some hv
    exact ⟨{ v with word := w }, List.mem_map.2 ⟨v, hmem, if_pos rfl⟩, htag, rfl⟩
  · split
    · refine ⟨?_, fun k hk => s.cell_setCell_ne _ hk⟩
      have hcell : ∀ c' : Cell, ((s.setCell n c').useFree.cell n) = c' := s.cell_setCell_same n
      rw [hcell]
      exact ⟨⟨pickSlot s.freeCnt c.emptySlots, f, w, isBase⟩, List.mem_append_right c.vers List.mem_cons_self, rfl, rfl⟩
    · next hfull =>
      split
      · next hnone =>
        have hvers : c.vers ≠ [] := fun hnil => hfull (by simp [Cell.emptySlots, hnil])
        exact absurd hnone (oldestOf_ne_none hvers)
      · next o _ =>
        extract_lets rest tnext t vs
        have ht : ∀ k, t.cell k = s.cell k := State.cell_congr (s.reclaim_cells n _ _ _)
        refine ⟨?_, fun k hk => (t.cell_setCell_ne _ hk).trans (ht k)⟩
        rw [t.cell_setCell_same]
        exact ⟨⟨o.slot, f, w, isBase⟩, List.mem_append_right rest List.mem_cons_self, rfl, rfl⟩

/-- A batch with one write of a cell in use that has no bond is written as a whole. -/
theorem State.writeAll_put {n : Nat} {w : DWord} (huse : s.inUse n = true) (hbond : s.bondOf n = none) :
    (s.writeAll [⟨n, .put w⟩]).cells = (s.writeCell n s.forming w false).cells ∧
    (s.writeAll [⟨n, .put w⟩]).sig.batches = s.sig.batches := by
  have hone : [(⟨n, .put w⟩ : CellWrite)].foldl State.batchWrite s = s.writeCell n s.forming w false := by
    simp only [List.foldl_cons, List.foldl_nil, batchWrite, hbond, applyWrite, huse, if_true]
  rw [writeAll, hone]
  exact ⟨rfl, rfl⟩

theorem exec_batchWritten {t : State} (h : s.awake) (hop : s.batchWritten = t) :
    exec .batchWritten s = .next { s with
      regs := t.regs, eqs := t.eqs, out := t.out, freeCnt := t.freeCnt, cells := t.cells, sig := t.sig
      pages := t.pages } := by
  change execBatchWritten s = _
  rw [execBatchWritten, live_exact s _ h rfl rfl, hop]

/-- The state without batch `id`. -/
def State.withoutBatch (s : State) (id : Nat) : State :=
  { s with sig := { s.sig with batches := s.sig.batches.filter fun x => x.id != id } }

/-- A write group whose batch is its one write. -/
theorem State.batchWritten_group {b : Batch} {p n : Nat} {w : DWord} (hb : s.sig.batches = [b]) (hsrc : b.src = .group p)
    (hitems : b.items = [.write ⟨n, .put w⟩]) : s.batchWritten =
      (((s.wr (Reg.PSG_WG_EPOCH p) s.forming).writeAll [⟨n, .put w⟩]).withoutBatch b.id).batchDone (.group p) := by
  have hnext : nextBatch [] s.sig.batches = some (b, [⟨n, .put w⟩]) := by
    simp [hb, nextBatch, hitems, batchReady]
  simp only [State.batchWritten, hnext, hsrc, withoutBatch]

theorem State.batchDone_group (p : Nat) :
    (s.batchDone (.group p)).flag (Reg.PSG_WG_STATUS_BUSY p) = false ∧
    (s.batchDone (.group p)).flag (Reg.PSG_WG_STATUS_DONE p) = true :=
  ⟨(State.flag_setFld_apart _ _ (by simp)).trans (s.flag_setFld_zero _ (by simp)), State.flag_setFld_one _ _ rfl (by simp)⟩

theorem batchWritten_completes {b : Batch} {p : PageNo} {n : Nat} {w : DWord} (h : s.awake) (hb : s.sig.batches = [b])
    (hsrc : b.src = .group p) (hitems : b.items = [.write ⟨n, .put w⟩]) (huse : s.inUse n = true)
    (hbond : s.bondOf n = none) :
    Completes .batchWritten s fun t =>
      (∃ v ∈ (t.cell n).vers, v.tag = s.forming ∧ v.word = w) ∧ t.sig.batches = [] ∧
      t.flag (Reg.PSG_WG_STATUS_BUSY p) = false ∧ t.flag (Reg.PSG_WG_STATUS_DONE p) = true ∧
      ∀ k, k ≠ n → t.cell k = s.cell k := by
  have hop := State.batchWritten_group hb hsrc hitems
  have hforming : (s.wr (Reg.PSG_WG_EPOCH p) s.forming).forming = s.forming := by
    have hepoch : (s.wr (Reg.PSG_WG_EPOCH p) s.forming).rd Reg.SIG_EPOCH = s.rd Reg.SIG_EPOCH :=
      State.rd_wr_ne _ _ (by unfold Reg.SIG_EPOCH Reg.PSG_WG_EPOCH Reg.pageBase; omega)
    rw [State.forming, State.committing, hepoch]
    rfl
  obtain ⟨hcells, hbatches⟩ := State.writeAll_put (s := s.wr (Reg.PSG_WG_EPOCH p) s.forming) (w := w) huse hbond
  obtain ⟨hcell, hother⟩ := (s.wr (Reg.PSG_WG_EPOCH p) s.forming).writeCell_cell n s.forming w false
  rw [hforming] at hcells
  generalize State.writeCell _ _ _ _ _ = c at hcells hcell hother
  generalize State.writeAll _ _ = u at hop hcells hbatches
  have hu := State.cell_congr hcells
  have hgone : (u.withoutBatch b.id).sig.batches = [] := by
    change u.sig.batches.filter (fun x => x.id != b.id) = []
    rw [hbatches]
    change s.sig.batches.filter (fun x => x.id != b.id) = []
    simp [hb]
  obtain ⟨hbusy, hdone⟩ := State.batchDone_group (s := u.withoutBatch b.id) p
  refine ⟨_, exec_batchWritten h hop, ?_, hgone, hbusy, hdone, fun k hk => (hu k).trans (hother k hk)⟩
  exact (hu n).symm ▸ hcell

/-! ## Bonds -/

theorem bondTimeout_completes {k : Fin 1024} {x : Bond} (h : s.awake)
    (hx : s.sig.bonds.find? (fun y => y.bond == k.val) = some x)
    (hdue : x.since + (if s.fld Reg.SIG_BOND_TMO_TMO_US = 0 then 1000 else s.fld Reg.SIG_BOND_TMO_TMO_US) * 65536000
      ≤ s.tb.local16) :
    Completes (.bondTimeout k) s fun t =>
      t.sig = { s.sig with bonds := s.sig.bonds.filter fun y => y.bond != k.val } ∧
      t.rd Reg.SIG_BOND_DROP = satInc (s.rd Reg.SIG_BOND_DROP) ∧
      t.flag Reg.SIG_FLAGS_BOND_TMO_HIT = true ∧
      OnlyRegs { s with sig := t.sig } t [Reg.SIG_BOND_DROP, Reg.SIG_FLAGS] := by
  have hop : s.bondTimeout k = (State.bump { s with sig := { s.sig with
      bonds := s.sig.bonds.filter fun y => y.bond != k.val } } Reg.SIG_BOND_DROP).setFld
        Reg.SIG_FLAGS_BOND_TMO_HIT 1 := by
    rw [State.bondTimeout, hx]
    exact if_pos hdue
  have hexec : exec (.bondTimeout k) s = .next { s with regs := (s.bondTimeout k).regs, sig := (s.bondTimeout k).sig } := by
    change execBondTimeout k s = _
    rw [execBondTimeout, live_exact s _ h rfl rfl]
  rw [hop] at hexec
  refine ⟨_, hexec, rfl, ?_, State.flag_setFld_one _ _ rfl (by decide), rfl, fun a ha => ?_⟩
  · exact (State.rd_setFld_ne _ _ (by decide)).trans (State.rd_bump_same _ _)
  · obtain ⟨hdrop, hflags⟩ : a ≠ Reg.SIG_BOND_DROP ∧ a ≠ Reg.SIG_FLAGS := by simpa using ha
    exact (State.rd_setFld_ne _ _ hflags).trans (State.rd_bump_ne _ hdrop)

end Sys2Proof.Machine

open Sys2Proof.Machine in
/-- Settles O11: a doorbell takes the first branch that holds, and a batch of one write is one write of its cell. -/
theorem batchesEnterTheSignalSpace : Obligations.BatchesEnterTheSignalSpace :=
  fun _ _ => ⟨psgWgDb_completes, fun _ _ _ h hb hsrc hitems huse hbond =>
    batchWritten_completes h hb hsrc hitems huse hbond, fun _ _ h hx hdue => bondTimeout_completes h hx hdue⟩

end

section
/-!
SUPPORT. How a command that runs out of reset is shown to complete.

A phase tracker that loses its reference (R142 to R145): no crossing falls at that instant, so that the command is only
the change of state, with the position of the instant held.
-/

namespace Sys2Proof.Machine

variable {s : State}

/-! ## Completing out of reset -/

/-- Out of reset a command is answered with what its meaning makes; the queue and the reset pins stay. -/
theorem completes_of_live {c : Instr} {f : State → State} {t : State} {P : State → Prop} (h : s.awake)
    (hexec : exec c s = live s f) (hop : f s = t)
    (hP : P { t with pending := s.pending, dev := { t.dev with held := false } }) : Completes c s P :=
  ⟨_, by rw [hexec, live_next s f h, hop], hP⟩

/-- What leaves memory and flash alone changes no byte. -/
theorem SameBytes.of_mems {t : State} (h : t.mems = s.mems) : SameBytes s t := by
  have hmem : t.mem = s.mem := congrArg (fun m => m.1) h
  exact ⟨fun a => by rw [State.byte, State.byte, hmem], (congrArg (fun m => m.2.1) h :)⟩

/-! ## Positions -/

theorem wrapTo_lt (n : Nat) (i : Int) : wrapTo n i < 2 ^ n := by
  have hpow : (0 : Int) < (2 ^ n : Nat) := by exact_mod_cast Nat.two_pow_pos n
  unfold wrapTo
  have := Int.emod_lt_of_pos i hpow
  have := Int.emod_nonneg i hpow.ne'
  omega

theorem wrapTo_natCast {n a : Nat} (h : a < 2 ^ n) : wrapTo n (a : Int) = a := by
  rw [wrapTo, ← Int.natCast_emod, Int.toNat_natCast, Nat.mod_eq_of_lt h]

/-- A tracker without a limit stands at its position when it was placed there just now. -/
theorem Tracker.posAt_placed {t : Tracker} (hlimit : t.limit = none) (hpos : t.pos < 2 ^ 48) (st ppm : Nat) :
    t.posAt st ppm t.at16 = t.pos := by
  have hrun : t.freeRun ppm t.at16 = 0 := by simp [freeRun, slewPart]
  simp only [posAt, hlimit, hrun, Int.add_zero, wrapTo_natCast hpos, ite_self]

/-- A tracker that runs is at a position of 48 bits. -/
theorem State.ptPos_lt {n : Nat} (h : s.ptState n ≠ 0) : s.ptPos n < 2 ^ 48 := by
  rw [ptPos, Tracker.posAt, if_neg h]
  exact wrapTo_lt 48 _

/-- A tracker in SEARCH or CAPTURE reports no crossing. -/
theorem State.crossings_unlocked {n : Nat} (h : s.ptState n = 0 ∨ s.ptState n = 1) : s.crossings n = s := by
  refine if_neg fun ⟨hlocked, _⟩ => ?_
  rcases h with h | h <;> rw [h] at hlocked <;> exact absurd hlocked (by decide)

/-! ## The states entered -/

variable (s)

/-- SYN_PERIOD taken at once leaves the state register of every tracker alone. -/
theorem State.synPeriodNow_rd_state {n : Nat} (hn : n < 4) (k : Nat) :
    (s.synPeriodNow n).rd (Reg.PHS_STATE k) = s.rd (Reg.PHS_STATE k) := by
  obtain ⟨-, hregs⟩ := s.synPeriodNow_onlyRegs n
  refine hregs _ ?_
  simp only [List.mem_cons, List.not_mem_nil, or_false, blockOf, Reg.PHS_SYN, Reg.PHS_STATE]
  rw [if_pos (by omega)]
  omega

theorem State.ptToSearch_valid {n : Nat} (hn : n < 4) : (s.ptToSearch n).flag (Reg.PHS_STATE_VALID n) = false := by
  rw [flag, ptToSearch_eq, fld, synPeriodNow_rd_state _ hn]
  change ((s.ptHeld n).showSearch n).flag (Reg.PHS_STATE_VALID n) = false
  rw [showSearch, flag_setFld_apart _ _ (by simp), flag_setFld_zero _ _ (by simp)]

/-- The tracker in HOLDOVER from position `p`, with the mean of its estimate, before the event (R144). -/
def State.heldOver (n p : Nat) (e : Int × Nat) : State :=
  ((s.setTracker n { s.tracker n with
    pos := p, at16 := s.tb.local16, runN := e.1, runD := e.2, estN := e.1, estD := e.2, slew := 0,
    limit := none, holdStart := p / mod24 }).setFld (Reg.PHS_STATE_STATE n) ptHoldover).setFld
    (Reg.PHS_FLAGS_MISS n) 1

theorem State.ptLost_capture {n : Nat} (h : s.ptState n = 1) : s.ptLost n = s.ptToSearch n := if_pos h

theorem State.ptLost_keystone {n : Nat} (h : s.ptState n = 2) :
    s.ptLost n = (s.heldOver n (s.ptPos n) (s.ptEst n)).postEvent 0x021 n (s.phaseStamp n) := by
  rw [ptLost, if_neg (by rw [h]; decide), if_pos h]
  rfl

theorem State.heldOver_state (n p : Nat) (e : Int × Nat) : (s.heldOver n p e).ptState n = 3 := by
  rw [ptState, heldOver, fld_setFld_addr _ _ (by simp), fld_setFld_same _ _ _ (by simp)]
  rfl

theorem State.heldOver_miss (n p : Nat) (e : Int × Nat) : (s.heldOver n p e).flag (Reg.PHS_FLAGS_MISS n) = true :=
  flag_setFld_one _ _ (by simp) (by simp)

theorem State.heldOver_tracker (n p : Nat) (e : Int × Nat) :
    (s.heldOver n p e).tracker n = { s.tracker n with
      pos := p, at16 := s.tb.local16, runN := e.1, runD := e.2, estN := e.1, estD := e.2, slew := 0,
      limit := none, holdStart := p / mod24 } := Tbl.get_set_same _ _ _ _

theorem State.heldOver_ptPos {n p : Nat} (hp : p < 2 ^ 48) (e : Int × Nat) : (s.heldOver n p e).ptPos n = p := by
  rw [ptPos, heldOver_tracker]
  exact Tracker.posAt_placed rfl hp _ _

variable {s}

/-- An event is no crossing. -/
theorem State.reported_postEvent {n : Nat} (hn : n < 4) (h : s.reported n) (code src : Nat) (data : Word) :
    (s.postEvent code src data).reported n := by
  have hstate : (s.postEvent code src data).ptState n = s.ptState n :=
      s.postEvent_fld _ _ _ (by simp [Reg.PHS_STATE]; omega)
  have hmax : (s.postEvent code src data).slewMax n = s.slewMax n := by
    rw [slewMax, slewMax, s.postEvent_fld _ _ _ (by simp [Reg.PHS_SLEW]; omega)]
  have hpos : (s.postEvent code src data).ptPos n = s.ptPos n := by
    rw [ptPos, ptPos, hstate, hmax]
    rfl
  rw [reported, hpos]
  exact h

theorem State.heldOver_reported {n : Nat} (hstate : s.ptState n ≠ 0) (h : s.reported n) (e : Int × Nat) :
    (s.heldOver n (s.ptPos n) e).reported n := by
  rw [reported, heldOver_ptPos s (ptPos_lt hstate), heldOver_tracker]
  exact h

/-! ## The commands -/

theorem referenceLost_capture {n : PtNo} (h : s.awake) (hrep : s.reported n) (hdue : s.refOverdue n = true)
    (hstate : s.ptState n = 1) : Completes (.referenceLost n) s fun t =>
      t.ptState n = 0 ∧ t.flag (Reg.PHS_STATE_VALID n) = false ∧ SameBytes s t := by
  have hsearch : (s.ptToSearch n).ptState n = 0 := by rw [State.ptToSearch_ptState s n.isLt, if_pos rfl]
  have hop : (if s.refOverdue n then ((s.crossings n).ptLost n).crossings n else s) = s.ptToSearch n := by
    rw [if_pos hdue, State.crossings_reported hrep, State.ptLost_capture s hstate,
      State.crossings_unlocked (.inl hsearch)]
  have hvalid := s.ptToSearch_valid n.isLt
  have hsame : SameBytes s (s.ptToSearch n) := .of_mems (s.ptToSearch_mems n)
  generalize s.ptToSearch n = t at *
  exact completes_of_live h rfl hop ⟨hsearch, hvalid, hsame⟩

theorem referenceLost_keystone {n : PtNo} (h : s.awake) (hrep : s.reported n) (hdue : s.refOverdue n = true)
    (hstate : s.ptState n = 2) : Completes (.referenceLost n) s fun t =>
      t.ptState n = 3 ∧ t.flag (Reg.PHS_FLAGS_MISS n) = true ∧ Posts s t 0x021 n (s.phaseStamp n) ∧
      SameBytes s t := by
  have hheld := State.heldOver_reported (by omega) hrep (s.ptEst n)
  have hop : (if s.refOverdue n then ((s.crossings n).ptLost n).crossings n else s)
      = (s.heldOver n (s.ptPos n) (s.ptEst n)).postEvent 0x021 n (s.phaseStamp n) := by
    rw [if_pos hdue, State.crossings_reported hrep, State.ptLost_keystone s hstate,
      State.crossings_reported (State.reported_postEvent n.isLt hheld _ _ _)]
  have hthree := s.heldOver_state n (s.ptPos n) (s.ptEst n)
  have hmiss := s.heldOver_miss n (s.ptPos n) (s.ptEst n)
  have heqs : ((s.heldOver n (s.ptPos n) (s.ptEst n)).postEvent 0x021 n (s.phaseStamp n)).eqs
      = (s.postEvent 0x021 n (s.phaseStamp n)).eqs := 
    postEvent_eqs_congr s (t := s.heldOver n (s.ptPos n) (s.ptEst n)) rfl rfl rfl _ _ _
  have hsame : SameBytes s (s.heldOver n (s.ptPos n) (s.ptEst n)) := .of_mems rfl
  generalize s.heldOver n (s.ptPos n) (s.ptEst n) = u at *
  have hthree' : (u.postEvent 0x021 n (s.phaseStamp n)).ptState n = 3 :=
    (u.postEvent_fld _ _ _ (by simp [Reg.PHS_STATE]; omega)).trans hthree
  have hmiss' : (u.postEvent 0x021 n (s.phaseStamp n)).flag (Reg.PHS_FLAGS_MISS n) = true := by
    rw [State.flag, u.postEvent_fld _ _ _ (by simp [Reg.PHS_FLAGS]; omega)]
    exact hmiss
  have hsame' : SameBytes s (u.postEvent 0x021 n (s.phaseStamp n)) := hsame
  generalize u.postEvent 0x021 n (s.phaseStamp n) = t at *
  exact completes_of_live h rfl hop ⟨hthree', hmiss', heqs, hsame'⟩

theorem holdExpired_completes {n : PtNo} (h : s.awake) (hrep : s.reported n) (hdue : s.holdOver n = true) :
    Completes (.holdExpired n) s fun t =>
      t.ptState n = 0 ∧ t.flag (Reg.PHS_STATE_VALID n) = false ∧ t.flag (Reg.PHS_FLAGS_HOLD_EXPIRED n) = true ∧
      Posts s t 0x022 n (s.phaseStamp n) ∧ SameBytes s t := by
  have hn := n.isLt
  have hsearch : (s.ptToSearch n).ptState n = 0 := by rw [State.ptToSearch_ptState s hn, if_pos rfl]
  have hvalid := s.ptToSearch_valid hn
  have hsame : SameBytes s (s.ptToSearch n) := .of_mems (s.ptToSearch_mems n)
  have hbeside : BesideTrackers s (s.ptToSearch n) := s.ptToSearch_beside n
  generalize hto : s.ptToSearch n = u at *
  have heqs : ((u.setFld (Reg.PHS_FLAGS_HOLD_EXPIRED n) 1).postEvent 0x022 n (s.phaseStamp n)).eqs
      = (s.postEvent 0x022 n (s.phaseStamp n)).eqs :=
    postEvent_eqs_congr s (t := u.setFld (Reg.PHS_FLAGS_HOLD_EXPIRED n) 1) (congrArg State.eqs hbeside :)
      (congrArg State.mem hbeside :) (congrArg State.tbl hbeside :) _ _ _
  have hstate (v : Word) : ((u.setFld (Reg.PHS_FLAGS_HOLD_EXPIRED n) 1).postEvent 0x022 n v).ptState n = 0 := by
    rw [State.ptState, State.postEvent_fld _ _ _ _ (by simp [Reg.PHS_STATE]; omega),
      State.fld_setFld_addr _ _ (by simp)]
    exact hsearch
  have hop : (if s.holdOver n then ((s.crossings n).ptExpire n).crossings n else s)
      = (u.setFld (Reg.PHS_FLAGS_HOLD_EXPIRED n) 1).postEvent 0x022 n (s.phaseStamp n) := by
    rw [if_pos hdue, State.crossings_reported hrep, State.ptExpire, hto]
    exact State.crossings_unlocked (.inl (hstate _))
  have hvalid' : ((u.setFld (Reg.PHS_FLAGS_HOLD_EXPIRED n) 1).postEvent 0x022 n (s.phaseStamp n)).flag
      (Reg.PHS_STATE_VALID n) = false := by
    rw [State.flag, State.postEvent_fld _ _ _ _ (by simp [Reg.PHS_STATE]; omega),
      State.fld_setFld_addr _ _ (by simp)]
    exact hvalid
  have hexpired : ((u.setFld (Reg.PHS_FLAGS_HOLD_EXPIRED n) 1).postEvent 0x022 n (s.phaseStamp n)).flag
      (Reg.PHS_FLAGS_HOLD_EXPIRED n) = true := by
    rw [State.flag, State.postEvent_fld _ _ _ _ (by simp [Reg.PHS_FLAGS]; omega)]
    exact u.flag_setFld_one _ (by simp) (by simp)
  have hstate' := hstate (s.phaseStamp n)
  have hsame' : SameBytes s ((u.setFld (Reg.PHS_FLAGS_HOLD_EXPIRED n) 1).postEvent 0x022 n (s.phaseStamp n)) := hsame
  generalize (u.setFld (Reg.PHS_FLAGS_HOLD_EXPIRED n) 1).postEvent 0x022 n (s.phaseStamp n) = t at *
  exact completes_of_live h (f := fun s => if s.holdOver n then ((s.crossings n).ptExpire n).crossings n else s)
    rfl hop ⟨hstate', hvalid', hexpired, heqs, hsame'⟩

end Sys2Proof.Machine

open Sys2Proof.Machine in
/-- Settles O13: where no crossing is to report, losing the reference is the change of the tracker's state alone, and
the state entered reports no crossing either. -/
theorem trackersLoseTheirReference : Obligations.TrackersLoseTheirReference := by
  intro n s h hrep
  exact ⟨referenceLost_capture h hrep, referenceLost_keystone h hrep, holdExpired_completes h hrep⟩

end

section
/-!
A phase tracker that acquires its reference (R136, R140, R141), and its forward crossings (R147). A tracker in SEARCH
or CAPTURE reports no crossing, so that a reference point is the acquisition alone.
-/

namespace Sys2Proof.Machine

variable {s : State} {n : Nat}

/-! ## Acquisition -/

/-- The tracker `n` has acquired from `s`: in CAPTURE, with a valid angle, at angle 0 of the next course since the
instant `at16`. -/
structure Acquired (s t : State) (n at16 : Nat) : Prop where
  state : t.ptState n = 1
  valid : t.flag (Reg.PHS_STATE_VALID n) = true
  pos : (t.tracker n).pos = ((s.tracker n).pos / 2 ^ 24 + 1) * 2 ^ 24 % 2 ^ 48
  placed : (t.tracker n).at16 = at16
  bytes : SameBytes s t

theorem State.ptAcquire_tracker (s : State) (dist : Int) (est : Int × Nat) :
    ((s.ptAcquire n 0 dist est).tracker n).pos = ((s.tracker n).pos / 2 ^ 24 + 1) * 2 ^ 24 % 2 ^ 48 ∧
    ((s.ptAcquire n 0 dist est).tracker n).at16 = s.tb.local16 := by
  have h : (s.ptAcquire n 0 dist est).tracker n = _ := Tbl.get_set_same _ _ _ _
  exact ⟨by rw [h]; simp [mod24, mod48], by rw [h]⟩

theorem State.acquired_ptAcquire (s : State) (dist : Int) (est : Int × Nat) :
    Acquired s (s.ptAcquire n 0 dist est) n s.tb.local16 := by
  obtain ⟨hpos, hat⟩ := s.ptAcquire_tracker (n := n) dist est
  refine ⟨?_, ?_, hpos, hat, .of_mems (by simp [ptAcquire])⟩
  · rw [ptState, ptAcquire, fld_wr_ne _ _ (by simp [Reg.PHS_STATE, Reg.PHS_EDGE]),
      fld_setFld_same _ _ _ (by simp)]
    rfl
  · rw [ptAcquire, flag_wr_ne _ _ (by simp [Reg.PHS_STATE, Reg.PHS_EDGE]), flag_setFld_apart _ _ (by simp),
      flag_setFld_one _ _ (by simp) (by simp)]

/-- A tracker that has acquired and notes its edge has acquired. -/
theorem Acquired.edge {t : State} {at16 : Nat} (h : Acquired s t n at16) (e : Option Nat) :
    Acquired s (t.setTracker n { t.tracker n with edge16 := e }) n at16 := by
  have htracker := t.tracker_setTracker_same n { t.tracker n with edge16 := e }
  exact ⟨h.state, h.valid, by rw [htracker, ← h.pos], by rw [htracker, ← h.placed], h.bytes⟩

/-- A rising edge whose interval lies in the band acquires (Table 4.1). -/
theorem State.mainsEdge_acquires {e : Nat} (hedge : s.fld (Reg.PHS_CFG_EDGE n) = 0) (hstate : s.ptState n = 0)
    (he : (s.tracker n).edge16 = some e) (hband : s.inBand n (s.tb.local16 - e) = true) :
    Acquired s (s.mainsEdge n true) n s.tb.local16 := by
  simp only [mainsEdge, hedge, hstate, he, hband, ptSearch, Option.map_some, if_true, if_neg Nat.zero_ne_one]
  exact (s.acquired_ptAcquire _ _).edge _

theorem State.ptEvent_mains (hon : s.ptOn n = true) (hkind : s.ptKind n = 0) (r : Bool) :
    s.ptEvent n (.edge r) = s.mainsEdge n r := by
  simp [ptEvent, hon, hkind]

/-- The state with the local counter at an instant `l`. -/
def State.atLocal (s : State) (l : Nat) : State := { s with tb := { s.tb with local16 := l } }

/-- Acquiring at an instant of the past is acquiring. -/
theorem State.ptFiltered_acquires {e a : Nat} (hstate : s.ptState n = 0) (hon : s.ptOn n = true)
    (hkind : s.ptKind n = 0) (hedge : s.fld (Reg.PHS_CFG_EDGE n) = 0) (he : (s.tracker n).edge16 = some e)
    (hage : s.glitchNs n ≤ a) (hband : s.inBand n (s.tb.local16 - a * 65536 - e) = true) :
    Acquired s (s.ptFiltered n (.edge true) a) n (s.tb.local16 - a * 65536) := by
  have hthen : Acquired (s.atLocal (s.tb.local16 - a * 65536))
      ((s.atLocal (s.tb.local16 - a * 65536)).mainsEdge n true) n (s.tb.local16 - a * 65536) :=
    mainsEdge_acquires hedge hstate he hband
  rw [← ptEvent_mains (s := s.atLocal (s.tb.local16 - a * 65536)) hon hkind] at hthen
  have hnow : s.ptFiltered n (.edge true) a =
      ((s.atLocal (s.tb.local16 - a * 65536)).ptEvent n (.edge true)).atLocal s.tb.local16 := if_pos hage
  rw [hnow]
  generalize (s.atLocal (s.tb.local16 - a * 65536)).ptEvent n (.edge true) = t at hthen ⊢
  exact ⟨hthen.state, hthen.valid, hthen.pos, hthen.placed, hthen.bytes⟩

/-- A synthetic point acquires (Table 4.2). -/
theorem State.synPoint_acquires (hstate : s.ptState n = 0) (hon : s.ptOn n = true) (hkind : s.ptKind n = 3)
    (hdue : s.synDue n = true) (hnew : (s.tracker n).syn16 ≠ some s.tb.local16) :
    Acquired s (s.synPoint n) n s.tb.local16 := by
  have hpos := s.tracker_setTracker_same n { s.tracker n with syn16 := some s.tb.local16 }
  have hop : s.synPoint n = (s.setTracker n { s.tracker n with syn16 := some s.tb.local16 }).ptAcquire n 0 mod24
      (mod24, s.synPeriod n * 65536) := by
    rw [synPoint, hon, hkind, hdue, if_pos (by simpa using hnew)]
    exact if_pos hstate
  rw [hop]
  generalize hu : s.setTracker n { s.tracker n with syn16 := some s.tb.local16 } = u at hpos ⊢
  obtain ⟨hst, hvalid, hp, hat, hsame⟩ := u.acquired_ptAcquire (n := n) mod24 (mod24, s.synPeriod n * 65536)
  rw [hpos] at hp
  subst hu
  exact ⟨hst, hvalid, hp, hat, hsame⟩

/-- A whole multiple of SYN_PERIOD that the last tick has reached makes a point due (R135). -/
theorem State.synDue_of_multiple {m : Int}
    (hlow : s.disc16At (s.tb.local16 - 131072) < m * ((s.synPeriod n : Nat) * 65536))
    (hhigh : m * ((s.synPeriod n : Nat) * 65536) ≤ s.disc16) : s.synDue n = true := by
  have hp : (0 : Int) < (s.synPeriod n : Nat) * 65536 := by
    have : 0 < s.synPeriod n := by exact lt_max_of_lt_left (by decide)
    omega
  have hdiv : m ≤ s.disc16 / ((s.synPeriod n : Nat) * 65536) := (Int.le_ediv_iff_mul_le hp).2 hhigh
  rw [synDue]
  exact decide_eq_true (lt_of_lt_of_le hlow (mul_le_mul_of_nonneg_right hdiv hp.le))

/-! ## The commands of a point -/

/-- A point of a tracker in SEARCH that acquires is the acquisition alone: there is nothing to report or to judge. -/
theorem State.point_acquires {t : State} {l : Nat} (hstate : s.ptState n = 0) (h : Acquired s t n l) :
    ((s.crossings n).pointJudge n t).crossings n = t := by
  rw [crossings_unlocked (.inl hstate), pointJudge, hstate, if_neg fun hc => Nat.zero_ne_one hc.1,
    crossings_unlocked (.inr h.state)]

theorem referencePoint_acquires {n : PtNo} {e a : Nat} (h : s.awake) (hstate : s.ptState n = 0) (hon : s.ptOn n = true)
    (hkind : s.ptKind n = 0) (hedge : s.fld (Reg.PHS_CFG_EDGE n) = 0) (he : (s.tracker n).edge16 = some e)
    (hage : s.glitchNs n ≤ a) (hband : s.inBand n (s.tb.local16 - a * 65536 - e) = true) :
    Completes (.referencePoint n ⟨.edge true, a⟩) s fun t =>
      t.ptState n = 1 ∧ t.flag (Reg.PHS_STATE_VALID n) = true ∧
      (t.tracker n).pos = ((s.tracker n).pos / 2 ^ 24 + 1) * 2 ^ 24 % 2 ^ 48 ∧
      (t.tracker n).at16 = s.tb.local16 - a * 65536 ∧ SameBytes s t := by
  have hacq := State.ptFiltered_acquires hstate hon hkind hedge he hage hband
  have hop : s.ptEventCross n (.edge true) a = s.ptFiltered n (.edge true) a := by
    have hpoint := State.point_acquires hstate hacq
    rw [State.ptEventCross, State.crossings_unlocked (.inl hstate)]
    rwa [State.crossings_unlocked (.inl hstate)] at hpoint
  generalize s.ptFiltered n (.edge true) a = t at hacq hop
  exact completes_of_live h (f := fun s => s.ptEventCross n (.edge true) a) rfl hop
    ⟨hacq.state, hacq.valid, hacq.pos, hacq.placed, hacq.bytes⟩

theorem syntheticReferencePoint_acquires {n : PtNo} (h : s.awake) (hstate : s.ptState n = 0) (hon : s.ptOn n = true)
    (hkind : s.ptKind n = 3) (hdue : s.synDue n = true) (hnew : (s.tracker n).syn16 ≠ some s.tb.local16) :
    Completes (.syntheticReferencePoint n) s fun t =>
      t.ptState n = 1 ∧ t.flag (Reg.PHS_STATE_VALID n) = true ∧
      (t.tracker n).pos = ((s.tracker n).pos / 2 ^ 24 + 1) * 2 ^ 24 % 2 ^ 48 ∧
      (t.tracker n).at16 = s.tb.local16 ∧ SameBytes s t := by
  have hacq := State.synPoint_acquires hstate hon hkind hdue hnew
  have hop : s.synPointCross n = s.synPoint n := by
    have hpoint := State.point_acquires hstate hacq
    rw [State.synPointCross, State.crossings_unlocked (.inl hstate)]
    rwa [State.crossings_unlocked (.inl hstate)] at hpoint
  generalize s.synPoint n = t at hacq hop
  exact completes_of_live h (f := fun s => s.synPointCross n) rfl hop
    ⟨hacq.state, hacq.valid, hacq.pos, hacq.placed, hacq.bytes⟩

/-- A level that has not held for the filter time is no edge (R136). -/
theorem exec_referencePoint_filtered {n : PtNo} {ev : RefEvent} {a : Nat} (h : s.awake) (hstate : s.ptState n = 0)
    (hage : a < s.glitchNs n) : exec (.referencePoint n ⟨ev, a⟩) s = .next s := by
  have hop : s.ptEventCross n ev a = s := by
    rw [State.ptEventCross, State.crossings_unlocked (.inl hstate), State.ptFiltered, if_neg (by omega),
      State.pointJudge, hstate, if_neg (by decide), State.crossings_unlocked (.inl hstate)]
  change live s (fun s => s.ptEventCross n ev a) = _
  rw [live_exact s _ h (by rw [hop]) (by rw [hop]), hop]

/-! ## Crossings within a course -/

theorem sdiff_48_of_near {a b : Nat} (h : b ≤ a) (hnear : a - b < 2 ^ 24) : sdiff 48 a b = (a - b : Nat) := by
  have hwrap : wrapTo 48 ((a : Int) - b) = a - b := by
    rw [← Int.ofNat_sub h, wrapTo_natCast (by omega)]
  rw [sdiff, hwrap, sgn, Nat.mod_eq_of_lt (by omega), if_pos (by omega)]

/-- Within a course no angle 0 is crossed. -/
theorem Span.courses_within {lo hi : Nat} (h : lo ≤ hi) (hcourse : hi / 2 ^ 24 = lo / 2 ^ 24) :
    (Span.mk lo (hi - lo)).courses 0 ((Span.mk lo (hi - lo)).crosses 0) = [] := by
  have hnone : (Span.mk lo (hi - lo)).crosses 0 = 0 := by
    simp only [Span.crosses, mod24]
    omega
  rw [Span.courses, hnone]
  rfl

/-- Within a course, with nothing that follows the angle, a crossing moves the high-water mark alone (R147). -/
theorem State.crossings_within (hlocked : s.ptState n = 2 ∨ s.ptState n = 3) (hmode : s.fld Reg.SIG_CADENCE_MODE ≠ 2)
    (hacts : s.acts = []) (hlow : (s.tracker n).hw < s.ptPos n)
    (hcourse : s.ptPos n / 2 ^ 24 = (s.tracker n).hw / 2 ^ 24) :
    s.crossings n = s.setTracker n { s.tracker n with hw := s.ptPos n } := by
  have hpos : s.ptPos n < 2 ^ 48 := ptPos_lt (by omega)
  have hnear : s.ptPos n - (s.tracker n).hw < 2 ^ 24 := by omega
  have hlater : later 48 (s.ptPos n) (s.tracker n).hw = true := by
    rw [later, sdiff_48_of_near hlow.le hnear]
    exact decide_eq_true (by omega)
  have hlen : wrapTo 48 ((s.ptPos n : Int) - (s.tracker n).hw) = s.ptPos n - (s.tracker n).hw := by
    rw [← Int.ofNat_sub hlow.le, wrapTo_natCast (by omega)]
  have hbound := Span.courses_within hlow.le hcourse
  rw [crossings, if_pos ⟨hlocked, hlater⟩, hlen]
  simp only [hbound, if_true]
  have hnone : s.armedEntries = [] := by rw [armedEntries, hacts, List.filterMap_nil]
  rw [hnone, List.foldl_nil, courseCommits, if_neg fun hc => hmode hc.1]

theorem exec_forwardCrossing {n : PtNo} (h : s.awake) (hlocked : s.ptState n = 2 ∨ s.ptState n = 3)
    (hmode : s.fld Reg.SIG_CADENCE_MODE ≠ 2) (hacts : s.acts = []) (hlow : (s.tracker n).hw < s.ptPos n)
    (hcourse : s.ptPos n / 2 ^ 24 = (s.tracker n).hw / 2 ^ 24) :
    exec (.forwardCrossing n) s = .next (s.setTracker n { s.tracker n with hw := s.ptPos n }) := by
  have hop := State.crossings_within hlocked hmode hacts hlow hcourse
  change live s (fun s => s.crossings n) = _
  rw [live_exact s _ h (by rw [hop]; rfl) (by rw [hop]; rfl), hop]

end Sys2Proof.Machine

open Sys2Proof.Machine in
/-- Settles O14: an acquisition ends in CAPTURE, where nothing is judged and no crossing reported; within a course the
span that a crossing covers holds no angle 0. -/
theorem trackersAcquireAndCross : Obligations.TrackersAcquireAndCross := by
  refine ⟨fun n s h hstate hon => ⟨?_, ?_, ?_⟩, fun n s h => exec_forwardCrossing h⟩
  · exact fun _ _ => referencePoint_acquires h hstate hon
  · exact fun _ _ => exec_referencePoint_filtered h hstate
  · intro m hkind hnew hlow hhigh
    exact syntheticReferencePoint_acquires h hstate hon hkind (State.synDue_of_multiple hlow hhigh) hnew

end

section
/-!
The commands of ACT_CMD (R179, R182): each acts on the entry that it names, or shows why it does not.
-/

namespace Sys2Proof.Machine

variable {s : State} {p : PageNo}

/-! ## Commands of a page -/

/-- A command that a page writes to a register, where it is taken: what its meaning makes, as far as the command may
change it. -/
theorem completes_onWrite {c : Instr} {a : Nat} {op : State → State} {u : State} {P : State → Prop}
    (frame : State → State → State) (h : s.takes p a)
    (hexec : exec c s = live s fun s => frame s (s.onWrite p a op))
    (hframe : ∀ u, (frame s u).pending = s.pending ∧ (frame s u).dev = s.dev) (hop : op s = u) (hP : P (frame s u)) :
    Completes c s P := by
  obtain ⟨hpending, hdev⟩ := hframe u
  have hu : s.onWrite p a op = u := (onWrite_takes s op h).trans hop
  exact ⟨_, by rw [hexec, live_exact s _ h.1 (by rw [hu]; exact hpending) (by rw [hu]; exact hdev), hu], hP⟩

/-! ## WRITE and READ -/

theorem actOk_false {ws : List Word} : actOk ws = false ↔ actCode ws = 0 ∨ 8 < actCode ws := by
  simp only [actOk, Bool.and_eq_false_iff, decide_eq_false_iff_not]
  omega

/-- What WRITE makes of entry `e` (R179). -/
structure Written (s t : State) (e : Nat) : Prop where
  others : ∀ k, k ≠ e → t.act k = s.act k
  outcome : if (s.act e).state = 1 then t.flag Reg.ACT_STATUS_ENTRY_BUSY = true ∧ t.acts = s.acts
    else if actCode s.actStaging = 0 ∨ 8 < actCode s.actStaging then
      t.flag Reg.ACT_STATUS_ENTRY_BAD = true ∧ t.acts = s.acts
    else (t.act e).words = s.actStaging ∧ (t.act e).state = 0 ∧ t.regs = s.regs

theorem State.actWrite_written (s : State) (e : Nat) : Written s (s.actWrite e) e := by
  by_cases hbusy : (s.act e).state = 1
  · have hop : s.actWrite e = s.setFld Reg.ACT_STATUS_ENTRY_BUSY 1 := if_pos hbusy
    rw [hop]
    refine ⟨fun _ _ => rfl, ?_⟩
    rw [if_pos hbusy]
    exact ⟨s.flag_setFld_one _ (by decide) (by decide), rfl⟩
  by_cases hok : actOk s.actStaging = true
  case' neg => rw [Bool.not_eq_true] at hok
  case pos =>
    have hop : s.actWrite e = s.setAct e { s.act e with
        words := s.actStaging, state := actDisarmed, lateStart := false, relAt := none,
        ghost := (s.act e).ghost.map fun g => { g with mine := false } } := by
      rw [actWrite, if_neg hbusy, hok]
      rfl
    rw [hop]
    refine ⟨fun k hk => s.act_setAct_ne _ hk, ?_⟩
    rw [if_neg hbusy, if_neg (by rw [← actOk_false, hok]; decide), act_setAct_same]
    exact ⟨rfl, rfl, rfl⟩
  case neg =>
    have hop : s.actWrite e = s.setFld Reg.ACT_STATUS_ENTRY_BAD 1 := by rw [actWrite, if_neg hbusy, hok]; rfl
    rw [hop]
    refine ⟨fun _ _ => rfl, ?_⟩
    rw [if_neg hbusy, if_pos (actOk_false.1 hok)]
    exact ⟨s.flag_setFld_one _ (by decide) (by decide), rfl⟩

theorem actWrite_completes {e : ActNo} (h : s.takes p Reg.ACT_CMD) : Completes (.actWrite p e) s fun t =>
    { t with regs := s.regs, acts := s.acts } = s ∧ (∀ k, k ≠ e.val → t.act k = s.act k) ∧
    (if (s.act e).state = 1 then t.flag Reg.ACT_STATUS_ENTRY_BUSY = true ∧ t.acts = s.acts
    else if actCode s.actStaging = 0 ∨ 8 < actCode s.actStaging then
      t.flag Reg.ACT_STATUS_ENTRY_BAD = true ∧ t.acts = s.acts
    else (t.act e).words = s.actStaging ∧ (t.act e).state = 0 ∧ t.regs = s.regs) := by
  have hw := s.actWrite_written e
  generalize hop : s.actWrite e = u at hw
  exact completes_onWrite (fun s u => { s with regs := u.regs, acts := u.acts }) h rfl (fun _ => ⟨rfl, rfl⟩) hop
    ⟨rfl, hw.others, hw.outcome⟩

/-- READ shows an entry in the staging registers (R179). -/
theorem State.actRead_shows (s : State) (e : Nat) :
    (s.actRead e).rd Reg.ACT_E_CTRL = (s.act e).words.getD 0 0 ∧
    (s.actRead e).rd Reg.ACT_E_PARAM = (s.act e).words.getD 5 0 ∧
    (s.actRead e).rd Reg.ACT_E_LAST = (s.act e).last ∧ (s.actRead e).rd Reg.ACT_E_COUNT = (s.act e).count := by
  have hmasks (a : Nat) (ha : ∀ k, a ≠ Reg.ACT_E_MASK k) (t : State) :
      ((List.range 8).foldl (fun t k => t.wr (Reg.ACT_E_MASK k) ((s.act e).words.getD (8 + k) 0)) t).rd a = t.rd a :=
    foldl_keeps (fun t : State => t.rd a) (fun t k => t.rd_wr_ne _ (ha k)) _ t
  have hctrl : ∀ k, Reg.ACT_E_CTRL ≠ Reg.ACT_E_MASK k := by intro k; simp only [Reg.ACT_E_CTRL, Reg.ACT_E_MASK]; omega
  have hparam : ∀ k, Reg.ACT_E_PARAM ≠ Reg.ACT_E_MASK k := by
    intro k; simp only [Reg.ACT_E_PARAM, Reg.ACT_E_MASK]; omega
  simp (disch := decide) only [actRead, rd_wr_ne, rd_wr_same, hmasks _ hctrl, hmasks _ hparam, and_self]

theorem actRead_completes {e : ActNo} (h : s.takes p Reg.ACT_CMD) : Completes (.actRead p e) s fun t =>
    t.rd Reg.ACT_E_CTRL = (s.act e).words.getD 0 0 ∧ t.rd Reg.ACT_E_PARAM = (s.act e).words.getD 5 0 ∧
    t.rd Reg.ACT_E_LAST = (s.act e).last ∧ t.rd Reg.ACT_E_COUNT = (s.act e).count ∧ { t with regs := s.regs } = s := by
  obtain ⟨hctrl, hparam, hlast, hcount⟩ := s.actRead_shows e
  generalize hop : s.actRead e = u at *
  exact completes_onWrite (fun s u => { s with regs := u.regs }) h rfl (fun _ => ⟨rfl, rfl⟩) hop
    ⟨hctrl, hparam, hlast, hcount, rfl⟩

/-! ## ARM -/

/-- Entry `e` armed, as far as ARM itself says (R179). -/
def State.armedAs (s : State) (e : Nat) : ActEntry := { s.act e with
  state := actArmed, count := 0, relAt := none, dispatched := false, lateStart := false, late := false
  crowded := false, lateDies := [], held := [], armPos := s.armPos (s.act e).words
  waits := actTrig (s.act e).words == 2 && (s.armPos (s.act e).words).isNone }

theorem State.armEntry_eq (s : State) (e : Nat) : s.armEntry e = (s.setAct e (s.armedAs e)).actJudge e := rfl

/-- A TIME_ONCE entry whose time lies at least 2 µs ahead is armed for that time (Table 5.2). -/
theorem State.actJudge_once {e : Nat} (htrig : actTrig (s.act e).words = 0)
    (hahead : s.disc16 + 2000 * 65536 ≤ (actTime (s.act e).words : Int) * 65536) :
    s.actJudge e = s.setAct e { s.act e with due := actTime (s.act e).words } := by
  simp only [actJudge, htrig]
  exact if_neg (by omega)

/-- The same for a command that ends in a change of entries alone. -/
theorem State.actArm_once {e : Nat} (hstate : (s.act e).state = 0) (hok : actOk (s.act e).words = true)
    (htrig : actTrig (s.act e).words = 0)
    (hahead : s.disc16 + 2000 * 65536 ≤ (actTime (s.act e).words : Int) * 65536) :
    s.actArm e = (s.setAct e (s.armedAs e)).setAct e { s.armedAs e with due := actTime (s.act e).words } := by
  have hsame := s.act_setAct_same e (s.armedAs e)
  have hwords : (s.armedAs e).words = (s.act e).words := rfl
  rw [State.actArm, hstate, if_neg (by decide), if_neg (by decide), hok, State.armEntry_eq, State.actJudge_once]
  case _ => rw [hsame, hwords]; rfl
  case _ => rw [hsame, hwords, htrig]
  case _ => rw [hsame, hwords]; exact hahead

theorem actArm_once {e : ActNo} (h : s.takes p Reg.ACT_CMD) (hstate : (s.act e).state = 0)
    (hok : actOk (s.act e).words = true) (htrig : actTrig (s.act e).words = 0)
    (hahead : s.disc16 + 2000 * 65536 ≤ (actTime (s.act e).words : Int) * 65536) :
    Completes (.actArm p e) s fun t =>
      (t.act e).state = 1 ∧ (t.act e).due = actTime (s.act e).words ∧ (t.act e).count = 0 ∧
      (t.act e).relAt = none ∧ (∀ k, k ≠ e.val → t.act k = s.act k) ∧ { t with acts := s.acts } = s := by
  have hop := State.actArm_once hstate hok htrig hahead
  have hact := (s.setAct e (s.armedAs e)).act_setAct_same e { s.armedAs e with due := actTime (s.act e).words }
  have hothers (k : Nat) (hk : k ≠ e.val) :
      ((s.setAct e (s.armedAs e)).setAct e { s.armedAs e with due := actTime (s.act e).words }).act k = s.act k := by
    rw [State.act_setAct_ne _ _ hk, State.act_setAct_ne _ _ hk]
  have hrest : { (s.setAct e (s.armedAs e)).setAct e { s.armedAs e with due := actTime (s.act e).words } with
      acts := s.acts } = s := rfl
  generalize (s.setAct e (s.armedAs e)).setAct e { s.armedAs e with due := actTime (s.act e).words } = u at *
  have hframe : { s with regs := u.regs, eqs := u.eqs, out := u.out, acts := s.acts, upd := u.upd } = s :=
    (congrArg (fun t : State =>
      { s with regs := t.regs, eqs := t.eqs, out := t.out, acts := s.acts, upd := t.upd }) hrest :)
  refine completes_onWrite
    (fun s u => { s with regs := u.regs, eqs := u.eqs, out := u.out, acts := u.acts, upd := u.upd })
    h rfl (fun _ => ⟨rfl, rfl⟩) hop ?_
  change (u.act e).state = 1 ∧ (u.act e).due = _ ∧ (u.act e).count = 0 ∧ (u.act e).relAt = none ∧ _
  rw [hact]
  exact ⟨rfl, rfl, rfl, rfl, hothers, hframe⟩

theorem actArm_done {e : ActNo} (h : s.takes p Reg.ACT_CMD) (hstate : (s.act e).state = 2 ∨ (s.act e).state = 3) :
    Completes (.actArm p e) s fun t =>
      t.flag Reg.ACT_STATUS_ENTRY_BUSY = true ∧ OnlyRegs s t [Reg.ACT_STATUS] := by
  have hop : s.actArm e = s.setFld Reg.ACT_STATUS_ENTRY_BUSY 1 := by
    have hdone : (s.act e).state ≠ 1 ∧ (s.act e).state ≠ 0 := by omega
    rw [State.actArm, if_neg hdone.1, if_pos hdone.2]
  exact completes_onWrite
    (fun s u => { s with regs := u.regs, eqs := u.eqs, out := u.out, acts := u.acts, upd := u.upd })
    h rfl (fun _ => ⟨rfl, rfl⟩) hop
    ⟨s.flag_setFld_one _ (by decide) (by decide), (OnlyRegs.refl s _).setFld _ _ List.mem_cons_self⟩

/-! ## DISARM and DISARM_ALL -/

theorem State.actDisarm_others (s : State) {e k : Nat} (hk : k ≠ e) : (s.actDisarm e).act k = s.act k := by
  rw [actDisarm]
  split
  · exact s.act_setAct_ne _ hk
  · rfl

theorem State.actDisarm_state (s : State) (e : Nat) : ((s.actDisarm e).act e).state ≠ 1 := by
  rw [actDisarm]
  split
  · rw [act_setAct_same]; exact Nat.zero_ne_one
  · assumption

theorem State.actDisarm_regs (s : State) (e : Nat) : (s.actDisarm e).regs = s.regs := by
  rw [actDisarm, apply_ite State.regs, setAct_regs, ite_self]

theorem disarm_completes {e : ActNo} (h : s.takes p Reg.ACT_CMD) : Completes (.disarm p e) s fun t =>
    (t.act e).state ≠ 1 ∧ (∀ k, k ≠ e.val → t.act k = s.act k) ∧ { t with acts := s.acts } = s := by
  have hstate := s.actDisarm_state e
  have hothers : ∀ k, k ≠ e.val → (s.actDisarm e).act k = s.act k := fun _ hk => s.actDisarm_others hk
  have hregs := s.actDisarm_regs e
  generalize hop : s.actDisarm e = u at *
  refine completes_onWrite (fun s u => { s with regs := u.regs, acts := u.acts }) h rfl (fun _ => ⟨rfl, rfl⟩) hop
    ⟨hstate, hothers, ?_⟩
  rw [hregs]

/-- A fold of DISARM leaves no entry of its list ARMED, and arms none. -/
theorem State.foldl_actDisarm_state (l : List Nat) {k : Nat} (h : k ∈ l ∨ (s.act k).state ≠ 1) :
    ((l.foldl State.actDisarm s).act k).state ≠ 1 := by
  induction l generalizing s with
  | nil => exact h.resolve_left List.not_mem_nil
  | cons e l ih =>
    refine ih ?_
    by_cases hk : k = e
    · exact .inr (hk ▸ s.actDisarm_state e)
    · rw [s.actDisarm_others hk]
      exact h.imp_left fun hmem => (List.mem_cons.1 hmem).resolve_left hk

/-- What a table reads is in the table, or is what it reads where nothing is written. -/
theorem Tbl.get_mem {α : Type} (d : Nat → α) (t : Tbl α) (k : Nat) : (k, Tbl.get d t k) ∈ t ∨ Tbl.get d t k = d k := by
  induction t with
  | nil => exact .inr rfl
  | cons kv t ih =>
    rw [Tbl.get]
    split
    · exact .inr rfl
    · split
      case isTrue hk => exact .inl (hk ▸ List.mem_cons_self)
      case isFalse => exact ih.imp_left (List.mem_cons_of_mem _)

/-- An ARMED entry is one of those armed. -/
theorem State.mem_armedEntries {k : Nat} (h : (s.act k).state = 1) : k ∈ s.armedEntries := by
  rcases Tbl.get_mem (fun _ => ({} : ActEntry)) s.acts k with hmem | hnone
  · exact List.mem_filterMap.2 ⟨_, hmem, if_pos h⟩
  · rw [act, hnone] at h
    exact absurd h Nat.zero_ne_one

theorem disarmAll_completes (h : s.takes p Reg.ACT_CMD) : Completes (.disarmAll p) s fun t =>
    (∀ k, (t.act k).state ≠ 1) ∧ { t with acts := s.acts } = s := by
  have hstate (k : Nat) : (s.actDisarmAll.act k).state ≠ 1 := State.foldl_actDisarm_state _ <| by
    by_cases hk : (s.act k).state = 1
    · exact .inl (State.mem_armedEntries hk)
    · exact .inr hk
  have hregs : s.actDisarmAll.regs = s.regs := foldl_keeps State.regs State.actDisarm_regs _ s
  generalize hop : s.actDisarmAll = u at *
  refine completes_onWrite (fun s u => { s with regs := u.regs, acts := u.acts }) h rfl (fun _ => ⟨rfl, rfl⟩) hop
    ⟨hstate, ?_⟩
  rw [hregs]

end Sys2Proof.Machine

open Sys2Proof.Machine in
/-- Settles O17: each command is the model's operation on the entry that it names; DISARM_ALL is DISARM of every entry
that is ARMED. -/
theorem actionEntryCommands : Obligations.ActionEntryCommands := by
  intro p e s h
  exact ⟨actWrite_completes h, actRead_completes h, actArm_once h, actArm_done h, disarm_completes h,
    disarmAll_completes h⟩

end

section
/-!
Releases of scheduled actions (R174, R176 to R178, R180, R182).
-/

namespace Sys2Proof.Machine

variable {s : State} {e : Nat}

/-! ## Commands that change part of the state -/

/-- Out of reset a command is answered with what its meaning makes, as far as the command may change it. -/
theorem completes_framed {c : Instr} {u : State} {P : State → Prop} (op : State → State)
    (frame : State → State → State) (h : s.awake) (hexec : exec c s = live s fun s => frame s (op s))
    (hframe : ∀ u, (frame s u).pending = s.pending ∧ (frame s u).dev = s.dev) (hop : op s = u) (hP : P (frame s u)) :
    Completes c s P := by
  obtain ⟨hpending, hdev⟩ := hframe u
  exact ⟨_, by rw [hexec, live_exact s _ h (by rw [hop]; exact hpending) (by rw [hop]; exact hdev), hop], hP⟩

/-- The same where its meaning leaves the queue and the reset pins alone. -/
theorem completes_exact {c : Instr} {u : State} {P : State → Prop} (op : State → State) (h : s.awake)
    (hexec : exec c s = live s op) (hop : op s = u) (hpending : u.pending = s.pending) (hdev : u.dev = s.dev)
    (hP : P u) : Completes c s P :=
  ⟨_, by rw [hexec, live_exact s _ h (by rw [hop]; exact hpending) (by rw [hop]; exact hdev), hop], hP⟩

/-! ## Dispatch and seal -/

theorem triggerDispatch_completes {e : ActNo} (h : s.awake) (hstate : (s.act e).state = 1)
    (htrig : actTrig (s.act e).words < 2) (hdue : (s.act e).due * 65536 ≤ s.disc16 + 20000 * 65536) :
    Completes (.triggerDispatch e) s fun t =>
      (t.act e).dispatched = true ∧ (t.act e).relAt = (s.act e).relAt ∧ { t with acts := s.acts } = s := by
  have hact := s.act_setAct_same e { s.act e with dispatched := true }
  have hop : s.dispatch e = s.setAct e { s.act e with dispatched := true } := if_pos ⟨hstate, htrig, hdue⟩
  generalize s.setAct e { s.act e with dispatched := true } = u at *
  refine completes_framed (State.dispatch · e) (fun s u => { s with acts := u.acts }) h rfl (fun _ => ⟨rfl, rfl⟩) hop ?_
  change (u.act e).dispatched = true ∧ (u.act e).relAt = _ ∧ _
  rw [hact]
  exact ⟨rfl, rfl, rfl⟩

/-- The tick up to which a time is sought lies at or after the first one looked at. -/
theorem State.firstTick_ge (s : State) (t : Int) (l n : Nat) : l ≤ s.firstTick t l n := by
  induction n generalizing l with
  | zero => exact Nat.le_refl l
  | succ n ih =>
    rw [firstTick]
    split
    · exact Nat.le_refl l
    · exact le_trans (Nat.le_add_right l tick16) (ih _)

theorem State.firstTick_mod (s : State) (t : Int) {l : Nat} (n : Nat) (h : l % 131072 = 0) :
    s.firstTick t l n % 131072 = 0 := by
  induction n generalizing l with
  | zero => exact h
  | succ n ih =>
    rw [firstTick]
    split
    · exact h
    · exact ih (by rw [tick16]; omega)

theorem le_tickUp (l : Nat) : l ≤ tickUp l := by
  rw [tickUp, ceilDiv, tick16]
  omega

theorem tickUp_mod (l : Nat) : tickUp l % 131072 = 0 := Nat.mul_mod_left _ _


theorem releaseSealed_completes {e : ActNo} (h : s.awake) (hstate : (s.act e).state = 1)
    (htrig : actTrig (s.act e).words < 2) (hrel : (s.act e).relAt = none)
    (hdue : (s.act e).due * 65536 ≤ s.disc16 + 2000 * 65536) :
    Completes (.releaseSealed e) s fun t =>
      (∃ t16, (t.act e).relAt = some t16 ∧ s.tb.local16 ≤ t16 ∧ t16 % 131072 = 0) ∧ (t.act e).state = 1 ∧
      { t with acts := s.acts } = s := by
  have hge := s.firstTick_ge (s.act e).due (tickUp s.tb.local16) 1100
  have hmod := s.firstTick_mod (s.act e).due 1100 (tickUp_mod s.tb.local16)
  have hop : s.sealRelease e = s.setAct e { s.act e with
      dispatched := true, relAt := some (s.firstTick (s.act e).due (tickUp s.tb.local16) 1100) } :=
    if_pos ⟨hstate, htrig, hrel, hdue⟩
  generalize s.firstTick (s.act e).due (tickUp s.tb.local16) 1100 = t16 at *
  have hact := s.act_setAct_same e { s.act e with dispatched := true, relAt := some t16 }
  generalize s.setAct e { s.act e with dispatched := true, relAt := some t16 } = u at *
  refine completes_framed (State.sealRelease · e) (fun s u => { s with acts := u.acts }) h rfl
    (fun _ => ⟨rfl, rfl⟩) hop ?_
  change (∃ k, (u.act e).relAt = some k ∧ _) ∧ (u.act e).state = 1 ∧ _
  rw [hact]
  exact ⟨⟨t16, rfl, (le_tickUp _).trans hge, hmod⟩, hstate, rfl⟩

/-! ## The message to a die -/

/-- Entry `e` with the message of its sealed release at die `d`. -/
def State.heldAt (s : State) (e d : Nat) : ActEntry := { s.act e with held := (s.act e).held.erase d }

/-- Entry `e` with its release at die `d` after the instant. -/
def State.lateAt (s : State) (e d : Nat) : ActEntry := { s.act e with
  lateDies := d :: (s.act e).lateDies, held := (s.act e).held.erase d
  late := (s.act e).late || actCode (s.act e).words == 8 }

/-- A message of an armed entry that has left no release behind is judged as one of its sealed release. -/
theorem State.messageArrives_armed {d t16 : Nat} (hstate : (s.act e).state = 1) (hrel : (s.act e).relAt = some t16)
    (hghost : (s.act e).ghost = []) (hawait : (s.act e).await = []) :
    s.messageArrives e d = s.arrival e d ((s.act e).asSealed t16) fun h => { s.act e with
      lateDies := h.lateDies, held := h.held, late := h.late } := by
  have hnone : (s.act e).nextGhost = none := by rw [ActEntry.nextGhost, hghost]; rfl
  simp only [messageArrives, hawait, List.find?_nil, hnone, hstate, hrel]

theorem State.messageArrives_inTime {d t16 : Nat} (hstate : (s.act e).state = 1)
    (hrel : (s.act e).relAt = some t16) (htime : s.tb.local16 ≤ t16) (hghost : (s.act e).ghost = [])
    (hawait : (s.act e).await = []) : s.messageArrives e d = s.setAct e (s.heldAt e d) := by
  rw [messageArrives_armed hstate hrel hghost hawait, arrival]
  exact if_pos htime

theorem triggerMessageArrival_inTime {e : ActNo} {t16 : Nat} {d : Fin 2} (h : s.awake) (hstate : (s.act e).state = 1)
    (hrel : (s.act e).relAt = some t16) (htime : s.tb.local16 ≤ t16) (hghost : (s.act e).ghost = [])
    (hawait : (s.act e).await = []) :
    Completes (.triggerMessageArrival e d) s fun t =>
      (t.act e).held = (s.act e).held.erase d.val ∧ (t.act e).state = 1 ∧ (t.act e).relAt = some t16 ∧
      (t.act e).lateDies = (s.act e).lateDies ∧ (∀ k, k ≠ e.val → t.act k = s.act k) ∧
      { t with acts := s.acts } = s := by
  have hop := State.messageArrives_inTime (d := d) hstate hrel htime hghost hawait
  have hact := s.act_setAct_same e (s.heldAt e d)
  have hothers : ∀ k, k ≠ e.val → (s.setAct e (s.heldAt e d)).act k = s.act k := fun _ hk => s.act_setAct_ne _ hk
  have hrest : { s.setAct e (s.heldAt e d) with acts := s.acts } = s := rfl
  generalize s.setAct e (s.heldAt e d) = u at *
  have hframe : { s with
      regs := u.regs, eqs := u.eqs, out := u.out, sig := u.sig, mbs := u.mbs, can := u.can, banks := u.banks,
      acts := s.acts, upd := u.upd, nextId := u.nextId } = s :=
    (congrArg (fun t : State => { s with
      regs := t.regs, eqs := t.eqs, out := t.out, sig := t.sig, mbs := t.mbs, can := t.can, banks := t.banks,
      acts := s.acts, upd := t.upd, nextId := t.nextId }) hrest :)
  refine completes_framed (State.messageArrives · e d) (fun s u => { s with
    regs := u.regs, eqs := u.eqs, out := u.out, sig := u.sig, mbs := u.mbs, can := u.can, banks := u.banks,
    acts := u.acts, upd := u.upd, nextId := u.nextId }) h rfl (fun _ => ⟨rfl, rfl⟩) hop ?_
  change (u.act e).held = _ ∧ (u.act e).state = 1 ∧ (u.act e).relAt = _ ∧ (u.act e).lateDies = _ ∧ _
  rw [hact]
  exact ⟨rfl, hstate, hrel, rfl, hothers, hframe⟩

/-- What a LATE event of entry `e` shows (R180, R182). -/
theorem State.postLate_shows (s : State) (he : e < 4096) (at16 : Nat) :
    (s.postLate e at16).rd Reg.ACT_LATE_CNT = satInc (s.rd Reg.ACT_LATE_CNT) ∧
    (s.postLate e at16).fld Reg.ACT_LAST_LATE_INDEX = e ∧ (s.postLate e at16).flag Reg.ACT_STATUS_LATE_SEEN = true ∧
    Posts s (s.postLate e at16) 0x030 e (s.stampAt at16) := by
  refine ⟨?_, ?_, ?_, ?_⟩
  · rw [postLate, postEvent_rd _ _ _ _ (by decide), rd_setFld_ne _ _ (by decide), rd_setFld_ne _ _ (by decide),
      rd_bump_same]
  · rw [postLate, postEvent_fld _ _ _ _ (by decide), fld_setFld_apart _ _ (by decide),
      fld_setFld_same _ _ _ (by decide)]
    exact Nat.mod_eq_of_lt he
  · rw [flag, postLate, postEvent_fld _ _ _ _ (by decide)]
    exact flag_setFld_one _ _ (by decide) (by decide)
  · exact postEvent_eqs_congr s
      (t := ((s.bump Reg.ACT_LATE_CNT).setFld Reg.ACT_LAST_LATE_INDEX e).setFld Reg.ACT_STATUS_LATE_SEEN 1)
      rfl rfl rfl _ _ _

theorem State.messageArrives_late {d t16 : Nat} (hstate : (s.act e).state = 1) (hrel : (s.act e).relAt = some t16)
    (htime : t16 < s.tb.local16) (hghost : (s.act e).ghost = []) (hawait : (s.act e).await = [])
    (hdie : (s.act e).lateDies.contains d = false) (hskip : actSkip (s.act e).words = true)
    (hcode : actCode (s.act e).words ≠ 8) :
    s.messageArrives e d = (s.setAct e (s.lateAt e d)).postLate e t16 := by
  have hlate : (s.setAct e (s.lateAt e d)).lateArrival e d ((s.act e).asSealed t16)
      = (s.setAct e (s.lateAt e d)).postLate e t16 := by
    simp only [lateArrival, ActEntry.asSealed, hskip, Bool.true_or, if_true]
  have hupdate (t : State) : (if ((s.act e).asSealed t16).late then t else t.lateUpdate (s.act e).words) = t := by
    rw [lateUpdate, if_neg hcode, ite_self]
  have hnew : ¬ ((s.act e).asSealed t16).lateDies.contains d = true := by
    rw [show ((s.act e).asSealed t16).lateDies = (s.act e).lateDies from rfl, hdie]; exact Bool.false_ne_true
  rw [messageArrives_armed hstate hrel hghost hawait, arrival, if_neg (by exact Nat.not_le.2 htime), if_neg hnew,
    ← hlate]
  exact hupdate _

theorem triggerMessageArrival_late {e : ActNo} {t16 : Nat} {d : Fin 2} (h : s.awake) (hstate : (s.act e).state = 1)
    (hrel : (s.act e).relAt = some t16) (htime : t16 < s.tb.local16) (hghost : (s.act e).ghost = [])
    (hawait : (s.act e).await = []) (hdie : (s.act e).lateDies.contains d.val = false)
    (hskip : actSkip (s.act e).words = true) (hcode : actCode (s.act e).words ≠ 8) :
    Completes (.triggerMessageArrival e d) s fun t =>
      t.rd Reg.ACT_LATE_CNT = satInc (s.rd Reg.ACT_LATE_CNT) ∧ t.fld Reg.ACT_LAST_LATE_INDEX = e ∧
      t.flag Reg.ACT_STATUS_LATE_SEEN = true ∧ Posts s t 0x030 e (s.stampAt t16) ∧
      (t.act e).lateDies = d.val :: (s.act e).lateDies ∧ t.banks = s.banks ∧ t.mbs = s.mbs ∧ SameBytes s t := by
  have hop := State.messageArrives_late (d := d) hstate hrel htime hghost hawait hdie hskip hcode
  obtain ⟨hcnt, hindex, hseen, hposts⟩ := (s.setAct e (s.lateAt e d)).postLate_shows e.isLt t16
  have hposts' : Posts s ((s.setAct e (s.lateAt e d)).postLate e t16) 0x030 e (s.stampAt t16) :=
    hposts.trans (postEvent_eqs_congr s (t := s.setAct e (s.lateAt e d)) rfl rfl rfl _ _ _)
  have hact : (((s.setAct e (s.lateAt e d)).postLate e t16).act e) = s.lateAt e d := s.act_setAct_same e _
  have hbanks : ((s.setAct e (s.lateAt e d)).postLate e t16).banks = s.banks := rfl
  have hmbs : ((s.setAct e (s.lateAt e d)).postLate e t16).mbs = s.mbs := rfl
  generalize (s.setAct e (s.lateAt e d)).postLate e t16 = u at *
  refine completes_framed (State.messageArrives · e d) (fun s u => { s with
    regs := u.regs, eqs := u.eqs, out := u.out, sig := u.sig, mbs := u.mbs, can := u.can, banks := u.banks,
    acts := u.acts, upd := u.upd, nextId := u.nextId }) h rfl (fun _ => ⟨rfl, rfl⟩) hop ?_
  exact ⟨hcnt, hindex, hseen, hposts', congrArg ActEntry.lateDies hact, hbanks, hmbs, fun _ => rfl, rfl⟩

/-! ## The instant -/

/-- A request for a commit targets no unit. -/
theorem State.dieTargets_request {ws : List Word} (hcode : actCode ws = 6) (d : Nat) : s.dieTargets ws d = [] := by
  simp [dieTargets, actOnUnits, hcode]

/-- A release that requests a commit does nothing else (Table 5.3). -/
theorem State.releaseActs_request {g : Sealed} (hcode : actCode g.words = 6) :
    s.releaseActs e g = s.requestAt (s.disc16At g.at16) g.at16 := by
  simp only [releaseActs, List.foldl_cons, List.foldl_nil, dieTargets_request hcode, beq_self_eq_true, Bool.or_true,
    if_true, coreActs, hcode]

/-- The state in which entry `e` has released at `t16` with what it does still to come. -/
def State.releasedAt (s : State) (e t16 : Nat) : State :=
  (s.setAct e (afterRelease (s.act e) (s.stampAt t16))).countCrowd t16

theorem State.releasedAt_rest (s : State) (e t16 : Nat) :
    { s.releasedAt e t16 with acts := s.acts, crowd := s.crowd } = s := rfl

theorem State.serve_rest (s : State) (d16 : Int) (l : Nat) : { s.serve d16 l with sig := s.sig } = s := rfl

theorem State.actionRelease_request {t16 : Nat} (hstate : (s.act e).state = 1) (hrel : (s.act e).relAt = some t16)
    (htime : t16 ≤ s.tb.local16) (hghost : (s.act e).ghost = []) (hfirst : s.notFirst e t16 = false)
    (hcrowd : s.crowd.1 ≠ t16) (hcode : actCode (s.act e).words = 6) (hevt : actEvtFire (s.act e).words = false)
    (hrun : s.flag Reg.SIG_BSTAT_RUN = true) (hreq : s.sig.requests = 0) (hserved : s.sig.served = none)
    (hlast : s.sig.lastInstant = none) :
    s.actionRelease e = (s.releasedAt e t16).serve (s.disc16At t16) t16 := by
  have hnone : (s.act e).nextGhost = none := by rw [ActEntry.nextGhost, hghost]; rfl
  have hroom : s.full64 t16 = false := by simp [full64, hcrowd]
  have hspaced : (s.releasedAt e t16).spaced (s.disc16At t16) t16 = true :=
    spaced_of (fun k hk _ => absurd (hlast.symm.trans hk) (by simp)) fun k _ hk _ =>
      absurd (hlast.symm.trans hk) (by simp)
  have hserve := requestAt_served (s := s.releasedAt e t16) hrun hreq hserved hspaced
  have hact := releaseActs_request (s := s.releasedAt e t16) (e := e) (g := (s.act e).asSealed t16) hcode
  have hpost (t : State) : t.postFire e ((s.act e).asSealed t16) = t := by
    rw [postFire]; exact if_neg (by rw [show ((s.act e).asSealed t16).words = (s.act e).words from rfl, hevt]; decide)
  rw [actionRelease, hnone]
  simp only [armedRelease, hstate, hrel, hfirst, hroom, decide_eq_false (Nat.not_lt.2 htime), Bool.or_self,
    Bool.false_eq_true, if_false]
  rw [hpost]
  exact hact.trans hserve

theorem actionRelease_completes {e : ActNo} {t16 : Nat} (h : s.awake) (hstate : (s.act e).state = 1)
    (hrel : (s.act e).relAt = some t16) (htime : t16 ≤ s.tb.local16) (hghost : (s.act e).ghost = [])
    (hfirst : s.notFirst e t16 = false) (hcrowd : s.crowd.1 ≠ t16) (htrig : actTrig (s.act e).words = 0)
    (hcode : actCode (s.act e).words = 6) (hevt : actEvtFire (s.act e).words = false)
    (hrun : s.flag Reg.SIG_BSTAT_RUN = true) (hreq : s.sig.requests = 0) (hserved : s.sig.served = none)
    (hlast : s.sig.lastInstant = none) :
    Completes (.actionRelease e) s fun t =>
      (t.act e).state = 2 ∧ (t.act e).last = s.stampAt t16 ∧ (t.act e).count = (s.act e).count + 1 ∧
      t.sig.served = some (s.disc16At t16 / 65536, t16) ∧ t.crowd = (t16, 1) ∧
      (∀ k, k ≠ e.val → t.act k = s.act k) ∧ { t with acts := s.acts, crowd := s.crowd, sig := s.sig } = s := by
  have hop := State.actionRelease_request hstate hrel htime hghost hfirst hcrowd hcode hevt hrun hreq hserved hlast
  have honce : actOnce (s.act e).words = true := by simp [actOnce, htrig]
  have hact : ((s.releasedAt e t16).serve (s.disc16At t16) t16).act e = afterRelease (s.act e) (s.stampAt t16) :=
    s.act_setAct_same e _
  have hothers : ∀ k, k ≠ e.val → ((s.releasedAt e t16).serve (s.disc16At t16) t16).act k = s.act k :=
    fun _ hk => s.act_setAct_ne _ hk
  have hserve : ((s.releasedAt e t16).serve (s.disc16At t16) t16).sig.served
      = some (s.disc16At t16 / 65536, t16) := rfl
  have hcount : ((s.releasedAt e t16).serve (s.disc16At t16) t16).crowd = (t16, 1) :=
    congrArg (Prod.mk t16) (if_neg hcrowd)
  have hrest : { (s.releasedAt e t16).serve (s.disc16At t16) t16 with
      acts := s.acts, crowd := s.crowd, sig := s.sig } = s := by
    have hserve := congrArg (fun t : State => { t with acts := s.acts, crowd := s.crowd, sig := s.sig })
      ((s.releasedAt e t16).serve_rest (s.disc16At t16) t16)
    exact hserve.trans (congrArg (fun t : State => { t with sig := s.sig }) (s.releasedAt_rest e t16))
  have hpending : ((s.releasedAt e t16).serve (s.disc16At t16) t16).pending = s.pending := rfl
  have hdev : ((s.releasedAt e t16).serve (s.disc16At t16) t16).dev = s.dev := rfl
  rw [afterRelease, honce, if_pos rfl] at hact
  generalize (s.releasedAt e t16).serve (s.disc16At t16) t16 = u at *
  refine completes_exact (State.actionRelease · e) h rfl hop hpending hdev ?_
  rw [hact]
  exact ⟨rfl, rfl, rfl, hserve, hcount, hothers, hrest⟩

end Sys2Proof.Machine

open Sys2Proof.Machine in
/-- Settles O18: each step of a release is a change of its entry; a late message of a skipped release leaves the LATE
event, and a request for a commit that nothing precedes is served at the release's instant. -/
theorem actionsRelease : Obligations.ActionsRelease := by
  intro e s h hstate
  exact ⟨triggerDispatch_completes h hstate, releaseSealed_completes h hstate,
    fun _ _ => triggerMessageArrival_inTime h hstate, fun _ _ => triggerMessageArrival_late h hstate,
    fun _ => actionRelease_completes h hstate⟩

end

section
/-!
The commands of the structure loader (R67 to R70, Table 2.5). Each either moves STR on or is ignored.
-/

namespace Sys2Proof.Machine

variable {s t : State} {as : List Nat}

/-! ## Registers left alone -/

theorem RegsBut.refl (s : State) (as : List Nat) : RegsBut s s as := fun _ _ => rfl

theorem RegsBut.wr (h : RegsBut s t as) {a : Nat} (v : Word) (ha : a ∈ as) : RegsBut s (t.wr a v) as := by
  intro b hb
  have hne : b ≠ a := fun hba => hb (hba ▸ ha)
  rw [t.rd_wr_ne v hne, h b hb]

theorem RegsBut.setFld (h : RegsBut s t as) (f : Fld) (v : Nat) (hf : f.addr ∈ as) : RegsBut s (t.setFld f v) as :=
  h.wr _ hf

/-! ## The parts of a command -/

theorem State.strGo_state (s : State) {k : Nat} (hk : k < 8) : (s.strGo k).strState = k := by
  rw [strGo, strState, fld_setFld_same _ _ _ (by decide)]
  exact Nat.mod_eq_of_lt hk

theorem State.strIgnored_shows (s : State) :
    s.strIgnored.flag Reg.STR_FLAGS_CMD_IGNORED = true ∧ s.strIgnored.str = s.str ∧
    RegsBut s s.strIgnored [Reg.STR_FLAGS] :=
  ⟨s.flag_setFld_one _ (by decide) (by decide), rfl, (RegsBut.refl s _).setFld _ _ List.mem_cons_self⟩

/-! ## Loads -/

/-- What a load of source `src` starts with (R67). -/
structure LoadStarted (s t : State) (src : Nat) : Prop where
  state : t.strState = 1
  err : t.fld Reg.STR_STATE_ERR = 0
  source : t.fld Reg.STR_STATE_SOURCE = src + 1
  bytes : t.str.bytes = []
  pushing : t.str.pushing = (src == 2)
  regs : RegsBut s t [Reg.STR_STATE]

/-- The shadow is dropped for a load of a host. -/
def State.shadowFor (s : State) (src : Nat) : State :=
  { s.dropShadow with str := { s.dropShadow.str with
    pushing := src == 2, boot := false, forUpdate := false, leftIdle := s.tb.local16 } }

theorem State.strStart_eq (s : State) (src : Nat) : s.strStart src false false =
    (((s.shadowFor src).setFld Reg.STR_STATE_ERR 0).setFld Reg.STR_STATE_SOURCE (src + 1)).strGo 1 := rfl

theorem State.dropShadow_regsBut (s : State) : RegsBut s s.dropShadow [Reg.STR_STATE] :=
  (RegsBut.refl s _).setFld Reg.STR_STATE_FULL 0 List.mem_cons_self

theorem State.shadowFor_regsBut (s : State) (src : Nat) : RegsBut s (s.shadowFor src) [Reg.STR_STATE] :=
  s.dropShadow_regsBut

theorem State.strStart_started (s : State) {src : Nat} (hsrc : src < 3) :
    LoadStarted s (s.strStart src false false) src := by
  rw [strStart_eq]
  have hregs := s.shadowFor_regsBut src
  have hbytes : (s.shadowFor src).str.bytes = [] := rfl
  have hpushing : (s.shadowFor src).str.pushing = (src == 2) := rfl
  generalize s.shadowFor src = t at *
  refine ⟨strGo_state _ (by decide), ?_, ?_, hbytes, hpushing, ?_⟩
  · rw [strGo, fld_setFld_apart _ _ (by decide), fld_setFld_apart _ _ (by decide), fld_setFld_same _ _ _ (by decide)]
    rfl
  · rw [strGo, fld_setFld_apart _ _ (by decide), fld_setFld_same _ _ _ (by decide)]
    exact Nat.mod_eq_of_lt (by rw [show 2 ^ Reg.STR_STATE_SOURCE.width = 4 from rfl]; omega)
  · exact ((hregs.setFld _ _ List.mem_cons_self).setFld _ _ List.mem_cons_self).setFld _ _ List.mem_cons_self

variable {p : PageNo}

/-- A load of each source, in IDLE and FAILED and in the other states (Table 2.5). -/
theorem load_completes {c : Instr} {src : Nat} (hsrc : src < 3) (h : s.takes p Reg.STR_CMD)
    (hexec : exec c s = live s fun s =>
      (fun s u => { s with regs := u.regs, str := u.str }) s (s.onWrite p Reg.STR_CMD fun t => t.strLoad src)) :
    Completes c s fun t =>
      { t with regs := s.regs, str := s.str } = s ∧
      (if s.strState = 0 ∨ s.strState = 7 then
        t.strState = 1 ∧ t.fld Reg.STR_STATE_ERR = 0 ∧ t.fld Reg.STR_STATE_SOURCE = src + 1 ∧ t.str.bytes = [] ∧
        t.str.pushing = decide (src + 1 = 3) ∧ RegsBut s t [Reg.STR_STATE]
      else t.flag Reg.STR_FLAGS_CMD_IGNORED = true ∧ t.str = s.str ∧ RegsBut s t [Reg.STR_FLAGS]) := by
  split
  case isTrue hidle =>
    obtain ⟨hstate, herr, hsource, hbytes, hpushing, hregs⟩ := s.strStart_started hsrc
    have hop : s.strLoad src = s.strStart src false false := if_pos hidle
    generalize s.strStart src false false = u at *
    refine completes_onWrite (fun s u => { s with regs := u.regs, str := u.str }) h hexec (fun _ => ⟨rfl, rfl⟩) hop
      ⟨rfl, hstate, herr, hsource, hbytes, hpushing.trans ?_, hregs⟩
    rw [Bool.eq_iff_iff, beq_iff_eq, decide_eq_true_iff]
    omega
  case isFalse hbusy =>
    have hshows := s.strIgnored_shows
    have hop : s.strLoad src = s.strIgnored := if_neg hbusy
    generalize s.strIgnored = u at *
    exact completes_onWrite (fun s u => { s with regs := u.regs, str := u.str }) h hexec (fun _ => ⟨rfl, rfl⟩) hop
      ⟨rfl, hshows⟩

theorem loads_complete (h : s.takes p Reg.STR_CMD) {c : Instr} {k : Nat}
    (hc : (c, k) ∈ [(Instr.loadA p, 1), (Instr.loadB p, 2), (Instr.push p, 3)]) :
    Completes c s fun t =>
      { t with regs := s.regs, str := s.str } = s ∧
      (if s.strState = 0 ∨ s.strState = 7 then
        t.strState = 1 ∧ t.fld Reg.STR_STATE_ERR = 0 ∧ t.fld Reg.STR_STATE_SOURCE = k ∧ t.str.bytes = [] ∧
        t.str.pushing = decide (k = 3) ∧ RegsBut s t [Reg.STR_STATE]
      else t.flag Reg.STR_FLAGS_CMD_IGNORED = true ∧ t.str = s.str ∧ RegsBut s t [Reg.STR_FLAGS]) := by
  simp only [List.mem_cons, List.not_mem_nil, or_false, Prod.mk.injEq] at hc
  rcases hc with ⟨rfl, rfl⟩ | ⟨rfl, rfl⟩ | ⟨rfl, rfl⟩
  · exact load_completes (src := 0) (by decide) h rfl
  · exact load_completes (src := 1) (by decide) h rfl
  · exact load_completes (src := 2) (by decide) h rfl

/-! ## COMMIT -/

/-- The boundary that a COMMIT latches is armed with its kind, position and tracker (R68). -/
def State.boundaryAt (s : State) (kind : Nat) : State := { s with str := { s.str with
  kind := kind, pt := s.fld Reg.STR_BOUNDARY_PT
  target := if s.fld Reg.STR_BOUNDARY_KIND = 3 then (s.rd Reg.STR_BOUNDARY_VAL).toNat % mod24
    else (s.rd Reg.STR_BOUNDARY_VAL).toNat } }

/-- The epoch or course that COMMIT names is not later than now. -/
def State.boundaryPast (s : State) : Bool :=
  if s.fld Reg.STR_BOUNDARY_KIND = 1 then
    !later 32 (s.rd Reg.STR_BOUNDARY_VAL).toNat (s.rd Reg.SIG_EPOCH).toNat
  else if s.fld Reg.STR_BOUNDARY_KIND = 3 then
    !later 24 ((s.rd Reg.STR_BOUNDARY_VAL).toNat % mod24) (s.ptPos (s.fld Reg.STR_BOUNDARY_PT) / mod24)
  else false

theorem State.strCommit_late (h : s.strState = 3) (hlate : s.boundaryPast = true) :
    s.strCommit = ((s.boundaryAt (s.fld Reg.STR_BOUNDARY_KIND - 1)).setFld Reg.STR_FLAGS_LATE_COMMIT 1).strGo 4 := by
  have hop : s.strCommit = (if s.boundaryPast then
      (s.boundaryAt (if s.boundaryPast then s.fld Reg.STR_BOUNDARY_KIND - 1 else s.fld Reg.STR_BOUNDARY_KIND)).setFld
        Reg.STR_FLAGS_LATE_COMMIT 1
      else s.boundaryAt (if s.boundaryPast then s.fld Reg.STR_BOUNDARY_KIND - 1
        else s.fld Reg.STR_BOUNDARY_KIND)).strGo 4 := if_pos h
  rw [hop, hlate]
  rfl

theorem State.strCommit_ahead (h : s.strState = 3) (hlate : s.boundaryPast = false) :
    s.strCommit = (s.boundaryAt (s.fld Reg.STR_BOUNDARY_KIND)).strGo 4 := by
  have hop : s.strCommit = (if s.boundaryPast then
      (s.boundaryAt (if s.boundaryPast then s.fld Reg.STR_BOUNDARY_KIND - 1 else s.fld Reg.STR_BOUNDARY_KIND)).setFld
        Reg.STR_FLAGS_LATE_COMMIT 1
      else s.boundaryAt (if s.boundaryPast then s.fld Reg.STR_BOUNDARY_KIND - 1
        else s.fld Reg.STR_BOUNDARY_KIND)).strGo 4 := if_pos h
  rw [hop, hlate]
  rfl

/-- What COMMIT of a staged image makes of the boundary (R68, R69). -/
structure Armed (s t : State) : Prop where
  state : t.strState = 4
  regs : RegsBut s t [Reg.STR_STATE, Reg.STR_FLAGS]
  next : s.fld Reg.STR_BOUNDARY_KIND = 0 → t.str.kind = 0
  epoch : s.fld Reg.STR_BOUNDARY_KIND = 1 →
    if later 32 (s.rd Reg.STR_BOUNDARY_VAL).toNat (s.rd Reg.SIG_EPOCH).toNat then
      t.str.kind = 1 ∧ t.str.target = (s.rd Reg.STR_BOUNDARY_VAL).toNat
    else t.str.kind = 0 ∧ t.flag Reg.STR_FLAGS_LATE_COMMIT = true
  course : s.fld Reg.STR_BOUNDARY_KIND = 2 → t.str.kind = 2 ∧ t.str.pt = s.fld Reg.STR_BOUNDARY_PT

theorem State.strCommit_armed (h : s.strState = 3) : Armed s s.strCommit := by
  by_cases hlate : s.boundaryPast = true
  case' neg => rw [Bool.not_eq_true] at hlate
  case pos =>
    rw [strCommit_late h hlate]
    refine ⟨strGo_state _ (by decide), ?_, ?_, ?_, ?_⟩
    · exact (RegsBut.setFld (t := s.boundaryAt _) (RegsBut.refl s _) _ _ (by simp)).setFld _ _ (by simp)
    · intro hk
      rw [boundaryPast, hk] at hlate
      exact absurd hlate (by simp)
    · intro hk
      have hpast : later 32 (s.rd Reg.STR_BOUNDARY_VAL).toNat (s.rd Reg.SIG_EPOCH).toNat = false := by
        simpa [boundaryPast, hk] using hlate
      rw [hpast, if_neg Bool.false_ne_true]
      refine ⟨congrArg (· - 1) hk, ?_⟩
      rw [strGo, flag_setFld_apart _ _ (by decide)]
      exact flag_setFld_one _ _ (by decide) (by decide)
    · intro hk
      rw [boundaryPast, hk] at hlate
      exact absurd hlate (by simp)
  case neg =>
    rw [strCommit_ahead h hlate]
    refine ⟨strGo_state _ (by decide), ?_, fun hk => hk, ?_, fun hk => ⟨hk, rfl⟩⟩
    · exact RegsBut.setFld (t := s.boundaryAt _) (RegsBut.refl s _) _ _ (by simp)
    · intro hk
      have hahead : later 32 (s.rd Reg.STR_BOUNDARY_VAL).toNat (s.rd Reg.SIG_EPOCH).toNat = true := by
        simpa [boundaryPast, hk] using hlate
      rw [hahead, if_pos rfl]
      exact ⟨hk, if_neg (by rw [hk]; decide)⟩

theorem commit_completes (h : s.takes p Reg.STR_CMD) : Completes (.commit p) s fun t =>
    { t with regs := s.regs, str := s.str } = s ∧
    (if s.strState = 3 then
      t.strState = 4 ∧ RegsBut s t [Reg.STR_STATE, Reg.STR_FLAGS] ∧
      (s.fld Reg.STR_BOUNDARY_KIND = 0 → t.str.kind = 0) ∧
      (s.fld Reg.STR_BOUNDARY_KIND = 1 →
        if later 32 (s.rd Reg.STR_BOUNDARY_VAL).toNat (s.rd Reg.SIG_EPOCH).toNat then
          t.str.kind = 1 ∧ t.str.target = (s.rd Reg.STR_BOUNDARY_VAL).toNat
        else t.str.kind = 0 ∧ t.flag Reg.STR_FLAGS_LATE_COMMIT = true) ∧
      (s.fld Reg.STR_BOUNDARY_KIND = 2 → t.str.kind = 2 ∧ t.str.pt = s.fld Reg.STR_BOUNDARY_PT)
    else t.flag Reg.STR_FLAGS_CMD_IGNORED = true ∧ t.str = s.str ∧ RegsBut s t [Reg.STR_FLAGS]) := by
  split
  case isTrue hstaged =>
    obtain ⟨hstate, hregs, hnext, hepoch, hcourse⟩ := State.strCommit_armed hstaged
    generalize hop : s.strCommit = u at *
    exact completes_onWrite (fun s u => { s with regs := u.regs, str := u.str }) h rfl (fun _ => ⟨rfl, rfl⟩) hop
      ⟨rfl, hstate, hregs, hnext, hepoch, hcourse⟩
  case isFalse hother =>
    have hshows := s.strIgnored_shows
    have hop : s.strCommit = s.strIgnored := if_neg hother
    generalize s.strIgnored = u at *
    exact completes_onWrite (fun s u => { s with regs := u.regs, str := u.str }) h rfl (fun _ => ⟨rfl, rfl⟩) hop
      ⟨rfl, hshows⟩

/-! ## ABORT -/

/-- A load that fails with error `e` shows it, and nothing of the image is left (R67). -/
structure LoadFailed (s t : State) (e : Nat) : Prop where
  state : t.strState = 7
  err : t.fld Reg.STR_STATE_ERR = e
  bytes : t.str.bytes = []
  sects : t.str.sects = []
  regs : RegsBut s t [Reg.STR_STATE]

theorem State.strFail_failed (s : State) {e : Nat} (he : e < 256) : LoadFailed s (s.strFail e) e := by
  have hregs := s.dropShadow_regsBut
  refine ⟨strGo_state _ (by decide), ?_, rfl, rfl, ?_⟩
  · rw [strFail, strGo, fld_setFld_apart _ _ (by decide), fld_setFld_same _ _ _ (by decide)]
    exact Nat.mod_eq_of_lt he
  · rw [strFail]
    exact (hregs.setFld _ _ List.mem_cons_self).setFld _ _ List.mem_cons_self

theorem State.strAbort_loading (hstate : 1 ≤ s.strState ∧ s.strState ≤ 4) (hown : s.str.forUpdate = false) :
    s.strAbort = s.strFail 0x0D := by
  have hactive : s.strState = 1 ∨ s.strState = 2 ∨ s.strState = 3 ∨ s.strState = 4 := by omega
  rw [strAbort, if_pos hactive, hown]
  rfl

theorem abort_completes (h : s.takes p Reg.STR_CMD) (hown : s.str.forUpdate = false) : Completes (.abort p) s fun t =>
    { t with regs := s.regs, str := s.str } = s ∧
    (if 1 ≤ s.strState ∧ s.strState ≤ 4 then
      t.strState = 7 ∧ t.fld Reg.STR_STATE_ERR = 0x0D ∧ t.str.bytes = [] ∧ t.str.sects = [] ∧
      RegsBut s t [Reg.STR_STATE]
    else if s.strState = 7 then t.strState = 0 ∧ t.str = s.str ∧ RegsBut s t [Reg.STR_STATE]
    else t.flag Reg.STR_FLAGS_CMD_IGNORED = true ∧ t.str = s.str ∧ RegsBut s t [Reg.STR_FLAGS]) := by
  split
  case isTrue hactive =>
    obtain ⟨hstate, herr, hbytes, hsects, hregs⟩ := s.strFail_failed (e := 0x0D) (by decide)
    have hop := State.strAbort_loading hactive hown
    have hupd : (s.strFail 0x0D).upd = s.upd := rfl
    generalize s.strFail 0x0D = u at *
    exact completes_onWrite (fun s u => { s with regs := u.regs, str := u.str, upd := u.upd }) h rfl
      (fun _ => ⟨rfl, rfl⟩) hop ⟨by rw [hupd], hstate, herr, hbytes, hsects, hregs⟩
  case isFalse hactive =>
    have hother : ¬ (s.strState = 1 ∨ s.strState = 2 ∨ s.strState = 3 ∨ s.strState = 4) := by omega
    split
    case isTrue hfailed =>
      have hstate := s.strGo_state (k := 0) (by decide)
      have hregs : RegsBut s (s.strGo 0) [Reg.STR_STATE] := (RegsBut.refl s _).setFld _ _ List.mem_cons_self
      have hop : s.strAbort = s.strGo 0 := by
        rw [State.strAbort, if_neg hother]
        exact if_pos hfailed
      have hupd : (s.strGo 0).upd = s.upd ∧ (s.strGo 0).str = s.str := ⟨rfl, rfl⟩
      generalize s.strGo 0 = u at *
      exact completes_onWrite (fun s u => { s with regs := u.regs, str := u.str, upd := u.upd }) h rfl
        (fun _ => ⟨rfl, rfl⟩) hop ⟨by rw [hupd.1], hstate, hupd.2, hregs⟩
    case isFalse hidle =>
      have hshows := s.strIgnored_shows
      have hop : s.strAbort = s.strIgnored := by
        rw [State.strAbort, if_neg hother]
        exact if_neg hidle
      have hupd : s.strIgnored.upd = s.upd := rfl
      generalize s.strIgnored = u at *
      exact completes_onWrite (fun s u => { s with regs := u.regs, str := u.str, upd := u.upd }) h rfl
        (fun _ => ⟨rfl, rfl⟩) hop ⟨by rw [hupd], hshows⟩

end Sys2Proof.Machine

open Sys2Proof.Machine in
/-- Settles O19: each command moves STR on where Table 2.5 lists it and is ignored elsewhere; a COMMIT is judged late by
the counter that its kind names. -/
theorem structureCommands : Obligations.StructureCommands := by
  intro p s h
  exact ⟨fun _ _ => loads_complete h, commit_completes h, abort_completes h⟩

end

section
/-!
How images come in: pieces of a pushed image (R64), reads of the flash and signatures (R54, R55, R67), and the firmware
check of the boot (R63, R433, R455). What the checks find rests on the registers and the tables, not on the loader.
-/

namespace Sys2Proof.Machine

variable {s : State} {p : PageNo}

theorem Tbl.getList_length {α : Type} (d : Nat → α) (t : Tbl α) (k n : Nat) : (Tbl.getList d t k n).length = n := by
  induction n generalizing k with
  | zero => rfl
  | succ n ih => rw [Tbl.getList, List.length_cons, ih]

/-! ## Failing and receiving -/

/-- What a load that fails shows. -/
structure Failing (s t : State) (e : Nat) : Prop where
  state : t.strState = 7
  err : t.fld Reg.STR_STATE_ERR = e
  bytes : t.str.bytes = []
  regs : OnlyRegs { s with str := t.str } t [Reg.STR_STATE]

theorem State.strFail_failing (s : State) {e : Nat} (he : e < 256) : Failing s (s.strFail e) e := by
  obtain ⟨hstate, herr, hbytes, -, hregs⟩ := s.strFail_failed he
  exact ⟨hstate, herr, hbytes, rfl, hregs⟩

/-- An image fails without the other bank's being tried, other than at boot (R63). -/
theorem State.imageFails_host (h : s.str.boot = false) (e : Nat) : s.imageFails e = s.strFail e :=
  if_neg (by rw [h, Bool.false_and]; exact Bool.false_ne_true)

/-- What an image that passes its checks leaves in the loader. -/
structure Receiving (s t : State) (bs : List Byte) : Prop where
  state : t.strState = 2
  bytes : t.str.bytes = bs
  sects : t.str.sects = imgSects bs
  version : t.str.version = imgVersion bs
  regs : OnlyRegs { s with str := t.str } t [Reg.STR_STATE]

/-- The state with the bytes of an image received. -/
def State.withBytes (s : State) (bs : List Byte) : State := { s with str := { s.str with bytes := bs } }

/-- The loader with what the image `bs` says of itself. -/
def State.described (s : State) (bs : List Byte) : State := { s with str := { s.str with
  bytes := bs, sects := imgSects bs, partialImg := imgPartial bs, version := imgVersion bs, schema := imgSchema bs } }

theorem State.strReceived_passes {f : Bool} {bs : List Byte} (h : s.imageErr f bs = 0) :
    Receiving s ((s.withBytes bs).strReceived f) bs := by
  have hop : (s.withBytes bs).strReceived f
      = ((s.described bs).setFld Reg.STR_STATE_FULL (if imgPartial bs then 0 else 1)).strGo 2 :=
    if_neg (not_not_intro h)
  rw [hop]
  refine ⟨strGo_state _ (by decide), rfl, rfl, rfl, rfl, ?_⟩
  exact (RegsBut.setFld (s := s) (t := s.described bs) (RegsBut.refl s _) Reg.STR_STATE_FULL _
    List.mem_cons_self).setFld Reg.STR_STATE_STATE 2 List.mem_cons_self

theorem State.headerErr_lt (s : State) (f : Bool) (bs : List Byte) : s.headerErr f bs < 256 := by
  simp only [headerErr]
  split_ifs <;> decide

theorem State.imageErr_lt (s : State) (f : Bool) (bs : List Byte) : s.imageErr f bs < 256 := by
  rw [imageErr]
  refine iteInduction (motive := (· < 256)) (fun _ => s.headerErr_lt f bs) fun _ => ?_
  dsimp only
  split_ifs <;> decide

theorem State.strReceived_fails {f : Bool} {bs : List Byte} (h : s.imageErr f bs ≠ 0) (hboot : s.str.boot = false) :
    Failing s ((s.withBytes bs).strReceived f) (s.imageErr f bs) := by
  have hop : (s.withBytes bs).strReceived f = (s.withBytes bs).strFail (s.imageErr f bs) :=
    (if_pos h).trans (imageFails_host hboot _)
  rw [hop]
  obtain ⟨hstate, herr, hbytes, -, hregs⟩ := (s.withBytes bs).strFail_failing (s.imageErr_lt f bs)
  exact ⟨hstate, herr, hbytes, rfl, hregs⟩

/-! ## Pieces -/

/-- An image without error has a good length and a good header. -/
theorem State.headerErr_of_imageErr {f : Bool} {bs : List Byte} (h : s.imageErr f bs = 0) : s.headerErr f bs = 0 := by
  by_contra hne
  rw [imageErr] at h
  exact hne ((if_pos hne).symm.trans h)

theorem State.lengthOk_of_headerErr {f : Bool} {bs : List Byte} (h : s.headerErr f bs = 0) : lengthOk bs = true := by
  by_contra hne
  rw [Bool.not_eq_true] at hne
  have hlength : s.headerErr f bs = errLength := by rw [headerErr, hne]; rfl
  rw [hlength] at h
  exact absurd h (by decide)

/-- A piece of an allowed length in order adds its bytes, and the last piece ends the image (R64). -/
theorem State.strPiece_inOrder {bs : List Byte} (hstate : s.strState = 1) (hpush : s.str.pushing = true)
    (hlow : 1 ≤ s.fld Reg.STR_PIECE_LEN_LEN) (hhigh : s.fld Reg.STR_PIECE_LEN_LEN ≤ 4096)
    (hoff : s.fld Reg.STR_PIECE_OFF_OFF = s.str.bytes.length)
    (hbs : bs = s.str.bytes ++ s.bytes (Reg.STR_PIECE 0) (s.fld Reg.STR_PIECE_LEN_LEN))
    (hlen : lengthOk bs = true) (hfit : bs.length ≤ imgLength bs)
    (hfull : s.fld Reg.STR_PIECE_LEN_LEN = 4096 ∨ bs.length = imgLength bs)
    (hhead : s.str.bytes ≠ [] ∨ s.headerErr false bs = 0) :
    s.strPiece = if bs.length = imgLength bs then (s.withBytes bs).strReceived false else s.withBytes bs := by
  have hhead' : ¬ (s.str.bytes.length = 0 ∧ s.headerErr false bs ≠ 0) := fun ⟨hnil, hne⟩ =>
    hhead.elim (fun h => h (List.length_eq_zero_iff.1 hnil)) hne
  have hgood : ¬ ((!lengthOk bs) = true ∨ imgLength bs < bs.length ∨
      (s.fld Reg.STR_PIECE_LEN_LEN < 4096 ∧ bs.length ≠ imgLength bs)) := by
    rintro (hbad | hlong | ⟨hshort, hne⟩)
    · rw [hlen] at hbad
      exact absurd hbad (by decide)
    · omega
    · exact hne (hfull.resolve_left hshort.ne)
  subst hbs
  rw [strPiece, if_pos ⟨hstate, hpush⟩]
  simp only []
  rw [if_neg (by omega), if_neg (not_not_intro hoff), if_neg hgood, if_neg hhead']
  rfl

/-- A piece that fails the load with error `e`. -/
theorem piece_fails {e : Nat} (he : e < 256) (h : s.takes p Reg.STR_PIECE_DB) (hop : s.strPiece = s.strFail e) :
    Completes (.strPieceDb p) s fun t =>
      t.strState = 7 ∧ t.fld Reg.STR_STATE_ERR = e ∧ OnlyRegs { s with str := t.str } t [Reg.STR_STATE] := by
  obtain ⟨hstate, herr, -, hregs⟩ := s.strFail_failing he
  generalize s.strFail e = u at *
  exact completes_onWrite (fun s u => { s with regs := u.regs, str := u.str }) h rfl (fun _ => ⟨rfl, rfl⟩) hop
    ⟨hstate, herr, rfl, hregs.2⟩

theorem State.strPiece_badLength (hstate : s.strState = 1) (hpush : s.str.pushing = true)
    (hlen : s.fld Reg.STR_PIECE_LEN_LEN = 0 ∨ 4096 < s.fld Reg.STR_PIECE_LEN_LEN) :
    s.strPiece = s.strFail 0x0B := by
  rw [strPiece, if_pos ⟨hstate, hpush⟩]
  exact if_pos hlen

theorem State.strPiece_badOrder (hstate : s.strState = 1) (hpush : s.str.pushing = true)
    (hlow : 1 ≤ s.fld Reg.STR_PIECE_LEN_LEN) (hhigh : s.fld Reg.STR_PIECE_LEN_LEN ≤ 4096)
    (hoff : s.fld Reg.STR_PIECE_OFF_OFF ≠ s.str.bytes.length) : s.strPiece = s.strFail 0x09 := by
  rw [strPiece, if_pos ⟨hstate, hpush⟩]
  exact (if_neg (by omega)).trans (if_pos hoff)

theorem piece_taken (h : s.takes p Reg.STR_PIECE_DB) (hstate : s.strState = 1) (hpush : s.str.pushing = true)
    (hfull : s.fld Reg.STR_PIECE_LEN_LEN = 4096) (hbytes : s.str.bytes ≠ [])
    (hoff : s.fld Reg.STR_PIECE_OFF_OFF = s.str.bytes.length)
    (hrest : s.str.bytes.length + 4096 < imgLength (s.str.bytes ++ s.bytes (Reg.STR_PIECE 0) 4096))
    (hlen : lengthOk (s.str.bytes ++ s.bytes (Reg.STR_PIECE 0) 4096) = true) :
    exec (.strPieceDb p) s = .next (s.withBytes (s.str.bytes ++ s.bytes (Reg.STR_PIECE 0) 4096)) := by
  have hlength : (s.str.bytes ++ s.bytes (Reg.STR_PIECE 0) 4096).length = s.str.bytes.length + 4096 := by
    rw [List.length_append, State.bytes, Tbl.getList_length]
  have hop : s.strPiece = s.withBytes (s.str.bytes ++ s.bytes (Reg.STR_PIECE 0) 4096) := by
    rw [State.strPiece_inOrder hstate hpush (by omega) (by omega) hoff (by rw [hfull]) hlen (by omega)
      (.inl hfull) (.inl hbytes), if_neg (by omega)]
  change execStrPieceDb p s = _
  rw [execStrPieceDb, live_exact s _ h.1 rfl rfl, onWrite_takes s _ h, hop]
  rfl

theorem piece_last {bs : List Byte} (h : s.takes p Reg.STR_PIECE_DB) (hstate : s.strState = 1)
    (hpush : s.str.pushing = true) (hlow : 1 ≤ s.fld Reg.STR_PIECE_LEN_LEN)
    (hhigh : s.fld Reg.STR_PIECE_LEN_LEN ≤ 4096) (hoff : s.fld Reg.STR_PIECE_OFF_OFF = s.str.bytes.length)
    (hbs : bs = s.str.bytes ++ s.bytes (Reg.STR_PIECE 0) (s.fld Reg.STR_PIECE_LEN_LEN))
    (hend : imgLength bs = bs.length) (herr : s.imageErr false bs = 0) :
    Completes (.strPieceDb p) s fun t =>
      t.strState = 2 ∧ t.str.bytes = bs ∧ t.str.sects = imgSects bs ∧ t.str.version = imgVersion bs ∧
      OnlyRegs { s with str := t.str } t [Reg.STR_STATE] := by
  have hhead := State.headerErr_of_imageErr herr
  obtain ⟨hst, hb, hsects, hversion, hregs⟩ := State.strReceived_passes herr
  have hop : s.strPiece = (s.withBytes bs).strReceived false := by
    rw [State.strPiece_inOrder hstate hpush hlow hhigh hoff hbs (State.lengthOk_of_headerErr hhead) hend.ge
      (.inr hend.symm) (.inr hhead), if_pos hend.symm]
  generalize (s.withBytes bs).strReceived false = u at *
  exact completes_onWrite (fun s u => { s with regs := u.regs, str := u.str }) h rfl (fun _ => ⟨rfl, rfl⟩) hop
    ⟨hst, hb, hsects, hversion, rfl, hregs.2⟩

theorem piece_ignored (h : s.takes p Reg.STR_PIECE_DB) (hidle : s.strState ≠ 1 ∨ s.str.pushing = false) :
    Completes (.strPieceDb p) s fun t =>
      t.flag Reg.STR_FLAGS_CMD_IGNORED = true ∧ OnlyRegs s t [Reg.STR_FLAGS] := by
  obtain ⟨hflag, hstr, hregs⟩ := s.strIgnored_shows
  have hop : s.strPiece = s.strIgnored := if_neg fun ⟨hstate, hpush⟩ =>
    hidle.elim (fun hne => hne hstate) fun hno => by rw [hno] at hpush; exact Bool.false_ne_true hpush
  generalize s.strIgnored = u at *
  exact completes_onWrite (fun s u => { s with regs := u.regs, str := u.str }) h rfl (fun _ => ⟨rfl, rfl⟩) hop
    ⟨hflag, by rw [hstr], hregs⟩

/-! ## Images from flash -/

/-- What the bank's image takes of the flash: its bytes, as far as its header says. -/
def State.bankImage (s : State) : List Byte :=
  s.flashBytes (imgBase (s.fld Reg.STR_STATE_SOURCE - 1))
    (imgLength (s.flashBytes (imgBase (s.fld Reg.STR_STATE_SOURCE - 1)) 0x80))

theorem State.imageRead_complete (hstate : s.strState = 1) (hpush : s.str.pushing = false)
    (hlen : lengthOk (s.flashBytes (imgBase (s.fld Reg.STR_STATE_SOURCE - 1)) 0x80) = true) :
    s.imageRead = (s.withBytes s.bankImage).strReceived true := by
  rw [imageRead, if_pos ⟨hstate, by rw [hpush]; rfl⟩]
  exact if_pos hlen

theorem imageReadComplete_completes (h : s.awake) (hboot : s.str.boot = false) (hstate : s.strState = 1)
    (hpush : s.str.pushing = false)
    (hlen : lengthOk (s.flashBytes (imgBase (s.fld Reg.STR_STATE_SOURCE - 1)) 0x80) = true) :
    Completes .imageReadComplete s fun t =>
      OnlyRegs { s with str := t.str } t [Reg.STR_STATE] ∧
      (if s.imageErr true s.bankImage = 0 then
        t.strState = 2 ∧ t.str.bytes = s.bankImage ∧ t.str.sects = imgSects s.bankImage ∧
        t.str.version = imgVersion s.bankImage
      else t.strState = 7 ∧ t.fld Reg.STR_STATE_ERR = s.imageErr true s.bankImage ∧ t.str.bytes = []) := by
  have hop := State.imageRead_complete hstate hpush hlen
  split
  case isTrue hok =>
    obtain ⟨hst, hbytes, hsects, hversion, hregs⟩ := State.strReceived_passes hok
    generalize (s.withBytes s.bankImage).strReceived true = u at *
    exact completes_framed State.imageRead (fun s u => { s with regs := u.regs, str := u.str }) h rfl
      (fun _ => ⟨rfl, rfl⟩) hop ⟨⟨rfl, hregs.2⟩, hst, hbytes, hsects, hversion⟩
  case isFalse hbad =>
    obtain ⟨hst, herr, hbytes, hregs⟩ := State.strReceived_fails hbad hboot
    generalize (s.withBytes s.bankImage).strReceived true = u at *
    exact completes_framed State.imageRead (fun s u => { s with regs := u.regs, str := u.str }) h rfl
      (fun _ => ⟨rfl, rfl⟩) hop ⟨⟨rfl, hregs.2⟩, hst, herr, hbytes⟩

theorem flashReadError_completes (h : s.awake) (hboot : s.str.boot = false) (hstate : s.strState = 1)
    (hpush : s.str.pushing = false) : Completes .flashReadError s fun t =>
      t.strState = 7 ∧ t.fld Reg.STR_STATE_ERR = 0x0A ∧ t.str.bytes = [] ∧
      OnlyRegs { s with str := t.str } t [Reg.STR_STATE] := by
  obtain ⟨hst, herr, hbytes, hregs⟩ := s.strFail_failing (e := 0x0A) (by decide)
  have hop : s.flashError = s.strFail 0x0A := by
    rw [State.flashError, if_pos ⟨hstate, by rw [hpush]; rfl⟩, State.imageFails_host hboot]
  generalize s.strFail 0x0A = u at *
  exact completes_framed State.flashError (fun s u => { s with regs := u.regs, str := u.str }) h rfl
    (fun _ => ⟨rfl, rfl⟩) hop ⟨hst, herr, hbytes, rfl, hregs.2⟩

/-! ## Signatures -/

/-- The verdict that the bytes give is acted on (R54). -/
theorem State.sigVerified_verdict {ok : Bool} (hstate : s.strState = 2) (happly : s.str.applying = false)
    (hok : s.imgSigOk s.str.bytes = ok) : s.sigVerified ok =
      if ok then
        if s.rd Reg.STR_GEN = 0 then { s with str := { s.str with applying := true } }
        else (s.wr Reg.STR_LOAD_TIME s.strTimeUs).strGo 3
      else s.imageFails 0x04 := if_pos ⟨hstate, by rw [happly]; rfl, hok⟩

theorem State.sigVerified_other {ok : Bool} (hok : s.imgSigOk s.str.bytes ≠ ok) : s.sigVerified ok = s :=
  if_neg fun ⟨_, _, h⟩ => hok h

theorem signatureVerified_staged (h : s.awake) (hstate : s.strState = 2) (happly : s.str.applying = false)
    (hok : s.imgSigOk s.str.bytes = true) (hgen : s.rd Reg.STR_GEN ≠ 0) :
    Completes (.signatureVerified true) s fun t =>
      t.strState = 3 ∧ t.rd Reg.STR_LOAD_TIME = s.strTimeUs ∧ OnlyRegs s t [Reg.STR_STATE, Reg.STR_LOAD_TIME] := by
  have hop : s.sigVerified true = (s.wr Reg.STR_LOAD_TIME s.strTimeUs).strGo 3 := by
    rw [State.sigVerified_verdict hstate happly hok, if_pos rfl, if_neg hgen]
  refine completes_framed (State.sigVerified · true) (fun s u => { s with regs := u.regs, str := u.str }) h rfl
    (fun _ => ⟨rfl, rfl⟩) hop ⟨State.strGo_state _ (by decide), ?_, rfl, ?_⟩
  · exact (State.rd_setFld_ne (f := Reg.STR_STATE_STATE) _ 3 (by decide)).trans (s.rd_wr_same _ _)
  · exact ((RegsBut.refl s _).wr _ (by simp)).setFld Reg.STR_STATE_STATE 3 (by simp)

theorem exec_signatureVerified_first (h : s.awake) (hstate : s.strState = 2) (happly : s.str.applying = false)
    (hok : s.imgSigOk s.str.bytes = true) (hgen : s.rd Reg.STR_GEN = 0) :
    exec (.signatureVerified true) s = .next { s with str := { s.str with applying := true } } := by
  change execSignatureVerified true s = _
  rw [execSignatureVerified, live_exact s _ h rfl rfl, State.sigVerified_verdict hstate happly hok, if_pos rfl,
    if_pos hgen]

theorem signatureVerified_fails (h : s.awake) (hboot : s.str.boot = false) (hstate : s.strState = 2)
    (happly : s.str.applying = false) (hok : s.imgSigOk s.str.bytes = false) :
    Completes (.signatureVerified false) s fun t =>
      t.strState = 7 ∧ t.fld Reg.STR_STATE_ERR = 0x04 ∧ t.str.bytes = [] ∧
      OnlyRegs { s with str := t.str } t [Reg.STR_STATE] := by
  obtain ⟨hst, herr, hbytes, hregs⟩ := s.strFail_failing (e := 0x04) (by decide)
  have hop : s.sigVerified false = s.strFail 0x04 := by
    rw [State.sigVerified_verdict hstate happly hok, if_neg Bool.false_ne_true, State.imageFails_host hboot]
  generalize s.strFail 0x04 = u at *
  exact completes_framed (State.sigVerified · false) (fun s u => { s with regs := u.regs, str := u.str }) h rfl
    (fun _ => ⟨rfl, rfl⟩) hop ⟨hst, herr, hbytes, rfl, hregs.2⟩

/-- A verdict that the bytes do not give changes nothing (the model's choice, log 51). -/
theorem exec_signatureVerified_wrong (h : s.awake) :
    exec (.signatureVerified (!s.imgSigOk s.str.bytes)) s = .next s := by
  have hop := State.sigVerified_other (s := s) (ok := !s.imgSigOk s.str.bytes) (by simp)
  change execSignatureVerified _ s = _
  rw [execSignatureVerified, live_exact s _ h rfl rfl, hop]

/-! ## The boot's check -/

/-- `t` is `u` with the image of bank `n` loading at boot, after firmware of version `v` (R63). -/
structure BootLoading (u t : State) (n : Nat) (v : Word) : Prop where
  bank : t.fld Reg.UPD_BANK_RUNNING = n
  version : t.rd Reg.UPD_FW_VERSION = v
  state : t.strState = 1
  source : t.fld Reg.STR_STATE_SOURCE = n + 1
  boot : t.str.boot = true
  regs : RegsBut u t [Reg.UPD_BANK, Reg.UPD_FW_VERSION, Reg.STR_STATE]

/-- The firmware of bank `n`, of version `v`, starts, and with it the load of that bank's image. -/
def State.bootFrom (s : State) (n : Nat) (v : Word) : State :=
  ((s.setFld Reg.UPD_BANK_RUNNING n).wr Reg.UPD_FW_VERSION v).strStart n true false

/-- The shadow is dropped, with `x` in the loader. -/
def State.shadowAs (s : State) (x : StrState) : State := { s.dropShadow with str := x }

theorem State.shadowAs_regsBut (s : State) (x : StrState) : RegsBut s (s.shadowAs x) [Reg.STR_STATE] :=
  s.dropShadow_regsBut

theorem State.strStart_boot (s : State) (n : Nat) : ∃ x : StrState, x.boot = true ∧
    s.strStart n true false =
      (((s.shadowAs x).setFld Reg.STR_STATE_ERR 0).setFld Reg.STR_STATE_SOURCE (n + 1)).strGo 1 :=
  ⟨{ s.dropShadow.str with
      pushing := n == 2, boot := true, forUpdate := false
      leftIdle := if true && s.strState != strIdle then s.str.leftIdle else s.tb.local16 }, rfl, rfl⟩

theorem RegsBut.trans {t u : State} {as : List Nat} (h : RegsBut s t as) (h' : RegsBut t u as) : RegsBut s u as :=
  fun a ha => (h' a ha).trans (h a ha)

theorem RegsBut.mono {t : State} {as bs : List Nat} (h : RegsBut s t as) (hsub : ∀ a ∈ as, a ∈ bs) : RegsBut s t bs :=
  fun a ha => h a fun hmem => ha (hsub a hmem)

/-- A field of a register left alone. -/
theorem RegsBut.fld {t : State} {as : List Nat} (h : RegsBut s t as) {f : Fld} (hf : f.addr ∉ as) :
    t.fld f = s.fld f := by
  rw [State.fld, State.fld, h _ hf]

/-- A load at boot changes STR_STATE. -/
theorem State.strStart_bootLoads (s : State) {n : Nat} (hn : n < 2) :
    (s.strStart n true false).strState = 1 ∧ (s.strStart n true false).fld Reg.STR_STATE_SOURCE = n + 1 ∧
    (s.strStart n true false).str.boot = true ∧ RegsBut s (s.strStart n true false) [Reg.STR_STATE] := by
  obtain ⟨x, hx, hop⟩ := s.strStart_boot n
  have hregs := s.shadowAs_regsBut x
  have hstr : (s.shadowAs x).str = x := rfl
  rw [hop]
  generalize s.shadowAs x = t at *
  refine ⟨strGo_state _ (by decide), ?_, ?_, ?_⟩
  · rw [strGo, fld_setFld_apart _ _ (by decide), fld_setFld_same _ _ _ (by decide)]
    exact Nat.mod_eq_of_lt (by rw [show 2 ^ Reg.STR_STATE_SOURCE.width = 4 from rfl]; omega)
  · change t.str.boot = true
    rw [hstr, hx]
  · exact ((hregs.setFld _ _ List.mem_cons_self).setFld _ _ List.mem_cons_self).setFld _ _ List.mem_cons_self

theorem State.bootFrom_loading (u : State) {n : Nat} (hn : n < 2) (v : Word) : BootLoading u (u.bootFrom n v) n v := by
  obtain ⟨hstate, hsource, hboot, hregs⟩ :=
    ((u.setFld Reg.UPD_BANK_RUNNING n).wr Reg.UPD_FW_VERSION v).strStart_bootLoads hn
  refine ⟨?_, ?_, hstate, hsource, hboot, ?_⟩
  · rw [bootFrom, hregs.fld (by decide), fld_wr_ne _ _ (by decide), fld_setFld_same _ _ _ (by decide)]
    exact Nat.mod_eq_of_lt (by rw [show 2 ^ Reg.UPD_BANK_RUNNING.width = 2 from rfl]; omega)
  · rw [bootFrom, hregs _ (by decide), rd_wr_same]
  · exact (((RegsBut.refl u _).setFld Reg.UPD_BANK_RUNNING n (by simp)).wr v (by simp)).trans
      (hregs.mono (by simp))

/-- The loader as the check leaves it, before the bank that runs is shown. -/
def State.bootNoted (s : State) (other : FwInfo) : State := { s with str := { s.str with
  triedOther := false, otherFw := if s.fwPasses other then some other.version else none } }

/-- The loader notes that it has tried the other bank. -/
def State.otherTried (s : State) : State :=
  { s.setFld Reg.STR_FLAGS_FALLBACK_BOOT 1 with str := { s.str with triedOther := true } }

section

variable {a b : FwInfo} {n : Nat} {mine other : FwInfo}

/-- Out of option fail-safe the boot starts from the bank that is active, if its firmware passes (R63, R433). -/
theorem State.bootCheck_mine (h : s.awake) (hopt : s.flag Reg.HLT_RESET_CAUSE_OPT_FAIL = false)
    (hstate : s.strState = 0) (hgen : s.rd Reg.STR_GEN = 0) (hn : s.optByte 9 % 2 = n)
    (hmine : (if n = 0 then a else b) = mine) (hother : (if n = 0 then b else a) = other)
    (hpass : s.fwPasses mine = true) : s.bootCheck a b = (s.bootNoted other).bootFrom n mine.version := by
  rw [bootCheck, hopt, if_neg Bool.false_ne_true, if_pos ⟨hstate, hgen, by rw [h]; rfl⟩]
  simp only [hn, hmine, hother, hpass, if_true]
  rfl

theorem State.bootOther_some (u : State) {e : Nat} {v : Word} (hfw : u.str.otherFw = some v) :
    u.bootOther e = u.otherTried.bootFrom (1 - u.fld Reg.UPD_BANK_RUNNING) v := by
  have hbank : u.otherTried.fld Reg.UPD_BANK_RUNNING = u.fld Reg.UPD_BANK_RUNNING :=
    u.fld_setFld_addr (f := Reg.STR_FLAGS_FALLBACK_BOOT) 1 (by decide)
  have hop : u.bootOther e = match u.str.otherFw with
    | some v => u.otherTried.bootFrom (1 - u.otherTried.fld Reg.UPD_BANK_RUNNING) v
    | none => u.otherTried.strFail e := rfl
  rw [hop, hfw, hbank]

theorem State.bootCheck_other (h : s.awake) (hopt : s.flag Reg.HLT_RESET_CAUSE_OPT_FAIL = false)
    (hstate : s.strState = 0) (hgen : s.rd Reg.STR_GEN = 0) (hn : s.optByte 9 % 2 = n)
    (hmine : (if n = 0 then a else b) = mine) (hother : (if n = 0 then b else a) = other)
    (hfail : s.fwPasses mine = false) (hpass : s.fwPasses other = true) :
    s.bootCheck a b =
      (((s.bootNoted other).setFld Reg.UPD_BANK_RUNNING n).otherTried).bootFrom (1 - n) other.version := by
  have hfw : ((s.bootNoted other).setFld Reg.UPD_BANK_RUNNING n).str.otherFw = some other.version := if_pos hpass
  have hbank : ((s.bootNoted other).setFld Reg.UPD_BANK_RUNNING n).fld Reg.UPD_BANK_RUNNING = n := by
    rw [fld_setFld_same _ _ _ (by decide)]
    exact Nat.mod_eq_of_lt (by rw [show 2 ^ Reg.UPD_BANK_RUNNING.width = 2 from rfl]; omega)
  have hop : s.bootCheck a b = ((s.bootNoted other).setFld Reg.UPD_BANK_RUNNING n).bootOther 0 := by
    rw [bootCheck, hopt, if_neg Bool.false_ne_true, if_pos ⟨hstate, hgen, by rw [h]; rfl⟩]
    simp only [hn, hmine, hother, hfail, Bool.false_eq_true, if_false]
    rfl
  rw [hop, bootOther_some _ hfw, hbank]

/-- In option fail-safe the bank is A, and no image is loaded (R455). -/
theorem State.bootCheck_failSafe (hopt : s.flag Reg.HLT_RESET_CAUSE_OPT_FAIL = true) :
    (s.bootCheck a b).fld Reg.UPD_BANK_RUNNING = 0 ∧ (s.bootCheck a b).str = s.str ∧
    RegsBut s (s.bootCheck a b) [Reg.UPD_BANK, Reg.UPD_FW_VERSION] := by
  have hop : s.bootCheck a b = if s.fwPasses a then
      (s.setFld Reg.UPD_BANK_RUNNING 0).wr Reg.UPD_FW_VERSION a.version else s.setFld Reg.UPD_BANK_RUNNING 0 :=
    if_pos hopt
  have hbank : (s.setFld Reg.UPD_BANK_RUNNING 0).fld Reg.UPD_BANK_RUNNING = 0 := s.fld_setFld_same _ _ (by decide)
  have hregs : RegsBut s (s.setFld Reg.UPD_BANK_RUNNING 0) [Reg.UPD_BANK, Reg.UPD_FW_VERSION] :=
    (RegsBut.refl s _).setFld _ _ (by simp)
  rw [hop]
  split
  · exact ⟨by rw [fld_wr_ne _ _ (by decide), hbank], rfl, hregs.wr _ (by simp)⟩
  · exact ⟨hbank, rfl, hregs⟩

theorem bootFirmwareCheck_mine (h : s.awake) (hopt : s.flag Reg.HLT_RESET_CAUSE_OPT_FAIL = false)
    (hstate : s.strState = 0) (hgen : s.rd Reg.STR_GEN = 0) (hn : s.optByte 9 % 2 = n)
    (hmine : (if n = 0 then a else b) = mine) (hother : (if n = 0 then b else a) = other)
    (hpass : s.fwPasses mine = true) :
    Completes (.bootFirmwareCheck a b) s fun t =>
      t.fld Reg.UPD_BANK_RUNNING = n ∧ t.rd Reg.UPD_FW_VERSION = mine.version ∧ t.strState = 1 ∧
      t.fld Reg.STR_STATE_SOURCE = n + 1 ∧ t.str.boot = true ∧
      OnlyRegs { s with str := t.str } t [Reg.UPD_BANK, Reg.UPD_FW_VERSION, Reg.STR_STATE] := by
  have hop := State.bootCheck_mine h hopt hstate hgen hn hmine hother hpass
  obtain ⟨hbank, hversion, hst, hsource, hboot, hregs⟩ :=
    (s.bootNoted other).bootFrom_loading (n := n) (by omega) mine.version
  have hregs' : RegsBut s _ _ := RegsBut.trans (t := s.bootNoted other) (RegsBut.refl s _) hregs
  generalize (s.bootNoted other).bootFrom n mine.version = u at *
  exact completes_framed (State.bootCheck · a b) (fun s u => { s with regs := u.regs, str := u.str }) h rfl
    (fun _ => ⟨rfl, rfl⟩) hop ⟨hbank, hversion, hst, hsource, hboot, rfl, hregs'⟩

theorem bootFirmwareCheck_other (h : s.awake) (hopt : s.flag Reg.HLT_RESET_CAUSE_OPT_FAIL = false)
    (hstate : s.strState = 0) (hgen : s.rd Reg.STR_GEN = 0) (hn : s.optByte 9 % 2 = n)
    (hmine : (if n = 0 then a else b) = mine) (hother : (if n = 0 then b else a) = other)
    (hfail : s.fwPasses mine = false) (hpass : s.fwPasses other = true) :
    Completes (.bootFirmwareCheck a b) s fun t =>
      t.fld Reg.UPD_BANK_RUNNING = 1 - n ∧ t.rd Reg.UPD_FW_VERSION = other.version ∧ t.strState = 1 ∧
      t.fld Reg.STR_STATE_SOURCE = 2 - n ∧ t.flag Reg.STR_FLAGS_FALLBACK_BOOT = true ∧
      OnlyRegs { s with str := t.str } t [Reg.UPD_BANK, Reg.UPD_FW_VERSION, Reg.STR_STATE, Reg.STR_FLAGS] := by
  have hop := State.bootCheck_other h hopt hstate hgen hn hmine hother hfail hpass
  have htried : RegsBut s ((s.bootNoted other).setFld Reg.UPD_BANK_RUNNING n).otherTried
      [Reg.UPD_BANK, Reg.UPD_FW_VERSION, Reg.STR_STATE, Reg.STR_FLAGS] :=
    (RegsBut.setFld (t := s.bootNoted other) (RegsBut.refl s _) Reg.UPD_BANK_RUNNING n (by simp)).setFld
      Reg.STR_FLAGS_FALLBACK_BOOT 1 (by simp)
  have hflag : ((s.bootNoted other).setFld Reg.UPD_BANK_RUNNING n).otherTried.flag Reg.STR_FLAGS_FALLBACK_BOOT
      = true := State.flag_setFld_one _ _ (by decide) (by decide)
  obtain ⟨hbank, hversion, hst, hsource, -, hregs⟩ :=
    ((s.bootNoted other).setFld Reg.UPD_BANK_RUNNING n).otherTried.bootFrom_loading (n := 1 - n) (by omega)
      other.version
  have hflag' := (congrArg (· == 1) (hregs.fld (f := Reg.STR_FLAGS_FALLBACK_BOOT) (by decide))).trans hflag
  have hregs' := htried.trans (hregs.mono (by simp))
  generalize ((s.bootNoted other).setFld Reg.UPD_BANK_RUNNING n).otherTried.bootFrom (1 - n) other.version = u at *
  refine completes_framed (State.bootCheck · a b) (fun s u => { s with regs := u.regs, str := u.str }) h rfl
    (fun _ => ⟨rfl, rfl⟩) hop ⟨hbank, hversion, hst, hsource.trans ?_, hflag', rfl, hregs'⟩
  omega

theorem bootFirmwareCheck_failSafe (h : s.awake) (hopt : s.flag Reg.HLT_RESET_CAUSE_OPT_FAIL = true) :
    Completes (.bootFirmwareCheck a b) s fun t =>
      t.fld Reg.UPD_BANK_RUNNING = 0 ∧ OnlyRegs s t [Reg.UPD_BANK, Reg.UPD_FW_VERSION] := by
  obtain ⟨hbank, hstr, hregs⟩ := State.bootCheck_failSafe (a := a) (b := b) hopt
  generalize hop : s.bootCheck a b = u at *
  exact completes_framed (State.bootCheck · a b) (fun s u => { s with regs := u.regs, str := u.str }) h rfl
    (fun _ => ⟨rfl, rfl⟩) hop ⟨hbank, by rw [hstr], hregs⟩

end

end Sys2Proof.Machine

open Sys2Proof.Machine in
/-- Settles O20: a piece in order of an allowed length adds its bytes, and the one that fills the image is judged by
the image's checks. -/
theorem piecesOfAPushedImage : Obligations.PiecesOfAPushedImage := by
  intro p s h
  refine ⟨fun hstate hpush => ⟨fun hlen => ?_, fun hlow hhigh hoff => ?_, piece_taken h hstate hpush,
    fun bs => piece_last h hstate hpush⟩, piece_ignored h⟩
  · exact piece_fails (by decide) h (State.strPiece_badLength hstate hpush hlen)
  · exact piece_fails (by decide) h (State.strPiece_badOrder hstate hpush hlow hhigh hoff)

open Sys2Proof.Machine in
/-- Settles O21: a load that is not the one at boot fails without trying the other bank; the checks of an image rest on
its bytes, on registers and on tables. -/
theorem imagesAreChecked : Obligations.ImagesAreChecked := by
  intro s h hboot
  exact ⟨fun hstate hpush => ⟨imageReadComplete_completes h hboot hstate hpush,
      flashReadError_completes h hboot hstate hpush⟩,
    fun hstate happly => ⟨signatureVerified_staged h hstate happly, exec_signatureVerified_first h hstate happly,
      signatureVerified_fails h hboot hstate happly, exec_signatureVerified_wrong h⟩⟩

open Sys2Proof.Machine in
/-- Settles O22: both banks start a load at boot in the same way; the other bank is tried with FALLBACK_BOOT set. -/
theorem bootChecksTheFirmware : Obligations.BootChecksTheFirmware := by
  intro a b s h
  exact ⟨fun hopt hstate hgen => ⟨bootFirmwareCheck_mine h hopt hstate hgen rfl rfl rfl,
    bootFirmwareCheck_other h hopt hstate hgen rfl rfl rfl⟩, bootFirmwareCheck_failSafe h⟩

end

section
/-!
SUPPORT. What an operation on a unit leaves alone: everything but the unit's own state and registers.
-/

namespace Sys2Proof.Machine

variable {s t : State}

/-- `t` differs from `s` only in the states of CAN units, lanes and banks and in registers of units. -/
structure BesideUnits (s t : State) : Prop where
  frame : { t with regs := s.regs, can := s.can, lanes := s.lanes, banks := s.banks } = s
  device : ∀ a, a < 0x200000 → t.rd a = s.rd a

theorem BesideUnits.refl (s : State) : BesideUnits s s := ⟨rfl, fun _ _ => rfl⟩

theorem BesideUnits.setFld (h : BesideUnits s t) {f : Fld} (v : Nat) (hf : 0x200000 ≤ f.addr) :
    BesideUnits s (t.setFld f v) :=
  ⟨h.frame, fun a ha => (t.rd_setFld_ne v (by omega)).trans (h.device a ha)⟩

theorem BesideUnits.bump (h : BesideUnits s t) {a : Nat} (ha : 0x200000 ≤ a) : BesideUnits s (t.bump a) :=
  ⟨h.frame, fun b hb => (t.rd_bump_ne (by omega)).trans (h.device b hb)⟩

theorem BesideUnits.setCan (h : BesideUnits s t) (n : Nat) (x : CanUnit) : BesideUnits s (t.setCan n x) :=
  ⟨h.frame, h.device⟩

theorem BesideUnits.setLane (h : BesideUnits s t) (n : Nat) (x : Lane) : BesideUnits s (t.setLane n x) :=
  ⟨h.frame, h.device⟩

theorem BesideUnits.setBank (h : BesideUnits s t) (b : Nat) (x : Bank) : BesideUnits s (t.setBank b x) :=
  ⟨h.frame, h.device⟩

theorem BesideUnits.foldl {α : Type} {f : State → α → State} (hf : ∀ t x, BesideUnits s t → BesideUnits s (f t x))
    (l : List α) (h : BesideUnits s t) : BesideUnits s (l.foldl f t) := by
  induction l generalizing t with
  | nil => exact h
  | cons x l ih => exact ih (hf t x h)

/-- The registers of a unit lie above those of the device. -/
theorem le_unitReg (u k : Nat) : 0x200000 ≤ Reg.unitBase u + k := by
  unfold Reg.unitBase
  omega

/-! ## Banks -/

theorem BesideUnits.setLineBit (h : BesideUnits s t) {f : Fld} (l : Nat) (v : Bool) (hf : 0x200000 ≤ f.addr) :
    BesideUnits s (t.setLineBit f l v) := h.setFld _ hf

theorem BesideUnits.lineLevel (h : BesideUnits s t) (b l : Nat) (v : Bool) : BesideUnits s (t.lineLevel b l v) :=
  ((h.setLineBit l v (le_unitReg _ _)).setLineBit l v (le_unitReg _ _)).setBank b _

theorem BesideUnits.driveLine (h : BesideUnits s t) (b l : Nat) (v : Bool) : BesideUnits s (t.driveLine b l v) := by
  have hdriven := (h.setLineBit (f := Reg.DSC_OUT_NOW_DRIVEN b) l v (le_unitReg _ _)).setBank b
    { (t.setLineBit (Reg.DSC_OUT_NOW_DRIVEN b) l v).bank b with
      hiz := setBit ((t.setLineBit (Reg.DSC_OUT_NOW_DRIVEN b) l v).bank b).hiz l false }
  unfold State.driveLine
  extract_lets u x w
  change BesideUnits s w at hdriven
  clear_value w
  split
  · exact hdriven
  · split
    · exact hdriven.setLineBit l v (le_unitReg _ _)
    · split
      · exact hdriven.setLineBit l v (le_unitReg _ _)
      · exact hdriven.lineLevel b l v

theorem BesideUnits.driveSafe (h : BesideUnits s t) (b l safe : Nat) : BesideUnits s (t.driveSafe b l safe) := by
  unfold State.driveSafe
  split
  · exact h.driveLine b l false
  · exact h.driveLine b l true
  · exact h
  · exact h.setBank b _

theorem BesideUnits.lineClear (h : BesideUnits s t) (b l : Nat) (v : Bool) : BesideUnits s (t.lineClear b l v) :=
  (h.driveLine b l v).setLineBit l false (le_unitReg _ _)

theorem BesideUnits.lineFollow (h : BesideUnits s t) (b l : Nat) : BesideUnits s (t.lineFollow b l) := by
  unfold State.lineFollow
  split
  · exact h
  · split
    · split
      · exact h.driveSafe b l _
      · exact h.lineClear b l _
    · exact h.lineClear b l _

theorem BesideUnits.lineRefresh (h : BesideUnits s t) (b l : Nat) : BesideUnits s (t.lineRefresh b l) := by
  unfold State.lineRefresh
  split
  · refine iteInduction (motive := BesideUnits s) (fun _ => ?_) fun _ => ?_
    · exact (((h.setBank b _).setFld 1 (le_unitReg _ _)).setLineBit l true (le_unitReg _ _)).bump (le_unitReg _ _)
    · exact (h.setBank b _).setLineBit l false (le_unitReg _ _)
  · exact h

theorem BesideUnits.bankStart (h : BesideUnits s t) (b : Nat) : BesideUnits s (t.bankStart b) := by
  unfold State.bankStart
  extract_lets fresh x marked safe refreshed
  have hmarked : BesideUnits s marked :=
    iteInduction (motive := BesideUnits s) (fun _ => h.setBank b _) fun _ => h
  have hsafe : BesideUnits s safe :=
    foldl (fun u l hu => (hu.driveSafe b l _).setLineBit l true (le_unitReg _ _)) _ hmarked
  have hrefreshed : BesideUnits s refreshed :=
    iteInduction (motive := BesideUnits s) (fun _ => hsafe) fun _ => foldl (fun u l hu => hu.lineRefresh b l) _ hsafe
  exact foldl (fun u l hu => hu.lineFollow b l) _ hrefreshed

theorem BesideUnits.laneStart (h : BesideUnits s t) (n : Nat) : BesideUnits s (t.laneStart n) :=
  ((h.setLane n _).setFld _ (le_unitReg _ _)).setFld _ (le_unitReg _ _)

theorem BesideUnits.canStartUp (h : BesideUnits s t) (n : Nat) : BesideUnits s (t.canStartUp n) := by
  unfold State.canStartUp
  split
  · refine iteInduction (motive := BesideUnits s) (fun _ => ?_) fun _ => ?_
    · exact h.setFld 1 (le_unitReg _ 0)
    · exact (h.setFld 1 (le_unitReg _ 0)).setFld _ (le_unitReg _ _)
  · exact h.setFld 1 (le_unitReg _ _)

theorem BesideUnits.unitStart (h : BesideUnits s t) (u : Nat) : BesideUnits s (t.unitStart u) := by
  unfold State.unitStart
  split
  · exact h
  · split
    · exact h.canStartUp _
    · split
      · exact (h.setFld 1 (le_unitReg _ 0)).laneStart _
      · exact h.setFld 1 (le_unitReg _ _)
    · exact (h.setFld 1 (le_unitReg _ 0)).bankStart _
    · exact h.setFld 1 (le_unitReg _ 0)

theorem BesideUnits.persApplied (h : BesideUnits s t) (u : Nat) : BesideUnits s (t.persApplied u) := by
  unfold State.persApplied
  split
  · exact h.setCan _ _
  · exact h.setBank _ _
  · exact h

theorem BesideUnits.unitsStart (h : BesideUnits s t) : BesideUnits s t.unitsStart :=
  foldl (fun _ u hu => (hu.persApplied u).unitStart u) _ h

end Sys2Proof.Machine
end

section
/-!
The structure comes into service (R63, R72, R76, R449). Starting the units leaves the items on their way alone, so that
whether STR drains is the same question before and after.
-/

namespace Sys2Proof.Machine

variable {s : State}

/-! ## Into service -/

/-- RUN of the blocks is no register of the loader. -/
theorem State.blocksRun_rd_gen (s : State) (on : Bool) : (s.blocksRun on).rd Reg.STR_GEN = s.rd Reg.STR_GEN := by
  simp (disch := decide) only [blocksRun, imageBlocks, List.foldl_cons, List.foldl_nil, rd_setFld_ne]

theorem State.intoService_rd_gen (s : State) : s.intoService.rd Reg.STR_GEN = s.rd Reg.STR_GEN := by
  have hrd := (BesideUnits.refl (s.blocksRun true)).unitsStart.device Reg.STR_GEN (by decide)
  rw [s.blocksRun_rd_gen true] at hrd
  unfold intoService
  generalize (s.blocksRun true).unitsStart = u at hrd ⊢
  exact hrd

theorem State.blocksRun_frame (s : State) (on : Bool) : { s.blocksRun on with regs := s.regs } = s := by
  have h := foldl_keeps (f := fun t b => State.setFld t (bstatRun b) (if on then 1 else 0))
    (fun t : State => { t with regs := s.regs }) (fun _ _ => rfl) imageBlocks s
  unfold blocksRun
  generalize imageBlocks.foldl _ s = t at h ⊢
  exact h

theorem State.intoService_frame (s : State) :
    { s.intoService with
      regs := s.regs, can := s.can, lanes := s.lanes, banks := s.banks, fieldReady := s.fieldReady } = s := by
  obtain ⟨hframe, -⟩ := (BesideUnits.refl (s.blocksRun true)).unitsStart
  have hblocks := s.blocksRun_frame true
  unfold intoService
  generalize (s.blocksRun true).unitsStart = u at *
  generalize s.blocksRun true = b at *
  have hb := congrArg (fun t : State => { t with
    regs := s.regs, can := s.can, lanes := s.lanes, banks := s.banks, fieldReady := s.fieldReady }) hframe
  have hs := congrArg (fun t : State => { t with
    can := s.can, lanes := s.lanes, banks := s.banks, fieldReady := s.fieldReady }) hblocks
  exact hb.trans hs

/-! ## Reclaiming -/

/-- What reclaiming the old entries shows (R76). -/
theorem State.reclaimOld_shows (s : State) :
    s.reclaimOld.strState = 0 ∧ s.reclaimOld.tblOld = [] ∧ s.reclaimOld.rd Reg.STR_GEN_DRAIN = s.rd Reg.STR_GEN ∧
    s.reclaimOld.rd Reg.STR_GEN = s.rd Reg.STR_GEN ∧ RegsBut s s.reclaimOld [Reg.STR_STATE, Reg.STR_GEN_DRAIN] := by
  have hregs : RegsBut s s.reclaimOld [Reg.STR_STATE, Reg.STR_GEN_DRAIN] :=
    ((RegsBut.refl s _).wr _ (by simp)).setFld Reg.STR_STATE_STATE 0 (by simp)
  refine ⟨State.strGo_state _ (by decide), rfl, ?_, hregs _ (by decide), hregs⟩
  exact (State.rd_setFld_ne (f := Reg.STR_STATE_STATE) _ 0 (by decide)).trans (s.rd_wr_same _ _)

theorem imageApplied_completes (h : s.awake) (hstate : s.strState = 2) (happly : s.str.applying = true) :
    Completes .imageApplied s fun t =>
      t.fieldReady = true ∧ t.strState = 0 ∧ t.tblOld = [] ∧ t.rd Reg.STR_GEN_DRAIN = t.rd Reg.STR_GEN := by
  have hop : s.imageApplied = ((s.wr Reg.STR_LOAD_TIME s.strTimeUs).tableSwitch).intoService.reclaimOld :=
    if_pos ⟨hstate, happly⟩
  generalize (s.wr Reg.STR_LOAD_TIME s.strTimeUs).tableSwitch = u at hop
  obtain ⟨hst, hold, hdrain, hgen, -⟩ := u.intoService.reclaimOld_shows
  have hready : u.intoService.reclaimOld.fieldReady = true := rfl
  have hdrain' := hdrain.trans hgen.symm
  generalize u.intoService.reclaimOld = t at *
  exact completes_of_live h (f := State.imageApplied) rfl hop ⟨hready, hst, hold, hdrain'⟩

/-! ## The end of a full reload -/

/-- The structure in service after a full reload. -/
def State.reloaded (s : State) : State :=
  { s.intoService with str := { s.intoService.str with reloading := false } }

/-- What the end of a full reload may change. -/
def State.afterReload (s u : State) : State := { s with
  regs := u.regs, tblOld := u.tblOld, str := u.str, can := u.can, lanes := u.lanes, banks := u.banks
  fieldReady := u.fieldReady }

theorem State.afterReload_eq {i : State} {x : StrState}
    (h : { i with regs := s.regs, can := s.can, lanes := s.lanes, banks := s.banks, fieldReady := s.fieldReady } = s) :
    s.afterReload { i with str := x } = { i with str := x } :=
  (congrArg (fun t : State => t.afterReload { i with str := x }) h).symm

theorem State.reloaded_frame (s : State) : s.afterReload s.reloaded = s.reloaded :=
  afterReload_eq s.intoService_frame

theorem State.reloaded_shows (s : State) : s.reloaded.rd Reg.STR_GEN = s.rd Reg.STR_GEN ∧
    s.reloaded.fieldReady = true ∧ s.reloaded.str.reloading = false := by
  have hgen := s.intoService_rd_gen
  have hready : s.intoService.fieldReady = true := rfl
  unfold reloaded
  generalize s.intoService = i at *
  exact ⟨hgen, hready, rfl⟩

/-- The end of a switch is registers and the old entries. -/
theorem State.switchDone_shows (s : State) :
    (s.switchDone false).strState = (if (s.switchDone false).oldItems (s.rd Reg.STR_GEN) then 6 else 0) ∧
    { s.switchDone false with regs := s.regs, tblOld := s.tblOld } = s := by
  rw [switchDone, Bool.false_and, Bool.or_false]
  by_cases hold : s.oldItems (s.rd Reg.STR_GEN) = true
  · have hsame : (s.strGo 6).oldItems (s.rd Reg.STR_GEN) = true := hold
    rw [if_pos hold, if_pos hsame]
    exact ⟨State.strGo_state _ (by decide), rfl⟩
  · have hsame : ¬ s.reclaimOld.oldItems (s.rd Reg.STR_GEN) = true := hold
    rw [if_neg hold, if_neg hsame]
    exact ⟨s.reclaimOld_shows.1, rfl⟩

theorem fullReloadComplete_completes (h : s.awake) (hstate : s.strState = 5) (hreload : s.str.reloading = true) :
    Completes .fullReloadComplete s fun t =>
      t.fieldReady = true ∧ t.str.reloading = false ∧
      t.strState = (if t.oldItems (s.rd Reg.STR_GEN) then 6 else 0) ∧ SameBytes s t := by
  have hop : s.reloadComplete = s.reloaded.switchDone false := if_pos ⟨hstate, hreload⟩
  obtain ⟨hst, hrest⟩ := s.reloaded.switchDone_shows
  obtain ⟨hgen, hready, hreloading⟩ := s.reloaded_shows
  have hframe := s.reloaded_frame
  rw [hgen] at hst
  generalize s.reloaded = r at *
  generalize r.switchDone false = u at *
  have hready' : u.fieldReady = true := (congrArg State.fieldReady hrest :).trans hready
  have hreloading' : u.str.reloading = false := (congrArg (fun t => t.str.reloading) hrest :).trans hreloading
  have hu : { r with regs := u.regs, tblOld := u.tblOld } = u :=
    (congrArg (fun t : State => { t with regs := u.regs, tblOld := u.tblOld }) hrest).symm
  have hwhole : s.afterReload u = u := by
    rw [← hu]
    exact (congrArg (fun t : State => { t with regs := u.regs, tblOld := u.tblOld }) hframe :)
  refine completes_framed State.reloadComplete State.afterReload h rfl (fun _ => ⟨rfl, rfl⟩) hop
    ⟨hready', hreloading', ?_, fun _ => rfl, rfl⟩
  rw [hwhole]
  exact hst

theorem drainComplete_completes (h : s.awake) (hstate : s.strState = 6) (hold : s.oldItems (s.rd Reg.STR_GEN) = false) :
    Completes .drainComplete s fun t =>
      t.strState = 0 ∧ t.tblOld = [] ∧ t.rd Reg.STR_GEN_DRAIN = s.rd Reg.STR_GEN ∧
      OnlyRegs { s with tblOld := [] } t [Reg.STR_STATE, Reg.STR_GEN_DRAIN] := by
  have hop : s.drainComplete = s.reclaimOld := if_pos ⟨hstate, by rw [hold]; rfl⟩
  obtain ⟨hst, htbl, hdrain, -, hregs⟩ := s.reclaimOld_shows
  generalize s.reclaimOld = u at *
  exact completes_framed State.drainComplete (fun s u => { s with regs := u.regs, tblOld := u.tblOld }) h rfl
    (fun _ => ⟨rfl, rfl⟩) hop ⟨hst, htbl, hdrain, by rw [htbl], hregs⟩

end Sys2Proof.Machine

open Sys2Proof.Machine in
/-- Settles O23: the units' start leaves the items on their way alone, and reclaiming the old entries is registers and
the old tables. -/
theorem structureComesIntoService : Obligations.StructureComesIntoService := by
  intro s h
  exact ⟨imageApplied_completes h, fullReloadComplete_completes h, drainComplete_completes h⟩

end

section
/-!
Units that stop (R89) and the settings store (R60). A unit stops by its safe state and RUN = 0; the store is written in
two steps, of which the first takes the values.
-/

namespace Sys2Proof.Machine

variable {s : State}

/-! ## Stopping a unit -/

theorem State.unitStop_idle {u : Nat} (hbit : s.stopBit u = true) (hrun : s.flag (bstatRun (Reg.unitBase u)) = true)
    (hidle : s.unitIdle u = true) : s.unitStop u = (s.unitSafe u).setFld (bstatRun (Reg.unitBase u)) 0 := by
  rw [unitStop, hbit, hrun, hidle, Bool.and_self, Bool.and_self, if_pos rfl, unitHalt, if_pos hrun]

theorem State.unitStop_busy {u : Nat} (hidle : s.unitIdle u = false) : s.unitStop u = s := by
  rw [unitStop, hidle, Bool.and_false, if_neg Bool.false_ne_true]

theorem unitStop_idle_completes {u : Fin 256} (h : s.awake) (hbit : s.stopBit u = true)
    (hrun : s.flag (bstatRun (Reg.unitBase u)) = true) (hidle : s.unitIdle u = true) :
    Completes (.unitStop u) s fun t =>
      t.flag (bstatRun (Reg.unitBase u)) = false ∧ t.tbl = s.tbl ∧ t.cells = s.cells ∧ SameBytes s t := by
  have hop := State.unitStop_idle hbit hrun hidle
  have hflag := (s.unitSafe u).flag_setFld_zero (f := bstatRun (Reg.unitBase u)) (by simp)
  generalize (s.unitSafe u).setFld (bstatRun (Reg.unitBase u)) 0 = t at *
  exact completes_framed (State.unitStop · u) (fun s t => { s with
    regs := t.regs, eqs := t.eqs, out := t.out, mbs := t.mbs, can := t.can, lanes := t.lanes, banks := t.banks,
    ports := t.ports, saltern := t.saltern, queues := t.queues }) h rfl (fun _ => ⟨rfl, rfl⟩) hop
    ⟨hflag, rfl, rfl, fun _ => rfl, rfl⟩

theorem exec_unitStop_busy {u : Fin 256} (h : s.awake) (hidle : s.unitIdle u = false) :
    exec (.unitStop u) s = .next s := by
  have hop := State.unitStop_busy hidle
  change execUnitStop u s = _
  rw [execUnitStop, live_exact s _ h rfl rfl, hop]

/-! ## The settings store -/

variable {p : PageNo}

/-- The half of the store that SAVE_SETTINGS begins (R60). -/
def State.halfNow (s : State) : StoreHalf :=
  { seq := match newestStore s.stores with
      | some h => (h.seq + 1) % 2 ^ 32
      | none => 1
    schema := (s.rd Reg.STR_ACT_SCHEMA).toNat % 65536, fields := s.str.listed.map s.fieldNow }

theorem State.saveSettings_begins (hlow : s.strState ≠ 1) (hverify : s.strState ≠ 2) (hswitch : s.strState ≠ 5)
    (hsaving : s.str.saving = none) : s.saveSettings = { s with str := { s.str with saving := some s.halfNow } } := by
  have hlt : s.strState < 8 := bits_lt _ _ _
  exact if_pos ⟨by simp only [strIdle, strStaged, strArmed, strDraining, strFailed]; omega, hsaving⟩

theorem State.saveSettings_ignored (h : s.strState = 1 ∨ s.strState = 2 ∨ s.strState = 5) :
    s.saveSettings = s.strIgnored :=
  if_neg fun ⟨hstate, _⟩ => by simp only [strIdle, strStaged, strArmed, strDraining, strFailed] at hstate; omega

theorem saveSettings_begins_completes (h : s.takes p Reg.STR_CMD) (hsaving : s.str.saving = none)
    (hlow : s.strState ≠ 1) (hverify : s.strState ≠ 2) (hswitch : s.strState ≠ 5) :
    Completes (.saveSettings p) s fun t =>
      { t with str := s.str } = s ∧
      ∃ h, t.str.saving = some h ∧ h.fields = s.str.listed.map s.fieldNow ∧
        h.schema = s.fld Reg.STR_ACT_SCHEMA_SCHEMA := by
  have hop := State.saveSettings_begins hlow hverify hswitch hsaving
  have hschema : s.halfNow.schema = s.fld Reg.STR_ACT_SCHEMA_SCHEMA := by
    change _ = (s.rd Reg.STR_ACT_SCHEMA).toNat / 2 ^ 0 % 2 ^ 16
    rw [pow_zero, Nat.div_one]
    rfl
  exact completes_onWrite (fun s u => { s with regs := u.regs, str := u.str }) h rfl (fun _ => ⟨rfl, rfl⟩) hop
    ⟨rfl, s.halfNow, rfl, rfl, hschema⟩

theorem saveSettings_ignored_completes (h : s.takes p Reg.STR_CMD)
    (hbusy : s.strState = 1 ∨ s.strState = 2 ∨ s.strState = 5) :
    Completes (.saveSettings p) s fun t =>
      t.flag Reg.STR_FLAGS_CMD_IGNORED = true ∧ OnlyRegs s t [Reg.STR_FLAGS] := by
  obtain ⟨hflag, hstr, hregs⟩ := s.strIgnored_shows
  have hop := State.saveSettings_ignored hbusy
  generalize s.strIgnored = u at *
  exact completes_onWrite (fun s u => { s with regs := u.regs, str := u.str }) h rfl (fun _ => ⟨rfl, rfl⟩) hop
    ⟨hflag, by rw [hstr], hregs⟩

/-- The store holds at most the newest half and the one just written. -/
theorem newest_append_length (l : List StoreHalf) (h : StoreHalf) : ((newestStore l).toList ++ [h]).length ≤ 2 := by
  cases newestStore l <;> simp

theorem saveDone_completes {x : StoreHalf} (h : s.awake) (hsaving : s.str.saving = some x) :
    Completes .saveDone s fun t =>
      x ∈ t.stores ∧ t.stores.length ≤ 2 ∧ t.str.saving = none ∧ t.flag Reg.STR_FLAGS_SAVE_DONE = true ∧
      OnlyRegs { s with str := t.str, stores := t.stores } t [Reg.STR_FLAGS] := by
  have hop : s.saveDone = State.setFld { s with
      stores := (newestStore s.stores).toList ++ [x], str := { s.str with saving := none } }
      Reg.STR_FLAGS_SAVE_DONE 1 := by rw [State.saveDone, hsaving]
  refine completes_framed State.saveDone (fun s u => { s with regs := u.regs, str := u.str, stores := u.stores }) h rfl
    (fun _ => ⟨rfl, rfl⟩) hop ⟨List.mem_append_right _ List.mem_cons_self, newest_append_length _ _, rfl,
      s.flag_setFld_one (f := Reg.STR_FLAGS_SAVE_DONE) (by decide) (by decide), rfl, ?_⟩
  exact (RegsBut.refl s _).setFld Reg.STR_FLAGS_SAVE_DONE 1 List.mem_cons_self

end Sys2Proof.Machine

open Sys2Proof.Machine in
/-- Settles O24: a unit between frames takes its safe state with RUN = 0; SAVE_SETTINGS begins a half of the store where
the loader's state allows it, and the end of the write puts that half into the store. -/
theorem unitsStopAndSettingsAreSaved : Obligations.UnitsStopAndSettingsAreSaved := by
  intro p u s
  exact ⟨fun h hbit hrun => ⟨unitStop_idle_completes h hbit hrun, exec_unitStop_busy h⟩,
    fun h hsaving => ⟨saveSettings_begins_completes h hsaving, saveSettings_ignored_completes h⟩,
    fun _ => saveDone_completes⟩

end

section
/-!
SUPPORT. Single bits of a number.
-/

namespace Sys2Proof.Machine

theorem bitOf_eq_testBit (x k : Nat) : bitOf x k = x.testBit k := by
  rw [bitOf, Nat.testBit_eq_decide_div_mod_eq, Bool.eq_iff_iff, beq_iff_eq, decide_eq_true_iff]

theorem setBit_mod (x k : Nat) (b : Bool) : setBit x k b % 2 ^ k = x % 2 ^ k := by
  have hsplit : setBit x k b = x % 2 ^ k + 2 ^ k * ((if b then 1 else 0) + 2 * (x / 2 ^ (k + 1))) := by
    rw [setBit, pow_succ]
    ring
  rw [hsplit, Nat.add_mul_mod_self_left, Nat.mod_mod]

theorem setBit_div (x k : Nat) (b : Bool) : setBit x k b / 2 ^ (k + 1) = x / 2 ^ (k + 1) := by
  have hlow : x % 2 ^ k + 2 ^ k * (if b then 1 else 0) < 2 ^ (k + 1) := by
    have := Nat.mod_lt x (Nat.two_pow_pos k)
    have : 2 ^ k * (if b then 1 else 0) ≤ 2 ^ k := by split <;> omega
    rw [pow_succ]
    omega
  rw [setBit, Nat.add_mul_div_left _ _ (Nat.two_pow_pos _), Nat.div_eq_of_lt hlow, Nat.zero_add]

theorem bitOf_setBit_same (x k : Nat) (b : Bool) : bitOf (setBit x k b) k = b := by
  have hsplit : setBit x k b = x % 2 ^ k + 2 ^ k * ((if b then 1 else 0) + 2 * (x / 2 ^ (k + 1))) := by
    rw [setBit, pow_succ]
    ring
  rw [bitOf, hsplit, Nat.add_mul_div_left _ _ (Nat.two_pow_pos k), Nat.div_eq_of_lt (Nat.mod_lt _ (Nat.two_pow_pos k)),
    Nat.zero_add, Nat.add_mul_mod_self_left]
  cases b <;> rfl

theorem bitOf_setBit_ne (x : Nat) {k j : Nat} (b : Bool) (h : j ≠ k) : bitOf (setBit x k b) j = bitOf x j := by
  rw [bitOf_eq_testBit, bitOf_eq_testBit]
  rcases Nat.lt_or_gt_of_ne h with hlt | hgt
  · have hmod := congrArg (Nat.testBit · j) (setBit_mod x k b)
    simpa [hlt] using hmod
  · obtain ⟨d, rfl⟩ := Nat.exists_eq_add_of_lt hgt
    have hdiv := congrArg (Nat.testBit · d) (setBit_div x k b)
    rw [Nat.testBit_div_two_pow, Nat.testBit_div_two_pow] at hdiv
    rwa [show k + d + 1 = d + (k + 1) by omega]

end Sys2Proof.Machine
end

section
/-!
The clock steps of the regions (R32 to R34). Each region has a field of GEN_REGION_STEP of its own, so that a change of
one region's step leaves the others alone.
-/

namespace Sys2Proof.Machine

variable {s : State} {r q : Nat}

/-! ## Commands that change the device -/

/-- Out of reset a command that leaves the queue and the held flag alone is answered with what its meaning makes. -/
theorem live_device {f : State → State} (h : s.awake) (hpending : (f s).pending = s.pending)
    (hheld : (f s).dev.held = false) : live s f = .next (f s) := by
  rw [live_next s f h]
  generalize f s = t at hpending hheld ⊢
  cases t with
  | mk =>
    simp only at hpending hheld ⊢
    rw [← hpending, ← hheld]

theorem completes_device {c : Instr} {u : State} {P : State → Prop} (op : State → State)
    (frame : State → State → State) (h : s.awake) (hexec : exec c s = live s fun s => frame s (op s))
    (hop : op s = u) (hpending : (frame s u).pending = s.pending) (hheld : (frame s u).dev.held = false)
    (hP : P (frame s u)) : Completes c s P := by
  exact ⟨_, by rw [hexec, live_device h (by rw [hop]; exact hpending) (by rw [hop]; exact hheld), hop], hP⟩

/-! ## The step of a region -/

theorem State.regionStep_setStep_same (s : State) (hr : r < 8) {k : Nat} (hk : k < 4) :
    (s.setStep r k).regionStep r = k := by
  have h := s.fld_setFld_same ⟨Reg.GEN_REGION_STEP, 2 * r, 2⟩ k (by simp only; omega)
  exact h.trans (Nat.mod_eq_of_lt hk)

theorem State.regionStep_setStep_ne (s : State) (hr : r < 8) (h : q ≠ r) (k : Nat) :
    (s.setStep r k).regionStep q = s.regionStep q :=
  s.fld_setFld_apart (f := ⟨Reg.GEN_REGION_STEP, 2 * r, 2⟩) (g := ⟨Reg.GEN_REGION_STEP, 2 * q, 2⟩) k
    (by simp only [Fld.apart]; omega)

theorem State.setStep_onlyRegs (s : State) (r k : Nat) :
    OnlyRegs { s with dev := (s.setStep r k).dev } (s.setStep r k) [Reg.GEN_REGION_STEP] :=
  ⟨rfl, (RegsBut.refl s _).setFld ⟨Reg.GEN_REGION_STEP, 2 * r, 2⟩ k List.mem_cons_self⟩

/-! ## Stepping down -/

theorem State.stepDown_due {busyPct : Nat} (hbusy : busyPct < 25)
    (hfloor : s.regionStep r < s.fld ⟨Reg.GEN_REGION_FLOOR, 2 * r, 2⟩) (hgen : s.rd Reg.STR_GEN ≠ 0)
    (hhold : s.dev.stepAt16.getD r 0 + (if s.fld Reg.GEN_REGION_IDLE_IDLE_HOLD = 0 then 100
        else s.fld Reg.GEN_REGION_IDLE_IDLE_HOLD) * 65536000 ≤ s.tb.local16)
    (hheld : s.regionHeld r = false)
    (hwork : s.dev.work16.getD r 0 / (131072 * 2 ^ s.regionStep r) ≠ s.tb.local16 / (131072 * 2 ^ s.regionStep r)) :
    s.stepDown r busyPct = s.setStep r (s.regionStep r + 1) :=
  if_pos ⟨hbusy, by rw [floorStep, if_neg hgen]; exact hfloor, hhold, by rw [hheld]; rfl, hwork⟩

theorem State.stepDown_not {busyPct : Nat}
    (h : 25 ≤ busyPct ∨ s.fld ⟨Reg.GEN_REGION_FLOOR, 2 * r, 2⟩ ≤ s.regionStep r ∨ s.rd Reg.STR_GEN = 0 ∨
      s.regionHeld r = true) : s.stepDown r busyPct = s := by
  refine if_neg fun ⟨hbusy, hfloor, _, hheld, _⟩ => ?_
  rcases h with h | h | h | h
  · omega
  · rw [floorStep] at hfloor
    split at hfloor <;> omega
  · rw [floorStep, if_pos h] at hfloor
    exact Nat.not_lt_zero _ hfloor
  · rw [h] at hheld
    exact absurd hheld (by decide)

theorem regionStepDown_completes {r : Fin 8} {busyPct : Nat} (h : s.awake) (hbusy : busyPct < 25)
    (hfloor : s.regionStep r < s.fld ⟨Reg.GEN_REGION_FLOOR, 2 * r, 2⟩) (hgen : s.rd Reg.STR_GEN ≠ 0)
    (hhold : s.dev.stepAt16.getD r 0 + (if s.fld Reg.GEN_REGION_IDLE_IDLE_HOLD = 0 then 100
        else s.fld Reg.GEN_REGION_IDLE_IDLE_HOLD) * 65536000 ≤ s.tb.local16)
    (hheld : s.regionHeld r = false)
    (hwork : s.dev.work16.getD r 0 / (131072 * 2 ^ s.regionStep r) ≠ s.tb.local16 / (131072 * 2 ^ s.regionStep r)) :
    Completes (.regionStepDown r busyPct) s fun t =>
      t.regionStep r = s.regionStep r + 1 ∧ (∀ q : Fin 8, q ≠ r → t.regionStep q = s.regionStep q) ∧
      OnlyRegs { s with dev := t.dev } t [Reg.GEN_REGION_STEP] := by
  have hop := State.stepDown_due hbusy hfloor hgen hhold hheld hwork
  have hlt : s.fld ⟨Reg.GEN_REGION_FLOOR, 2 * r, 2⟩ < 4 := bits_lt _ _ 2
  have hsame := s.regionStep_setStep_same r.isLt (k := s.regionStep r + 1) (by omega)
  have hothers : ∀ q : Fin 8, q ≠ r → (s.setStep r (s.regionStep r + 1)).regionStep q = s.regionStep q :=
    fun q hq => s.regionStep_setStep_ne r.isLt (fun h => hq (Fin.ext h)) _
  have hregs := s.setStep_onlyRegs r (s.regionStep r + 1)
  have hheld : (s.setStep r (s.regionStep r + 1)).dev.held = false := h
  generalize s.setStep r (s.regionStep r + 1) = u at *
  exact completes_device (State.stepDown · r busyPct) (fun s u => { s with regs := u.regs, dev := u.dev }) h rfl hop
    rfl hheld ⟨hsame, hothers, rfl, hregs.2⟩

theorem exec_regionStepDown_not {r : Fin 8} {busyPct : Nat} (h : s.awake)
    (hnot : 25 ≤ busyPct ∨ s.fld ⟨Reg.GEN_REGION_FLOOR, 2 * r, 2⟩ ≤ s.regionStep r ∨ s.rd Reg.STR_GEN = 0 ∨
      s.regionHeld r = true) : exec (.regionStepDown r busyPct) s = .next s := by
  have hop := State.stepDown_not (busyPct := busyPct) hnot
  change execRegionStepDown r busyPct s = _
  rw [execRegionStepDown, live_exact s _ h rfl (by rw [hop]), hop]

/-! ## Waking memories -/

/-- The step to which woken memories bring region `r` (Table 1.8). -/
def State.wakeStep (s : State) (r : Nat) : Nat :=
  if bitOf s.waking r ∨ s.rd Reg.STR_GEN = 0 then 0 else s.fld ⟨Reg.GEN_REGION_FLOOR, 2 * r, 2⟩

theorem State.wakeStep_lt (s : State) (r : Nat) : s.wakeStep r < 4 := by
  unfold wakeStep
  split
  · decide
  · exact bits_lt _ _ 2

/-- The state with the memories of region `r` awake at step `k`. -/
def State.wokenAt (s : State) (r k : Nat) : State :=
  { s.setStep r k with waking := setBit (setBit s.waking r false) (8 + r) false }

theorem State.memoryWake_wakes (hstep : s.regionStep r = 3)
    (hwaking : bitOf s.waking r = true ∨ bitOf s.waking (8 + r) = true) :
    s.memoryWake r = s.wokenAt r (s.wakeStep r) := by
  have hk : (if bitOf s.waking r then 0 else s.floorStep r) = s.wakeStep r := by
    rw [wakeStep, floorStep]
    by_cases hbit : bitOf s.waking r = true
    · rw [if_pos hbit, if_pos (.inl hbit)]
    · rw [if_neg hbit]
      by_cases hgen : s.rd Reg.STR_GEN = 0
      · rw [if_pos hgen, if_pos (.inr hgen)]
      · rw [if_neg hgen, if_neg (not_or_intro hbit hgen)]
  rw [memoryWake, if_pos ⟨hstep, hwaking⟩, hk]
  rfl

theorem regionMemoryWake_completes {r : Fin 8} (h : s.awake) (hstep : s.regionStep r = 3)
    (hwaking : bitOf s.waking r = true ∨ bitOf s.waking (8 + r) = true) :
    Completes (.regionMemoryWake r) s fun t =>
      t.regionStep r = (if bitOf s.waking r ∨ s.rd Reg.STR_GEN = 0 then 0
        else s.fld ⟨Reg.GEN_REGION_FLOOR, 2 * r, 2⟩) ∧
      bitOf t.waking r = false ∧ bitOf t.waking (8 + r) = false ∧
      OnlyRegs { s with dev := t.dev, waking := t.waking } t [Reg.GEN_REGION_STEP] := by
  have hop := State.memoryWake_wakes hstep hwaking
  have hsame : (s.wokenAt r (s.wakeStep r)).regionStep r = s.wakeStep r :=
    s.regionStep_setStep_same r.isLt (s.wakeStep_lt r)
  have hwork : bitOf (s.wokenAt r (s.wakeStep r)).waking r = false :=
    (bitOf_setBit_ne _ _ (by omega)).trans (bitOf_setBit_same _ _ _)
  have hfloor : bitOf (s.wokenAt r (s.wakeStep r)).waking (8 + r) = false := bitOf_setBit_same _ _ _
  have hregs : RegsBut s (s.wokenAt r (s.wakeStep r)) [Reg.GEN_REGION_STEP] := (s.setStep_onlyRegs r _).2
  have hheld : (s.wokenAt r (s.wakeStep r)).dev.held = false := h
  generalize s.wokenAt r (s.wakeStep r) = u at *
  exact completes_device (State.memoryWake · r) (fun s u => { s with regs := u.regs, waking := u.waking, dev := u.dev })
    h rfl hop rfl hheld ⟨hsame, hwork, hfloor, rfl, hregs⟩

/-! ## Holding regions for a release -/

/-- What a release near does to one region that it targets (R34). -/
def State.holdRegion (s : State) (r : Nat) : State :=
  if s.regionStep r = 3 then { s with waking := setBit s.waking r true }
  else if s.regionStep r = 0 then s
  else s.setStep r 0

theorem State.regionHold_near {e : Nat} (hstate : (s.act e).state = 1) (hnear : s.releaseNear (s.act e) = true) :
    s.regionHold e = ((List.range 8).filter (s.actInRegion (s.act e).words)).foldl State.holdRegion s :=
  if_pos ⟨hstate, hnear⟩

/-- What holding region `r` leaves: at step 3 its memories wake, else it is at step 0. -/
theorem State.holdRegion_same (s : State) (hr : r < 8) :
    (s.regionStep r = 3 → bitOf (s.holdRegion r).waking r = true ∧ (s.holdRegion r).regionStep r = 3) ∧
    (s.regionStep r ≠ 3 → (s.holdRegion r).regionStep r = 0) := by
  constructor
  · intro h
    rw [holdRegion, if_pos h]
    exact ⟨bitOf_setBit_same _ _ _, h⟩
  · intro h
    rw [holdRegion, if_neg h]
    split
    · assumption
    · exact s.regionStep_setStep_same hr (by decide)

theorem State.holdRegion_ne (s : State) (hr : r < 8) (h : q ≠ r) :
    (s.holdRegion r).regionStep q = s.regionStep q ∧ bitOf (s.holdRegion r).waking q = bitOf s.waking q := by
  rw [holdRegion]
  split
  · exact ⟨rfl, bitOf_setBit_ne _ _ h⟩
  · split
    · exact ⟨rfl, rfl⟩
    · exact ⟨s.regionStep_setStep_ne hr h 0, rfl⟩

/-- A region held by each of a list stays as the last one left it. -/
theorem State.foldl_holdRegion {l : List Nat} (hl : ∀ k ∈ l, k < 8) (s : State) :
    (s.regionStep q = 3 → (q ∈ l ∨ bitOf s.waking q = true) →
      bitOf (l.foldl State.holdRegion s).waking q = true ∧ (l.foldl State.holdRegion s).regionStep q = 3) ∧
    (s.regionStep q ≠ 3 → (q ∈ l ∨ s.regionStep q = 0) → (l.foldl State.holdRegion s).regionStep q = 0) := by
  induction l generalizing s with
  | nil =>
    exact ⟨fun h hw => ⟨hw.resolve_left List.not_mem_nil, h⟩, fun _ hw => hw.resolve_left List.not_mem_nil⟩
  | cons r l ih =>
    have hr := hl r List.mem_cons_self
    obtain ⟨ihwake, ihzero⟩ := ih (fun k hk => hl k (List.mem_cons_of_mem r hk)) (s.holdRegion r)
    by_cases hqr : q = r
    · obtain ⟨hwake, hzero⟩ := s.holdRegion_same hr
      subst hqr
      refine ⟨fun h _ => ?_, fun h _ => ?_⟩
      · exact ihwake (hwake h).2 (.inr (hwake h).1)
      · exact ihzero (by rw [hzero h]; decide) (.inr (hzero h))
    · obtain ⟨hstep, hwaking⟩ := s.holdRegion_ne hr hqr
      rw [hstep] at ihwake ihzero
      rw [hwaking] at ihwake
      refine ⟨fun h hw => ihwake h ?_, fun h hw => ihzero h ?_⟩
      · exact hw.imp_left fun hmem => (List.mem_cons.1 hmem).resolve_left hqr
      · exact hw.imp_left fun hmem => (List.mem_cons.1 hmem).resolve_left hqr

theorem State.foldl_holdRegion_frame (l : List Nat) (s : State) :
    RegsBut s (l.foldl State.holdRegion s) [Reg.GEN_REGION_STEP] ∧
    (l.foldl State.holdRegion s).dev.held = s.dev.held := by
  induction l generalizing s with
  | nil => exact ⟨RegsBut.refl s _, rfl⟩
  | cons r l ih =>
    obtain ⟨hregs, hheld⟩ := ih (s.holdRegion r)
    have hone : RegsBut s (s.holdRegion r) [Reg.GEN_REGION_STEP] ∧ (s.holdRegion r).dev.held = s.dev.held := by
      rw [holdRegion]
      split
      · exact ⟨RegsBut.refl s _, rfl⟩
      · split
        · exact ⟨RegsBut.refl s _, rfl⟩
        · exact ⟨(s.setStep_onlyRegs r 0).2, rfl⟩
    exact ⟨hone.1.trans hregs, hheld.trans hone.2⟩

theorem regionHold_completes {e : ActNo} (h : s.awake) (hstate : (s.act e).state = 1)
    (hunits : actOnUnits (s.act e).words = true) (hnear : s.releaseNear (s.act e) = true) :
    Completes (.regionHold e) s fun t =>
      (∀ q : Fin 8, (∃ k < 32, s.actMask (s.act e).words (32 * q + k) = true) →
        (s.regionStep q = 3 → bitOf t.waking q = true ∧ t.regionStep q = 3) ∧
        (s.regionStep q ≠ 3 → t.regionStep q = 0)) ∧
      OnlyRegs { s with dev := t.dev, waking := t.waking } t [Reg.GEN_REGION_STEP] := by
  have hop := State.regionHold_near hstate hnear
  have hlt : ∀ k ∈ (List.range 8).filter (s.actInRegion (s.act e).words), k < 8 := fun k hk =>
    List.mem_range.1 (List.mem_filter.1 hk).1
  have hmem (q : Fin 8) (hq : ∃ k < 32, s.actMask (s.act e).words (32 * q + k) = true) :
      q.val ∈ (List.range 8).filter (s.actInRegion (s.act e).words) := by
    obtain ⟨k, hk, hmask⟩ := hq
    refine List.mem_filter.2 ⟨List.mem_range.2 q.isLt, ?_⟩
    rw [State.actInRegion, hunits, Bool.true_and]
    exact List.any_eq_true.2 ⟨k, List.mem_range.2 hk, hmask⟩
  obtain ⟨hregs, hheld⟩ := State.foldl_holdRegion_frame ((List.range 8).filter (s.actInRegion (s.act e).words)) s
  have hregions (q : Fin 8) (hq : ∃ k < 32, s.actMask (s.act e).words (32 * q + k) = true) :=
    State.foldl_holdRegion (q := q) hlt s
  have hheld' := hheld.trans h
  generalize ((List.range 8).filter (s.actInRegion (s.act e).words)).foldl State.holdRegion s = u at *
  refine completes_device (State.regionHold · e)
    (fun s u => { s with regs := u.regs, waking := u.waking, dev := u.dev }) h rfl hop rfl hheld' ⟨fun q hq => ?_, rfl, hregs⟩
  obtain ⟨hwake, hzero⟩ := hregions q hq
  exact ⟨fun h3 => hwake h3 (.inl (hmem q hq)), fun h3 => hzero h3 (.inl (hmem q hq))⟩

end Sys2Proof.Machine
end

section
/-!
The temperatures of the dies (R42, R43). Measuring one die writes its register, its flag and its mark; the flags and
marks of the others stay.
-/

namespace Sys2Proof.Machine

variable {s t : State} {k : Nat}

/-! ## One die -/

/-- The temperature register of die `k`. -/
abbrev tempReg (k : Nat) : Nat := Reg.GEN_TEMP_CORE + 4 * k

/-- Registers, event queues, what is emitted and the marks of the dies: all that a measurement changes. -/
def BesideTemp (s t : State) : Prop := { t with regs := s.regs, eqs := s.eqs, out := s.out, dev := s.dev } = s

/-- The temperature of die `k` is shown. -/
def State.tempShown (s : State) (k temp : Nat) : State := s.wr (tempReg k) (w32 (temp % 65536))

/-- Die `k` is marked hot or no longer hot. -/
def State.markHot (s : State) (k : Nat) (b : Bool) : State :=
  { s with dev := { s.dev with hot := setBit s.dev.hot k b } }

/-- The flag of a die that was not above the limit at its last measurement. -/
def State.hotFlag (s : State) (k : Nat) (fresh : Bool) : State :=
  if fresh then s.setFld ⟨Reg.GEN_TEMP_FLAGS, k, 1⟩ 1 else s

/-- Die `k` was marked cool, or was at or below the limit, before this measurement. -/
def State.freshlyHot (s : State) (k : Nat) : Bool :=
  !bitOf s.dev.hot k || decide (sgn 16 (s.rd (tempReg k)).toNat ≤ sgn 16 (s.fld Reg.GEN_TEMP_WARN_WARN))

theorem State.dieTemp_eq (s : State) (k temp : Nat) : s.dieTemp k temp =
    if sgn 16 (s.fld Reg.GEN_TEMP_WARN_WARN) < sgn 16 temp then
      if bitOf s.dev.hot k then (s.tempShown k temp).hotFlag k (s.freshlyHot k)
      else (((s.tempShown k temp).hotFlag k (s.freshlyHot k)).postEvent 0x0E0 k (w32 (temp % 65536))).markHot k true
    else if sgn 16 temp ≤ sgn 16 (s.fld Reg.GEN_TEMP_WARN_WARN) - 32 then (s.tempShown k temp).markHot k false
    else s.tempShown k temp := rfl

/-- `t` is `s` but for die `k`: its register, its flag, its mark, and what has been posted. -/
structure OneDie (s t : State) (k : Nat) : Prop where
  frame : BesideTemp s t
  regs : ∀ a, a < 0x3000000 → a ≠ tempReg k → a ≠ Reg.GEN_TEMP_FLAGS → t.rd a = s.rd a
  flags : ∀ j, j ≠ k → t.flag ⟨Reg.GEN_TEMP_FLAGS, j, 1⟩ = s.flag ⟨Reg.GEN_TEMP_FLAGS, j, 1⟩
  marks : ∀ j, j ≠ k → bitOf t.dev.hot j = bitOf s.dev.hot j
  held : t.dev.held = s.dev.held

theorem OneDie.tempShown (s : State) (hk : k < 3) (temp : Nat) : OneDie s (s.tempShown k temp) k := by
  refine ⟨rfl, fun a _ ha _ => s.rd_wr_ne _ ha, fun j _ => ?_, fun _ _ => rfl, rfl⟩
  exact s.flag_wr_ne _ (by simp only [tempReg, Reg.GEN_TEMP_CORE, Reg.GEN_TEMP_FLAGS]; omega)

theorem OneDie.hotFlag (h : OneDie s t k) (hk : k < 3) (b : Bool) : OneDie s (t.hotFlag k b) k := by
  unfold State.hotFlag
  split
  · refine ⟨h.frame, fun a hlt ha hflags => ?_, fun j hj => ?_, h.marks, h.held⟩
    · rw [t.rd_setFld_ne 1 hflags, h.regs a hlt ha hflags]
    · rw [t.flag_setFld_apart (f := ⟨Reg.GEN_TEMP_FLAGS, k, 1⟩) 1 (by simp only [Fld.apart]; omega), h.flags j hj]
  · exact h

theorem OneDie.markHot (h : OneDie s t k) (b : Bool) : OneDie s (t.markHot k b) k :=
  ⟨h.frame, h.regs, h.flags, fun j hj => (bitOf_setBit_ne _ b hj).trans (h.marks j hj), h.held⟩

theorem OneDie.postEvent (h : OneDie s t k) (code src : Nat) (data : Word) :
    OneDie s (t.postEvent code src data) k := by
  refine ⟨h.frame, fun a hlt ha hflags => ?_, fun j hj => ?_, h.marks, h.held⟩
  · rw [t.postEvent_rd _ _ _ hlt, h.regs a hlt ha hflags]
  · rw [State.flag, t.postEvent_fld _ _ _ (show Reg.GEN_TEMP_FLAGS < 0x3000000 by decide)]
    exact h.flags j hj

/-- The measurement of die `k` touches no other die. -/
theorem State.dieTemp_oneDie (s : State) (hk : k < 3) (temp : Nat) : OneDie s (s.dieTemp k temp) k := by
  have hshown := OneDie.tempShown s hk temp
  rw [dieTemp_eq]
  split
  · split
    · exact hshown.hotFlag hk _
    · exact ((hshown.hotFlag hk _).postEvent _ _ _).markHot true
  · split
    · exact hshown.markHot false
    · exact hshown

theorem State.hotFlag_rd (s : State) {a : Nat} (ha : a ≠ Reg.GEN_TEMP_FLAGS) (k : Nat) (b : Bool) :
    (s.hotFlag k b).rd a = s.rd a := by
  unfold hotFlag
  split
  · exact s.rd_setFld_ne 1 ha
  · rfl

/-- The measurement shows the temperature of its die. -/
theorem State.dieTemp_shows (s : State) (hk : k < 3) (temp : Nat) :
    (s.dieTemp k temp).rd (tempReg k) = w32 (temp % 65536) := by
  have hlt : tempReg k < 0x3000000 := by simp only [tempReg, Reg.GEN_TEMP_CORE]; omega
  have hne : tempReg k ≠ Reg.GEN_TEMP_FLAGS := by simp only [tempReg, Reg.GEN_TEMP_CORE, Reg.GEN_TEMP_FLAGS]; omega
  have hshown : (s.tempShown k temp).rd (tempReg k) = w32 (temp % 65536) := s.rd_wr_same _ _
  rw [dieTemp_eq]
  split
  · split
    · rw [hotFlag_rd _ hne, hshown]
    · exact (postEvent_rd _ _ _ _ hlt).trans ((hotFlag_rd _ hne _ _).trans hshown)
  · split <;> exact hshown

/-- A die at or below the limit posts nothing. -/
theorem State.dieTemp_cool {temp : Nat} (h : sgn 16 temp ≤ sgn 16 (s.fld Reg.GEN_TEMP_WARN_WARN)) :
    (s.dieTemp k temp).eqs = s.eqs := by
  rw [dieTemp_eq, if_neg (by omega)]
  split <;> rfl

theorem State.hotFlag_eqs (s : State) (k : Nat) (b : Bool) : (s.hotFlag k b).eqs = s.eqs := by
  unfold hotFlag
  split <;> rfl

/-- A die above the limit that is marked hot posts nothing and stays marked. -/
theorem State.dieTemp_stillHot {temp : Nat} (h : sgn 16 (s.fld Reg.GEN_TEMP_WARN_WARN) < sgn 16 temp)
    (hhot : bitOf s.dev.hot k = true) :
    bitOf (s.dieTemp k temp).dev.hot k = true ∧ (s.dieTemp k temp).eqs = s.eqs := by
  rw [dieTemp_eq, if_pos h, if_pos hhot]
  refine ⟨?_, (s.tempShown k temp).hotFlag_eqs k _⟩
  unfold hotFlag
  split <;> exact hhot

/-- A die above the limit that is not marked hot is marked, shows its flag and posts DIE_HOT (R43). -/
theorem State.dieTemp_newlyHot {temp : Nat} (hk : k < 3) (h : sgn 16 (s.fld Reg.GEN_TEMP_WARN_WARN) < sgn 16 temp)
    (hhot : bitOf s.dev.hot k = false) :
    bitOf (s.dieTemp k temp).dev.hot k = true ∧ (s.dieTemp k temp).flag ⟨Reg.GEN_TEMP_FLAGS, k, 1⟩ = true ∧
    Posts s (s.dieTemp k temp) 0x0E0 k (w32 (temp % 65536)) := by
  have hfresh : s.freshlyHot k = true := by rw [freshlyHot, hhot]; rfl
  rw [dieTemp_eq, if_pos h, if_neg (by rw [hhot]; decide), hfresh, hotFlag, if_pos rfl]
  refine ⟨bitOf_setBit_same _ _ _, ?_, ?_⟩
  · refine Eq.trans (b := (((s.tempShown k temp).setFld ⟨Reg.GEN_TEMP_FLAGS, k, 1⟩ 1).postEvent 0x0E0 k
      (w32 (temp % 65536))).flag ⟨Reg.GEN_TEMP_FLAGS, k, 1⟩) rfl ?_
    rw [flag, postEvent_fld _ _ _ _ (show Reg.GEN_TEMP_FLAGS < 0x3000000 by decide)]
    exact flag_setFld_one _ _ rfl (show k + 1 ≤ 32 by omega)
  · exact postEvent_eqs_congr s (t := (s.tempShown k temp).setFld ⟨Reg.GEN_TEMP_FLAGS, k, 1⟩ 1) rfl rfl rfl _ _ _

/-! ## The three dies -/

/-- The time of the measurement is noted. -/
def State.tempTimed (s : State) : State := { s with dev := { s.dev with temp16 := s.tb.local16 } }

theorem OneDie.tempTimed {t : State} (h : OneDie s.tempTimed t 0) : OneDie s t 0 :=
  ⟨(congrArg (fun u : State => { u with dev := s.dev }) h.frame :), h.regs, h.flags, h.marks, h.held⟩

/-- The measurement of the three dies (R42). -/
def State.allTemps (s : State) (core pd0 pd1 : Nat) : State :=
  ((s.tempTimed.dieTemp 0 core).dieTemp 1 pd0).dieTemp 2 pd1

theorem State.tempMeasure_due {core pd0 pd1 : Nat} (h : s.dev.temp16 + 1000 * 65536000 ≤ s.tb.local16) :
    s.tempMeasure core pd0 pd1 = s.allTemps core pd0 pd1 := if_pos h

theorem w32_toNat_mod (x : BitVec 16) : w32 (x.toNat % 65536) = x.setWidth 32 := by
  rw [Nat.mod_eq_of_lt x.isLt, w32, BitVec.ofNat_toNat]

theorem sgn_toNat (x : BitVec 16) : sgn 16 x.toNat = x.toInt := by
  have hlt := x.isLt
  rw [sgn, Nat.mod_eq_of_lt hlt, BitVec.toInt_eq_toNat_cond]
  by_cases h : x.toNat < 2 ^ 15
  · exact (if_pos h).trans (if_pos (by omega)).symm
  · exact (if_neg h).trans (if_neg (by omega)).symm

theorem exec_tempMeasure_early {core pd0 pd1 : BitVec 16} (h : s.awake)
    (hearly : s.tb.local16 < s.dev.temp16 + 1000 * 65536000) : exec (.tempMeasure core pd0 pd1) s = .next s := by
  have hop : s.tempMeasure core.toNat pd0.toNat pd1.toNat = s := if_neg (by simp only [us16]; omega)
  change execTempMeasure core pd0 pd1 s = _
  rw [execTempMeasure, live_exact s _ h rfl (by rw [hop]), hop]

/-- What the three measurements do: the first, and then two that leave its die alone. -/
theorem State.allTemps_spec (s : State) (core pd0 pd1 : Nat) : ∃ a b : State,
    OneDie s a 0 ∧ OneDie a b 1 ∧ OneDie b (s.allTemps core pd0 pd1) 2 ∧
    a.rd (tempReg 0) = w32 (core % 65536) ∧ b.rd (tempReg 1) = w32 (pd0 % 65536) ∧
    (s.allTemps core pd0 pd1).rd (tempReg 2) = w32 (pd1 % 65536) := by
  exact ⟨_, _, (State.dieTemp_oneDie _ (by decide) core).tempTimed, State.dieTemp_oneDie _ (by decide) pd0,
    State.dieTemp_oneDie _ (by decide) pd1, State.dieTemp_shows _ (by decide) core,
    State.dieTemp_shows _ (by decide) pd0, State.dieTemp_shows _ (by decide) pd1⟩

/-- A measurement is answered with what it makes of registers, queues and marks. -/
theorem exec_tempMeasure_due {core pd0 pd1 : BitVec 16} {t : State} (h : s.awake)
    (hop : s.tempMeasure core.toNat pd0.toNat pd1.toNat = t) (hheld : t.dev.held = false) :
    exec (.tempMeasure core pd0 pd1) s = .next { s with regs := t.regs, eqs := t.eqs, out := t.out, dev := t.dev } := by
  change execTempMeasure core pd0 pd1 s = _
  rw [execTempMeasure, live_device h rfl (by rw [hop]; exact hheld), hop]

theorem tempMeasure_shows {core pd0 pd1 : BitVec 16} (h : s.awake)
    (hdue : s.dev.temp16 + 1000 * 65536000 ≤ s.tb.local16) : Completes (.tempMeasure core pd0 pd1) s fun t =>
      t.rd Reg.GEN_TEMP_CORE = core.setWidth 32 ∧ t.rd Reg.GEN_TEMP_PD0 = pd0.setWidth 32 ∧
      t.rd Reg.GEN_TEMP_PD1 = pd1.setWidth 32 ∧
      { t with regs := s.regs, eqs := s.eqs, out := s.out, dev := s.dev } = s := by
  have hop := State.tempMeasure_due (core := core.toNat) (pd0 := pd0.toNat) (pd1 := pd1.toNat) hdue
  obtain ⟨a, b, ha, hb, ht, hcore, hpd0, hpd1⟩ := s.allTemps_spec core.toNat pd0.toNat pd1.toNat
  generalize s.allTemps core.toNat pd0.toNat pd1.toNat = t at *
  rw [w32_toNat_mod] at hcore hpd0 hpd1
  have hheld : t.dev.held = false := ht.held.trans (hb.held.trans (ha.held.trans h))
  have hcore' : t.rd Reg.GEN_TEMP_CORE = core.setWidth 32 :=
    (ht.regs _ (by decide) (by decide) (by decide)).trans ((hb.regs _ (by decide) (by decide) (by decide)).trans hcore)
  have hpd0' : t.rd Reg.GEN_TEMP_PD0 = pd0.setWidth 32 :=
    (ht.regs _ (by decide) (by decide) (by decide)).trans hpd0
  exact ⟨_, exec_tempMeasure_due h hop hheld, hcore', hpd0', hpd1, rfl⟩

/-- Where the core alone is above the limit, the measurement is that of the core as far as marks, flags and events
go. -/
theorem State.allTemps_core {core pd0 pd1 : Nat}
    (hpd0 : sgn 16 pd0 ≤ sgn 16 (s.fld Reg.GEN_TEMP_WARN_WARN))
    (hpd1 : sgn 16 pd1 ≤ sgn 16 (s.fld Reg.GEN_TEMP_WARN_WARN)) : ∃ a : State,
    a = s.tempTimed.dieTemp 0 core ∧
    bitOf (s.allTemps core pd0 pd1).dev.hot 0 = bitOf a.dev.hot 0 ∧
    (s.allTemps core pd0 pd1).flag Reg.GEN_TEMP_FLAGS_HOT_CORE = a.flag Reg.GEN_TEMP_FLAGS_HOT_CORE ∧
    (s.allTemps core pd0 pd1).eqs = a.eqs ∧ (s.allTemps core pd0 pd1).dev.held = a.dev.held := by
  refine ⟨_, rfl, ?_⟩
  have ha := s.tempTimed.dieTemp_oneDie (k := 0) (by decide) core
  unfold allTemps
  generalize s.tempTimed.dieTemp 0 core = a at ha ⊢
  have hb := a.dieTemp_oneDie (k := 1) (by decide) pd0
  have hwarna : a.fld Reg.GEN_TEMP_WARN_WARN = s.fld Reg.GEN_TEMP_WARN_WARN :=
    congrArg (getBits · 0 16) (ha.regs _ (by decide) (by decide) (by decide))
  have heqb : (a.dieTemp 1 pd0).eqs = a.eqs := dieTemp_cool (by rw [hwarna]; exact hpd0)
  generalize a.dieTemp 1 pd0 = b at hb heqb ⊢
  have ht := b.dieTemp_oneDie (k := 2) (by decide) pd1
  have hwarnb : b.fld Reg.GEN_TEMP_WARN_WARN = a.fld Reg.GEN_TEMP_WARN_WARN :=
    congrArg (getBits · 0 16) (hb.regs _ (by decide) (by decide) (by decide))
  have heqt : (b.dieTemp 2 pd1).eqs = b.eqs := dieTemp_cool (by rw [hwarnb, hwarna]; exact hpd1)
  exact ⟨(ht.marks 0 (by decide)).trans (hb.marks 0 (by decide)),
    (ht.flags 0 (by decide)).trans (hb.flags 0 (by decide)), heqt.trans heqb, ht.held.trans hb.held⟩

theorem tempMeasure_hot {core pd0 pd1 : BitVec 16} (h : s.awake)
    (hdue : s.dev.temp16 + 1000 * 65536000 ≤ s.tb.local16)
    (hhot : sgn 16 (s.fld Reg.GEN_TEMP_WARN_WARN) < core.toInt)
    (hpd0 : pd0.toInt ≤ sgn 16 (s.fld Reg.GEN_TEMP_WARN_WARN))
    (hpd1 : pd1.toInt ≤ sgn 16 (s.fld Reg.GEN_TEMP_WARN_WARN)) :
    Completes (.tempMeasure core pd0 pd1) s fun t =>
      bitOf t.dev.hot 0 = true ∧
      (bitOf s.dev.hot 0 = false → t.flag Reg.GEN_TEMP_FLAGS_HOT_CORE = true ∧ Posts s t 0x0E0 0 (core.setWidth 32)) ∧
      (bitOf s.dev.hot 0 = true → t.eqs = s.eqs) := by
  have hop := State.tempMeasure_due (core := core.toNat) (pd0 := pd0.toNat) (pd1 := pd1.toNat) hdue
  rw [← sgn_toNat] at hhot hpd0 hpd1
  obtain ⟨a, ha, hmark, hflag, heqs, hheld⟩ := State.allTemps_core (core := core.toNat) hpd0 hpd1
  have honce := s.tempTimed.dieTemp_oneDie (k := 0) (by decide)
    core.toNat
  have hstill (hb : bitOf s.dev.hot 0 = true) := State.dieTemp_stillHot (k := 0) (temp := core.toNat)
    (s := s.tempTimed) hhot hb
  have hnew (hb : bitOf s.dev.hot 0 = false) := State.dieTemp_newlyHot (k := 0) (temp := core.toNat)
    (s := s.tempTimed) (by decide) hhot hb
  rw [w32_toNat_mod] at hnew
  have hposts (e : Word) : (s.tempTimed.postEvent 0x0E0 0 e).eqs = (s.postEvent 0x0E0 0 e).eqs :=
    postEvent_eqs_congr s (t := s.tempTimed) rfl rfl rfl _ _ _
  have hheld0 : s.tempTimed.dev.held = s.dev.held ∧ s.tempTimed.eqs = s.eqs := ⟨rfl, rfl⟩
  rw [← ha] at honce hstill hnew
  generalize s.allTemps core.toNat pd0.toNat pd1.toNat = t at *
  have hheld' : t.dev.held = false := hheld.trans (honce.held.trans h)
  have hmarked : bitOf t.dev.hot 0 = true := hmark.trans <| by
    cases hb : bitOf s.dev.hot 0 with
    | true => exact (hstill hb).1
    | false => exact (hnew hb).1
  refine ⟨_, exec_tempMeasure_due h hop hheld', hmarked, fun hb => ?_, fun hb => heqs.trans (hstill hb).2⟩
  obtain ⟨-, hset, hpost⟩ := hnew hb
  exact ⟨hflag.trans hset, heqs.trans (Eq.trans hpost (hposts _))⟩

end Sys2Proof.Machine

open Sys2Proof.Machine in
/-- Settles O25: the regions have fields of their own, and a measurement of one die leaves the flags and marks of the
others alone. -/
theorem regionsAndTemperatures : Obligations.RegionsAndTemperatures := by
  refine ⟨fun r busyPct s h => ⟨?_, exec_regionStepDown_not h, regionMemoryWake_completes h,
    fun e => regionHold_completes h⟩, fun core pd0 pd1 s h => ⟨exec_tempMeasure_early h, tempMeasure_shows h,
    tempMeasure_hot h⟩⟩
  exact regionStepDown_completes h

end

section
/-!
SUPPORT. The registers of GEN (0x100000 to 0x10FFFF) through what a unit does when it takes its safe state: none of it
writes there.
-/

namespace Sys2Proof.Machine

variable {s t : State}

/-- The registers of GEN read as before. -/
def SameGen (s t : State) : Prop := ∀ a, a < 0x110000 → t.rd a = s.rd a

theorem SameGen.refl (s : State) : SameGen s s := fun _ _ => rfl

theorem SameGen.trans {u : State} (h : SameGen s t) (h' : SameGen t u) : SameGen s u :=
  fun a ha => (h' a ha).trans (h a ha)

theorem SameGen.fld (h : SameGen s t) {f : Fld} (hf : f.addr < 0x110000) : t.fld f = s.fld f := by
  rw [State.fld, State.fld, h _ hf]

theorem SameGen.wr (h : SameGen s t) {a : Nat} (v : Word) (ha : 0x110000 ≤ a) : SameGen s (t.wr a v) :=
  fun b hb => (t.rd_wr_ne v (by omega)).trans (h b hb)

theorem SameGen.setFld (h : SameGen s t) {f : Fld} (v : Nat) (hf : 0x110000 ≤ f.addr) : SameGen s (t.setFld f v) :=
  h.wr _ hf

theorem SameGen.bump (h : SameGen s t) {a : Nat} (ha : 0x110000 ≤ a) : SameGen s (t.bump a) := h.wr _ ha

theorem SameGen.tick (h : SameGen s t) {a : Nat} (ha : 0x110000 ≤ a) : SameGen s (t.tick a) := h.wr _ ha

theorem SameGen.postEvent (h : SameGen s t) (code src : Nat) (data : Word) : SameGen s (t.postEvent code src data) :=
  fun b hb => (t.postEvent_rd code src data (by omega)).trans (h b hb)

theorem SameGen.foldl {α : Type} {f : State → α → State} (hf : ∀ t x, SameGen s t → SameGen s (f t x)) (l : List α)
    (h : SameGen s t) : SameGen s (l.foldl f t) := by
  induction l generalizing t with
  | nil => exact h
  | cons x l ih => exact ih (hf t x h)

theorem SameGen.ofUnits (h : BesideUnits s t) : SameGen s t := fun a ha => h.device a (by omega)

/-- The registers of a unit lie above those of GEN. -/
theorem le_unitReg' (u k : Nat) : 0x110000 ≤ Reg.unitBase u + k := by
  unfold Reg.unitBase
  omega

/-! ## CAN units -/

theorem SameGen.mbSet (h : SameGen s t) (n m st : Nat) : SameGen s (t.mbSet n m st) :=
  h.setFld _ ((le_unitReg' _ _).trans (Nat.le_add_right _ _))

theorem SameGen.mbFail (h : SameGen s t) (n m st : Nat) : SameGen s (t.mbFail n m st) :=
  (h.mbSet n m st).postEvent _ _ _

theorem SameGen.mbPend (h : SameGen s t) (n m : Nat) : SameGen s (t.mbPend n m) := by
  unfold State.mbPend
  split
  · exact h.mbSet n m _
  · exact h.mbFail n m _

theorem SameGen.mbPut (h : SameGen s t) (n m : Nat) (ws : List Word) (b : Bool) : SameGen s (t.mbPut n m ws b) :=
  SameGen.setFld (t := t.setMb n m _) h _ ((le_unitReg' _ _).trans (Nat.le_add_right _ _))

theorem SameGen.mbTakeHeld (h : SameGen s t) (n m : Nat) : SameGen s (t.mbTakeHeld n m false) := by
  unfold State.mbTakeHeld
  split
  · exact h
  · next ws src _ =>
    have hput := (h.mbPut n m ws (decide (src = .unusable))).setFld (f := Reg.CFD_MB_STAT_HELD n m) 0
      ((le_unitReg' _ _).trans (Nat.le_add_right _ _))
    dsimp only
    generalize (t.mbPut n m ws (decide (src = .unusable))).setFld (Reg.CFD_MB_STAT_HELD n m) 0 = u at hput ⊢
    rw [if_neg Bool.false_ne_true]
    split
    · exact hput.mbPend n m
    · exact hput

theorem SameGen.mbAttempt (h : SameGen s t) (n m : Nat) (o : OnBus) (lostArb busOff suspend : Bool) :
    SameGen s (t.mbAttempt n m o lostArb busOff suspend) := by
  have hmiss : SameGen s (t.bump (Reg.CFD_WIN_MISS n)) := h.bump (le_unitReg' _ _)
  refine mbTakeHeld ?_ n m
  split
  · exact h.mbFail n m _
  · split
    · exact (h.mbSet n m _).postEvent _ _ _
    · split
      · exact hmiss.mbFail n m _
      · split
        · exact h.mbFail n m _
        · split
          · exact hmiss.mbSet n m _
          · exact h.mbSet n m _

theorem SameGen.mtxClose (h : SameGen s t) (n : Nat) : SameGen s (t.mtxClose n) := by
  unfold State.mtxClose
  dsimp only
  split
  · split
    · exact SameGen.wr (t := t.setMtx n _) h _ (le_unitReg' _ _)
    · exact h
  · exact h

theorem SameGen.canAbandon (h : SameGen s t) (n : Nat) : SameGen s (t.canAbandon n) := by
  unfold State.canAbandon State.canFailed
  split
  · exact h
  · dsimp only
    split
    · exact SameGen.mbAttempt (t := (t.mtxClose n).setCan n _) (h.mtxClose n) n _ _ _ _ _
    · exact h.mtxClose n

/-! ## Lanes, banks and field MACs -/

theorem SameGen.laneSafe (h : SameGen s t) (n : Nat) : SameGen s (t.laneSafe n) := by
  have hfall : SameGen s (t.deFall n) := by
    unfold State.deFall
    split <;> exact h
  exact SameGen.setFld (t := (t.deFall n).setLane n _) hfall _ (le_unitReg' _ _)

theorem SameGen.bankSafe (h : SameGen s t) (b : Nat) : SameGen s (t.bankSafe b) := by
  refine h.trans (SameGen.ofUnits ?_)
  exact BesideUnits.foldl (fun u l hu => (hu.driveSafe b l _).setLineBit l true (le_unitReg _ _)) _ (BesideUnits.refl t)

theorem SameGen.panDrop (h : SameGen s t) (fid : Nat) : SameGen s (t.panDrop fid) := by
  unfold State.panDrop
  dsimp only
  split
  · exact (SameGen.setFld (t := t.setPanUse fid _) h _ (by decide)).setFld _ (by decide)
  · exact h

theorem SameGen.lineLost (h : SameGen s t) (p : Nat) : SameGen s (t.lineLost p) := by
  unfold State.lineLost
  split
  · exact h
  · next x _ =>
    have hcredit : SameGen s (t.cbsUpdate p x.q) :=
      SameGen.wr (t := t.setQueue p x.q _) h _ (by simp only [Reg.SWC_Q_CREDIT]; omega)
    exact SameGen.panDrop (t := (t.cbsUpdate p x.q).setPort p _) hcredit _

theorem SameGen.txStamp (h : SameGen s t) (p : Nat) (bs : List Byte) (at16 : Nat) :
    SameGen s (t.txStamp p bs at16) := by
  unfold State.txStamp
  dsimp only
  split
  · exact h
  · split
    · split
      · exact h
      · exact SameGen.bump (t := t.setPort p _) h (by simp only [Reg.SWC_P_TS_LOST]; omega)
    · exact h

theorem SameGen.cutEnds (h : SameGen s t) (p e : Nat) (c : CutThrough) (bs : List Byte) (bad : Bool) :
    SameGen s (t.cutEnds p e c bs bad) := by
  unfold State.cutEnds
  split
  · exact h
  · next x _ =>
    extract_lets tx16 out sent bad' counted
    have hsent : SameGen s sent := SameGen.txStamp (t := t.emit _) h _ _ _
    have hbad : SameGen s bad' := by
      refine iteInduction (motive := SameGen s) (fun _ => ?_) fun _ => hsent
      exact hsent.bump (by simp only [Reg.SWC_P_CT_BAD]; omega)
    exact hbad.tick (a := Reg.SWC_P_CT_FRAMES e) (by simp only [Reg.SWC_P_CT_FRAMES]; omega)

theorem SameGen.endCut (h : SameGen s t) (p : Nat) (bs : List Byte) (bad : Bool) : SameGen s (t.endCut p bs bad) := by
  unfold State.endCut
  split
  · exact h
  · exact panDrop (foldl (t := t.setCut p none) (fun u e hu => hu.cutEnds p e _ _ _) _ h) _

theorem SameGen.ingressLost (h : SameGen s t) (p : Nat) : SameGen s (t.ingressLost p) := by
  unfold State.ingressLost
  split
  · exact (h.bump (a := Reg.SWC_P_FCS_ERR p) (by simp only [Reg.SWC_P_FCS_ERR]; omega)).endCut p _ _
  · exact h

/-! ## Units -/

theorem SameGen.unitSafe (h : SameGen s t) (u : Nat) : SameGen s (t.unitSafe u) := by
  unfold State.unitSafe
  split
  · exact h.canAbandon _
  · exact h.laneSafe _
  · exact h.bankSafe _
  · exact (h.lineLost _).ingressLost _

end Sys2Proof.Machine
end

section
/-!
Mortar links (R37 to R41, R51, R456). A link that goes DOWN keeps its state through all that its die then does.
-/

namespace Sys2Proof.Machine

variable {s : State}

/-! ## Codewords -/

/-- The run of failed replays of a link. -/
def State.replaysSet (s : State) (l k : Nat) : State :=
  { s with dev := { s.dev with replays := s.dev.replays.set l k } }

theorem State.codeword_clean {l : Nat} (h : s.linkState l ≠ 2) : s.codeword l .clean = s.replaysSet l 0 := if_neg h

theorem State.codeword_corrected {l : Nat} (h : s.linkState l ≠ 2) :
    s.codeword l .corrected = ((s.bump (Reg.GEN_ML_CORR l)).bump Reg.HLT_CE_CNT).replaysSet l 0 := if_neg h

theorem State.codeword_uncorrectable {l : Nat} (h : s.linkState l ≠ 2) : s.codeword l .uncorrectable =
    (if s.dev.replays.getD l 0 < 8 then s.bump (Reg.GEN_ML_REPLAY l) else s).replaysSet l
      (s.dev.replays.getD l 0 + 1) := if_neg h

theorem exec_codewordReceived {l : Fin 4} {c : Codeword} {t : State} (h : s.awake) (hop : s.codeword l c = t)
    (hheld : t.dev.held = false) : exec (.codewordReceived l c) s = .next { s with regs := t.regs, dev := t.dev } := by
  change execCodewordReceived l c s = _
  rw [execCodewordReceived, live_device h rfl (by rw [hop]; exact hheld), hop]

theorem exec_codewordReceived_clean {l : Fin 4} (h : s.awake) (hup : s.linkState l ≠ 2) :
    exec (.codewordReceived l .clean) s = .next { s with dev := { s.dev with replays := s.dev.replays.set l 0 } } :=
  exec_codewordReceived h (State.codeword_clean hup) h

theorem codewordReceived_corrected {l : Fin 4} (h : s.awake) (hup : s.linkState l ≠ 2) :
    Completes (.codewordReceived l .corrected) s fun t =>
      t.rd (Reg.GEN_ML_CORR l) = satInc (s.rd (Reg.GEN_ML_CORR l)) ∧
      t.rd Reg.HLT_CE_CNT = satInc (s.rd Reg.HLT_CE_CNT) ∧ t.dev.replays = s.dev.replays.set l 0 ∧
      OnlyRegs { s with dev := t.dev } t [Reg.GEN_ML_CORR l, Reg.HLT_CE_CNT] := by
  have hne : Reg.GEN_ML_CORR l ≠ Reg.HLT_CE_CNT := by simp only [Reg.GEN_ML_CORR, Reg.HLT_CE_CNT]; omega
  refine ⟨_, exec_codewordReceived h (State.codeword_corrected hup) h, ?_, ?_, rfl, rfl, ?_⟩
  · exact (State.rd_bump_ne _ hne).trans (s.rd_bump_same _)
  · exact (State.rd_bump_same _ _).trans (congrArg satInc (s.rd_bump_ne hne.symm))
  · exact ((RegsBut.refl s _).wr _ (by simp)).wr _ (by simp)

theorem codewordReceived_uncorrectable {l : Fin 4} (h : s.awake) (hup : s.linkState l ≠ 2) :
    Completes (.codewordReceived l .uncorrectable) s fun t =>
      t.rd (Reg.GEN_ML_REPLAY l) = (if s.dev.replays.getD l 0 < 8 then satInc (s.rd (Reg.GEN_ML_REPLAY l))
        else s.rd (Reg.GEN_ML_REPLAY l)) ∧
      t.dev.replays = s.dev.replays.set l (s.dev.replays.getD l 0 + 1) ∧
      OnlyRegs { s with dev := t.dev } t [Reg.GEN_ML_REPLAY l] := by
  have hop := State.codeword_uncorrectable hup
  by_cases hfew : s.dev.replays.getD l 0 < 8
  · rw [if_pos hfew] at hop
    refine ⟨_, exec_codewordReceived h hop h, ?_, rfl, rfl, (RegsBut.refl s _).wr _ List.mem_cons_self⟩
    rw [if_pos hfew]
    exact s.rd_bump_same _
  · rw [if_neg hfew] at hop
    exact ⟨_, exec_codewordReceived h hop h, (if_neg hfew).symm, rfl, rfl, RegsBut.refl s _⟩

theorem exec_codewordReceived_down {l : Fin 4} {c : Codeword} (h : s.awake) (hdown : s.linkState l = 2) :
    exec (.codewordReceived l c) s = .next s :=
  exec_codewordReceived h (if_pos hdown) h

/-! ## Retraining and coming up -/

theorem exec_linkRetrain {l : Fin 4} {b : Bool} {t : State} (h : s.awake) (hop : s.linkRetrain l b = t)
    (hheld : t.dev.held = false) : exec (.linkRetrain l b) s = .next { s with hlt := t.hlt, dev := t.dev } := by
  change execLinkRetrain l b s = _
  rw [execLinkRetrain, live_device h rfl (by rw [hop]; exact hheld), hop]

theorem State.linkRetrain_early {l : Nat} {b : Bool} (h : s.tb.local16 < s.dev.retrain16.getD l 0 + 10000 * 65536000) :
    s.linkRetrain l b = s := if_neg fun ⟨_, hdue⟩ => by simp only [retrain10ms, us16] at hdue; omega

theorem State.linkRetrain_due {l : Nat} {b : Bool} (hdown : s.linkState l = 2)
    (hdue : s.dev.retrain16.getD l 0 + 10000 * 65536000 ≤ s.tb.local16) :
    s.linkRetrain l b = if b = true ∧ (!s.hlt.badLinks.contains l) = true then
      (s.retrainMark l).startTest (0x40000 + l) fcLinkDown else s.retrainMark l := if_pos ⟨hdown, hdue⟩

theorem linkRetrain_trains {l : Fin 4} (h : s.awake) (hdown : s.linkState l = 2)
    (hdue : s.dev.retrain16.getD l 0 + 10000 * 65536000 ≤ s.tb.local16)
    (hgood : s.hlt.badLinks.contains l.val = false) :
    Completes (.linkRetrain l true) s fun t =>
      (0x40000 + l.val, 5) ∈ t.hlt.testing ∧ t.dev.retrain16 = s.dev.retrain16.set l s.tb.local16 ∧
      { t with hlt := { t.hlt with testing := s.hlt.testing },
               dev := { t.dev with retrain16 := s.dev.retrain16 } } = s := by
  have hop : s.linkRetrain l true = (s.retrainMark l).startTest (0x40000 + l) fcLinkDown := by
    rw [State.linkRetrain_due hdown hdue, if_pos ⟨rfl, by rw [hgood]; rfl⟩]
  exact ⟨_, exec_linkRetrain h hop h, List.mem_append_right _ List.mem_cons_self, rfl, rfl⟩

theorem exec_linkRetrain_fails {l : Fin 4} {b : Bool} (h : s.awake) (hdown : s.linkState l = 2)
    (hdue : s.dev.retrain16.getD l 0 + 10000 * 65536000 ≤ s.tb.local16)
    (hbad : b = false ∨ s.hlt.badLinks.contains l.val = true) :
    exec (.linkRetrain l b) s = .next { s with dev := { s.dev with
      retrain16 := s.dev.retrain16.set l s.tb.local16 } } := by
  have hnot : ¬ (b = true ∧ (!s.hlt.badLinks.contains l.val) = true) := by
    rintro ⟨rfl, hgood⟩
    rw [hbad.resolve_left (by decide)] at hgood
    exact absurd hgood (by decide)
  have hop : s.linkRetrain l b = s.retrainMark l := by rw [State.linkRetrain_due hdown hdue, if_neg hnot]
  exact exec_linkRetrain h hop h

theorem mortarLinkUp_completes {l : Fin 4} (h : s.awake) (htrain : s.linkState l = 1) :
    Completes (.mortarLinkUp l) s fun t => t.linkState l = 0 ∧ OnlyRegs s t [Reg.GEN_MORTAR_STATE] := by
  have hop : s.linkUp l = s.setFld ⟨Reg.GEN_MORTAR_STATE, 2 * l, 2⟩ 0 := if_pos htrain
  have hzero : (s.setFld ⟨Reg.GEN_MORTAR_STATE, 2 * l, 2⟩ 0).linkState l = 0 :=
    s.fld_setFld_same ⟨Reg.GEN_MORTAR_STATE, 2 * l, 2⟩ 0 (by simp only; omega)
  exact completes_framed (State.linkUp · l) (fun s u => { s with regs := u.regs }) h rfl (fun _ => ⟨rfl, rfl⟩) hop
    ⟨hzero, rfl, (RegsBut.refl s _).setFld ⟨Reg.GEN_MORTAR_STATE, 2 * l, 2⟩ 0 List.mem_cons_self⟩

/-! ## Going down -/

/-- The link is DOWN and its failed replays are forgotten; it is logged, and its messages wait. -/
def State.linkFallen (s : State) (l : Nat) : State :=
  ((((s.setFld ⟨Reg.GEN_MORTAR_STATE, 2 * l, 2⟩ 2).replaysSet l 0).logFault fcLinkDown (0x40000 + l) 0).retrainMark
    l).holdMessages (l / 2)

theorem State.linkDown_ninth {l : Nat} (hup : s.linkState l ≠ 2) (hnine : 9 ≤ s.dev.replays.getD l 0) :
    s.linkDown l = if (s.linkFallen l).dieCut (l / 2) then
      (((s.linkFallen l).dieSafe (l / 2)).dieDiscard (l / 2)).replaceCheck else s.linkFallen l := if_pos ⟨hup, hnine⟩

theorem SameGen.logFault {t : State} (h : SameGen s t) (code item detail : Nat) :
    SameGen s (t.logFault code item detail) := by
  unfold State.logFault
  exact SameGen.bump (t := t.setBytes _ _) h (by decide)

theorem SameGen.dieSafe {t : State} (h : SameGen s t) (d : Nat) : SameGen s (t.dieSafe d) := by
  unfold State.dieSafe
  refine foldl (fun u k hu => ?_) _ h
  split
  · exact hu.unitSafe _
  · exact hu

theorem SameGen.dieDiscard {t : State} (h : SameGen s t) (d : Nat) : SameGen s (t.dieDiscard d) := by
  unfold State.dieDiscard
  extract_lets gone sig kept
  have hkept : SameGen s kept := h
  clear_value kept
  refine foldl (fun u e hu => ?_) _ hkept
  dsimp only
  split
  · exact SameGen.setFld (t := u.setEngine e _) hu _ (by simp only [Reg.secBase]; omega)
  · exact hu

theorem SameGen.replaceCheck {t : State} (h : SameGen s t) : SameGen s t.replaceCheck := by
  have htake : SameGen s t.takeReasons := h.setFld _ (by decide)
  unfold State.replaceCheck
  split
  · exact h
  · split
    · exact htake
    · exact ((htake.setFld (f := Reg.HLT_STATUS_REPLACE) 1 (by decide)).logFault _ _ _).postEvent _ _ _

theorem State.linkFallen_sameGen (s : State) (l : Nat) :
    SameGen (s.setFld ⟨Reg.GEN_MORTAR_STATE, 2 * l, 2⟩ 2) (s.linkFallen l) := by
  unfold linkFallen
  generalize s.setFld ⟨Reg.GEN_MORTAR_STATE, 2 * l, 2⟩ 2 = t
  have hlog : SameGen t ((t.replaysSet l 0).logFault fcLinkDown (0x40000 + l) 0) :=
    SameGen.logFault (t := t.replaysSet l 0) (SameGen.refl t) _ _ _
  generalize (t.replaysSet l 0).logFault fcLinkDown (0x40000 + l) 0 = u at hlog ⊢
  exact hlog

theorem SameGen.linkState {t : State} (h : SameGen s t) (l : Nat) : t.linkState l = s.linkState l :=
  h.fld (f := ⟨Reg.GEN_MORTAR_STATE, 2 * l, 2⟩) (show Reg.GEN_MORTAR_STATE < 0x110000 by decide)

/-- A link that falls is DOWN. -/
theorem State.linkFallen_down (s : State) {l : Nat} (hl : l < 4) : (s.linkFallen l).linkState l = 2 := by
  rw [(s.linkFallen_sameGen l).linkState]
  exact s.fld_setFld_same ⟨Reg.GEN_MORTAR_STATE, 2 * l, 2⟩ 2 (by simp only; omega)

/-- The other links stay as they are. -/
theorem State.linkFallen_other (s : State) {l k : Nat} (hl : l < 4) (hk : k ≠ l) :
    (s.linkFallen l).linkState k = s.linkState k := by
  rw [(s.linkFallen_sameGen l).linkState]
  exact s.fld_setFld_apart (f := ⟨Reg.GEN_MORTAR_STATE, 2 * l, 2⟩) (g := ⟨Reg.GEN_MORTAR_STATE, 2 * k, 2⟩) 2
    (by simp only [Fld.apart]; omega)

theorem State.dieCut_iff (s : State) (d : Nat) :
    s.dieCut d = true ↔ s.linkState (2 * d) = 2 ∧ s.linkState (2 * d + 1) = 2 := by
  rw [dieCut, Bool.and_eq_true, beq_iff_eq, beq_iff_eq, linkState, linkState, ← Nat.mul_assoc, Nat.mul_add,
    ← Nat.mul_assoc]

theorem State.logFault_rd_ne (s : State) (code item detail : Nat) {a : Nat} (ha : a ≠ Reg.HLT_LOG_SEQ) :
    (s.logFault code item detail).rd a = s.rd a := by
  rw [logFault, rd_bump_ne _ ha, rd_setBytes]

/-- A reason for replacement sets REPLACE, or finds it set (R40). -/
theorem State.replaceCheck_replaces (h : s.replaceReasons ≠ 0) :
    s.replaceCheck.flag Reg.HLT_STATUS_REPLACE = true := by
  have htake : s.takeReasons.flag Reg.HLT_STATUS_REPLACE = s.flag Reg.HLT_STATUS_REPLACE :=
    s.flag_setFld_apart _ (by decide)
  rw [replaceCheck, if_neg h]
  split
  case isTrue hset => exact htake.trans hset
  case isFalse =>
    have hset : (s.takeReasons.setFld Reg.HLT_STATUS_REPLACE 1).flag Reg.HLT_STATUS_REPLACE = true :=
      flag_setFld_one _ _ (by decide) (by decide)
    unfold replaceEnter
    generalize s.takeReasons.setFld Reg.HLT_STATUS_REPLACE 1 = u at hset ⊢
    dsimp only
    rw [flag, postEvent_fld _ _ _ _ (by decide), fld, logFault_rd_ne _ _ _ _ (by decide)]
    exact hset

/-- A die that is cut off is a reason for replacement. -/
theorem State.replaceReasons_of_cut (s : State) {d : Nat} (hd : d < 2) (h : s.dieCut d = true) :
    s.replaceReasons ≠ 0 := by
  have hor : (s.dieCut 0 || s.dieCut 1) = true := by
    rcases (by omega : d = 0 ∨ d = 1) with rfl | rfl
    · rw [h, Bool.true_or]
    · rw [h, Bool.or_true]
  have hbit : flagBit (s.dieCut 0 || s.dieCut 1) 4 = 16 := by rw [hor]; rfl
  unfold replaceReasons
  omega

/-- What LINK_DOWN may change. -/
def State.afterLinkDown (s t : State) : State := { s with
  regs := t.regs, mem := t.mem, eqs := t.eqs, out := t.out, mbs := t.mbs, can := t.can, lanes := t.lanes
  banks := t.banks, ports := t.ports, saltern := t.saltern, sig := t.sig, engines := t.engines, dev := t.dev
  acts := t.acts, queues := t.queues }

theorem linkDown_answers {l : Fin 4} {t : State} {P : State → Prop} (h : s.awake) (hop : s.linkDown l = t)
    (hP : P { s.afterLinkDown t with pending := s.pending, dev := { t.dev with held := false } }) :
    Completes (.linkDown l) s P :=
  completes_of_live h (f := fun s => s.afterLinkDown (s.linkDown l)) rfl (congrArg s.afterLinkDown hop) hP

theorem exec_linkDown_early {l : Fin 4} (h : s.awake) (hfew : s.dev.replays.getD l 0 < 9) :
    exec (.linkDown l) s = .next s := by
  have hop : s.linkDown l = s := if_neg fun ⟨_, hnine⟩ => by omega
  change execLinkDown l s = _
  rw [execLinkDown, live_exact s _ h rfl (by rw [hop]), hop]

theorem linkDown_completes {l : Fin 4} (h : s.awake) (hup : s.linkState l ≠ 2) (hnine : 9 ≤ s.dev.replays.getD l 0) :
    Completes (.linkDown l) s fun t =>
      t.linkState l = 2 ∧ t.flash = s.flash ∧
      (s.linkState (if l.val % 2 = 0 then l + 1 else l - 1 : Nat) = 2 → t.flag Reg.HLT_STATUS_REPLACE = true) := by
  have hdown := s.linkFallen_down l.isLt
  have hop := State.linkDown_ninth hup hnine
  have hcut (hother : s.linkState (if l.val % 2 = 0 then l + 1 else l - 1 : Nat) = 2) :
      (s.linkFallen l).dieCut (l / 2) = true := by
    rw [← s.linkFallen_other l.isLt (k := if l.val % 2 = 0 then l + 1 else l - 1) (by split <;> omega)] at hother
    rw [State.dieCut_iff]
    split at hother
    case isTrue heven => exact ⟨by rwa [show 2 * (l.val / 2) = l by omega], by rwa [show 2 * (l.val / 2) = l by omega]⟩
    case isFalse hodd =>
      exact ⟨by rwa [show 2 * (l.val / 2) = l - 1 by omega], by rwa [show 2 * (l.val / 2) + 1 = l by omega]⟩
  generalize s.linkFallen l = u at *
  by_cases hdie : u.dieCut (l / 2) = true
  · rw [if_pos hdie] at hop
    have hsame := ((SameGen.refl u).dieSafe (l / 2)).dieDiscard (l / 2)
    have hstill : ((u.dieSafe (l / 2)).dieDiscard (l / 2)).dieCut (l / 2) = true := by
      rw [State.dieCut_iff, hsame.linkState, hsame.linkState, ← State.dieCut_iff]
      exact hdie
    have hflag := State.replaceCheck_replaces (State.replaceReasons_of_cut _ (by omega) hstill)
    have hstate := (hsame.replaceCheck.linkState l).trans hdown
    generalize ((u.dieSafe (l / 2)).dieDiscard (l / 2)).replaceCheck = t at *
    exact linkDown_answers h hop ⟨hstate, rfl, fun _ => hflag⟩
  · rw [if_neg hdie] at hop
    exact linkDown_answers h hop ⟨hdown, rfl, fun hother => absurd (hcut hother) hdie⟩

end Sys2Proof.Machine

open Sys2Proof.Machine in
/-- Settles O26: each reception changes the registers of its link; a link that falls keeps its state through the safe
states of its die's units. -/
theorem mortarLinks : Obligations.MortarLinks := by
  intro l s h
  refine ⟨fun hup => ⟨exec_codewordReceived_clean h hup, codewordReceived_corrected h hup,
      codewordReceived_uncorrectable h hup, fun hfew => ?_, linkDown_completes h hup⟩,
    fun hdown => ⟨fun c => exec_codewordReceived_down h hdown, fun b hearly => ?_, fun hdue =>
      ⟨linkRetrain_trains h hdown hdue, fun b => exec_linkRetrain_fails h hdown hdue⟩⟩, mortarLinkUp_completes h⟩
  · exact exec_linkDown_early h hfew
  · exact exec_linkRetrain h (State.linkRetrain_early hearly) h

end

section
/-!
What the forwarding of a frame leaves of the open PDUs of the gateway: all of them. One lemma for each operation on the
way, as for the byte memories above.
-/
namespace Sys2Proof.Machine

/-- The open PDUs of the gateway, beside all else. -/
def State.pduTbl (s : State) : Tbl PduState := s.pdus

@[simp] theorem State.pduTbl_eta (s : State) : s.pdus = s.pduTbl := rfl

@[simp] theorem State.pduTbl_mk :
    ∀ regs mem flash staged hold eqs out freeCnt tbl tblOld str stores archive cells sig pages tb trk limits
    evRoutes pdus engines waking spared mbs can lanes banks queues ports saltern pduSeq ringWins ringPeers
    ring slots pols holdBuf bridge rings jobTurn acts crowd hlt dev upd opts fieldReady nextId pending,
    (State.mk regs mem flash staged hold eqs out freeCnt tbl tblOld str stores archive cells sig pages tb trk
      limits evRoutes pdus engines waking spared mbs can lanes banks queues ports saltern pduSeq ringWins
      ringPeers ring slots pols holdBuf bridge rings jobTurn acts crowd hlt dev upd opts fieldReady nextId
      pending).pduTbl = pdus := by
  intros
  rfl

@[simp] theorem State.pduTbl_ite (c : Prop) [Decidable c] (s t : State) :
    (if c then s else t).pduTbl = if c then s.pduTbl else t.pduTbl := apply_ite State.pduTbl c s t

@[simp] theorem foldl_pduTbl {α : Type} {f : State → α → State} (h : ∀ t x, (f t x).pduTbl = t.pduTbl) (l : List α)
    (s : State) : (l.foldl f s).pduTbl = s.pduTbl := foldl_keeps State.pduTbl h l s

@[simp] theorem State.setFld_pduTbl (s : State) (f : Fld) (v : Nat) : (s.setFld f v).pduTbl = s.pduTbl := by rfl

@[simp] theorem State.bump_pduTbl (s : State) (a : Nat) : (s.bump a).pduTbl = s.pduTbl := by rfl

@[simp] theorem State.wr64_pduTbl (s : State) (lo : Nat) (v : DWord) : (s.wr64 lo v).pduTbl = s.pduTbl := by rfl

@[simp] theorem State.setQueue_pduTbl (s : State) (p q : Nat) (x : EgressQ) : (s.setQueue p q x).pduTbl = s.pduTbl := by
  rfl

@[simp] theorem State.setPort_pduTbl (s : State) (p : Nat) (x : PortState) : (s.setPort p x).pduTbl = s.pduTbl := by rfl

@[simp] theorem State.postEvent_pduTbl (s : State) (code src : Nat) (data : Word) :
    (s.postEvent code src data).pduTbl = s.pduTbl := by rfl

@[simp] theorem State.setStep_pduTbl (s : State) (r k : Nat) : (s.setStep r k).pduTbl = s.pduTbl := by rfl

@[simp] theorem State.regionWork_pduTbl (s : State) (u : Nat) :
    (s.regionWork u).pduTbl = s.pduTbl := by simp [State.regionWork]

@[simp] theorem State.keyWarn_pduTbl (s : State) (k : Nat) : (s.keyWarn k).pduTbl = s.pduTbl := by simp [State.keyWarn]

@[simp] theorem State.keyExhaust_pduTbl (s : State) (k : Nat) :
    (s.keyExhaust k).pduTbl = s.pduTbl := by simp [State.keyExhaust]

@[simp] theorem State.keyInvoke_pduTbl (s : State) (k : Nat) :
    (s.keyInvoke k).pduTbl = s.pduTbl := by simp [State.keyInvoke]

@[simp] theorem State.keyBegin_pduTbl (s : State) (k : Nat) : (s.keyBegin k).pduTbl = s.pduTbl := by rfl

@[simp] theorem State.authEth_pduTbl (s : State) (g : Gen) (i : Nat) (frame : List Byte) :
    (s.authEth g i frame).1.pduTbl = s.pduTbl := by
  unfold State.authEth
  extract_lets
  split <;> simp

@[simp] theorem State.showHold_pduTbl (s : State) : (s.showHold).pduTbl = s.pduTbl := by rfl

@[simp] theorem State.limitJudge_pduTbl (s : State) (g : Gen) (r cost : Nat) :
    (s.limitJudge g r cost).1.pduTbl = s.pduTbl := by rfl

@[simp] theorem State.limitEntry_pduTbl (s : State) (item : ChainItem) (r : Nat) :
    (s.limitEntry item r).1.pduTbl = s.pduTbl := by
  unfold State.limitEntry
  extract_lets
  split <;> rfl

@[simp] theorem State.invoke_pduTbl (s : State) (i : Invoc) : (s.invoke i).1.pduTbl = s.pduTbl := by
  unfold State.invoke
  extract_lets
  split <;> rfl

@[simp] theorem State.fieldEntry_pduTbl (s : State) (item : ChainItem) (r batch : Nat) (d : FieldDesc) :
    (s.fieldEntry item r batch d).1.pduTbl = s.pduTbl := by
  unfold State.fieldEntry
  split
  · simp
  · split <;> simp

@[simp] theorem State.signalEntry_pduTbl (s : State) (item : ChainItem) (r batch : Nat) :
    (s.signalEntry item r batch).1.pduTbl = s.pduTbl := by
  unfold State.signalEntry
  exact foldl_keeps (fun a : State × List BatchItem => a.1.pduTbl)
    (fun a d => by exact a.1.fieldEntry_pduTbl item r batch d) _ _

@[simp] theorem State.firstPass_pduTbl (s : State) (item : ChainItem) (batch : Nat) (l : List Nat) :
    (s.firstPass item batch l).1.pduTbl = s.pduTbl := by
  induction l generalizing s with
  | nil => rfl
  | cons r rs ih =>
    unfold State.firstPass
    dsimp only
    split
    · split
      · exact (ih _).trans (s.limitEntry_pduTbl item r)
      · exact s.limitEntry_pduTbl item r
    · split
      · exact (ih _).trans (s.signalEntry_pduTbl item r batch)
      · exact ih _

@[simp] theorem State.startChain_pduTbl (s : State) (item : ChainItem) (route : Nat) :
    (s.startChain item route).pduTbl = s.pduTbl := by
  unfold State.startChain
  extract_lets c t b f
  have ht : t.pduTbl = s.pduTbl := by
    unfold t
    split
    · exact s.bump_pduTbl _
    · rfl
  have hf : f.1.pduTbl = s.pduTbl := (State.firstPass_pduTbl _ _ _ _).trans ht
  split <;> exact hf

@[simp] theorem State.chainInOrder_pduTbl (s : State) (item : ChainItem) (route : Nat) :
    (s.chainInOrder item route).pduTbl = s.pduTbl := by simp [State.chainInOrder]

@[simp] theorem State.setFree_pduTbl (s : State) (n : Nat) : (s.setFree n).pduTbl = s.pduTbl := by rfl

@[simp] theorem State.setPanUse_pduTbl (s : State) (fid : Nat) (x : PanUse) : (s.setPanUse fid x).pduTbl = s.pduTbl :=
    by
  rfl

@[simp] theorem State.panHold_pduTbl (s : State) (fid pans : Nat) :
    (s.panHold fid pans).pduTbl = s.pduTbl := by simp [State.panHold]

@[simp] theorem State.showDepth_pduTbl (s : State) (p q : Nat) : (s.showDepth p q).pduTbl = s.pduTbl := by rfl

@[simp] theorem State.cbsUpdate_pduTbl (s : State) (p q : Nat) : (s.cbsUpdate p q).pduTbl = s.pduTbl := by rfl

@[simp] theorem State.wfqHead_pduTbl (s : State) (p q : Nat) : (s.wfqHead p q).pduTbl = s.pduTbl := by
  unfold State.wfqHead
  extract_lets
  split <;> simp

@[simp] theorem State.mark_pduTbl (s : State) (p q : Nat) (mayMark : Bool) (bs : List Byte) :
    (s.mark p q mayMark bs).1.pduTbl = s.pduTbl := by
  unfold State.mark
  dsimp only
  split
  · rfl
  · split <;> split <;> split <;> simp

@[simp] theorem State.lpiLeave_pduTbl (s : State) (p : Nat) : (s.lpiLeave p).pduTbl = s.pduTbl := by
  simp [State.lpiLeave]

@[simp] theorem State.takeFrame_pduTbl (s : State) (p q : Nat) (f : QFrame) (mayMark : Bool) :
    (s.takeFrame p q f mayMark).pduTbl = s.pduTbl := by simp [State.takeFrame]

@[simp] theorem State.ringSend_pduTbl (s : State) (k q : Nat) (f : QFrame) (mayMark : Bool) :
    (s.ringSend k q f mayMark).pduTbl = s.pduTbl := by simp [State.ringSend]

@[simp] theorem State.nextSeq_pduTbl (s : State) : (s.nextSeq).pduTbl = s.pduTbl := by rfl

@[simp] theorem State.originate_pduTbl (s : State) (cls q : Nat) (f : QFrame) (mayMark : Bool) :
    (s.originate cls q f mayMark).pduTbl = s.pduTbl := by simp [State.originate]

@[simp] theorem State.noPan_pduTbl (s : State) (p : Nat) : (s.noPan p).pduTbl = s.pduTbl := by rfl

@[simp] theorem State.toRing_pduTbl (s : State) (q : Nat) (f : QFrame) (rx : Rx) (mayMark : Bool) :
    (s.toRing q f rx mayMark).pduTbl = s.pduTbl := by
  unfold State.toRing
  split <;> simp

@[simp] theorem State.toEgress_pduTbl (s : State) (p : Nat) (rx : Rx) (v : Verdict9) (mayMark : Bool) (bs : List Byte) :
    (s.toEgress p rx v mayMark bs).pduTbl = s.pduTbl := by simp [State.toEgress]

@[simp] theorem State.meter_pduTbl (s : State) (g : Gen) (filter : Nat) (bs : List Byte) :
    (s.meter g filter bs).1.pduTbl = s.pduTbl := by
  unfold State.meter
  extract_lets
  split <;> simp

theorem State.actOn_pduTbl {start : State → ChainItem → Nat → State} (h : ∀ t i r, (start t i r).pduTbl = t.pduTbl)
    (s : State) (g : Gen) (p : Nat) (rx : Rx) (filter : Option Nat) (stamps : Word × List Word)
    (trailer : Nat) (bs : List Byte) : (s.actOn start g p rx filter stamps trailer bs).pduTbl = s.pduTbl := by
  unfold State.actOn
  extract_lets v
  split
  · split <;> simp
  · extract_lets j chain t
    have hj : j.1.pduTbl = s.pduTbl := by
      unfold j
      split
      · rfl
      · exact s.meter_pduTbl _ _ _
    clear_value chain
    have ht : t.pduTbl = s.pduTbl := by
      unfold t
      split
      · exact (h _ _ _).trans hj
      · exact hj
    split
    · simp [hj]
    · split
      · simp [hj]
      · split
        · simp [ht]
        · split <;> simp [ht]

@[simp] theorem State.hold_pduTbl (s : State) (g : Gen) (i bytes : Nat) (kind : HeldKind) (rxq : Option (Nat × Nat)) :
    (s.hold_ g i bytes kind rxq).pduTbl = s.pduTbl := by simp [State.hold_]

@[simp] theorem State.forwardG_pduTbl (s : State) (g : Gen) (p : Nat) (rx : Rx) (bs : List Byte) :
    (s.forwardG g p rx bs).pduTbl = s.pduTbl := by
  unfold State.forwardG
  split
  · exact State.actOn_pduTbl State.chainInOrder_pduTbl _ _ _ _ _ _ _ _
  · split
    · exact State.hold_pduTbl _ _ _ _ _ _
    · exact State.actOn_pduTbl State.chainInOrder_pduTbl _ _ _ _ _ _ _ _

@[simp] theorem State.forward_pduTbl (s : State) (p : Nat) (bs : List Byte) :
    (s.forward p bs).pduTbl = s.pduTbl := by simp [State.forward]

@[simp] theorem State.countRx_pduTbl (s : State) (p : Nat) (bs : List Byte) : (s.countRx p bs).pduTbl = s.pduTbl := by
  rfl

@[simp] theorem State.fromG_pduTbl (s : State) (bs : List Byte) : (s.fromG bs).pduTbl = s.pduTbl := by
  simp [State.fromG]

@[simp] theorem State.pduSend_pduTbl (s : State) (g : Gen) (r : Nat) (payload : List Byte) :
    (s.pduSend g r payload).pduTbl = s.pduTbl := by
  unfold State.pduSend
  dsimp only
  split
  · simp
  · split <;> simp

end Sys2Proof.Machine
end

section
/-!
The second pass of a chain to a serial lane (R196), and the expiries of the gateway (R203, R207).
-/

namespace Sys2Proof.Machine

variable {s : State}

theorem State.regionWork_spec (s : State) (u : Nat) : ∃ R D K,
    s.regionWork u = { s with regs := R, dev := D, waking := K } ∧ D.held = s.dev.held ∧
    RegsBut s { s with regs := R, dev := D, waking := K } [Reg.GEN_REGION_STEP] := by
  unfold regionWork
  extract_lets r src t
  split
  · exact ⟨_, _, _, rfl, rfl, RegsBut.refl s _⟩
  · split
    · exact ⟨_, _, _, rfl, rfl, (RegsBut.refl s _).setFld ⟨Reg.GEN_REGION_STEP, 2 * r, 2⟩ 0 List.mem_cons_self⟩
    · exact ⟨_, _, _, rfl, rfl, RegsBut.refl s _⟩

theorem State.packEntry_toUnit {g : Gen} {r : Nat} {read : Nat → DWord} (h : s.rtToPdu g r = false) :
    s.packEntry g r read = (s.countSat (s.rtUnit g r) (s.pack g (s.rtFormat g r) read).2).packTo g r
      (s.rtUnit g r) (s.rtMailbox g r) (s.pack g (s.rtFormat g r) read).1 :=
  if_neg (by rw [h]; exact Bool.false_ne_true)

/-- The state in which the second pass begins. -/
def State.secondTaken (s : State) (rest : List (ChainItem × List Nat)) : State :=
  { s with sig := { s.sig with second := rest } }

theorem State.secondPass_single {item : ChainItem} {r : Nat} {rest : List (ChainItem × List Nat)}
    (h : s.sig.second = (item, [r]) :: rest) :
    s.secondPass = (s.secondTaken rest).secondEntry item ((s.secondTaken rest).fromPduEntries item.gen [r]) r := by
  unfold secondPass
  rw [h]
  rfl

theorem State.secondEntry_pack {item : ChainItem} {es : List Nat} {r : Nat} (h : s.rtType item.gen r = rtPack) :
    s.secondEntry item es r = s.packEntry item.gen r s.packRead := if_pos h

theorem State.packTo_lane {g : Gen} {r u m : Nat} {n : Nat} {data : List Byte} (h : unitKind u = .lane n) :
    s.packTo g r u m data = s.laneDeliver n data := by rw [packTo, h]

theorem State.fifoLate_le (s : State) (at16 k : Nat) : s.fifoLate at16 k ≤ k := by
  unfold fifoLate
  split
  · exact Nat.lt_succ_iff.mp (Nat.mod_lt _ k.succ_pos)
  · exact k.zero_le

section
variable {t : State} {as : List Nat}

theorem RegsBut.takesWork {u : Nat} (h : RegsBut s t as) (hstop : Reg.STR_UNIT_STOP (u / 32) ∉ as)
    (hcut : Reg.GEN_MORTAR_STATE ∉ as) : t.takesWork u = s.takesWork u := by
  have hbit : t.stopBit u = s.stopBit u :=
    congrArg (· == 1) (h.fld (f := ⟨Reg.STR_UNIT_STOP (u / 32), u % 32, 1⟩) hstop)
  have hdie : t.dieCut (u / 128) = s.dieCut (u / 128) := by
    simp only [State.dieCut, State.fld, h _ hcut]
  rw [State.takesWork, hbit, hdie, State.takesWork]

theorem RegsBut.laneSends {n : Nat} (h : RegsBut s t as) (hmode : Reg.SLN_MODE n ∉ as) :
    t.laneSends n = s.laneSends n := by
  have hpers := h.fld (f := Reg.SLN_MODE_PERS n) hmode
  rw [State.laneSends, hpers, State.laneSends]

theorem RegsBut.itemBytes {n : Nat} (h : RegsBut s t as) (hmode : Reg.SLN_MODE n ∉ as) (hfmt : Reg.SLN_FMT n ∉ as) :
    t.itemBytes n = s.itemBytes n := by
  have hpers := h.fld (f := Reg.SLN_MODE_PERS n) hmode
  have hwidth := h.fld (f := Reg.SLN_FMT_WIDTH n) hfmt
  rw [State.itemBytes, State.laneWidth, hpers, hwidth, State.itemBytes, State.laneWidth]
end

/-- The registers of a lane are not the one of the region steps. -/
theorem lane_ne_regionStep (n k : Nat) : Reg.laneBase n + k ∉ [Reg.GEN_REGION_STEP] := by
  have hstep : Reg.GEN_REGION_STEP < 0x200000 := by decide
  have hbase := le_unitReg (Reg.laneUnit n) k
  exact fun h => absurd (List.mem_singleton.mp h) (show Reg.unitBase (Reg.laneUnit n) + k ≠ _ by omega)

theorem unitStop_ne_regionStep (k : Nat) : Reg.STR_UNIT_STOP k ∉ [Reg.GEN_REGION_STEP] := by
  have hstep : Reg.GEN_REGION_STEP < 0x1b0030 := by decide
  exact fun h => absurd (List.mem_singleton.mp h) (by simp only [Reg.STR_UNIT_STOP]; omega)

/-- A lane after its delivery, with the state of the step of its region. -/
def State.laneFilled (s : State) (n : Nat) (items : List Word) (R : Tbl Word) (D : DevState) (K : Nat) : State :=
  { s with
    regs := R, dev := D, waking := K, freeCnt := s.freeCnt + 1
    lanes := Tbl.set (fun _ => {}) s.lanes n { s.lane n with tx := (s.lane n).tx ++ items } }

theorem State.laneDeliver_fits {n : Nat} {bs : List Byte} (hwork : s.takesWork (Reg.laneUnit n) = true)
    (hsend : s.laneSends n = true)
    (hfit : (s.lane n).tx.length + (s.lane n).txOut + (txItems (s.itemBytes n) bs).length ≤ 512) :
    ∃ R D K, s.laneDeliver n bs = s.laneFilled n (txItems (s.itemBytes n) bs) R D K ∧ D.held = s.dev.held ∧
      RegsBut s { s with regs := R, dev := D, waking := K } [Reg.GEN_REGION_STEP] := by
  obtain ⟨R, D, K, hreg, hheld, hregs⟩ := s.regionWork_spec (Reg.laneUnit n)
  refine ⟨R, D, K, ?_, hheld, hregs⟩
  rw [← hreg] at hregs
  have hlane : (s.regionWork (Reg.laneUnit n)).lane n = s.lane n := by rw [hreg]; rfl
  have hcond : ((s.regionWork (Reg.laneUnit n)).takesWork (Reg.laneUnit n) &&
      (s.regionWork (Reg.laneUnit n)).laneSends n &&
      decide ((s.regionWork (Reg.laneUnit n)).laneTxDepth n + (txItems (s.itemBytes n) bs).length ≤ 512)) = true := by
    have hlate := (s.regionWork (Reg.laneUnit n)).fifoLate_le (s.lane n).txOut16 (s.lane n).txOut
    have hdepth : (s.regionWork (Reg.laneUnit n)).laneTxDepth n ≤ (s.lane n).tx.length + (s.lane n).txOut := by
      rw [laneTxDepth, hlane]
      exact Nat.add_le_add_left hlate _
    rw [hregs.takesWork (unitStop_ne_regionStep _) (by decide), hwork, hregs.laneSends (lane_ne_regionStep n 4),
      hsend, Bool.true_and, Bool.true_and, decide_eq_true_eq]
    omega
  unfold laneDeliver
  dsimp only
  rw [hregs.itemBytes (lane_ne_regionStep n 4) (lane_ne_regionStep n 12), if_pos hcond, hlane, hreg]
  rfl
/-! ## The second pass -/

/-- What the pass needs of registers is left alone by the count of saturations. -/
theorem packSat_ne (u n k : Nat) (hk : k < 0xf08) : Reg.laneBase n + k ∉ [Reg.GWU_PACK_SAT u] := fun h =>
  absurd (List.mem_singleton.mp h) (by simp only [Reg.laneBase, Reg.GWU_PACK_SAT, Reg.unitBase]; omega)

theorem packSat_ne_low {a : Nat} (u : Nat) (ha : a < 0x200000) : a ∉ [Reg.GWU_PACK_SAT u] := fun h =>
  absurd (List.mem_singleton.mp h) (by have := le_unitReg u 0xf08; simp only [Reg.GWU_PACK_SAT]; omega)

/-- The state of a second pass after its count of saturations. -/
def State.packCounted (s : State) (rest : List (ChainItem × List Nat)) (u k : Nat) : State :=
  (s.secondTaken rest).countSat u k

theorem State.packCounted_regsBut (s : State) (rest : List (ChainItem × List Nat)) (u k : Nat) :
    RegsBut s (s.packCounted rest u k) [Reg.GWU_PACK_SAT u] :=
  (RegsBut.refl s _).wr (t := s.secondTaken rest) _ List.mem_cons_self

theorem State.secondPass_laneFilled {item : ChainItem} {r : Nat} {rest : List (ChainItem × List Nat)} {n : Nat}
    (h : s.sig.second = (item, [r]) :: rest) (hty : s.rtType item.gen r = rtPack)
    (hpdu : s.rtToPdu item.gen r = false) (hkind : unitKind (s.rtUnit item.gen r) = .lane n) :
    s.secondPass = (s.packCounted rest (s.rtUnit item.gen r)
      (s.pack item.gen (s.rtFormat item.gen r) s.packRead).2).laneDeliver n
      (s.pack item.gen (s.rtFormat item.gen r) s.packRead).1 := by
  rw [secondPass_single h]
  have hstep := (secondEntry_pack (s := s.secondTaken rest) (es := (s.secondTaken rest).fromPduEntries item.gen [r])
    (show (s.secondTaken rest).rtType item.gen r = rtPack from hty)).trans
    (packEntry_toUnit (show (s.secondTaken rest).rtToPdu item.gen r = false from hpdu))
  exact hstep.trans (packTo_lane hkind)

theorem routeSecondPass_completes {item : ChainItem} {r : Nat} {rest : List (ChainItem × List Nat)} {n : LaneNo}
    (h : s.awake) (hsecond : s.sig.second = (item, [r]) :: rest) (hty : s.rtType item.gen r = rtPack)
    (hpdu : s.rtToPdu item.gen r = false) (hkind : unitKind (s.rtUnit item.gen r) = .lane n)
    (hwork : s.takesWork (Reg.laneUnit n) = true) (hsend : s.laneSends n = true) {data : List Byte}
    (hdata : (s.pack item.gen (s.rtFormat item.gen r) s.packRead).1 = data)
    (hfit : (s.lane n).tx.length + (s.lane n).txOut + (txItems (s.itemBytes n) data).length ≤ 512) :
    Completes .routeSecondPass s fun t =>
      t.lane n = { s.lane n with tx := (s.lane n).tx ++ txItems (s.itemBytes n) data } ∧
      (∀ k, k ≠ n.val → t.lane k = s.lane k) ∧ t.sig = { s.sig with second := rest } ∧
      { t with regs := s.regs, sig := s.sig, lanes := s.lanes, dev := s.dev, waking := s.waking,
               freeCnt := s.freeCnt } = s ∧
      RegsBut s t [Reg.GWU_PACK_SAT (s.rtUnit item.gen r), Reg.GEN_REGION_STEP] := by
  have hop := State.secondPass_laneFilled hsecond hty hpdu hkind
  rw [hdata] at hop
  generalize (s.pack item.gen (s.rtFormat item.gen r) s.packRead).2 = k at hop
  have hcount := s.packCounted_regsBut rest (s.rtUnit item.gen r) k
  have hmode := packSat_ne (s.rtUnit item.gen r) n 4 (by decide)
  have hbytes := hcount.itemBytes hmode (packSat_ne _ n 0xc (by decide))
  have hstop : Reg.STR_UNIT_STOP (Reg.laneUnit n / 32) < 0x200000 := by
    simp only [Reg.STR_UNIT_STOP, Reg.laneUnit]
    omega
  obtain ⟨R, D, K, hfill, hheld, hregs⟩ := State.laneDeliver_fits 
    (s := s.packCounted rest (s.rtUnit item.gen r) k) (n := n) (bs := data)
    ((hcount.takesWork (packSat_ne_low _ hstop) (packSat_ne_low _ (by decide))).trans hwork)
    ((hcount.laneSends hmode).trans hsend) (hbytes.symm ▸ hfit)
  rw [hfill, hbytes] at hop
  have hboth : RegsBut s { s with regs := R } [Reg.GWU_PACK_SAT (s.rtUnit item.gen r), Reg.GEN_REGION_STEP] :=
    (hcount.mono fun a ha => List.mem_cons.mpr (.inl (List.mem_singleton.mp ha))).trans
      fun a ha => hregs a fun hmem => ha (List.mem_cons_of_mem _ hmem)
  exact completes_device State.secondPass (fun s t => { s with
      regs := t.regs, eqs := t.eqs, out := t.out, sig := t.sig, limits := t.limits, pdus := t.pdus,
      engines := t.engines, mbs := t.mbs, can := t.can, lanes := t.lanes, queues := t.queues, ports := t.ports,
      saltern := t.saltern, pduSeq := t.pduSeq, slots := t.slots, pols := t.pols, holdBuf := t.holdBuf,
      nextId := t.nextId, dev := t.dev, freeCnt := t.freeCnt, staged := t.staged, waking := t.waking }) h rfl hop rfl
    (hheld.trans h) ⟨s.lane_setLane_same n _, fun k hk => s.lane_setLane_ne _ hk, rfl, rfl, hboth⟩

/-! ## Expiries -/

variable {r : Fin 32768}

theorem pduHoldExpiry_completes (h : s.awake) (hty : s.rtType (s.rd Reg.STR_GEN) r = rtPduEntry)
    (hne : (s.pdu r).records ≠ [])
    (hold : (s.pdu r).since + bits (s.rtW (s.rd Reg.STR_GEN) r 6) 0 16 * 65536000 ≤ s.tb.local16) :
    Completes (.pduHoldExpiry r) s fun t =>
      (t.pdu r).records = [] ∧ (t.pdu r).seq = ((s.pdu r).seq + 1) % 65536 ∧ SameBytes s t := by
  have hop : s.pduExpire r = s.pduComplete (s.rd Reg.STR_GEN) r := if_pos ⟨hty, hne, hold⟩
  have hset : (s.pduComplete (s.rd Reg.STR_GEN) r).pdus =
      Tbl.set (fun _ => {}) s.pdus r { records := [], since := 0, seq := ((s.pdu r).seq + 1) % 65536 } :=
    State.pduSend_pduTbl _ _ _ _
  have hheld : (s.pduComplete (s.rd Reg.STR_GEN) r).dev.held = s.dev.held :=
    State.held_of_mems (State.pduSend_mems _ _ _ _)
  have hpdu : Tbl.get (fun _ => ({} : PduState)) (s.pduComplete (s.rd Reg.STR_GEN) r).pdus r =
      { records := [], since := 0, seq := ((s.pdu r).seq + 1) % 65536 } := by
    rw [hset]
    exact Tbl.get_set_same _ _ _ _
  have hawake : (s.pduExpire r).dev.held = false := by rw [hop]; exact hheld.trans h
  rw [← hop] at hpdu
  refine completes_device (State.pduExpire · r) (fun s t => { s with
      regs := t.regs, eqs := t.eqs, out := t.out, sig := t.sig, limits := t.limits, pdus := t.pdus,
      engines := t.engines, queues := t.queues, ports := t.ports, saltern := t.saltern, slots := t.slots,
      holdBuf := t.holdBuf, nextId := t.nextId, dev := t.dev, waking := t.waking }) h rfl rfl rfl hawake
    ⟨congrArg PduState.records hpdu, congrArg PduState.seq hpdu, fun _ => rfl, rfl⟩

theorem exec_pduHoldExpiry_empty (h : s.awake) (hempty : (s.pdu r).records = []) :
    exec (.pduHoldExpiry r) s = .next s := by
  have hop : s.pduExpire r = s := if_neg fun ⟨_, hne, _⟩ => hne hempty
  change execPduHoldExpiry r s = _
  rw [execPduHoldExpiry, live_exact s _ h (by rw [hop]) (by rw [hop]), hop]

theorem State.eventGap_due {e : Nat} (hgap : (s.evRoute r).gapEnd = some e) (hdue : e ≤ s.tb.local16) :
    s.eventGap r = s.setEvRoute r { s.evRoute r with gapEnd := none } := by
  unfold eventGap
  extract_lets x
  rw [show x.gapEnd = some e from hgap]
  exact if_pos hdue

theorem State.eventGap_early {e : Nat} (hgap : (s.evRoute r).gapEnd = some e) (hearly : s.tb.local16 < e) :
    s.eventGap r = s := by
  unfold eventGap
  extract_lets x
  rw [show x.gapEnd = some e from hgap]
  exact if_neg (Nat.not_le.mpr hearly)

theorem exec_eventGapExpiry (h : s.awake) : exec (.eventGapExpiry r) s =
    .next { s with evRoutes := (s.eventGap r).evRoutes } :=
  live_exact s (fun s => { s with evRoutes := (s.eventGap r).evRoutes }) h rfl rfl

end Sys2Proof.Machine

open Sys2Proof.Machine in
/-- Settles O27: the delivery to a lane changes the lane alone; a completed PDU is sent after its entry is emptied. -/
theorem secondPassesAndExpiries : Obligations.SecondPassesAndExpiries := by
  refine ⟨fun item r rest n s h hsecond hty hpdu hkind hwork hsend hfit =>
    routeSecondPass_completes h hsecond hty hpdu hkind hwork hsend rfl hfit, fun r s h => ⟨?_, ?_, ?_⟩⟩
  · exact fun hty hne _ hold => pduHoldExpiry_completes h hty hne hold
  · exact exec_pduHoldExpiry_empty h
  · intro e hgap
    refine ⟨fun hdue => ?_, fun hearly => ?_⟩
    · rw [exec_eventGapExpiry h, State.eventGap_due hgap hdue]
      rfl
    · rw [exec_eventGapExpiry h, State.eventGap_early hgap hearly]

end

section
/-!
The end of a verification (R415): the frame leaves the hold buffer, its chain starts or is rejected, and the freshness
value of its policy moves on. What a chain's first pass leaves of the cipher engine is said first.
-/

namespace Sys2Proof.Machine

variable {s : State}

/-! ## What a chain leaves of the cipher engine -/

/-- The hold buffer, the policies' state, and the count of frames that failed their verification. -/
def State.cipherSide (s : State) : List HoldEntry × Tbl PolState × Word :=
  (s.holdBuf, s.pols, s.rd Reg.CPH_RX_AUTH_FAIL)

theorem State.cipherSide_congr {s t : State} (hbuf : t.holdBuf = s.holdBuf) (hpols : t.pols = s.pols)
    (hfail : t.rd Reg.CPH_RX_AUTH_FAIL = s.rd Reg.CPH_RX_AUTH_FAIL) : t.cipherSide = s.cipherSide := by
  rw [cipherSide, hbuf, hpols, hfail, cipherSide]

theorem State.wr_cipherSide {a : Nat} (s : State) (v : Word) (ha : Reg.CPH_RX_AUTH_FAIL ≠ a) :
    (s.wr a v).cipherSide = s.cipherSide :=
  State.cipherSide_congr rfl rfl (s.rd_wr_ne v ha)

theorem authFail_ne_unit (u k : Nat) : Reg.CPH_RX_AUTH_FAIL ≠ Reg.unitBase u + k := by
  have := le_unitReg u k
  have hreg : Reg.CPH_RX_AUTH_FAIL < 0x200000 := by decide
  omega

theorem authFail_ne_engine (e k : Nat) : Reg.CPH_RX_AUTH_FAIL ≠ Reg.secBase e + k := by
  have hreg : Reg.CPH_RX_AUTH_FAIL < 0x200000 := by decide
  simp only [Reg.secBase]
  omega

theorem State.limitEntry_cipherSide (s : State) (item : ChainItem) (r : Nat) :
    (s.limitEntry item r).1.cipherSide = s.cipherSide := by
  unfold limitEntry
  extract_lets cost j
  have hj : j.1.cipherSide = s.cipherSide := rfl
  clear_value j
  split
  · exact hj
  · refine (State.wr_cipherSide _ _ ?_).trans ((j.1.wr_cipherSide _ ?_).trans hj)
    · cases item.unit with
      | none => decide
      | some u => exact authFail_ne_unit u 0xf20
    · cases item.unit with
      | none => decide
      | some u => exact authFail_ne_unit u 0xf00

theorem State.invoke_cipherSide (s : State) (i : Invoc) : (s.invoke i).1.cipherSide = s.cipherSide := by
  unfold invoke
  extract_lets e t
  split
  · exact t.wr_cipherSide _ (authFail_ne_engine e 0x10)
  · exact State.wr_cipherSide _ _ (authFail_ne_engine e 0x18)

theorem State.fieldEntry_cipherSide (s : State) (item : ChainItem) (r batch : Nat) (d : FieldDesc) :
    (s.fieldEntry item r batch d).1.cipherSide = s.cipherSide := by
  unfold fieldEntry
  split
  · refine s.wr_cipherSide _ ?_
    cases item.unit with
    | none => decide
    | some u => exact authFail_ne_unit u 0xf04
  · dsimp only
    split
    · rfl
    · exact s.invoke_cipherSide _

theorem State.signalEntry_cipherSide (s : State) (item : ChainItem) (r batch : Nat) :
    (s.signalEntry item r batch).1.cipherSide = s.cipherSide := by
  unfold signalEntry
  exact foldl_keeps (fun a : State × List BatchItem => a.1.cipherSide)
    (fun a d => by exact a.1.fieldEntry_cipherSide item r batch d) _ _

theorem State.firstPass_cipherSide (s : State) (item : ChainItem) (batch : Nat) (l : List Nat) :
    (s.firstPass item batch l).1.cipherSide = s.cipherSide := by
  induction l generalizing s with
  | nil => rfl
  | cons r rs ih =>
    unfold firstPass
    dsimp only
    split
    · split
      · exact (ih _).trans (s.limitEntry_cipherSide item r)
      · exact s.limitEntry_cipherSide item r
    · split
      · exact (ih _).trans (s.signalEntry_cipherSide item r batch)
      · exact ih _

theorem State.startChain_cipherSide (s : State) (item : ChainItem) (route : Nat) :
    (s.startChain item route).cipherSide = s.cipherSide := by
  unfold startChain
  extract_lets c t b f
  have ht : t.cipherSide = s.cipherSide := by
    unfold t
    split
    · refine s.wr_cipherSide _ ?_
      cases item.unit with
      | none => decide
      | some u => exact authFail_ne_unit u 0xf18
    · rfl
  have hf : f.1.cipherSide = s.cipherSide := (State.firstPass_cipherSide _ _ _ _).trans ht
  split <;> exact hf

/-! ## The end of a use of a key -/

theorem authFail_ne_slot (k i : Nat) : Reg.CPH_RX_AUTH_FAIL ≠ 0x171000 + i + 0x20 * k := by
  simp only [Reg.CPH_RX_AUTH_FAIL]
  omega

theorem State.postEvent_cipherSide (s : State) (code src : Nat) (data : Word) :
    (s.postEvent code src data).cipherSide = s.cipherSide :=
  State.cipherSide_congr rfl rfl (s.postEvent_rd code src data (by decide))

theorem State.keyZeroise_cipherSide (s : State) (k : Nat) : (s.keyZeroise k).cipherSide = s.cipherSide := by
  unfold keyZeroise
  extract_lets x t1 t2 t3 t4
  split
  · calc _ = (t4.wr (Reg.CPH_SLOT_FIXED k) 0).cipherSide := State.postEvent_cipherSide _ _ _ _
      _ = t4.cipherSide := t4.wr_cipherSide _ (authFail_ne_slot k 4)
      _ = t3.cipherSide := t3.wr_cipherSide _ (authFail_ne_slot k 0)
      _ = t2.cipherSide := t2.wr_cipherSide _ (authFail_ne_slot k 0)
      _ = t1.cipherSide := t1.wr_cipherSide _ (authFail_ne_slot k 0)
  · split
    · exact State.wr_cipherSide _ _ (authFail_ne_slot k 0)
    · rfl

theorem State.keyEnd_cipherSide (s : State) (k gen : Nat) : (s.keyEnd k gen).cipherSide = s.cipherSide := by
  unfold keyEnd
  extract_lets x isOld y
  exact (State.keyZeroise_cipherSide _ k).trans (State.wr_cipherSide _ _ (authFail_ne_slot k 0x18))

/-! ## The hold buffer without waiting items -/

theorem State.startWaiting_none {es : List HoldEntry} (h : ∀ x ∈ es, ∀ i r, x.kind ≠ .after i r)
    (before : List HoldEntry) (s : State) :
    State.startWaiting before es s = { s with holdBuf := before ++ es } := by
  induction es generalizing before with
  | nil => rw [List.append_nil]; rfl
  | cons e es ih =>
    have hstep : State.startWaiting before (e :: es) s = State.startWaiting (before ++ [e]) es s := by
      rw [startWaiting]
      split
      · next i r hk => exact absurd hk (h e List.mem_cons_self i r)
      · rfl
    rw [hstep, ih fun x hx => h x (List.mem_cons_of_mem _ hx), List.append_assoc]
    rfl

theorem State.holdNext_none {es : List HoldEntry} (h : ∀ x ∈ es, ∀ i r, x.kind ≠ .after i r) (hbuf : s.holdBuf = es) :
    s.holdNext = s := by
  rw [holdNext, hbuf, State.startWaiting_none h, List.nil_append, ← hbuf]

/-! ## VERIFICATION_COMPLETE -/

/-- The state after the oldest frame has left the hold buffer. -/
def State.heldOut (s : State) (rest : List HoldEntry) : State := ({ s with holdBuf := rest } : State).showHold

theorem State.heldOut_rd_ne (s : State) (rest : List HoldEntry) {a : Nat} (ha : a ≠ Reg.CPH_HOLD) :
    (s.heldOut rest).rd a = s.rd a :=
  (State.rd_setFld_ne _ (f := Reg.CPH_HOLD_PEAK) _ ha).trans (State.rd_setFld_ne _ (f := Reg.CPH_HOLD_USED) _ ha)

section
variable {e : HoldEntry} {rest : List HoldEntry} {item : ChainItem} {route : Nat}

theorem State.queueHeld_none (h : e.rxq = none) (s : State) (ok : Bool) : s.queueHeld e ok = s := by
  unfold queueHeld
  rw [h]
  cases e.kind <;> rfl

/-- The state in which a failed frame has been counted, and its chain rejected. -/
def State.heldFailed (s : State) (rest : List HoldEntry) (item : ChainItem) (route : Nat) : State :=
  ((s.heldOut rest).bump Reg.CPH_RX_AUTH_FAIL).rejectChain item route

theorem State.rejectChain_spec (s : State) (item : ChainItem) (route : Nat) :
    (s.rejectChain item route).holdBuf = s.holdBuf ∧ (s.rejectChain item route).pols = s.pols ∧
    (s.rejectChain item route).regs = (s.bump (authRejectReg item.unit)).regs ∧
    (s.rejectChain item route).dev = s.dev := by
  unfold rejectChain
  extract_lets cells t
  split <;> exact ⟨rfl, rfl, rfl, rfl⟩

theorem authReject_ne (item : ChainItem) :
    authRejectReg item.unit ≠ Reg.CPH_HOLD ∧ authRejectReg item.unit ≠ Reg.CPH_RX_AUTH_FAIL := by
  cases item.unit with
  | none => exact ⟨by decide, by decide⟩
  | some u =>
    have := le_unitReg u 0xf1c
    have hhold : Reg.CPH_HOLD < 0x200000 := by decide
    exact ⟨by simp only [authRejectReg, Reg.GWU_AUTH_REJECT]; omega, (authFail_ne_unit u 0xf1c).symm⟩

theorem State.heldFailed_shows (s : State) (rest : List HoldEntry) (item : ChainItem) (route : Nat) :
    (s.heldFailed rest item route).holdBuf = rest ∧
    (s.heldFailed rest item route).rd Reg.CPH_RX_AUTH_FAIL = satInc (s.rd Reg.CPH_RX_AUTH_FAIL) ∧
    (s.heldFailed rest item route).rd (authRejectReg item.unit) = satInc (s.rd (authRejectReg item.unit)) ∧
    (s.heldFailed rest item route).pols = s.pols := by
  obtain ⟨hbuf, hpols, hregs, -⟩ := ((s.heldOut rest).bump Reg.CPH_RX_AUTH_FAIL).rejectChain_spec item route
  obtain ⟨hhold, hfail⟩ := authReject_ne item
  have hrd (a : Nat) : (s.heldFailed rest item route).rd a =
      (((s.heldOut rest).bump Reg.CPH_RX_AUTH_FAIL).bump (authRejectReg item.unit)).rd a :=
    congrArg (fun r => Tbl.get regDefault r a) hregs
  refine ⟨hbuf, ?_, ?_, hpols⟩
  · rw [hrd, State.rd_bump_ne _ hfail.symm, State.rd_bump_same, s.heldOut_rd_ne rest (by decide)]
  · rw [hrd, State.rd_bump_same, State.rd_bump_ne _ hfail, s.heldOut_rd_ne rest hhold]

theorem State.verifyHeld_unusable (hbuf : s.holdBuf = e :: rest) (hkind : e.kind = .chain item route)
    (hrxq : e.rxq = none) (hrest : ∀ x ∈ rest, ∀ i r, x.kind ≠ .after i r) (husable : e.usable = false) :
    s.verifyHeld = s.heldFailed rest item route := by
  have hverdict : s.verdict e = .fail := by
    rw [verdict, husable]
    rfl
  have hreject : (((s.heldOut rest).bump Reg.CPH_RX_AUTH_FAIL).rejectHeld e) = s.heldFailed rest item route := by
    rw [rejectHeld, hkind]
    rfl
  have hnext := State.holdNext_none hrest (s.heldFailed_shows rest item route).1
  rw [← hreject] at hnext ⊢
  unfold verifyHeld
  rw [hbuf]
  dsimp only
  rw [hverdict, queueHeld_none hrxq, husable]
  exact hnext

/-- The state in which a verified frame has been released to its chain. -/
def State.heldVerified (s : State) (e : HoldEntry) (rest : List HoldEntry) (item : ChainItem) (route fv : Nat) :
    State :=
  ((s.heldOut rest).setPol e.policy
    { (s.heldOut rest).pol e.policy with fv := fv, none := false, gen := e.gen }).startChain item route

/-- The state in which, besides, the verification's use of its key has ended. -/
def State.heldEnded (s : State) (e : HoldEntry) (rest : List HoldEntry) (item : ChainItem) (route fv : Nat) : State :=
  if e.usable then (s.heldVerified e rest item route fv).keyEnd e.slot e.gen else s.heldVerified e rest item route fv

theorem State.heldEnded_cipherSide (s : State) (e : HoldEntry) (rest : List HoldEntry) (item : ChainItem)
    (route fv : Nat) : (s.heldEnded e rest item route fv).cipherSide = ((s.heldOut rest).setPol e.policy
      { (s.heldOut rest).pol e.policy with fv := fv, none := false, gen := e.gen }).cipherSide := by
  have hstart := State.startChain_cipherSide ((s.heldOut rest).setPol e.policy
    { (s.heldOut rest).pol e.policy with fv := fv, none := false, gen := e.gen }) item route
  unfold heldEnded
  split
  · exact (State.keyEnd_cipherSide _ _ _).trans hstart
  · exact hstart

theorem State.heldEnded_mems (s : State) (e : HoldEntry) (rest : List HoldEntry) (item : ChainItem)
    (route fv : Nat) : (s.heldEnded e rest item route fv).mems = s.mems := by
  have hstart : (s.heldVerified e rest item route fv).mems = s.mems := State.startChain_mems _ item route
  unfold heldEnded
  split
  · exact (State.keyEnd_mems _ _ _).trans hstart
  · exact hstart

theorem State.heldEnded_shows (s : State) (e : HoldEntry) (rest : List HoldEntry) (item : ChainItem)
    (route fv : Nat) : (s.heldEnded e rest item route fv).holdBuf = rest ∧
      ((s.heldEnded e rest item route fv).pol e.policy).fv = fv ∧
      ((s.heldEnded e rest item route fv).pol e.policy).gen = e.gen ∧
      (s.heldEnded e rest item route fv).rd Reg.CPH_RX_AUTH_FAIL = s.rd Reg.CPH_RX_AUTH_FAIL := by
  have h := s.heldEnded_cipherSide e rest item route fv
  have htbl : (s.heldEnded e rest item route fv).pols = _ := congrArg (fun c => c.2.1) h
  have hpol : (s.heldEnded e rest item route fv).pol e.policy =
      { (s.heldOut rest).pol e.policy with fv := fv, none := false, gen := e.gen } :=
    
    (congrArg (Tbl.get (fun _ => ({} : PolState)) · e.policy) htbl).trans (Tbl.get_set_same _ _ _ _)
  exact ⟨congrArg Prod.fst h, congrArg PolState.fv hpol, congrArg PolState.gen hpol,
    (congrArg (fun c => c.2.2) h).trans (s.heldOut_rd_ne rest (by decide))⟩

theorem State.verifyHeld_ok {fv : Nat} (hbuf : s.holdBuf = e :: rest) (hkind : e.kind = .chain item route)
    (hrxq : e.rxq = none) (hrest : ∀ x ∈ rest, ∀ i r, x.kind ≠ .after i r) (hverdict : s.verdict e = .ok fv)
    (hgen : s.slotGen e.slot = e.gen) : s.verifyHeld = s.heldEnded e rest item route fv := by
  have hgen' : (s.heldOut rest).slotGen e.slot = e.gen := by
    rw [← hgen]
    exact congrArg (getBits · 16 16) (s.heldOut_rd_ne rest (by simp only [Reg.CPH_SLOT_STATE, Reg.CPH_HOLD]; omega))
  have hsettle : (s.heldOut rest).settle e.policy e.slot e.gen (.ok fv) = (s.heldOut rest).setPol e.policy
      { (s.heldOut rest).pol e.policy with fv := fv, none := false, gen := e.gen } := if_pos hgen'
  have hrelease (t : State) : t.releaseHeld e = t.startChain item route := by
    rw [releaseHeld, hkind]
  have hnext := State.holdNext_none hrest (s.heldEnded_shows e rest item route fv).1
  rw [← hnext]
  unfold verifyHeld
  rw [hbuf]
  dsimp only
  rw [hverdict, queueHeld_none hrxq]
  dsimp only
  rw [if_pos rfl, hrelease]
  change (if e.usable = true then State.keyEnd (((s.heldOut rest).settle _ _ _ _).startChain item route) _ _
    else ((s.heldOut rest).settle _ _ _ _).startChain item route).holdNext = _
  rw [hsettle]
  rfl

/-- What the command takes over from the state in which the frame has been verified. -/
def State.verifyFrame (s t : State) : State :=
  { s with
    regs := t.regs, eqs := t.eqs, out := t.out, sig := t.sig, limits := t.limits, engines := t.engines
    can := t.can, queues := t.queues, ports := t.ports, saltern := t.saltern, slots := t.slots, pols := t.pols
    holdBuf := t.holdBuf, nextId := t.nextId, dev := t.dev, waking := t.waking }

end

end Sys2Proof.Machine

open Sys2Proof.Machine in
/-- Settles O28: the frame's own effects come first, and neither a chain's first pass nor the end of the key's use
touches the hold buffer, the policies or the count of failures. -/
theorem verificationsEnd : Obligations.VerificationsEnd := by
  intro e rest item route s h hbuf hkind hrxq hrest
  refine ⟨fun husable => ?_, fun fv hverdict hgen => ?_⟩
  · have hop := State.verifyHeld_unusable hbuf hkind hrxq hrest husable
    obtain ⟨hrest', hfail, hreject, hpols⟩ := s.heldFailed_shows rest item route
    have hheld : (s.heldFailed rest item route).dev.held = false :=
      (congrArg DevState.held (State.rejectChain_spec _ item route).2.2.2).trans h
    exact completes_device State.verifyHeld State.verifyFrame h rfl hop rfl hheld
      ⟨hrest', hfail, hreject, hpols, ⟨fun _ => rfl, rfl⟩, rfl⟩
  · have hop := State.verifyHeld_ok hbuf hkind hrxq hrest hverdict hgen
    obtain ⟨hrest', hfv, hpgen, hfail⟩ := s.heldEnded_shows e rest item route fv
    have hheld := (State.held_of_mems (s.heldEnded_mems e rest item route fv)).trans h
    exact completes_device State.verifyHeld State.verifyFrame h rfl hop rfl hheld
      ⟨hrest', hfv, hpgen, hfail, ⟨fun _ => rfl, rfl⟩, rfl⟩

end

section
/-!
The end of an invocation of a signal engine (R197, R217, R218): the state it leaves is named once, and shown to be what
the engine makes.
-/

namespace Sys2Proof.Machine

variable {s : State}

/-! ## A recipe of one instruction -/

theorem State.rcBudget_pos (s : State) (g : Gen) (r : Nat) : 0 < s.rcBudget g r := by
  unfold rcBudget orElse
  split <;> omega

/-- An instruction and the RET behind it (Table 6.9): w1 holds what the instruction made. -/
theorem State.gnoisk_bin (s : State) (e : Nat) (i : Invoc) (op : SeBin) (a : SeReg) (r : SeArg) :
    s.gnoisk e i [.bin op 1 a r, .ret] = some
      { w1 := seBin op (i.startReg a) (match r with | .reg k => i.startReg k | .imm v => v)
        w2 := i.startReg 2, w3 := i.startReg 3, stores := [], own := [], scratch := [] } := by
  obtain ⟨n, hn⟩ : ∃ n, 2 * s.rcBudget i.gen i.recipe = n + 2 := ⟨2 * s.rcBudget i.gen i.recipe - 2, by
    have := s.rcBudget_pos i.gen i.recipe
    omega⟩
  unfold gnoisk
  rw [hn]
  cases r <;> rfl

/-! ## Own areas that wait for nothing -/

theorem State.ownsSettle_none (h : ∀ k < 8, (s.engine k).ownDue = false) : s.ownsSettle = s := by
  have hfold (l : List Nat) (hl : ∀ k ∈ l, k < 8) : l.foldl State.ownSettle s = s := by
    induction l with
    | nil => rfl
    | cons k l ih =>
      have hk : s.ownSettle k = s := by
        unfold ownSettle
        rw [h k (hl k List.mem_cons_self)]
        rfl
      rw [List.foldl_cons, hk]
      exact ih fun j hj => hl j (List.mem_cons_of_mem _ hj)
  exact hfold _ fun k hk => List.mem_range.mp hk

theorem State.engineTake_ownDue (s : State) (e k : Nat) : ((s.engineTake e).engine k).ownDue = (s.engine k).ownDue := by
  change ((s.setEngine e _).engine k).ownDue = _
  by_cases hk : k = e
  · rw [hk, State.engine_setEngine_same]
  · rw [State.engine_setEngine_ne _ _ hk]

/-! ## Byte stores of an invocation -/

/-- The places that an own area's byte has: in its engine's memory, and in the shadow at the buddy (R224). -/
def ownPlace (home k : Nat) : Nat := 0x2000000 + 0x40000 * home + k
def shadowPlace (home k : Nat) : Nat := 0x2000000 + 0x40000 * buddy home + 0x1C000 + k

theorem shadowPlace_ne (home k : Nat) : shadowPlace home k ≠ ownPlace home k := by
  unfold shadowPlace ownPlace buddy
  split <;> omega

theorem State.scratchStores_mem (s : State) (e : Nat) (bs : List (Nat × Byte)) :
    s.scratchStores e bs = { s with mem := (s.scratchStores e bs).mem } := by
  induction bs generalizing s with
  | nil => rfl
  | cons b bs ih => exact ih (s.setByte _ b.2)

theorem State.scratchStores_byte {e a : Nat} {bs : List (Nat × Byte)}
    (h : ∀ x ∈ bs, a ≠ 0x2000000 + 0x40000 * e + x.1) (s : State) : (s.scratchStores e bs).byte a = s.byte a := by
  induction bs generalizing s with
  | nil => rfl
  | cons b bs ih =>
    have htail := ih (fun x hx => h x (List.mem_cons_of_mem _ hx)) (s.setByte (0x2000000 + 0x40000 * e + b.1) b.2)
    exact htail.trans (s.byte_setByte_ne b.2 (h b List.mem_cons_self))

/-- One byte of an own area is stored. -/
def State.ownStore (s : State) (home : Nat) (x : Fin 114688 × Byte) : State :=
  let t := s.setByte (shadowPlace home x.1) x.2
  if t.engineOut home then t else t.setByte (ownPlace home x.1) x.2

theorem State.ownStores_eq (s : State) (home : Nat) (own : List (Fin 114688 × Byte)) :
    s.ownStores home own = own.foldl (State.ownStore · home) s := rfl

theorem State.ownStore_mem (s : State) (home : Nat) (x : Fin 114688 × Byte) :
    s.ownStore home x = { s with mem := (s.ownStore home x).mem } := by
  unfold ownStore
  extract_lets t
  split <;> rfl

theorem State.ownStores_mem (s : State) (home : Nat) (own : List (Fin 114688 × Byte)) :
    s.ownStores home own = { s with mem := (s.ownStores home own).mem } := by
  rw [ownStores_eq]
  induction own generalizing s with
  | nil => rfl
  | cons x own ih =>
    have htail := ih (s.ownStore home x)
    rw [List.foldl_cons]
    rw [s.ownStore_mem home x] at htail ⊢
    exact htail

theorem State.ownStore_byte {home a : Nat} {x : Fin 114688 × Byte} (hown : a ≠ ownPlace home x.1)
    (hshadow : a ≠ shadowPlace home x.1) (s : State) : (s.ownStore home x).byte a = s.byte a := by
  unfold ownStore
  extract_lets t
  have ht : t.byte a = s.byte a := s.byte_setByte_ne _ hshadow
  split
  · exact ht
  · exact (t.byte_setByte_ne _ hown).trans ht

theorem State.ownStores_byte {home a : Nat} {own : List (Fin 114688 × Byte)}
    (h : ∀ x ∈ own, a ≠ ownPlace home x.1 ∧ a ≠ shadowPlace home x.1) (s : State) :
    (s.ownStores home own).byte a = s.byte a := by
  rw [ownStores_eq]
  induction own generalizing s with
  | nil => rfl
  | cons x own ih =>
    obtain ⟨hown, hshadow⟩ := h x List.mem_cons_self
    exact (ih (fun y hy => h y (List.mem_cons_of_mem _ hy)) _).trans (s.ownStore_byte hown hshadow)

theorem State.ownStore_shadow (s : State) (home : Nat) (x : Fin 114688 × Byte) :
    (s.ownStore home x).byte (shadowPlace home x.1) = x.2 := by
  unfold ownStore
  extract_lets t
  have ht : t.byte (shadowPlace home x.1) = x.2 := s.byte_setByte_same _ _
  split
  · exact ht
  · exact (t.byte_setByte_ne _ (shadowPlace_ne home x.1)).trans ht

theorem State.ownStore_own {home : Nat} (h : s.engineOut home = false) (x : Fin 114688 × Byte) :
    (s.ownStore home x).byte (ownPlace home x.1) = x.2 := by
  unfold ownStore
  extract_lets t
  rw [if_neg (show ¬t.engineOut home = true by rw [show t.engineOut home = false from h]; exact Bool.false_ne_true)]
  exact t.byte_setByte_same _ _

/-! ## The end of an invocation -/

section
variable {e : Fin 8} {i : Invoc} {q : List Invoc} {b : Nat} {res : RecipeRes} {code : List SeInstr}

/-- An invocation has left its queue; what waited for it has these writes, and its bytes are stored. -/
def State.invocDone (s : State) (e : Nat) (i : Invoc) (ws : List CellWrite) (m : Tbl Byte) : State :=
  { s with
    regs := (s.engineTake e).regs, engines := (s.engineTake e).engines, mem := m
    sig := { s.sig with batches := s.sig.batches.map fun x => { x with items := fillItems i.id ws x.items } } }

theorem State.invocDone_engine (hq : (s.engine e).queue = i :: q) (ws : List CellWrite) (m : Tbl Byte) :
    ((s.invocDone e i ws m).engine e).queue = q := by
  change ((s.setEngine e { s.engine e with queue := (s.engine e).queue.tail }).engine e).queue = q
  rw [State.engine_setEngine_same, hq]
  rfl

theorem State.invocDone_regsBut (s : State) (e : Fin 8) (i : Invoc) (ws : List CellWrite) (m : Tbl Byte) :
    RegsBut s (s.invocDone e i ws m) [Reg.SEC_QUEUE e] :=
  fun _ ha => State.rd_setFld_ne (s.setEngine e { s.engine e with queue := (s.engine e).queue.tail })
    (f := Reg.SEC_QUEUE_DEPTH e) _ fun h => ha (List.mem_singleton.mpr h)

theorem State.invocDone_depth (hq : (s.engine e).queue = i :: q) (ws : List CellWrite) (m : Tbl Byte) :
    (s.invocDone e i ws m).fld (Reg.SEC_QUEUE_DEPTH e) = q.length % 512 := by
  have hlen : ((s.setEngine e { s.engine e with queue := (s.engine e).queue.tail }).engine e).queue.length = q.length :=
    congrArg List.length (s.invocDone_engine hq ws m)
  have h := (s.setEngine e { s.engine e with queue := (s.engine e).queue.tail }).fld_setFld_same (Reg.SEC_QUEUE_DEPTH e)
    q.length (show 0 + 9 ≤ 32 by decide)
  rw [← hlen] at h ⊢
  exact h

/-- The bytes after an invocation that returned. -/
def State.invocMem (s : State) (e : Nat) (i : Invoc) (res : RecipeRes) : Tbl Byte :=
  (((s.engineTake e).ownStores (s.homeOf i) res.own).scratchStores e res.scratch).mem

theorem State.recipeReturn_eq (hb : i.batch = some b) (s : State) (e : Nat) (res : RecipeRes) :
    s.recipeReturn e i res =
      (s.invocDone e i (s.descWrite i res ++ (keepStores (groupCells (s.groupOf i (s.descWrite i res)))
        (s.storeWrites i res)).1) (s.invocMem e i res)).bumpBy (Reg.SEC_OVERRUN e)
        (keepStores (groupCells (s.groupOf i (s.descWrite i res))) (s.storeWrites i res)).2 := by
  have hmem : ((s.engineTake e).ownStores (s.homeOf i) res.own).scratchStores e res.scratch =
      { s.engineTake e with mem := s.invocMem e i res } := by
    calc _ = { (s.engineTake e).ownStores (s.homeOf i) res.own with mem := s.invocMem e i res } :=
          State.scratchStores_mem _ e res.scratch
      _ = _ := congrArg (fun t : State => { t with mem := s.invocMem e i res }) (State.ownStores_mem _ _ _)
  unfold recipeReturn
  extract_lets t desc stores k
  rw [if_pos (by rw [hb]; rfl)]
  change (State.fill (((s.engineTake e).ownStores (s.homeOf i) res.own).scratchStores e res.scratch) _ _).bumpBy _ _ = _
  rw [hmem]
  rfl

theorem State.recipeRun_returns (hq : (s.engine e).queue = i :: q) (hrun : s.engineRuns e = true)
    (hres : s.gnoisk e i code = some res) (hown : ∀ k < 8, ((s.recipeReturn e i res).engine k).ownDue = false) :
    s.recipeRun e code = s.recipeReturn e i res := by
  unfold recipeRun
  rw [hq]
  dsimp only
  rw [if_pos hrun, hres]
  exact State.ownsSettle_none hown

theorem State.invocMem_same {a : Nat} (hown : ∀ x ∈ res.own, a ≠ ownPlace (s.homeOf i) x.1 ∧
      a ≠ shadowPlace (s.homeOf i) x.1) (hscratch : ∀ x ∈ res.scratch, a ≠ 0x2000000 + 0x40000 * e.val + x.1) :
    Tbl.get memDefault (s.invocMem e i res) a = s.byte a :=
  (State.scratchStores_byte hscratch _).trans (State.ownStores_byte hown _)

theorem State.engineOut_take (s : State) (e home : Nat) : (s.engineTake e).engineOut home = s.engineOut home := by
  have hrole : (s.engineTake e).role home = s.role home :=
    (s.setEngine e { s.engine e with queue := (s.engine e).queue.tail }).fld_setFld_addr _
      (show Reg.secBase home ≠ Reg.secBase e + 0x18 by simp only [Reg.secBase]; omega)
  rw [engineOut, hrole, engineOut]

theorem State.invocMem_single {k : Fin 114688} {v : Byte} (hown : res.own = [(k, v)]) (hscratch : res.scratch = []) :
    Tbl.get memDefault (s.invocMem e i res) (shadowPlace (s.homeOf i) k) = v ∧
    (s.engineOut (s.homeOf i) = false → Tbl.get memDefault (s.invocMem e i res) (ownPlace (s.homeOf i) k) = v) := by
  unfold invocMem
  rw [hown, hscratch]
  exact ⟨State.ownStore_shadow _ _ (k, v), fun h => State.ownStore_own ((s.engineOut_take e _).trans h) (k, v)⟩

/-- What the two commands of a recipe's end take over. -/
def State.recipeFrame (s t : State) : State :=
  { s with regs := t.regs, mem := t.mem, sig := t.sig, engines := t.engines, nextId := t.nextId }

theorem recipeReturn_completes (h : s.awake) (hq : (s.engine e).queue = i :: q) (hb : i.batch = some b)
    (hrun : s.engineRuns e = true) (hown : ∀ k < 8, (s.engine k).ownDue = false)
    (hres : s.gnoisk e i code = some res) :
    Completes (.recipeInvocation e code) s fun t =>
      (let desc := s.descWrite i res
       let k := keepStores (groupCells (s.groupOf i desc)) (s.storeWrites i res)
       t.sig = { s.sig with batches := s.sig.batches.map fun x =>
          { x with items := fillItems i.id (desc ++ k.1) x.items } } ∧
        t.rd (Reg.SEC_OVERRUN e) = satWord ((s.rd (Reg.SEC_OVERRUN e)).toNat + k.2)) ∧
      (t.engine e).queue = q ∧ t.fld (Reg.SEC_QUEUE_DEPTH e) = q.length % 512 ∧
      OnlyRegs { s with mem := t.mem, sig := t.sig, engines := t.engines } t [Reg.SEC_QUEUE e, Reg.SEC_OVERRUN e] ∧
      t.mem = s.invocMem e i res := by
  have heq := State.recipeReturn_eq hb s e res
  dsimp only
  generalize keepStores (groupCells (s.groupOf i (s.descWrite i res))) (s.storeWrites i res) = k at *
  generalize hws : s.descWrite i res ++ k.1 = ws at *
  have hdue (k' : Nat) (hk : k' < 8) : ((s.recipeReturn e i res).engine k').ownDue = false := by
    rw [heq]
    exact (s.engineTake_ownDue e k').trans (hown k' hk)
  have hop := (State.recipeRun_returns hq hrun hres hdue).trans heq
  have hbase : Reg.SEC_OVERRUN e ∉ [Reg.SEC_QUEUE e] := fun hmem =>
    absurd (List.mem_singleton.mp hmem) (by simp only [Reg.SEC_OVERRUN, Reg.SEC_QUEUE]; omega)
  have hregs := s.invocDone_regsBut e i ws (s.invocMem e i res)
  have hcount : ((s.invocDone e i ws (s.invocMem e i res)).bumpBy (Reg.SEC_OVERRUN e) k.2).rd (Reg.SEC_OVERRUN e) =
      satWord ((s.rd (Reg.SEC_OVERRUN e)).toNat + k.2) := by
    rw [← hregs _ hbase]
    exact State.rd_wr_same _ _ _
  have hdepth : ((s.invocDone e i ws (s.invocMem e i res)).bumpBy (Reg.SEC_OVERRUN e) k.2).fld
      (Reg.SEC_QUEUE_DEPTH e) = q.length % 512 := by
    rw [← s.invocDone_depth hq ws (s.invocMem e i res)]
    exact congrArg (getBits · 0 9) (State.rd_wr_ne _ _ fun hc => hbase (List.mem_singleton.mpr hc.symm))
  have hall : RegsBut s ((s.invocDone e i ws (s.invocMem e i res)).bumpBy (Reg.SEC_OVERRUN e) k.2)
      [Reg.SEC_QUEUE e, Reg.SEC_OVERRUN e] :=
    (hregs.mono fun a ha => List.mem_cons.mpr (.inl (List.mem_singleton.mp ha))).wr _
      (List.mem_cons_of_mem _ List.mem_cons_self)
  have hqueue := s.invocDone_engine hq ws (s.invocMem e i res)
  exact completes_framed (State.recipeRun · e code) State.recipeFrame h rfl (fun _ => ⟨rfl, rfl⟩) hop
    ⟨⟨rfl, hcount⟩, hqueue, hdepth, ⟨rfl, hall⟩, rfl⟩

/-! ## Code that comes to no RET -/

/-- An invocation has been taken without effect, counted, and its recipe shown (R218). -/
def State.invocLost (s : State) (e : Nat) (i : Invoc) : State :=
  ((s.invocDone e i [] s.mem).bump (Reg.SEC_OVERRUN e)).setFld (Reg.SEC_LAST_RECIPE_RECIPE e) i.recipe

theorem State.invocDone_engines (s : State) (e : Nat) (i : Invoc) (ws : List CellWrite) (m : Tbl Byte) :
    (s.invocDone e i ws m).engines = (s.engineTake e).engines := rfl

theorem State.invocLost_engines (s : State) (e : Nat) (i : Invoc) :
    (s.invocLost e i).engines = (s.engineTake e).engines := by
  rw [invocLost, State.setFld_engines, State.bump_engines, invocDone_engines]

theorem State.invocDone_unstored (s : State) (e : Nat) (i : Invoc) (ws : List CellWrite) :
    s.invocDone e i ws s.mem = (s.engineTake e).fill i.id ws := rfl

theorem State.recipeOverrun_lost (hq : (s.engine e).queue = i :: q) (hrun : s.engineRuns e = true)
    (hown : ∀ k < 8, (s.engine k).ownDue = false) : s.recipeOverrun e = s.invocLost e i := by
  have hdue (k : Nat) (hk : k < 8) : ((s.invocLost e i).engine k).ownDue = false := by
    rw [engine, s.invocLost_engines e i]
    exact (s.engineTake_ownDue e k).trans (hown k hk)
  unfold recipeOverrun
  rw [hq]
  dsimp only
  rw [if_pos hrun]
  change State.ownsSettle (State.setFld (State.bump ((s.engineTake e).fill i.id []) _) _ _) = _
  rw [← s.invocDone_unstored e i []]
  exact State.ownsSettle_none hdue

theorem State.invocLost_shows (s : State) (e : Fin 8) (i : Invoc) :
    (s.invocLost e i).rd (Reg.SEC_OVERRUN e) = satInc (s.rd (Reg.SEC_OVERRUN e)) ∧
    (s.invocLost e i).fld (Reg.SEC_LAST_RECIPE_RECIPE e) = i.recipe % 1024 ∧
    RegsBut s (s.invocLost e i) [Reg.SEC_QUEUE e, Reg.SEC_OVERRUN e, Reg.SEC_LAST_RECIPE e] := by
  have hregs := s.invocDone_regsBut e i [] s.mem
  have hbase : Reg.SEC_OVERRUN e ∉ [Reg.SEC_QUEUE e] := fun hmem =>
    absurd (List.mem_singleton.mp hmem) (by simp only [Reg.SEC_OVERRUN, Reg.SEC_QUEUE]; omega)
  have hne : Reg.SEC_OVERRUN e ≠ Reg.SEC_LAST_RECIPE e := by
    simp only [Reg.SEC_OVERRUN, Reg.SEC_LAST_RECIPE]
    omega
  refine ⟨?_, ?_, ?_⟩
  · rw [← hregs _ hbase]
    exact (State.rd_setFld_ne _ (f := Reg.SEC_LAST_RECIPE_RECIPE e) _ hne).trans (State.rd_bump_same _ _)
  · exact State.fld_setFld_same _ (Reg.SEC_LAST_RECIPE_RECIPE e) _ (show 0 + 10 ≤ 32 by decide)
  · exact ((hregs.mono fun a ha => List.mem_cons.mpr (.inl (List.mem_singleton.mp ha))).wr _
      (List.mem_cons_of_mem _ List.mem_cons_self)).setFld (Reg.SEC_LAST_RECIPE_RECIPE e) _ (by simp)

theorem recipe_lost_completes {c : Instr} {op : State → State} (frame : State → State → State) (h : s.awake)
    (hexec : exec c s = live s fun s => frame s (op s))
    (hframe : ∀ u, (frame s u).pending = s.pending ∧ (frame s u).dev = s.dev)
    (htakes : ∀ u : State, { u with regs := s.regs, sig := s.sig, engines := s.engines } = s → frame s u = u)
    (hop : op s = s.recipeOverrun e) (hq : (s.engine e).queue = i :: q) (hrun : s.engineRuns e = true)
    (hown : ∀ k < 8, (s.engine k).ownDue = false) :
    Completes c s fun t =>
      t.sig = { s.sig with batches := s.sig.batches.map fun x => { x with items := fillItems i.id [] x.items } } ∧
      (t.engine e).queue = q ∧ t.rd (Reg.SEC_OVERRUN e) = satInc (s.rd (Reg.SEC_OVERRUN e)) ∧
      t.fld (Reg.SEC_LAST_RECIPE_RECIPE e) = i.recipe % 1024 ∧
      OnlyRegs { s with sig := t.sig, engines := t.engines } t
        [Reg.SEC_QUEUE e, Reg.SEC_OVERRUN e, Reg.SEC_LAST_RECIPE e] := by
  obtain ⟨hcount, hlast, hregs⟩ := s.invocLost_shows e i
  have hqueue : ((s.invocLost e i).engine e).queue = q := by
    rw [State.engine, s.invocLost_engines e i]
    exact s.invocDone_engine hq [] s.mem
  have hsig : (s.invocLost e i).sig = { s.sig with
      batches := s.sig.batches.map fun x => { x with items := fillItems i.id [] x.items } } := rfl
  have hsame : { s.invocLost e i with regs := s.regs, sig := s.sig, engines := s.engines } = s := rfl
  have hop' := hop.trans (State.recipeOverrun_lost hq hrun hown)
  generalize s.invocLost e i = u at *
  have hu : { u with regs := s.regs } = { s with sig := u.sig, engines := u.engines } :=
    congrArg (fun x : State => { x with sig := u.sig, engines := u.engines }) hsame
  refine completes_framed op frame h hexec hframe hop' ?_
  rw [htakes u hsame]
  exact ⟨hsig, hqueue, hcount, hlast, hu, hregs⟩

end

end Sys2Proof.Machine

open Sys2Proof.Machine in
/-- Settles O29: an invocation that returns and one that does not are each taken from the queue once. -/
theorem recipesRunToTheirEnd : Obligations.RecipesRunToTheirEnd := by
  intro e code i q b s h hq hb hrun hown
  refine ⟨s.gnoisk_bin e i, fun res hres => ?_, fun c hc => ?_⟩
  · obtain ⟨t, hexec, ⟨hsig, hqueue, hdepth, hregs, hmem⟩⟩ := recipeReturn_completes h hq hb hrun hown hres
    have hbyte (a : Nat) : t.byte a = Tbl.get memDefault (s.invocMem e i res) a := by rw [State.byte, hmem]
    refine ⟨t, hexec, hsig, hqueue, hdepth, hregs, fun a ha hscratch => ?_, fun k v hk hscratch => ?_⟩
    · exact (hbyte a).trans (State.invocMem_same ha hscratch)
    · obtain ⟨hshadow, hplace⟩ := State.invocMem_single (e := e) hk hscratch
      exact ⟨(hbyte _).trans hshadow, fun hin => (hbyte _).trans (hplace hin)⟩
  · rcases hc with rfl | ⟨rfl, hnone⟩
    · exact recipe_lost_completes (op := (State.recipeOverrun · e))
        (fun s t => { s with regs := t.regs, mem := t.mem, sig := t.sig, engines := t.engines }) h rfl
        (fun _ => ⟨rfl, rfl⟩) (fun u hu => by rw [← hu]) rfl hq hrun hown
    · refine recipe_lost_completes (op := (State.recipeRun · e code)) State.recipeFrame h rfl
        (fun _ => ⟨rfl, rfl⟩) (fun u hu => by rw [← hu]; rfl) ?_ hq hrun hown
      unfold State.recipeRun
      rw [hq]
      dsimp only
      rw [if_pos hrun, hnone]

end

section
/-!
Signal engines in pairs (R223 to R227): an engine that leaves service hands its queue to its buddy.
-/

namespace Sys2Proof.Machine

variable {s : State}

/-! ## The takeover -/

theorem buddy_ne (e : Nat) : buddy e ≠ e := by
  unfold buddy
  split <;> omega

/-- The queue of engine `k` becomes `q`, and its depth is shown. -/
def State.queueSet (s : State) (k : Nat) (q : List Invoc) : State :=
  (s.setEngine k { s.engine k with queue := q }).showQueue k

theorem State.queueSet_engine_same (s : State) (k : Nat) (q : List Invoc) : ((s.queueSet k q).engine k).queue = q := by
  change ((s.setEngine k { s.engine k with queue := q }).engine k).queue = q
  rw [State.engine_setEngine_same]

theorem State.queueSet_engine_ne (s : State) {k j : Nat} (q : List Invoc) (h : j ≠ k) :
    (s.queueSet k q).engine j = s.engine j :=
  s.engine_setEngine_ne { s.engine k with queue := q } h

theorem State.queueSet_rd_ne (s : State) {k a : Nat} (q : List Invoc) (h : a ≠ Reg.SEC_QUEUE k) :
    (s.queueSet k q).rd a = s.rd a :=
  (s.setEngine k { s.engine k with queue := q }).rd_setFld_ne (f := Reg.SEC_QUEUE_DEPTH k) _ h

/-- The queue of engine `e` goes to its buddy. -/
def State.queueMoved (s : State) (e : Nat) : State :=
  let t := (s.setEngine e { s.engine e with returning := false }).queueSet e []
  t.queueSet (buddy e) ((t.engine (buddy e)).queue ++ (s.engine e).queue)

theorem State.queueMoved_engines (s : State) (e : Nat) :
    ((s.queueMoved e).engine e).queue = [] ∧
    ((s.queueMoved e).engine (buddy e)).queue = (s.engine (buddy e)).queue ++ (s.engine e).queue := by
  have hbe := buddy_ne e
  unfold queueMoved
  refine ⟨?_, ?_⟩
  · rw [State.queueSet_engine_ne _ _ hbe.symm, State.queueSet_engine_same]
  · rw [State.queueSet_engine_same, State.queueSet_engine_ne _ _ hbe, State.engine_setEngine_ne _ _ hbe]

theorem State.queueMoved_rd_ne (s : State) {e a : Nat} (he : a ≠ Reg.SEC_QUEUE e) (hb : a ≠ Reg.SEC_QUEUE (buddy e)) :
    (s.queueMoved e).rd a = s.rd a :=
  (State.queueSet_rd_ne _ _ hb).trans (State.queueSet_rd_ne (s.setEngine e _) [] he)

theorem State.queueMoved_frame (s : State) (e : Nat) :
    { s.queueMoved e with regs := s.regs, engines := s.engines } = s := by rfl

/-- The queue of engine `e` has gone to its buddy, which carries its recipes. -/
def State.tookOver (s : State) (e r : Nat) : State :=
  (((s.queueMoved e).setRole e r).setRole (buddy e) roleCarrying).bump (Reg.secBase (buddy e) + 0x14)

theorem State.takeover_carried {e : Nat} (h : s.engineOut (buddy e) = false) (r : Nat) :
    s.takeover e r = s.tookOver e r := if_neg (by rw [h]; exact Bool.false_ne_true)

theorem State.tookOver_engines (s : State) (e r : Nat) : (s.tookOver e r).engines = (s.queueMoved e).engines := by
  rw [tookOver, State.bump_engines, setRole, State.setFld_engines, setRole, State.setFld_engines]

theorem State.tookOver_queues (s : State) (e r : Nat) :
    ((s.tookOver e r).engine e).queue = [] ∧
    ((s.tookOver e r).engine (buddy e)).queue = (s.engine (buddy e)).queue ++ (s.engine e).queue := by
  have h (k : Nat) : (s.tookOver e r).engine k = (s.queueMoved e).engine k := by
    rw [engine, s.tookOver_engines, engine]
  rw [h, h]
  exact s.queueMoved_engines e

theorem State.tookOver_frame (s : State) (e r : Nat) :
    { s.tookOver e r with regs := s.regs, engines := s.engines } = s := by
  have hregs (t : State) (a b k j : Nat) : { ((t.setRole a k).setRole b j).bump (Reg.secBase b + 0x14) with
      regs := s.regs, engines := s.engines } = { t with regs := s.regs, engines := s.engines } := by rfl
  exact (hregs (s.queueMoved e) e (buddy e) r roleCarrying).trans (s.queueMoved_frame e)

theorem State.tookOver_roles (s : State) (e r : Nat) :
    (s.tookOver e r).role e = r % 4 ∧ (s.tookOver e r).role (buddy e) = 1 := by
  have hbe := buddy_ne e
  have hcount (k : Nat) (t : State) : (t.bump (Reg.secBase (buddy e) + 0x14)).role k = t.role k :=
    t.fld_wr_ne (f := ⟨Reg.secBase k, 0, 2⟩) _ (by simp only [Reg.secBase]; omega)
  have hbits : 0 + 2 ≤ 32 := by decide
  refine ⟨(hcount e _).trans ?_, (hcount (buddy e) _).trans (State.fld_setFld_same _ _ _ hbits)⟩
  calc (((s.queueMoved e).setRole e r).setRole (buddy e) roleCarrying).role e = ((s.queueMoved e).setRole e r).role e :=
        State.fld_setFld_addr _ _ (show Reg.secBase e ≠ Reg.secBase (buddy e) by simp only [Reg.secBase]; omega)
    _ = r % 4 := State.fld_setFld_same _ _ _ hbits

theorem State.tookOver_rd_ne (s : State) {e a : Nat} (r : Nat) (he : a ≠ Reg.SEC_QUEUE e)
    (hb : a ≠ Reg.SEC_QUEUE (buddy e)) (hre : a ≠ Reg.secBase e) (hrb : a ≠ Reg.secBase (buddy e))
    (hcount : a ≠ Reg.secBase (buddy e) + 0x14) : (s.tookOver e r).rd a = s.rd a :=
  (State.rd_bump_ne _ hcount).trans ((State.rd_setFld_ne _ _ hrb).trans
    ((State.rd_setFld_ne _ _ hre).trans (s.queueMoved_rd_ne he hb)))

theorem State.tookOver_checkFail (s : State) (e r : Nat) :
    (s.tookOver e r).rd (Reg.SEC_CHECK_FAIL e) = s.rd (Reg.SEC_CHECK_FAIL e) := by
  have hbe := (buddy_ne e).symm
  apply s.tookOver_rd_ne <;> simp only [Reg.SEC_CHECK_FAIL, Reg.SEC_QUEUE, Reg.secBase] <;> omega

theorem State.tookOver_rd_below (s : State) (e r : Nat) {a : Nat} (ha : a < 0x2000000) :
    (s.tookOver e r).rd a = s.rd a := by
  apply s.tookOver_rd_ne <;> simp only [Reg.SEC_QUEUE, Reg.secBase] <;> omega

/-! ## A mismatch -/

section
variable {e : Fin 8} {p : PageNo}

/-- A mismatch has been logged and counted. -/
def State.mismatched (s : State) (e : Nat) : State :=
  (s.logFault fcLockstep (0x20000 + e) 0).bump (Reg.SEC_CHECK_FAIL e)

theorem State.mismatched_rd_ne (s : State) {a : Nat} (hlog : a ≠ Reg.HLT_LOG_SEQ) (ha : a ≠ Reg.SEC_CHECK_FAIL e) :
    (s.mismatched e).rd a = s.rd a :=
  (State.rd_bump_ne _ ha).trans (s.logFault_rd_ne _ _ _ hlog)

theorem State.mismatched_role (s : State) (k : Nat) : (s.mismatched e).role k = s.role k := by
  have hlog : Reg.HLT_LOG_SEQ < 0x2000000 := by decide
  have hrd := s.mismatched_rd_ne (e := e) (a := Reg.secBase k) (by simp only [Reg.secBase]; omega)
    (by simp only [Reg.SEC_CHECK_FAIL, Reg.secBase]; omega)
  rw [State.role, State.fld, hrd, State.role, State.fld]

theorem State.mismatched_engines (s : State) (e : Fin 8) : (s.mismatched e).engines = s.engines := by
  rw [mismatched, State.bump_engines, logFault, State.bump_engines, State.setBytes_engines]

theorem State.logFault_seq (s : State) (code item detail : Nat) :
    (s.logFault code item detail).rd Reg.HLT_LOG_SEQ = satInc (s.rd Reg.HLT_LOG_SEQ) := by
  rw [logFault, State.rd_bump_same, rd_setBytes]

theorem State.mismatched_shows (s : State) (e : Fin 8) :
    (s.mismatched e).rd (Reg.SEC_CHECK_FAIL e) = satInc (s.rd (Reg.SEC_CHECK_FAIL e)) ∧
    (s.mismatched e).rd Reg.HLT_LOG_SEQ = satInc (s.rd Reg.HLT_LOG_SEQ) := by
  have hlog : Reg.HLT_LOG_SEQ < 0x2000000 := by decide
  have hne : Reg.SEC_CHECK_FAIL e ≠ Reg.HLT_LOG_SEQ := by
    simp only [Reg.SEC_CHECK_FAIL, Reg.secBase]
    omega
  refine ⟨?_, ?_⟩
  · rw [← s.logFault_rd_ne fcLockstep (0x20000 + e) 0 hne]
    exact State.rd_bump_same _ _
  · exact (State.rd_bump_ne _ hne.symm).trans (s.logFault_seq _ _ _)

theorem State.lockstep_takesOver (hin : s.engineOut e = false) (hb : s.engineOut (buddy e) = false) :
    s.lockstep e = ((s.mismatched e).tookOver e roleSelftest).startTest (0x20000 + e) fcLockstep := by
  have hb' : (s.mismatched e).engineOut (buddy e) = false := by
    rw [engineOut, s.mismatched_role, ← engineOut, hb]
  unfold lockstep
  dsimp only
  rw [if_neg (by omega), if_neg (by rw [hin]; exact Bool.false_ne_true)]
  change ((s.mismatched e).takeover e roleSelftest).startTest (0x20000 + e) fcLockstep = _
  rw [takeover_carried hb']

theorem State.lockstep_spec (hin : s.engineOut e = false) (hb : s.engineOut (buddy e) = false) :
    ∃ u : State, s.lockstep e = u.startTest (0x20000 + e) fcLockstep ∧ u.role e = 3 ∧ u.role (buddy e) = 1 ∧
      (u.engine e).queue = [] ∧ (u.engine (buddy e)).queue = (s.engine (buddy e)).queue ++ (s.engine e).queue ∧
      u.rd (Reg.SEC_CHECK_FAIL e) = satInc (s.rd (Reg.SEC_CHECK_FAIL e)) ∧
      u.rd Reg.HLT_LOG_SEQ = satInc (s.rd Reg.HLT_LOG_SEQ) := by
  obtain ⟨hfail, hlog⟩ := s.mismatched_shows e
  obtain ⟨hrole, hcarry⟩ := (s.mismatched e).tookOver_roles e roleSelftest
  obtain ⟨hempty, hqueue⟩ := (s.mismatched e).tookOver_queues e roleSelftest
  have hsame (k : Nat) : (s.mismatched e).engine k = s.engine k := by
    rw [State.engine, s.mismatched_engines, State.engine]
  rw [hsame, hsame] at hqueue
  exact ⟨_, State.lockstep_takesOver hin hb, hrole, hcarry, hempty, hqueue,
    ((s.mismatched e).tookOver_checkFail e roleSelftest).trans hfail,
    ((s.mismatched e).tookOver_rd_below e roleSelftest (by decide)).trans hlog⟩

theorem lockstepMismatch_completes (h : s.awake) (hin : s.engineOut e = false)
    (hb : s.engineOut (buddy e) = false) :
    Completes (.lockstepMismatch ⟨e, by omega⟩) s fun t =>
      t.role e = 3 ∧ t.role (buddy e) = 1 ∧ (t.engine e).queue = [] ∧
      (t.engine (buddy e)).queue = (s.engine (buddy e)).queue ++ (s.engine e).queue ∧
      t.rd (Reg.SEC_CHECK_FAIL e) = satInc (s.rd (Reg.SEC_CHECK_FAIL e)) ∧
      (0x20000 + e.val, 3) ∈ t.hlt.testing ∧ t.rd Reg.HLT_LOG_SEQ = satInc (s.rd Reg.HLT_LOG_SEQ) := by
  obtain ⟨u, hop, hrole, hcarry, hempty, hqueue, hfail, hlog⟩ := State.lockstep_spec hin hb
  exact completes_framed (State.lockstep · e) (fun s t => { s with
    regs := t.regs, mem := t.mem, sig := t.sig, engines := t.engines, hlt := t.hlt }) h rfl (fun _ => ⟨rfl, rfl⟩) hop
    ⟨hrole, hcarry, hempty, hqueue, hfail, List.mem_append_right _ List.mem_cons_self, hlog⟩

theorem exec_lockstepMismatch_out (h : s.awake) (hout : s.engineOut e = true) :
    exec (.lockstepMismatch ⟨e, by omega⟩) s = .next s := by
  have hop : s.lockstep e = s := by
    unfold State.lockstep
    dsimp only
    rw [if_neg (by omega), if_pos hout]
  change execLockstepMismatch ⟨e, by omega⟩ s = _
  rw [execLockstepMismatch, live_exact s _ h rfl rfl]
  dsimp only
  rw [hop]

theorem State.lockstep_management (s : State) : s.lockstep 8 =
    { s.logFault fcLockstep (0x20000 + 8) 0 with hlt := { s.hlt with meDown := true } } := rfl

theorem lockstepMismatch_management (h : s.awake) :
    Completes (.lockstepMismatch 8) s fun t => t.hlt.meDown = true :=
  completes_framed (State.lockstep · 8) (fun s t => { s with
    regs := t.regs, mem := t.mem, sig := t.sig, engines := t.engines, hlt := t.hlt }) h rfl (fun _ => ⟨rfl, rfl⟩)
    (s.lockstep_management) rfl

/-! ## Commands on a pair -/

theorem State.forceTakeover_spec (hin : s.engineOut e = false) (hb : s.engineOut (buddy e) = false) :
    ∃ u : State, s.forceTakeover e = u ∧ u.role e = 2 ∧ u.role (buddy e) = 1 ∧ (u.engine e).queue = [] ∧
      (u.engine (buddy e)).queue = (s.engine (buddy e)).queue ++ (s.engine e).queue ∧
      { u with regs := s.regs, engines := s.engines } = s := by
  have hop : s.forceTakeover e = s.tookOver e roleRetired := by
    unfold State.forceTakeover
    rw [hin, hb]
    exact State.takeover_carried hb roleRetired
  obtain ⟨hrole, hcarry⟩ := s.tookOver_roles e roleRetired
  obtain ⟨hempty, hqueue⟩ := s.tookOver_queues e roleRetired
  exact ⟨_, hop, hrole, hcarry, hempty, hqueue, s.tookOver_frame e roleRetired⟩

theorem forceTakeover_completes (h : s.takes p (Reg.SEC_CMD e)) (hin : s.engineOut e = false)
    (hb : s.engineOut (buddy e) = false) :
    Completes (.forceTakeover p e) s fun t =>
      t.role e = 2 ∧ t.role (buddy e) = 1 ∧ (t.engine e).queue = [] ∧
      (t.engine (buddy e)).queue = (s.engine (buddy e)).queue ++ (s.engine e).queue ∧
      { t with regs := s.regs, engines := s.engines } = s := by
  obtain ⟨u, hop, hrole, hcarry, hempty, hqueue, hframe⟩ := State.forceTakeover_spec hin hb
  have hmem : u.mem = s.mem := (congrArg State.mem hframe :)
  have hsig : u.sig = s.sig := (congrArg State.sig hframe :)
  refine completes_onWrite (fun s t => { s with
    regs := t.regs, mem := t.mem, sig := t.sig, engines := t.engines }) h rfl (fun _ => ⟨rfl, rfl⟩) hop
    ⟨hrole, hcarry, hempty, hqueue, ?_⟩
  dsimp only
  rw [hmem, hsig]

theorem exec_forceTakeover_out (h : s.takes p (Reg.SEC_CMD e))
    (hout : s.engineOut e = true ∨ s.engineOut (buddy e) = true) : exec (.forceTakeover p e) s = .next s := by
  have hop : s.forceTakeover e = s := if_pos (by rw [Bool.or_eq_true]; exact hout)
  have hop' := (onWrite_takes s (fun t => t.forceTakeover e) h).trans hop
  change execForceTakeover p e s = _
  rw [execForceTakeover, live_exact s _ h.1 (by rw [hop']) (by rw [hop'])]
  simp only [hop']

theorem exec_secHandBack (h : s.takes p (Reg.SEC_CMD e)) {u : State} (hop : s.secHandBack e = u)
    (hframe : { s with regs := u.regs, engines := u.engines } = u) : exec (.secHandBack p e) s = .next u := by
  have hop' := (onWrite_takes s (fun t => t.secHandBack e) h).trans hop
  change execSecHandBack p e s = _
  rw [execSecHandBack, live_exact s _ h.1 rfl rfl]
  simp only [hop', hframe]

/-! ## The load window -/

/-- The load of the window and its peak are shown. -/
def State.loadShown (s : State) (e pct : Nat) : State :=
  (s.setFld (Reg.SEC_LOAD_LAST e) pct).setFld (Reg.SEC_LOAD_PEAK e) (max pct (s.fld (Reg.SEC_LOAD_PEAK e)))

theorem State.loadWindow_eq (s : State) (e pct : Nat) : s.loadWindow e pct =
    if 50 < pct ∧ s.role e = roleOwn then (s.loadShown e pct).setFld (Reg.SEC_STATE_HALF_EXCEEDED e) 1
    else s.loadShown e pct := rfl

theorem State.loadShown_shows (s : State) (e : Nat) (pct : Byte) :
    (s.loadShown e pct.toNat).fld (Reg.SEC_LOAD_LAST e) = pct.toNat ∧
    (s.loadShown e pct.toNat).fld (Reg.SEC_LOAD_PEAK e) = max pct.toNat (s.fld (Reg.SEC_LOAD_PEAK e)) ∧
    OnlyRegs s (s.loadShown e pct.toNat) [Reg.SEC_LOAD e, Reg.SEC_STATE e] := by
  have hpct : pct.toNat < 2 ^ 8 := pct.isLt
  have hpeak : s.fld (Reg.SEC_LOAD_PEAK e) < 2 ^ 8 := bits_lt _ _ _
  have hbits : 8 + 8 ≤ 32 := by decide
  refine ⟨?_, ?_, ?_⟩
  · have happart : (Reg.SEC_LOAD_PEAK e).apart (Reg.SEC_LOAD_LAST e) := by simp [Fld.apart]
    refine (State.fld_setFld_apart _ _ happart).trans ?_
    exact (State.fld_setFld_same _ _ _ (show 0 + 8 ≤ 32 by decide)).trans (Nat.mod_eq_of_lt hpct)
  · exact (State.fld_setFld_same _ _ _ hbits).trans (Nat.mod_eq_of_lt (Nat.max_lt.mpr ⟨hpct, hpeak⟩))
  · exact ((OnlyRegs.refl s _).setFld (Reg.SEC_LOAD_LAST e) _ List.mem_cons_self).setFld (Reg.SEC_LOAD_PEAK e) _
      List.mem_cons_self

theorem State.loadWindow_spec (s : State) (e : Nat) (pct : Byte) : ∃ u : State, s.loadWindow e pct.toNat = u ∧
    u.fld (Reg.SEC_LOAD_LAST e) = pct.toNat ∧ u.fld (Reg.SEC_LOAD_PEAK e) =
      max pct.toNat (s.fld (Reg.SEC_LOAD_PEAK e)) ∧
    (50 < pct.toNat → s.role e = 0 → u.flag (Reg.SEC_STATE_HALF_EXCEEDED e) = true) ∧
    OnlyRegs s u [Reg.SEC_LOAD e, Reg.SEC_STATE e] := by
  obtain ⟨hlast, hpeak, honly⟩ := s.loadShown_shows e pct
  have hne : Reg.SEC_LOAD e ≠ Reg.SEC_STATE e := by
    simp only [Reg.SEC_LOAD, Reg.SEC_STATE]
    omega
  by_cases hhalf : 50 < pct.toNat ∧ s.role e = roleOwn
  · exact ⟨_, (s.loadWindow_eq e pct.toNat).trans (if_pos hhalf), (State.fld_setFld_addr _ _ hne).trans hlast,
      (State.fld_setFld_addr _ _ hne).trans hpeak,
      fun _ _ => State.flag_setFld_one _ (Reg.SEC_STATE_HALF_EXCEEDED e) rfl (show 8 + 1 ≤ 32 by decide),
      honly.setFld (Reg.SEC_STATE_HALF_EXCEEDED e) 1 (List.mem_cons_of_mem _ List.mem_cons_self)⟩
  · exact ⟨_, (s.loadWindow_eq e pct.toNat).trans (if_neg hhalf), hlast, hpeak,
      fun hpct hrole => absurd ⟨hpct, hrole⟩ hhalf, honly⟩

theorem loadWindow_completes {pct : Byte} (h : s.awake) :
    Completes (.loadWindow e pct) s fun t =>
      t.fld (Reg.SEC_LOAD_LAST e) = pct.toNat ∧
      t.fld (Reg.SEC_LOAD_PEAK e) = max pct.toNat (s.fld (Reg.SEC_LOAD_PEAK e)) ∧
      (50 < pct.toNat → s.role e = 0 → t.flag (Reg.SEC_STATE_HALF_EXCEEDED e) = true) ∧
      OnlyRegs s t [Reg.SEC_LOAD e, Reg.SEC_STATE e] := by
  obtain ⟨u, hop, hlast, hpeak, hhalf, honly⟩ := s.loadWindow_spec e pct
  exact ⟨u, by rw [← hop]; exact live_regs (fun s => s.loadWindow e pct.toNat) h (hop ▸ honly), hlast, hpeak, hhalf,
    honly⟩

end

end Sys2Proof.Machine

open Sys2Proof.Machine in
/-- Settles O30: a takeover moves the queue first and changes the roles after it. -/
theorem enginesWorkInPairs : Obligations.EnginesWorkInPairs := by
  intro p e s
  refine ⟨fun h hin hb => ⟨lockstepMismatch_completes h hin hb, fun ht => forceTakeover_completes ht hin hb⟩,
    exec_lockstepMismatch_out, lockstepMismatch_management, fun ht => ⟨fun hrole => ?_, fun hrole => ?_, ?_⟩,
    fun pct h => loadWindow_completes h⟩
  · exact exec_secHandBack ht (if_pos hrole) rfl
  · exact exec_secHandBack ht (if_neg hrole) rfl
  · exact exec_forceTakeover_out ht

end

section
/-!
Mailboxes loaded, read, requested, cancelled and resumed (R236, R241, R244, R261, R503). Each command first counts the
requests of a window that is over (R253), and that is said once.
-/

namespace Sys2Proof.Machine

variable {s : State} {n m : Nat}

/-- A taken command whose parts make up the whole next state. -/
theorem completes_onWrite_whole {c : Instr} {p : PageNo} {a : Nat} {op : State → State} {u : State} {P : State → Prop}
    (frame : State → State → State) (h : s.takes p a)
    (hexec : exec c s = live s fun s => frame s (s.onWrite p a op))
    (hframe : ∀ u, (frame s u).pending = s.pending ∧ (frame s u).dev = s.dev) (hop : op s = u)
    (hwhole : frame s u = u) (hP : P u) : Completes c s P :=
  completes_onWrite frame h hexec hframe hop (by rw [hwhole]; exact hP)

theorem OnlyRegs.trans {s t u : State} {as : List Nat} (h : OnlyRegs s t as) (h' : OnlyRegs t u as) :
    OnlyRegs s u as :=
  ⟨(congrArg (fun x : State => { x with regs := s.regs }) h'.1).trans h.1, fun a ha => (h'.2 a ha).trans (h.2 a ha)⟩

theorem OnlyRegs.mono {s t : State} {as bs : List Nat} (h : OnlyRegs s t as) (hsub : as ⊆ bs) : OnlyRegs s t bs :=
  ⟨h.1, fun a ha => h.2 a fun hmem => ha (hsub hmem)⟩

/-! ## A window that is over -/

theorem State.mtxClose_onlyRegs (s : State) (n : Nat) :
    OnlyRegs { s with can := (s.mtxClose n).can } (s.mtxClose n) [Reg.CFD_WIN_MISS n] := by
  unfold mtxClose
  extract_lets x
  split
  · split
    · exact (OnlyRegs.refl { s with can := _ } _).wr _ List.mem_cons_self
    · exact OnlyRegs.refl s _
  · exact OnlyRegs.refl s _

theorem State.mtxClose_closed (h : (s.canU n).mtx.window = none) : s.mtxClose n = s := by
  unfold mtxClose
  extract_lets x
  split
  · next b w _ hw => exact absurd (hw.symm.trans h) (Option.some_ne_none w)
  · rfl

theorem State.mtxClose_onBus (s : State) (n k : Nat) : ((s.mtxClose n).canU k).onBus = (s.canU k).onBus := by
  unfold mtxClose
  extract_lets x
  split
  · split
    · change ((s.setCan n { s.canU n with mtx := { x with missed := true } }).canU k).onBus = _
      by_cases hk : k = n
      · rw [hk, State.canU_setCan_same]
      · rw [State.canU_setCan_ne _ _ hk]
    · rfl
  · rfl

theorem State.mtxClose_rd_ne (s : State) (n : Nat) {a : Nat} (ha : a ≠ Reg.CFD_WIN_MISS n) :
    (s.mtxClose n).rd a = s.rd a :=
  (s.mtxClose_onlyRegs n).2 a fun h => ha (List.mem_singleton.mp h)

theorem State.mtxClose_mbState (s : State) (n : Nat) (hm : m < 64) : (s.mtxClose n).mbState n m = s.mbState n m := by
  have h := s.mtxClose_rd_ne n (a := Reg.CFD_MB_STAT n m) (by simp only [Reg.CFD_MB_STAT, Reg.CFD_WIN_MISS]; omega)
  rw [mbState, mbState, fld, fld, h]

/-- The content that a LOAD takes. -/
def State.mbBuf (s : State) (n : Nat) : List Word := (List.range 20).map fun j => s.rd (Reg.CFD_MB_BUF n j)

theorem State.mtxClose_mbBuf (s : State) (n : Nat) : (s.mtxClose n).mbBuf n = s.mbBuf n :=
  List.map_congr_left fun j hj => s.mtxClose_rd_ne n (by
    have := List.mem_range.mp hj
    simp only [Reg.CFD_MB_BUF, Reg.CFD_WIN_MISS]
    omega)

/-! ## LOAD and READ -/

theorem State.mbLoaded_spec (s : State) (n m : Nat) :
    (s.mbLoaded n m false).mbState n m =
      (if s.mbState n m = 2 ∨ s.mbState n m = 8 ∨ s.mbState n m = 9 then s.mbState n m else 1) ∧
    OnlyRegs s (s.mbLoaded n m false) [Reg.CFD_MB_STAT n m] ∧
    (s.mbLoaded n m false).flag (Reg.CFD_MB_STAT_LOADED n m) = s.flag (Reg.CFD_MB_STAT_LOADED n m) := by
  unfold mbLoaded
  extract_lets st
  rw [if_neg Bool.false_ne_true]
  split
  · exact ⟨rfl, OnlyRegs.refl s _, rfl⟩
  · have happart : (Reg.CFD_MB_STAT_STATE n m).apart (Reg.CFD_MB_STAT_LOADED n m) := by simp [Fld.apart]
    exact ⟨s.fld_setFld_same (Reg.CFD_MB_STAT_STATE n m) mbIdle (show 0 + 4 ≤ 32 by decide),
      (OnlyRegs.refl s _).setFld (Reg.CFD_MB_STAT_STATE n m) _ List.mem_cons_self, s.flag_setFld_apart _ happart⟩

theorem State.mbPut_spec (s : State) (n m : Nat) (ws : List Word) :
    (s.mbPut n m ws false).mb n m = { words := ws, noAuth := false, held := none } ∧
    (s.mbPut n m ws false).mbState n m = s.mbState n m ∧
    (s.mbPut n m ws false).flag (Reg.CFD_MB_STAT_LOADED n m) = true ∧
    (∀ k, k ≠ m → (s.mbPut n m ws false).mb n k = s.mb n k) ∧
    OnlyRegs { s with mbs := (s.mbPut n m ws false).mbs } (s.mbPut n m ws false) [Reg.CFD_MB_STAT n m] := by
  have happart : (Reg.CFD_MB_STAT_LOADED n m).apart (Reg.CFD_MB_STAT_STATE n m) := by simp [Fld.apart]
  refine ⟨?_, ?_, ?_, fun k hk => ?_, ?_⟩
  · exact s.mb_setMb_same n m _
  · exact (State.fld_setFld_apart _ _ happart).trans rfl
  · exact State.flag_setFld_one _ _ rfl (show 11 + 1 ≤ 32 by decide)
  · exact Tbl.get_set_ne _ _ _ (by omega)
  · exact (OnlyRegs.refl { s with mbs := (s.mbPut n m ws false).mbs } _).setFld (Reg.CFD_MB_STAT_LOADED n m) _
      List.mem_cons_self

theorem State.mbHostPut_spec (s : State) (n m : Nat) (ws : List Word) (h : s.mbState n m ≠ 3) :
    ∃ t : State, s.mbHostPut n m ws false = t ∧ t.mb n m = { words := ws, noAuth := false, held := none } ∧
      t.mbState n m = (if s.mbState n m = 2 ∨ s.mbState n m = 8 ∨ s.mbState n m = 9 then s.mbState n m else 1) ∧
      t.flag (Reg.CFD_MB_STAT_LOADED n m) = true ∧ (∀ k, k ≠ m → t.mb n k = s.mb n k) ∧
      OnlyRegs { s with mbs := t.mbs } t [Reg.CFD_MB_STAT n m] := by
  obtain ⟨hmb, hst, hflag, hother, hput⟩ := s.mbPut_spec n m ws
  obtain ⟨hst', ⟨hframe, hregs⟩, hflag'⟩ := (s.mbPut n m ws false).mbLoaded_spec n m
  have hop : s.mbHostPut n m ws false = (s.mbPut n m ws false).mbLoaded n m false := if_neg h
  have hmbs : ((s.mbPut n m ws false).mbLoaded n m false).mbs = (s.mbPut n m ws false).mbs :=
    (congrArg State.mbs hframe :)
  rw [hst] at hst'
  rw [hflag] at hflag'
  generalize s.mbPut n m ws false = u at *
  refine ⟨_, hop, ?_, hst', hflag', fun k hk => ?_, ?_⟩
  · rw [State.mb, hmbs]
    exact hmb
  · rw [State.mb, hmbs]
    exact hother k hk
  · rw [hmbs]
    exact hput.trans ⟨hframe, hregs⟩

section
variable {p : PageNo} {n : CanNo} {m : MbNo}

theorem State.mbLoad_put (hlen : lenOk (mbFdf (s.mbBuf n)) (mbLen (s.mbBuf n)) = true)
    (hauth : mbAuth (s.mbBuf n) = false) : s.mbLoad n m = (s.mtxClose n).mbHostPut n m (s.mbBuf n) false := by
  have hbuf := s.mtxClose_mbBuf n
  change (if !lenOk (mbFdf ((s.mtxClose n).mbBuf n)) (mbLen ((s.mtxClose n).mbBuf n)) then _ else _) = _
  rw [hbuf, if_neg (by rw [hlen]; exact Bool.false_ne_true)]
  change (if mbAuth ((s.mtxClose n).mbBuf n) then _ else State.mbHostPut _ n m ((s.mtxClose n).mbBuf n) false) = _
  rw [hbuf, if_neg (by rw [hauth]; exact Bool.false_ne_true)]

theorem State.mbLoad_spec (hlen : lenOk (mbFdf (s.mbBuf n)) (mbLen (s.mbBuf n)) = true)
    (hauth : mbAuth (s.mbBuf n) = false) (hactive : s.mbState n m ≠ 3) :
    ∃ t : State, s.mbLoad n m = t ∧ t.mb n m = { words := s.mbBuf n, noAuth := false, held := none } ∧
      t.mbState n m = (if s.mbState n m = 2 ∨ s.mbState n m = 8 ∨ s.mbState n m = 9 then s.mbState n m else 1) ∧
      t.flag (Reg.CFD_MB_STAT_LOADED n m) = true ∧ (∀ k, k ≠ m → t.mb n k = s.mb n k) ∧
      ((s.canU n).mtx.window = none → t.can = s.can ∧ t.rd (Reg.CFD_WIN_MISS n) = s.rd (Reg.CFD_WIN_MISS n)) ∧
      OnlyRegs { s with mbs := t.mbs, can := t.can } t [Reg.CFD_MB_STAT n m, Reg.CFD_WIN_MISS n] := by
  have hst := s.mtxClose_mbState n m.isLt
  have hclose := s.mtxClose_onlyRegs n
  have hclosed (h : (s.canU n).mtx.window = none) : s.mtxClose n = s := State.mtxClose_closed h
  obtain ⟨t, hop, hmb, hst', hflag, hother, honly⟩ :=
    (s.mtxClose n).mbHostPut_spec n m (s.mbBuf n) (by rw [hst]; exact hactive)
  rw [hst] at hst'
  have hmbs : (s.mtxClose n).mbs = s.mbs := (congrArg State.mbs hclose.1 :)
  have hcan : t.can = (s.mtxClose n).can := (congrArg State.can honly.1 :)
  refine ⟨t, (State.mbLoad_put hlen hauth).trans hop, hmb, hst', hflag, fun k hk => ?_, fun hwin => ⟨?_, ?_⟩, ?_⟩
  · rw [hother k (Fin.val_ne_of_ne hk), State.mb, hmbs, State.mb]
  · rw [hcan, hclosed hwin]
  · have hne : Reg.CFD_WIN_MISS n ∉ [Reg.CFD_MB_STAT n m] := fun hmem =>
      absurd (List.mem_singleton.mp hmem) (by simp only [Reg.CFD_MB_STAT, Reg.CFD_WIN_MISS]; omega)
    rw [honly.2 _ hne, hclosed hwin]
    rfl
  · have hlift : OnlyRegs { s with mbs := t.mbs, can := t.can } { s.mtxClose n with mbs := t.mbs }
        [Reg.CFD_WIN_MISS n] := by
      rw [hcan]
      exact ⟨congrArg (fun x : State => { x with mbs := t.mbs }) hclose.1, hclose.2⟩
    exact (hlift.mono (List.subset_cons_self _ _)).trans
      (honly.mono (List.cons_subset_cons _ (List.nil_subset _)))

theorem mbLoad_completes (h : s.takes p (Reg.CFD_MB_CMD n))
    (hlen : lenOk (mbFdf (s.mbBuf n)) (mbLen (s.mbBuf n)) = true) (hauth : mbAuth (s.mbBuf n) = false)
    (hactive : s.mbState n m ≠ 3) :
    Completes (.mbLoad p n m) s fun t =>
      t.mb n m = { words := s.mbBuf n, noAuth := false, held := none } ∧
      t.mbState n m = (if s.mbState n m = 2 ∨ s.mbState n m = 8 ∨ s.mbState n m = 9 then s.mbState n m else 1) ∧
      t.flag (Reg.CFD_MB_STAT_LOADED n m) = true ∧ (∀ k, k ≠ m → t.mb n k = s.mb n k) ∧
      ((s.canU n).mtx.window = none → t.can = s.can ∧ t.rd (Reg.CFD_WIN_MISS n) = s.rd (Reg.CFD_WIN_MISS n)) ∧
      OnlyRegs { s with mbs := t.mbs, can := t.can } t [Reg.CFD_MB_STAT n m, Reg.CFD_WIN_MISS n] := by
  obtain ⟨t, hop, hmb, hst, hflag, hother, hcan, honly⟩ := State.mbLoad_spec hlen hauth hactive
  refine completes_onWrite_whole (fun s t => { s with
    regs := t.regs, eqs := t.eqs, out := t.out, mbs := t.mbs, pols := t.pols, can := t.can }) h rfl
    (fun _ => ⟨rfl, rfl⟩) hop ?_ ⟨hmb, hst, hflag, hother, hcan, honly⟩
  exact (congrArg (fun x : State => { x with
    regs := t.regs, eqs := t.eqs, out := t.out, pols := t.pols }) honly.1).symm

theorem State.mbLoad_bad (hlen : lenOk (mbFdf (s.mbBuf n)) (mbLen (s.mbBuf n)) = false) :
    s.mbLoad n m = (s.mtxClose n).setFld (Reg.CFD_FLAGS_MB_BAD n) 1 := by
  have hbuf := s.mtxClose_mbBuf n
  change (if !lenOk (mbFdf ((s.mtxClose n).mbBuf n)) (mbLen ((s.mtxClose n).mbBuf n)) then _ else _) = _
  rw [hbuf, if_pos (by rw [hlen]; rfl)]

theorem mbLoad_bad_completes (h : s.takes p (Reg.CFD_MB_CMD n))
    (hlen : lenOk (mbFdf (s.mbBuf n)) (mbLen (s.mbBuf n)) = false) :
    Completes (.mbLoad p n m) s fun t =>
      t.flag (Reg.CFD_FLAGS_MB_BAD n) = true ∧ ((s.canU n).mtx.window = none → t.can = s.can) ∧
      OnlyRegs { s with can := t.can } t [Reg.CFD_FLAGS n, Reg.CFD_WIN_MISS n] := by
  have hop := State.mbLoad_bad (m := m) hlen
  have hclose := (s.mtxClose_onlyRegs n).mono (bs := [Reg.CFD_FLAGS n, Reg.CFD_WIN_MISS n]) (List.subset_cons_self _ _)
  have hclosed (hwin : (s.canU n).mtx.window = none) : (s.mtxClose n).can = s.can := by
    rw [State.mtxClose_closed hwin]
  generalize s.mtxClose n = u at *
  have hflag := u.flag_setFld_one (Reg.CFD_FLAGS_MB_BAD n) rfl (show 9 + 1 ≤ 32 by decide)
  have honly : OnlyRegs { s with can := u.can } (u.setFld (Reg.CFD_FLAGS_MB_BAD n) 1)
    [Reg.CFD_FLAGS n, Reg.CFD_WIN_MISS n] := hclose.setFld (Reg.CFD_FLAGS_MB_BAD n) 1 List.mem_cons_self
  have hcan : (u.setFld (Reg.CFD_FLAGS_MB_BAD n) 1).can = u.can := rfl
  generalize u.setFld (Reg.CFD_FLAGS_MB_BAD n) 1 = t at *
  rw [← hcan] at honly
  refine completes_onWrite_whole (fun s t => { s with
    regs := t.regs, eqs := t.eqs, out := t.out, mbs := t.mbs, pols := t.pols, can := t.can }) h rfl
    (fun _ => ⟨rfl, rfl⟩) hop ?_ ⟨hflag, fun hwin => hcan.trans (hclosed hwin), honly⟩
  exact (congrArg (fun x : State => { x with
    regs := t.regs, eqs := t.eqs, out := t.out, mbs := t.mbs, pols := t.pols }) honly.1).symm

/-- The words `f` are written to the words of CFD_MB_BUF in `l`. -/
def State.bufFilled (s : State) (n : Nat) (f : Nat → Word) (l : List Nat) : State :=
  l.foldl (fun t j => t.wr (Reg.CFD_MB_BUF n j) (f j)) s

theorem State.bufFilled_onlyRegs (n : Nat) (f : Nat → Word) {t : State} {as : List Nat} {l : List Nat}
    (h : OnlyRegs s t as) (hl : ∀ j ∈ l, Reg.CFD_MB_BUF n j ∈ as) : OnlyRegs s (t.bufFilled n f l) as := by
  induction l generalizing t with
  | nil => exact h
  | cons j l ih => exact ih (h.wr _ (hl j List.mem_cons_self)) fun i hi => hl i (List.mem_cons_of_mem _ hi)

theorem State.bufFilled_out (s : State) (n : Nat) (f : Nat → Word) {j : Nat} {l : List Nat} (hj : j ∉ l) :
    (s.bufFilled n f l).rd (Reg.CFD_MB_BUF n j) = s.rd (Reg.CFD_MB_BUF n j) := by
  induction l generalizing s with
  | nil => rfl
  | cons i l ih =>
    have hji : j ≠ i := List.ne_of_not_mem_cons hj
    have hjl : j ∉ l := List.not_mem_of_not_mem_cons hj
    exact (ih (s.wr (Reg.CFD_MB_BUF n i) (f i)) hjl).trans (s.rd_wr_ne _ (by simp only [Reg.CFD_MB_BUF]; omega))

theorem State.bufFilled_in (s : State) (n : Nat) (f : Nat → Word) {j : Nat} {l : List Nat} (hj : j ∈ l) :
    (s.bufFilled n f l).rd (Reg.CFD_MB_BUF n j) = f j := by
  induction l generalizing s with
  | nil => exact absurd hj List.not_mem_nil
  | cons i l ih =>
    by_cases hjl : j ∈ l
    · exact ih (s.wr (Reg.CFD_MB_BUF n i) (f i)) hjl
    · obtain rfl := (List.mem_cons.mp hj).resolve_right hjl
      exact ((s.wr (Reg.CFD_MB_BUF n j) (f j)).bufFilled_out n f hjl).trans (s.rd_wr_same _ _)

theorem mbRead_completes (h : s.takes p (Reg.CFD_MB_CMD n)) :
    Completes (.mbRead p n m) s fun t =>
      (∀ j < 20, t.rd (Reg.CFD_MB_BUF n j) = (s.mb n m).words.getD j 0) ∧
      OnlyRegs s t ((List.range 20).map fun j => Reg.CFD_MB_BUF n j) := by
  have hop : s.mbRead n m = s.bufFilled n (fun j => (s.mb n m).words.getD j 0) (List.range 20) := rfl
  have honly := State.bufFilled_onlyRegs n (fun j => (s.mb n m).words.getD j 0) (OnlyRegs.refl s _)
    (l := List.range 20) (fun j hj => List.mem_map_of_mem (f := fun j => Reg.CFD_MB_BUF n j) hj)
  exact ⟨_, live_onWrite_regs (State.mbRead · n m) h (hop ▸ honly),
    fun j hj => s.bufFilled_in n _ (List.mem_range.mpr hj), honly⟩

end

end Sys2Proof.Machine

open Sys2Proof.Machine in
/-- Settles O31: a LOAD puts the content first and sets the state after it. -/
theorem mailboxesAreLoadedAndRead : Obligations.MailboxesAreLoadedAndRead :=
  fun _ _ _ _ h => ⟨⟨fun hlen hauth hactive => mbLoad_completes h hlen hauth hactive,
    fun hlen => mbLoad_bad_completes h hlen⟩, mbRead_completes h⟩

end

section
/-!
Masks of mailboxes (R241, R244, R503): a command acts on each named mailbox in turn, by that mailbox's own state.
-/

namespace Sys2Proof.Machine

variable {s : State} {n : CanNo} {m : MbNo}

/-- What a command does to one mailbox: its state becomes `F`, of whether it may be sent and of its state. -/
structure MbStep (F : Bool → Nat → Nat) (s t : State) (n : CanNo) (m : MbNo) : Prop where
  frame : { t with regs := s.regs, eqs := s.eqs, out := s.out, can := s.can } = s
  mode : t.rd (Reg.CFD_MODE n) = s.rd (Reg.CFD_MODE n)
  others : ∀ k : MbNo, k ≠ m → t.mbState n k = s.mbState n k
  state : t.mbState n m = F (s.mbSendable n m) (s.mbState n m)

/-- What a command does to the mailboxes of a list. -/
structure MbSteps (F : Bool → Nat → Nat) (s t : State) (n : CanNo) (l : List Nat) : Prop where
  frame : { t with regs := s.regs, eqs := s.eqs, out := s.out, can := s.can } = s
  mode : t.rd (Reg.CFD_MODE n) = s.rd (Reg.CFD_MODE n)
  states : ∀ m : MbNo, t.mbState n m = if m.val ∈ l then F (s.mbSendable n m) (s.mbState n m) else s.mbState n m

theorem State.mbSendable_congr {t : State} (hframe :
    { t with regs := s.regs, eqs := s.eqs, out := s.out, can := s.can } = s)
    (hmode : t.rd (Reg.CFD_MODE n) = s.rd (Reg.CFD_MODE n)) (m : Nat) : t.mbSendable n m = s.mbSendable n m := by
  have hmbs : t.mbs = s.mbs := (congrArg State.mbs hframe :)
  rw [State.mbSendable, State.mb, hmbs, State.fdEn, State.flag, State.fld, hmode]
  rfl

theorem MbSteps.cons {F : Bool → Nat → Nat} {t u : State} {l : List Nat} (h : MbStep F s t n m)
    (h' : MbSteps F t u n l) (hm : m.val ∉ l) : MbSteps F s u n (m :: l) where
  frame :=
    (congrArg (fun x : State => { x with regs := s.regs, eqs := s.eqs, out := s.out, can := s.can }) h'.frame).trans
    h.frame
  mode := h'.mode.trans h.mode
  states k := by
    rw [h'.states k, State.mbSendable_congr h.frame h.mode]
    by_cases hk : k = m
    · rw [hk, if_neg hm, if_pos List.mem_cons_self, h.state]
    · have hne : k.val ≠ m.val := Fin.val_ne_of_ne hk
      rw [h.others k hk]
      simp only [List.mem_cons, hne, false_or]

/-- A command on a mask acts on each of its mailboxes once. -/
theorem MbSteps.foldl {F : Bool → Nat → Nat} {op : State → Nat → Nat → State}
    (hop : ∀ (t : State) (m : MbNo), MbStep F t (op t n m) n m) {l : List Nat} (hl : ∀ m ∈ l, m < 64) (hnd : l.Nodup)
    (s : State) : MbSteps F s (l.foldl (fun t m => op t n m) s) n l := by
  induction l generalizing s with
  | nil => exact ⟨rfl, rfl, fun m => (if_neg List.not_mem_nil).symm⟩
  | cons m l ih =>
    obtain ⟨hm, hnd'⟩ := List.nodup_cons.mp hnd
    exact MbSteps.cons (m := ⟨m, hl m List.mem_cons_self⟩) (hop s _)
      (ih (fun k hk => hl k (List.mem_cons_of_mem _ hk)) hnd' _) hm

theorem mem_maskMbs (mask : Nat) (m : MbNo) : m.val ∈ maskMbs mask ↔ bitOf mask m = true := by
  rw [maskMbs, List.mem_filter, List.mem_range]
  exact ⟨fun h => h.2, fun h => ⟨m.isLt, h⟩⟩

theorem MbSteps.forMbs {F : Bool → Nat → Nat} {op : State → Nat → Nat → State}
    (hop : ∀ (t : State) (m : MbNo), MbStep F t (op t n m) n m) (s : State) (mask : Nat) :
    MbSteps F s (s.forMbs n mask op) n (maskMbs mask) := by
  have hclose := s.mtxClose_onlyRegs n
  have hmode := s.mtxClose_rd_ne n (a := Reg.CFD_MODE n) (by simp only [Reg.CFD_MODE, Reg.CFD_WIN_MISS]; omega)
  have hframe : { s.mtxClose n with regs := s.regs, eqs := s.eqs, out := s.out, can := s.can } = s :=
    (congrArg (fun x : State => { x with eqs := s.eqs, out := s.out, can := s.can }) hclose.1).trans rfl
  have h := MbSteps.foldl hop (l := maskMbs mask) (fun k hk => List.mem_range.mp (List.mem_filter.mp hk).1)
    (List.nodup_range.filter _) (s.mtxClose n)
  refine ⟨(congrArg (fun x :
    State => { x with regs := s.regs, eqs := s.eqs, out := s.out, can := s.can }) h.frame).trans
    hframe, h.mode.trans hmode, fun m => ?_⟩
  rw [State.forMbs, h.states m, State.mbSendable_congr hframe hmode, s.mtxClose_mbState n m.isLt]

/-! ## One mailbox -/

theorem mbStat_lt (n : CanNo) (m : MbNo) : Reg.CFD_MB_STAT n m < 0x3000000 := by
  simp only [Reg.CFD_MB_STAT, Reg.canBase, Reg.unitBase, Reg.canUnit]
  omega

theorem MbStep.same {F : Bool → Nat → Nat} (h : F (s.mbSendable n m) (s.mbState n m) = s.mbState n m) :
    MbStep F s s n m := ⟨rfl, rfl, fun _ _ => rfl, h.symm⟩

theorem MbStep.mbSet {F : Bool → Nat → Nat} {st : Nat} (hst : st < 16)
    (h : F (s.mbSendable n m) (s.mbState n m) = st) : MbStep F s (s.mbSet n m st) n m where
  frame := rfl
  mode := s.rd_setFld_ne (f := Reg.CFD_MB_STAT_STATE n m) _ (by simp only [Reg.CFD_MODE, Reg.CFD_MB_STAT]; omega)
  others k hk := by
    have hne : k.val ≠ m.val := Fin.val_ne_of_ne hk
    exact s.fld_setFld_addr (f := Reg.CFD_MB_STAT_STATE n m) (g := Reg.CFD_MB_STAT_STATE n k) _
      (by simp only [Reg.CFD_MB_STAT]; omega)
  state := by
    rw [h]
    exact (s.fld_setFld_same _ _ (show 0 + 4 ≤ 32 by decide)).trans (Nat.mod_eq_of_lt hst)

theorem MbStep.postEvent {F : Bool → Nat → Nat} {t : State} (h : MbStep F s t n m) (code src : Nat) (data : Word) :
    MbStep F s (t.postEvent code src data) n m where
  frame := h.frame
  mode := (t.postEvent_rd code src data (by
    simp only [Reg.CFD_MODE, Reg.canBase, Reg.unitBase, Reg.canUnit]
    omega)).trans h.mode
  others k hk := (t.postEvent_fld code src data (f := Reg.CFD_MB_STAT_STATE n k) (mbStat_lt n k)).trans (h.others k hk)
  state := (t.postEvent_fld code src data (f := Reg.CFD_MB_STAT_STATE n m) (mbStat_lt n m)).trans h.state

theorem MbStep.mbFail {F : Bool → Nat → Nat} {st : Nat} (hst : st < 16)
    (h : F (s.mbSendable n m) (s.mbState n m) = st) : MbStep F s (s.mbFail n m st) n m :=
  (MbStep.mbSet hst h).postEvent _ _ _

theorem MbStep.mbPend {F : Bool → Nat → Nat}
    (h : F (s.mbSendable n m) (s.mbState n m) = if s.mbSendable n m then 2 else 7) :
    MbStep F s (s.mbPend n m) n m := by
  unfold State.mbPend
  split
  · next hsend =>
    rw [if_pos hsend] at h
    exact MbStep.mbSet (by decide) h
  · next hsend =>
    rw [if_neg hsend] at h
    exact MbStep.mbFail (by decide) h

/-- The state that a request, a cancel and a resume give to a mailbox (R241, R244, R503). -/
def mbRequested (send : Bool) (st : Nat) : Nat :=
  if st ≠ 0 ∧ st ≠ 2 ∧ st ≠ 3 ∧ st ≠ 8 then (if send then 2 else 7) else st
def mbCancelledTo (_ : Bool) (st : Nat) : Nat := if st ≠ 0 ∧ st ≠ 1 ∧ st ≠ 3 ∧ st ≠ 4 then 5 else st
def mbResumed (send : Bool) (st : Nat) : Nat := if st = 8 then (if send then 2 else 7) else st

theorem MbStep.mbRequest (s : State) (n : CanNo) (m : MbNo) : MbStep mbRequested s (s.mbRequest n m) n m := by
  unfold State.mbRequest
  extract_lets st
  split
  · next h =>
    have hst : ¬(st ≠ 0 ∧ st ≠ 2 ∧ st ≠ 3 ∧ st ≠ 8) := by
      simp only [mbEmpty, mbSuspended, mbPending, mbActive] at h
      omega
    exact MbStep.same (if_neg hst)
  · next h =>
    have hst : st ≠ 0 ∧ st ≠ 2 ∧ st ≠ 3 ∧ st ≠ 8 := by
      simp only [mbEmpty, mbSuspended, mbPending, mbActive] at h
      omega
    exact MbStep.mbPend (if_pos hst)

theorem MbStep.setCan {F : Bool → Nat → Nat} {x : CanUnit} {k : Nat}
    (h : F (s.mbSendable n m) (s.mbState n m) = s.mbState n m) : MbStep F s (s.setCan k x) n m :=
  ⟨rfl, rfl, fun _ _ => rfl, h.symm⟩

theorem MbStep.mbCancel (s : State) (n : CanNo) (m : MbNo) : MbStep mbCancelledTo s (s.mbCancel n m) n m := by
  unfold State.mbCancel
  extract_lets st
  split
  · next h =>
    refine MbStep.same (?_ : mbCancelledTo _ st = st)
    unfold mbCancelledTo
    simp only [mbEmpty, mbIdle, mbDone, mbCancelled] at h
    split <;> omega
  · next h =>
    simp only [mbEmpty, mbIdle, mbDone, mbCancelled] at h
    split
    · next hactive =>
      have hst : mbCancelledTo (s.mbSendable n m) st = st := if_neg fun ⟨_, _, h3, _⟩ => h3 hactive
      split
      · split
        · exact MbStep.setCan hst
        · exact MbStep.same hst
      · exact MbStep.same hst
    · next hactive =>
      refine MbStep.mbFail (by decide) (if_pos (c := st ≠ 0 ∧ st ≠ 1 ∧ st ≠ 3 ∧ st ≠ 4) ?_)
      simp only [mbActive] at hactive
      omega

theorem State.clashRun_mode (s : State) (n : CanNo) (m : MbNo) :
    (s.setFld (Reg.CFD_MB_STAT_CLASH_RUN n m) 0).rd (Reg.CFD_MODE n) = s.rd (Reg.CFD_MODE n) :=
  s.rd_setFld_ne (f := Reg.CFD_MB_STAT_CLASH_RUN n m) _ (by simp only [Reg.CFD_MODE, Reg.CFD_MB_STAT]; omega)

/-- CLASH_RUN is no part of a mailbox's state. -/
theorem MbStep.clashRun {F : Bool → Nat → Nat} {t : State}
    (h : MbStep F (s.setFld (Reg.CFD_MB_STAT_CLASH_RUN n m) 0) t n m) : MbStep F s t n m where
  frame := congrArg (fun x : State => { x with regs := s.regs }) h.frame
  mode := h.mode.trans (s.clashRun_mode n m)
  others k hk := by
    have hne : k.val ≠ m.val := Fin.val_ne_of_ne hk
    exact (h.others k hk).trans (s.fld_setFld_addr (f := Reg.CFD_MB_STAT_CLASH_RUN n m)
      (g := Reg.CFD_MB_STAT_STATE n k) _ (by simp only [Reg.CFD_MB_STAT]; omega))
  state := by
    have happart : (Reg.CFD_MB_STAT_CLASH_RUN n m).apart (Reg.CFD_MB_STAT_STATE n m) := by simp [Fld.apart]
    have hst : (s.setFld (Reg.CFD_MB_STAT_CLASH_RUN n m) 0).mbState n m = s.mbState n m :=
      s.fld_setFld_apart _ happart
    rw [h.state, hst, State.mbSendable_congr (t := s.setFld _ 0) rfl (s.clashRun_mode n m)]

theorem MbStep.mbResume (s : State) (n : CanNo) (m : MbNo) : MbStep mbResumed s (s.mbResume n m) n m := by
  unfold State.mbResume
  split
  · next h =>
    have happart : (Reg.CFD_MB_STAT_CLASH_RUN n m).apart (Reg.CFD_MB_STAT_STATE n m) := by simp [Fld.apart]
    have hst : (s.setFld (Reg.CFD_MB_STAT_CLASH_RUN n m) 0).mbState n m = 8 :=
      (s.fld_setFld_apart _ happart).trans h
    exact (MbStep.mbPend (if_pos hst)).clashRun
  · next h => exact MbStep.same (if_neg h)

/-! ## The unit beside its mailboxes -/

theorem State.mbPend_can (s : State) (n m : Nat) : (s.mbPend n m).can = s.can := by
  unfold State.mbPend
  split
  · rfl
  · rfl

theorem State.mbRequest_can (s : State) (n m : Nat) : (s.mbRequest n m).can = s.can := by
  unfold State.mbRequest
  extract_lets st
  split
  · rfl
  · exact s.mbPend_can n m

theorem State.mbResume_can (s : State) (n m : Nat) : (s.mbResume n m).can = s.can := by
  unfold State.mbResume
  split
  · exact State.mbPend_can _ n m
  · rfl

theorem State.forMbs_can {op : State → Nat → Nat → State} (hop : ∀ t n m, (op t n m).can = t.can)
    (hwin : (s.canU n).mtx.window = none) (mask : Nat) : (s.forMbs n mask op).can = s.can := by
  rw [State.forMbs, State.mtxClose_closed hwin]
  exact foldl_keeps State.can (fun t m => hop t n m) _ s

/-- A cancel of another mailbox leaves the frame on the bus as it is. -/
theorem State.mbCancel_onBus_other {o : OnBus} {k : Nat} (hbus : (s.canU n).onBus = some o) (hk : o.mb ≠ some k) :
    ((s.mbCancel n k).canU n).onBus = some o := by
  unfold State.mbCancel
  extract_lets st
  split
  · exact hbus
  · split
    · rw [hbus]
      dsimp only
      rw [if_neg hk]
      exact hbus
    · exact hbus

theorem State.mbCancel_onBus_same {o : OnBus} (hbus : (s.canU n).onBus = some o) (hmb : o.mb = some m.val)
    (hst : s.mbState n m = 3) : ((s.mbCancel n m).canU n).onBus = some { o with cancel := true } := by
  unfold State.mbCancel
  extract_lets st
  rw [if_neg (by simp only [st, hst]; decide), if_pos hst, hbus]
  dsimp only
  rw [if_pos hmb, State.canU_setCan_same]

theorem State.mbCancels_onBus {o : OnBus} {l : List Nat} (hl : ∀ k ∈ l, k < 64) (hnd : l.Nodup)
    (hbus : (s.canU n).onBus = some o) (hmb : o.mb = some m.val) (hst : s.mbState n m = 3) :
    ((l.foldl (fun t k => t.mbCancel n k) s).canU n).onBus =
      some (if m.val ∈ l then { o with cancel := true } else o) := by
  induction l generalizing s o with
  | nil => exact hbus
  | cons k l ih =>
    obtain ⟨hk, hnd'⟩ := List.nodup_cons.mp hnd
    have hl' : ∀ j ∈ l, j < 64 := fun j hj => hl j (List.mem_cons_of_mem _ hj)
    have hstep := MbStep.mbCancel s n ⟨k, hl k List.mem_cons_self⟩
    by_cases hkm : m.val = k
    · subst hkm
      have hbus' := State.mbCancel_onBus_same hbus hmb hst
      have hst' : (s.mbCancel n m).mbState n m = 3 := hstep.state.trans (by rw [hst]; rfl)
      exact (ih hl' hnd' hbus' hmb hst').trans (by simp [hk])
    · have hbus' := State.mbCancel_onBus_other (k := k) hbus (by rw [hmb]; exact fun h => hkm (Option.some.inj h))
      have hst' : (s.mbCancel n k).mbState n m = 3 := (hstep.others m fun h => hkm (congrArg Fin.val h)).trans hst
      exact (ih hl' hnd' hbus' hmb hst').trans (by simp [hkm])

theorem State.forMbs_cancel {o : OnBus} {mask : Nat} (hbus : (s.canU n).onBus = some o) (hmb : o.mb = some m.val)
    (hst : s.mbState n m = 3) (hbit : bitOf mask m = true) :
    ((s.forMbs n mask State.mbCancel).canU n).onBus = some { o with cancel := true } := by
  have h := State.mbCancels_onBus (s := s.mtxClose n) (l := maskMbs mask)
    (fun k hk => List.mem_range.mp (List.mem_filter.mp hk).1) (List.nodup_range.filter _)
    ((s.mtxClose_onBus n n).trans hbus) hmb ((s.mtxClose_mbState n m.isLt).trans hst)
  rwa [if_pos ((mem_maskMbs mask m).mpr hbit)] at h

/-! ## The commands -/

/-- What the three commands take over. -/
def State.maskFrame (s t : State) : State := { s with regs := t.regs, eqs := t.eqs, out := t.out, can := t.can }

theorem MbSteps.masked {F : Bool → Nat → Nat} {t : State} {mask : Nat} (h : MbSteps F s t n (maskMbs mask))
    (m : MbNo) : t.mbState n m = if bitOf mask m then F (s.mbSendable n m) (s.mbState n m) else s.mbState n m :=
  (h.states m).trans (if_congr (mem_maskMbs mask m) rfl rfl)

theorem State.maskFrame_eq {t : State} (h : { t with regs := s.regs, eqs := s.eqs, out := s.out, can := s.can } = s) :
    s.maskFrame t = t :=
  (congrArg (fun x : State => { x with regs := t.regs, eqs := t.eqs, out := t.out, can := t.can }) h).symm

end Sys2Proof.Machine

open Sys2Proof.Machine in
/-- Settles O32: each mailbox of the mask is acted on once, and no other is. -/
theorem mailboxMasks : Obligations.MailboxMasks := by
  intro p n mask s
  refine ⟨fun h => ?_, fun h => ?_, fun h => ?_⟩
  · have hsteps := MbSteps.forMbs (fun t m => MbStep.mbRequest t n m) s mask.toNat
    exact completes_onWrite_whole (op := fun t => t.forMbs n mask.toNat State.mbRequest) State.maskFrame h rfl
      (fun _ => ⟨rfl, rfl⟩) rfl (State.maskFrame_eq hsteps.frame)
      ⟨hsteps.frame, fun hwin => State.forMbs_can State.mbRequest_can hwin _,
        fun m => (hsteps.masked m).trans (ite_and ..).symm⟩
  · have hsteps := MbSteps.forMbs (fun t m => MbStep.mbCancel t n m) s mask.toNat
    exact completes_onWrite_whole (op := fun t => t.forMbs n mask.toNat State.mbCancel) State.maskFrame h rfl
      (fun _ => ⟨rfl, rfl⟩) rfl (State.maskFrame_eq hsteps.frame)
      ⟨hsteps.frame, fun m => (hsteps.masked m).trans (ite_and ..).symm,
        fun o m hbus hmb hst hbit => State.forMbs_cancel hbus hmb hst hbit⟩
  · have hsteps := MbSteps.forMbs (fun t m => MbStep.mbResume t n m) s mask.toNat
    exact completes_onWrite_whole (op := fun t => t.forMbs n mask.toNat State.mbResume) State.maskFrame h rfl
      (fun _ => ⟨rfl, rfl⟩) rfl (State.maskFrame_eq hsteps.frame)
      ⟨hsteps.frame, fun hwin => State.forMbs_can State.mbResume_can hwin _,
        fun m => (hsteps.masked m).trans (ite_and ..).symm⟩

end

section
/-!
The start of a CAN frame (R237): the unit offers the item of the lowest rank among its PENDING mailboxes and the head of
its gateway queue.
-/

namespace Sys2Proof.Machine

variable {s : State} {n : CanNo}

/-! ## The choice -/

/-- One step of the choice among mailboxes: a lower rank is taken, an equal one is not. -/
def lesser (rank : Nat → Nat) (best : Option Nat) (m : Nat) : Option Nat :=
  match best with
  | none => some m
  | some b => if rank m < rank b then some m else some b

theorem lesser_foldl (rank : Nat → Nat) (l : List Nat) (b : Nat) :
    ∃ c, l.foldl (lesser rank) (some b) = some c ∧ (c = b ∨ c ∈ l) ∧ rank c ≤ rank b ∧ ∀ m ∈ l, rank c ≤ rank m := by
  induction l generalizing b with
  | nil => exact ⟨b, rfl, .inl rfl, Nat.le_refl _, fun _ h => absurd h List.not_mem_nil⟩
  | cons k l ih =>
    have hstep (d : Nat) (hd : lesser rank (some b) k = some d) (hdk : rank d ≤ rank k) (hdb : rank d ≤ rank b)
        (hmem : d = b ∨ d = k) : ∃ c, (k :: l).foldl (lesser rank) (some b) = some c ∧ (c = b ∨ c ∈ k :: l) ∧
          rank c ≤ rank b ∧ ∀ m ∈ k :: l, rank c ≤ rank m := by
      obtain ⟨c, hc, hcm, hcd, hcl⟩ := ih d
      refine ⟨c, by rw [List.foldl_cons, hd, hc], ?_, hcd.trans hdb, fun m hm => ?_⟩
      · rcases hcm with hcd' | hcm
        · rw [hcd']
          rcases hmem with hdb' | hdk'
          · exact .inl hdb'
          · exact .inr (hdk' ▸ List.mem_cons_self)
        · exact .inr (List.mem_cons_of_mem _ hcm)
      · rcases List.mem_cons.mp hm with rfl | hm
        · exact hcd.trans hdk
        · exact hcl m hm
    by_cases hlt : rank k < rank b
    · exact hstep k (if_pos hlt) (Nat.le_refl _) hlt.le (.inr rfl)
    · exact hstep b (if_neg hlt) (Nat.not_lt.mp hlt) (Nat.le_refl _) (.inl rfl)

/-- The rank of a mailbox's content. -/
def State.mbRank (s : State) (n m : Nat) : Nat := identRank (s.mb n m).words

theorem State.mbMaySend_free (hruns : s.mtxRuns n = false) (m : Nat) : s.mbMaySend n m = (s.mbState n m == 2) := by
  unfold mbMaySend
  extract_lets st
  rw [if_neg (by rw [hruns]; exact Bool.false_ne_true)]

theorem State.bestMb_free (hruns : s.mtxRuns n = false) (hany : ∃ m : MbNo, s.mbState n m = 2) :
    ∃ m : MbNo, s.bestMb n = some m.val ∧ s.mbState n m = 2 ∧
      ∀ k : MbNo, s.mbState n k = 2 → s.mbRank n m ≤ s.mbRank n k := by
  have hmem (k : Nat) : k ∈ (List.range 64).filter (s.mbMaySend n) ↔ k < 64 ∧ s.mbState n k = 2 := by
    rw [List.mem_filter, List.mem_range, State.mbMaySend_free hruns, beq_iff_eq]
  have hbest : s.bestMb n = ((List.range 64).filter (s.mbMaySend n)).foldl (lesser (s.mbRank n)) none := rfl
  obtain ⟨m, hm⟩ := hany
  generalize (List.range 64).filter (s.mbMaySend n) = l at hmem hbest
  cases l with
  | nil => exact absurd ((hmem m).mpr ⟨m.isLt, hm⟩) List.not_mem_nil
  | cons b l =>
    obtain ⟨c, hc, hcm, hcb, hcl⟩ := lesser_foldl (s.mbRank n) l b
    have hin : c ∈ b :: l := by
      rcases hcm with rfl | hcm
      · exact List.mem_cons_self
      · exact List.mem_cons_of_mem _ hcm
    obtain ⟨hc64, hc2⟩ := (hmem c).mp hin
    refine ⟨⟨c, hc64⟩, hbest.trans hc, hc2, fun k hk => ?_⟩
    rcases List.mem_cons.mp ((hmem k).mpr ⟨k.isLt, hk⟩) with hkb | hkl
    · rw [hkb]
      exact hcb
    · exact hcl k hkl

/-- What a unit offers to the bus: content, and the mailbox it stands in, or none for the gateway queue. -/
structure Offered (s : State) (n : CanNo) (mb : Option Nat) (ws : List Word) : Prop where
  inMb : ∀ m, mb = some m → m < 64 ∧ ws = (s.mb n m).words
  leastMb : ∀ m : MbNo, s.mbState n m = 2 → identRank ws ≤ identRank (s.mb n m).words
  leastHead : ∀ h, (s.canU n).gwq.head? = some h → identRank ws ≤ identRank h

theorem State.bestItem_free (hruns : s.mtxRuns n = false) (hany : ∃ m : MbNo, s.mbState n m = 2) :
    ∃ mb ws, s.bestItem n = some (mb, ws) ∧ Offered s n mb ws := by
  obtain ⟨m, hbest, -, hleast⟩ := State.bestMb_free hruns hany
  have hgwq : s.gwqMaySend n = true := if_neg (by rw [hruns]; exact Bool.false_ne_true)
  have hitem : s.bestItem n = match (s.canU n).gwq.head? with
      | some h => if identRank h < s.mbRank n m then some (none, h) else some (some m.val, (s.mb n m).words)
      | none => some (some m.val, (s.mb n m).words) := by
    unfold bestItem
    extract_lets head
    have hhead : head = (s.canU n).gwq.head? := if_pos hgwq
    rw [hbest, hhead]
    cases (s.canU n).gwq.head? <;> rfl
  cases hhead : (s.canU n).gwq.head? with
  | none =>
    rw [hhead] at hitem
    exact ⟨_, _, hitem, fun k hk => ⟨Option.some.inj hk ▸ m.isLt, Option.some.inj hk ▸ rfl⟩, hleast,
      fun h hh => absurd (hhead.symm.trans hh) (Option.some_ne_none h).symm⟩
  | some h =>
    rw [hhead] at hitem
    by_cases hlt : identRank h < s.mbRank n m
    · refine ⟨_, _, hitem.trans (if_pos hlt), fun k hk => absurd hk (Option.some_ne_none k).symm,
        fun k hk => hlt.le.trans (hleast k hk), fun g hg => ?_⟩
      rw [Option.some.inj (hhead.symm.trans hg)]
    · refine ⟨_, _, hitem.trans (if_neg hlt), fun k hk => ⟨Option.some.inj hk ▸ m.isLt, Option.some.inj hk ▸ rfl⟩,
        hleast, fun g hg => ?_⟩
      rw [← Option.some.inj (hhead.symm.trans hg)]
      exact Nat.not_lt.mp hlt

/-! ## START_OF_FRAME -/

theorem State.mbPurge_none (hmb : ∀ m : MbNo, s.mbState n m = 2 → s.mbSendable n m = true)
    (hgwq : ∀ ws ∈ (s.canU n).gwq, mbFdf ws = false ∨ s.fdEn n = true) : s.mbPurge n = s := by
  have hfilter : ((List.range 64).filter fun m => s.mbState n m == mbPending && !s.mbSendable n m) = [] := by
    refine List.filter_eq_nil_iff.mpr fun m hm hc => ?_
    rw [Bool.and_eq_true, beq_iff_eq] at hc
    have hsend := hmb ⟨m, List.mem_range.mp hm⟩ hc.1
    rw [hsend] at hc
    exact Bool.false_ne_true hc.2
  have hkeep : ((s.canU n).gwq.filter fun ws => !mbFdf ws || s.fdEn n) = (s.canU n).gwq := by
    refine List.filter_eq_self.mpr fun ws hws => ?_
    rcases hgwq ws hws with h | h
    · rw [h]
      rfl
    · rw [h, Bool.or_true]
  unfold mbPurge
  rw [hfilter]
  dsimp only [List.foldl]
  rw [hkeep, if_pos rfl]

/-- The unit has put an item on the bus. -/
def State.started (s : State) (n : Nat) (mb : Option Nat) (ws : List Word) (x : CanUnit) : State :=
  let t := s.setCan n x
  let t := match mb with
    | some m => t.mbSet n m mbActive
    | none => t
  t.emit (.canTx n (t.busFrame n ws))

theorem State.canStart_offers {mb : Option Nat} {ws : List Word} (hsend : s.canMaySend n = true)
    (hclosed : (s.canU n).mtx.window = none) (hrx : (s.canU n).receiving = false) (hpurge : s.mbPurge n = s)
    (hitem : s.bestItem n = some (mb, ws)) :
    ∃ o x, s.canStart n = s.started n mb ws x ∧ x.onBus = some o ∧ o.mb = mb ∧ o.words = ws := by
  have hrxEnd : s.canRxEnd n = s := if_neg (by rw [hrx]; exact Bool.false_ne_true)
  unfold canStart
  dsimp only
  rw [hrxEnd, if_pos hsend, State.mtxClose_closed hclosed, hpurge, hitem]
  exact ⟨_, _, rfl, rfl, rfl, rfl⟩

theorem State.started_errState (s : State) (n : Nat) (m : Nat) (hm : m < 64) (x : CanUnit) :
    ((s.setCan n x).mbSet n m mbActive).errState n = s.errState n :=
  (s.setCan n x).fld_setFld_addr (f := Reg.CFD_MB_STAT_STATE n m) (g := Reg.CFD_ERRC_STATE n) _
    (by simp only [Reg.CFD_ERRC, Reg.CFD_MB_STAT]; omega)

theorem State.started_shows {mb : Option Nat} {ws : List Word} (hmb : ∀ m, mb = some m → m < 64) {o : OnBus}
    {x : CanUnit} (hx : x.onBus = some o) :
    ∃ t : State, s.started n mb ws x = t ∧ (t.canU n).onBus = some o ∧
      t.out = s.out ++ [.canTx n (s.busFrame n ws)] ∧ (∀ m, mb = some m → t.mbState n m = 3) ∧
      { t with regs := s.regs, out := s.out, can := s.can } = s := by
  cases mb with
  | none =>
    refine ⟨_, rfl, ?_, rfl, fun m hm => absurd hm (Option.some_ne_none m).symm, rfl⟩
    exact (congrArg CanUnit.onBus (s.canU_setCan_same n x)).trans hx
  | some m =>
    have herr := s.started_errState n m (hmb m rfl) x
    have hframe : ((s.setCan n x).mbSet n m mbActive).busFrame n ws = s.busFrame n ws := by
      rw [busFrame, herr, busFrame]
    refine ⟨_, rfl, ?_, ?_, fun k hk => ?_, rfl⟩
    · exact (congrArg CanUnit.onBus (s.canU_setCan_same n x)).trans hx
    · exact congrArg (fun f => s.out ++ [Emit.canTx n f]) hframe
    · rw [← Option.some.inj hk]
      exact State.fld_setFld_same _ (Reg.CFD_MB_STAT_STATE n m) 3 (show 0 + 4 ≤ 32 by decide)

theorem startOfFrame_completes (h : s.awake) (hsend : s.canMaySend n = true) (hruns : s.mtxRuns n = false)
    (hclosed : (s.canU n).mtx.window = none) (hrx : (s.canU n).receiving = false)
    (hgwq : ∀ ws ∈ (s.canU n).gwq, mbFdf ws = false ∨ s.fdEn n = true) (hany : ∃ m : MbNo, s.mbState n m = 2)
    (hmb : ∀ m : MbNo, s.mbState n m = 2 → s.mbSendable n m = true) :
    Completes (.startOfFrame n) s fun t => ∃ o,
      (t.canU n).onBus = some o ∧ t.out = s.out ++ [.canTx n (s.busFrame n o.words)] ∧
      (∀ m, o.mb = some m → m < 64 ∧ t.mbState n m = 3 ∧ o.words = (s.mb n m).words) ∧
      (∀ m : MbNo, s.mbState n m = 2 → identRank o.words ≤ identRank (s.mb n m).words) ∧
      (∀ h, (s.canU n).gwq.head? = some h → identRank o.words ≤ identRank h) ∧
      { t with regs := s.regs, out := s.out, can := s.can } = s := by
  obtain ⟨mb, ws, hitem, hoff⟩ := State.bestItem_free hruns hany
  obtain ⟨o, x, hop, hx, hob, how⟩ := State.canStart_offers hsend hclosed hrx (State.mbPurge_none hmb hgwq) hitem
  obtain ⟨t, ht, hbus, hout, hactive, hframe⟩ :=
    State.started_shows (s := s) (n := n) (ws := ws) (fun m hm => (hoff.inMb m hm).1) hx
  subst how
  subst hob
  have hwhole : { s with regs := t.regs, eqs := t.eqs, out := t.out, can := t.can, staged := t.staged } = t :=
    (congrArg (fun y : State => { y with
      regs := t.regs, eqs := t.eqs, out := t.out, can := t.can, staged := t.staged }) hframe).symm
  refine completes_framed (State.canStart · n) (fun s t => { s with
    regs := t.regs, eqs := t.eqs, out := t.out, can := t.can, staged := t.staged }) h rfl (fun _ => ⟨rfl, rfl⟩)
    (hop.trans ht) ?_
  rw [hwhole]
  exact ⟨o, hbus, hout, fun m hm => ⟨(hoff.inMb m hm).1, hactive m hm, (hoff.inMb m hm).2⟩, hoff.leastMb,
    hoff.leastHead, hframe⟩

end Sys2Proof.Machine
end

section
/-!
The end of a CAN frame (R238, R239, R242, R256): an attempt that fails and one that completes each leave the mailbox,
the counters and the rest of the unit as said.
-/

namespace Sys2Proof.Machine

variable {s t : State} {n : CanNo} {m : MbNo} {o : OnBus}

/-! ## What an end of a frame leaves alone -/

/-- Only registers of `as` and of event queues, event queues and CAN units differ. -/
structure UnitSide (s t : State) (as : List Nat) : Prop where
  frame : { t with regs := s.regs, eqs := s.eqs, out := s.out, can := s.can } = s
  regs : ∀ a < 0x3000000, a ∉ as → t.rd a = s.rd a

namespace UnitSide
variable {as : List Nat}

theorem refl (s : State) (as : List Nat) : UnitSide s s as := ⟨rfl, fun _ _ _ => rfl⟩

theorem wr (h : UnitSide s t as) {a : Nat} (v : Word) (ha : a ∈ as) : UnitSide s (t.wr a v) as :=
  ⟨h.frame, fun b hb hbs => (t.rd_wr_ne v (ne_of_mem_of_not_mem ha hbs).symm).trans (h.regs b hb hbs)⟩

theorem setFld (h : UnitSide s t as) (f : Fld) (v : Nat) (ha : f.addr ∈ as) : UnitSide s (t.setFld f v) as := h.wr _ ha

theorem setCan (h : UnitSide s t as) (k : Nat) (x : CanUnit) : UnitSide s (t.setCan k x) as := ⟨h.frame, h.regs⟩

theorem postEvent (h : UnitSide s t as) (code src : Nat) (data : Word) : UnitSide s (t.postEvent code src data) as :=
  ⟨h.frame, fun a ha has => (t.postEvent_rd code src data ha).trans (h.regs a ha has)⟩

theorem mono (h : UnitSide s t as) {bs : List Nat} (hsub : as ⊆ bs) : UnitSide s t bs :=
  ⟨h.frame, fun a ha has => h.regs a ha fun hm => has (hsub hm)⟩

theorem trans {u : State} (h : UnitSide s t as) (h' : UnitSide t u as) : UnitSide s u as :=
  ⟨(congrArg (fun x : State => { x with regs := s.regs, eqs := s.eqs, out := s.out, can := s.can }) h'.frame).trans
    h.frame, fun a ha has => (h'.regs a ha has).trans (h.regs a ha has)⟩

theorem mtxClose (s : State) (n : Nat) : UnitSide s (s.mtxClose n) [Reg.CFD_WIN_MISS n] :=
  ⟨(congrArg (fun x :
    State => { x with eqs := s.eqs, out := s.out, can := s.can }) (s.mtxClose_onlyRegs n).1).trans rfl,
    fun a _ has => (s.mtxClose_onlyRegs n).2 a has⟩

theorem mbs (h : UnitSide s t as) : t.mbs = s.mbs := (congrArg State.mbs h.frame :)
theorem mem (h : UnitSide s t as) : t.mem = s.mem := (congrArg State.mem h.frame :)
theorem tbl (h : UnitSide s t as) : t.tbl = s.tbl := (congrArg State.tbl h.frame :)
theorem staged (h : UnitSide s t as) : t.staged = s.staged := (congrArg State.staged h.frame :)
theorem mb (h : UnitSide s t as) (n m : Nat) : t.mb n m = s.mb n m := by rw [State.mb, h.mbs, State.mb]

/-- Disciplined time is the same. -/
theorem stamp (h : UnitSide s t as) (hrate : Reg.TMB_RATE ∉ as) (hslew : Reg.TMB_SLEW ∉ as) : t.stamp = s.stamp := by
  have htb : t.tb = s.tb := (congrArg State.tb h.frame :)
  have hr : t.rd Reg.TMB_RATE = s.rd Reg.TMB_RATE := h.regs _ (by decide) hrate
  have hs : t.slewPpm = s.slewPpm :=
    by rw [State.slewPpm, State.fld, h.regs _ (by decide) hslew, State.slewPpm, State.fld]
  simp only [State.stamp, State.disc, State.disc16, State.disc16At, State.slewDone, State.rateTerm, htb, hr, hs]

theorem fld (h : UnitSide s t as) {f : Fld} (hf : f.addr < 0x3000000) (has : f.addr ∉ as) : t.fld f = s.fld f := by
  rw [State.fld, h.regs _ hf has, State.fld]

end UnitSide

/-! ## A failed attempt -/

theorem canReg_lt (n : CanNo) {k : Nat} (hk : k < 0x2000) : Reg.canBase n + k < 0x3000000 := by
  simp only [Reg.canBase, Reg.unitBase, Reg.canUnit]
  omega

/-- The state of a mailbox after an attempt that failed (R238): `lost`, by a lost arbitration. -/
def failedState (oneShot lost : Bool) : Nat := if oneShot then (if lost then 6 else 7) else 2

theorem State.mbTakeHeld_none {n m : Nat} (h : (s.mb n m).held = none) (completed : Bool) :
    s.mbTakeHeld n m completed = s := by
  unfold mbTakeHeld
  rw [h]

theorem State.mbSet_state (s : State) (n m : Nat) {st : Nat} (hst : st < 16) : (s.mbSet n m st).mbState n m = st :=
  (s.fld_setFld_same (Reg.CFD_MB_STAT_STATE n m) st (show 0 + 4 ≤ 32 by decide)).trans (Nat.mod_eq_of_lt hst)

theorem State.mbFail_state (s : State) (n : CanNo) (m : MbNo) {st : Nat} (hst : st < 16) :
    (s.mbFail n m st).mbState n m = st :=
  (State.postEvent_fld _ _ _ _ (mbStat_lt n m)).trans (s.mbSet_state n m hst)

/-- A mailbox whose attempt failed, before held content is taken. -/
def State.attemptEnd (s : State) (n m : Nat) (o : OnBus) (lost : Bool) : State :=
  if mbOneShot o.words || s.flag (Reg.CFD_MODE_ONE_SHOT n) then s.mbFail n m (if lost then mbArbLost else mbError)
  else (if o.txenEnd16.any fun e => decide (e < s.tb.local16) then s.bump (Reg.CFD_WIN_MISS n) else s).mbSet n m
    mbPending

theorem State.mbAttempt_eq (hcancel : o.cancel = false) (hexcl : o.exclusive = false) (hobs : o.observed = false)
    (lost : Bool) : s.mbAttempt n m o lost false false = (s.attemptEnd n m o lost).mbTakeHeld n m false := by
  unfold mbAttempt
  dsimp only
  rw [hcancel, hexcl, hobs, if_neg Bool.false_ne_true, if_neg Bool.false_ne_true]
  simp only [Bool.not_false, Bool.and_true, Bool.false_eq_true, if_false]
  rfl

theorem State.attemptEnd_shows (s : State) (n : CanNo) (m : MbNo) (o : OnBus) (lost : Bool) :
    (s.attemptEnd n m o lost).mbState n m = failedState (mbOneShot o.words || s.flag (Reg.CFD_MODE_ONE_SHOT n)) lost ∧
    UnitSide s (s.attemptEnd n m o lost) [Reg.CFD_MB_STAT n m, Reg.CFD_WIN_MISS n] ∧
    (s.attemptEnd n m o lost).can = s.can := by
  have hrefl := UnitSide.refl s [Reg.CFD_MB_STAT n m, Reg.CFD_WIN_MISS n]
  unfold attemptEnd failedState
  split
  · have hst : (if lost then mbArbLost else mbError) < 16 := by cases lost <;> decide
    exact ⟨s.mbFail_state n m hst,
      (hrefl.setFld (Reg.CFD_MB_STAT_STATE n m) _ List.mem_cons_self).postEvent _ _ _, rfl⟩
  · split
    · exact ⟨State.mbSet_state _ n m (by decide),
        (hrefl.wr _ (List.mem_cons_of_mem _ List.mem_cons_self)).setFld (Reg.CFD_MB_STAT_STATE n m) _
          List.mem_cons_self,
        rfl⟩
    · exact ⟨State.mbSet_state _ n m (by decide), hrefl.setFld (Reg.CFD_MB_STAT_STATE n m) _ List.mem_cons_self, rfl⟩

/-- A frame of a mailbox on the bus that a host has not tried to cancel, outside any matrix. -/
structure PlainFrame (s : State) (n : CanNo) (m : MbNo) (o : OnBus) : Prop where
  onBus : (s.canU n).onBus = some o
  mb : o.mb = some m.val
  cancel : o.cancel = false
  exclusive : o.exclusive = false
  observed : o.observed = false
  held : (s.mb n m).held = none

theorem State.canFailed_shows (h : PlainFrame s n m o) (lost : Bool) :
    ∃ t, s.canFailed n lost false false = t ∧ (t.canU n).onBus = none ∧
      t.mbState n m = failedState (mbOneShot o.words || s.flag (Reg.CFD_MODE_ONE_SHOT n)) lost ∧
      UnitSide s t [Reg.CFD_MB_STAT n m, Reg.CFD_WIN_MISS n] := by
  have hclose := (UnitSide.mtxClose s n).mono (List.subset_cons_self (Reg.CFD_MB_STAT n m) _)
  have hbus := s.mtxClose_onBus n n
  have hop : s.canFailed n lost false false =
      ((s.mtxClose n).setCan n { (s.mtxClose n).canU n with onBus := none }).mbAttempt n m o lost false false := by
    unfold canFailed
    rw [h.onBus]
    dsimp only
    rw [h.mb]
  have hside := hclose.setCan n { (s.mtxClose n).canU n with onBus := none }
  have hnone : (((s.mtxClose n).setCan n { (s.mtxClose n).canU n with onBus := none }).canU n).onBus = none :=
    congrArg CanUnit.onBus (State.canU_setCan_same _ n _)
  generalize (s.mtxClose n).setCan n { (s.mtxClose n).canU n with onBus := none } = u at *
  obtain ⟨hst, hend, hcan⟩ := u.attemptEnd_shows n m o lost
  have hheld : ((u.attemptEnd n m o lost).mb n m).held = none := by
    rw [hend.mb, hside.mb]
    exact h.held
  have hmode : u.flag (Reg.CFD_MODE_ONE_SHOT n) = s.flag (Reg.CFD_MODE_ONE_SHOT n) := by
    rw [State.flag, hside.fld (canReg_lt n (by decide)) (by
      simp only [List.mem_cons, List.not_mem_nil, or_false, Reg.CFD_MODE, Reg.CFD_MB_STAT, Reg.CFD_WIN_MISS]
      omega), State.flag]
  rw [State.mbAttempt_eq h.cancel h.exclusive h.observed, State.mbTakeHeld_none hheld] at hop
  rw [hmode] at hst
  exact ⟨_, hop, by rw [State.canU, hcan]; exact hnone, hst, hside.trans hend⟩

theorem PlainFrame.bump (h : PlainFrame s n m o) (a : Nat) : PlainFrame (s.bump a) n m o :=
  ⟨h.onBus, h.mb, h.cancel, h.exclusive, h.observed, h.held⟩

theorem State.canArbLost_spec (h : PlainFrame s n m o) :
    ∃ t : State, s.canArbLost n = t ∧ t.rd (Reg.CFD_ARB_LOST n) = satInc (s.rd (Reg.CFD_ARB_LOST n)) ∧
      (t.canU n).onBus = none ∧
      t.mbState n m = failedState (mbOneShot o.words || s.flag (Reg.CFD_MODE_ONE_SHOT n)) true ∧
      t.mb n m = s.mb n m ∧ t.mbs = s.mbs := by
  obtain ⟨t, hop, hbus, hst, hside⟩ := State.canFailed_shows (h.bump (Reg.CFD_ARB_LOST n)) true
  have hlost : t.rd (Reg.CFD_ARB_LOST n) = satInc (s.rd (Reg.CFD_ARB_LOST n)) :=
    (hside.regs _ (canReg_lt n (by decide)) (by
      simp only [List.mem_cons, List.not_mem_nil, or_false, Reg.CFD_MB_STAT, Reg.CFD_WIN_MISS]
      omega)).trans (s.rd_bump_same _)
  have hmode : (s.bump (Reg.CFD_ARB_LOST n)).flag (Reg.CFD_MODE_ONE_SHOT n) = s.flag (Reg.CFD_MODE_ONE_SHOT n) :=
    s.flag_wr_ne _ (by simp only [Reg.CFD_MODE, Reg.CFD_ARB_LOST]; omega)
  rw [hmode] at hst
  have hop' : s.canArbLost n = t.setCan n { t.canU n with receiving := true } := by
    unfold State.canArbLost
    rw [h.onBus, if_pos (show (some o).isSome = true from rfl)]
    dsimp only
    rw [hop]
  exact ⟨_, hop', hlost, (congrArg CanUnit.onBus (t.canU_setCan_same n _)).trans hbus, hst, hside.mb n m, hside.mbs⟩

theorem arbitrationLost_completes (h : s.awake) (hplain : PlainFrame s n m o) :
    Completes (.arbitrationLost n) s fun t =>
      t.rd (Reg.CFD_ARB_LOST n) = satInc (s.rd (Reg.CFD_ARB_LOST n)) ∧ (t.canU n).onBus = none ∧
      t.mbState n m = (if mbOneShot o.words || s.flag (Reg.CFD_MODE_ONE_SHOT n) then 6 else 2) ∧
      t.mb n m = s.mb n m ∧ SameBytes s t := by
  obtain ⟨t, hop, hlost, hbus, hst, hmb, -⟩ := State.canArbLost_spec hplain
  exact completes_framed (State.canArbLost · n) (fun s t => { s with
    regs := t.regs, eqs := t.eqs, out := t.out, mbs := t.mbs, can := t.can }) h rfl (fun _ => ⟨rfl, rfl⟩) hop
    ⟨hlost, hbus, hst, hmb, fun _ => rfl, rfl⟩

/-! ## A completed frame -/

theorem State.canConfine_active (hstate : s.errState n = 0) (htec : s.fld (Reg.CFD_ERRC_TEC n) ≤ 127)
    (hrec : s.fld (Reg.CFD_ERRC_REC n) ≤ 127) : s.canConfine n = s := by
  unfold canConfine
  extract_lets tec rec_ old new
  have hnew : new = old := by
    have hold : old = 0 := hstate
    rw [hold]
    exact (if_neg (by omega)).trans (if_neg (by omega))
  exact if_pos (.inr (.inr hnew))

theorem State.canDelay_classic (hbus : (s.canU n).onBus = some o) (hfdf : mbFdf o.words = false) (raw : Nat) :
    s.canDelay n raw = s := by
  unfold canDelay
  extract_lets tdco ssp
  rw [hbus]
  dsimp only
  rw [hfdf, Bool.and_false, Bool.false_and, if_neg Bool.false_ne_true]

/-- A completed frame has been counted. -/
def State.txCounted (s : State) (n : Nat) : State :=
  (s.tick (Reg.CFD_TX_FRAMES n)).setFld (Reg.CFD_ERRC_TEC n) (s.fld (Reg.CFD_ERRC_TEC n) - 1)

theorem State.txCounted_shows (s : State) (n : CanNo) :
    (s.txCounted n).rd (Reg.CFD_TX_FRAMES n) = s.rd (Reg.CFD_TX_FRAMES n) + 1 ∧
    (s.txCounted n).fld (Reg.CFD_ERRC_TEC n) = s.fld (Reg.CFD_ERRC_TEC n) - 1 ∧
    (s.txCounted n).fld (Reg.CFD_ERRC_REC n) = s.fld (Reg.CFD_ERRC_REC n) ∧
    (s.txCounted n).errState n = s.errState n ∧
    UnitSide s (s.txCounted n) [Reg.CFD_TX_FRAMES n, Reg.CFD_ERRC n] := by
  have hne : Reg.CFD_TX_FRAMES n ≠ Reg.CFD_ERRC n := by
    simp only [Reg.CFD_TX_FRAMES, Reg.CFD_ERRC]
    omega
  have hlt : s.fld (Reg.CFD_ERRC_TEC n) < 2 ^ 9 := bits_lt _ _ _
  have hrec : (Reg.CFD_ERRC_TEC n).apart (Reg.CFD_ERRC_REC n) := by simp [Fld.apart]
  have hstate : (Reg.CFD_ERRC_TEC n).apart (Reg.CFD_ERRC_STATE n) := by simp [Fld.apart]
  refine ⟨?_, ?_, ?_, ?_, ?_⟩
  · exact (State.rd_setFld_ne _ (f := Reg.CFD_ERRC_TEC n) _ hne).trans (s.rd_wr_same _ _)
  · exact (State.fld_setFld_same _ (Reg.CFD_ERRC_TEC n) _ (show 16 + 9 ≤ 32 by decide)).trans
      (Nat.mod_eq_of_lt (lt_of_le_of_lt (Nat.sub_le _ _) hlt))
  · exact (State.fld_setFld_apart _ _ hrec).trans (s.fld_wr_ne _ hne.symm)
  · exact (State.fld_setFld_apart _ _ hstate).trans (s.fld_wr_ne _ hne.symm)
  · exact ((UnitSide.refl s _).wr _ List.mem_cons_self).setFld (Reg.CFD_ERRC_TEC n) _
      (List.mem_cons_of_mem _ List.mem_cons_self)

/-- A completed frame leaves its mailbox, before held content is taken. -/
def State.mbDoneNow (s : State) (n m : Nat) (words : List Word) : State :=
  let t := (s.mbSet n m mbDone).setFld (Reg.CFD_MB_STAT_CLASH_RUN n m) 0
  if mbEvtDone words then t.postEvent 0x040 (Reg.canUnit n + m * 256) s.stamp else t

theorem State.mbDoneNow_shows (s : State) (n : CanNo) (m : MbNo) (words : List Word) :
    (s.mbDoneNow n m words).mbState n m = 4 ∧ (s.mbDoneNow n m words).can = s.can ∧
    UnitSide s (s.mbDoneNow n m words) [Reg.CFD_MB_STAT n m] ∧
    (s.mbDoneNow n m words).eqs =
      if mbEvtDone words then (s.postEvent 0x040 (Reg.canUnit n + m * 256) s.stamp).eqs else s.eqs := by
  have happart : (Reg.CFD_MB_STAT_CLASH_RUN n m).apart (Reg.CFD_MB_STAT_STATE n m) := by simp [Fld.apart]
  have hst : ((s.mbSet n m mbDone).setFld (Reg.CFD_MB_STAT_CLASH_RUN n m) 0).mbState n m = 4 :=
    (State.fld_setFld_apart _ _ happart).trans (s.mbSet_state n m (by decide))
  have hside : UnitSide s ((s.mbSet n m mbDone).setFld (Reg.CFD_MB_STAT_CLASH_RUN n m) 0) [Reg.CFD_MB_STAT n m] :=
    ((UnitSide.refl s _).setFld (Reg.CFD_MB_STAT_STATE n m) _ List.mem_cons_self).setFld
      (Reg.CFD_MB_STAT_CLASH_RUN n m) _ List.mem_cons_self
  have hcan : ((s.mbSet n m mbDone).setFld (Reg.CFD_MB_STAT_CLASH_RUN n m) 0).can = s.can := rfl
  have heqs : ((s.mbSet n m mbDone).setFld (Reg.CFD_MB_STAT_CLASH_RUN n m) 0).eqs = s.eqs := rfl
  unfold mbDoneNow
  dsimp only
  generalize (s.mbSet n m mbDone).setFld (Reg.CFD_MB_STAT_CLASH_RUN n m) 0 = u at *
  split
  · exact ⟨(u.postEvent_fld _ _ _ (mbStat_lt n m)).trans hst, hcan, hside.postEvent _ _ _,
      postEvent_eqs_congr s heqs hside.mem hside.tbl _ _ _⟩
  · exact ⟨hst, hcan, hside, heqs⟩

theorem State.mbComplete_eq (h : o.cancel = false) (hheld : (s.mb n m).held = none) :
    s.mbComplete n m o = s.mbDoneNow n m o.words := by
  have hheld' : ((s.mbDoneNow n m o.words).mb n m).held = none := by
    rw [(s.mbDoneNow_shows n m o.words).2.2.1.mb]
    exact hheld
  refine Eq.trans ?_ (State.mbTakeHeld_none hheld' true)
  unfold mbComplete
  dsimp only
  rw [h, if_neg Bool.false_ne_true]
  rfl

/-- What follows the counting of a completed frame. -/
def State.frameDone (s : State) (n : Nat) (o : OnBus) : State :=
  let x := s.canU n
  let t := s.setCan n { x with onBus := none, gwq := if o.mb.isNone then x.gwq.tail else x.gwq }
  let t := match o.mb with
    | some m => t.mbComplete n m o
    | none => t
  let t := match o.refCycle with
    | some b => t.mtxSent n b o.sof16
    | none => t
  t.frameEnd (Reg.canUnit n)

/-- The bus is free again; a frame of the gateway queue leaves it. -/
def State.offBus (s : State) (n : Nat) (o : OnBus) : State :=
  s.setCan n { s.canU n with
    onBus := none, gwq := if o.mb.isNone then (s.canU n).gwq.tail else (s.canU n).gwq }

theorem State.frameDone_mb (h : o.mb = some m.val) (href : o.refCycle = none) :
    s.frameDone n o = ((s.offBus n o).mbComplete n m o).frameEnd (Reg.canUnit n) := by
  unfold frameDone offBus
  dsimp only
  generalize s.setCan n _ = t
  rw [href, h]

theorem State.canComplete_onBus (h : (s.canU n).onBus = some o) (d : Nat) :
    s.canComplete n d = ((((s.mtxClose n).txCounted n).canConfine n).canDelay n d).frameDone n o := by
  unfold canComplete
  rw [h]
  rfl

/-- The unit between the counting of a completed frame and its mailbox. -/
def State.busFree (s : State) (n : Nat) (o : OnBus) : State := ((s.mtxClose n).txCounted n).offBus n o

theorem State.busFree_shows (s : State) (n : CanNo) (o : OnBus) :
    ((s.busFree n o).canU n).onBus = none ∧ (s.busFree n o).rd (Reg.CFD_TX_FRAMES n) = s.rd (Reg.CFD_TX_FRAMES n) + 1 ∧
    (s.busFree n o).fld (Reg.CFD_ERRC_TEC n) = s.fld (Reg.CFD_ERRC_TEC n) - 1 ∧ (s.busFree n o).eqs = s.eqs ∧
    UnitSide s (s.busFree n o) [Reg.CFD_TX_FRAMES n, Reg.CFD_ERRC n, Reg.CFD_WIN_MISS n] := by
  have hclose := UnitSide.mtxClose s n
  have heqs : (s.mtxClose n).eqs = s.eqs := (congrArg State.eqs (s.mtxClose_onlyRegs n).1 :)
  have hframes : (s.mtxClose n).rd (Reg.CFD_TX_FRAMES n) = s.rd (Reg.CFD_TX_FRAMES n) :=
    s.mtxClose_rd_ne n (by simp only [Reg.CFD_TX_FRAMES, Reg.CFD_WIN_MISS]; omega)
  have herrc : (s.mtxClose n).fld (Reg.CFD_ERRC_TEC n) = s.fld (Reg.CFD_ERRC_TEC n) := by
    rw [fld, s.mtxClose_rd_ne n (by simp only [Reg.CFD_ERRC, Reg.CFD_WIN_MISS]; omega), fld]
  obtain ⟨htx, htec, -, -, hside⟩ := (s.mtxClose n).txCounted_shows n
  rw [hframes] at htx
  rw [herrc] at htec
  have hall := (hclose.mono (bs := [Reg.CFD_TX_FRAMES n, Reg.CFD_ERRC n, Reg.CFD_WIN_MISS n]) (by simp)).trans
    (hside.mono (by simp))
  exact ⟨congrArg CanUnit.onBus (State.canU_setCan_same _ n _), htx, htec, heqs, hall.setCan n _⟩

theorem State.canComplete_eq (h : PlainFrame s n m o) (href : o.refCycle = none) (hstaged : s.staged = [])
    (hstate : s.errState n = 0) (htec : s.fld (Reg.CFD_ERRC_TEC n) ≤ 127) (hrec : s.fld (Reg.CFD_ERRC_REC n) ≤ 127)
    (hfdf : mbFdf o.words = false) (d : Nat) : s.canComplete n d = (s.busFree n o).mbDoneNow n m o.words := by
  have hrd : (s.mtxClose n).rd (Reg.CFD_ERRC n) = s.rd (Reg.CFD_ERRC n) :=
    s.mtxClose_rd_ne n (by simp only [Reg.CFD_ERRC, Reg.CFD_WIN_MISS]; omega)
  obtain ⟨-, htec', hrec', hstate', -⟩ := (s.mtxClose n).txCounted_shows n
  have hconfine : ((s.mtxClose n).txCounted n).canConfine n = (s.mtxClose n).txCounted n := by
    refine State.canConfine_active ?_ ?_ ?_
    · rw [hstate', errState, fld, hrd]
      exact hstate
    · rw [htec', fld, hrd]
      exact (Nat.sub_le _ _).trans htec
    · rw [hrec', fld, hrd]
      exact hrec
  have hbus : (((s.mtxClose n).txCounted n).canU n).onBus = some o := (s.mtxClose_onBus n n).trans h.onBus
  have hdelay := State.canDelay_classic hbus hfdf d
  obtain ⟨-, -, -, -, hside⟩ := s.busFree_shows n o
  have hdone := State.mbComplete_eq (s := s.busFree n o) (m := m) h.cancel (by rw [hside.mb]; exact h.held)
  obtain ⟨-, -, hside', -⟩ := (s.busFree n o).mbDoneNow_shows n m o.words
  rw [canComplete_onBus h.onBus, hconfine, hdelay, State.frameDone_mb h.mb href, ← busFree, hdone]
  exact State.applyStaged_nil (by rw [hside'.staged, hside.staged, hstaged]) _

theorem transmissionComplete_completes (h : s.awake) (hplain : PlainFrame s n m o) (href : o.refCycle = none)
    (hstaged : s.staged = []) (hstate : s.errState n = 0) (htec : s.fld (Reg.CFD_ERRC_TEC n) ≤ 127)
    (hrec : s.fld (Reg.CFD_ERRC_REC n) ≤ 127) (d : BitVec 7) (hfdf : mbFdf o.words = false) :
    Completes (.transmissionComplete n d) s fun t =>
      t.mbState n m = 4 ∧ (t.canU n).onBus = none ∧ t.rd (Reg.CFD_TX_FRAMES n) = s.rd (Reg.CFD_TX_FRAMES n) + 1 ∧
      t.fld (Reg.CFD_ERRC_TEC n) = s.fld (Reg.CFD_ERRC_TEC n) - 1 ∧
      (mbEvtDone o.words = true → Posts s t 0x040 (Reg.canUnit n + m * 256) s.stamp) ∧
      (mbEvtDone o.words = false → t.eqs = s.eqs) ∧ SameBytes s t := by
  have hop := State.canComplete_eq hplain href hstaged hstate htec hrec hfdf d.toNat
  obtain ⟨hbus, htx, htec', heqs, hside⟩ := s.busFree_shows n o
  have hstamp : (s.busFree n o).stamp = s.stamp := hside.stamp (by
    simp only [List.mem_cons, List.not_mem_nil, or_false, Reg.TMB_RATE, Reg.CFD_TX_FRAMES, Reg.CFD_ERRC,
      Reg.CFD_WIN_MISS, Reg.canBase, Reg.unitBase]
    omega) (by
    simp only [List.mem_cons, List.not_mem_nil, or_false, Reg.TMB_SLEW, Reg.CFD_TX_FRAMES, Reg.CFD_ERRC,
      Reg.CFD_WIN_MISS, Reg.canBase, Reg.unitBase]
    omega)
  obtain ⟨hst, hcan, hside', heqs'⟩ := (s.busFree n o).mbDoneNow_shows n m o.words
  generalize (s.busFree n o).mbDoneNow n m o.words = t at *
  have hbus' : (t.canU n).onBus = none := by
    rw [State.canU, hcan]
    exact hbus
  have hframes := (hside'.regs (Reg.CFD_TX_FRAMES n) (canReg_lt n (by decide)) (by
    simp only [List.mem_singleton, Reg.CFD_TX_FRAMES, Reg.CFD_MB_STAT]
    omega)).trans htx
  have hcount := (hside'.fld (f := Reg.CFD_ERRC_TEC n) (canReg_lt n (by decide)) (by
    simp only [List.mem_singleton, Reg.CFD_ERRC, Reg.CFD_MB_STAT]
    omega)).trans htec'
  refine completes_framed (State.canComplete · n d.toNat) (fun s t => { s with
    regs := t.regs, staged := t.staged, eqs := t.eqs, out := t.out, mbs := t.mbs, can := t.can }) h rfl
    (fun _ => ⟨rfl, rfl⟩) hop ⟨hst, hbus', hframes, hcount, fun hevt => ?_, fun hevt => ?_, fun _ => rfl, rfl⟩
  · refine Eq.trans heqs' ((if_pos hevt).trans ?_)
    rw [hstamp]
    exact postEvent_eqs_congr s heqs hside.mem hside.tbl _ _ _
  · exact heqs'.trans ((if_neg (by rw [hevt]; exact Bool.false_ne_true)).trans heqs)

/-! ## A bus error -/

theorem State.canDelay_side (s : State) (n : CanNo) (raw : Nat) :
    UnitSide s (s.canDelay n raw) [Reg.CFD_TDC_VAL n] ∧ (s.canDelay n raw).can = s.can := by
  unfold canDelay
  extract_lets tdco ssp t
  have hboth : UnitSide s t [Reg.CFD_TDC_VAL n] :=
    ((UnitSide.refl s _).setFld (Reg.CFD_TDC_VAL_TDCV n) _ List.mem_cons_self).setFld (Reg.CFD_TDC_VAL_SSP n) _
      List.mem_cons_self
  split
  · exact ⟨UnitSide.refl s _, rfl⟩
  · split
    · split
      · exact ⟨hboth.setFld (Reg.CFD_TDC_VAL_TDC_SAT n) 1 List.mem_cons_self, rfl⟩
      · exact ⟨hboth, rfl⟩
    · exact ⟨UnitSide.refl s _, rfl⟩

theorem State.canConfine_side (s : State) (n : CanNo) (hoff : s.fld (Reg.CFD_ERRC_TEC n) ≤ 255)
    (hstate : s.errState n = 0) :
    UnitSide s (s.canConfine n) [Reg.CFD_ERRC n] ∧ (s.canConfine n).can = s.can ∧
    (s.canConfine n).fld (Reg.CFD_ERRC_TEC n) = s.fld (Reg.CFD_ERRC_TEC n) ∧ (s.canConfine n).errState n ≠ 2 := by
  unfold canConfine
  extract_lets tec rec_ old new code
  have hnew : new = 1 ∨ new = 0 := by
    unfold new
    rw [if_neg (by omega)]
    split
    · exact .inl rfl
    · exact .inr rfl
  split
  · exact ⟨UnitSide.refl s _, rfl, rfl, by rw [hstate]; decide⟩
  · have happart : (Reg.CFD_ERRC_STATE n).apart (Reg.CFD_ERRC_TEC n) := by simp [Fld.apart]
    have hlt : Reg.CFD_ERRC n < 0x3000000 := canReg_lt n (by decide)
    refine ⟨((UnitSide.refl s _).setFld (Reg.CFD_ERRC_STATE n) _ List.mem_cons_self).postEvent _ _ _, rfl, ?_, ?_⟩
    · exact (State.postEvent_fld _ _ _ _ hlt).trans (State.fld_setFld_apart _ _ happart)
    · have hval : ((s.setFld (Reg.CFD_ERRC_STATE n) new).postEvent code (Reg.canUnit n)
          (w32 (tec * 65536 + rec_))).errState n = new % 4 :=
        (State.postEvent_fld _ _ _ _ hlt).trans (s.fld_setFld_same _ _ (show 30 + 2 ≤ 32 by decide))
      rw [hval]
      omega

theorem errReg_bounds (n : CanNo) (k : BusErrKind) :
    Reg.canBase n + 0x608 ≤ errReg n k ∧ errReg n k ≤ Reg.canBase n + 0x618 := by
  cases k <;> simp only [errReg, Reg.CFD_ERR_BIT, Reg.CFD_ERR_STUFF, Reg.CFD_ERR_FORM, Reg.CFD_ERR_CRC,
    Reg.CFD_ERR_ACK] <;> omega

/-- An error of the transmitter raises TEC by 8 (ISO 11898-1). -/
theorem State.countError_tx8 (s : State) (n : CanNo) (h : s.fld (Reg.CFD_ERRC_TEC n) ≤ 127) :
    (s.countError n .tx8).fld (Reg.CFD_ERRC_TEC n) = s.fld (Reg.CFD_ERRC_TEC n) + 8 ∧
    (s.countError n .tx8).errState n = s.errState n ∧ UnitSide s (s.countError n .tx8) [Reg.CFD_ERRC n] := by
  have hsat : satTo 9 (s.fld (Reg.CFD_ERRC_TEC n) + 8) = s.fld (Reg.CFD_ERRC_TEC n) + 8 :=
    min_eq_left (by omega)
  have happart : (Reg.CFD_ERRC_TEC n).apart (Reg.CFD_ERRC_STATE n) := by simp [Fld.apart]
  refine ⟨?_, s.fld_setFld_apart _ happart,
    (UnitSide.refl s _).setFld (Reg.CFD_ERRC_TEC n) _ List.mem_cons_self⟩
  refine (s.fld_setFld_same (Reg.CFD_ERRC_TEC n) _ (show 16 + 9 ≤ 32 by decide)).trans ?_
  rw [hsat]
  exact Nat.mod_eq_of_lt (show s.fld (Reg.CFD_ERRC_TEC n) + 8 < 512 by omega)

theorem State.canRxEnd_side (s : State) (n : Nat) (hstaged : s.staged = []) :
    UnitSide s (s.canRxEnd n) [] ∧ ((s.canRxEnd n).canU n).onBus = (s.canU n).onBus := by
  unfold canRxEnd
  split
  · have hend : (s.setCan n { s.canU n with receiving := false }).frameEnd (Reg.canUnit n) =
        s.setCan n { s.canU n with receiving := false } :=
      State.applyStaged_nil (s := s.setCan n { s.canU n with receiving := false }) hstaged _
    rw [hend]
    refine ⟨(UnitSide.refl s _).setCan n _, ?_⟩
    rw [State.canU_setCan_same]
  · exact ⟨UnitSide.refl s _, rfl⟩

/-- A bus error has been counted by its kind and measured. -/
def State.errorSeen (s : State) (n : Nat) (k : BusErrKind) (delay : Option Nat) : State :=
  delay.elim (s.bump (errReg n k)) ((s.bump (errReg n k)).canDelay n)

theorem State.errorSeen_side (s : State) (n : CanNo) (k : BusErrKind) (delay : Option Nat) :
    UnitSide s (s.errorSeen n k delay) [errReg n k, Reg.CFD_TDC_VAL n] ∧
    (s.errorSeen n k delay).can = s.can ∧
    (s.errorSeen n k delay).rd (errReg n k) = satInc (s.rd (errReg n k)) := by
  have hbump : UnitSide s (s.bump (errReg n k)) [errReg n k, Reg.CFD_TDC_VAL n] :=
    (UnitSide.refl s _).wr _ List.mem_cons_self
  obtain ⟨hlo, hhi⟩ := errReg_bounds n k
  have hlt : errReg n k < 0x3000000 := lt_of_le_of_lt hhi (canReg_lt n (by decide))
  cases delay with
  | none => exact ⟨hbump, rfl, s.rd_bump_same _⟩
  | some raw =>
    obtain ⟨hdelay, hcan⟩ := (s.bump (errReg n k)).canDelay_side n raw
    have hne : errReg n k ∉ [Reg.CFD_TDC_VAL n] := fun h => absurd (List.mem_singleton.mp h) (by
      simp only [Reg.CFD_TDC_VAL]
      omega)
    exact ⟨hbump.trans (hdelay.mono (List.subset_cons_self _ _)), hcan,
      (hdelay.regs _ hlt hne).trans (s.rd_bump_same _)⟩

/-- The fault confinement after a bus error of the transmitter. -/
def State.errorCounted (s : State) (n : Nat) (k : BusErrKind) (delay : Option Nat) : State :=
  ((s.errorSeen n k delay).countError n .tx8).canConfine n

theorem State.errorCounted_shows (s : State) (n : CanNo) (k : BusErrKind) (delay : Option Nat)
    (hstate : s.errState n = 0) (htec : s.fld (Reg.CFD_ERRC_TEC n) ≤ 127) :
    UnitSide s (s.errorCounted n k delay) [errReg n k, Reg.CFD_TDC_VAL n, Reg.CFD_ERRC n] ∧
    (s.errorCounted n k delay).can = s.can ∧
    (s.errorCounted n k delay).rd (errReg n k) = satInc (s.rd (errReg n k)) ∧
    (s.errorCounted n k delay).fld (Reg.CFD_ERRC_TEC n) = s.fld (Reg.CFD_ERRC_TEC n) + 8 ∧
    (s.errorCounted n k delay).errState n ≠ 2 := by
  obtain ⟨hlo, hhi⟩ := errReg_bounds n k
  have hlt : errReg n k < 0x3000000 := lt_of_le_of_lt hhi (canReg_lt n (by decide))
  have herrc : Reg.CFD_ERRC n ∉ [errReg n k, Reg.CFD_TDC_VAL n] := by
    simp only [List.mem_cons, List.not_mem_nil, or_false, Reg.CFD_ERRC, Reg.CFD_TDC_VAL]
    omega
  have hkind : errReg n k ∉ [Reg.CFD_ERRC n] := fun h => absurd (List.mem_singleton.mp h) (by
    simp only [Reg.CFD_ERRC]
    omega)
  obtain ⟨hseen, hcan, hcount⟩ := s.errorSeen_side n k delay
  have htec' := hseen.fld (f := Reg.CFD_ERRC_TEC n) (canReg_lt n (by decide)) herrc
  have hstate' : (s.errorSeen n k delay).errState n = s.errState n :=
    hseen.fld (f := Reg.CFD_ERRC_STATE n) (canReg_lt n (by decide)) herrc
  obtain ⟨height, hsame, hside⟩ := (s.errorSeen n k delay).countError_tx8 n (by omega)
  obtain ⟨hside', hcan', htec'', hoff⟩ :=
    ((s.errorSeen n k delay).countError n .tx8).canConfine_side n (by omega) (by omega)
  refine ⟨?_, hcan'.trans hcan, ?_, by rw [errorCounted, htec'', height, htec'], hoff⟩
  · exact (hseen.mono (by simp)).trans ((hside.mono (by simp)).trans (hside'.mono (by simp)))
  · exact (hside'.regs _ hlt hkind).trans ((hside.regs _ hlt hkind).trans hcount)

theorem State.canError_tx8 {k : BusErrKind} {r : State} (hrx : s.canRxEnd n = r) (hk : k ≠ .res)
    (hbus : r.canOnBus n = true) (hmode : r.canMode n = 1) (delay : Option Nat)
    (hoff : (r.errorCounted n k delay).errState n ≠ 2) :
    s.canError n k .tx8 false delay =
      ((r.errorCounted n k delay).canFailed n false false false).frameEnd (Reg.canUnit n) := by
  unfold canError
  dsimp only
  rw [hrx, hbus, hmode, if_neg (by decide), if_neg fun h => hk h.1, if_neg (by decide)]
  change (if (r.errorCounted n k delay).errState n = 2 then
      (State.canFailed (r.errorCounted n k delay) n false _ false).canBusOff n
    else State.canFailed (r.errorCounted n k delay) n false (decide ((r.errorCounted n k delay).errState n = 2))
      false).frameEnd (Reg.canUnit n) = _
  rw [if_neg hoff, decide_eq_false hoff]

theorem UnitSide.canOnBus {as : List Nat} (h : UnitSide s t as) (hbstat : Reg.CFD_BSTAT n ∉ as)
    (hmortar : Reg.GEN_MORTAR_STATE ∉ as) (herrc : Reg.CFD_ERRC n ∉ as) : t.canOnBus n = s.canOnBus n := by
  have hrun := h.fld (f := bstatRun (Reg.canBase n)) (canReg_lt n (k := 0) (by decide)) hbstat
  have hstate := h.fld (f := Reg.CFD_ERRC_STATE n) (canReg_lt n (by decide)) herrc
  have hcut : t.dieCut (Reg.canUnit n / 128) = s.dieCut (Reg.canUnit n / 128) := by
    simp only [State.dieCut, State.fld, h.regs Reg.GEN_MORTAR_STATE (by decide) hmortar]
  rw [State.canOnBus, State.errState, hstate, State.running, State.flag, hrun, hcut]
  rfl

/-- What a bus error takes over. -/
def State.errorFrame (s t : State) : State :=
  { s with regs := t.regs, staged := t.staged, eqs := t.eqs, out := t.out, mbs := t.mbs, can := t.can }

/-- A mailbox's frame that ends by a bus error leaves the mailbox as an attempt that failed. -/
theorem State.canError_spec {k : BusErrKind} (h : PlainFrame s n m o) (hk : k ≠ .res) (hstaged : s.staged = [])
    (hstate : s.errState n = 0) (htec : s.fld (Reg.CFD_ERRC_TEC n) ≤ 127)
    (hrun : s.running (Reg.canUnit n) = true) (hmode : s.canMode n = 1) (delay : Option Nat) :
    ∃ t : State, s.canError n k .tx8 false delay = t ∧ t.rd (errReg n k) = satInc (s.rd (errReg n k)) ∧
      (t.canU n).onBus = none ∧ t.fld (Reg.CFD_ERRC_TEC n) = s.fld (Reg.CFD_ERRC_TEC n) + 8 ∧
      t.mbState n m = failedState (mbOneShot o.words || s.flag (Reg.CFD_MODE_ONE_SHOT n)) false := by
  obtain ⟨hlo, hhi⟩ := errReg_bounds n k
  have hlt : errReg n k < 0x3000000 := lt_of_le_of_lt hhi (canReg_lt n (by decide))
  obtain ⟨hrx, hrxBus⟩ := s.canRxEnd_side n hstaged
  have hsame {f : Fld} (hf : f.addr < 0x3000000) : (s.canRxEnd n).fld f = s.fld f := hrx.fld hf List.not_mem_nil
  have hon : (s.canRxEnd n).canOnBus n = true := by
    rw [hrx.canOnBus List.not_mem_nil List.not_mem_nil List.not_mem_nil, State.canOnBus, hrun, hstate]
    rfl
  have hmode' : (s.canRxEnd n).canMode n = 1 := by
    rw [State.canMode, hsame (f := Reg.CFD_MODE_MODE n) (canReg_lt n (by decide))]
    exact hmode
  have hbus := hrxBus.trans h.onBus
  have hop := State.canError_tx8 (s := s) (n := n) (k := k) rfl hk hon hmode' delay
  generalize s.canRxEnd n = r at *
  obtain ⟨hside, hcan, hcount, height, hoff⟩ := r.errorCounted_shows n k delay
    ((hsame (f := Reg.CFD_ERRC_STATE n) (canReg_lt n (by decide))).trans hstate)
    (by rw [hsame (canReg_lt n (by decide))]; exact htec)
  have hop' := hop hoff
  have hplain : PlainFrame (r.errorCounted n k delay) n m o :=
    ⟨by rw [State.canU, hcan]; exact hbus, h.mb, h.cancel, h.exclusive, h.observed, by
      rw [hside.mb, hrx.mb]
      exact h.held⟩
  obtain ⟨t, hfail, hnone, hst, hend⟩ := State.canFailed_shows hplain false
  have hmodeReg : (r.errorCounted n k delay).flag (Reg.CFD_MODE_ONE_SHOT n) = s.flag (Reg.CFD_MODE_ONE_SHOT n) := by
    rw [State.flag, hside.fld (canReg_lt n (by decide)) (by
      simp only [List.mem_cons, List.not_mem_nil, or_false, Reg.CFD_MODE, Reg.CFD_TDC_VAL, Reg.CFD_ERRC]
      omega), hsame (canReg_lt n (by decide)), State.flag]
  rw [hmodeReg] at hst
  have hout {a : Nat} (ha : a ≤ Reg.canBase n + 0x618) (hst : a ∉ [Reg.CFD_MB_STAT n m]) :
      a ∉ [Reg.CFD_MB_STAT n m, Reg.CFD_WIN_MISS n] := by
    simp only [List.mem_cons, List.not_mem_nil, or_false, Reg.CFD_WIN_MISS] at hst ⊢
    omega
  refine ⟨t, ?_, ?_, hnone, ?_, hst⟩
  · rw [hop', hfail]
    exact State.applyStaged_nil (by rw [hend.staged, hside.staged, hrx.staged, hstaged]) _
  · refine (hend.regs _ hlt (hout hhi fun hc => ?_)).trans (hcount.trans ?_)
    · have := List.mem_singleton.mp hc
      simp only [Reg.CFD_MB_STAT] at this
      omega
    · rw [hrx.regs _ hlt List.not_mem_nil]
  · rw [hend.fld (f := Reg.CFD_ERRC_TEC n) (canReg_lt n (by decide)) (by
      simp only [List.mem_cons, List.not_mem_nil, or_false, Reg.CFD_MB_STAT, Reg.CFD_ERRC, Reg.CFD_WIN_MISS]
      omega), height, hsame (canReg_lt n (by decide))]

theorem busError_completes {k : BusErrKind} (h : s.awake) (hplain : PlainFrame s n m o) (hk : k ≠ .res)
    (hstaged : s.staged = []) (hstate : s.errState n = 0) (htec : s.fld (Reg.CFD_ERRC_TEC n) ≤ 127)
    (hrun : s.running (Reg.canUnit n) = true) (hmode : s.canMode n = 1) (d : Option (BitVec 7)) :
    Completes (.busError n k .tx8 ⟨false, d⟩) s fun t =>
      t.rd (errReg n k) = satInc (s.rd (errReg n k)) ∧ (t.canU n).onBus = none ∧
      t.fld (Reg.CFD_ERRC_TEC n) = s.fld (Reg.CFD_ERRC_TEC n) + 8 ∧
      t.mbState n m = (if mbOneShot o.words || s.flag (Reg.CFD_MODE_ONE_SHOT n) then 7 else 2) ∧ SameBytes s t := by
  obtain ⟨t, hop, hcount, hfree, height, hst⟩ :=
    State.canError_spec hplain hk hstaged hstate htec hrun hmode (d.map fun d => d.toNat)
  rw [failedState, if_neg Bool.false_ne_true] at hst
  have hexec : exec (.busError n k .tx8 ⟨false, d⟩) s = live s fun s =>
      s.errorFrame (s.canError n k .tx8 false (d.map fun d => d.toNat)) := rfl
  refine ⟨s.errorFrame t, ?_, hcount, hfree, height, hst, fun _ => rfl, rfl⟩
  rw [hexec, live_exact s _ h rfl rfl, hop]

end Sys2Proof.Machine

open Sys2Proof.Machine in
/-- Settles O33: the choice is a least rank, and each end of a frame frees the bus before the mailbox's own state. -/
theorem framesAreSentAndEnd : Obligations.FramesAreSentAndEnd := by
  refine ⟨fun n s h hsend hruns hclosed hrx hgwq hany hmb =>
    startOfFrame_completes h hsend hruns hclosed hrx hgwq hany hmb, ?_⟩
  intro n o m s h hstaged hbus hmb hcancel hexcl href hobs hheld hstate htec hrec
  have hplain : PlainFrame s n m o := ⟨hbus, hmb, hcancel, hexcl, hobs, hheld⟩
  refine ⟨arbitrationLost_completes h hplain,
    fun d hfdf => transmissionComplete_completes h hplain href hstaged hstate htec hrec d hfdf, ?_⟩
  exact fun k d hk hrun hmode => busError_completes h hplain hk hstaged hstate htec hrun hmode d

end

section
/-!
Bus-off of a unit whose frame on the bus is of no mailbox it has (R257). The state bounds no mailbox number: the word of
mailbox state "139" is CFD_BUSOFF itself, and a cancel of it writes CANCELLED there before the bus-off counts.
-/

namespace Sys2Proof.Machine

/-- An error-passive unit at TEC = 248 that sends a frame of a mailbox 139, which is to be cancelled. -/
def strayMailbox : State :=
  ((((State.reset.setFld (bstatRun (Reg.canBase 0)) 1).setFld (Reg.CFD_MODE_MODE 0) 1).setFld
    (Reg.CFD_ERRC_STATE 0) 1).setFld (Reg.CFD_ERRC_TEC 0) 248).setCan 0
    { onBus := some { mb := some 139, words := [], cancel := true } }

/-- The number of bus-offs that a bus error in this state leaves. -/
def strayCount : Word :=
  match exec (.busError 0 .ack .tx8 ⟨false, none⟩) strayMailbox with
  | .next t => t.rd (Reg.CFD_BUSOFF 0)
  | _ => 0

theorem strayCount_eq : strayCount = 6 := by decide +kernel

theorem strayMailbox_meets : strayMailbox.awake ∧ strayMailbox.staged = [] ∧
    strayMailbox.running (Reg.canUnit 0) = true ∧ strayMailbox.canMode 0 = 1 ∧ strayMailbox.errState 0 = 1 ∧
    247 < strayMailbox.fld (Reg.CFD_ERRC_TEC 0) ∧ strayMailbox.fld (Reg.CFD_RECOV_BO_LIMIT 0) = 0 := by decide +kernel

theorem strayMailbox_busoff : strayMailbox.rd (Reg.CFD_BUSOFF 0) = 0 := by decide +kernel

end Sys2Proof.Machine

open Sys2Proof.Machine in
/-- Refutes O34: nothing bounds the mailbox of the frame on the bus, and the state word of a mailbox 139 would be
CFD_BUSOFF, which then counts from 5 instead of 0. -/
theorem not_busOffAndRecovery : ¬ Obligations.BusOffAndRecovery := by
  intro h
  obtain ⟨hawake, hstaged, hrun, hmode, hstate, htec, hlimit⟩ := strayMailbox_meets
  obtain ⟨hoff, -⟩ := h 0 0 strayMailbox
  obtain ⟨t, hexec, -, hcount, -⟩ := hoff none hawake hstaged hrun hmode hstate htec hlimit
  have hsix : strayCount = t.rd (Reg.CFD_BUSOFF 0) := by
    rw [strayCount, show exec (.busError 0 .ack .tx8 ⟨false, none⟩) strayMailbox = .next t from hexec]
  have hone : t.rd (Reg.CFD_BUSOFF 0) = satInc 0 := hcount.trans (congrArg satInc strayMailbox_busoff)
  rw [strayCount_eq, hone] at hsix
  exact absurd hsix (by decide)

end

section
/-!
The reception of CAN frames (R245 to R249): what counts a frame comes before the filters, and leaves what they read.
-/

namespace Sys2Proof.Machine

variable {s t : State} {n : CanNo} {f : CanFrame}

/-! ## What the filters read -/

/-- Only the unit's state, its counters, and the work of its region differ, and not the receive queue. -/
structure RxSide (s t : State) (n : CanNo) : Prop where
  frame : { t with regs := s.regs, can := s.can, dev := s.dev, waking := s.waking } = s
  held : t.dev.held = s.dev.held
  regs : RegsBut s t [Reg.CFD_RX_FRAMES n, Reg.CFD_ERRC n, Reg.GEN_REGION_STEP]
  rxq : (t.canU n).rxq = (s.canU n).rxq
  rxSeq : (t.canU n).rxSeq = (s.canU n).rxSeq
  mtx : (t.canU n).mtx = (s.canU n).mtx

namespace RxSide

theorem refl (s : State) (n : CanNo) : RxSide s s n := ⟨rfl, rfl, RegsBut.refl s _, rfl, rfl, rfl⟩

theorem wr (h : RxSide s t n) {a : Nat} (v : Word)
    (ha : a ∈ [Reg.CFD_RX_FRAMES n, Reg.CFD_ERRC n, Reg.GEN_REGION_STEP]) : RxSide s (t.wr a v) n :=
  ⟨h.frame, h.held, h.regs.wr v ha, h.rxq, h.rxSeq, h.mtx⟩

theorem regionWork (h : RxSide s t n) (u : Nat) : RxSide s (t.regionWork u) n := by
  obtain ⟨R, D, K, hop, hheld, hregs⟩ := t.regionWork_spec u
  rw [hop]
  exact ⟨h.frame, hheld.trans h.held, h.regs.trans (hregs.mono fun a ha => by
    rw [List.mem_singleton.mp ha]
    exact List.mem_cons_of_mem _ (List.mem_cons_of_mem _ List.mem_cons_self)), h.rxq, h.rxSeq, h.mtx⟩

theorem rd (h : RxSide s t n) {a : Nat} (ha : a < 0x200000) (hne : a ≠ Reg.GEN_REGION_STEP) : t.rd a = s.rd a :=
  h.regs a (by
    have := le_unitReg (Reg.canUnit n) 0x18
    have := le_unitReg (Reg.canUnit n) 0x604
    simp only [List.mem_cons, List.not_mem_nil, or_false, Reg.CFD_RX_FRAMES, Reg.CFD_ERRC, Reg.canBase]
    omega)

theorem tables (h : RxSide s t n) (g : Gen) : t.tables g = s.tables g := by
  have htbl : t.tbl = s.tbl := (congrArg State.tbl h.frame :)
  have hold : t.tblOld = s.tblOld := (congrArg State.tblOld h.frame :)
  simp only [State.tables, htbl, hold, h.rd (a := Reg.STR_GEN) (by decide) (by decide)]

theorem genAt (h : RxSide s t n) (l : Nat) : t.genAt l = s.genAt l := by
  have hstr : t.str = s.str := (congrArg State.str h.frame :)
  rw [State.genAt, hstr, h.rd (a := Reg.STR_GEN) (by decide) (by decide),
    h.rd (a := Reg.STR_GEN_DRAIN) (by decide) (by decide), State.genAt]

theorem acceptBy (h : RxSide s t n) (g : Gen) : t.acceptBy g n f = s.acceptBy g n f := by
  simp only [State.acceptBy, State.entriesAt, State.afW, State.twG, h.tables]

theorem afW (h : RxSide s t n) (g : Gen) (i w : Nat) : t.afW g n i w = s.afW g n i w := by
  simp only [State.afW, State.twG, h.tables]

theorem policies (h : RxSide s t n) : t.policies (t.rd Reg.STR_GEN) = s.policies (s.rd Reg.STR_GEN) := by
  rw [h.rd (a := Reg.STR_GEN) (by decide) (by decide)]
  simp only [State.policies, State.entriesAt, State.polW, State.twG, h.tables]

theorem mtxNext (h : RxSide s t n) : t.mtxNext n = s.mtxNext n := by
  have htbl : t.tbl = s.tbl := (congrArg State.tbl h.frame :)
  have hwords : t.mtxPendWords n = s.mtxPendWords n := by rw [State.mtxPendWords, htbl, State.mtxPendWords]
  rw [State.mtxNext, hwords, h.mtx, State.mtxNext]

theorem stamp (h : RxSide s t n) : t.stamp = s.stamp := by
  have htb : t.tb = s.tb := (congrArg State.tb h.frame :)
  have hs : t.slewPpm = s.slewPpm := by
    rw [State.slewPpm, State.fld, h.rd (a := Reg.TMB_SLEW) (by decide) (by decide), State.slewPpm, State.fld]
  simp only [State.stamp, State.disc, State.disc16, State.disc16At, State.slewDone, State.rateTerm, htb, hs,
    h.rd (a := Reg.TMB_RATE) (by decide) (by decide)]

end RxSide

/-! ## What counts a frame -/

/-- A unit that has received a frame has counted it and lowered REC. -/
def State.rxCounted (s : State) (n : Nat) : State :=
  ((s.tick (Reg.CFD_RX_FRAMES n)).setFld (Reg.CFD_ERRC_REC n) (s.fld (Reg.CFD_ERRC_REC n) - 1)).regionWork
    (Reg.canUnit n)

theorem State.rxCounted_side (s : State) (n : CanNo) : RxSide s (s.rxCounted n) n :=
  (((RxSide.refl s n).wr (s.rd (Reg.CFD_RX_FRAMES n) + 1) List.mem_cons_self).wr _
    (List.mem_cons_of_mem _ List.mem_cons_self)).regionWork _

theorem State.rxCounted_frames (s : State) (n : CanNo) :
    (s.rxCounted n).rd (Reg.CFD_RX_FRAMES n) = s.rd (Reg.CFD_RX_FRAMES n) + 1 := by
  obtain ⟨R, D, K, hop, -, hregs⟩ := State.regionWork_spec ((s.tick (Reg.CFD_RX_FRAMES n)).setFld
    (Reg.CFD_ERRC_REC n) (s.fld (Reg.CFD_ERRC_REC n) - 1)) (Reg.canUnit n)
  have hstep : Reg.CFD_RX_FRAMES n ∉ [Reg.GEN_REGION_STEP] := fun h => absurd (List.mem_singleton.mp h) (by
    have := le_unitReg (Reg.canUnit n) 0x604
    have : Reg.GEN_REGION_STEP < 0x200000 := by decide
    simp only [Reg.CFD_RX_FRAMES, Reg.canBase]
    omega)
  have hne : Reg.CFD_RX_FRAMES n ≠ Reg.CFD_ERRC n := by
    simp only [Reg.CFD_RX_FRAMES, Reg.CFD_ERRC]
    omega
  rw [rxCounted, hop]
  exact (hregs _ hstep).trans ((State.rd_setFld_ne _ (f := Reg.CFD_ERRC_REC n) _ hne).trans (s.rd_wr_same _ _))

theorem State.recGood_low (s : State) (n : CanNo) (hrec : s.fld (Reg.CFD_ERRC_REC n) ≤ 127) :
    (s.tick (Reg.CFD_RX_FRAMES n)).recGood n =
      (s.tick (Reg.CFD_RX_FRAMES n)).setFld (Reg.CFD_ERRC_REC n) (s.fld (Reg.CFD_ERRC_REC n) - 1) := by
  have hsame : (s.tick (Reg.CFD_RX_FRAMES n)).fld (Reg.CFD_ERRC_REC n) = s.fld (Reg.CFD_ERRC_REC n) :=
    s.fld_wr_ne _ (show Reg.CFD_ERRC n ≠ Reg.CFD_RX_FRAMES n by simp only [Reg.CFD_ERRC, Reg.CFD_RX_FRAMES]; omega)
  unfold recGood
  extract_lets r
  have hr : r = s.fld (Reg.CFD_ERRC_REC n) := hsame
  rw [hr, if_neg (by omega)]

theorem State.lowered_confine (s : State) (n : CanNo) (hstate : s.errState n = 0)
    (htec : s.fld (Reg.CFD_ERRC_TEC n) ≤ 127) (hrec : s.fld (Reg.CFD_ERRC_REC n) ≤ 127) :
    ((s.tick (Reg.CFD_RX_FRAMES n)).setFld (Reg.CFD_ERRC_REC n) (s.fld (Reg.CFD_ERRC_REC n) - 1)).canConfine n =
      (s.tick (Reg.CFD_RX_FRAMES n)).setFld (Reg.CFD_ERRC_REC n) (s.fld (Reg.CFD_ERRC_REC n) - 1) := by
  have hne : Reg.CFD_ERRC n ≠ Reg.CFD_RX_FRAMES n := by
    simp only [Reg.CFD_ERRC, Reg.CFD_RX_FRAMES]
    omega
  have hst : (Reg.CFD_ERRC_REC n).apart (Reg.CFD_ERRC_STATE n) := by simp [Fld.apart]
  have hte : (Reg.CFD_ERRC_REC n).apart (Reg.CFD_ERRC_TEC n) := by simp [Fld.apart]
  refine State.canConfine_active ?_ ?_ ?_
  · exact (State.fld_setFld_apart _ _ hst).trans ((s.fld_wr_ne _ hne).trans hstate)
  · rw [State.fld_setFld_apart _ _ hte, tick, s.fld_wr_ne _ hne]
    exact htec
  · rw [State.fld_setFld_same _ (Reg.CFD_ERRC_REC n) _ (show 0 + 9 ≤ 32 by decide)]
    exact (Nat.mod_le _ _).trans ((Nat.sub_le _ _).trans hrec)

theorem State.resyncExamine_none (h : s.policies (s.rd Reg.STR_GEN) = []) : s.resyncExamine f = s := by
  unfold resyncExamine
  extract_lets g
  rw [show s.policies g = [] from h]
  rfl

theorem State.mtxReference_none (h : s.mtxNext n = none) (ident : Nat) (ide : Bool) (data : List Byte) (sof16 : Nat) :
    s.mtxReference n ident ide data sof16 = s := by
  unfold mtxReference
  rw [h]

/-- A unit as the statement has it, which takes every frame to its filters. -/
structure Listening (s : State) (n : CanNo) : Prop where
  mode : s.canMode n = 1
  state : s.errState n = 0
  tec : s.fld (Reg.CFD_ERRC_TEC n) ≤ 127
  rec_ : s.fld (Reg.CFD_ERRC_REC n) ≤ 127
  next : s.mtxNext n = none
  policies : s.policies (s.rd Reg.STR_GEN) = []

theorem State.canTake_eq (h : Listening s n) (sof16 : Nat) : s.canTake n f sof16 =
    (s.acceptBy (s.genAt sof16) n f).elim ((s.rxCounted n).bump (Reg.CFD_RX_NOMATCH n))
      fun i => (s.rxCounted n).canAccept (s.genAt sof16) n i f := by
  have hside := s.rxCounted_side n
  have hresync : (s.rxCounted n).resyncExamine f = s.rxCounted n :=
    State.resyncExamine_none (hside.policies.trans h.policies)
  have href := State.mtxReference_none (hside.mtxNext.trans h.next) f.ident.toNat f.ide (canPayload f) sof16
  unfold canTake
  dsimp only
  rw [if_pos (show s.canMode n = canNormal from h.mode), s.recGood_low n h.rec_,
    s.lowered_confine n h.state h.tec h.rec_, ← rxCounted, hresync, href, hside.genAt, hside.acceptBy]
  cases s.acceptBy (s.genAt sof16) n f <;> rfl

/-! ## The receive queue -/

/-- The queue of a receiver that an entry joins (R248): over the oldest one if 128 are waiting. -/
def QueuedOver (q q' : List (List Word)) (e : List Word) : Prop :=
  if q.length < 128 then q' = q ++ [e] else ∃ old o rest, q = old :: o :: rest ∧ q' = rxGap o :: rest ++ [e]

/-- The queue after an entry, as `State.rxPush` forms it. -/
def rxJoined (q : List (List Word)) (e : List Word) : List (List Word) :=
  if decide (128 ≤ q.length) then (match q.tail with
    | [] => [e]
    | o :: os => rxGap o :: os ++ [e])
  else q ++ [e]

theorem rxJoined_over (q : List (List Word)) (e : List Word) : QueuedOver q (rxJoined q e) e := by
  unfold QueuedOver
  split
  case isTrue h => rw [rxJoined, decide_eq_false (by omega), if_neg Bool.false_ne_true]
  case isFalse h =>
    match q, h with
    | [], h => exact absurd (show ([] : List (List Word)).length < 128 by decide) h
    | [_], h => exact absurd (by simp) h
    | old :: o :: rest, h =>
      exact ⟨old, o, rest, rfl, by rw [rxJoined, decide_eq_true (by omega), if_pos rfl, List.tail_cons]⟩

theorem State.rxPush_spec (data : List Byte) (stamp : Word) (i : Nat) (hlevel : s.fld (Reg.CFD_RXQ_STATE_LEVEL n) = 0) :
    ∃ u : State, s.rxPush n f data stamp i false false false = u ∧
      { u with regs := s.regs, can := s.can } = s ∧
      RegsBut s u [Reg.CFD_RXQ_LOST n, Reg.CFD_RXQ_STATE n] ∧
      QueuedOver (s.canU n).rxq (u.canU n).rxq (rxEntry f data stamp (s.canU n).rxSeq i false false false) ∧
      (128 ≤ (s.canU n).rxq.length → u.rd (Reg.CFD_RXQ_LOST n) = satInc (s.rd (Reg.CFD_RXQ_LOST n))) := by
  have hne : Reg.CFD_RXQ_LOST n ≠ Reg.CFD_RXQ_STATE n := by
    simp only [Reg.CFD_RXQ_LOST, Reg.CFD_RXQ_STATE]
    omega
  unfold rxPush
  extract_lets x e full q t t₁ t₂ lev
  have hq : q = rxJoined x.rxq e := rfl
  have hlev : lev = 0 := hlevel
  rw [if_neg (fun h => h.1 hlev)]
  have hjoin : QueuedOver (s.canU n).rxq (t.canU n).rxq e := by
    rw [show (t.canU n).rxq = q from congrArg CanUnit.rxq (s.canU_setCan_same n _), hq]
    exact rxJoined_over _ e
  have ht : { t with regs := s.regs, can := s.can } = s := rfl
  have htregs : RegsBut s t [Reg.CFD_RXQ_LOST n, Reg.CFD_RXQ_STATE n] := RegsBut.refl s _
  have htrd : t.rd (Reg.CFD_RXQ_LOST n) = s.rd (Reg.CFD_RXQ_LOST n) := rfl
  clear_value t q
  refine ⟨t₂, rfl, ?_⟩
  by_cases hfull : 128 ≤ (s.canU n).rxq.length
  · have h1 : t₁ = t.bump (Reg.CFD_RXQ_LOST n) := if_pos (decide_eq_true hfull)
    have h2 : t₂ = (t.bump (Reg.CFD_RXQ_LOST n)).setFld (Reg.CFD_RXQ_STATE_PEAK n)
        (max (s.fld (Reg.CFD_RXQ_STATE_PEAK n)) q.length) := by rw [← h1]
    rw [h2]
    refine ⟨ht, (htregs.wr _ List.mem_cons_self).setFld _ _ (List.mem_cons_of_mem _ List.mem_cons_self), hjoin, ?_⟩
    intro _
    rw [State.rd_setFld_ne _ _ (show Reg.CFD_RXQ_LOST n ≠ (Reg.CFD_RXQ_STATE_PEAK n).addr from hne),
      State.rd_bump_same, htrd]
  · have h1 : t₁ = t := if_neg (by rw [decide_eq_true_iff]; exact hfull)
    have h2 : t₂ = t.setFld (Reg.CFD_RXQ_STATE_PEAK n) (max (s.fld (Reg.CFD_RXQ_STATE_PEAK n)) q.length) := by
      rw [← h1]
    rw [h2]
    exact ⟨ht, htregs.setFld _ _ (List.mem_cons_of_mem _ List.mem_cons_self), hjoin, fun h => absurd h hfull⟩

/-! ## A frame that the receive queue takes, and one that nothing takes -/

/-- What the reception of a frame leaves alone, and its count. -/
structure FrameTaken (s u : State) (n : CanNo) : Prop where
  frame : { u with regs := s.regs, can := s.can, dev := s.dev, waking := s.waking } = s
  held : u.dev.held = s.dev.held
  frames : u.rd (Reg.CFD_RX_FRAMES n) = s.rd (Reg.CFD_RX_FRAMES n) + 1

theorem State.canAccept_queue {g : Gen} {i : Nat} (hroute : bitOf (s.afW g n i 2) 15 = false)
    (hqueue : bitOf (s.afW g n i 2) 16 = true) :
    s.canAccept g n i f = s.rxPush n f (canPayload f) s.stamp i false false false := by
  unfold canAccept
  extract_lets u w2 route toQ data item queue
  have hq : toQ = true := hqueue
  rw [if_neg (fun h => absurd (hroute.symm.trans h) Bool.false_ne_true)]
  exact if_pos hq

theorem State.canTake_queued {i sof16 : Nat} (h : Listening s n) (hacc : s.acceptBy (s.genAt sof16) n f = some i)
    (hroute : bitOf (s.afW (s.genAt sof16) n i 2) 15 = false) (hqueue : bitOf (s.afW (s.genAt sof16) n i 2) 16 = true)
    (hlevel : s.fld (Reg.CFD_RXQ_STATE_LEVEL n) = 0) :
    ∃ u : State, s.canTake n f sof16 = u ∧ FrameTaken s u n ∧
      QueuedOver (s.canU n).rxq (u.canU n).rxq
        (rxEntry f (canPayload f) s.stamp (s.canU n).rxSeq i false false false) ∧
      (128 ≤ (s.canU n).rxq.length → u.rd (Reg.CFD_RXQ_LOST n) = satInc (s.rd (Reg.CFD_RXQ_LOST n))) := by
  have hside := s.rxCounted_side n
  have hcount := s.rxCounted_frames n
  have hops : s.canTake n f sof16 =
      (s.rxCounted n).rxPush n f (canPayload f) (s.rxCounted n).stamp i false false false := by
    rw [State.canTake_eq h, hacc]
    exact State.canAccept_queue ((congrArg (bitOf · 15) (hside.afW _ i 2)).trans hroute)
      ((congrArg (bitOf · 16) (hside.afW _ i 2)).trans hqueue)
  have hstep : Reg.GEN_REGION_STEP < 0x200000 := by decide
  have hunit := le_unitReg (Reg.canUnit n)
  have hlev : (s.rxCounted n).fld (Reg.CFD_RXQ_STATE_LEVEL n) = 0 :=
    (hside.regs.fld (f := Reg.CFD_RXQ_STATE_LEVEL n) (by
    have := hunit 0x180
    simp only [List.mem_cons, List.not_mem_nil, or_false, Reg.CFD_RX_FRAMES, Reg.CFD_ERRC, Reg.CFD_RXQ_STATE,
      Reg.canBase]
    omega)).trans hlevel
  obtain ⟨u, hop, hframe, hregs, hjoin, hlost⟩ := State.rxPush_spec (f := f) (canPayload f) (s.rxCounted n).stamp i hlev
  refine ⟨u, hops.trans hop, ⟨?_, ?_, ?_⟩, ?_, ?_⟩
  · exact (congrArg (fun x : State => { x with regs := s.regs, can := s.can, dev := s.dev, waking := s.waking })
      hframe).trans hside.frame
  · exact (congrArg (fun x : State => x.dev.held) hframe).trans hside.held
  · exact (hregs _ (by
      simp only [List.mem_cons, List.not_mem_nil, or_false, Reg.CFD_RX_FRAMES, Reg.CFD_RXQ_LOST, Reg.CFD_RXQ_STATE]
      omega)).trans hcount
  · rw [hside.rxq, hside.rxSeq, hside.stamp] at hjoin
    exact hjoin
  · intro hfull
    rw [hlost (by rw [hside.rxq]; exact hfull), hside.regs _ (by
      have := hunit 0x624
      simp only [List.mem_cons, List.not_mem_nil, or_false, Reg.CFD_RX_FRAMES, Reg.CFD_ERRC, Reg.CFD_RXQ_LOST,
        Reg.canBase]
      omega)]

theorem State.canTake_unmatched {sof16 : Nat} (h : Listening s n) (hacc : s.acceptBy (s.genAt sof16) n f = none) :
    ∃ u : State, s.canTake n f sof16 = u ∧ FrameTaken s u n ∧ (u.canU n).rxq = (s.canU n).rxq ∧
      u.rd (Reg.CFD_RX_NOMATCH n) = satInc (s.rd (Reg.CFD_RX_NOMATCH n)) := by
  have hside := s.rxCounted_side n
  have hcount := s.rxCounted_frames n
  refine ⟨(s.rxCounted n).bump (Reg.CFD_RX_NOMATCH n), by rw [State.canTake_eq h, hacc, Option.elim_none],
    ⟨hside.frame, hside.held, ?_⟩,
    hside.rxq, ?_⟩
  · rw [State.rd_bump_ne _ (by simp only [Reg.CFD_RX_FRAMES, Reg.CFD_RX_NOMATCH]; omega)]
    exact hcount
  · rw [State.rd_bump_same, hside.regs _ (by
      have := le_unitReg (Reg.canUnit n) 0x630
      have : Reg.GEN_REGION_STEP < 0x200000 := by decide
      simp only [List.mem_cons, List.not_mem_nil, or_false, Reg.CFD_RX_FRAMES, Reg.CFD_ERRC, Reg.CFD_RX_NOMATCH,
        Reg.canBase]
      omega)]

/-- The unit no longer sees a frame coming in. -/
def State.frameOver (s : State) (n : Nat) : State := s.setCan n { s.canU n with receiving := false }

theorem State.frameOver_canU (s : State) (n : Nat) :
    (s.frameOver n).canU n = { s.canU n with receiving := false } := s.canU_setCan_same n _

theorem State.canReceive_eq {age : Nat} {u : State} (h : Listening s n) (hstaged : s.staged = [])
    (hbus : s.canOnBus n = true) (hidle : (s.canU n).onBus = none) (hwas : (s.canU n).modeWas = none)
    (hpins : s.pinsSeen (Reg.canUnit n) = true) (hfd : f.fdf = false ∨ s.fdEn n = true)
    (htake : (s.frameOver n).canTake n f (s.tb.local16 - age * 65536) = u)
    (hu : u.staged = s.staged) : s.canReceive n f age = u := by
  have hwas' : (s.frameOver n).modeBack n (s.tb.local16 - age * 65536) = s.frameOver n := by
    rw [modeBack, State.frameOver_canU, hwas]
  have hidle' : ((s.frameOver n).canU n).onBus = none := by rw [State.frameOver_canU, hidle]
  have hmode : (s.frameOver n).canMode n = 1 := h.mode
  have hend : u.frameEnd (Reg.canUnit n) = u := State.applyStaged_nil (hu.trans hstaged) _
  unfold canReceive
  dsimp only
  rw [← frameOver, hwas', hidle', hmode, show (s.frameOver n).canOnBus n = true from hbus,
    show (s.frameOver n).pinsSeen (Reg.canUnit n) = true from hpins, if_neg (by decide), if_neg (by decide),
    if_neg (by
      intro hc
      rw [Bool.and_eq_true, Bool.not_eq_true'] at hc
      obtain ⟨hf, he⟩ := hc
      obtain h | h := hfd
      · exact absurd (hf.symm.trans h) Bool.false_ne_true.symm
      · exact absurd (he.symm.trans h) Bool.false_ne_true), htake, hend]

theorem Listening.over (h : Listening s n) : Listening (s.frameOver n) n :=
  ⟨h.mode, h.state, h.tec, h.rec_, by
    rw [State.mtxNext, State.frameOver_canU]
    exact h.next, h.policies⟩

/-- The state that a received frame leaves, as far as its command may change it. -/
def State.receivedInto (s t : State) : State :=
  { s with
    regs := t.regs, staged := t.staged, eqs := t.eqs, out := t.out, freeCnt := t.freeCnt, sig := t.sig,
    limits := t.limits, engines := t.engines, waking := t.waking, mbs := t.mbs, can := t.can, slots := t.slots,
    pols := t.pols, holdBuf := t.holdBuf, nextId := t.nextId, dev := t.dev }

theorem completes_received {age : Nat} {u : State} {P : State → Prop} (h : s.awake)
    (hop : s.canReceive n f age = u) (hheld : u.dev.held = s.dev.held) (hP : P (s.receivedInto u)) :
    Completes (.canFrameReceived n f age) s P :=
  completes_device (fun s => s.canReceive n f age) State.receivedInto h rfl hop rfl
    (hheld.trans h) hP

end Sys2Proof.Machine

open Sys2Proof.Machine in
/-- Settles O35: the unit counts the frame, lowers REC, and no policy and no matrix looks at it; the filters then read
the tables as they were, and the entry joins the receive queue, or the frame counts in RX_NOMATCH. -/
theorem canFramesAreReceived : Obligations.CanFramesAreReceived := by
  unfold Obligations.CanFramesAreReceived
  intro n f age s h hstaged hbus hidle hwas hpins hmode hstate htec hrec hfd hnext hpol hlevel
  have hl : Listening s n := ⟨hmode, hstate, htec, hrec, hnext, hpol⟩
  have hqueue := congrArg CanUnit.rxq (s.frameOver_canU n)
  have hseq := congrArg CanUnit.rxSeq (s.frameOver_canU n)
  constructor
  · intro i hacc hroute hq
    obtain ⟨u, hop, ⟨hframe, hheld, hframes⟩, hjoin, hlost⟩ := State.canTake_queued hl.over hacc hroute hq hlevel
    have hrec' := State.canReceive_eq hl hstaged hbus hidle hwas hpins hfd hop (congrArg State.staged hframe :)
    rw [hqueue, hseq] at hjoin
    rw [hqueue] at hlost
    refine completes_received h hrec' hheld ⟨?_, hframes, (congrArg State.sig hframe :), SameBytes.of_mems ?_⟩
    · dsimp only
      unfold QueuedOver at hjoin
      split
      case isTrue hfew => rwa [if_pos hfew] at hjoin
      case isFalse hfull =>
        rw [if_neg hfull] at hjoin
        obtain ⟨old, o, rest, hold, hnew⟩ := hjoin
        exact ⟨old, o, rest, hold, hnew, hlost (Nat.le_of_not_lt hfull)⟩
    · exact congrArg (fun held => (s.mem, s.flash, held)) hheld
  · intro hacc
    obtain ⟨u, hop, ⟨hframe, hheld, hframes⟩, hjoin, hlost⟩ := State.canTake_unmatched hl.over hacc
    have hrec' := State.canReceive_eq hl hstaged hbus hidle hwas hpins hfd hop (congrArg State.staged hframe :)
    exact completes_received h hrec' hheld ⟨hlost, hjoin.trans hqueue, hframes, (congrArg State.sig hframe :),
      SameBytes.of_mems (congrArg (fun held => (s.mem, s.flash, held)) hheld)⟩
end

section
/-!
Schedule matrices (R183, R252 to R255): ARM and STOP, the cycle starts, the windows, and the missing reference.
-/

namespace Sys2Proof.Machine

variable {s : State} {n : CanNo}

theorem exec_of_completes {c : Instr} {v : State} (h : Completes c s (· = v)) : exec c s = .next v := by
  obtain ⟨t, hexec, rfl⟩ := h
  exact hexec

/-! ## The matrix of a unit -/

theorem State.mtx_setMtx (s : State) (n : Nat) (x : MtxRun) : ((s.setMtx n x).canU n).mtx = x :=
  congrArg CanUnit.mtx (s.canU_setCan_same n _)

/-- Closing a window changes nothing of the matrix but that its misses have been counted. -/
theorem State.mtxClose_mtx (s : State) (n : Nat) :
    ∃ c, ((s.mtxClose n).canU n).mtx = { (s.canU n).mtx with missed := c } := by
  unfold mtxClose
  extract_lets x
  split
  · split
    · exact ⟨true, s.mtx_setMtx n _⟩
    · exact ⟨x.missed, rfl⟩
  · exact ⟨x.missed, rfl⟩

/-! ## A cycle starts -/

theorem State.mtxCycle_spec (s : State) (n : CanNo) (b l : Nat) (y : MtxRun) :
    ∃ u : State, s.mtxCycle n b l y = u ∧ (u.canU n).mtx.active = true ∧
      (u.canU n).mtx.pending = ((s.canU n).mtx.pending && y.pending) ∧ (u.canU n).mtx.cycle = some b ∧
      (u.canU n).mtx.start16 = l ∧ (u.canU n).mtx.words = y.words ∧
      u.rd (Reg.CFD_MTX_CYCLES n) = s.rd (Reg.CFD_MTX_CYCLES n) + 1 := by
  have hclose : (s.mtxClose n).rd (Reg.CFD_MTX_CYCLES n) = s.rd (Reg.CFD_MTX_CYCLES n) :=
    s.mtxClose_rd_ne n (by simp only [Reg.CFD_MTX_CYCLES, Reg.CFD_WIN_MISS]; omega)
  have hpend : ((s.mtxClose n).canU n).mtx.pending = (s.canU n).mtx.pending := by
    obtain ⟨c, hc⟩ := s.mtxClose_mtx n
    rw [hc]
  have hne : Reg.CFD_MTX_CYCLES n ≠ Reg.CFD_MTX_START_TS n := by
    simp only [Reg.CFD_MTX_CYCLES, Reg.CFD_MTX_START_TS]
    omega
  unfold mtxCycle
  extract_lets t x keep v
  have hv : ∃ z : MtxRun, (v.canU n).mtx = z ∧ z.active = true ∧ z.pending = (x.pending && y.pending) ∧
      z.cycle = some b ∧ z.start16 = l ∧ z.words = y.words := ⟨_, t.mtx_setMtx n _, rfl, rfl, rfl, rfl, rfl⟩
  have hvrd : v.rd (Reg.CFD_MTX_CYCLES n) = s.rd (Reg.CFD_MTX_CYCLES n) := hclose
  have hx : x.pending = (s.canU n).mtx.pending := hpend
  clear_value v
  obtain ⟨z, hz, hactive, hpending, hcycle, hstart, hwords⟩ := hv
  have hcan : (((v.tick (Reg.CFD_MTX_CYCLES n)).wr (Reg.CFD_MTX_START_TS n) (s.stampAt l)).canU n).mtx = z := hz
  refine ⟨_, rfl, ?_⟩
  rw [hcan, ← hx]
  refine ⟨hactive, hpending, hcycle, hstart, hwords, ?_⟩
  rw [State.rd_wr_ne _ _ hne, State.tick, State.rd_wr_same, hvrd]

/-! ## ARM and STOP -/

theorem State.mtxArm_spec (hpend : (s.canU n).mtx.pending = true) :
    ∃ u : State, s.mtxArm n = u ∧ (u.canU n).mtx.armed = true ∧
      (u.canU n).mtx.active = (s.canU n).mtx.active ∧ (u.canU n).mtx.cycle = (s.canU n).mtx.cycle ∧
      (({ words := s.mtxPendWords n : MtxRun }.src = 3) → (u.canU n).mtx.takeDue =
        some (gridStart (s.rd64 (Reg.CFD_MTX_BASE_LO n)).toNat ({ words := s.mtxPendWords n : MtxRun }.cycleNs)
          s.discUp)) ∧
      { u with can := s.can } = s := by
  unfold mtxArm
  extract_lets x p
  have hx : x.pending = true := hpend
  rw [if_neg (by rw [hx]; decide)]
  split
  case isTrue => exact ⟨_, rfl, by rw [State.mtx_setMtx], by rw [State.mtx_setMtx], by rw [State.mtx_setMtx],
    fun _ => by rw [State.mtx_setMtx], rfl⟩
  case isFalse hsrc => exact ⟨_, rfl, by rw [State.mtx_setMtx], by rw [State.mtx_setMtx], by rw [State.mtx_setMtx],
    fun h => absurd h hsrc, rfl⟩

theorem State.mtxStop_spec (s : State) (n : Nat) :
    ∃ u : State, s.mtxStop n = u ∧ (u.canU n).mtx.active = false ∧ (u.canU n).mtx.cycle = none ∧
      (u.canU n).mtx.window = none ∧ OnlyRegs { s with can := u.can } u [Reg.CFD_WIN_MISS n] := by
  unfold mtxStop
  extract_lets t
  refine ⟨_, rfl, by rw [State.mtx_setMtx], by rw [State.mtx_setMtx], by rw [State.mtx_setMtx], ?_, ?_⟩
  · have hframe : ∀ c, { t with regs := s.regs, can := c } = { s with can := c } :=
      fun c => congrArg (fun x : State => { x with can := c }) (s.mtxClose_onlyRegs n).1
    exact hframe _
  · exact (s.mtxClose_onlyRegs n).2

/-! ## The cycle starts of a unit -/

theorem State.mtxCycleStart_time {d : Int} (hpend : (s.canU n).mtx.pending = true) (harm : (s.canU n).mtx.armed = true)
    (hdue : (s.canU n).mtx.takeDue = some d) (htime : d * 65536 ≤ s.disc16) :
    ∃ u : State, s.mtxCycleStart n = u ∧ (u.canU n).mtx.active = true ∧ (u.canU n).mtx.pending = false ∧
      (u.canU n).mtx.start16 = s.tb.local16 ∧ (u.canU n).mtx.words = s.mtxPendWords n ∧
      u.rd (Reg.CFD_MTX_CYCLES n) = s.rd (Reg.CFD_MTX_CYCLES n) + 1 ∧
      (d ≠ (s.canU n).mtx.armBase → u.flag (Reg.CFD_FLAGS_LATE_START n) = true) := by
  have hclose : Reg.CFD_MTX_CYCLES n ≠ Reg.CFD_FLAGS n := by
    simp only [Reg.CFD_MTX_CYCLES, Reg.CFD_FLAGS]
    omega
  have hlow : Reg.CFD_MTX_CYCLES n < 0x3000000 := canReg_lt n (by decide)
  have hlow' : Reg.CFD_FLAGS n < 0x3000000 := canReg_lt n (by decide)
  unfold mtxCycleStart
  extract_lets x due d' t
  have hd' : d' = d := congrArg (Option.getD · 0) hdue
  have hx : (x.pending && x.armed && due x.takeDue) = true := by
    have hp : x.pending = true := hpend
    have ha : x.armed = true := harm
    have ht : x.takeDue = some d := hdue
    rw [hp, ha, ht]
    exact decide_eq_true htime
  obtain ⟨u, hu, hactive, hpending, -, hstart, hwords, hcycles⟩ := s.mtxCycle_spec n
    (((d' - x.armBase) / ({ words := s.mtxPendWords n, armBase := x.armBase : MtxRun }.cycleNs : Int) %
      ({ words := s.mtxPendWords n, armBase := x.armBase : MtxRun }.ncyc + 1)).toNat) s.tb.local16
    { words := s.mtxPendWords n, armBase := x.armBase, base := x.armBase
      nextDue := some (d' + ({ words := s.mtxPendWords n, armBase := x.armBase : MtxRun }.cycleNs : Int)) }
  have ht : t = u := hu
  have hpending' : (u.canU n).mtx.pending = false := hpending.trans (Bool.and_false _)
  rw [if_pos hx, ht, hd']
  split
  case isTrue =>
    refine ⟨_, rfl, ?_⟩
    have hcan : (((u.setFld (Reg.CFD_FLAGS_LATE_START n) 1).postEvent 0x04A (Reg.canUnit n)
        (BitVec.ofInt 32 d)).canU n) = u.canU n := rfl
    rw [hcan]
    refine ⟨hactive, hpending', hstart, hwords, ?_, fun _ => ?_⟩
    · rw [postEvent_rd _ _ _ _ hlow, State.rd_setFld_ne _ _ hclose, hcycles]
    · rw [State.flag, postEvent_fld _ _ _ _ hlow', ← State.flag]
      exact State.flag_setFld_one _ _ rfl (by simp)
  case isFalse heq => exact ⟨u, rfl, hactive, hpending', hstart, hwords, hcycles, fun h => absurd h heq⟩

theorem State.mtxCycleStart_next {b : Nat} (hpend : (s.canU n).mtx.pending = false)
    (hactive : (s.canU n).mtx.active = true) (hsrc : (s.canU n).mtx.src ≤ 1) (hcycle : (s.canU n).mtx.cycle = some b)
    (hwanted : (s.canU n).mtx.wanted = none)
    (htime : (s.canU n).mtx.start16 + (s.canU n).mtx.cycleNs * 65536 ≤ s.tb.local16) :
    s.mtxCycleStart n = s.mtxCycle n ((b + 1) % ((s.canU n).mtx.ncyc + 1))
      ((s.canU n).mtx.start16 + (s.canU n).mtx.cycleNs * 65536) (s.canU n).mtx := by
  have hnext : s.mtxNext n = some (s.canU n).mtx := by
    unfold mtxNext
    extract_lets x p
    have hp : x.pending = false := hpend
    have ha : x.active = true := hactive
    rw [hp, Bool.false_and, Bool.false_and, if_neg Bool.false_ne_true, if_pos ha]
  unfold mtxCycleStart
  dsimp only
  rw [hpend, hactive, hcycle, hwanted, hnext, Bool.false_and, Bool.false_and, if_neg Bool.false_ne_true,
    if_neg (by decide), if_neg (by omega)]
  exact if_pos ⟨hsrc, rfl, htime⟩

theorem State.mtxWindow_open {b : Nat} (w : Nat) (hactive : (s.canU n).mtx.active = true)
    (hcycle : (s.canU n).mtx.cycle = some b) (hwin : (s.canU n).mtx.window = none)
    (htype : (s.canU n).mtx.winType b w ≠ 0) (hre : (s.canU n).mtx.rephased = false)
    (hwanted : (s.canU n).mtx.wanted = none)
    (htime : (s.canU n).mtx.start16 + ((s.canU n).mtx.winSpan b w).1 ≤ s.tb.local16) :
    s.mtxWindow n w = s.setMtx n { (s.canU n).mtx with
      window := some w, open16 := (s.canU n).mtx.start16 + ((s.canU n).mtx.winSpan b w).1, sent := false
      missed := false } := by
  unfold mtxWindow
  dsimp only
  rw [State.mtxClose_closed hwin, hcycle, hactive, hwin, hre, hwanted]
  exact if_pos (by rw [bne_iff_ne.mpr htype, decide_eq_true htime]; rfl)

/-! ## The reference does not come -/

theorem State.mtxRefMiss_spec {b : Nat} (hactive : (s.canU n).mtx.active = true) (hsrc : (s.canU n).mtx.src = 2)
    (hcycle : (s.canU n).mtx.cycle = some b)
    (htime : 2 * (s.canU n).mtx.start16 + 3 * ((s.canU n).mtx.cycleNs * 65536) ≤ 2 * s.tb.local16) :
    ∃ u : State, s.mtxRefMiss n = u ∧ (u.canU n).mtx.cycle = none ∧
      u.flag (Reg.CFD_FLAGS_MTX_REF_MISS n) = true ∧ Posts s u 0x049 (Reg.canUnit n + b * 256) 0 := by
  have hside := UnitSide.mtxClose s n
  have heqs : (s.mtxClose n).eqs = s.eqs := (congrArg State.eqs (s.mtxClose_onlyRegs n).1 :)
  unfold mtxRefMiss
  extract_lets x
  have hx : x.cycle = some b := hcycle
  rw [hx]
  dsimp only
  rw [if_pos ⟨hactive, hsrc, htime⟩]
  refine ⟨_, rfl, ?_, ?_, ?_⟩
  · exact congrArg MtxRun.cycle (State.mtx_setMtx (s.mtxClose n) n _)
  · rw [State.flag, postEvent_fld _ _ _ _ (canReg_lt n (by decide)), ← State.flag]
    exact State.flag_setFld_one _ _ rfl (by simp)
  · exact postEvent_eqs_congr s (t := ((s.mtxClose n).setMtx n _).setFld _ 1) heqs hside.mem hside.tbl _ _ _

end Sys2Proof.Machine

open Sys2Proof.Machine in
/-- Settles O36: each command rewrites the matrix of its unit, once the misses of a window that is over are counted. -/
theorem matricesRun : Obligations.MatricesRun := by
  unfold Obligations.MatricesRun
  intro p n s
  dsimp only
  refine ⟨fun htakes => ⟨fun hpend => ?_, fun hpend => ?_, ?_⟩, ?_, ?_, ?_, ?_⟩
  · obtain ⟨u, hop, harmed, hactive, hcycle, hdue, hframe⟩ := State.mtxArm_spec hpend
    exact completes_onWrite (fun s t : State => { s with regs := t.regs, can := t.can }) htakes rfl
      (fun _ => ⟨rfl, rfl⟩) hop ⟨harmed, hactive, hcycle, hdue,
        congrArg (fun x : State => { s with regs := x.regs }) hframe⟩
  · have hop : s.mtxArm n = s := if_pos (by rw [Bool.not_eq_true']; exact hpend)
    exact exec_of_completes (completes_onWrite (fun s t : State => { s with regs := t.regs, can := t.can }) htakes rfl
      (fun _ => ⟨rfl, rfl⟩) hop rfl)
  · obtain ⟨u, hop, hactive, hcycle, hwin, hframe, hregs⟩ := s.mtxStop_spec n
    exact completes_onWrite (fun s t : State => { s with regs := t.regs, can := t.can }) htakes rfl
      (fun _ => ⟨rfl, rfl⟩) hop ⟨hactive, hcycle, hwin, rfl, hregs⟩
  · intro d h hpend harm hdue htime
    obtain ⟨u, hop, hP⟩ := State.mtxCycleStart_time hpend harm hdue htime
    exact completes_framed (fun s => s.mtxCycleStart n)
      (fun s t : State => { s with regs := t.regs, eqs := t.eqs, out := t.out, can := t.can }) h rfl
      (fun _ => ⟨rfl, rfl⟩) hop hP
  · intro b h hpend hactive hsrc hcycle hwanted htime
    have hop := State.mtxCycleStart_next hpend hactive hsrc hcycle hwanted htime
    obtain ⟨u, hu, -, -, hcyc, hstart, hwords, hcycles⟩ := s.mtxCycle_spec n ((b + 1) % ((s.canU n).mtx.ncyc + 1))
      ((s.canU n).mtx.start16 + (s.canU n).mtx.cycleNs * 65536) (s.canU n).mtx
    exact completes_framed (fun s => s.mtxCycleStart n)
      (fun s t : State => { s with regs := t.regs, eqs := t.eqs, out := t.out, can := t.can }) h rfl
      (fun _ => ⟨rfl, rfl⟩) (hop.trans hu) ⟨hcyc, hstart, hwords, hcycles⟩
  · intro b w h hactive hcycle hwin htype hre hwanted htime
    have hop := State.mtxWindow_open w hactive hcycle hwin htype hre hwanted htime
    exact exec_of_completes (completes_framed (fun s => s.mtxWindow n w)
      (fun s t : State => { s with regs := t.regs, can := t.can }) h rfl (fun _ => ⟨rfl, rfl⟩) hop rfl)
  · intro b h hactive hsrc hcycle htime
    obtain ⟨u, hop, hcyc, hflag, hposts⟩ := State.mtxRefMiss_spec hactive hsrc hcycle htime
    exact completes_framed (fun s => s.mtxRefMiss n)
      (fun s t : State => { s with regs := t.regs, eqs := t.eqs, out := t.out, can := t.can }) h rfl
      (fun _ => ⟨rfl, rfl⟩) hop ⟨hcyc, hflag, hposts, SameBytes.of_mems rfl⟩
end

section
/-!
Resynchronisation frames (R416): the invocation of the key counts, and the delivery to the mailbox leaves the registers
of the cipher engine and its policies as they were.
-/

namespace Sys2Proof.Machine

variable {s t : State} {n : CanNo}

/-! ## The registers of the cipher engine -/

/-- The registers of the cipher engine read as before. -/
def SameCph (s t : State) : Prop := ∀ a, 0x170000 ≤ a → a < 0x172000 → t.rd a = s.rd a

namespace SameCph

theorem refl (s : State) : SameCph s s := fun _ _ _ => rfl

theorem trans {u : State} (h : SameCph s t) (h' : SameCph t u) : SameCph s u :=
  fun a hl hu => (h' a hl hu).trans (h a hl hu)

theorem wr (h : SameCph s t) {a : Nat} (v : Word) (ha : 0x172000 ≤ a) : SameCph s (t.wr a v) :=
  fun b hl hu => (t.rd_wr_ne v (by omega)).trans (h b hl hu)

theorem setFld (h : SameCph s t) (f : Fld) (v : Nat) (ha : 0x172000 ≤ f.addr) : SameCph s (t.setFld f v) := h.wr _ ha

theorem setMb (h : SameCph s t) (n m : Nat) (x : Mailbox) : SameCph s (t.setMb n m x) := h

theorem postEvent (h : SameCph s t) (code src : Nat) (data : Word) : SameCph s (t.postEvent code src data) :=
  fun a hl hu => (t.postEvent_rd code src data (by omega)).trans (h a hl hu)

theorem fld (h : SameCph s t) {f : Fld} (hl : 0x170000 ≤ f.addr) (hu : f.addr < 0x172000) : t.fld f = s.fld f := by
  rw [State.fld, h _ hl hu, State.fld]

theorem rd64 (h : SameCph s t) {a : Nat} (hl : 0x170000 ≤ a) (hu : a + 4 < 0x172000) : t.rd64 a = s.rd64 a := by
  rw [State.rd64, h a hl (by omega), h (a + 4) (by omega) hu, State.rd64]

theorem regionWork (h : SameCph s t) (u : Nat) : SameCph s (t.regionWork u) := by
  obtain ⟨R, D, K, hop, -, hregs⟩ := t.regionWork_spec u
  rw [hop]
  refine h.trans fun a hl hu => hregs a fun hm => ?_
  have : Reg.GEN_REGION_STEP < 0x170000 := by decide
  have := List.mem_singleton.mp hm
  omega

theorem mtxClose (h : SameCph s t) (n : Nat) : SameCph s (t.mtxClose n) := by
  refine h.trans fun a hl hu => t.mtxClose_rd_ne n ?_
  have := le_unitReg (Reg.canUnit n) 0x628
  simp only [Reg.CFD_WIN_MISS, Reg.canBase]
  omega

end SameCph

theorem State.keyUsable_congr (h : SameCph s t) {k : Nat} (hk : k < 64) : t.keyUsable k = s.keyUsable k := by
  have hst : t.slotState k = s.slotState k := h.fld
    (by simp only [Reg.CPH_SLOT_STATE]; omega) (by simp only [Reg.CPH_SLOT_STATE]; omega)
  have hcnt : t.slotCount k = s.slotCount k := by
    rw [slotCount, h.rd64 (by rw [Reg.CPH_SLOT_CNT_LO]; omega) (by rw [Reg.CPH_SLOT_CNT_LO]; omega), slotCount]
  have hlim : t.slotLimit k = s.slotLimit k := by
    rw [slotLimit, h.rd64 (by rw [Reg.CPH_SLOT_LIMIT_LO]; omega) (by rw [Reg.CPH_SLOT_LIMIT_LO]; omega), slotLimit]
  rw [keyUsable, hst, hcnt, hlim, keyUsable]

/-! ## A key is used -/

/-- What a warning and the exhaustion of a slot leave: the count and the policies. -/
structure SlotSide (s t : State) (k : Nat) : Prop where
  count : t.rd64 (Reg.CPH_SLOT_CNT_LO k) = s.rd64 (Reg.CPH_SLOT_CNT_LO k)
  resync : t.rd Reg.CPH_RESYNC_TX = s.rd Reg.CPH_RESYNC_TX
  pols : t.pols = s.pols

theorem SlotSide.stateEvent {k : Nat} (hk : k < 64) {f : Fld} (hf : f.addr = Reg.CPH_SLOT_STATE k) (v code : Nat)
    (data : Word) : SlotSide s ((s.setFld f v).postEvent code k data) k := by
  have hrd : ∀ a, a ≠ Reg.CPH_SLOT_STATE k → a < 0x3000000 →
      ((s.setFld f v).postEvent code k data).rd a = s.rd a := fun a ha hu =>
    (State.postEvent_rd _ _ _ _ hu).trans (s.rd_setFld_ne v (hf ▸ ha))
  have hcnt : Reg.CPH_RESYNC_TX < Reg.CPH_SLOT_STATE k ∧ Reg.CPH_SLOT_STATE k < Reg.CPH_SLOT_CNT_LO k ∧
      Reg.CPH_SLOT_CNT_LO k + 4 < 0x3000000 := by
    simp only [Reg.CPH_RESYNC_TX, Reg.CPH_SLOT_STATE, Reg.CPH_SLOT_CNT_LO]
    omega
  refine ⟨?_, hrd _ (by omega) (by decide), rfl⟩
  rw [State.rd64, hrd (Reg.CPH_SLOT_CNT_LO k) (by omega) (by omega), hrd (Reg.CPH_SLOT_CNT_LO k + 4) (by omega)
    (by omega), State.rd64]

theorem State.keyInvoke_side (s : State) {k : Nat} (hk : k < 64) :
    SlotSide (s.wr64 (Reg.CPH_SLOT_CNT_LO k) (BitVec.ofNat 64 ((s.slotCount k + 1) % 2 ^ 48))) (s.keyInvoke k) k := by
  have hwarn : ∀ t : State, SlotSide t (t.keyWarn k) k := fun t => by
    unfold keyWarn
    split
    · exact SlotSide.stateEvent hk rfl _ _ _
    · exact ⟨rfl, rfl, rfl⟩
  have hexhaust : ∀ t : State, SlotSide t (t.keyExhaust k) k := fun t => by
    unfold keyExhaust
    split
    · exact SlotSide.stateEvent hk rfl _ _ _
    · exact ⟨rfl, rfl, rfl⟩
  obtain ⟨hc, hr, hp⟩ := hwarn (s.wr64 (Reg.CPH_SLOT_CNT_LO k) (BitVec.ofNat 64 ((s.slotCount k + 1) % 2 ^ 48)))
  obtain ⟨hc', hr', hp'⟩ := hexhaust
    ((s.wr64 (Reg.CPH_SLOT_CNT_LO k) (BitVec.ofNat 64 ((s.slotCount k + 1) % 2 ^ 48))).keyWarn k)
  exact ⟨hc'.trans hc, hr'.trans hr, hp'.trans hp⟩

theorem State.keyInvoke_slotCount (s : State) {k : Nat} (hk : k < 64) :
    (s.keyInvoke k).slotCount k = (s.slotCount k + 1) % 2 ^ 48 := by
  rw [slotCount, (s.keyInvoke_side hk).count, State.rd64_wr64_same, BitVec.toNat_ofNat]
  omega

theorem State.keyInvoke_resync (s : State) {k : Nat} (hk : k < 64) :
    (s.keyInvoke k).rd Reg.CPH_RESYNC_TX = s.rd Reg.CPH_RESYNC_TX := by
  have hne : Reg.CPH_RESYNC_TX < Reg.CPH_SLOT_CNT_LO k := by
    simp only [Reg.CPH_RESYNC_TX, Reg.CPH_SLOT_CNT_LO]
    omega
  rw [(s.keyInvoke_side hk).resync, State.rd_wr64_ne s _ (by omega) (by omega)]

/-! ## The frame is handed to its mailbox -/

theorem mbStat_ge (n m : Nat) : 0x172000 ≤ Reg.CFD_MB_STAT n m := by
  have := le_unitReg (Reg.canUnit n) 0
  simp only [Reg.CFD_MB_STAT, Reg.canBase]
  omega

theorem State.mbPend_cph (s : State) (n m : Nat) : SameCph s (s.mbPend n m) ∧ (s.mbPend n m).pols = s.pols := by
  have hreg := mbStat_ge n m
  unfold mbPend
  split
  · exact ⟨(SameCph.refl s).setFld _ _ hreg, rfl⟩
  · exact ⟨((SameCph.refl s).setFld _ _ hreg).postEvent _ _ _, rfl⟩

theorem State.mbDeliver_cph (s : State) (n m : Nat) (ws : List Word) :
    SameCph s (s.mbDeliver n m ws) ∧ (s.mbDeliver n m ws).pols = s.pols := by
  have hunit : ∀ u k, 0x172000 ≤ Reg.unitBase u + k := fun u k =>
    (show 0x172000 ≤ 0x200000 by decide).trans (le_unitReg u k)
  have hstart : SameCph s ((s.regionWork (Reg.canUnit n)).mtxClose n) ∧
      ((s.regionWork (Reg.canUnit n)).mtxClose n).pols = s.pols := by
    refine ⟨((SameCph.refl s).regionWork _).mtxClose n, ?_⟩
    obtain ⟨R, D, K, hop, -⟩ := s.regionWork_spec (Reg.canUnit n)
    rw [hop]
    exact (congrArg State.pols (State.mtxClose_onlyRegs _ n).1 :)
  obtain ⟨hcph, hpols⟩ := hstart
  have hreplaced :
    ∀ (t : State) (c : Prop) [Decidable c], SameCph t (if c then t.bump (Reg.GWU_REPLACED (Reg.canUnit n)) else t)
      ∧ (if c then t.bump (Reg.GWU_REPLACED (Reg.canUnit n)) else t).pols = t.pols := fun t c _ => by
    split
    · exact ⟨(SameCph.refl t).wr _ (hunit _ _), rfl⟩
    · exact ⟨SameCph.refl t, rfl⟩
  unfold mbDeliver
  extract_lets u t t₁ t₂ t₃ t₄
  change SameCph s t at hcph
  change t.pols = s.pols at hpols
  clear_value t
  split
  · exact ⟨hcph.wr _ (hunit _ _), hpols⟩
  split
  · obtain ⟨h, hp⟩ := hreplaced t ((t.mb n m).held.isSome = true)
    exact ⟨((((hcph.trans h).setMb n m _).setFld _ _ (mbStat_ge n m)).setFld _ _ (mbStat_ge n m)), hp.trans hpols⟩
  · obtain ⟨h, hp⟩ := hreplaced t (t.mbState n m = mbPending)
    have hput : SameCph s (t₄.mbPut n m ws false) := 

      ((hcph.trans h).setMb n m { words := ws, noAuth := false, held := none }).setFld (Reg.CFD_MB_STAT_LOADED n m) 1
        (mbStat_ge n m)
    have hputPols : (t₄.mbPut n m ws false).pols = s.pols := hp.trans hpols
    unfold mbDelivered
    split
    · exact ⟨hput, hputPols⟩
    · obtain ⟨h', hp'⟩ := State.mbPend_cph (t₄.mbPut n m ws false) n m
      exact ⟨hput.trans h', hp'.trans hputPols⟩

/-! ## The period of a policy has passed -/

/-- What the command finds once the open window is closed. -/
structure ResyncDue (s : State) (i : Nat) (n : CanNo) : Prop where
  tx : bitOf (s.polW (s.rd Reg.STR_GEN) i 0) 2 = true
  kind : s.polKind (s.rd Reg.STR_GEN) i = 1
  has : bitOf (s.polW (s.rd Reg.STR_GEN) i 4) 30 = true
  period : bits (s.polW (s.rd Reg.STR_GEN) i 5) 0 16 ≠ 0
  unit : s.polUnit (s.rd Reg.STR_GEN) i n = true
  first : (s.pol i).resync = []
  time : bits (s.polW (s.rd Reg.STR_GEN) i 5) 0 16 * 65536000000 ≤ s.tb.local16

/-- The policy's frame to unit `n` has its time. -/
def State.resyncTimed (s : State) (i n : Nat) : State :=
  s.setPol i { s.pol i with resync := (n, s.tb.local16) :: (s.pol i).resync.filter fun x => x.1 != n }

/-- The words of the frame that carries freshness value `fv`. -/
def State.resyncWords (s : State) (g : Gen) (i k fv : Nat) : List Word :=
  let ident := bits (s.polW g i 4) 0 29
  let ide := bitOf (s.polW g i 4) 29
  let mac := (cmac (s.slot k).key (identBytes ident ide ++ beBytes 4 fv)).take (s.polMac g i)
  let body := beBytes 4 fv ++ mac
  let len := lenFor body.length
  let pad := (List.range (len - body.length)).map fun j => Config.resyncPad (s.freeCnt + j)
  let fdf := decide (8 < len)
  mkMb ident ide fdf (fdf && Config.resyncBrs s.freeCnt) false false true false (body ++ pad)

/-- The key counts the frame, and the policy keeps its freshness value. -/
def State.resyncUsed (s : State) (i k fv : Nat) : State :=
  let t := ({ s with freeCnt := s.freeCnt + 64 }).keyInvoke k
  t.setPol i { t.pol i with fv := fv, none := false, gen := s.slotGen k }

theorem State.resyncSend_eq {i : Nat} (h : ResyncDue (s.mtxClose n) i n) : s.resyncSend i n =
    let u := (s.mtxClose n).resyncTimed i n
    let g := (s.mtxClose n).rd Reg.STR_GEN
    let k := u.polSlot g i
    let fv := ((u.pol i).fv + 1) % 2 ^ 32
    let m := bits ((s.mtxClose n).polW g i 5) 16 6
    if u.keyUsable k then ((u.resyncUsed i k fv).bump Reg.CPH_RESYNC_TX).mbDeliver n m (u.resyncWords g i k fv)
    else (u.bump Reg.CPH_TX_NOKEY).mbFail n m mbError := by
  obtain ⟨htx, hkind, hhas, hperiod, hunit, hfirst, htime⟩ := h
  unfold resyncSend
  extract_lets u g ms m last
  have hlast : last = 0 := by
    change (((s.mtxClose n).pol i).resync.find? fun x => x.1 == n.val).elim 0 Prod.snd = 0
    rw [hfirst]
    rfl
  refine if_pos ?_
  have hk : (u.polKind g i == 1) = true := beq_iff_eq.mpr hkind
  have hms : (ms != 0) = true := bne_iff_ne.mpr hperiod
  have ht : decide (last + ms * 1000 * us16 ≤ u.tb.local16) = true := by
    rw [hlast, decide_eq_true_iff]
    change ms * 65536000000 ≤ u.tb.local16 at htime
    rw [us16]
    omega
  rw [show bitOf (u.polW g i 0) 2 = true from htx, hk, show bitOf (u.polW g i 4) 30 = true from hhas, hms,
    show u.polUnit g i n = true from hunit, ht]
  rfl

theorem State.mtxClose_gen (s : State) (n : CanNo) : (s.mtxClose n).rd Reg.STR_GEN = s.rd Reg.STR_GEN :=
  s.mtxClose_rd_ne n (by
    have := le_unitReg (Reg.canUnit n) 0x628
    have : Reg.STR_GEN < 0x200000 := by decide
    simp only [Reg.CFD_WIN_MISS, Reg.canBase]
    omega)

theorem State.mtxClose_tables (s : State) (n : CanNo) : (s.mtxClose n).tables = s.tables := by
  have hframe := (s.mtxClose_onlyRegs n).1
  have htbl : (s.mtxClose n).tbl = s.tbl := (congrArg State.tbl hframe :)
  have hold : (s.mtxClose n).tblOld = s.tblOld := (congrArg State.tblOld hframe :)
  have hgen := s.mtxClose_gen n
  funext g
  rw [State.tables, htbl, hold, hgen, State.tables]

/-- Whether a policy's frame is due is the same once the window is closed. -/
theorem ResyncDue.closed {i : Nat} (h : ResyncDue s i n) : ResyncDue (s.mtxClose n) i n := by
  have hframe := (s.mtxClose_onlyRegs n).1
  have htbl := s.mtxClose_tables n
  have hgen := s.mtxClose_gen n
  have hpol : ∀ w, (s.mtxClose n).polW (s.rd Reg.STR_GEN) i w = s.polW (s.rd Reg.STR_GEN) i w := fun w => by
    rw [State.polW, State.twG, htbl, State.polW, State.twG]
  have hunit : (s.mtxClose n).polUnit (s.rd Reg.STR_GEN) i n = s.polUnit (s.rd Reg.STR_GEN) i n := by
    simp only [State.polUnit, State.polTarget, State.polW, State.entriesAt, State.rtType, State.rtFormat, State.rtUnit,
      State.rtW, State.twG, htbl]
  have hpols : (s.mtxClose n).pols = s.pols := (congrArg State.pols hframe :)
  have htb : (s.mtxClose n).tb = s.tb := (congrArg State.tb hframe :)
  obtain ⟨htx, hkind, hhas, hperiod, hu, hfirst, htime⟩ := h
  refine ⟨?_, ?_, ?_, ?_, ?_, by rw [State.pol, hpols]; exact hfirst, ?_⟩
  · rw [hgen, hpol]
    exact htx
  · rw [hgen, State.polKind, hpol]
    exact hkind
  · rw [hgen, hpol]
    exact hhas
  · rw [hgen, hpol]
    exact hperiod
  · rw [hgen, hunit]
    exact hu
  · rw [hgen, hpol, htb]
    exact htime

theorem State.resyncUsed_spec (s : State) (i : Nat) {k : Nat} (hk : k < 64) (fv : Nat) :
    (s.resyncUsed i k fv).slotCount k = (s.slotCount k + 1) % 2 ^ 48 ∧
      (s.resyncUsed i k fv).rd Reg.CPH_RESYNC_TX = s.rd Reg.CPH_RESYNC_TX ∧
      ((s.resyncUsed i k fv).pol i).fv = fv ∧ ((s.resyncUsed i k fv).pol i).resync = (s.pol i).resync := by
  have hpols := (State.keyInvoke_side { s with freeCnt := s.freeCnt + 64 } hk).pols
  have hpol : (s.resyncUsed i k fv).pol i =
      { ({ s with freeCnt := s.freeCnt + 64 }.keyInvoke k).pol i with fv := fv, none := false, gen := s.slotGen k } :=
    Tbl.get_set_same _ _ _ _
  refine ⟨State.keyInvoke_slotCount { s with freeCnt := s.freeCnt + 64 } hk,
    State.keyInvoke_resync { s with freeCnt := s.freeCnt + 64 } hk, by rw [hpol], ?_⟩
  rw [hpol, State.pol, hpols]
  rfl

theorem State.resyncTimed_pol {i : Nat} (hfirst : (s.pol i).resync = []) :
    (s.resyncTimed i n).pol i = { s.pol i with resync := [(n.val, s.tb.local16)] } := by
  have h : (s.resyncTimed i n).pol i =
      { s.pol i with resync := (n.val, s.tb.local16) :: (s.pol i).resync.filter fun x => x.1 != n.val } :=
    Tbl.get_set_same _ _ _ _
  rw [h, hfirst]
  rfl

/-- What the command reads is the same once the window is closed. -/
theorem State.mtxClose_resync (s : State) (n : CanNo) (i : Nat) :
    (s.mtxClose n).pol i = s.pol i ∧ (s.mtxClose n).tb = s.tb ∧
      (s.mtxClose n).polSlot ((s.mtxClose n).rd Reg.STR_GEN) i = s.polSlot (s.rd Reg.STR_GEN) i ∧
      (s.mtxClose n).polW ((s.mtxClose n).rd Reg.STR_GEN) i 5 = s.polW (s.rd Reg.STR_GEN) i 5 := by
  have hpols : (s.mtxClose n).pols = s.pols := (congrArg State.pols (s.mtxClose_onlyRegs n).1 :)
  refine ⟨by rw [pol, hpols, pol], (congrArg State.tb (s.mtxClose_onlyRegs n).1 :), ?_, ?_⟩
  · rw [s.mtxClose_gen n, polSlot, polW, twG, s.mtxClose_tables n, polSlot, polW, twG]
  · rw [s.mtxClose_gen n, polW, twG, s.mtxClose_tables n, polW, twG]

theorem State.resyncSend_usable {i : Nat} (h : ResyncDue s i n)
    (hkey : s.keyUsable (s.polSlot (s.rd Reg.STR_GEN) i) = true) :
    ∃ t : State, s.resyncSend i n = t ∧ t.rd Reg.CPH_RESYNC_TX = satInc (s.rd Reg.CPH_RESYNC_TX) ∧
      (t.pol i).fv = ((s.pol i).fv + 1) % 2 ^ 32 ∧ (t.pol i).resync = [(n.val, s.tb.local16)] ∧
      t.slotCount (s.polSlot (s.rd Reg.STR_GEN) i) =
        (s.slotCount (s.polSlot (s.rd Reg.STR_GEN) i) + 1) % 2 ^ 48 := by
  have hk : s.polSlot (s.rd Reg.STR_GEN) i < 64 := bits_lt _ _ _
  obtain ⟨hpol, htb, hslot, -⟩ := s.mtxClose_resync n i
  have hclose : SameCph s ((s.mtxClose n).resyncTimed i n) := (SameCph.refl s).mtxClose n
  have htimed := State.resyncTimed_pol (n := n) h.closed.first
  rw [hpol, htb] at htimed
  have hop := State.resyncSend_eq h.closed
  dsimp only at hop
  rw [show ((s.mtxClose n).resyncTimed i n).polSlot ((s.mtxClose n).rd Reg.STR_GEN) i =
    s.polSlot (s.rd Reg.STR_GEN) i from hslot, State.keyUsable_congr hclose hk, if_pos hkey, htimed] at hop
  generalize s.polSlot (s.rd Reg.STR_GEN) i = k at *
  obtain ⟨hcount, htx, hfv, hresync⟩ := ((s.mtxClose n).resyncTimed i n).resyncUsed_spec i hk
    (((s.pol i).fv + 1) % 2 ^ 32)
  have hcount' : ((s.mtxClose n).resyncTimed i n).slotCount k = s.slotCount k := by
    rw [slotCount, hclose.rd64 (by rw [Reg.CPH_SLOT_CNT_LO]; omega) (by rw [Reg.CPH_SLOT_CNT_LO]; omega), slotCount]
  generalize ((s.mtxClose n).resyncTimed i n).resyncUsed i k (((s.pol i).fv + 1) % 2 ^ 32) = u at *
  refine ⟨_, hop, ?_⟩
  obtain ⟨hcph, hpols⟩ := State.mbDeliver_cph (u.bump Reg.CPH_RESYNC_TX) n
    (bits ((s.mtxClose n).polW ((s.mtxClose n).rd Reg.STR_GEN) i 5) 16 6)
    (((s.mtxClose n).resyncTimed i n).resyncWords ((s.mtxClose n).rd Reg.STR_GEN) i k (((s.pol i).fv + 1) % 2 ^ 32))
  generalize State.mbDeliver _ n _ _ = t at *
  have htpol : t.pol i = u.pol i := by rw [pol, hpols]; rfl
  have hne : Reg.CPH_RESYNC_TX < Reg.CPH_SLOT_CNT_LO k := by
    simp only [Reg.CPH_RESYNC_TX, Reg.CPH_SLOT_CNT_LO]
    omega
  refine ⟨?_, by rw [htpol, hfv], by rw [htpol, hresync, htimed], ?_⟩
  · rw [hcph _ (by decide) (by decide), State.rd_bump_same, htx, hclose _ (by decide) (by decide)]
  · rw [slotCount, hcph.rd64 (by rw [Reg.CPH_SLOT_CNT_LO]; omega) (by rw [Reg.CPH_SLOT_CNT_LO]; omega), rd64,
      State.rd_bump_ne _ (by omega), State.rd_bump_ne _ (by omega), ← rd64, ← slotCount, hcount, hcount']

theorem State.resyncSend_noKey {i : Nat} (h : ResyncDue s i n)
    (hkey : s.keyUsable (s.polSlot (s.rd Reg.STR_GEN) i) = false) :
    ∃ t : State, s.resyncSend i n = t ∧ t.rd Reg.CPH_TX_NOKEY = satInc (s.rd Reg.CPH_TX_NOKEY) ∧
      t.mbState n (bits (s.polW (s.rd Reg.STR_GEN) i 5) 16 6) = 7 ∧ (t.pol i).fv = (s.pol i).fv ∧
      Posts s t 0x041 (Reg.canUnit n + bits (s.polW (s.rd Reg.STR_GEN) i 5) 16 6 * 256 + 7 * 65536) 0 := by
  obtain ⟨hpol, htb, hslot, hmb⟩ := s.mtxClose_resync n i
  have hclose : SameCph s ((s.mtxClose n).resyncTimed i n) := (SameCph.refl s).mtxClose n
  have htimed := State.resyncTimed_pol (n := n) h.closed.first
  rw [hpol, htb] at htimed
  have hop := State.resyncSend_eq h.closed
  dsimp only at hop
  rw [show ((s.mtxClose n).resyncTimed i n).polSlot ((s.mtxClose n).rd Reg.STR_GEN) i =
    s.polSlot (s.rd Reg.STR_GEN) i from hslot, State.keyUsable_congr hclose (bits_lt _ _ _),
    if_neg (fun hc => absurd (hkey.symm.trans hc) Bool.false_ne_true), hmb] at hop
  have hm : bits (s.polW (s.rd Reg.STR_GEN) i 5) 16 6 < 64 := bits_lt _ _ _
  generalize bits (s.polW (s.rd Reg.STR_GEN) i 5) 16 6 = m at *
  have hside := UnitSide.mtxClose s n
  have heqs : ((s.mtxClose n).resyncTimed i n).eqs = s.eqs := (congrArg State.eqs (s.mtxClose_onlyRegs n).1 :)
  have hmem : ((s.mtxClose n).resyncTimed i n).mem = s.mem := hside.mem
  have htbl : ((s.mtxClose n).resyncTimed i n).tbl = s.tbl := hside.tbl
  generalize (s.mtxClose n).resyncTimed i n = u at *
  refine ⟨_, hop, ?_, State.mbFail_state _ n ⟨m, hm⟩ (by decide), (congrArg PolState.fv htimed :), ?_⟩
  · have := mbStat_ge n m
    have : Reg.CPH_TX_NOKEY < 0x172000 := by decide
    rw [mbFail, postEvent_rd _ _ _ _ (by decide), mbSet, State.rd_setFld_ne _ _ (by simp only; omega),
      State.rd_bump_same, hclose _ (by decide) (by decide)]
  · exact postEvent_eqs_congr s (t := (u.bump Reg.CPH_TX_NOKEY).mbSet n m mbError) heqs hmem htbl _ _ _

theorem State.resyncUsed_mems (s : State) (i k fv : Nat) : (s.resyncUsed i k fv).mems = s.mems :=
  State.keyInvoke_mems { s with freeCnt := s.freeCnt + 64 } k

theorem State.resyncSend_mems {i : Nat} (h : ResyncDue s i n) : (s.resyncSend i n).mems = s.mems := by
  rw [State.resyncSend_eq h.closed]
  dsimp only
  split
  · rw [State.mbDeliver_mems, State.bump_mems, State.resyncUsed_mems]
    exact s.mtxClose_mems n
  · exact s.mtxClose_mems n

/-- The state that the command leaves, as far as it may change it. -/
def State.resyncInto (s t : State) : State :=
  { s with
    regs := t.regs, eqs := t.eqs, out := t.out, freeCnt := t.freeCnt, mbs := t.mbs, pols := t.pols, can := t.can,
    dev := t.dev, waking := t.waking }

theorem completes_resyncSend {i : Fin 1024} {P : State → Prop} (h : s.awake) (hdue : ResyncDue s i n)
    (hop : s.resyncSend i n = t) (hP : P (s.resyncInto t)) : Completes (.resyncSend i n) s P :=
  completes_device (fun s => s.resyncSend i n) State.resyncInto h rfl hop rfl
    ((State.held_of_mems ((congrArg State.mems hop).symm.trans (State.resyncSend_mems hdue))).trans h) hP

end Sys2Proof.Machine

open Sys2Proof.Machine in
/-- Settles O37: the key counts the frame before the mailbox takes it, and the mailbox leaves the cipher engine alone.
  -/
theorem resynchronisationFramesAreSent : Obligations.ResynchronisationFramesAreSent := by
  unfold Obligations.ResynchronisationFramesAreSent
  intro i n s h
  dsimp only
  intro htx hkind hhas hperiod hunit hfirst htime
  have hdue : ResyncDue s i n := ⟨htx, hkind, hhas, hperiod, hunit, hfirst, htime⟩
  constructor <;> intro hkey
  · obtain ⟨t, hop, hcount, hfv, hres, hslot⟩ := State.resyncSend_usable hdue hkey
    exact completes_resyncSend h hdue hop ⟨hcount, hfv, hres, hslot, fun _ => rfl, rfl⟩
  · obtain ⟨t, hop, hcount, hst, hfv, hposts⟩ := State.resyncSend_noKey hdue hkey
    exact completes_resyncSend h hdue hop ⟨hcount, hst, hfv, hposts⟩
end

section
/-!
What the operations of a serial lane leave alone: only its own registers, its own state and the step of its region
change, and of its registers only those listed by their offset.
-/

namespace Sys2Proof.Machine

variable {s t : State} {n : LaneNo}

theorem laneReg_lt (n : LaneNo) {k : Nat} (hk : k < 0x2000) : Reg.laneBase n + k < 0x3000000 := by
  simp only [Reg.laneBase, Reg.unitBase, Reg.laneUnit]
  omega

/-- Only registers, event queues, outputs and lanes differ, and, of the lane's registers, those at the offsets `ks`. -/
structure LaneSide (s t : State) (n : LaneNo) (ks : List Nat) : Prop where
  frame : { t with
    regs := s.regs, eqs := s.eqs, out := s.out, freeCnt := s.freeCnt, lanes := s.lanes, dev := s.dev
    waking := s.waking } = s
  held : t.dev.held = s.dev.held
  reg : ∀ k, k < 0x2000 → k ∉ ks → t.rd (Reg.laneBase n + k) = s.rd (Reg.laneBase n + k)
  low : ∀ a < 0x200000, a ≠ Reg.GEN_REGION_STEP → t.rd a = s.rd a

namespace LaneSide
variable {ks : List Nat}

theorem refl (s : State) (n : LaneNo) (ks : List Nat) : LaneSide s s n ks :=
  ⟨rfl, rfl, fun _ _ _ => rfl, fun _ _ _ => rfl⟩

theorem trans {u : State} (h : LaneSide s t n ks) (h' : LaneSide t u n ks) : LaneSide s u n ks :=
  ⟨(congrArg (fun x : State => { x with
      regs := s.regs, eqs := s.eqs, out := s.out, freeCnt := s.freeCnt, lanes := s.lanes, dev := s.dev
      waking := s.waking }) h'.frame).trans h.frame,
    h'.held.trans h.held, fun k hk hks => (h'.reg k hk hks).trans (h.reg k hk hks),
    fun a ha hne => (h'.low a ha hne).trans (h.low a ha hne)⟩

theorem mono {js : List Nat} (h : LaneSide s t n ks) (hsub : ks ⊆ js) : LaneSide s t n js :=
  ⟨h.frame, h.held, fun k hk hjs => h.reg k hk fun hm => hjs (hsub hm), h.low⟩

theorem wr (h : LaneSide s t n ks) (k : Nat) (v : Word) (hk : k ∈ ks) : LaneSide s (t.wr (Reg.laneBase n + k) v) n ks :=
  ⟨h.frame, h.held, fun j hj hjs =>
    (t.rd_wr_ne v fun he => ne_of_mem_of_not_mem hk hjs (Nat.add_left_cancel he).symm).trans (h.reg j hj hjs),
    fun a ha hne => (t.rd_wr_ne v (by
      have := le_unitReg (Reg.laneUnit n) k
      simp only [Reg.laneBase]
      omega)).trans (h.low a ha hne)⟩

theorem setFld (h : LaneSide s t n ks) (k lsb w v : Nat) (hk : k ∈ ks) :
    LaneSide s (t.setFld ⟨Reg.laneBase n + k, lsb, w⟩ v) n ks := h.wr k _ hk

theorem setLane (h : LaneSide s t n ks) (x : Lane) : LaneSide s (t.setLane n x) n ks := ⟨h.frame, h.held, h.reg, h.low⟩

theorem emit (h : LaneSide s t n ks) (e : Emit) : LaneSide s (t.emit e) n ks := ⟨h.frame, h.held, h.reg, h.low⟩

theorem postEvent (h : LaneSide s t n ks) (code src : Nat) (data : Word) :
    LaneSide s (t.postEvent code src data) n ks :=
  ⟨h.frame, h.held, fun k hk hks => (t.postEvent_rd code src data (laneReg_lt n hk)).trans (h.reg k hk hks),
    fun a ha hne => (t.postEvent_rd code src data (by omega)).trans (h.low a ha hne)⟩

theorem regionWork (h : LaneSide s t n ks) (u : Nat) : LaneSide s (t.regionWork u) n ks := by
  obtain ⟨R, D, K, hop, hheld, hregs⟩ := t.regionWork_spec u
  rw [hop]
  exact ⟨h.frame, hheld.trans h.held, fun k hk hks => (hregs _ (lane_ne_regionStep n k)).trans (h.reg k hk hks),
    fun a ha hne => (hregs a fun hm => hne (List.mem_singleton.mp hm)).trans (h.low a ha hne)⟩

theorem fld (h : LaneSide s t n ks) (k lsb w : Nat) (hk : k < 0x2000) (hks : k ∉ ks) :
    t.fld ⟨Reg.laneBase n + k, lsb, w⟩ = s.fld ⟨Reg.laneBase n + k, lsb, w⟩ := by
  rw [State.fld, h.reg k hk hks, State.fld]

theorem flag (h : LaneSide s t n ks) (k lsb w : Nat) (hk : k < 0x2000) (hks : k ∉ ks) :
    t.flag ⟨Reg.laneBase n + k, lsb, w⟩ = s.flag ⟨Reg.laneBase n + k, lsb, w⟩ := by
  rw [State.flag, h.fld k lsb w hk hks, State.flag]

theorem pers (h : LaneSide s t n ks) (hks : 0x4 ∉ ks) : t.pers n = s.pers n := h.fld 0x4 0 3 (by decide) hks

theorem laneWidth (h : LaneSide s t n ks) (hmode : 0x4 ∉ ks) (hfmt : 0xc ∉ ks) : t.laneWidth n = s.laneWidth n := by
  unfold State.laneWidth
  rw [show t.fld (Reg.SLN_MODE_PERS n) = s.fld (Reg.SLN_MODE_PERS n) from h.pers hmode,
    show t.fld (Reg.SLN_FMT_WIDTH n) = s.fld (Reg.SLN_FMT_WIDTH n) from h.fld 0xc 0 5 (by decide) hfmt]

theorem itemBytes (h : LaneSide s t n ks) (hmode : 0x4 ∉ ks) (hfmt : 0xc ∉ ks) : t.itemBytes n = s.itemBytes n := by
  rw [State.itemBytes, h.laneWidth hmode hfmt, State.itemBytes]

theorem laneMax (h : LaneSide s t n ks) (hks : 0x10 ∉ ks) : t.laneMax n = s.laneMax n := by
  unfold State.laneMax
  rw [show t.fld (Reg.SLN_FRAME_MAX_LEN n) = s.fld (Reg.SLN_FRAME_MAX_LEN n) from h.fld 0x10 0 12 (by decide) hks]

theorem laneMin (h : LaneSide s t n ks) (hks : 0x10 ∉ ks) : t.laneMin n = s.laneMin n := by
  unfold State.laneMin
  rw [show t.fld (Reg.SLN_FRAME_MIN_LEN n) = s.fld (Reg.SLN_FRAME_MIN_LEN n) from h.fld 0x10 16 12 (by decide) hks]

theorem pinsSeen (h : LaneSide s t n ks) (u : Nat) : t.pinsSeen u = s.pinsSeen u := by
  unfold State.pinsSeen
  split
  · rw [State.flag, State.fld, h.low Reg.GEN_VIO_STATE (by decide) (by decide), State.flag, State.fld]
  · rfl

theorem staged (h : LaneSide s t n ks) : t.staged = s.staged := (congrArg State.staged h.frame :)
theorem sig (h : LaneSide s t n ks) : t.sig = s.sig := (congrArg State.sig h.frame :)

/-- Nothing staged waits for the end of a frame. -/
theorem frameEnd (h : LaneSide s t n ks) (hstaged : s.staged = []) (u : Nat) : t.frameEnd u = t :=
  State.applyStaged_nil (h.staged.trans hstaged) _

end LaneSide

/-! ## The receive FIFO -/

/-- The FIFO that an item joins: over the oldest one if 512 are in it (R283). -/
def rxFifo (q : List Word) (w : Word) : List Word :=
  if q.length < 512 then q ++ [w] else gapHead (q.tail ++ [w])

/-- The registers that an item entering the FIFO may change: RX_LOST, RX_DEPTH, STATUS. -/
abbrev itemRegs : List Nat := [0x608, 0x104, 0x48]

theorem State.laneItem_spec (s : State) (n : LaneNo) (w : Word) :
    ∃ u : State, s.laneItem n w = u ∧ LaneSide s u n itemRegs ∧
      (∃ a b, u.lane n = { s.lane n with rx := rxFifo (s.lane n).rx w, rxAt16 := a, rxNew := b }) ∧
      (512 ≤ (s.lane n).rx.length → u.rd (Reg.SLN_RX_LOST n) = satInc (s.rd (Reg.SLN_RX_LOST n))) := by
  unfold laneItem
  extract_lets x old full q t t₁ t₂ t₃
  have hq : q = rxFifo x.rx w := by
    change (if decide (512 ≤ x.rx.length) = true then _ else _) = if x.rx.length < 512 then _ else _
    by_cases h : x.rx.length < 512
    · rw [if_pos h, if_neg (by rw [decide_eq_true_iff]; omega)]
    · rw [if_neg h, if_pos (by rw [decide_eq_true_iff]; omega)]
  have hlane : t.lane n = { s.lane n with
      rx := q, rxAt16 := s.tb.local16, rxNew := if x.rxAt16 = s.tb.local16 then x.rxNew + 1 else 1 } :=
    State.lane_setLane_same s n _
  have ht : LaneSide s t n itemRegs := (LaneSide.refl s n _).setLane _
  have ht₁ : LaneSide s t₁ n itemRegs ∧ t₁.lane n = t.lane n ∧
      (512 ≤ x.rx.length → t₁.rd (Reg.SLN_RX_LOST n) = satInc (s.rd (Reg.SLN_RX_LOST n))) := by
    by_cases h : 512 ≤ x.rx.length
    · rw [show t₁ = t.bump (Reg.SLN_RX_LOST n) from if_pos (decide_eq_true h)]
      exact ⟨ht.wr 0x608 _ (by decide), rfl, fun _ => t.rd_bump_same _⟩
    · rw [show t₁ = t from if_neg (by rw [decide_eq_true_iff]; exact h)]
      exact ⟨ht, rfl, fun hf => absurd hf h⟩
  obtain ⟨h₁, hl₁, hlost⟩ := ht₁
  have h₂ : LaneSide s t₂ n itemRegs := h₁.setFld 0x104 16 10 _ (by decide)
  have hlost₂ : t₂.rd (Reg.SLN_RX_LOST n) = t₁.rd (Reg.SLN_RX_LOST n) :=
    State.rd_setFld_ne _ _ (by simp only [Reg.SLN_RX_LOST, Reg.SLN_RX_DEPTH]; omega)
  have hl₂ : t₂.lane n = t₁.lane n := rfl
  have h₃ : LaneSide s t₃ n itemRegs ∧ t₃.rd (Reg.SLN_RX_LOST n) = t₂.rd (Reg.SLN_RX_LOST n) ∧ t₃.lane n =
    t₂.lane n := by
    by_cases h : s.flag (Reg.SLN_MODE_FLOW_OUT n) = true
    · rw [show t₃ = t₂.setFld (Reg.SLN_STATUS_RTS n) 1 from if_pos h]
      exact ⟨h₂.setFld 0x48 16 1 _ (by decide), State.rd_setFld_ne _ _ (by
        simp only [Reg.SLN_RX_LOST, Reg.SLN_STATUS]; omega), rfl⟩
    · rw [show t₃ = t₂ from if_neg h]
      exact ⟨h₂, rfl, rfl⟩
  obtain ⟨h₃, hlost₃, hl₃⟩ := h₃
  have hlane' : t₃.lane n = t.lane n := hl₃.trans (hl₂.trans hl₁)
  clear_value t₃
  split
  · refine ⟨_, rfl, (h₃.setFld 0x48 6 1 1 (by decide)).postEvent _ _ _, ⟨_, _, hlane'.trans (hq ▸ hlane)⟩, fun hf => ?_⟩
    rw [State.postEvent_rd _ _ _ _ (laneReg_lt n (by decide)), State.rd_setFld_ne _ _ (by
      simp only [Reg.SLN_STATUS]; omega), hlost₃, hlost₂, hlost hf]
  · exact ⟨t₂, rfl, h₂, ⟨_, _, (hl₂.trans hl₁).trans (hq ▸ hlane)⟩, fun hf => hlost₂.trans (hlost hf)⟩

/-- Items for which the FIFO has room enter it in order. -/
theorem State.laneItems_fit (n : LaneNo) (ws : List Word) (s : State)
    (hroom : (s.lane n).rx.length + ws.length ≤ 512) :
    ∃ u : State, ws.foldl (fun t w => t.laneItem n w) s = u ∧ LaneSide s u n itemRegs ∧
      ∃ a b, u.lane n = { s.lane n with rx := (s.lane n).rx ++ ws, rxAt16 := a, rxNew := b } := by
  induction ws generalizing s with
  | nil => exact ⟨s, rfl, LaneSide.refl s n _, (s.lane n).rxAt16, (s.lane n).rxNew, by rw [List.append_nil]⟩
  | cons w ws ih =>
    obtain ⟨t, hop, hside, ⟨a, b, hlane⟩, -⟩ := s.laneItem_spec n w
    rw [List.length_cons] at hroom
    have hq : rxFifo (s.lane n).rx w = (s.lane n).rx ++ [w] := if_pos (by omega)
    rw [hq] at hlane
    obtain ⟨u, hop', hside', a', b', hlane'⟩ := ih t (by
      rw [hlane]
      simp only [List.length_append, List.length_singleton]
      omega)
    refine ⟨u, by rw [List.foldl_cons, hop, hop'], hside.trans hside', a', b', ?_⟩
    rw [hlane', hlane, List.append_assoc, List.singleton_append]

end Sys2Proof.Machine
end

section
/-!
Characters of a serial lane (R266, R267, R277, R281 to R283): how each enters the FIFO or the frame being gathered, and
how an idle line ends a frame.
-/

namespace Sys2Proof.Machine

variable {s t : State} {n : LaneNo} {c : SerChar}

/-! ## A character has come -/

theorem State.markChar_spec (s : State) (n : LaneNo) :
    LaneSide s (s.markChar n) n [] ∧ (s.markChar n).lane n =
      { s.lane n with lastChar16 := some s.tb.local16, idleDone := false, tmo16 := s.tb.local16 } := by
  obtain ⟨R, D, K, hop, -⟩ := (s.setLane n { s.lane n with
    lastChar16 := some s.tb.local16, idleDone := false, tmo16 := s.tb.local16 }).regionWork_spec (Reg.laneUnit n)
  refine ⟨((LaneSide.refl s n []).setLane _).regionWork _, ?_⟩
  rw [markChar, hop]
  exact s.lane_setLane_same n _

/-- The character has a framing error, or a parity error where it has a parity bit. -/
def State.charErr (s : State) (n : Nat) (c : SerChar) : Bool := c.framing || (c.parity && s.hasParity n)

/-- The receive word of a character. -/
def State.charWord (s : State) (n : Nat) (c : SerChar) : Word :=
  rxWord c.framing (c.parity && s.hasParity n) false (c.data.toNat % 2 ^ s.laneWidth n)

/-- A character is marked and, if it is an errored one, counted. -/
def State.charMarked (s : State) (n : Nat) (c : SerChar) : State :=
  if s.charErr n c then (s.markChar n).bump (Reg.SLN_CHAR_ERR n) else s.markChar n

theorem State.charMarked_spec (s : State) (n : LaneNo) (c : SerChar) :
    LaneSide s (s.charMarked n c) n [0x618] ∧ (s.charMarked n c).lane n =
      { s.lane n with lastChar16 := some s.tb.local16, idleDone := false, tmo16 := s.tb.local16 } ∧
      (s.charMarked n c).rd (Reg.SLN_CHAR_ERR n) =
        if s.charErr n c = true then satInc (s.rd (Reg.SLN_CHAR_ERR n)) else s.rd (Reg.SLN_CHAR_ERR n) := by
  obtain ⟨hside, hlane⟩ := s.markChar_spec n
  have herr : (s.markChar n).rd (Reg.SLN_CHAR_ERR n) = s.rd (Reg.SLN_CHAR_ERR n) :=
    hside.reg 0x618 (by decide) (by decide)
  unfold charMarked
  split
  · exact ⟨(hside.mono (List.nil_subset _)).wr 0x618 _ (by decide), hlane, by rw [State.rd_bump_same, herr]⟩
  · exact ⟨hside.mono (List.nil_subset _), hlane, herr⟩

theorem State.laneChar_eq (hhears : s.hears n = true) (hpers : s.pers n ≠ persCustom) :
    s.laneChar n c = (s.charMarked n c).laneTake n (s.charWord n c) := by
  unfold laneChar
  rw [if_pos hhears]
  exact if_neg hpers

/-- Without framing a character enters the FIFO. -/
theorem State.laneChar_unframed (hstaged : s.staged = []) (hhears : s.hears n = true) (hpers : s.pers n ≠ persCustom)
    (hframed : s.flag (Reg.SLN_MODE_FRAMED n) = false) :
    ∃ u : State, s.laneChar n c = u ∧ LaneSide s u n (0x618 :: itemRegs) ∧
      (u.lane n).rx = rxFifo (s.lane n).rx (s.charWord n c) ∧
      (512 ≤ (s.lane n).rx.length → u.rd (Reg.SLN_RX_LOST n) = satInc (s.rd (Reg.SLN_RX_LOST n))) ∧
      u.rd (Reg.SLN_CHAR_ERR n) =
        (if s.charErr n c = true then satInc (s.rd (Reg.SLN_CHAR_ERR n)) else s.rd (Reg.SLN_CHAR_ERR n)) ∧
      (u.lane n).lastChar16 = some s.tb.local16 := by
  obtain ⟨hside, hlane, herr⟩ := s.charMarked_spec n c
  have hop := State.laneChar_eq (c := c) hhears hpers
  have hflag : (s.charMarked n c).flag (Reg.SLN_MODE_FRAMED n) = false :=
    (hside.flag 0x4 4 1 (by decide) (by decide)).trans hframed
  obtain ⟨u, hitem, hside', ⟨a, b, hlane'⟩, hlost⟩ := (s.charMarked n c).laneItem_spec n (s.charWord n c)
  have hall : LaneSide s u n (0x618 :: itemRegs) :=
    (hside.mono (by decide)).trans (hside'.mono (List.subset_cons_self _ _))
  refine ⟨u, ?_, hall, ?_, fun hfull => ?_, ?_, ?_⟩
  · rw [hop, laneTake, if_neg (fun h => absurd (hflag.symm.trans h) Bool.false_ne_true), hitem,
      hall.frameEnd hstaged]
  · rw [hlane', hlane]
  · rw [hlost (by rw [hlane]; exact hfull)]
    exact congrArg satInc (hside.reg 0x608 (by decide) (by decide))
  · exact (hside'.reg 0x618 (by decide) (by decide)).trans herr
  · rw [hlane', hlane]

/-- With framing it joins the frame being gathered. -/
theorem State.laneChar_framed (hhears : s.hears n = true) (hpers : s.pers n ≠ persCustom)
    (hframed : s.flag (Reg.SLN_MODE_FRAMED n) = true) (hhunt : (s.lane n).hunting = false)
    (hlen : ((s.lane n).buf.length + 1) * s.itemBytes n ≤ s.laneMax n) :
    ∃ u : State, s.laneChar n c = u ∧ LaneSide s u n [0x618] ∧
      (u.lane n).buf = (s.lane n).buf ++ [s.charWord n c] ∧ (u.lane n).rx = (s.lane n).rx := by
  obtain ⟨hside, hlane, -⟩ := s.charMarked_spec n c
  have hop := State.laneChar_eq (c := c) hhears hpers
  have hflag : (s.charMarked n c).flag (Reg.SLN_MODE_FRAMED n) = true :=
    (hside.flag 0x4 4 1 (by decide) (by decide)).trans hframed
  have hbytes : (s.charMarked n c).itemBytes n = s.itemBytes n := hside.itemBytes (by decide) (by decide)
  have hmax : (s.charMarked n c).laneMax n = s.laneMax n := hside.laneMax (by decide)
  generalize s.charMarked n c = t at *
  rw [laneTake, if_pos hflag, laneAppend, hlane, if_neg (by rw [hhunt]; decide), hbytes, hmax,
    if_neg (Nat.not_lt.mpr hlen)] at hop
  exact ⟨_, hop, hside.setLane _, by rw [State.lane_setLane_same], by rw [State.lane_setLane_same]⟩

/-- A BREAK enters the FIFO as an item of its own. -/
theorem State.laneBreak_unframed (hhears : s.hears n = true) (hpers : s.pers n ≠ persCustom)
    (hframed : s.flag (Reg.SLN_MODE_FRAMED n) = false) (hroom : (s.lane n).rx.length < 512) :
    ∃ u : State, s.laneBreak n = u ∧ LaneSide s u n itemRegs ∧
      (u.lane n).rx = (s.lane n).rx ++ [rxWord false false true 0] := by
  obtain ⟨hside, hlane⟩ := s.markChar_spec n
  obtain ⟨u, hitem, hside', ⟨a, b, hlane'⟩, -⟩ := (s.markChar n).laneItem_spec n (rxWord false false true 0)
  refine ⟨u, ?_, (hside.mono (List.nil_subset _)).trans hside', ?_⟩
  · unfold laneBreak
    rw [if_pos hhears, ← hitem]
    exact (if_neg hpers).trans (if_neg fun h => absurd (hframed.symm.trans h) Bool.false_ne_true)
  · rw [hlane', hlane]
    exact if_pos hroom

/-! ## The line goes idle -/

theorem frameWords_length (ws : List Word) (bad : Bool) : (frameWords ws bad).length = ws.length := by
  rw [frameWords, List.length_map, List.length_zipIdx]

/-- A good frame for which the FIFO has room, without a chain, is counted and released whole. -/
theorem State.laneRelease_fits {k : Nat} {ws : List Word} (payload : List Byte) (hk : k < 4)
    (hroom : (s.lane n).rx.length + ws.length ≤ 512) (hchain : s.flag (Reg.SLN_CHAIN_CHAIN_EN n k) = false) :
    ∃ u : State, s.laneRelease n k ws payload = u ∧ LaneSide s u n (0x600 :: itemRegs) ∧
      (∃ a b, u.lane n = { s.lane n with rx := (s.lane n).rx ++ frameWords ws false, rxAt16 := a, rxNew := b }) ∧
      u.rd (Reg.SLN_RX_FRAMES n) = s.rd (Reg.SLN_RX_FRAMES n) + 1 := by
  have ht : LaneSide s (s.tick (Reg.SLN_RX_FRAMES n)) n (0x600 :: itemRegs) :=
    (LaneSide.refl s n _).wr 0x600 _ (by decide)
  have hcount : (s.tick (Reg.SLN_RX_FRAMES n)).rd (Reg.SLN_RX_FRAMES n) = s.rd (Reg.SLN_RX_FRAMES n) + 1 :=
    State.rd_wr_same _ _ _
  obtain ⟨u, hitems, hside, hlane⟩ := State.laneItems_fit n (frameWords ws false) (s.tick (Reg.SLN_RX_FRAMES n))
    (by rw [frameWords_length]; exact hroom)
  have hall : LaneSide s u n (0x600 :: itemRegs) := ht.trans (hside.mono (List.subset_cons_self _ _))
  refine ⟨u, ?_, hall, hlane, (hside.reg 0x600 (by decide) (by decide)).trans hcount⟩
  have hflag : u.flag (Reg.SLN_CHAIN_CHAIN_EN n k) = false := by
    rw [← hchain]
    have hlt : 0x30 + 4 * k < 0x2000 := by omega
    have hnot : 0x30 + 4 * k ∉ 0x600 :: itemRegs := by
      simp only [List.mem_cons, List.not_mem_nil, or_false]
      omega
    have := hall.flag (0x30 + 4 * k) 15 1 hlt hnot
    rwa [← Nat.add_assoc] at this
  have hitems' : (s.tick (Reg.SLN_RX_FRAMES n)).laneItems n ws false = u := hitems
  rw [laneRelease, hitems', laneChainK, if_neg (fun h => absurd (hflag.symm.trans h) Bool.false_ne_true)]

/-- A gathered frame of allowed length, with room in the FIFO and no chain, is counted and released whole. -/
theorem State.laneGood_fits {k : Nat} (hk : k < 4) (hmin : s.laneMin n ≤ (s.lane n).buf.length * s.itemBytes n)
    (hroom : (s.lane n).rx.length + (s.lane n).buf.length ≤ 512)
    (hchain : s.flag (Reg.SLN_CHAIN_CHAIN_EN n k) = false) :
    ∃ u : State, s.laneGood n k = u ∧ LaneSide s u n (0x600 :: itemRegs) ∧
      (∃ a b, u.lane n = { s.lane n with
        rx := (s.lane n).rx ++ frameWords (s.lane n).buf false, buf := [], rxAt16 := a, rxNew := b }) ∧
      u.rd (Reg.SLN_RX_FRAMES n) = s.rd (Reg.SLN_RX_FRAMES n) + 1 := by
  have hlane : (s.setLane n { s.lane n with buf := [] }).lane n = { s.lane n with buf := [] } :=
    s.lane_setLane_same n _
  have hside : LaneSide s (s.setLane n { s.lane n with buf := [] }) n (0x600 :: itemRegs) :=
    (LaneSide.refl s n _).setLane _
  have hop : s.laneGood n k = (s.setLane n { s.lane n with buf := [] }).laneRelease n k (s.lane n).buf
      (s.lanePayload n (s.lane n).buf) := if_neg (Nat.not_lt.mpr hmin)
  obtain ⟨u, hrel, hside', ⟨a, b, hlane'⟩, hcount⟩ := State.laneRelease_fits (ws := (s.lane n).buf)
    (s :=
      s.setLane n { s.lane n with buf := [] }) (s.lanePayload n (s.lane n).buf) hk (by rw [hlane]; exact hroom) hchain
  exact ⟨u, hop.trans hrel, hside.trans hside', ⟨a, b, by rw [hlane', hlane]⟩, hcount⟩

theorem State.laneIdle_good {l : Nat} (hstaged : s.staged = []) (hhears : s.hears n = true)
    (hpers : s.pers n ≠ persCustom) (hframed : s.flag (Reg.SLN_MODE_FRAMED n) = true)
    (hhunt : (s.lane n).hunting = false) (hbuf : (s.lane n).buf ≠ []) (hlast : (s.lane n).lastChar16 = some l)
    (hdone : (s.lane n).idleDone = false)
    (htime : 2 * l + (s.stopHalves n + 2 * (if s.fld (Reg.SLN_IDLE_IDLE_BITS n) = 0 then 20
      else s.fld (Reg.SLN_IDLE_IDLE_BITS n))) * s.laneBit16 n ≤ 2 * s.tb.local16)
    (hmin : s.laneMin n ≤ (s.lane n).buf.length * s.itemBytes n)
    (hroom : (s.lane n).rx.length + (s.lane n).buf.length ≤ 512)
    (hchain : s.flag (Reg.SLN_CHAIN_CHAIN_EN n 0) = false) :
    ∃ u : State, s.laneIdle n = u ∧ LaneSide s u n (0x600 :: itemRegs) ∧
      (u.lane n).rx = (s.lane n).rx ++ frameWords (s.lane n).buf false ∧ (u.lane n).buf = [] ∧
      (u.lane n).idleDone = true ∧ u.rd (Reg.SLN_RX_FRAMES n) = s.rd (Reg.SLN_RX_FRAMES n) + 1 := by
  have hidle : LaneSide s (s.setLane n { s.lane n with idleDone := true }) n [] := (LaneSide.refl s n []).setLane _
  have hlane : (s.setLane n { s.lane n with idleDone := true }).lane n = { s.lane n with idleDone := true } :=
    s.lane_setLane_same n _
  have hop : s.laneIdle n = (s.setLane n { s.lane n with idleDone := true }).laneFrameEnd n := by
    unfold laneIdle
    dsimp only
    rw [hlast, hhears, hdone]
    refine (if_pos ?_).trans ((if_neg hpers).trans (if_pos hframed))
    exact (show decide _ = true from decide_eq_true htime)
  have hbytes := hidle.itemBytes (by decide) (by decide)
  have hmin' := hidle.laneMin (by decide)
  have hflag := hidle.flag 0x30 15 1 (by decide) (by decide)
  generalize s.setLane n { s.lane n with idleDone := true } = t at *
  obtain ⟨u, hgood, hside, ⟨a, b, hlane'⟩, hcount⟩ := State.laneGood_fits (s := t) (n := n)
    (show 0 < 4 by decide) (by rw [hmin', hlane, hbytes]; exact hmin) (by rw [hlane]; exact hroom) (hflag.trans hchain)
  have hall : LaneSide s u n (0x600 :: itemRegs) := (hidle.mono (List.nil_subset _)).trans hside
  rw [hlane] at hlane'
  refine ⟨u, ?_, hall, by rw [hlane'], by rw [hlane'], by rw [hlane'],
    hcount.trans (congrArg (· + 1) (hidle.reg 0x600 (by decide) (by decide)))⟩
  rw [hop, laneFrameEnd]
  rw [hlane, if_neg (by rw [hhunt]; decide), if_neg hbuf, hgood, hall.frameEnd hstaged]

/-! ## The custom state machine -/

/-- A cell without action and DEC that no character has led to only names the next state. -/
theorem State.smEvent_move (s : State) (n fuel e : Nat) (hact : bits (s.smWord n (16 * s.smState n + e)) 22 4 = 0)
    (hdec : bitOf (s.smWord n (16 * s.smState n + e)) 11 = false) :
    s.smEvent n none (fuel + 1) e =
      s.useFree.setFld (Reg.SLN_SM_STATE_STATE n) (bits (s.smWord n (16 * s.smState n + e)) 26 6) := by
  have hstore : ∀ b, s.smStore n b none = (s, false) := fun b => by cases b <;> rfl
  rw [smEvent]
  dsimp only
  rw [hstore, hact, hdec]
  refine (if_neg Bool.false_ne_true).trans ?_
  simp only [Option.isNone_none, Option.isSome_none, Bool.and_false, Bool.false_and, Nat.reduceBEq,
    Bool.or_self, Bool.false_eq_true, if_false, if_true, smDec, smAction]

/-- The state machine takes a cell that only names the next state. -/
def State.smMoved (s : State) (n : Nat) (cell : Nat) : State :=
  ((s.setLane n { s.lane n with tmo16 := s.tb.local16 }).useFree).setFld (Reg.SLN_SM_STATE_STATE n) (bits cell 26 6)

theorem State.laneTimeout_move (hhears : s.hears n = true) (hpers : s.pers n = persCustom)
    (htmo : s.fld (Reg.SLN_IDLE_FRAME_TMO n) ≠ 0) (hstate : s.smState n ≠ 0)
    (htime : (s.lane n).tmo16 + s.fld (Reg.SLN_IDLE_FRAME_TMO n) * s.laneBit16 n ≤ s.tb.local16)
    (hact : bits (s.smWord n (16 * s.smState n + 14)) 22 4 = 0)
    (hdec : bitOf (s.smWord n (16 * s.smState n + 14)) 11 = false) :
    s.laneTimeout n = s.smMoved n (s.smWord n (16 * s.smState n + 14)) := by
  refine (if_pos ?_).trans (State.smEvent_move _ n 4095 14 hact hdec)
  rw [hhears, beq_iff_eq.mpr hpers, bne_iff_ne.mpr htmo, bne_iff_ne.mpr hstate]
  exact (show decide _ = true from decide_eq_true htime)

theorem State.smMoved_spec (s : State) (n : LaneNo) (cell : Nat) :
    (s.smMoved n cell).smState n = bits cell 26 6 ∧ (s.smMoved n cell).smCount n = s.smCount n ∧
      (s.smMoved n cell).lane n = { s.lane n with tmo16 := s.tb.local16 } ∧
      OnlyRegs { s with lanes := (s.smMoved n cell).lanes, freeCnt := (s.smMoved n cell).freeCnt } (s.smMoved n cell)
        [Reg.SLN_SM_STATE n] := by
  have happart : (Reg.SLN_SM_STATE_STATE n).apart (Reg.SLN_SM_STATE_COUNT n) := by simp [Fld.apart]
  refine ⟨?_, State.fld_setFld_apart _ _ happart, s.lane_setLane_same n _, rfl, ?_⟩
  · exact (State.fld_setFld_same _ (Reg.SLN_SM_STATE_STATE n) _ (show 16 + 6 ≤ 32 by decide)).trans
      (Nat.mod_eq_of_lt (bits_lt _ _ _))
  · exact (RegsBut.refl { s with
      lanes := (s.smMoved n cell).lanes, freeCnt := (s.smMoved n cell).freeCnt } _).setFld (Reg.SLN_SM_STATE_STATE n) _
      List.mem_cons_self

/-! ## What the commands may change -/

/-- The state that a character leaves, as far as its command may change it. -/
def State.charInto (s t : State) : State :=
  { s with
    regs := t.regs, staged := t.staged, eqs := t.eqs, out := t.out, freeCnt := t.freeCnt, sig := t.sig,
    limits := t.limits, engines := t.engines, waking := t.waking, lanes := t.lanes, nextId := t.nextId,
    dev := t.dev, holdBuf := t.holdBuf }

/-- The state that an idle line or a timeout leaves. -/
def State.quietInto (s t : State) : State :=
  { s with
    regs := t.regs, staged := t.staged, eqs := t.eqs, out := t.out, freeCnt := t.freeCnt, sig := t.sig,
    limits := t.limits, engines := t.engines, lanes := t.lanes, nextId := t.nextId, holdBuf := t.holdBuf }

end Sys2Proof.Machine

open Sys2Proof.Machine in
/-- Settles O38: each command touches its own lane and the FIFO, and the frame's items enter it in order. -/
theorem charactersAreReceived : Obligations.CharactersAreReceived := by
  unfold Obligations.CharactersAreReceived
  intro n c s h hstaged hhears
  refine ⟨fun hpers => ⟨?_, ?_⟩, ?_⟩
  · dsimp only
    refine ⟨fun hframed => ⟨?_, fun hroom => ?_⟩, fun hframed hhunt hlen => ?_⟩
    · obtain ⟨u, hop, hside, hrx, hlost, herr, hlast⟩ := State.laneChar_unframed (c := c) hstaged hhears hpers hframed
      have hcond : (s.charErr n c = true) = (c.framing = true ∨ c.parity = true ∧ s.hasParity n = true) := by
        rw [State.charErr, Bool.or_eq_true, Bool.and_eq_true]
      simp only [hcond] at herr
      exact completes_device (fun s => s.laneChar n c) State.charInto h rfl hop rfl (hside.held.trans h)
        ⟨hrx, hlost, herr, hlast, hside.sig⟩
    · obtain ⟨u, hop, hside, hrx⟩ := State.laneBreak_unframed hhears hpers hframed hroom
      exact completes_device (fun s => s.laneBreak n) State.charInto h rfl hop rfl (hside.held.trans h) ⟨hrx, hside.sig⟩
    · obtain ⟨u, hop, hside, hbuf, hrx⟩ := State.laneChar_framed (c := c) hhears hpers hframed hhunt hlen
      exact completes_device (fun s => s.laneChar n c) State.charInto h rfl hop rfl (hside.held.trans h)
        ⟨hbuf, hrx, hside.sig⟩
  · intro l hframed hhunt hbuf hlast hdone htime hmin hroom hchain
    obtain ⟨u, hop, hside, hrx, hempty, hidle, hcount⟩ :=
      State.laneIdle_good hstaged hhears hpers hframed hhunt hbuf hlast hdone htime
      hmin hroom hchain
    exact completes_framed (fun s => s.laneIdle n) State.quietInto h rfl (fun _ => ⟨rfl, rfl⟩) hop
      ⟨hrx, hempty, hidle, hcount, hside.sig⟩
  · intro hpers htmo hstate htime
    dsimp only
    intro hact hdec
    have hop := State.laneTimeout_move hhears hpers htmo hstate htime hact hdec
    obtain ⟨hst, hcount, hlane, hregs⟩ := s.smMoved_spec n (s.smWord n (16 * s.smState n + 14))
    have hbuf : ((s.smMoved n (s.smWord n (16 * s.smState n + 14))).lane n).buf = (s.lane n).buf := by rw [hlane]
    have htmo' : ((s.smMoved n (s.smWord n (16 * s.smState n + 14))).lane n).tmo16 = s.tb.local16 := by rw [hlane]
    exact completes_framed (fun s => s.laneTimeout n) State.quietInto h rfl (fun _ => ⟨rfl, rfl⟩) hop
      ⟨hst, hcount, htmo', hbuf, rfl, hregs.2⟩
end

section
/-!
The transmitting side of a serial lane (R268, R269, R286, R288, R289).
-/

namespace Sys2Proof.Machine

variable {s t : State} {p : PageNo} {n : LaneNo}

/-! ## SLN_TX_PUSH -/

theorem State.laneTxPush_room (item : Word) (hsend : s.laneSends n = true)
    (hroom : (s.lane n).tx.length + (s.lane n).txOut < 512) :
    s.laneTxPush n item = s.useFree.setLane n { s.lane n with tx := (s.lane n).tx ++ [item &&& 0x30FFFFFF#32] } := by
  have hdepth : s.laneTxDepth n < 512 :=
    lt_of_le_of_lt (Nat.add_le_add_left (s.fifoLate_le _ _) _) hroom
  exact if_pos ⟨hsend, hdepth⟩

/-- The state after a refused push. -/
def State.txRefused (s : State) (n : Nat) : State :=
  (s.useFree.bump (Reg.SLN_TX_REFUSED n)).setFld (Reg.SLN_STATUS_TX_FULL_WRITE n) 1

theorem State.laneTxPush_refused (item : Word) (hfull : s.laneSends n = false ∨ 512 ≤ (s.lane n).tx.length) :
    s.laneTxPush n item = s.txRefused n := by
  refine if_neg fun h => ?_
  obtain ⟨hsend, hdepth⟩ := h
  obtain hoff | hlen := hfull
  · exact absurd (hoff.symm.trans hsend) Bool.false_ne_true
  · exact absurd (lt_of_le_of_lt (hlen.trans (Nat.le_add_right _ _)) hdepth) (by omega)

theorem State.txRefused_spec (s : State) (n : LaneNo) :
    (s.txRefused n).rd (Reg.SLN_TX_REFUSED n) = satInc (s.rd (Reg.SLN_TX_REFUSED n)) ∧
      (s.txRefused n).flag (Reg.SLN_STATUS_TX_FULL_WRITE n) = true ∧
      OnlyRegs { s with freeCnt := (s.txRefused n).freeCnt } (s.txRefused n)
        [Reg.SLN_TX_REFUSED n, Reg.SLN_STATUS n] := by
  refine ⟨?_, State.flag_setFld_one _ _ rfl (show 2 + 1 ≤ 32 by decide), ?_⟩
  · rw [txRefused, State.rd_setFld_ne _ _ (by simp only [Reg.SLN_TX_REFUSED, Reg.SLN_STATUS]; omega),
      State.rd_bump_same]
    rfl
  · exact ((OnlyRegs.refl { s with freeCnt := s.freeCnt + 1 } _).wr _ List.mem_cons_self).setFld
      (Reg.SLN_STATUS_TX_FULL_WRITE n) 1 (List.mem_cons_of_mem _ List.mem_cons_self)

/-! ## The next item goes out -/

/-- The next item of a UART lane is on the line. -/
def State.itemSent (s : State) (n : Nat) (w : Word) (ws : List Word) : State :=
  (s.setLane n { (s.lane n).txTaken s.tb.local16 ws with
    line := some w, sending := (s.lane n).sending || false, lag16 := none }).emit (.serialTx n w)

theorem State.laneSend_uart {w : Word} {ws : List Word} (hruns : s.laneRuns n = true) (hpers : s.pers n = persUart)
    (hcts : s.ctsHolds n = false) (htx : (s.lane n).tx = w :: ws) :
    s.laneSend n none = if bitOf w.toNat 28 ∨ ws = [] then (s.itemSent n w ws).laneTxEnd n else s.itemSent n w ws := by
  have hrs : decide (s.pers n = persRs485) = false := decide_eq_false (by rw [hpers]; decide)
  have hecho : s.echoBad n w none = false := by
    unfold echoBad
    rw [hpers]
    rfl
  unfold laneSend
  dsimp only
  rw [htx, hruns, hcts, hpers]
  refine (if_pos rfl).trans ?_
  dsimp only
  rw [hecho]
  exact if_neg Bool.false_ne_true

theorem State.laneTxEnd_uart (hstaged : s.staged = []) :
    ∃ u : State, s.laneTxEnd n = u ∧ LaneSide s u n [0x604] ∧ u.out = s.out ∧ (u.lane n).tx = (s.lane n).tx ∧
      (u.lane n).line = none ∧ u.rd (Reg.SLN_TX_FRAMES n) = s.rd (Reg.SLN_TX_FRAMES n) + 1 ∧
      OnlyRegs { s with lanes := u.lanes } u [Reg.SLN_TX_FRAMES n] := by
  unfold laneTxEnd
  extract_lets x rs t
  have hlane : t.lane n = { x with
      line := none, sending := if rs then x.sending else false, lag16 := if rs then some s.tb.local16 else none } :=
    State.lane_setLane_same s n _
  have ht : LaneSide s t n [0x604] := (LaneSide.refl s n _).setLane _
  have hside : LaneSide s (t.tick (Reg.SLN_TX_FRAMES n)) n [0x604] := ht.wr 0x604 _ (by decide)
  have hregs : OnlyRegs { s with lanes := t.lanes } (t.tick (Reg.SLN_TX_FRAMES n)) [Reg.SLN_TX_FRAMES n] :=
    (OnlyRegs.refl { s with lanes := t.lanes } _).wr _ List.mem_cons_self
  have hcan : (t.tick (Reg.SLN_TX_FRAMES n)).lane n = t.lane n := rfl
  refine ⟨_, hside.frameEnd hstaged _, hside, rfl, ?_, ?_, t.rd_wr_same _ _, hregs⟩
  · rw [hcan, hlane]
  · rw [hcan, hlane]

theorem State.itemSent_lane (s : State) (n : Nat) (w : Word) (ws : List Word) :
    ((s.itemSent n w ws).lane n).tx = ws ∧ ((s.itemSent n w ws).lane n).line = some w := by
  have h : (s.itemSent n w ws).lane n = { (s.lane n).txTaken s.tb.local16 ws with
    line := some w, sending := (s.lane n).sending || false, lag16 := none } := s.lane_setLane_same n _
  exact ⟨by rw [h, Lane.txTaken], by rw [h]⟩

/-! ## DE, and the commands of SLN_CMD -/

theorem State.laneDeLag_due {l : Nat} (hlag : (s.lane n).lag16 = some l)
    (htime : l + s.fld (Reg.SLN_DE_DE_LAG n) * 6553600 ≤ s.tb.local16) :
    s.laneDeLag n = (s.setLane n { s.lane n with sending := false, lag16 := none }).emit
      (.lineDriver n false (l + s.fld (Reg.SLN_DE_DE_LAG n) * 6553600)) := by
  have hend : l + s.fld (Reg.SLN_DE_DE_LAG n) * 100 * 65536 = l + s.fld (Reg.SLN_DE_DE_LAG n) * 6553600 := by omega
  unfold laneDeLag
  dsimp only
  rw [hlag]
  dsimp only
  rw [hend]
  exact if_pos htime

theorem State.laneRxFlush_spec (s : State) (n : LaneNo) :
    ∃ u : State, s.laneRxFlush n = u ∧ (u.lane n).rx = [] ∧ (u.lane n).tx = (s.lane n).tx ∧
      OnlyRegs { s with lanes := u.lanes } u [Reg.SLN_STATUS n] := by
  have hlane : (s.setLane n { s.lane n with rx := [], rxNew := 0 }).lane n = { s.lane n with rx := [], rxNew := 0 } :=
    s.lane_setLane_same n _
  have hrefl := OnlyRegs.refl { s with lanes := (s.setLane n { s.lane n with rx := [], rxNew := 0 }).lanes }
    [Reg.SLN_STATUS n]
  rw [laneRxFlush, laneFell]
  split
  · exact ⟨_, rfl, (congrArg Lane.rx hlane :), (congrArg Lane.tx hlane :), hrefl.setFld (Reg.SLN_STATUS_RTS n) 0
      List.mem_cons_self⟩
  · exact ⟨_, rfl, (congrArg Lane.rx hlane :), (congrArg Lane.tx hlane :), hrefl⟩

theorem State.laneTxFlush_idle (hline : (s.lane n).line = none) :
    s.laneTxFlush n = s.setLane n { s.lane n with tx := [] } := by
  unfold laneTxFlush
  dsimp only
  rw [hline]
  exact if_neg Bool.false_ne_true

theorem State.laneTxFlush_open (hline : (s.lane n).line ≠ none) (hstaged : s.staged = [])
    (hpers : s.pers n ≠ persSpiCtl) :
    ∃ u : State, s.laneTxFlush n = u ∧ (u.lane n).tx = [] ∧ (u.lane n).line = none ∧
      u.rd (Reg.SLN_TX_FRAMES n) = s.rd (Reg.SLN_TX_FRAMES n) + 1 := by
  obtain ⟨u, hop, -, -, htx, hend, hcount, -⟩ :=
    State.laneTxEnd_uart (s := s.setLane n { s.lane n with tx := [] }) (n := n) hstaged
  refine ⟨u, ?_, by rw [htx, State.lane_setLane_same], hend, hcount⟩
  unfold laneTxFlush
  dsimp only
  rw [if_pos (Option.isSome_iff_ne_none.mpr hline), if_neg hpers, hop]

theorem State.smReset_spec (s : State) (n : LaneNo) :
    (s.smReset n).smState n = 0 ∧ ((s.smReset n).lane n).buf = [] ∧
      OnlyRegs { s with lanes := (s.smReset n).lanes } (s.smReset n) [Reg.SLN_SM_STATE n] := by
  refine ⟨State.fld_setFld_same _ (Reg.SLN_SM_STATE_STATE n) 0 (show 16 + 6 ≤ 32 by decide), ?_, ?_⟩
  · exact congrArg Lane.buf (s.lane_setLane_same n _)
  · exact (OnlyRegs.refl { s with lanes := (s.smReset n).lanes } _).setFld (Reg.SLN_SM_STATE_STATE n) 0
      List.mem_cons_self

theorem State.laneCts_spec (s : State) (n : LaneNo) (high : Bool) :
    (s.laneCts n high).flag (Reg.SLN_STATUS_CTS n) = (high && s.pinsSeen (Reg.laneUnit n)) ∧
      OnlyRegs s (s.laneCts n high) [Reg.SLN_STATUS n] := by
  refine ⟨?_, (OnlyRegs.refl s _).setFld (Reg.SLN_STATUS_CTS n) _ List.mem_cons_self⟩
  rw [laneCts]
  cases high && s.pinsSeen (Reg.laneUnit n)
  · exact State.flag_setFld_zero _ _ (show 15 + 1 ≤ 32 by decide)
  · exact State.flag_setFld_one _ _ rfl (show 15 + 1 ≤ 32 by decide)

end Sys2Proof.Machine

open Sys2Proof.Machine in
/-- Settles O39: whatever the read side may still count, a push with room joins the FIFO; the other commands change
  their
own lane and the registers named. -/
theorem lanesTransmit : Obligations.LanesTransmit := by
  unfold Obligations.LanesTransmit
  intro p n s
  refine ⟨fun item h => ⟨fun hsend hroom => ?_, fun hfull => ?_⟩, ?_, ?_, fun h => ⟨?_, ?_, ?_, ?_⟩, ?_⟩
  · exact exec_of_completes (completes_onWrite
      (fun s t : State => { s with regs := t.regs, lanes := t.lanes, freeCnt := t.freeCnt }) h rfl (fun _ => ⟨rfl, rfl⟩)
      (State.laneTxPush_room item hsend hroom) rfl)
  · exact completes_onWrite (fun s t : State => { s with regs := t.regs, lanes := t.lanes, freeCnt := t.freeCnt }) h rfl
      (fun _ => ⟨rfl, rfl⟩) (State.laneTxPush_refused item hfull) (s.txRefused_spec n)
  · intro w ws h hstaged hruns hpers hcts htx
    have hop := State.laneSend_uart hruns hpers hcts htx
    obtain ⟨hrest, hline⟩ := s.itemSent_lane n w ws
    split at hop
    case isTrue hlast =>
      obtain ⟨u, hu, -, hout, htx', hend, hcount, hregs⟩ :=
        State.laneTxEnd_uart (s := s.itemSent n w ws) (n := n) hstaged
      refine completes_framed (fun s => s.laneSend n none)
        (fun s t : State => { s with regs := t.regs, staged := t.staged, out := t.out, lanes := t.lanes }) h rfl
        (fun _ => ⟨rfl, rfl⟩) (hop.trans hu) ⟨hout, htx'.trans hrest, ?_, ?_⟩
      · rw [if_pos hlast]
        exact ⟨hend, hcount⟩
      · have hsame : u.staged = s.staged := (congrArg State.staged hregs.1 :)
        exact ⟨congrArg (fun x => { s with staged := x, out := u.out, lanes := u.lanes }) hsame, hregs.2⟩
    case isFalse hlast =>
      refine completes_framed (fun s => s.laneSend n none)
        (fun s t : State => { s with regs := t.regs, staged := t.staged, out := t.out, lanes := t.lanes }) h rfl
        (fun _ => ⟨rfl, rfl⟩) hop ⟨rfl, hrest, ?_, rfl, fun _ _ => rfl⟩
      rw [if_neg hlast]
      exact ⟨hline, rfl⟩
  · intro l h hlag htime
    exact exec_of_completes (completes_framed (fun s => s.laneDeLag n)
      (fun s t : State => { s with lanes := t.lanes, out := t.out }) h rfl (fun _ => ⟨rfl, rfl⟩)
      (State.laneDeLag_due hlag htime) rfl)
  · obtain ⟨u, hop, hrx, htx, hregs⟩ := s.laneRxFlush_spec n
    exact completes_onWrite (fun s t : State => { s with regs := t.regs, lanes := t.lanes }) h rfl
      (fun _ => ⟨rfl, rfl⟩) hop ⟨hrx, htx, rfl, hregs.2⟩
  · intro hline
    exact exec_of_completes (completes_onWrite (fun s t : State => { s with
      regs := t.regs, staged := t.staged, eqs := t.eqs, out := t.out, sig := t.sig, limits := t.limits,
      engines := t.engines, lanes := t.lanes, nextId := t.nextId, holdBuf := t.holdBuf }) h rfl (fun _ => ⟨rfl, rfl⟩)
      (State.laneTxFlush_idle hline) rfl)
  · intro hline hstaged hpers
    obtain ⟨u, hop, hP⟩ := State.laneTxFlush_open hline hstaged hpers
    exact completes_onWrite (fun s t : State => { s with
      regs := t.regs, staged := t.staged, eqs := t.eqs, out := t.out, sig := t.sig, limits := t.limits,
      engines := t.engines, lanes := t.lanes, nextId := t.nextId, holdBuf := t.holdBuf }) h rfl (fun _ => ⟨rfl, rfl⟩)
      hop hP
  · obtain ⟨hst, hbuf, hregs⟩ := s.smReset_spec n
    exact completes_onWrite (fun s t : State => { s with regs := t.regs, lanes := t.lanes }) h rfl
      (fun _ => ⟨rfl, rfl⟩) rfl ⟨hst, hbuf, rfl, hregs.2⟩
  · intro high h
    obtain ⟨hflag, hregs⟩ := s.laneCts_spec n high
    exact completes_framed (fun s => s.laneCts n high) (fun s t : State => { s with regs := t.regs }) h rfl
      (fun _ => ⟨rfl, rfl⟩) rfl ⟨hflag, rfl, hregs.2⟩
end

section
/-!
What a chain leaves alone (R190 to R200): its first pass changes the signal space, its limits, the engines' queues and
registers of counts, and no register of a unit below its block of counts.
-/

namespace Sys2Proof.Machine

variable {s t : State}

/-! ## What a chain does not touch -/

/-- What a chain does not touch: all but the parts it changes, and the registers of units below 0xf00. -/
def State.chainView (s : State) : State × (Nat → Nat → Word) :=
  ({ s with regs := [], sig := {}, limits := [], engines := [], nextId := 0, holdBuf := [] },
    fun u k => if u < 1024 ∧ k < 0xf00 then s.rd (Reg.unitBase u + k) else 0)

theorem State.chainView_congr
    (hframe : { t with regs := [], sig := {}, limits := [], engines := [], nextId := 0, holdBuf := [] } =
      { s with regs := [], sig := {}, limits := [], engines := [], nextId := 0, holdBuf := [] })
    (hregs : ∀ u k, u < 1024 → k < 0xf00 → t.rd (Reg.unitBase u + k) = s.rd (Reg.unitBase u + k)) :
    t.chainView = s.chainView := by
  refine Prod.ext hframe (funext fun u => funext fun k => ?_)
  simp only [chainView]
  split
  case isTrue hk => exact hregs u k hk.1 hk.2
  case isFalse => rfl

theorem State.chainView_rd (h : t.chainView = s.chainView) {u k : Nat} (hu : u < 1024) (hk : k < 0xf00) :
    t.rd (Reg.unitBase u + k) = s.rd (Reg.unitBase u + k) := by
  have hfun := congrFun (congrFun (congrArg Prod.snd h) u) k
  simp only [chainView, if_pos (And.intro hu hk)] at hfun
  exact hfun

/-- A register that a chain may write: of the device, or of the counts of a unit. -/
def ChainReg (a : Nat) : Prop := ∀ u k, u < 1024 → k < 0xf00 → Reg.unitBase u + k ≠ a

theorem ChainReg.device {a : Nat} (h : a < 0x200000) : ChainReg a := fun u k _ _ => by
  have := le_unitReg u k
  omega

theorem ChainReg.engine (e k : Nat) : ChainReg (Reg.secBase e + k) := fun u j _ _ => by
  simp only [Reg.unitBase, Reg.secBase]
  omega

theorem ChainReg.counts (v : Nat) {j : Nat} (hl : 0xf00 ≤ j) (hu : j < 0x2000) : ChainReg (Reg.unitBase v + j) :=
  fun u k _ hk => by
    simp only [Reg.unitBase]
    omega

theorem State.wr_chainView {a : Nat} (s : State) (v : Word) (ha : ChainReg a) : (s.wr a v).chainView = s.chainView :=
  State.chainView_congr rfl fun u k hu hk => s.rd_wr_ne v (ha u k hu hk)

theorem State.limitEntry_chainView (s : State) (item : ChainItem) (r : Nat) :
    (s.limitEntry item r).1.chainView = s.chainView := by
  unfold limitEntry
  extract_lets cost j
  have hj : j.1.chainView = s.chainView := rfl
  clear_value j
  split
  · exact hj
  · refine (State.wr_chainView _ _ ?_).trans ((j.1.wr_chainView _ ?_).trans hj)
    · cases item.unit with
      | none => exact ChainReg.device (by decide)
      | some u => exact ChainReg.counts u (j := 0xf20) (by decide) (by decide)
    · cases item.unit with
      | none => exact ChainReg.device (by decide)
      | some u => exact ChainReg.counts u (j := 0xf00) (by decide) (by decide)

theorem State.invoke_chainView (s : State) (i : Invoc) : (s.invoke i).1.chainView = s.chainView := by
  unfold invoke
  extract_lets e t
  split
  · exact t.wr_chainView _ (ChainReg.engine e 0x10)
  · exact State.wr_chainView _ _ (ChainReg.engine e 0x18)

theorem State.fieldEntry_chainView (s : State) (item : ChainItem) (r batch : Nat) (d : FieldDesc) :
    (s.fieldEntry item r batch d).1.chainView = s.chainView := by
  unfold fieldEntry
  split
  · refine s.wr_chainView _ ?_
    cases item.unit with
    | none => exact ChainReg.device (by decide)
    | some u => exact ChainReg.counts u (j := 0xf04) (by decide) (by decide)
  · dsimp only
    split
    · rfl
    · exact s.invoke_chainView _

theorem State.signalEntry_chainView (s : State) (item : ChainItem) (r batch : Nat) :
    (s.signalEntry item r batch).1.chainView = s.chainView := by
  unfold signalEntry
  exact foldl_keeps (fun a : State × List BatchItem => a.1.chainView)
    (fun a d => by exact a.1.fieldEntry_chainView item r batch d) _ _

theorem State.firstPass_chainView (s : State) (item : ChainItem) (batch : Nat) (l : List Nat) :
    (s.firstPass item batch l).1.chainView = s.chainView := by
  induction l generalizing s with
  | nil => rfl
  | cons r rs ih =>
    unfold firstPass
    dsimp only
    split
    · split
      · exact (ih _).trans (s.limitEntry_chainView item r)
      · exact s.limitEntry_chainView item r
    · split
      · exact (ih _).trans (s.signalEntry_chainView item r batch)
      · exact ih _

theorem State.startChain_chainView (s : State) (item : ChainItem) (route : Nat) :
    (s.startChain item route).chainView = s.chainView := by
  unfold startChain
  extract_lets c t b f
  have ht : t.chainView = s.chainView := by
    unfold t
    split
    · refine s.wr_chainView _ ?_
      cases item.unit with
      | none => exact ChainReg.device (by decide)
      | some u => exact ChainReg.counts u (j := 0xf18) (by decide) (by decide)
    · rfl
  have hf : f.1.chainView = s.chainView := (State.firstPass_chainView _ _ _ _).trans ht
  split <;> exact hf

theorem State.chainInOrder_chainView (s : State) (item : ChainItem) (route : Nat) :
    (s.chainInOrder item route).chainView = s.chainView := by
  unfold chainInOrder
  split
  · rfl
  · exact s.startChain_chainView item route

end Sys2Proof.Machine
end

section
/-!
LIN (R270 to R272): headers, responses, and frames whose time has passed.
-/

namespace Sys2Proof.Machine

variable {s t : State} {n : LaneNo}

theorem laneUnit_lt (n : LaneNo) : Reg.laneUnit n < 1024 := by
  simp only [Reg.laneUnit]
  omega

/-- A chain of a lane leaves the lanes, the outputs, what is staged and the lane's registers as they were. -/
theorem State.laneChain_spec (s : State) (n : LaneNo) (route : Nat) (request : Bool) (payload : List Byte) :
    (s.laneChain n route request payload).lanes = s.lanes ∧ (s.laneChain n route request payload).out = s.out ∧
      (s.laneChain n route request payload).staged = s.staged ∧
      ∀ k < 0xf00, (s.laneChain n route request payload).rd (Reg.laneBase n + k) = s.rd (Reg.laneBase n + k) := by
  have h : (s.laneChain n route request payload).chainView = s.chainView := s.chainInOrder_chainView _ route
  exact ⟨(congrArg (fun v => v.1.lanes) h :), (congrArg (fun v => v.1.out) h :), (congrArg (fun v => v.1.staged) h :),
    fun k hk => State.chainView_rd h (laneUnit_lt n) hk⟩

/-! ## A frame that is not complete -/

theorem State.linLost_spec (s : State) (n : LaneNo) :
    (s.linLost n).lane n = { s.lane n with lin := none } ∧
      (s.linLost n).rd (Reg.SLN_LIN_NORESP n) = satInc (s.rd (Reg.SLN_LIN_NORESP n)) ∧
      (s.linLost n).flag (Reg.SLN_STATUS_NORESP_SEEN n) = true ∧
      OnlyRegs { s with lanes := (s.linLost n).lanes } (s.linLost n) [Reg.SLN_LIN_NORESP n, Reg.SLN_STATUS n] := by
  refine ⟨s.lane_setLane_same n _, ?_, State.flag_setFld_one _ _ rfl (show 0 + 1 ≤ 32 by decide), ?_⟩
  · rw [linLost, State.rd_setFld_ne _ _ (by simp only [Reg.SLN_LIN_NORESP, Reg.SLN_STATUS]; omega), State.rd_bump_same]
    rfl
  · exact ((OnlyRegs.refl { s with lanes := (s.linLost n).lanes } _).wr _ List.mem_cons_self).setFld
      (Reg.SLN_STATUS_NORESP_SEEN n) 1 (List.mem_cons_of_mem _ List.mem_cons_self)

theorem State.linNoresp_late {f : LinFrame} (hstaged : s.staged = []) (hlin : (s.lane n).lin = some f)
    (hlate : s.linDeadline n f < s.tb.local16) : s.linNoresp n = s.linLost n := by
  unfold linNoresp
  rw [hlin]
  exact (if_pos hlate).trans (State.applyStaged_nil (s := s.linLost n) hstaged _)

/-! ## Headers -/

/-- What a header opens: a frame, or a chain that requests its response. The rest of the lane stays. -/
theorem State.linHeader_spec (s : State) (n : LaneNo) (ident at16 div : Nat) :
    (s.linHeader n ident at16 div).out = s.out ∧
      ((s.linHeader n ident at16 div).lane n).slot = (s.lane n).slot ∧
      ((s.linHeader n ident at16 div).lane n).slotDue16 = (s.lane n).slotDue16 := by
  have hopen : ∃ t : State, (if (s.lane n).lin.isSome then s.linLost n else s) = t ∧ t.out = s.out ∧
      (t.lane n).slot = (s.lane n).slot ∧ (t.lane n).slotDue16 = (s.lane n).slotDue16 := by
    obtain ⟨hlane, -⟩ := s.linLost_spec n
    split
    · exact ⟨_, rfl, rfl, by rw [hlane], by rw [hlane]⟩
    · exact ⟨s, rfl, rfl, rfl, rfl⟩
  obtain ⟨t, ht, hout, hslot, hdue⟩ := hopen
  have hlane : ∀ x : Lane, x.slot = (t.lane n).slot → x.slotDue16 = (t.lane n).slotDue16 →
      ((t.setLane n x).lane n).slot = (s.lane n).slot ∧ ((t.setLane n x).lane n).slotDue16 = (s.lane n).slotDue16 :=
    fun x hx hx' => by
      rw [State.lane_setLane_same]
      exact ⟨hx.trans hslot, hx'.trans hdue⟩
  unfold linHeader
  rw [ht]
  extract_lets u f route
  split
  · exact ⟨hout, hlane _ rfl rfl⟩
  · obtain ⟨hlanes, hout', -, -⟩ := State.laneChain_spec
      (t.setLane n { t.lane n with lin := some f, frame16 := at16 }) n route true []
    rw [State.lane, hlanes, ← State.lane]
    exact ⟨hout'.trans hout, hlane _ rfl rfl⟩
  · exact ⟨hout, hslot, hdue⟩

theorem State.linSlotAt_spec (s : State) (n : LaneNo) (at16 : Nat) :
    (s.linSlotAt n at16).out = (if bitOf (s.linSlot n (s.lane n).sched (s.lane n).slot) 7 then
        s.out ++ [.linHeader n (s.linBreak n) (linPid (bits (s.linSlot n (s.lane n).sched (s.lane n).slot) 0 6))]
      else s.out) ∧
      ((s.linSlotAt n at16).lane n).slot = (s.lane n).slot + 1 ∧
      ((s.linSlotAt n at16).lane n).slotDue16 =
        some (at16 + bits (s.linSlot n (s.lane n).sched (s.lane n).slot) 8 16 * 6553600000) := by
  unfold linSlotAt
  extract_lets x w t ident bit t₁
  have hdue : at16 + bits w 8 16 * 100 * us16 = at16 + bits w 8 16 * 6553600000 := by
    simp only [us16]
    omega
  have hlane : t.lane n =
      { x with slot := x.slot + 1, slotDue16 := some (at16 + bits w 8 16 * 6553600000) } := by
    rw [← hdue]
    exact s.lane_setLane_same n _
  change State.out (if bitOf w 7 = true then _ else _) = (if bitOf w 7 = true then _ else _) ∧ _
  split
  · obtain ⟨hout, hslot, hdue'⟩ := t₁.linHeader_spec n ident (at16 + (s.linBreak n + 21) * bit)
      (s.fld (Reg.SLN_BAUD_BAUD_DIV n))
    have ht₁ : t₁.lane n = t.lane n := rfl
    refine ⟨hout, ?_, ?_⟩
    · rw [hslot, ht₁, hlane]
    · rw [hdue', ht₁, hlane]
  · exact ⟨rfl, by rw [hlane], by rw [hlane]⟩

theorem State.linSlotStart_due {d : Nat} (hruns : s.laneRuns n = true) (hpers : s.pers n = persLinCmd)
    (hdue : (s.lane n).slotDue16 = some d) (htime : d ≤ s.tb.local16)
    (hrun : s.flag (Reg.SLN_LIN_CTRL_RUN n) = true)
    (hslot : bits (s.linSlot n (s.lane n).sched (s.lane n).slot) 8 16 ≠ 0) : s.linSlotStart n = s.linSlotAt n d := by
  unfold linSlotStart
  dsimp only
  rw [hdue, hruns, hpers, hrun]
  refine (if_neg (by decide)).trans ((if_neg (Nat.not_lt.mpr htime)).trans ((if_neg (by decide)).trans ?_))
  rw [if_neg hslot, if_neg hslot]

/-! ## A header is detected -/

theorem State.linHeaderIn_short {brk : Nat} (pid div : Nat) (hbrk : brk < 11) : s.linHeaderIn n pid div brk = s := by
  refine if_neg fun h => ?_
  rw [Bool.and_eq_true, decide_eq_true_eq] at h
  exact absurd h.2 (by omega)

theorem State.linHeaderIn_eq {brk : Nat} (pid div : Nat) (hruns : s.laneRuns n = true)
    (hpins : s.pinsSeen (Reg.laneUnit n) = true) (hpers : s.pers n = persLinResp) (hbrk : 11 ≤ brk) :
    s.linHeaderIn n pid div brk =
      if 15 * s.fld (Reg.SLN_BAUD_BAUD_DIV n) < 100 * ((div : Int) - s.fld (Reg.SLN_BAUD_BAUD_DIV n)).natAbs ∨
          linPid (pid % 64) ≠ pid then (s.regionWork (Reg.laneUnit n)).laneBad n
      else (s.regionWork (Reg.laneUnit n)).linHeader n (pid % 64) (s.regionWork (Reg.laneUnit n)).tb.local16 div := by
  refine if_pos ?_
  rw [laneSees, hruns, hpins, hpers, decide_eq_true hbrk]
  rfl

theorem State.linHeader_receives {ident : Nat} (at16 div : Nat) (hlin : (s.lane n).lin = none)
    (hdir : s.linDir n ident = 1) : s.linHeader n ident at16 div = s.setLane n { s.lane n with
      lin := some { ident := ident, at16 := at16, div := div }, frame16 := at16 } := by
  unfold linHeader
  rw [hlin, if_neg (by decide)]
  dsimp only
  rw [hdir]
  rfl

/-- A good header for a frame that the lane receives opens the frame. -/
theorem State.linHeaderIn_opens {pid brk div : Nat} (hruns : s.laneRuns n = true)
    (hpins : s.pinsSeen (Reg.laneUnit n) = true) (hpers : s.pers n = persLinResp) (hbrk : 11 ≤ brk)
    (hpid : linPid (pid % 64) = pid) (hlin : (s.lane n).lin = none) (hdir : s.linDir n (pid % 64) = 1)
    (hrate : 100 * ((div : Int) - s.fld (Reg.SLN_BAUD_BAUD_DIV n)).natAbs ≤ 15 * s.fld (Reg.SLN_BAUD_BAUD_DIV n)) :
    ∃ u : State, s.linHeaderIn n pid div brk = u ∧ u.dev.held = s.dev.held ∧
      (u.lane n).lin = some { ident := pid % 64, at16 := s.tb.local16, div := div } ∧
      (u.lane n).rx = (s.lane n).rx ∧ u.sig = s.sig := by
  obtain ⟨R, D, K, hop, hheld, -⟩ := s.regionWork_spec (Reg.laneUnit n)
  have hin := State.linHeaderIn_eq pid div hruns hpins hpers hbrk
  rw [if_neg (fun h => h.elim (by omega) fun hne => hne hpid), hop] at hin
  refine ⟨_, hin.trans (State.linHeader_receives _ _ hlin hdir), hheld, ?_, ?_, rfl⟩
  · exact (congrArg Lane.lin (State.lane_setLane_same _ n _) :)
  · exact (congrArg Lane.rx (State.lane_setLane_same _ n _) :)

theorem State.laneBad_spec (s : State) (n : LaneNo) :
    (s.laneBad n).rd (Reg.SLN_BAD_FRAME n) = satInc (s.rd (Reg.SLN_BAD_FRAME n)) ∧
      (s.laneBad n).flag (Reg.SLN_STATUS_BAD_SEEN n) = true := by
  refine ⟨?_, State.flag_setFld_one _ _ rfl (show 3 + 1 ≤ 32 by decide)⟩
  rw [laneBad, State.rd_setFld_ne _ _ (by simp only [Reg.SLN_BAD_FRAME, Reg.SLN_STATUS]; omega), State.rd_bump_same]

/-- A header whose protected identifier fails its check is counted. -/
theorem State.linHeaderIn_bad {pid brk div : Nat} (hruns : s.laneRuns n = true)
    (hpins : s.pinsSeen (Reg.laneUnit n) = true) (hpers : s.pers n = persLinResp) (hbrk : 11 ≤ brk)
    (hpid : linPid (pid % 64) ≠ pid) :
    ∃ u : State, s.linHeaderIn n pid div brk = u ∧ u.dev.held = s.dev.held ∧
      u.rd (Reg.SLN_BAD_FRAME n) = satInc (s.rd (Reg.SLN_BAD_FRAME n)) ∧
      u.flag (Reg.SLN_STATUS_BAD_SEEN n) = true ∧ u.lanes = s.lanes ∧ u.sig = s.sig := by
  obtain ⟨R, D, K, hop, hheld, hregs⟩ := s.regionWork_spec (Reg.laneUnit n)
  have hin := State.linHeaderIn_eq pid div hruns hpins hpers hbrk
  rw [if_pos (Or.inr hpid), hop] at hin
  obtain ⟨hcount, hflag⟩ := State.laneBad_spec { s with regs := R, dev := D, waking := K } n
  exact ⟨_, hin, hheld, hcount.trans (congrArg satInc (hregs _ (lane_ne_regionStep n 0x614))), hflag, rfl, rfl⟩

/-! ## The response -/

/-- The receive words of a response. -/
def linWords (data : List Byte) : List Word := data.map fun b => rxWord false false false b.toNat

/-- The open frame is closed. -/
def State.linClosed (s : State) (n : Nat) : State := s.setLane n { s.lane n with lin := none }

theorem State.linResponse_eq {f : LinFrame} {data : List Byte} (sum : Byte) (hruns : s.laneRuns n = true)
    (hpins : s.pinsSeen (Reg.laneUnit n) = true) (hlin : (s.lane n).lin = some f) (hresp : f.response = none)
    (htime : s.tb.local16 ≤ s.linDeadline n f) (hdir : s.linDir n f.ident = 1) (hlen : data.length =
      s.linLen n f.ident) :
    s.linResponse n data sum =
      if sum = linChecksum f.ident data then
        ((((s.linClosed n).tick (Reg.SLN_RX_FRAMES n)).laneItems n (linWords data) false).laneChain n
          (bits (s.linEntry n f.ident) 7 15) false data).frameEnd (Reg.laneUnit n)
      else (((s.linClosed n).laneBad n).laneKeep n (linWords data)).frameEnd (Reg.laneUnit n) := by
  have hsees : s.laneSees n = true := by rw [laneSees, hruns, hpins]; rfl
  unfold linResponse
  rw [hlin]
  dsimp only
  rw [hsees, hresp, if_neg (by
    rw [Bool.or_eq_true, decide_eq_true_eq]
    exact fun h => h.elim (fun h => absurd h (by decide)) fun h => absurd h (Nat.not_lt.mpr htime))]
  dsimp only
  rw [if_neg (fun h => h.elim (fun h => h hdir) fun h => h hlen)]
  rfl

theorem State.linResponse_good {f : LinFrame} {data : List Byte} (hstaged : s.staged = [])
    (hroom : (s.lane n).rx.length + data.length ≤ 512) :
    ∃ u : State, ((((s.linClosed n).tick (Reg.SLN_RX_FRAMES n)).laneItems n (linWords data) false).laneChain n
        (bits (s.linEntry n f.ident) 7 15) false data).frameEnd (Reg.laneUnit n) = u ∧
      (u.lane n).rx = (s.lane n).rx ++ frameWords (linWords data) false ∧ (u.lane n).lin = none ∧
      u.rd (Reg.SLN_RX_FRAMES n) = s.rd (Reg.SLN_RX_FRAMES n) + 1 := by
  have hside : LaneSide s ((s.linClosed n).tick (Reg.SLN_RX_FRAMES n)) n (0x600 :: itemRegs) :=
    ((LaneSide.refl s n _).setLane _).wr 0x600 _ (by decide)
  have hcount : ((s.linClosed n).tick (Reg.SLN_RX_FRAMES n)).rd (Reg.SLN_RX_FRAMES n) =
      s.rd (Reg.SLN_RX_FRAMES n) + 1 := State.rd_wr_same _ _ _
  have hlane : ((s.linClosed n).tick (Reg.SLN_RX_FRAMES n)).lane n = { s.lane n with lin := none } :=
    s.lane_setLane_same n _
  generalize (s.linClosed n).tick (Reg.SLN_RX_FRAMES n) = t at *
  have hwords : (frameWords (linWords data) false).length = data.length := by
    rw [frameWords_length, linWords, List.length_map]
  obtain ⟨u, hitems, hside', a, b, hlane'⟩ := State.laneItems_fit n (frameWords (linWords data) false) t (by
    rw [hlane, hwords]
    exact hroom)
  have hu : t.laneItems n (linWords data) false = u := hitems
  obtain ⟨hlanes, -, hst, hregs⟩ := u.laneChain_spec n (bits (s.linEntry n f.ident) 7 15) false data
  have hall := hside.trans (hside'.mono (List.subset_cons_self _ _))
  rw [hu]
  refine ⟨_, State.applyStaged_nil (hst.trans (hall.staged.trans hstaged)) _, ?_, ?_, ?_⟩
  · rw [lane, hlanes, ← lane, hlane', hlane]
  · rw [lane, hlanes, ← lane, hlane', hlane]
  · exact (hregs 0x600 (by decide)).trans ((hside'.reg 0x600 (by decide) (by decide)).trans hcount)

theorem State.linResponse_bad {data : List Byte} (hstaged : s.staged = [])
    (hkeep : s.flag (Reg.SLN_MODE_KEEP_BAD n) = false) :
    ∃ u : State, (((s.linClosed n).laneBad n).laneKeep n (linWords data)).frameEnd (Reg.laneUnit n) = u ∧
      u.rd (Reg.SLN_BAD_FRAME n) = satInc (s.rd (Reg.SLN_BAD_FRAME n)) ∧ (u.lane n).rx = (s.lane n).rx ∧
      (u.lane n).lin = none ∧ u.sig = s.sig := by
  have hside : LaneSide s ((s.linClosed n).laneBad n) n [0x614, 0x48] :=
    (((LaneSide.refl s n _).setLane _).wr 0x614 _ (by decide)).setFld 0x48 3 1 1 (by decide)
  have hlane : ((s.linClosed n).laneBad n).lane n = { s.lane n with lin := none } := s.lane_setLane_same n _
  have hcount : ((s.linClosed n).laneBad n).rd (Reg.SLN_BAD_FRAME n) = satInc (s.rd (Reg.SLN_BAD_FRAME n)) :=
    ((s.linClosed n).laneBad_spec n).1
  have hflag := (hside.flag 0x4 5 1 (by decide) (by decide)).trans hkeep
  generalize (s.linClosed n).laneBad n = t at *
  have hop : t.laneKeep n (linWords data) = t := if_neg fun h => absurd (hflag.symm.trans h) Bool.false_ne_true
  rw [hop]
  exact ⟨t, hside.frameEnd hstaged _, hcount, by rw [hlane], by rw [hlane], hside.sig⟩

/-! ## What the commands may change -/

theorem completes_linHeader {pid : Byte} {div : BitVec 24} {brk : Nat} {P : State → Prop} (h : s.awake)
    (hop : s.linHeaderIn n pid.toNat div.toNat brk = t) (hheld : t.dev.held = s.dev.held)
    (hP : P { s with
      regs := t.regs, sig := t.sig, limits := t.limits, engines := t.engines, waking := t.waking, lanes := t.lanes,
      nextId := t.nextId, dev := t.dev, holdBuf := t.holdBuf }) :
    Completes (.linHeaderReceived n pid ⟨div, brk⟩) s P :=
  completes_device (fun s => s.linHeaderIn n pid.toNat div.toNat brk) (fun s t : State => { s with
    regs := t.regs, sig := t.sig, limits := t.limits, engines := t.engines, waking := t.waking, lanes := t.lanes,
    nextId := t.nextId, dev := t.dev, holdBuf := t.holdBuf }) h rfl hop rfl (hheld.trans h) hP

theorem completes_linResponse {data : List Byte} {sum : Byte} {P : State → Prop} (h : s.awake)
    (hop : s.linResponse n data sum = t)
    (hP : P { s with
      regs := t.regs, staged := t.staged, eqs := t.eqs, out := t.out, sig := t.sig, limits := t.limits,
      engines := t.engines, lanes := t.lanes, nextId := t.nextId, holdBuf := t.holdBuf }) :
    Completes (.linResponseReceived n data sum) s P :=
  completes_framed (fun s => s.linResponse n data sum) (fun s t : State => { s with
    regs := t.regs, staged := t.staged, eqs := t.eqs, out := t.out, sig := t.sig, limits := t.limits,
    engines := t.engines, lanes := t.lanes, nextId := t.nextId, holdBuf := t.holdBuf }) h rfl (fun _ => ⟨rfl, rfl⟩)
    hop hP

end Sys2Proof.Machine

open Sys2Proof.Machine in
/-- Settles O40: a header opens a frame of its lane or starts a chain, which leaves the lanes alone; the items of a good
response have room in the FIFO. -/
theorem linFramesRun : Obligations.LinFramesRun := by
  unfold Obligations.LinFramesRun
  intro n s h hstaged hruns
  refine ⟨?_, ?_, ?_, ?_, ?_⟩
  · intro d hpers hdue htime hrun
    dsimp only
    intro hslot
    have hop := State.linSlotStart_due hruns hpers hdue htime hrun hslot
    obtain ⟨hout, hnext, hdue'⟩ := s.linSlotAt_spec n d
    generalize s.linSlotAt n d = u at *
    exact completes_framed (fun s => s.linSlotStart n) (fun s t : State => { s with
      regs := t.regs, staged := t.staged, out := t.out, sig := t.sig, limits := t.limits, engines := t.engines,
      lanes := t.lanes, nextId := t.nextId, holdBuf := t.holdBuf }) h rfl (fun _ => ⟨rfl, rfl⟩) hop
      ⟨hout, hnext, hdue', fun _ => rfl, rfl⟩
  · intro pid div brk hbrk
    exact exec_of_completes (completes_linHeader h (State.linHeaderIn_short pid.toNat div.toNat hbrk) rfl rfl)
  · intro pid div brk hpers hpins hbrk
    refine ⟨fun hpid hlin hdir hrate => ?_, fun hpid => ?_⟩
    · obtain ⟨u, hop, hheld, hopen, hrx, hsig⟩ :=
        State.linHeaderIn_opens hruns hpins hpers hbrk hpid hlin hdir hrate
      exact completes_linHeader h hop hheld ⟨hopen, hrx, hsig⟩
    · obtain ⟨u, hop, hheld, hcount, hflag, hlanes, hsig⟩ :=
        State.linHeaderIn_bad (div := div.toNat) hruns hpins hpers hbrk hpid
      exact completes_linHeader h hop hheld ⟨hcount, hflag, hlanes, hsig⟩
  · intro f data sum hlin hresp hpins htime hdir hlen
    have hop := State.linResponse_eq sum hruns hpins hlin hresp htime hdir hlen
    refine ⟨fun hsum hroom => ?_, fun hsum hkeep => ?_⟩
    · obtain ⟨u, hgood, hP⟩ := State.linResponse_good (f := f) hstaged hroom
      rw [if_pos hsum, hgood] at hop
      exact completes_linResponse h hop hP
    · obtain ⟨u, hbad, hP⟩ := State.linResponse_bad (data := data) hstaged hkeep
      rw [if_neg hsum, hbad] at hop
      exact completes_linResponse h hop hP
  · intro f hlin hlate
    obtain ⟨hlane, hcount, hflag, hregs⟩ := s.linLost_spec n
    exact completes_framed (fun s => s.linNoresp n)
      (fun s t : State => { s with regs := t.regs, staged := t.staged, lanes := t.lanes }) h rfl (fun _ => ⟨rfl, rfl⟩)
      (State.linNoresp_late hstaged hlin hlate) ⟨(congrArg Lane.lin hlane :), hcount, hflag, rfl, hregs.2⟩
end

section
/-!
SPI words and SENT messages (R273 to R276).
-/

namespace Sys2Proof.Machine

variable {s t : State} {n : LaneNo}

/-! ## What posting an event adds to the outputs -/

theorem State.signal_out (s : State) (p q : Nat) : s.out <+: (s.signal p q).out := by
  unfold signal
  dsimp only
  split
  · exact List.prefix_refl _
  · split
    · split
      · exact List.prefix_append _ _
      · exact List.prefix_refl _
    · exact List.prefix_append _ _

theorem State.levelRise_out (s : State) (p q : Nat) : s.out <+: (s.levelRise p q).out := by
  unfold levelRise
  extract_lets t
  split
  · exact t.signal_out p q
  · exact List.prefix_refl _

theorem State.postTo_out (s : State) (p q : Nat) (e : DWord) : s.out <+: (s.postTo p q e).out := by
  unfold postTo
  extract_lets old full new t t₁ t₂ t₃
  have h₁ : t₂.out = s.out := by
    change State.out (if full = true then _ else _) = _
    split <;> rfl
  have h₂ : t₃.out = s.out := h₁
  split
  · rw [← h₂]
    exact t₃.levelRise_out p q
  · rw [h₂]

theorem State.postEvent_out (s : State) (code src : Nat) (data : Word) : s.out <+: (s.postEvent code src data).out := by
  have hfold : ∀ (l : List (Nat × Nat)) (t : State),
      t.out <+: (l.foldl (fun t pq => t.postTo pq.1 pq.2 (eventEntry code src data)) t).out := fun l => by
    induction l with
    | nil => exact fun t => List.prefix_refl _
    | cons pq l ih => exact fun t => (t.postTo_out pq.1 pq.2 _).trans (ih _)
  exact hfold _ s

theorem State.laneItem_out (s : State) (n : Nat) (w : Word) : s.out <+: (s.laneItem n w).out := by
  unfold laneItem
  extract_lets x old full q t t₁ t₂ t₃
  have h₁ : t₁.out = s.out := by
    change State.out (if full = true then _ else _) = _
    split <;> rfl
  have h₃ : t₃.out = s.out := by
    change State.out (if s.flag (Reg.SLN_MODE_FLOW_OUT n) = true then _ else _) = _
    split
    · exact h₁
    · exact h₁
  split
  · rw [← h₃]
    exact State.postEvent_out (t₃.setFld (Reg.SLN_STATUS_RX_LEVEL_HIT n) 1) _ _ _
  · rw [← h₁]
    exact List.prefix_refl _

/-! ## A word comes in -/

/-- A word of an SPI lane that does not gather frames enters the FIFO. -/
theorem State.spiTake_spec (rx : Nat) (hstaged : s.staged = []) (hpins : s.pinsSeen (Reg.laneUnit n) = true)
    (hframed : s.flag (Reg.SLN_MODE_FRAMED n) = false) (hroom : (s.lane n).rx.length < 511) :
    ∃ u : State, s.spiTake n rx = u ∧ LaneSide s u n itemRegs ∧ s.out <+: u.out ∧
      ∃ a b, u.lane n = { s.lane n with
        rx := (s.lane n).rx ++ [rxWord false false false (s.spiValue n rx)], rxAt16 := a, rxNew := b } := by
  obtain ⟨R, D, K, hop, -⟩ := s.regionWork_spec (Reg.laneUnit n)
  have hwork : LaneSide s (s.regionWork (Reg.laneUnit n)) n itemRegs := (LaneSide.refl s n _).regionWork _
  have hlane : (s.regionWork (Reg.laneUnit n)).lane n = s.lane n := by rw [hop]; rfl
  have hout : (s.regionWork (Reg.laneUnit n)).out = s.out := by rw [hop]
  have hflag := (hwork.flag 0x4 4 1 (by decide) (by decide)).trans hframed
  rw [spiTake, if_pos hpins]
  generalize s.regionWork (Reg.laneUnit n) = t at *
  obtain ⟨u, hitem, hside, ⟨a, b, hlane'⟩, -⟩ := t.laneItem_spec n (rxWord false false false (s.spiValue n rx))
  have hpre : t.out <+: u.out := hitem ▸ t.laneItem_out n _
  have hfifo : rxFifo (s.lane n).rx (rxWord false false false (s.spiValue n rx)) =
      (s.lane n).rx ++ [rxWord false false false (s.spiValue n rx)] := if_pos (by omega)
  rw [hlane, hfifo] at hlane'
  refine ⟨u, ?_, hwork.trans hside, hout ▸ hpre, a, b, hlane'⟩
  rw [laneTake, if_neg (fun h => absurd (hflag.symm.trans h) Bool.false_ne_true), hitem,
    (hwork.trans hside).frameEnd hstaged]

/-! ## A controller -/

/-- The item of a controller has left. -/
def State.spiSent (s : State) (n : Nat) (w : Word) (ws : List Word) : State :=
  (s.setLane n { (s.lane n).txTaken s.tb.local16 ws with line := some w, sending := true }).spiOut n w
    (s.lane n).line.isNone

theorem State.spiWord_spec {w : Word} {ws : List Word} (rx : Nat) (hstaged : s.staged = [])
    (hruns : s.laneRuns n = true) (hpins : s.pinsSeen (Reg.laneUnit n) = true)
    (hframed : s.flag (Reg.SLN_MODE_FRAMED n) = false) (hroom : (s.lane n).rx.length < 511)
    (hpers : s.pers n = persSpiCtl) (htx : (s.lane n).tx = w :: ws) (hlast : bitOf w.toNat 28 = false) :
    ∃ u : State, s.spiWord n rx = u ∧ LaneSide s u n itemRegs ∧
      s.out ++ [.spiTx n (s.spiBits n w.toNat) (s.sckDiv n) (s.fld (Reg.SLN_FMT_SPI_MODE n))
        (if (s.lane n).line = none then max 1 (s.fld (Reg.SLN_SPI_CS_LEAD n)) else 0) 0] <+: u.out ∧
      (u.lane n).tx = ws ∧
      (u.lane n).rx = (s.lane n).rx ++ [rxWord false false false (s.spiValue n rx)] := by
  have hside : LaneSide s (s.spiSent n w ws) n itemRegs := ((LaneSide.refl s n _).setLane _).emit _
  have hlane : (s.spiSent n w ws).lane n =
      { (s.lane n).txTaken s.tb.local16 ws with line := some w, sending := true } := s.lane_setLane_same n _
  have hout : (s.spiSent n w ws).out =
      s.out ++ [.spiTx n (s.spiBits n w.toNat) (s.sckDiv n) (s.fld (Reg.SLN_FMT_SPI_MODE n))
        (if (s.lane n).line = none then max 1 (s.fld (Reg.SLN_SPI_CS_LEAD n)) else 0) 0] := by
    unfold spiSent spiOut
    rw [hlast]
    cases (s.lane n).line <;> rfl
  have hop : s.spiWord n rx = (s.spiSent n w ws).spiTake n rx := by
    unfold spiWord
    dsimp only
    rw [htx, hruns, hpers]
    refine (if_pos rfl).trans ?_
    dsimp only
    exact if_neg fun h => absurd (hlast.symm.trans h) Bool.false_ne_true
  obtain ⟨u, htake, hside', hpre, a, b, hlane'⟩ := State.spiTake_spec (s := s.spiSent n w ws) (n := n) rx hstaged hpins
    hframed (by rw [hlane]; exact hroom)
  exact ⟨u, hop.trans htake, hside.trans hside', hout ▸ hpre, by rw [hlane', hlane, Lane.txTaken],
    by rw [hlane', hlane, Lane.txTaken]; rfl⟩

/-! ## A target -/

/-- The registers that the start of a target's word may change: UNDERRUN and STATUS. -/
abbrev underrunRegs : List Nat := [0x620, 0x48]

/-- What a word of a target sends: the next item, or zeros. -/
theorem State.spiTargetStart_spec (s : State) (n : LaneNo) :
    LaneSide s (s.spiTargetStart n) n underrunRegs ∧
      (s.spiTargetStart n).out = s.out ++ [.spiTx n (s.spiBits n ((s.lane n).tx.head?.elim 0 BitVec.toNat)) 0 0 0 0] ∧
      (∃ a k l, (s.spiTargetStart n).lane n =
        { s.lane n with tx := (s.lane n).tx.tail, txOut16 := a, txOut := k, line := l }) ∧
      ((s.lane n).tx = [] →
        (s.spiTargetStart n).rd (Reg.SLN_UNDERRUN n) = satInc (s.rd (Reg.SLN_UNDERRUN n))) := by
  unfold spiTargetStart
  dsimp only
  cases htx : (s.lane n).tx with
  | nil =>
    refine ⟨(((LaneSide.refl s n _).wr 0x620 _ (by decide)).setFld 0x48 1 1 1 (by decide)).emit _, rfl,
      ⟨(s.lane n).txOut16, (s.lane n).txOut, (s.lane n).line,
        show s.lane n = { s.lane n with tx := [] } by rw [← htx]⟩, fun _ => ?_⟩
    exact (State.rd_setFld_ne _ _ (by simp only [Reg.SLN_UNDERRUN, Reg.SLN_STATUS]; omega)).trans (s.rd_bump_same _)
  | cons w ws =>
    exact ⟨((LaneSide.refl s n _).setLane _).emit _, rfl, ⟨_, _, _, s.lane_setLane_same n _⟩,
      fun h => absurd h (List.cons_ne_nil w ws)⟩

/-- A target's frame ends with its item marked LAST. -/
def State.spiTargetEnd (s : State) (n : Nat) (last : Bool) : State :=
  if last then (s.setLane n { s.lane n with line := none }).tick (Reg.SLN_TX_FRAMES n) else s

theorem State.spiTargetEnd_spec (s : State) (n : LaneNo) (last : Bool) :
    LaneSide s (s.spiTargetEnd n last) n [0x604] ∧ (s.spiTargetEnd n last).out = s.out ∧
      ∃ l, (s.spiTargetEnd n last).lane n = { s.lane n with line := l } := by
  unfold spiTargetEnd
  split
  · exact ⟨((LaneSide.refl s n _).setLane _).wr 0x604 _ (by decide), rfl, none, s.lane_setLane_same n _⟩
  · exact ⟨LaneSide.refl s n _, rfl, (s.lane n).line, rfl⟩

/-- The registers that a word of a target may change. -/
abbrev targetRegs : List Nat := 0x620 :: 0x604 :: itemRegs

theorem State.spiTarget_spec (rx : Nat) (hstaged : s.staged = []) (hruns : s.laneRuns n = true)
    (hpins : s.pinsSeen (Reg.laneUnit n) = true) (hframed : s.flag (Reg.SLN_MODE_FRAMED n) = false)
    (hroom : (s.lane n).rx.length < 511) (hpers : s.pers n = persSpiTgt) :
    ∃ u : State, s.spiTarget n rx = u ∧ LaneSide s u n targetRegs ∧
      s.out ++ [.spiTx n (s.spiBits n ((s.lane n).tx.head?.elim 0 BitVec.toNat)) 0 0 0 0] <+: u.out ∧
      (u.lane n).tx = (s.lane n).tx.tail ∧
      (u.lane n).rx = (s.lane n).rx ++ [rxWord false false false (s.spiValue n rx)] ∧
      ((s.lane n).tx = [] → u.rd (Reg.SLN_UNDERRUN n) = satInc (s.rd (Reg.SLN_UNDERRUN n))) := by
  obtain ⟨hstart, hout, ⟨a, k, l, hlane⟩, hunder⟩ := s.spiTargetStart_spec n
  have hop : s.spiTarget n rx = ((s.spiTargetStart n).spiTargetEnd n
      ((s.lane n).tx.head?.any fun w => bitOf w.toNat 28)).spiTake n rx := by
    refine if_pos ?_
    rw [laneSees, hruns, hpins, hpers]
    rfl
  obtain ⟨hend, hout', l', hlane'⟩ := (s.spiTargetStart n).spiTargetEnd_spec n
    ((s.lane n).tx.head?.any fun w => bitOf w.toNat 28)
  have hvalue : ∀ t : State, LaneSide s t n targetRegs → t.spiValue n rx = s.spiValue n rx := fun t ht => by
    rw [spiValue, ht.laneWidth (by decide) (by decide), ht.flag 0xc 10 1 (by decide) (by decide), spiValue]
  generalize (s.spiTargetStart n).spiTargetEnd n _ = t at *
  have ht : LaneSide s t n targetRegs := (hstart.mono (by decide)).trans (hend.mono (by decide))
  rw [hlane] at hlane'
  have hpins' : t.pinsSeen (Reg.laneUnit n) = true := (ht.pinsSeen _).trans hpins
  obtain ⟨u, htake, hside, hpre, a', b', hlane''⟩ := State.spiTake_spec (s := t) (n := n) rx (ht.staged.trans hstaged)
    hpins' ((ht.flag 0x4 4 1 (by decide) (by decide)).trans hframed) (by rw [hlane']; exact hroom)
  rw [hlane', hvalue t ht] at hlane''
  refine ⟨u, hop.trans htake, ht.trans (hside.mono (by decide)), ?_, by rw [hlane''], by rw [hlane''], fun hempty => ?_⟩
  · rw [← hout, ← hout']
    exact hpre
  · rw [← hunder hempty, ← hend.reg 0x620 (by decide) (by decide)]
    exact hside.reg 0x620 (by decide) (by decide)

/-! ## CS_N rises -/

/-- With nothing gathered, the end of a frame only ends the hunt for it. -/
theorem State.laneFrameEnd_empty (hstaged : s.staged = []) (hbuf : (s.lane n).buf = []) :
    ∃ u : State, s.laneFrameEnd n = u ∧ LaneSide s u n [] ∧
      u.lane n = { s.lane n with hunting := false } := by
  unfold laneFrameEnd
  extract_lets x t
  have ht : LaneSide s t n [] ∧ t.lane n = { s.lane n with hunting := false } := by
    by_cases hhunt : x.hunting = true
    · rw [show t =
      s.setLane n { x with hunting := false, buf := [] } from if_pos hhunt, State.lane_setLane_same, ← hbuf]
      exact ⟨(LaneSide.refl s n _).setLane _, rfl⟩
    · have hfalse : x.hunting = false := Bool.eq_false_iff.mpr hhunt
      rw [show t = s from (if_neg hhunt).trans (if_pos hbuf), ← hfalse]
      exact ⟨LaneSide.refl s n _, rfl⟩
  exact ⟨t, ht.1.frameEnd hstaged _, ht⟩

theorem State.csRise_partial (hstaged : s.staged = []) (hruns : s.laneRuns n = true)
    (hpins : s.pinsSeen (Reg.laneUnit n) = true) (hpers : s.pers n = persSpiTgt) (hbuf : (s.lane n).buf = []) :
    ∃ u : State, s.csRise n true = u ∧ u.rd (Reg.SLN_CHAR_ERR n) = satInc (s.rd (Reg.SLN_CHAR_ERR n)) ∧
      (u.lane n).rx = (s.lane n).rx ∧ (u.lane n).tx = (s.lane n).tx.tail ∧
      ((s.lane n).tx = [] → u.rd (Reg.SLN_UNDERRUN n) = satInc (s.rd (Reg.SLN_UNDERRUN n))) ∧
      (u.lane n).hunting = false ∧ u.sig = s.sig := by
  obtain ⟨hstart, -, ⟨a, k, l, hlane⟩, hunder⟩ := s.spiTargetStart_spec n
  have hside : LaneSide s ((s.spiTargetStart n).bump (Reg.SLN_CHAR_ERR n)) n (0x618 :: underrunRegs) :=
    (hstart.mono (by decide)).wr 0x618 _ (by decide)
  have hcount : ((s.spiTargetStart n).bump (Reg.SLN_CHAR_ERR n)).rd (Reg.SLN_CHAR_ERR n) =
      satInc (s.rd (Reg.SLN_CHAR_ERR n)) :=
    (State.rd_bump_same _ _).trans (congrArg satInc (hstart.reg 0x618 (by decide) (by decide)))
  have hunder' : ((s.spiTargetStart n).bump (Reg.SLN_CHAR_ERR n)).rd (Reg.SLN_UNDERRUN n) =
      (s.spiTargetStart n).rd (Reg.SLN_UNDERRUN n) :=
    State.rd_bump_ne _ (by simp only [Reg.SLN_UNDERRUN, Reg.SLN_CHAR_ERR]; omega)
  have hlane' : ((s.spiTargetStart n).bump (Reg.SLN_CHAR_ERR n)).lane n = (s.spiTargetStart n).lane n := rfl
  have hop : s.csRise n true = ((s.spiTargetStart n).bump (Reg.SLN_CHAR_ERR n)).laneFrameEnd n := by
    refine if_pos ?_
    rw [laneSees, hruns, hpins, hpers]
    rfl
  generalize (s.spiTargetStart n).bump (Reg.SLN_CHAR_ERR n) = t at *
  rw [hlane] at hlane'
  obtain ⟨u, hend, hside', hlane''⟩ := State.laneFrameEnd_empty (s := t) (n := n) (hside.staged.trans hstaged)
    (by rw [hlane']; exact hbuf)
  rw [hlane'] at hlane''
  refine ⟨u, hop.trans hend, (hside'.reg 0x618 (by decide) (by decide)).trans hcount, by rw [hlane''], by rw [hlane''],
    fun hempty => ?_, by rw [hlane''], hside'.sig.trans hside.sig⟩
  exact (hside'.reg 0x620 (by decide) (by decide)).trans (hunder'.trans (hunder hempty))

/-! ## SENT -/

/-- A message with status `v`, data `ds`, CRC `c` and a pause. -/
def sentPulses (v c : Nat) (ds pause : List Nat) : List Nat := (v + 12) :: ds.map (· + 12) ++ [c + 12] ++ pause

/-- The nibble of a pulse at place `k`. -/
def pulseNibble (free : Nat) (x : Nat × Nat) : Nat :=
  if decide (12 ≤ x.1) && decide (x.1 ≤ 27) then x.1 - 12 else Config.badNibble (free + x.2) % 16

/-- Pulses of 12 to 27 ticks carry the nibbles that were put into them. -/
theorem pulseNibbles (free : Nat) (ns : List Nat) (h : ∀ d ∈ ns, d < 16) (k : Nat) :
    ((ns.map (· + 12)).zipIdx k).map (pulseNibble free) = ns := by
  induction ns generalizing k with
  | nil => rfl
  | cons d ns ih =>
    have hd : d < 16 := h d List.mem_cons_self
    rw [List.map_cons, List.zipIdx_cons, List.map_cons, ih (fun x hx => h x (List.mem_cons_of_mem _ hx))]
    have hlow : decide (12 ≤ d + 12) = true := decide_eq_true (by omega)
    have hhigh : decide (d + 12 ≤ 27) = true := decide_eq_true (by omega)
    rw [pulseNibble, hlow, hhigh]
    exact congrArg (· :: ns) ((if_pos rfl).trans (Nat.add_sub_cancel d 12))

theorem sentPulses_take (v c : Nat) (ds pause : List Nat) :
    (sentPulses v c ds pause).take (ds.length + 2) = (v :: (ds ++ [c])).map (· + 12) := by
  have h : sentPulses v c ds pause = (v :: (ds ++ [c])).map (· + 12) ++ pause := by
    simp only [sentPulses, List.map_cons, List.map_append, List.map_nil, List.cons_append]
  rw [h]
  exact List.take_left' (by simp only [List.length_map, List.length_cons, List.length_append, List.length_nil])

/-- The message has begun: the time of its frame is noted. -/
def State.sentStarted (s : State) (n : Nat) : State :=
  (s.regionWork (Reg.laneUnit n)).setLane n
    { (s.regionWork (Reg.laneUnit n)).lane n with frame16 := (s.regionWork (Reg.laneUnit n)).tb.local16 }

/-- The number that the data nibbles spell. -/
def sentNumber (ds : List Nat) : Nat := ds.foldl (fun a x => 16 * a + x) 0

/-- The items of a message. -/
def sentWords (v : Nat) (ds : List Nat) : List Word :=
  [rxWord false false false v, rxWord false false false (sentNumber ds)]

/-- A message with a wrong CRC ends the run of its serial bits. -/
def State.sentSpoilt (s : State) (n : Nat) : State :=
  ({ s with freeCnt := s.freeCnt + 8 }).setLane n { ({ s with freeCnt := s.freeCnt + 8 }).lane n with slow := [] }

theorem State.sentMessage_eq {tick v c : Nat} {ds pause : List Nat} (hruns : s.laneRuns n = true)
    (hpins : s.pinsSeen (Reg.laneUnit n) = true) (hpers : s.pers n = persSent)
    (hslow : s.flag (Reg.SLN_SENT_SLOW n) = false)
    (hpause : pause.length = (if s.flag (Reg.SLN_SENT_PAUSE n) then 1 else 0))
    (hlow : 3 * (max 30 (min 900 (s.fld (Reg.SLN_SENT_TICK n))) * 100) ≤ 4 * tick)
    (hhigh : 4 * tick ≤ 5 * (max 30 (min 900 (s.fld (Reg.SLN_SENT_TICK n))) * 100)) (hv : v < 16) (hc : c < 16)
    (hds : ∀ d ∈ ds, d < 16)
    (hlen : ds.length = (if s.fld (Reg.SLN_SENT_NIBBLES n) = 0 ∨ s.fld (Reg.SLN_SENT_NIBBLES n) = 7 then 6
      else s.fld (Reg.SLN_SENT_NIBBLES n))) :
    s.sentMessage n { tickNs := tick, pulses := sentPulses v c ds pause } =
      if sentCrc (s.flag (Reg.SLN_SENT_CRC_LEGACY n)) ds ≠ c then
        ((((s.sentStarted n).sentSpoilt n).laneBad n).laneKeep n (sentWords v ds)).frameEnd (Reg.laneUnit n)
      else ((s.sentStarted n).laneRelease n 0 (sentWords v ds) (leBytes 1 v ++ leBytes 3 (sentNumber ds))).frameEnd
        (Reg.laneUnit n) := by
  have hside : LaneSide s (s.sentStarted n) n [] := ((LaneSide.refl s n _).regionWork _).setLane _
  have hlegacy := hside.flag 0x20 14 1 (by decide) (by decide)
  have hpauseFlag := hside.flag 0x20 13 1 (by decide) (by decide)
  have hslowFlag := hside.flag 0x20 15 1 (by decide) (by decide)
  unfold sentMessage
  extract_lets tk k nn u src t ps inRange vals status data d pz rangeBad ws t₁ src' t₂ t₃
  have hcond : (s.laneSees n && s.pers n == persSent && decide (3 * tk ≤ 4 * tick) && decide (4 * tick ≤ 5 * tk)) =
    true := by
    rw [laneSees, hruns, hpins, hpers, decide_eq_true (show 3 * tk ≤ 4 * tick from hlow),
      decide_eq_true (show 4 * tick ≤ 5 * tk from hhigh)]
    rfl
  have hnn : nn = ds.length := hlen.symm
  have hps : ps = (v :: (ds ++ [c])).map (· + 12) := by
    change (sentPulses v c ds pause).take (nn + 2) = _
    rw [hnn, sentPulses_take]
  have hns : ∀ x ∈ v :: (ds ++ [c]), x < 16 := by
    simp only [List.mem_cons, List.mem_append, List.not_mem_nil, or_false]
    exact fun x hx => hx.elim (· ▸ hv) fun hx => hx.elim (hds x) (· ▸ hc)
  have hvals : vals = v :: (ds ++ [c]) := by
    change ps.zipIdx.map (pulseNibble t.freeCnt) = _
    rw [hps]
    exact pulseNibbles _ _ hns 0
  have hstatus : status = v := by
    change vals.getD 0 0 = v
    rw [hvals]
    rfl
  have hdata : data = ds := by
    change (vals.drop 1).take nn = ds
    rw [hvals, hnn]
    exact List.take_left
  have hall : ∀ l : List Nat, (∀ x ∈ l, x < 16) → (l.map (· + 12)).all inRange = true := by
    intro l hl
    rw [List.all_map, List.all_eq_true]
    intro x hx
    have := hl x hx
    change (decide (12 ≤ x + 12) && decide (x + 12 ≤ 27)) = true
    rw [decide_eq_true (by omega), decide_eq_true (by omega)]
    rfl
  have hcrc : vals.getD (nn + 1) 16 = c := by
    rw [hvals, hnn]
    simp only [List.getD_eq_getElem?_getD, List.getElem?_cons_succ, List.getElem?_concat_length, Option.getD_some]
  have hbad : rangeBad = false := by
    have hpz : pz = pause.length := by
      change (if t.flag (Reg.SLN_SENT_PAUSE n) = true then 1 else 0) = _
      rw [hpause, show t.flag (Reg.SLN_SENT_PAUSE n) = s.flag (Reg.SLN_SENT_PAUSE n) from hpauseFlag]
    have hpulses : (sentPulses v c ds pause).length = nn + 2 + pz := by
      rw [hpz, hnn]
      simp only [sentPulses, List.length_append, List.length_cons, List.length_map, List.length_nil]
    change (!(decide ((sentPulses v c ds pause).length = nn + 2 + pz) && ps.all inRange)) = false
    rw [decide_eq_true hpulses, hps, hall _ hns]
    rfl
  have hws : ws = sentWords v ds := by
    have hfirst : inRange (ps.getD 0 0) = true := by
      have := hall [v] fun x hx => List.mem_singleton.mp hx ▸ hv
      rw [List.map_singleton, List.all_cons, List.all_nil, Bool.and_true] at this
      rw [hps]
      exact this
    have hrest : (ps.drop 1).all inRange = true := by
      rw [hps]
      exact hall (ds ++ [c]) fun x hx => hns x (List.mem_cons_of_mem _ hx)
    change [rxWord (!(inRange (ps.getD 0 0))) false false status,
      rxWord (!((ps.drop 1).all inRange)) false false (sentNumber data)] = _
    rw [hfirst, hrest, hstatus, hdata]
    rfl
  have hlegacy' : t.flag (Reg.SLN_SENT_CRC_LEGACY n) = s.flag (Reg.SLN_SENT_CRC_LEGACY n) := hlegacy
  have hslow' : t.flag (Reg.SLN_SENT_SLOW n) = false := hslowFlag.trans hslow
  have hd : d = sentNumber ds := congrArg sentNumber hdata
  rw [if_pos hcond, hbad, hlegacy', hcrc, hdata, hslow', Bool.false_or, if_neg Bool.false_ne_true]
  simp only [bne_iff_ne]
  have ht₂ : t₂ = (s.sentStarted n).sentSpoilt n := rfl
  have ht₃ : t₃ = (s.sentStarted n).laneRelease n 0 (sentWords v ds) (leBytes 1 v ++ leBytes 3 (sentNumber ds)) := by
    rw [← hws, ← hstatus, ← hd]
    rfl
  rw [ht₂, ht₃, hws]

theorem State.sentStarted_spec (s : State) (n : LaneNo) :
    LaneSide s (s.sentStarted n) n [] ∧ ((s.sentStarted n).lane n).rx = (s.lane n).rx := by
  obtain ⟨R, D, K, hop, -⟩ := s.regionWork_spec (Reg.laneUnit n)
  refine ⟨((LaneSide.refl s n _).regionWork _).setLane _, ?_⟩
  rw [sentStarted, State.lane_setLane_same, hop]
  rfl

theorem State.sentRelease_spec (v : Nat) (ds : List Nat) (payload : List Byte) (hstaged : s.staged = [])
    (hroom : (s.lane n).rx.length < 511) (hchain : s.flag (Reg.SLN_CHAIN_CHAIN_EN n 0) = false) :
    ∃ u : State, ((s.sentStarted n).laneRelease n 0 (sentWords v ds) payload).frameEnd (Reg.laneUnit n) = u ∧
      u.dev.held = s.dev.held ∧ (u.lane n).rx = (s.lane n).rx ++ frameWords (sentWords v ds) false ∧
      u.rd (Reg.SLN_RX_FRAMES n) = s.rd (Reg.SLN_RX_FRAMES n) + 1 := by
  obtain ⟨hside, hrx⟩ := s.sentStarted_spec n
  have hwords : (sentWords v ds).length = 2 := rfl
  obtain ⟨u, hop, hside', ⟨a, b, hlane⟩, hcount⟩ := State.laneRelease_fits (s := s.sentStarted n) (n := n)
    (ws := sentWords v ds) payload (show 0 < 4 by decide) (by rw [hrx, hwords]; omega)
    ((hside.flag 0x30 15 1 (by decide) (by decide)).trans hchain)
  rw [hop]
  exact ⟨u, hside'.frameEnd (hside.staged.trans hstaged) _, hside'.held.trans hside.held, by rw [hlane, hrx],
    hcount.trans (congrArg (· + 1) (hside.reg 0x600 (by decide) (by decide)))⟩

theorem State.sentSpoilt_spec (v : Nat) (ds : List Nat) (hstaged : s.staged = [])
    (hkeep : s.flag (Reg.SLN_MODE_KEEP_BAD n) = false) :
    ∃ u : State, ((((s.sentStarted n).sentSpoilt n).laneBad n).laneKeep n (sentWords v ds)).frameEnd (Reg.laneUnit n) =
        u ∧ u.dev.held = s.dev.held ∧ u.rd (Reg.SLN_BAD_FRAME n) = satInc (s.rd (Reg.SLN_BAD_FRAME n)) ∧
      (u.lane n).rx = (s.lane n).rx := by
  obtain ⟨hstart, hrx⟩ := s.sentStarted_spec n
  have hspoilt : LaneSide (s.sentStarted n) ((s.sentStarted n).sentSpoilt n) n [] :=
    (LaneSide.mk rfl rfl (fun _ _ _ => rfl) (fun _ _ _ => rfl) :
      LaneSide (s.sentStarted n) { s.sentStarted n with freeCnt := (s.sentStarted n).freeCnt + 8 } n []).setLane _
  have hrx' : (((s.sentStarted n).sentSpoilt n).lane n).rx = (s.lane n).rx :=
    (congrArg Lane.rx (State.lane_setLane_same _ n _)).trans hrx
  have hs := hstart.trans hspoilt
  generalize (s.sentStarted n).sentSpoilt n = t at *
  have hbad : LaneSide s (t.laneBad n) n [0x614, 0x48] :=
    ((hs.mono (List.nil_subset _)).wr 0x614 _ (by decide)).setFld 0x48 3 1 1 (by decide)
  have hcount : (t.laneBad n).rd (Reg.SLN_BAD_FRAME n) = satInc (s.rd (Reg.SLN_BAD_FRAME n)) :=
    (t.laneBad_spec n).1.trans (congrArg satInc (hs.reg 0x614 (by decide) (by decide)))
  have hflag := (hbad.flag 0x4 5 1 (by decide) (by decide)).trans hkeep
  have hop : (t.laneBad n).laneKeep n (sentWords v ds) = t.laneBad n :=
    if_neg fun h => absurd (hflag.symm.trans h) Bool.false_ne_true
  rw [hop]
  exact ⟨t.laneBad n, hbad.frameEnd hstaged _, hbad.held, hcount, hrx'⟩

/-! ## What the commands may change -/

theorem completes_sentMessage {m : SentMsg} {P : State → Prop} (h : s.awake) (hop : s.sentMessage n m = t)
    (hheld : t.dev.held = s.dev.held)
    (hP : P { s with
      regs := t.regs, staged := t.staged, eqs := t.eqs, out := t.out, freeCnt := t.freeCnt, sig := t.sig,
      limits := t.limits, engines := t.engines, waking := t.waking, lanes := t.lanes, nextId := t.nextId,
      dev := t.dev, holdBuf := t.holdBuf }) : Completes (.sentMessage n m) s P :=
  completes_device (fun s => s.sentMessage n m) (fun s t : State => { s with
    regs := t.regs, staged := t.staged, eqs := t.eqs, out := t.out, freeCnt := t.freeCnt, sig := t.sig,
    limits := t.limits, engines := t.engines, waking := t.waking, lanes := t.lanes, nextId := t.nextId,
    dev := t.dev, holdBuf := t.holdBuf }) h rfl hop rfl (hheld.trans h) hP

theorem completes_spiTarget {rx : BitVec 24} {P : State → Prop} (h : s.awake) (hop : s.spiTarget n rx.toNat = t)
    (hheld : t.dev.held = s.dev.held)
    (hP : P { s with
      regs := t.regs, staged := t.staged, eqs := t.eqs, out := t.out, waking := t.waking, lanes := t.lanes,
      dev := t.dev }) : Completes (.spiTargetWord n rx) s P :=
  completes_device (fun s => s.spiTarget n rx.toNat) (fun s t : State => { s with
    regs := t.regs, staged := t.staged, eqs := t.eqs, out := t.out, waking := t.waking, lanes := t.lanes,
    dev := t.dev }) h rfl hop rfl (hheld.trans h) hP

end Sys2Proof.Machine

open Sys2Proof.Machine in
/-- Settles O41: a word of either side enters the FIFO behind what the word sent; the pulses of a message carry the
nibbles that were put into them, so its CRC decides. -/
theorem spiAndSent : Obligations.SpiAndSent := by
  unfold Obligations.SpiAndSent
  intro n s h hstaged hruns hpins hroom
  refine ⟨fun rx hframed => ?_, fun hpers hbuf => ?_, fun tick v c ds pause hpers hslow hchain => ?_⟩
  · refine ⟨fun w ws hpers htx hlast => ?_, fun w ws hpers htx => ?_, fun hpers htx => ?_⟩
    · obtain ⟨u, hop, hside, hout, hrest, hrx⟩ :=
        State.spiWord_spec rx.toNat hstaged hruns hpins hframed hroom hpers htx hlast
      exact completes_device (fun s => s.spiWord n rx.toNat) (fun s t : State => { s with
        regs := t.regs, staged := t.staged, eqs := t.eqs, out := t.out, sig := t.sig, limits := t.limits,
        engines := t.engines, waking := t.waking, lanes := t.lanes, nextId := t.nextId, dev := t.dev,
        holdBuf := t.holdBuf }) h rfl hop rfl (hside.held.trans h) ⟨hout, hrest, hrx, hside.sig⟩
    · obtain ⟨u, hop, hside, hout, hrest, hrx, -⟩ :=
        State.spiTarget_spec rx.toNat hstaged hruns hpins hframed hroom hpers
      rw [htx] at hout hrest
      exact completes_spiTarget h hop hside.held ⟨hout, hrest, hrx⟩
    · obtain ⟨u, hop, hside, hout, -, hrx, hunder⟩ :=
        State.spiTarget_spec rx.toNat hstaged hruns hpins hframed hroom hpers
      rw [htx] at hout
      exact completes_spiTarget h hop hside.held ⟨hout, hunder htx, hrx⟩
  · obtain ⟨u, hop, hP⟩ := State.csRise_partial hstaged hruns hpins hpers hbuf
    exact completes_framed (fun s => s.csRise n true) (fun s t : State => { s with
      regs := t.regs, staged := t.staged, eqs := t.eqs, out := t.out, sig := t.sig, limits := t.limits,
      engines := t.engines, lanes := t.lanes, nextId := t.nextId, holdBuf := t.holdBuf }) h rfl (fun _ => ⟨rfl, rfl⟩)
      hop hP
  · dsimp only
    intro hpause hlow hhigh hv hc hds hlen
    have hop := State.sentMessage_eq hruns hpins hpers hslow hpause hlow hhigh hv hc hds hlen
    refine ⟨fun hcrc => ?_, fun hcrc hkeep => ?_⟩
    · obtain ⟨u, hrel, hheld, hP⟩ :=
        State.sentRelease_spec v ds (leBytes 1 v ++ leBytes 3 (sentNumber ds)) hstaged hroom hchain
      rw [if_neg (fun hne => hne hcrc.symm), hrel] at hop
      exact completes_sentMessage h hop hheld hP
    · obtain ⟨u, hbad, hheld, hP⟩ := State.sentSpoilt_spec v ds hstaged hkeep
      rw [if_pos (fun heq => hcrc heq.symm), hbad] at hop
      exact completes_sentMessage h hop hheld hP
end

section
/-!
Discrete banks (R291 to R295): what the operations of a bank leave alone, its lines as bits of its registers, the edges,
and the refresh of its staging bits.
-/

namespace Sys2Proof.Machine

variable {s t : State} {b : BankNo}

/-! ## What the operations of a bank leave alone -/

/-- Only registers, banks and the step of a region differ; of the bank's registers, those at the offsets `ks`. -/
structure BankSide (s t : State) (b : BankNo) (ks : List Nat) : Prop where
  frame : { t with regs := s.regs, banks := s.banks, dev := s.dev, waking := s.waking } = s
  held : t.dev.held = s.dev.held
  reg : ∀ k, k < 0x2000 → k ∉ ks → t.rd (Reg.bankBase b + k) = s.rd (Reg.bankBase b + k)
  low : ∀ a < 0x200000, a ≠ Reg.GEN_REGION_STEP → t.rd a = s.rd a

theorem bank_ne_regionStep (b k : Nat) : Reg.bankBase b + k ≠ Reg.GEN_REGION_STEP := by
  have := le_unitReg (Reg.bankUnit b) k
  have : Reg.GEN_REGION_STEP < 0x200000 := by decide
  simp only [Reg.bankBase]
  omega

namespace BankSide
variable {ks : List Nat}

theorem refl (s : State) (b : BankNo) (ks : List Nat) : BankSide s s b ks :=
  ⟨rfl, rfl, fun _ _ _ => rfl, fun _ _ _ => rfl⟩

theorem trans {u : State} (h : BankSide s t b ks) (h' : BankSide t u b ks) : BankSide s u b ks :=
  ⟨(congrArg (fun x : State => { x with regs := s.regs, banks := s.banks, dev := s.dev, waking := s.waking })
      h'.frame).trans h.frame,
    h'.held.trans h.held, fun k hk hks => (h'.reg k hk hks).trans (h.reg k hk hks),
    fun a ha hne => (h'.low a ha hne).trans (h.low a ha hne)⟩

theorem wr (h : BankSide s t b ks) (k : Nat) (v : Word) (hk : k ∈ ks) : BankSide s (t.wr (Reg.bankBase b + k) v) b ks :=
  ⟨h.frame, h.held, fun j hj hjs =>
    (t.rd_wr_ne v fun he => ne_of_mem_of_not_mem hk hjs (Nat.add_left_cancel he).symm).trans (h.reg j hj hjs),
    fun a ha hne => (t.rd_wr_ne v (by
      have := le_unitReg (Reg.bankUnit b) k
      simp only [Reg.bankBase]
      omega)).trans (h.low a ha hne)⟩

theorem setFld (h : BankSide s t b ks) (k lsb w v : Nat) (hk : k ∈ ks) :
    BankSide s (t.setFld ⟨Reg.bankBase b + k, lsb, w⟩ v) b ks := h.wr k _ hk

theorem setLineBit (h : BankSide s t b ks) (k lsb w l : Nat) (v : Bool) (hk : k ∈ ks) :
    BankSide s (t.setLineBit ⟨Reg.bankBase b + k, lsb, w⟩ l v) b ks := h.wr k _ hk

theorem setBank (h : BankSide s t b ks) (x : Bank) : BankSide s (t.setBank b x) b ks := ⟨h.frame, h.held, h.reg, h.low⟩

theorem regionWork (h : BankSide s t b ks) (u : Nat) : BankSide s (t.regionWork u) b ks := by
  obtain ⟨R, D, K, hop, hheld, hregs⟩ := t.regionWork_spec u
  rw [hop]
  exact ⟨h.frame, hheld.trans h.held, fun k hk hks =>
      (hregs _ fun hm => bank_ne_regionStep b k (List.mem_singleton.mp hm)).trans (h.reg k hk hks),
    fun a ha hne => (hregs a fun hm => hne (List.mem_singleton.mp hm)).trans (h.low a ha hne)⟩

theorem mono {js : List Nat} (h : BankSide s t b ks) (hsub : ks ⊆ js) : BankSide s t b js :=
  ⟨h.frame, h.held, fun k hk hjs => h.reg k hk fun hm => hjs (hsub hm), h.low⟩

theorem fld (h : BankSide s t b ks) (k lsb w : Nat) (hk : k < 0x2000) (hks : k ∉ ks) :
    t.fld ⟨Reg.bankBase b + k, lsb, w⟩ = s.fld ⟨Reg.bankBase b + k, lsb, w⟩ := by
  rw [State.fld, h.reg k hk hks, State.fld]

theorem lineOut (h : BankSide s t b ks) (l : Nat) (hks : 0x4 ∉ ks) : t.lineOut b l = s.lineOut b l :=
  congrArg (bitOf · l) (h.fld 0x4 0 8 (by decide) hks)

theorem fromCell (h : BankSide s t b ks) (l : Nat) (hks : 0x24 ∉ ks) : t.fromCell b l = s.fromCell b l :=
  congrArg (bitOf · l) (h.fld 0x24 8 8 (by decide) hks)

theorem latched (h : BankSide s t b ks) (l : Nat) (hks : 0x24 ∉ ks) : t.latched b l = s.latched b l :=
  congrArg (bitOf · l) (h.fld 0x24 0 8 (by decide) hks)

theorem running (h : BankSide s t b ks) (hks : 0x0 ∉ ks) :
    t.running (Reg.bankUnit b) = s.running (Reg.bankUnit b) := by
  have hrun : t.flag (bstatRun (Reg.bankBase b)) = s.flag (bstatRun (Reg.bankBase b)) := by
    have := h.reg 0x0 (by decide) hks
    rw [Nat.add_zero] at this
    rw [State.flag, State.fld, this, State.flag, State.fld]
  have hcut : ∀ d, t.dieCut d = s.dieCut d := fun d => by
    simp only [State.dieCut, State.fld, h.low Reg.GEN_MORTAR_STATE (by decide) (by decide)]
  rw [State.running, hcut, State.running]
  exact congrArg (· && _) hrun

/-- A cell reads as before. -/
theorem live (h : BankSide s t b ks) (n : Nat) : t.live n = s.live n := by
  have hcells : t.cells = s.cells := (congrArg State.cells h.frame :)
  have htbl : t.tbl = s.tbl := (congrArg State.tbl h.frame :)
  have hcell : t.cell n = s.cell n := by rw [State.cell, hcells, State.cell]
  have huse : t.inUse n = s.inUse n := by
    rw [State.inUse, State.map, State.tw, htbl, State.inUse, State.map, State.tw]
  rw [State.live, State.readAt, hcell, huse, h.low Reg.SIG_EPOCH (by decide) (by decide), State.live, State.readAt]

end BankSide

/-! ## Bits of a line -/

theorem bitOf_mod (x : Nat) {w l : Nat} (h : l < w) : bitOf (x % 2 ^ w) l = bitOf x l := by
  rw [bitOf_eq_testBit, bitOf_eq_testBit, Nat.testBit_mod_two_pow, decide_eq_true h, Bool.true_and]

theorem State.bitOf_setLineBit_same (s : State) (f : Fld) (v : Bool) {l : Nat} (hf : f.lsb + f.width ≤ 32)
    (hl : l < f.width) : bitOf ((s.setLineBit f l v).fld f) l = v := by
  rw [setLineBit, State.fld_setFld_same s f _ hf, bitOf_mod _ hl, bitOf_setBit_same]

theorem State.bitOf_setLineBit_ne (s : State) (f : Fld) (v : Bool) {l k : Nat} (hf : f.lsb + f.width ≤ 32)
    (hk : k < f.width) (h : k ≠ l) : bitOf ((s.setLineBit f l v).fld f) k = bitOf (s.fld f) k := by
  rw [setLineBit, State.fld_setFld_same s f _ hf, bitOf_mod _ hk, bitOf_setBit_ne _ _ h]

theorem State.setLineBit_apart (s : State) {f g : Fld} (l : Nat) (v : Bool) (h : f.apart g) :
    (s.setLineBit f l v).fld g = s.fld g := State.fld_setFld_apart _ _ h

/-! ## Edges -/

theorem State.edgeAccepted_short {l : Nat} {level : Bool} {age : Nat} (hrun : s.running (Reg.bankUnit b) = true)
    (hpins : level = true → s.pinsSeen (Reg.bankUnit b) = true) (hage : age < s.debNs b l) :
    s.edgeAccepted b l level age = s.setLineBit (Reg.DSC_LEVEL_RAW b) l level := by
  refine (if_neg ?_).trans (if_pos ?_)
  · rw [hrun]
    cases level
    · exact Bool.false_ne_true
    · rw [hpins rfl]
      exact Bool.false_ne_true
  · rw [decide_eq_true hage, Bool.or_true]

/-- A debounced edge: the level, its change, and the raw level. -/
theorem State.lineLevel_spec (s : State) (b : BankNo) (l : Fin 8) (v : Bool) :
    BankSide s (s.lineLevel b l v) b [0x20] ∧
      bitOf ((s.lineLevel b l v).fld (Reg.DSC_LEVEL_LEVEL b)) l = v ∧
      bitOf ((s.lineLevel b l v).bank b).changed l = true ∧
      ∀ k : Fin 8, k ≠ l →
        bitOf ((s.lineLevel b l v).fld (Reg.DSC_LEVEL_LEVEL b)) k = bitOf (s.fld (Reg.DSC_LEVEL_LEVEL b)) k := by
  have happart : (Reg.DSC_LEVEL_RAW b).apart (Reg.DSC_LEVEL_LEVEL b) := by simp [Fld.apart]
  have hfld : (s.lineLevel b l v).fld (Reg.DSC_LEVEL_LEVEL b) =
      (s.setLineBit (Reg.DSC_LEVEL_LEVEL b) l v).fld (Reg.DSC_LEVEL_LEVEL b) := State.setLineBit_apart _ _ _ happart
  refine ⟨?_, ?_, ?_, fun k hk => ?_⟩
  · exact ((((BankSide.refl s b _).setLineBit 0x20 0 8 l v (by decide)).setLineBit 0x20 8 8 l v (by decide)).setBank _)
  · rw [hfld]
    exact s.bitOf_setLineBit_same _ _ (show 0 + 8 ≤ 32 by decide) l.isLt
  · unfold lineLevel
    dsimp only
    rw [State.bank_setBank_same]
    exact bitOf_setBit_same _ _ _
  · rw [hfld]
    exact s.bitOf_setLineBit_ne _ _ (show 0 + 8 ≤ 32 by decide) k.isLt (Fin.val_ne_of_ne hk)

/-- The register of an edge's timestamp. -/
def edgeReg (b l : Nat) (level : Bool) : Nat := if level then Reg.DSC_RISE_TS b l else Reg.DSC_FALL_TS b l

/-- The edge of a line is stamped and counted, and the write of its cell queued. -/
def State.edgeNoted (s : State) (b l : Nat) (level : Bool) (stamp : Word) (w : CellWrite) : State :=
  ((s.wr (edgeReg b l level) stamp).tick (Reg.DSC_EDGE_CNT b l)).addWrites (some (Reg.bankUnit b)) [w]

theorem State.edgeNoted_spec (s : State) (b : BankNo) (l : Fin 8) (level : Bool) (stamp : Word) (w : CellWrite) :
    (s.edgeNoted b l level stamp w).rd (edgeReg b l level) = stamp ∧
      (s.edgeNoted b l level stamp w).rd (Reg.DSC_EDGE_CNT b l) = s.rd (Reg.DSC_EDGE_CNT b l) + 1 ∧
      (s.edgeNoted b l level stamp w).rd (Reg.DSC_LEVEL b) = s.rd (Reg.DSC_LEVEL b) ∧
      (s.edgeNoted b l level stamp w).banks = s.banks ∧ (s.edgeNoted b l level stamp w).dev = s.dev ∧
      ∃ x, (s.edgeNoted b l level stamp w).sig.batches = s.sig.batches ++ [x] ∧
        x.src = .other (some (Reg.bankUnit b)) ∧ x.items.length = 1 := by
  have hcnt : edgeReg b l level ≠ Reg.DSC_EDGE_CNT b l := by
    unfold edgeReg
    split <;> simp only [Reg.DSC_RISE_TS, Reg.DSC_FALL_TS, Reg.DSC_EDGE_CNT] <;> omega
  have hlev : Reg.DSC_LEVEL b ≠ edgeReg b l level ∧ Reg.DSC_LEVEL b ≠ Reg.DSC_EDGE_CNT b l := by
    unfold edgeReg
    split <;> simp only [Reg.DSC_RISE_TS, Reg.DSC_FALL_TS, Reg.DSC_EDGE_CNT, Reg.DSC_LEVEL] <;> omega
  have hregs : ∀ a, (s.edgeNoted b l level stamp w).rd a =
      ((s.wr (edgeReg b l level) stamp).tick (Reg.DSC_EDGE_CNT b l)).rd a := fun _ => rfl
  refine ⟨?_, ?_, ?_, rfl, rfl, _, rfl, rfl, rfl⟩
  · rw [hregs, State.rd_tick_ne _ hcnt, State.rd_wr_same]
  · rw [hregs, tick, State.rd_wr_same, State.rd_wr_ne _ _ hcnt.symm]
  · rw [hregs, State.rd_tick_ne _ hlev.2, State.rd_wr_ne _ _ hlev.1]

/-- The edge is enabled on an input. -/
def State.edgeCounts (s : State) (b l : Nat) (level : Bool) : Bool :=
  bitOf (s.fld (if level then Reg.DSC_EDGE_CFG_RISE_EN b else Reg.DSC_EDGE_CFG_FALL_EN b)) l && !s.lineOut b l

theorem State.edgeAccepted_held {l : Fin 8} {level : Bool} {age : Nat} (hrun : s.running (Reg.bankUnit b) = true)
    (hpins : level = true → s.pinsSeen (Reg.bankUnit b) = true)
    (hdiff : bitOf (s.fld (Reg.DSC_LEVEL_LEVEL b)) l ≠ level) (hage : s.debNs b l ≤ age) :
    ∃ w, s.edgeAccepted b l level age =
      if s.edgeCounts b l level then
        ((s.regionWork (Reg.bankUnit b)).lineLevel b l level).edgeNoted b l level
          (s.stampAt (s.tb.local16 - age * 65536)) w
      else (s.regionWork (Reg.bankUnit b)).lineLevel b l level := by
  refine ⟨_, (if_neg ?_).trans (if_neg ?_)⟩
  · rw [hrun]
    cases level
    · exact Bool.false_ne_true
    · rw [hpins rfl]
      exact Bool.false_ne_true
  · rw [beq_eq_false_iff_ne.mpr hdiff, decide_eq_false (Nat.not_lt.mpr hage)]
    exact Bool.false_ne_true

/-! ## Outputs -/

/-- The registers that following may change: OUT_NOW and LEVEL. -/
abbrev followRegs : List Nat := [0x2c, 0x20]

/-- What driving a line leaves alone: the staging bits, and SAFE_ACTIVE. -/
structure Driven (s t : State) (b : BankNo) (l : Nat) (v : Bool) : Prop where
  side : BankSide s t b followRegs
  stage : (t.bank b).stageSafe = (s.bank b).stageSafe ∧ (t.bank b).cellStage = (s.bank b).cellStage
  safe : t.fld (Reg.DSC_OUT_NOW_SAFE_ACTIVE b) = s.fld (Reg.DSC_OUT_NOW_SAFE_ACTIVE b)
  other : ∀ k < 8, k ≠ l → bitOf (t.fld (Reg.DSC_OUT_NOW_DRIVEN b)) k = bitOf (s.fld (Reg.DSC_OUT_NOW_DRIVEN b)) k
  line : l < 8 → bitOf (t.fld (Reg.DSC_OUT_NOW_DRIVEN b)) l = v

/-- The level that a pin shows again changes nothing else of the bank. -/
theorem Driven.level {l : Nat} {v : Bool} (h : Driven s t b l v) (lsb k : Nat) (x : Bool) :
    Driven s (t.setLineBit ⟨Reg.DSC_LEVEL b, lsb, 8⟩ k x) b l v := by
  have hne : Reg.DSC_OUT_NOW b ≠ Reg.DSC_LEVEL b := by
    simp only [Reg.DSC_OUT_NOW, Reg.DSC_LEVEL]
    omega
  have hnow : ∀ lo w, (t.setLineBit ⟨Reg.DSC_LEVEL b, lsb, 8⟩ k x).fld ⟨Reg.DSC_OUT_NOW b, lo, w⟩ =
      t.fld ⟨Reg.DSC_OUT_NOW b, lo, w⟩ := fun lo w => State.fld_wr_ne _ _ hne
  exact ⟨h.side.setLineBit 0x20 lsb 8 k x (by decide), h.stage, (hnow 8 8).trans h.safe,
    fun j hj hjl => (congrArg (bitOf · j) (hnow 0 8)).trans (h.other j hj hjl),
    fun hl => (congrArg (bitOf · l) (hnow 0 8)).trans (h.line hl)⟩

theorem Driven.setBank {l : Nat} {v : Bool} (h : Driven s t b l v) {x : Bank}
    (hx : x.stageSafe = (t.bank b).stageSafe ∧ x.cellStage = (t.bank b).cellStage) :
    Driven s (t.setBank b x) b l v := by
  refine ⟨h.side.setBank x, ?_, h.safe, h.other, h.line⟩
  rw [State.bank_setBank_same]
  exact ⟨hx.1.trans h.stage.1, hx.2.trans h.stage.2⟩

theorem State.driveLine_driven (s : State) (b : BankNo) (l : Nat) (v : Bool) : Driven s (s.driveLine b l v) b l v := by
  have happart : (Reg.DSC_OUT_NOW_DRIVEN b).apart (Reg.DSC_OUT_NOW_SAFE_ACTIVE b) := by simp [Fld.apart]
  have hdriven : Driven s (s.setLineBit (Reg.DSC_OUT_NOW_DRIVEN b) l v) b l v :=
    ⟨(BankSide.refl s b _).setLineBit 0x2c 0 8 l v (by decide), ⟨rfl, rfl⟩, State.setLineBit_apart _ _ _ happart,
      fun k hk hkl => s.bitOf_setLineBit_ne _ _ (show 0 + 8 ≤ 32 by decide) hk hkl,
      fun hl => s.bitOf_setLineBit_same _ _ (show 0 + 8 ≤ 32 by decide) hl⟩
  unfold driveLine
  extract_lets t src t'
  have ht' : Driven s t' b l v := hdriven.setBank ⟨rfl, rfl⟩
  clear_value t'
  split
  · exact ht'
  · split
    · exact ht'.level 8 l v
    · split
      · exact ht'.level 8 l v
      · exact ((ht'.level 0 l v).level 8 l v).setBank ⟨rfl, rfl⟩

/-- What the following of a line leaves alone: the staging bits and the other lines. -/
structure Followed (s t : State) (b : BankNo) (l : Nat) : Prop where
  side : BankSide s t b followRegs
  stage : (t.bank b).stageSafe = (s.bank b).stageSafe ∧ (t.bank b).cellStage = (s.bank b).cellStage
  other : ∀ k < 8, k ≠ l →
    bitOf (t.fld (Reg.DSC_OUT_NOW_DRIVEN b)) k = bitOf (s.fld (Reg.DSC_OUT_NOW_DRIVEN b)) k ∧
    bitOf (t.fld (Reg.DSC_OUT_NOW_SAFE_ACTIVE b)) k = bitOf (s.fld (Reg.DSC_OUT_NOW_SAFE_ACTIVE b)) k

theorem Followed.refl (s : State) (b : BankNo) (l : Nat) : Followed s s b l :=
  ⟨BankSide.refl s b _, ⟨rfl, rfl⟩, fun _ _ _ => ⟨rfl, rfl⟩⟩

theorem Driven.followed {l : Nat} {v : Bool} (h : Driven s t b l v) : Followed s t b l :=
  ⟨h.side, h.stage, fun k hk hkl => ⟨h.other k hk hkl, congrArg (bitOf · k) h.safe⟩⟩

theorem State.driveSafe_followed (s : State) (b : BankNo) (l safe : Nat) :
    Followed s (s.driveSafe b l safe) b l ∧
      (s.driveSafe b l safe).fld (Reg.DSC_OUT_NOW_SAFE_ACTIVE b) = s.fld (Reg.DSC_OUT_NOW_SAFE_ACTIVE b) := by
  unfold driveSafe
  split
  · have h := s.driveLine_driven b l false
    exact ⟨h.followed, h.safe⟩
  · have h := s.driveLine_driven b l true
    exact ⟨h.followed, h.safe⟩
  · exact ⟨Followed.refl s b l, rfl⟩
  · refine ⟨⟨(BankSide.refl s b _).setBank _, ?_, fun _ _ _ => ⟨rfl, rfl⟩⟩, rfl⟩
    rw [State.bank_setBank_same]
    exact ⟨rfl, rfl⟩

theorem State.lineClear_spec (s : State) (b : BankNo) (l : Nat) (v : Bool) :
    Followed s (s.lineClear b l v) b l ∧ (l < 8 →
      bitOf ((s.lineClear b l v).fld (Reg.DSC_OUT_NOW_DRIVEN b)) l = v ∧
      bitOf ((s.lineClear b l v).fld (Reg.DSC_OUT_NOW_SAFE_ACTIVE b)) l = false) := by
  have h := s.driveLine_driven b l v
  have happart : (Reg.DSC_OUT_NOW_SAFE_ACTIVE b).apart (Reg.DSC_OUT_NOW_DRIVEN b) := by simp [Fld.apart]
  have hdriven : (s.lineClear b l v).fld (Reg.DSC_OUT_NOW_DRIVEN b) =
      (s.driveLine b l v).fld (Reg.DSC_OUT_NOW_DRIVEN b) := State.setLineBit_apart _ _ _ happart
  refine ⟨⟨h.side.setLineBit 0x2c 8 8 l false (by decide), h.stage, fun k hk hkl => ⟨?_, ?_⟩⟩, fun hl => ⟨?_, ?_⟩⟩
  · rw [hdriven]
    exact h.other k hk hkl
  · rw [← h.safe]
    exact State.bitOf_setLineBit_ne _ _ _ (show 8 + 8 ≤ 32 by decide) hk hkl
  · rw [hdriven]
    exact h.line hl
  · exact State.bitOf_setLineBit_same _ _ _ (show 8 + 8 ≤ 32 by decide) hl

theorem State.lineFollow_followed (s : State) (b : BankNo) (l : Nat) : Followed s (s.lineFollow b l) b l := by
  unfold lineFollow
  split
  · exact Followed.refl s b l
  · split
    · split
      · exact (s.driveSafe_followed b l _).1
      · exact (s.lineClear_spec b l _).1
    · exact (s.lineClear_spec b l _).1

/-- A line that follows its cell stays at its safe value while its staging bit stands for that. -/
theorem State.lineFollow_safe {l : Nat} (hout : s.lineOut b l = true) (hcell : s.fromCell b l = true)
    (hsafe : bitOf (s.bank b).stageSafe l = true) :
    (s.lineFollow b l).fld (Reg.DSC_OUT_NOW_SAFE_ACTIVE b) = s.fld (Reg.DSC_OUT_NOW_SAFE_ACTIVE b) := by
  have hop : s.lineFollow b l = s.driveSafe b l (s.lineSafe b l) :=
    (if_neg (by rw [hout]; exact Bool.false_ne_true)).trans ((if_pos hcell).trans (if_pos hsafe))
  rw [hop]
  exact (s.driveSafe_followed b l _).2

/-- Otherwise it shows its staging bit. -/
theorem State.lineFollow_cell {l : Nat} (hl : l < 8) (hout : s.lineOut b l = true) (hcell : s.fromCell b l = true)
    (hsafe : bitOf (s.bank b).stageSafe l = false) :
    bitOf ((s.lineFollow b l).fld (Reg.DSC_OUT_NOW_DRIVEN b)) l = bitOf (s.bank b).cellStage l ∧
      bitOf ((s.lineFollow b l).fld (Reg.DSC_OUT_NOW_SAFE_ACTIVE b)) l = false := by
  have hop : s.lineFollow b l = s.lineClear b l (bitOf (s.bank b).cellStage l) :=
    (if_neg (by rw [hout]; exact Bool.false_ne_true)).trans ((if_pos hcell).trans
      (if_neg (by rw [hsafe]; exact Bool.false_ne_true)))
  rw [hop]
  exact (s.lineClear_spec b l _).2 hl

/-! ## The staging bits -/

/-- The registers that a refresh may change: OUT_NOW, FLAGS and SRC_BAD_CNT. -/
abbrev refreshRegs : List Nat := [0x2c, 0x30, 0xe0]

/-- What the refresh of a line's staging bit leaves alone. -/
structure Refreshed (s t : State) (b : BankNo) (l : Nat) : Prop where
  side : BankSide s t b refreshRegs
  flag : s.flag (Reg.DSC_FLAGS_SRC_BAD b) = true → t.flag (Reg.DSC_FLAGS_SRC_BAD b) = true
  other : ∀ k < 8, k ≠ l → bitOf (t.bank b).stageSafe k = bitOf (s.bank b).stageSafe k ∧
    bitOf (t.bank b).cellStage k = bitOf (s.bank b).cellStage k ∧
    bitOf (t.fld (Reg.DSC_OUT_NOW_SAFE_ACTIVE b)) k = bitOf (s.fld (Reg.DSC_OUT_NOW_SAFE_ACTIVE b)) k

/-- The staging bit of a line whose source is not good: it stands for the safe value. -/
def State.srcBad (s : State) (b l : Nat) : State :=
  (((s.setBank b { s.bank b with stageSafe := setBit (s.bank b).stageSafe l true }).setFld
    (Reg.DSC_FLAGS_SRC_BAD b) 1).setLineBit (Reg.DSC_OUT_NOW_SAFE_ACTIVE b) l true).bump (Reg.DSC_SRC_BAD_CNT b)

/-- The staging bit of a line takes the bit of its cell. -/
def State.srcGood (s : State) (b l : Nat) (v : Bool) : State :=
  (s.setBank b { s.bank b with
    stageSafe := setBit (s.bank b).stageSafe l false, cellStage := setBit (s.bank b).cellStage l v }).setLineBit
      (Reg.DSC_OUT_NOW_SAFE_ACTIVE b) l false

/-- The source of a line is valid and not stale. -/
def State.srcOk (s : State) (b l : Nat) : Bool :=
  cwBit (s.live (s.fld (Reg.DSC_SRC_CELL b l))) stValid && !cwBit (s.live (s.fld (Reg.DSC_SRC_CELL b l))) stStale

/-- The bit of its source. -/
def State.srcBit (s : State) (b l : Nat) : Bool :=
  bitOf (cwValue (s.live (s.fld (Reg.DSC_SRC_CELL b l)))) (s.fld (Reg.DSC_SRC_BIT b l))

theorem State.lineRefresh_eq (s : State) (b l : Nat) : s.lineRefresh b l =
    if s.lineOut b l && s.fromCell b l then
      if s.srcOk b l then s.srcGood b l (s.srcBit b l) else s.srcBad b l
    else s := by
  unfold lineRefresh srcOk
  dsimp only
  split
  · cases cwBit (s.live (s.fld (Reg.DSC_SRC_CELL b l))) stValid <;>
      cases cwBit (s.live (s.fld (Reg.DSC_SRC_CELL b l))) stStale <;> rfl
  · rfl

theorem State.srcBad_spec (s : State) (b : BankNo) (l : Nat) :
    Refreshed s (s.srcBad b l) b l ∧ bitOf ((s.srcBad b l).bank b).stageSafe l = true ∧
      (s.srcBad b l).flag (Reg.DSC_FLAGS_SRC_BAD b) = true ∧
      (l < 8 → bitOf ((s.srcBad b l).fld (Reg.DSC_OUT_NOW_SAFE_ACTIVE b)) l = true) := by
  have hside : BankSide s (s.srcBad b l) b refreshRegs :=
    ((((BankSide.refl s b _).setBank _).setFld 0x30 0 1 1 (by decide)).setLineBit 0x2c 8 8 l true (by decide)).wr 0xe0 _
      (by decide)
  have hnow : Reg.DSC_OUT_NOW b ≠ Reg.DSC_SRC_BAD_CNT b ∧ Reg.DSC_OUT_NOW b ≠ Reg.DSC_FLAGS b ∧
      Reg.DSC_FLAGS b ≠ Reg.DSC_SRC_BAD_CNT b := by
    simp only [Reg.DSC_OUT_NOW, Reg.DSC_SRC_BAD_CNT, Reg.DSC_FLAGS]
    omega
  have hbank : (s.srcBad b l).bank b = { s.bank b with stageSafe := setBit (s.bank b).stageSafe l true } :=
    s.bank_setBank_same b _
  have hsafe : (s.srcBad b l).fld (Reg.DSC_OUT_NOW_SAFE_ACTIVE b) =
      (((s.setBank b { s.bank b with stageSafe := setBit (s.bank b).stageSafe l true }).setFld
        (Reg.DSC_FLAGS_SRC_BAD b) 1).setLineBit (Reg.DSC_OUT_NOW_SAFE_ACTIVE b) l true).fld
        (Reg.DSC_OUT_NOW_SAFE_ACTIVE b) := State.fld_wr_ne _ _ hnow.1
  have hflag : (s.srcBad b l).flag (Reg.DSC_FLAGS_SRC_BAD b) = true := by
    rw [srcBad, bump, flag_wr_ne _ _ hnow.2.2, setLineBit, setFld, flag_wr_ne _ _ hnow.2.1.symm]
    exact State.flag_setFld_one _ _ rfl (show 0 + 1 ≤ 32 by decide)
  refine ⟨⟨hside, fun _ => hflag, fun k hk hkl => ?_⟩, ?_, hflag, fun hl => ?_⟩
  · rw [hbank, hsafe]
    refine ⟨bitOf_setBit_ne _ _ hkl, rfl, ?_⟩
    rw [State.bitOf_setLineBit_ne _ _ _ (show 8 + 8 ≤ 32 by decide) hk hkl]
    exact congrArg (bitOf · k) (State.fld_wr_ne _ _ hnow.2.1)
  · rw [hbank]
    exact bitOf_setBit_same _ _ _
  · rw [hsafe]
    exact State.bitOf_setLineBit_same _ _ _ (show 8 + 8 ≤ 32 by decide) hl

theorem State.srcGood_spec (s : State) (b : BankNo) (l : Nat) (v : Bool) :
    Refreshed s (s.srcGood b l v) b l ∧ bitOf ((s.srcGood b l v).bank b).stageSafe l = false ∧
      bitOf ((s.srcGood b l v).bank b).cellStage l = v := by
  have hside : BankSide s (s.srcGood b l v) b refreshRegs :=
    ((BankSide.refl s b _).setBank _).setLineBit 0x2c 8 8 l false (by decide)
  have hbank : (s.srcGood b l v).bank b = { s.bank b with
      stageSafe := setBit (s.bank b).stageSafe l false, cellStage := setBit (s.bank b).cellStage l v } :=
    s.bank_setBank_same b _
  have hne : Reg.DSC_FLAGS b ≠ Reg.DSC_OUT_NOW b := by
    simp only [Reg.DSC_OUT_NOW, Reg.DSC_FLAGS]
    omega
  refine ⟨⟨hside, fun h => (flag_wr_ne _ _ hne).trans h, fun k hk hkl => ?_⟩, ?_, ?_⟩
  · rw [hbank]
    exact ⟨bitOf_setBit_ne _ _ hkl, bitOf_setBit_ne _ _ hkl,
      State.bitOf_setLineBit_ne _ _ _ (show 8 + 8 ≤ 32 by decide) hk hkl⟩
  · rw [hbank]
    exact bitOf_setBit_same _ _ _
  · rw [hbank]
    exact bitOf_setBit_same _ _ _

theorem State.lineRefresh_refreshed (s : State) (b : BankNo) (l : Nat) : Refreshed s (s.lineRefresh b l) b l := by
  rw [lineRefresh_eq]
  split
  · split
    · exact (s.srcGood_spec b l _).1
    · exact (s.srcBad_spec b l).1
  · exact ⟨BankSide.refl s b _, id, fun _ _ _ => ⟨rfl, rfl, rfl⟩⟩

/-! ## Eight lines in turn -/

/-- A fold of which each step keeps `Q`, of which the step at `l` makes `R`, and the other steps keep it. -/
theorem foldl_reaches {f : State → Nat → State} {Q R : State → Prop} {l : Nat} (hQ : ∀ t k, Q t → Q (f t k))
    (hR : ∀ t, Q t → R (f t l)) (hkeep : ∀ t k, k ≠ l → R t → R (f t k)) (ks : List Nat) (hl : l ∈ ks) (t : State)
    (ht : Q t) : Q (ks.foldl f t) ∧ R (ks.foldl f t) := by
  have hafter : ∀ (ks : List Nat) (t : State), Q t → R t → Q (ks.foldl f t) ∧ R (ks.foldl f t) := fun ks => by
    induction ks with
    | nil => exact fun t hq hr => ⟨hq, hr⟩
    | cons k ks ih =>
      intro t hq hr
      by_cases hk : k = l
      · exact ih _ (hQ t k hq) (hk ▸ hR t hq)
      · exact ih _ (hQ t k hq) (hkeep t k hk hr)
  induction ks generalizing t with
  | nil => exact absurd hl List.not_mem_nil
  | cons k ks ih =>
    by_cases hk : k = l
    · exact hafter ks _ (hQ t k ht) (hk ▸ hR t ht)
    · exact ih (List.mem_of_ne_of_mem (Ne.symm hk) hl) _ (hQ t k ht)

/-- The staging bit of line `l` has been refreshed from a good source. -/
def StagedGood (t : State) (b : BankNo) (l : Nat) (v : Bool) : Prop :=
  bitOf (t.bank b).stageSafe l = false ∧ bitOf (t.bank b).cellStage l = v

/-- The staging bit of line `l` stands for the safe value. -/
def StagedBad (t : State) (b : BankNo) (l : Nat) : Prop :=
  bitOf (t.bank b).stageSafe l = true ∧ t.flag (Reg.DSC_FLAGS_SRC_BAD b) = true ∧
    bitOf (t.fld (Reg.DSC_OUT_NOW_SAFE_ACTIVE b)) l = true

/-- The commit has been taken up: the bank no longer waits for a refresh. -/
def State.refreshTaken (s : State) (b : Nat) : State :=
  State.regionWork { s with sig := { s.sig with refresh := s.sig.refresh.filter fun x => x != Reg.bankUnit b } }
    (Reg.bankUnit b)

/-- The staging bits of the bank are refreshed. -/
def State.stagedLines (s : State) (b : Nat) : State := (List.range 8).foldl (fun t l => t.lineRefresh b l) s

theorem State.bankRefresh_eq (hwait : Reg.bankUnit b ∈ s.sig.refresh) (hrun : s.running (Reg.bankUnit b) = true) :
    s.bankRefresh b = ((s.refreshTaken b).stagedLines b).bankFollow b :=
  (if_pos (List.contains_iff_mem.mpr hwait)).trans (if_pos hrun)

theorem State.refreshTaken_spec (s : State) (b : BankNo) :
    BankSide { s with sig := { s.sig with refresh := s.sig.refresh.filter fun x => x != Reg.bankUnit b } }
      (s.refreshTaken b) b [] :=
  (BankSide.refl _ b []).regionWork _

/-- The source of a line is the same through the refresh. -/
theorem BankSide.src (h : BankSide s t b refreshRegs) {l : Nat} (hl : l < 8) :
    t.srcOk b l = s.srcOk b l ∧ t.srcBit b l = s.srcBit b l := by
  have hreg : ∀ lsb w, t.fld ⟨Reg.DSC_SRC b l, lsb, w⟩ = s.fld ⟨Reg.DSC_SRC b l, lsb, w⟩ := fun lsb w => by
    have hfld := h.fld (0x60 + 4 * l) lsb w (by omega) (by
      simp only [List.mem_cons, List.not_mem_nil, or_false]
      omega)
    rwa [← Nat.add_assoc] at hfld
  have hcell : t.fld (Reg.DSC_SRC_CELL b l) = s.fld (Reg.DSC_SRC_CELL b l) := hreg 0 17
  have hbit : t.fld (Reg.DSC_SRC_BIT b l) = s.fld (Reg.DSC_SRC_BIT b l) := hreg 24 5
  simp only [State.srcOk, State.srcBit, hcell, hbit, h.live, and_self]

theorem BankSide.lineRefresh (h : BankSide s t b refreshRegs) (k : Nat) :
    BankSide s (t.lineRefresh b k) b refreshRegs := h.trans (t.lineRefresh_refreshed b k).side

/-- The staging bit of a line that follows its cell, after the refresh: the bit of a good source. -/
theorem State.stagedLines_good {l : Nat} (hl : l < 8) (hout : s.lineOut b l = true) (hcell : s.fromCell b l = true)
    (hok : s.srcOk b l = true) :
    BankSide s (s.stagedLines b) b refreshRegs ∧ StagedGood (s.stagedLines b) b l (s.srcBit b l) := by
  refine foldl_reaches (Q := fun t => BankSide s t b refreshRegs) (R := fun t => StagedGood t b l (s.srcBit b l))
    (fun t k ht => ht.lineRefresh k) (fun t ht => ?_) (fun t k hk hr => ?_) _ (List.mem_range.mpr hl) s
    (BankSide.refl s b _)
  · obtain ⟨hok', hbit⟩ := ht.src hl
    rw [lineRefresh_eq, ht.lineOut l (by decide), ht.fromCell l (by decide), hok', hbit, hout, hcell, hok]
    exact (t.srcGood_spec b l _).2
  · obtain ⟨hsafe, hstage, -⟩ := (t.lineRefresh_refreshed b k).other l hl (Ne.symm hk)
    exact ⟨hsafe.trans hr.1, hstage.trans hr.2⟩

/-- And the safe value where its source is not good. -/
theorem State.stagedLines_bad {l : Nat} (hl : l < 8) (hout : s.lineOut b l = true) (hcell : s.fromCell b l = true)
    (hbad : s.srcOk b l = false) :
    BankSide s (s.stagedLines b) b refreshRegs ∧ StagedBad (s.stagedLines b) b l := by
  refine foldl_reaches (Q := fun t => BankSide s t b refreshRegs) (R := fun t => StagedBad t b l)
    (fun t k ht => ht.lineRefresh k) (fun t ht => ?_) (fun t k hk hr => ?_) _ (List.mem_range.mpr hl) s
    (BankSide.refl s b _)
  · rw [lineRefresh_eq, ht.lineOut l (by decide), ht.fromCell l (by decide), (ht.src hl).1, hout, hcell, hbad]
    obtain ⟨-, hsafe, hflag, hactive⟩ := t.srcBad_spec b l
    exact ⟨hsafe, hflag, hactive hl⟩
  · have h := t.lineRefresh_refreshed b k
    obtain ⟨hsafe, -, hactive⟩ := h.other l hl (Ne.symm hk)
    exact ⟨hsafe.trans hr.1, h.flag hr.2.1, hactive.trans hr.2.2⟩

/-! ## The lines follow -/

/-- A line shows its staging bit. -/
def Shows (t : State) (b : BankNo) (l : Nat) (v : Bool) : Prop :=
  bitOf (t.fld (Reg.DSC_OUT_NOW_DRIVEN b)) l = v ∧ bitOf (t.fld (Reg.DSC_OUT_NOW_SAFE_ACTIVE b)) l = false

theorem State.bankFollow_eq (hrun : s.running (Reg.bankUnit b) = true) : s.bankFollow b =
    ((List.range 8).filter fun l => !s.latched b l).foldl (fun t l => t.lineFollow b l) s := if_pos hrun

theorem mem_follows {l : Nat} (hl : l < 8) (h : s.latched b l = false) :
    l ∈ (List.range 8).filter fun l => !s.latched b l :=
  List.mem_filter.mpr ⟨List.mem_range.mpr hl, by rw [h]; rfl⟩

theorem State.bankFollow_good {l : Nat} {v : Bool} (hl : l < 8) (hrun : s.running (Reg.bankUnit b) = true)
    (hlatched : s.latched b l = false) (hout : s.lineOut b l = true) (hcell : s.fromCell b l = true)
    (hstaged : StagedGood s b l v) :
    BankSide s (s.bankFollow b) b followRegs ∧ Shows (s.bankFollow b) b l v := by
  rw [State.bankFollow_eq hrun]
  have hkeeps : ∀ t k, BankSide s t b followRegs ∧ StagedGood t b l v →
      BankSide s (t.lineFollow b k) b followRegs ∧ StagedGood (t.lineFollow b k) b l v := fun t k ht => by
    have h := t.lineFollow_followed b k
    refine ⟨ht.1.trans h.side, ?_⟩
    rw [StagedGood, h.stage.1, h.stage.2]
    exact ht.2
  have hshows : ∀ t, BankSide s t b followRegs ∧ StagedGood t b l v → Shows (t.lineFollow b l) b l v := fun t ht => by
    obtain ⟨hside, hsafe, hstage⟩ := ht
    obtain ⟨hdriven, hactive⟩ := State.lineFollow_cell hl ((hside.lineOut l (by decide)).trans hout)
      ((hside.fromCell l (by decide)).trans hcell) hsafe
    exact ⟨hdriven.trans hstage, hactive⟩
  have hother : ∀ t k, k ≠ l → Shows t b l v → Shows (t.lineFollow b k) b l v := fun t k hk ht => by
    obtain ⟨hdriven, hactive⟩ := (t.lineFollow_followed b k).other l hl (Ne.symm hk)
    exact ⟨hdriven.trans ht.1, hactive.trans ht.2⟩
  obtain ⟨⟨hside, -⟩, hline⟩ :=
    foldl_reaches hkeeps hshows hother _ (mem_follows hl hlatched) s ⟨BankSide.refl s b _, hstaged⟩
  exact ⟨hside, hline⟩

theorem State.bankFollow_bad {l : Nat} (hl : l < 8) (hrun : s.running (Reg.bankUnit b) = true)
    (hout : s.lineOut b l = true) (hcell : s.fromCell b l = true) (hstaged : StagedBad s b l) :
    BankSide s (s.bankFollow b) b followRegs ∧ StagedBad (s.bankFollow b) b l := by
  rw [State.bankFollow_eq hrun]
  have hstep : ∀ (t : State) (k : Nat), BankSide s t b followRegs ∧ StagedBad t b l →
      BankSide s (t.lineFollow b k) b followRegs ∧ StagedBad (t.lineFollow b k) b l := fun t k ht => by
    obtain ⟨hside, hsafe, hflag, hactive⟩ := ht
    have h := t.lineFollow_followed b k
    refine ⟨hside.trans h.side, by rw [h.stage.1]; exact hsafe, ?_, ?_⟩
    · have := h.side.fld 0x30 0 1 (by decide) (by decide)
      rw [flag, show (t.lineFollow b k).fld (Reg.DSC_FLAGS_SRC_BAD b) = t.fld (Reg.DSC_FLAGS_SRC_BAD b) from this]
      exact hflag
    · by_cases hk : k = l
      · rw [hk, State.lineFollow_safe ((hside.lineOut l (by decide)).trans hout)
          ((hside.fromCell l (by decide)).trans hcell) hsafe]
        exact hactive
      · exact (h.other l hl (Ne.symm hk)).2.trans hactive
  generalize (List.range 8).filter (fun l => !s.latched b l) = ks
  have hfold : ∀ t, BankSide s t b followRegs ∧ StagedBad t b l →
      BankSide s (ks.foldl (fun t l => t.lineFollow b l) t) b followRegs ∧
        StagedBad (ks.foldl (fun t l => t.lineFollow b l) t) b l := by
    induction ks with
    | nil => exact fun t ht => ht
    | cons k ks ih => exact fun t ht => ih _ (hstep t k ht)
  exact hfold s ⟨BankSide.refl s b _, hstaged⟩

/-! ## The two commands -/

/-- An enabled edge of an input: its stamp, its count, and the write of its cell. -/
def EdgeNoted (s t : State) (b l : Nat) (level : Bool) (age : Nat) : Prop :=
  t.rd (edgeReg b l level) = s.stampAt (s.tb.local16 - age * 65536) ∧
    t.rd (Reg.DSC_EDGE_CNT b l) = s.rd (Reg.DSC_EDGE_CNT b l) + 1 ∧
    ∃ w, t.sig.batches = s.sig.batches ++ [w] ∧ w.src = .other (some (Reg.bankUnit b)) ∧ w.items.length = 1

theorem State.edgeAccepted_spec {l : Fin 8} {level : Bool} {age : Nat} (hrun : s.running (Reg.bankUnit b) = true)
    (hpins : level = true → s.pinsSeen (Reg.bankUnit b) = true)
    (hdiff : bitOf (s.fld (Reg.DSC_LEVEL_LEVEL b)) l ≠ level) (hage : s.debNs b l ≤ age) :
    ∃ u : State, s.edgeAccepted b l level age = u ∧ u.dev.held = s.dev.held ∧
      bitOf (u.fld (Reg.DSC_LEVEL_LEVEL b)) l = level ∧ bitOf (u.bank b).changed l = true ∧
      (∀ k : Fin 8, k ≠ l → bitOf (u.fld (Reg.DSC_LEVEL_LEVEL b)) k = bitOf (s.fld (Reg.DSC_LEVEL_LEVEL b)) k) ∧
      (s.edgeCounts b l level = true → EdgeNoted s u b l level age) := by
  obtain ⟨w, hop⟩ := State.edgeAccepted_held hrun hpins hdiff hage
  have hwork : BankSide s (s.regionWork (Reg.bankUnit b)) b [0x20] := (BankSide.refl s b _).regionWork _
  have hlevelFld := hwork.reg 0x20
  obtain ⟨R, D, K, hreg, -, hregs⟩ := s.regionWork_spec (Reg.bankUnit b)
  have hlev : (s.regionWork (Reg.bankUnit b)).rd (Reg.DSC_LEVEL b) = s.rd (Reg.DSC_LEVEL b) := by
    rw [hreg]
    exact hregs _ fun hm => bank_ne_regionStep b 0x20 (List.mem_singleton.mp hm)
  have hsig : (s.regionWork (Reg.bankUnit b)).sig = s.sig := by rw [hreg]
  obtain ⟨hside, hline, hchanged, hother⟩ := (s.regionWork (Reg.bankUnit b)).lineLevel_spec b l level
  have hall := hwork.trans hside
  have hsig' : ((s.regionWork (Reg.bankUnit b)).lineLevel b l level).sig = s.sig := hsig
  have hcnt : ((s.regionWork (Reg.bankUnit b)).lineLevel b l level).rd (Reg.DSC_EDGE_CNT b l) =
      s.rd (Reg.DSC_EDGE_CNT b l) := by
    have := hall.reg (0xc0 + 4 * l) (by omega) (by
      simp only [List.mem_cons, List.not_mem_nil, or_false]
      omega)
    rwa [← Nat.add_assoc] at this
  have hother' : ∀ k : Fin 8, k ≠ l →
      bitOf (((s.regionWork (Reg.bankUnit b)).lineLevel b l level).fld (Reg.DSC_LEVEL_LEVEL b)) k =
        bitOf (s.fld (Reg.DSC_LEVEL_LEVEL b)) k := fun k hk => by
    rw [hother k hk, fld, hlev, fld]
  have hheld := hall.held
  generalize (s.regionWork (Reg.bankUnit b)).lineLevel b l level = t at *
  by_cases hcounts : s.edgeCounts b l level = true
  · rw [if_pos hcounts] at hop
    obtain ⟨hts, hcount, hlevel, hbanks, hdev, x, hbatch, hsrc, hitems⟩ :=
      t.edgeNoted_spec b l level (s.stampAt (s.tb.local16 - age * 65536)) w
    generalize t.edgeNoted b l level _ w = u at *
    have hfld : u.fld (Reg.DSC_LEVEL_LEVEL b) = t.fld (Reg.DSC_LEVEL_LEVEL b) := by rw [fld, hlevel, fld]
    have hbank : u.bank b = t.bank b := by rw [bank, hbanks, bank]
    refine ⟨u, hop, by rw [hdev, hheld], by rw [hfld]; exact hline, by rw [hbank]; exact hchanged,
      fun k hk => by rw [hfld]; exact hother' k hk, fun _ => ⟨hts, hcount.trans (congrArg (· + 1) hcnt), x, ?_, hsrc,
        hitems⟩⟩
    rw [hbatch, hsig']
  · rw [if_neg hcounts] at hop
    exact ⟨t, hop, hheld, hline, hchanged, hother', fun h => absurd h hcounts⟩

/-- The refresh of a bank, as line `l` shows it. -/
theorem State.bankRefresh_spec {l : Fin 8} (hwait : Reg.bankUnit b ∈ s.sig.refresh)
    (hrun : s.running (Reg.bankUnit b) = true) (hout : s.lineOut b l = true) (hcell : s.fromCell b l = true)
    (hlatched : s.latched b l = false) :
    ∃ u : State, s.bankRefresh b = u ∧ u.dev.held = s.dev.held ∧ Reg.bankUnit b ∉ u.sig.refresh ∧
      (s.srcOk b l = true → Shows u b l (s.srcBit b l)) ∧ (s.srcOk b l = false → StagedBad u b l) := by
  have htaken := s.refreshTaken_spec b
  have hsrc := (htaken.mono (List.nil_subset refreshRegs)).src l.isLt
  have hok : (s.refreshTaken b).srcOk b l = s.srcOk b l := hsrc.1
  have hbit : (s.refreshTaken b).srcBit b l = s.srcBit b l := hsrc.2
  have hout' : (s.refreshTaken b).lineOut b l = true := (htaken.lineOut l (by decide)).trans hout
  have hcell' : (s.refreshTaken b).fromCell b l = true := (htaken.fromCell l (by decide)).trans hcell
  have hlatched' : (s.refreshTaken b).latched b l = false := (htaken.latched l (by decide)).trans hlatched
  have hrun' : (s.refreshTaken b).running (Reg.bankUnit b) = true := (htaken.running (by decide)).trans hrun
  have hheld : (s.refreshTaken b).dev.held = s.dev.held := htaken.held
  have hsig : (s.refreshTaken b).sig.refresh = s.sig.refresh.filter fun x => x != Reg.bankUnit b :=
    (congrArg (fun x : State => x.sig.refresh) htaken.frame :)
  have hgone : Reg.bankUnit b ∉ s.sig.refresh.filter fun x => x != Reg.bankUnit b := fun h =>
    absurd (List.mem_filter.mp h).2 (by simp)
  have hop := State.bankRefresh_eq hwait hrun
  generalize s.refreshTaken b = t at *
  have hend : ∀ {u v : State}, BankSide t u b refreshRegs → BankSide u v b followRegs →
      v.dev.held = s.dev.held ∧ Reg.bankUnit b ∉ v.sig.refresh := fun {u v} hu hv => by
    have hsu : u.sig = t.sig := (congrArg State.sig hu.frame :)
    have hsv : v.sig = u.sig := (congrArg State.sig hv.frame :)
    refine ⟨(hv.held.trans hu.held).trans hheld, ?_⟩
    rw [hsv, hsu, hsig]
    exact hgone
  have hreads : BankSide t (t.stagedLines b) b refreshRegs →
      (t.stagedLines b).running (Reg.bankUnit b) = true ∧ (t.stagedLines b).latched b l = false ∧
        (t.stagedLines b).lineOut b l = true ∧ (t.stagedLines b).fromCell b l = true := fun hu =>
    ⟨(hu.running (by decide)).trans hrun', (hu.latched l (by decide)).trans hlatched',
      (hu.lineOut l (by decide)).trans hout', (hu.fromCell l (by decide)).trans hcell'⟩
  cases hgood : s.srcOk b l
  · obtain ⟨hside, hstaged⟩ := State.stagedLines_bad l.isLt hout' hcell' (hok.trans hgood)
    obtain ⟨hru, -, hou, hcu⟩ := hreads hside
    obtain ⟨hside', hbad⟩ := State.bankFollow_bad l.isLt hru hou hcu hstaged
    obtain ⟨hheld', hleft⟩ := hend hside hside'
    exact ⟨_, hop, hheld', hleft, fun h => absurd h Bool.false_ne_true, fun _ => hbad⟩
  · obtain ⟨hside, hstaged⟩ := State.stagedLines_good l.isLt hout' hcell' (hok.trans hgood)
    obtain ⟨hru, hlu, hou, hcu⟩ := hreads hside
    obtain ⟨hside', hshows⟩ := State.bankFollow_good l.isLt hru hlu hou hcu hstaged
    obtain ⟨hheld', hleft⟩ := hend hside hside'
    exact ⟨_, hop, hheld', hleft, fun _ => hbit ▸ hshows, fun h => absurd h Bool.false_ne_true.symm⟩

end Sys2Proof.Machine

open Sys2Proof.Machine in
/-- Settles O42: a line is a bit of its bank's registers; eight lines are refreshed and then follow in turn, and each
leaves the others alone. -/
theorem banksFollowLinesAndCells : Obligations.BanksFollowLinesAndCells := by
  unfold Obligations.BanksFollowLinesAndCells
  intro b l s h hrun
  refine ⟨fun level age hage hpins => ?_, fun level age hdiff hage hpins => ?_,
    fun hwait hout hcell hlatched => ?_⟩
  · have happart : (Reg.DSC_LEVEL_RAW b).apart (Reg.DSC_LEVEL_LEVEL b) := by simp [Fld.apart]
    exact completes_device (fun s => s.edgeAccepted b l level age) (fun s t : State => { s with
      regs := t.regs, sig := t.sig, waking := t.waking, banks := t.banks, nextId := t.nextId, dev := t.dev }) h rfl
      (State.edgeAccepted_short hrun hpins hage) rfl h
      ⟨s.bitOf_setLineBit_same _ _ (show 8 + 8 ≤ 32 by decide) l.isLt, State.setLineBit_apart _ _ _ happart, rfl,
        (RegsBut.refl s _).setFld (Reg.DSC_LEVEL_RAW b) _ List.mem_cons_self⟩
  · obtain ⟨u, hop, hheld, hline, hchanged, hother, hcounts⟩ := State.edgeAccepted_spec hrun hpins hdiff hage
    refine completes_device (fun s => s.edgeAccepted b l level age) (fun s t : State => { s with
      regs := t.regs, sig := t.sig, waking := t.waking, banks := t.banks, nextId := t.nextId, dev := t.dev }) h rfl
      hop rfl (hheld.trans h) ⟨hline, hchanged, hother, fun hen hin => ?_, fun _ => rfl, rfl⟩
    exact hcounts (by rw [State.edgeCounts, hen, hin]; rfl)
  · dsimp only
    obtain ⟨u, hop, hheld, hleft, hgood, hbad⟩ := State.bankRefresh_spec hwait hrun hout hcell hlatched
    refine completes_device (fun s => s.bankRefresh b) (fun s t : State => { s with
      regs := t.regs, sig := t.sig, banks := t.banks, dev := t.dev, waking := t.waking }) h rfl hop rfl
      (hheld.trans h) ⟨hleft, ?_, ⟨fun _ => rfl, rfl⟩, rfl⟩
    split
    case isTrue hok =>
      exact hgood (by rw [State.srcOk, hok.1, hok.2]; rfl)
    case isFalse hok =>
      have hsrc : s.srcOk b l = false := by
        rw [State.srcOk, ← Bool.not_eq_true, Bool.and_eq_true, Bool.not_eq_true']
        exact hok
      obtain ⟨-, hflag, hactive⟩ := hbad hsrc
      exact ⟨hactive, hflag⟩
end

section
/-!
Sluice lists (R177, R183, R326): what the gates of a port leave alone, the entries and cycles of its list, and
  takeovers.
-/

namespace Sys2Proof.Machine

variable {s t : State} {p : Nat}

/-! ## Gates -/

/-- Only registers and queues differ, and what the port shows but its gates and OVERRUN_SEEN is as before, as are the
frames that wait. -/
structure GateSide (s t : State) (p : Nat) : Prop where
  frame : { t with regs := s.regs, queues := s.queues } = s
  frames : ∀ k q, (t.queue k q).frames = (s.queue k q).frames
  list : t.rd (Reg.SWC_P_LIST_STATE p) = s.rd (Reg.SWC_P_LIST_STATE p)
  cycles : t.rd (Reg.SWC_P_LIST_CYCLES p) = s.rd (Reg.SWC_P_LIST_CYCLES p)
  active : t.flag (Reg.SWC_P_STATUS_LIST_ACTIVE p) = s.flag (Reg.SWC_P_STATUS_LIST_ACTIVE p)
  pending : t.flag (Reg.SWC_P_STATUS_LIST_PENDING p) = s.flag (Reg.SWC_P_STATUS_LIST_PENDING p)

namespace GateSide

theorem refl (s : State) (p : Nat) : GateSide s s p := ⟨rfl, fun _ _ => rfl, rfl, rfl, rfl, rfl⟩

theorem trans {u : State} (h : GateSide s t p) (h' : GateSide t u p) : GateSide s u p :=
  ⟨(congrArg (fun x : State => { x with regs := s.regs, queues := s.queues }) h'.frame).trans h.frame,
    fun k q => (h'.frames k q).trans (h.frames k q), h'.list.trans h.list, h'.cycles.trans h.cycles,
    h'.active.trans h.active, h'.pending.trans h.pending⟩

/-- A register that is none of those of the port's list. -/
theorem wr (s : State) {a : Nat} (v : Word) (hstatus : Reg.SWC_P_STATUS p ≠ a) (hlist : Reg.SWC_P_LIST_STATE p ≠ a)
    (hcycles : Reg.SWC_P_LIST_CYCLES p ≠ a) : GateSide s (s.wr a v) p :=
  ⟨rfl, fun _ _ => rfl, s.rd_wr_ne v hlist, s.rd_wr_ne v hcycles, State.flag_wr_ne _ _ hstatus, State.flag_wr_ne _ _
    hstatus⟩

theorem setQueue (s : State) (p k q : Nat) {x : EgressQ} (hx : x.frames = (s.queue k q).frames) :
    GateSide s (s.setQueue k q x) p := by
  refine ⟨rfl, fun j r => ?_, rfl, rfl, rfl, rfl⟩
  unfold State.queue State.setQueue
  by_cases heq : 8 * j + r = 8 * k + q
  · rw [heq, Tbl.get_set_same]
    exact hx
  · rw [Tbl.get_set_ne _ _ _ heq]

theorem foldl {f : State → Nat → State} (ks : List Nat) (h : ∀ t, ∀ k ∈ ks, GateSide t (f t k) p) (s : State) :
    GateSide s (ks.foldl f s) p := by
  induction ks generalizing s with
  | nil => exact refl s p
  | cons k ks ih =>
    exact (h s k List.mem_cons_self).trans (ih (fun t j hj => h t j (List.mem_cons_of_mem _ hj)) (f s k))

end GateSide

theorem State.cbsUpdate_side (s : State) (p q : Nat) : GateSide s (s.cbsUpdate p q) p := by
  refine (GateSide.setQueue s p p q (x :=
    { s.queue p q with credit := s.credit p q, creditAt16 := s.tb.local16 }) rfl).trans
    (GateSide.wr _ (s.creditWord p q) ?_ ?_ ?_)
  · simp only [Reg.SWC_P_STATUS, Reg.SWC_Q_CREDIT]
    omega
  · simp only [Reg.SWC_P_LIST_STATE, Reg.SWC_Q_CREDIT]
    omega
  · simp only [Reg.SWC_P_LIST_CYCLES, Reg.SWC_Q_CREDIT]
    omega

/-- A frame still on the line as its gate closes is counted and flagged. -/
theorem State.overrun_side (s : State) (p : Nat) :
    GateSide s ((s.bump (Reg.SWC_P_GATE_OVERRUN p)).setFld (Reg.SWC_P_STATUS_OVERRUN_SEEN p) 1) p := by
  have hbump : GateSide s (s.bump (Reg.SWC_P_GATE_OVERRUN p)) p := by
    refine GateSide.wr s _ ?_ ?_ ?_
    · simp only [Reg.SWC_P_STATUS, Reg.SWC_P_GATE_OVERRUN]
      omega
    · simp only [Reg.SWC_P_LIST_STATE, Reg.SWC_P_GATE_OVERRUN]
      omega
    · simp only [Reg.SWC_P_LIST_CYCLES, Reg.SWC_P_GATE_OVERRUN]
      omega
  have hlist : Reg.SWC_P_LIST_STATE p ≠ Reg.SWC_P_STATUS p := by
    simp only [Reg.SWC_P_LIST_STATE, Reg.SWC_P_STATUS]
    omega
  have hcycles : Reg.SWC_P_LIST_CYCLES p ≠ Reg.SWC_P_STATUS p := by
    simp only [Reg.SWC_P_LIST_CYCLES, Reg.SWC_P_STATUS]
    omega
  refine hbump.trans ⟨rfl, fun _ _ => rfl, State.rd_setFld_ne _ _ hlist, State.rd_setFld_ne _ _ hcycles, ?_, ?_⟩
  · exact State.flag_setFld_apart _ _ (by simp [Fld.apart])
  · exact State.flag_setFld_apart _ _ (by simp [Fld.apart])

/-- What a change of gates leaves of a port: the entry and the flags of its list, and every frame. -/
structure GatesSet (s t : State) (p g : Nat) : Prop where
  frame : { t with regs := s.regs, queues := s.queues } = s
  frames : ∀ k q, (t.queue k q).frames = (s.queue k q).frames
  gates : t.fld (Reg.SWC_P_LIST_STATE_GATES p) = g
  entry : t.fld (Reg.SWC_P_LIST_STATE_ENTRY p) = s.fld (Reg.SWC_P_LIST_STATE_ENTRY p)
  cycles : t.rd (Reg.SWC_P_LIST_CYCLES p) = s.rd (Reg.SWC_P_LIST_CYCLES p)
  active : t.flag (Reg.SWC_P_STATUS_LIST_ACTIVE p) = s.flag (Reg.SWC_P_STATUS_LIST_ACTIVE p)
  pending : t.flag (Reg.SWC_P_STATUS_LIST_PENDING p) = s.flag (Reg.SWC_P_STATUS_LIST_PENDING p)

theorem GatesSet.port {g : Nat} (h : GatesSet s t p g) (k : Nat) : t.port k = s.port k := by
  have hports := (congrArg State.ports h.frame :)
  rw [State.port, hports, State.port]

theorem GateSide.gatesSet {g : Nat} (h : GateSide s t p) (hg : g < 256) :
    GatesSet s (t.setFld (Reg.SWC_P_LIST_STATE_GATES p) g) p g := by
  have happart : (Reg.SWC_P_LIST_STATE_GATES p).apart (Reg.SWC_P_LIST_STATE_ENTRY p) := by simp [Fld.apart]
  have hcycles : Reg.SWC_P_LIST_CYCLES p ≠ Reg.SWC_P_LIST_STATE p := by
    simp only [Reg.SWC_P_LIST_STATE, Reg.SWC_P_LIST_CYCLES]
    omega
  have hstatus : Reg.SWC_P_STATUS p ≠ Reg.SWC_P_LIST_STATE p := by
    simp only [Reg.SWC_P_LIST_STATE, Reg.SWC_P_STATUS]
    omega
  refine ⟨h.frame, h.frames, ?_, (State.fld_setFld_apart _ _ happart).trans ?_,
    (State.rd_setFld_ne _ _ hcycles).trans h.cycles, (State.flag_wr_ne _ _ hstatus).trans h.active,
    (State.flag_wr_ne _ _ hstatus).trans h.pending⟩
  · rw [State.fld_setFld_same _ _ _ (show 0 + 8 ≤ 32 by decide)]
    exact Nat.mod_eq_of_lt hg
  · rw [State.fld, h.list, State.fld]

theorem State.setGates_spec (s : State) (p : Nat) {g : Nat} (l : Nat) (hg : g < 256) :
    GatesSet s (s.setGates p g l) p g := by
  unfold setGates
  extract_lets old t1 t2 crossed t3
  have h1 : GateSide s t1 p := GateSide.foldl _ (fun t q _ => t.cbsUpdate_side p q) s
  have h2 : GateSide t1 t2 p := GateSide.foldl _ (fun t q _ => by
    split
    · exact GateSide.setQueue t p p q rfl
    · exact GateSide.refl t p) t1
  have h3 : GateSide t2 t3 p := by
    unfold t3
    split
    · exact t2.overrun_side p
    · exact GateSide.refl t2 p
  exact (h1.trans (h2.trans h3)).gatesSet hg

/-! ## Entries and cycles -/

/-- The list of port `p` is at entry `k`: its gates apply, and the other fields of the list are as before. -/
structure AtEntry (s t : State) (p k : Nat) : Prop where
  frame : { t with regs := s.regs, queues := s.queues, ports := s.ports } = s
  list : ∃ e, (t.port p).list = { (s.port p).list with entry := k, end16 := some e }
  gates : t.fld (Reg.SWC_P_LIST_STATE_GATES p) = (s.port p).list.gatesAt k
  entry : t.fld (Reg.SWC_P_LIST_STATE_ENTRY p) = k
  cycles : t.rd (Reg.SWC_P_LIST_CYCLES p) = s.rd (Reg.SWC_P_LIST_CYCLES p)
  active : t.flag (Reg.SWC_P_STATUS_LIST_ACTIVE p) = s.flag (Reg.SWC_P_STATUS_LIST_ACTIVE p)
  pending : t.flag (Reg.SWC_P_STATUS_LIST_PENDING p) = s.flag (Reg.SWC_P_STATUS_LIST_PENDING p)

theorem ListRun.gatesAt_lt (x : ListRun) (k : Nat) : x.gatesAt k < 256 := bits_lt _ _ _

theorem State.listEntry_spec (s : State) (p : Nat) {k : Nat} (l : Nat) (hk : k < 256) :
    AtEntry s (s.listEntry p k l) p k := by
  unfold listEntry
  extract_lets x cycleEnd e src t
  have hcycles : Reg.SWC_P_LIST_CYCLES p ≠ Reg.SWC_P_LIST_STATE p := by
    simp only [Reg.SWC_P_LIST_STATE, Reg.SWC_P_LIST_CYCLES]
    omega
  have hstatus : Reg.SWC_P_STATUS p ≠ Reg.SWC_P_LIST_STATE p := by
    simp only [Reg.SWC_P_LIST_STATE, Reg.SWC_P_STATUS]
    omega
  have hset := (t.setFld (Reg.SWC_P_LIST_STATE_ENTRY p) k).setGates_spec p (g := x.gatesAt k) l (x.gatesAt_lt k)
  refine ⟨(congrArg (fun x : State => { x with regs := s.regs, queues := s.queues, ports := s.ports }) hset.frame :),
    ⟨e, ?_⟩, hset.gates, hset.entry.trans ?_, hset.cycles.trans (State.rd_setFld_ne _ _ hcycles),
    hset.active.trans (State.flag_wr_ne _ _ hstatus), hset.pending.trans (State.flag_wr_ne _ _ hstatus)⟩
  · have hport := hset.port p
    have hlist : (t.setFld (Reg.SWC_P_LIST_STATE_ENTRY p) k).port p = t.port p := rfl
    rw [hport, hlist, State.port_setPort_same]
  · rw [State.fld_setFld_same _ _ _ (show 8 + 8 ≤ 32 by decide)]
    exact Nat.mod_eq_of_lt hk

/-- A cycle starts at entry 0, and counts. -/
structure CycleStarted (s t : State) (p l : Nat) : Prop where
  frame : { t with regs := s.regs, queues := s.queues, ports := s.ports } = s
  list : ∃ e, (t.port p).list = { (s.port p).list with start16 := l, resume := none, entry := 0, end16 := some e }
  gates : t.fld (Reg.SWC_P_LIST_STATE_GATES p) = (s.port p).list.gatesAt 0
  entry : t.fld (Reg.SWC_P_LIST_STATE_ENTRY p) = 0
  cycles : t.rd (Reg.SWC_P_LIST_CYCLES p) = s.rd (Reg.SWC_P_LIST_CYCLES p) + 1
  active : t.flag (Reg.SWC_P_STATUS_LIST_ACTIVE p) = s.flag (Reg.SWC_P_STATUS_LIST_ACTIVE p)
  pending : t.flag (Reg.SWC_P_STATUS_LIST_PENDING p) = s.flag (Reg.SWC_P_STATUS_LIST_PENDING p)

theorem State.listCycle_spec (s : State) (p l : Nat) : CycleStarted s (s.listCycle p l) p l := by
  unfold listCycle
  extract_lets x src t
  have hport : (t.tick (Reg.SWC_P_LIST_CYCLES p)).port p = t.port p := rfl
  have hlist : (t.port p).list = { x with start16 := l, resume := none } :=
    congrArg PortState.list (State.port_setPort_same _ _ _)
  have hstatus : Reg.SWC_P_STATUS p ≠ Reg.SWC_P_LIST_CYCLES p := by
    simp only [Reg.SWC_P_LIST_CYCLES, Reg.SWC_P_STATUS]
    omega
  obtain ⟨hframe, ⟨e, hentered⟩, hgates, hentry, hcycles, hactive, hpending⟩ :=
    (t.tick (Reg.SWC_P_LIST_CYCLES p)).listEntry_spec p (k := 0) l (by decide)
  rw [hport, hlist] at hentered hgates
  exact ⟨(congrArg (fun x : State => { x with regs := s.regs, queues := s.queues, ports := s.ports }) hframe :),
    ⟨e, hentered⟩, hgates, hentry, hcycles.trans (State.rd_wr_same _ _ _),
    hactive.trans (State.flag_wr_ne _ _ hstatus), hpending.trans (State.flag_wr_ne _ _ hstatus)⟩

/-- The next entry of the cycle that runs. -/
theorem State.gateAdvance_next {e : Nat} (hactive : (s.port p).list.active = true)
    (hend : (s.port p).list.end16 = some e) (hdue : e ≤ s.tb.local16) (hresume : (s.port p).list.resume = none)
    (hcount : (s.port p).list.entry + 1 < (s.port p).list.count)
    (hcycle : e < (s.port p).list.start16 + (s.port p).list.cycleNs * 65536) :
    s.gateAdvance p = s.listEntry p ((s.port p).list.entry + 1) e := by
  unfold gateAdvance
  simp [hend, hactive, hdue, hresume, hcount, hcycle]

theorem State.gateAdvance_early {e : Nat} (hend : (s.port p).list.end16 = some e) (hearly : s.tb.local16 < e) :
    s.gateAdvance p = s := by
  unfold gateAdvance
  simp [hend, Nat.not_le.mpr hearly]

theorem ListRun.count_le (x : ListRun) : x.count ≤ 256 := by
  unfold ListRun.count clampTo
  omega

/-! ## Takeovers -/

/-- The list that takes over a port. -/
def ListRun.takenOver (o : ListRun) (words : List (Nat × Word)) (own : Bool) (l : Nat) : ListRun :=
  { ({ words := words } : ListRun) with
    active := true, base := ({ words := words } : ListRun).w 0 3 * 2 ^ 32 + ({ words := words } : ListRun).w 0 2
    start16 := l, pending := o.pending && !own, take := if own then none else o.take, sealedTake := o.sealedTake }

/-- The port and its flags just before the first cycle of a list that takes over in time. -/
def State.takenOver (s : State) (p l : Nat) (words : List (Nat × Word)) (own : Bool) : State :=
  (((s.setPort p { s.port p with list := (s.port p).list.takenOver words own l }).setFld
    (Reg.SWC_P_STATUS_LIST_PENDING p) (if (s.port p).list.pending && !own then 1 else 0)).setFld
    (Reg.SWC_P_STATUS_LIST_ACTIVE p) 1).setFld (Reg.SWC_P_STATUS_TAKEOVER_DONE p) 1

theorem State.listTake_eq (s : State) (p l : Nat) (words : List (Nat × Word)) (own : Bool) (instant : Word) :
    s.listTake p l words false false own instant =
      ((s.takenOver p l words own).postEvent 0x063 p instant).listCycle p l := rfl

theorem State.takenOver_spec (s : State) (p l : Nat) (words : List (Nat × Word)) (own : Bool) :
    (s.takenOver p l words own).flag (Reg.SWC_P_STATUS_LIST_ACTIVE p) = true ∧
      (s.takenOver p l words own).flag (Reg.SWC_P_STATUS_LIST_PENDING p) = ((s.port p).list.pending && !own) ∧
      (s.takenOver p l words own).rd (Reg.SWC_P_LIST_CYCLES p) = s.rd (Reg.SWC_P_LIST_CYCLES p) ∧
      ((s.takenOver p l words own).port p).list = (s.port p).list.takenOver words own l := by
  have hcycles : Reg.SWC_P_LIST_CYCLES p ≠ Reg.SWC_P_STATUS p := by
    simp only [Reg.SWC_P_STATUS, Reg.SWC_P_LIST_CYCLES]
    omega
  have hdoneActive : (Reg.SWC_P_STATUS_TAKEOVER_DONE p).apart (Reg.SWC_P_STATUS_LIST_ACTIVE p) := by simp [Fld.apart]
  have hdonePending : (Reg.SWC_P_STATUS_TAKEOVER_DONE p).apart (Reg.SWC_P_STATUS_LIST_PENDING p) := by
    simp [Fld.apart]
  have hactivePending : (Reg.SWC_P_STATUS_LIST_ACTIVE p).apart (Reg.SWC_P_STATUS_LIST_PENDING p) := by
    simp [Fld.apart]
  refine ⟨?_, ?_, ?_, ?_⟩
  · exact (State.flag_setFld_apart _ _ hdoneActive).trans
      (State.flag_setFld_one _ _ rfl (show 25 + 1 ≤ 32 by decide))
  · refine (State.flag_setFld_apart _ _ hdonePending).trans ((State.flag_setFld_apart _ _ hactivePending).trans ?_)
    split
    case isTrue h => exact (State.flag_setFld_one _ _ rfl (show 24 + 1 ≤ 32 by decide)).trans h.symm
    case isFalse h =>
      exact (State.flag_setFld_zero _ _ (show 24 + 1 ≤ 32 by decide)).trans (Bool.eq_false_of_not_eq_true h).symm
  · exact (State.rd_setFld_ne _ _ hcycles).trans
      ((State.rd_setFld_ne _ _ hcycles).trans (State.rd_setFld_ne _ _ hcycles))
  · exact congrArg PortState.list (State.port_setPort_same _ _ _)

/-- A takeover that is due: sealed, or of the pending list at its disciplined time. -/
theorem State.takeNow_due {x : Takeover} {own : Bool}
    (h : (∃ l, (s.port p).list.sealedTake = some { at16 := l, take := x, own := own } ∧ l ≤ s.tb.local16) ∨
      ((s.port p).list.sealedTake = none ∧ own = true ∧ (s.port p).list.pending = true ∧
        (s.port p).list.take = some x ∧ x.due * 65536 ≤ s.disc16)) : s.takeNow p = some (x, own) := by
  unfold takeNow
  rcases h with ⟨l, hsealed, hl⟩ | ⟨hsealed, hown, hpending, htake, hdue⟩
  · simp [hsealed, hl]
  · simp [hsealed, hown, hpending, htake, hdue]

/-- The state in which a due takeover begins. -/
def State.unsealed (s : State) (p : Nat) : State :=
  s.setPort p { s.port p with list := { (s.port p).list with sealedTake := none } }

theorem State.sluiceCycle_due {x : Takeover} {own : Bool} (h : s.takeNow p = some (x, own)) (hlate : x.late = false) :
    s.sluiceCycle p =
      (s.unsealed p).listTake p s.tb.local16 x.words false false own (BitVec.ofInt 32 x.due) := by
  unfold sluiceCycle
  simp only [h, hlate]
  rfl

theorem State.postEvent_port (s : State) (code src : Nat) (data : Word) (k : Nat) :
    (s.postEvent code src data).port k = s.port k := rfl

/-- The port before the first cycle of a list that takes over in time differs in registers and in its list alone. -/
theorem State.takenOver_frame (s : State) (p l : Nat) (words : List (Nat × Word)) (own : Bool) :
    ((s.unsealed p).takenOver p l words own).eqs = s.eqs ∧ ((s.unsealed p).takenOver p l words own).mem = s.mem ∧
      ((s.unsealed p).takenOver p l words own).tbl = s.tbl ∧ (s.unsealed p).regs = s.regs := ⟨rfl, rfl, rfl, rfl⟩

/-- A takeover in time: the new list is active, at entry 0 of its first cycle. -/
theorem State.sluiceCycle_spec {x : Takeover} {own : Bool} (hp : p < 22) (h : s.takeNow p = some (x, own))
    (hlate : x.late = false) :
    ∃ u : State, s.sluiceCycle p = u ∧ (u.port p).list.active = true ∧ (u.port p).list.sealedTake = none ∧
      (u.port p).list.pending = ((s.port p).list.pending && !own) ∧ (u.port p).list.entry = 0 ∧
      (u.port p).list.start16 = s.tb.local16 ∧ (u.port p).list.words = x.words ∧
      u.fld (Reg.SWC_P_LIST_STATE_GATES p) = bits (Tbl.get tblDefault x.words 4).toNat 0 8 ∧
      u.fld (Reg.SWC_P_LIST_STATE_ENTRY p) = 0 ∧ u.flag (Reg.SWC_P_STATUS_LIST_ACTIVE p) = true ∧
      u.flag (Reg.SWC_P_STATUS_LIST_PENDING p) = ((s.port p).list.pending && !own) ∧
      u.rd (Reg.SWC_P_LIST_CYCLES p) = s.rd (Reg.SWC_P_LIST_CYCLES p) + 1 ∧
      Posts s u 0x063 p (BitVec.ofInt 32 x.due) := by
  refine ⟨_, (State.sluiceCycle_due h hlate).trans (State.listTake_eq _ _ _ _ _ _), ?_⟩
  have hlist : ((s.unsealed p).port p).list = { (s.port p).list with sealedTake := none } :=
    congrArg PortState.list (State.port_setPort_same _ _ _)
  obtain ⟨hactive, hpending, hcycles, htaken⟩ := (s.unsealed p).takenOver_spec p s.tb.local16 x.words own
  rw [hlist] at hpending htaken
  obtain ⟨heqs, hmem, htbl, hregs⟩ := s.takenOver_frame p s.tb.local16 x.words own
  have hcycles0 : (s.unsealed p).rd (Reg.SWC_P_LIST_CYCLES p) = s.rd (Reg.SWC_P_LIST_CYCLES p) := by
    rw [State.rd, hregs, State.rd]
  generalize (s.unsealed p).takenOver p s.tb.local16 x.words own = t at *
  have hposts : Posts s (t.postEvent 0x063 p (BitVec.ofInt 32 x.due)) 0x063 p (BitVec.ofInt 32 x.due) :=
    postEvent_eqs_congr s heqs hmem htbl _ _ _
  have hport : (t.postEvent 0x063 p (BitVec.ofInt 32 x.due)).port p = t.port p := State.postEvent_port _ _ _ _ _
  have hlow : Reg.SWC_P_STATUS p < 0x3000000 ∧ Reg.SWC_P_LIST_CYCLES p < 0x3000000 := by
    simp only [Reg.SWC_P_STATUS, Reg.SWC_P_LIST_CYCLES]
    omega
  have hactive' : (t.postEvent 0x063 p (BitVec.ofInt 32 x.due)).flag (Reg.SWC_P_STATUS_LIST_ACTIVE p) = true := by
    rw [State.flag, State.fld, State.postEvent_rd _ _ _ _ hlow.1]
    exact hactive
  have hpending' : (t.postEvent 0x063 p (BitVec.ofInt 32 x.due)).flag (Reg.SWC_P_STATUS_LIST_PENDING p) =
      ((s.port p).list.pending && !own) := by
    rw [State.flag, State.fld, State.postEvent_rd _ _ _ _ hlow.1]
    exact hpending
  have hcycles' := (State.postEvent_rd t 0x063 p (BitVec.ofInt 32 x.due) hlow.2).trans (hcycles.trans hcycles0)
  rw [← hport] at htaken
  generalize t.postEvent 0x063 p (BitVec.ofInt 32 x.due) = v at *
  obtain ⟨hframe, ⟨e, hstarted⟩, hgates, hentry, hcount, hact, hpend⟩ := v.listCycle_spec p s.tb.local16
  have heqs' : (v.listCycle p s.tb.local16).eqs = v.eqs := (congrArg State.eqs hframe :)
  rw [htaken] at hstarted hgates
  refine ⟨?_, ?_, ?_, ?_, ?_, ?_, hgates, hentry, hact.trans hactive', hpend.trans hpending', hcount.trans ?_,
    heqs'.trans hposts⟩
  · rw [hstarted]
    rfl
  · rw [hstarted]
    rfl
  · rw [hstarted]
    rfl
  · rw [hstarted]
  · rw [hstarted]
  · rw [hstarted]
    rfl
  · rw [hcycles']

/-! ## ARM and STOP -/

/-- STOP: the gates open, and what could still be cancelled is. -/
theorem State.listStop_spec (s : State) (p : Nat) :
    ∃ u : State, s.listStop p = u ∧ (u.port p).list.active = false ∧ (u.port p).list.take = none ∧
      u.fld (Reg.SWC_P_LIST_STATE_GATES p) = 255 ∧ u.fld (Reg.SWC_P_LIST_STATE_ENTRY p) = 0 ∧
      u.flag (Reg.SWC_P_STATUS_LIST_ACTIVE p) = false ∧ ∀ k q, (u.queue k q).frames = (s.queue k q).frames := by
  refine ⟨_, rfl, ?_⟩
  unfold listStop
  extract_lets r src x t t1 t2
  have hlist : (t2.port p).list.active = false ∧ (t2.port p).list.take = none := by
    have hport : t2.port p = t.port p := rfl
    rw [hport, State.port_setPort_same]
    exact ⟨rfl, rfl⟩
  have hqueues : t2.queues = s.queues := by
    show (s.listSeal s p).queues = s.queues
    unfold listSeal
    split <;> rfl
  have hentry : t2.fld (Reg.SWC_P_LIST_STATE_ENTRY p) = 0 :=
    State.fld_setFld_same _ _ _ (show 8 + 8 ≤ 32 by decide)
  have hstatus : Reg.SWC_P_STATUS p ≠ Reg.SWC_P_LIST_STATE p := by
    simp only [Reg.SWC_P_LIST_STATE, Reg.SWC_P_STATUS]
    omega
  have hactive : t2.flag (Reg.SWC_P_STATUS_LIST_ACTIVE p) = false :=
    (State.flag_wr_ne _ _ hstatus).trans (State.flag_setFld_zero _ _ (show 25 + 1 ≤ 32 by decide))
  clear_value t2
  have hset := t2.setGates_spec p (g := 0xFF) t2.tb.local16 (by decide)
  have hport := hset.port p
  refine ⟨by rw [hport]; exact hlist.1, by rw [hport]; exact hlist.2, hset.gates, hset.entry.trans hentry,
    hset.active.trans hactive, fun k q => (hset.frames k q).trans ?_⟩
  rw [State.queue, hqueues, State.queue]

/-- The takeover that ARM requests. -/
def State.armedTake (s : State) (p : Nat) : Takeover :=
  let due := gridStart (s.pendBase p) (s.pendCycle p) (ceilNs (s.disc16At s.tb.local16))
  { due := due, late := decide (due ≠ s.pendBase p), words := s.pendWords p }

theorem State.listArm_spec (hact : s.pendAction p = false) (hpending : (s.port p).list.pending = true) :
    ∃ u : State, s.listArm p = u ∧ (u.port p).list.take = some (s.armedTake p) ∧
      (u.port p).list.active = (s.port p).list.active ∧ u.regs = s.regs := by
  refine ⟨s.setPort p { s.port p with list := { (s.port p).list with take := some (s.armedTake p) } },
    (if_neg (by rw [hact]; exact Bool.false_ne_true)).trans (if_pos hpending), ?_, ?_, rfl⟩
  · rw [State.port_setPort_same]
  · rw [State.port_setPort_same]

end Sys2Proof.Machine

open Sys2Proof.Machine in
/-- Settles O45: a list moves by entries; each sets the gates of its port, which touch no frame, and a cycle and a
takeover begin with entry 0. -/
theorem sluiceListsRun : Obligations.SluiceListsRun := by
  unfold Obligations.SluiceListsRun
  intro p port s
  refine ⟨fun h => ⟨fun hact => ?_, fun hact hpending => ?_, ?_⟩, fun x own h hlate htake => ?_,
    fun e h hactive hend => ⟨fun hearly => ?_, fun hdue hresume hcount hcycle => ?_⟩⟩
  · exact exec_of_completes (completes_onWrite (fun s t : State => { s with regs := t.regs, ports := t.ports }) h rfl
      (fun _ => ⟨rfl, rfl⟩) (if_pos hact) rfl)
  · obtain ⟨u, hop, htake, hactive, hregs⟩ := State.listArm_spec hact hpending
    exact completes_onWrite (fun s t : State => { s with regs := t.regs, ports := t.ports }) h rfl
      (fun _ => ⟨rfl, rfl⟩) hop ⟨htake, hactive, by rw [hregs]⟩
  · obtain ⟨u, hop, hactive, htake, hgates, hentry, hflag, hframes⟩ := s.listStop_spec port
    exact completes_onWrite
      (fun s t : State => { s with regs := t.regs, queues := t.queues, ports := t.ports }) h rfl
      (fun _ => ⟨rfl, rfl⟩) hop ⟨hactive, htake, hgates, hentry, hflag, fun k q => hframes k q⟩
  · obtain ⟨u, hop, hspec⟩ := State.sluiceCycle_spec port.isLt (State.takeNow_due htake) hlate
    exact completes_framed (fun s => s.sluiceCycle port) (fun s t : State => { s with
      regs := t.regs, eqs := t.eqs, out := t.out, queues := t.queues, ports := t.ports }) h rfl
      (fun _ => ⟨rfl, rfl⟩) hop hspec
  · exact exec_of_completes (completes_framed (fun s => s.gateAdvance port) (fun s t : State => { s with
      regs := t.regs, queues := t.queues, ports := t.ports }) h rfl (fun _ => ⟨rfl, rfl⟩)
      (State.gateAdvance_early hend hearly) rfl)
  · have hk : (s.port port).list.entry + 1 < 256 := Nat.lt_of_lt_of_le hcount (ListRun.count_le _)
    have hspec := s.listEntry_spec port (k := (s.port port).list.entry + 1) e hk
    obtain ⟨i, hlist⟩ := hspec.list
    exact completes_framed (fun s => s.gateAdvance port) (fun s t : State => { s with
      regs := t.regs, queues := t.queues, ports := t.ports }) h rfl (fun _ => ⟨rfl, rfl⟩)
      (State.gateAdvance_next hactive hend hdue hresume hcount hcycle)
      ⟨congrArg ListRun.entry hlist, hspec.entry, hspec.gates, rfl, rfl⟩
end

section
/-!
Inbound cycles of the local bus bridge (R392, R393) and its interrupt lines (R394).
-/

namespace Sys2Proof.Machine

variable {s t : State}

/-! ## Inbound cycles -/

/-- The word that an inbound write leaves. -/
def State.inboundWord (s : State) (w be : Nat) (data : Word) : Word :=
  mergeBe (farBe (s.flag Reg.LBB_CTRL_IN_ORDER) be) (s.memWord (inMem w)) (farWord (s.flag Reg.LBB_CTRL_IN_ORDER) data)

/-- A write of the inbound memory. -/
theorem State.inboundServe_write (s : State) (w be : Nat) (data : Word) :
    (s.inboundServe true w be data).memWord (inMem w) = s.inboundWord w be data ∧
      ∀ k, k < inMem w ∨ inMem w + 4 ≤ k → (s.inboundServe true w be data).byte k = s.byte k := by
  have hmem : (s.inboundServe true w be data).mem =
      ((s.tick Reg.LBB_IN_CNT).setMemWord (inMem w) (s.inboundWord w be data)).mem := by
    unfold inboundServe
    dsimp only
    rw [if_pos rfl]
    split
    · rfl
    · rfl
  have hbyte : ∀ k, (s.inboundServe true w be data).byte k =
      ((s.tick Reg.LBB_IN_CNT).setMemWord (inMem w) (s.inboundWord w be data)).byte k := fun k => by
    rw [byte, hmem, byte]
  refine ⟨?_, fun k hk => (hbyte k).trans (State.byte_setMemWord_out _ _ hk)⟩
  rw [memWord, bytes, hmem]
  exact State.memWord_setMemWord _ _ _

/-- What every inbound cycle leaves alone: all registers but its own count, and the bridge. -/
theorem State.inboundServe_side (s : State) (write : Bool) (w be : Nat) (data : Word) :
    (∀ a < 0x3000000, (s.inboundServe write w be data).rd a = (s.tick Reg.LBB_IN_CNT).rd a) ∧
      (s.inboundServe write w be data).bridge = s.bridge ∧ (s.inboundServe write w be data).flash = s.flash := by
  unfold inboundServe
  dsimp only
  split
  · split
    · exact ⟨fun a h => State.postEvent_rd _ _ _ _ h, rfl, rfl⟩
    · exact ⟨fun _ _ => rfl, rfl, rfl⟩
  · exact ⟨fun _ _ => rfl, rfl, rfl⟩

/-- The bridge gives way to a far master. -/
def State.givesWay (s : State) : State := (s.bump Reg.LBB_RETRY_CNT).setFld Reg.LBB_STATUS_RETRY_SEEN 1

/-- What a far master sees of a cycle that is served. -/
structure Served (s t : State) (c : FarCycle) : Prop where
  stored : c.write = true → t.memWord (inMem c.word.toNat) = s.inboundWord c.word.toNat c.be.toNat c.data ∧
    ∀ k, k < inMem c.word.toNat ∨ inMem c.word.toNat + 4 ≤ k → t.byte k = s.byte k
  answered : c.write = false → t.out = s.out ++
    [.farReply (farWord (s.flag Reg.LBB_CTRL_IN_ORDER) (s.memWord (inMem c.word.toNat)))] ∧ SameBytes s t
  flash : t.flash = s.flash
  count : t.rd Reg.LBB_IN_CNT = s.rd Reg.LBB_IN_CNT + 1

theorem State.inboundServe_served (s : State) (c : FarCycle) :
    Served s (s.inboundServe c.write c.word.toNat c.be.toNat c.data) c := by
  obtain ⟨hregs, -, hflash⟩ := s.inboundServe_side c.write c.word.toNat c.be.toNat c.data
  refine ⟨fun h => ?_, fun h => ?_, hflash, (hregs _ (by decide)).trans (State.rd_wr_same _ _ _)⟩
  · rw [h]
    exact s.inboundServe_write _ _ _
  · rw [h]
    exact ⟨rfl, fun _ => rfl, rfl⟩

theorem Served.givesWay {c : FarCycle} (h : Served s.givesWay t c) : Served s t c := by
  have horder : s.givesWay.flag Reg.LBB_CTRL_IN_ORDER = s.flag Reg.LBB_CTRL_IN_ORDER :=
    (State.flag_setFld_apart _ _ (by simp [Fld.apart])).trans (State.flag_wr_ne _ _ (by decide))
  have hcount : s.givesWay.rd Reg.LBB_IN_CNT = s.rd Reg.LBB_IN_CNT := by
    rw [State.givesWay, State.rd_setFld_ne _ _ (by decide), State.rd_bump_ne _ (by decide)]
  obtain ⟨hstored, hanswered, hflash, hcnt⟩ := h
  rw [State.inboundWord, horder] at hstored
  rw [horder] at hanswered
  exact ⟨hstored, hanswered, hflash, hcnt.trans (congrArg (· + 1) hcount)⟩

/-- A cycle is served, whether or not the bridge gives way. -/
theorem State.inbound_spec {c : FarCycle} (hrun : s.flag Reg.LBB_BSTAT_RUN = true)
    (hen : s.flag Reg.LBB_CTRL_EN = true) (hin : s.flag Reg.LBB_CTRL_IN_EN = true) (hphase : s.bridge.phase ≠ .owned) :
    ∃ u : State, s.inbound c.write c.word.toNat c.be.toNat c.data = u ∧ Served s u c ∧
      (s.bridge.phase = .requesting → u.rd Reg.LBB_RETRY_CNT = satInc (s.rd Reg.LBB_RETRY_CNT) ∧
        u.flag Reg.LBB_STATUS_RETRY_SEEN = true ∧
        u.bridge.phase = .backoff (s.tb.local16 + min 64 (2 ^ s.bridge.retries) * 65536000)) := by
  unfold inbound
  rw [hrun, hen, hin]
  refine ⟨_, if_pos rfl, ?_⟩
  cases hp : s.bridge.phase
  case owned => exact absurd hp hphase
  case requesting =>
    obtain ⟨hregs, -, -⟩ := s.givesWay.inboundServe_side c.write c.word.toNat c.be.toNat c.data
    have hserved := s.givesWay.inboundServe_served c
    have hretry : s.givesWay.rd Reg.LBB_RETRY_CNT = satInc (s.rd Reg.LBB_RETRY_CNT) := by
      rw [State.givesWay, State.rd_setFld_ne _ _ (by decide), State.rd_bump_same]
    have hseen : s.givesWay.flag Reg.LBB_STATUS_RETRY_SEEN = true :=
      State.flag_setFld_one _ _ rfl (show 1 + 1 ≤ 32 by decide)
    refine ⟨?_, fun _ => ⟨?_, ?_, rfl⟩⟩
    · exact ⟨hserved.givesWay.stored, hserved.givesWay.answered, hserved.givesWay.flash, hserved.givesWay.count⟩
    · exact (hregs _ (by decide)).trans ((State.rd_tick_ne _ (by decide)).trans hretry)
    · have hstatus := (hregs Reg.LBB_STATUS (by decide)).trans (State.rd_tick_ne _ (by decide))
      exact (congrArg (fun w : Word => getBits w 1 1 == 1) hstatus).trans hseen
  case idle => exact ⟨s.inboundServe_served c, fun h => absurd h (by simp)⟩
  case backoff => exact ⟨s.inboundServe_served c, fun h => absurd h (by simp)⟩

theorem State.inbound_off (c : FarCycle) (hin : s.flag Reg.LBB_CTRL_IN_EN = false) :
    s.inbound c.write c.word.toNat c.be.toNat c.data = s :=
  if_neg (by rw [hin, Bool.and_false]; exact Bool.false_ne_true)

/-! ## Interrupt lines -/

/-- A flag is a bit of its register. -/
theorem State.bitOf_rd (s : State) (a k : Nat) : bitOf (s.rd a).toNat k = s.flag ⟨a, k, 1⟩ := rfl

/-- What the change of a line leaves alone: all but its level, the events and the write of its cell. -/
structure LineSide (s t : State) : Prop where
  frame : { t with regs := s.regs, eqs := s.eqs, out := s.out, sig := s.sig, nextId := s.nextId } = s
  config : t.rd Reg.LBB_INT_CFG = s.rd Reg.LBB_INT_CFG

theorem State.lineChanged_spec (s : State) {l : Nat} (active : Bool) (hl : l < 16) :
    LineSide s (s.lineChanged l active) ∧ bitOf ((s.lineChanged l active).rd Reg.LBB_INT_LEVEL).toNat l = active ∧
      ∀ k < 16, k ≠ l →
        bitOf ((s.lineChanged l active).rd Reg.LBB_INT_LEVEL).toNat k = bitOf (s.rd Reg.LBB_INT_LEVEL).toNat k := by
  have hsplit : ∃ x N, s.lineChanged l active =
      { (s.setFld ⟨Reg.LBB_INT_LEVEL, l, 1⟩ (if active then 1 else 0)).postEvent 0x091 l (w32 (if active then 1 else 0))
        with sig := x, nextId := N } := by
    unfold lineChanged
    extract_lets v t1 t2
    split
    · exact ⟨_, _, rfl⟩
    · exact ⟨_, _, rfl⟩
  obtain ⟨x, N, hop⟩ := hsplit
  rw [hop]
  have hrd : ∀ a < 0x3000000, ((s.setFld ⟨Reg.LBB_INT_LEVEL, l, 1⟩ (if active then 1 else 0)).postEvent 0x091 l
      (w32 (if active then 1 else 0))).rd a = (s.setFld ⟨Reg.LBB_INT_LEVEL, l, 1⟩ (if active then 1 else 0)).rd a :=
    fun a ha => State.postEvent_rd _ _ _ _ ha
  refine ⟨⟨rfl, (hrd _ (by decide)).trans
    (State.rd_setFld_ne _ _ (show Reg.LBB_INT_CFG ≠ Reg.LBB_INT_LEVEL by decide))⟩, ?_, fun k hk hkl => ?_⟩
  · refine (congrArg (fun w : Word => bitOf w.toNat l) (hrd Reg.LBB_INT_LEVEL (by decide))).trans ?_
    rw [State.bitOf_rd]
    cases active
    · exact State.flag_setFld_zero _ _ (show l + 1 ≤ 32 by omega)
    · exact State.flag_setFld_one _ _ rfl (show l + 1 ≤ 32 by omega)
  · refine (congrArg (fun w : Word => bitOf w.toNat k) (hrd Reg.LBB_INT_LEVEL (by decide))).trans ?_
    rw [State.bitOf_rd, State.bitOf_rd]
    refine State.flag_setFld_apart _ _ ?_
    simp only [Fld.apart]
    omega

/-- The level that a line shows active at a poll. -/
def State.lineLevelAt (s : State) (levels l : Nat) : Bool := bitOf levels l != bitOf (s.fld Reg.LBB_INT_CFG_POL) l
def State.lineEnabled (s : State) (l : Nat) : Bool := bitOf (s.fld Reg.LBB_INT_CFG_EN) l

/-- One line at a poll. -/
def State.linePolled (levels : Nat) (s : State) (l : Nat) : State :=
  if s.lineEnabled l && (s.lineLevelAt levels l != bitOf (s.rd Reg.LBB_INT_LEVEL).toNat l) then
    s.lineChanged l (s.lineLevelAt levels l)
  else s

theorem State.intPoll_eq {levels : Nat} (hrun : s.flag Reg.LBB_BSTAT_RUN = true) (hen : s.flag Reg.LBB_CTRL_EN = true)
    (hdue : s.bridge.poll16 + s.pollUs * 65536000 ≤ s.tb.local16) :
    s.intPoll levels = (List.range 16).foldl (State.linePolled levels)
      { s with bridge := { s.bridge with poll16 := s.tb.local16 } } := by
  rw [← show us16 = 65536000 from rfl] at hdue
  refine if_pos ?_
  rw [hrun, hen, decide_eq_true hdue]
  rfl

theorem LineSide.trans {u : State} (h : LineSide s t) (h' : LineSide t u) : LineSide s u :=
  ⟨(congrArg (fun x : State => { x with
      regs := s.regs, eqs := s.eqs, out := s.out, sig := s.sig, nextId := s.nextId }) h'.frame).trans h.frame,
    h'.config.trans h.config⟩

theorem LineSide.enabled (h : LineSide s t) (l : Nat) : t.lineEnabled l = s.lineEnabled l := by
  rw [State.lineEnabled, State.fld, h.config, State.lineEnabled, State.fld]

theorem LineSide.level (h : LineSide s t) (levels l : Nat) : t.lineLevelAt levels l = s.lineLevelAt levels l := by
  rw [State.lineLevelAt, State.fld, h.config, State.lineLevelAt, State.fld]

theorem State.linePolled_side (s : State) (levels : Nat) {l : Nat} (hl : l < 16) :
    LineSide s (s.linePolled levels l) := by
  unfold linePolled
  split
  · exact (s.lineChanged_spec _ hl).1
  · exact ⟨rfl, rfl⟩

/-- Another line shows what it showed. -/
theorem State.linePolled_other (s : State) (levels : Nat) {l k : Nat} (hl : l < 16) (hk : k < 16) (h : k ≠ l) :
    bitOf ((s.linePolled levels l).rd Reg.LBB_INT_LEVEL).toNat k = bitOf (s.rd Reg.LBB_INT_LEVEL).toNat k := by
  unfold linePolled
  split
  · exact (s.lineChanged_spec _ hl).2.2 k hk h
  · rfl

/-- A line that is enabled shows its level after its poll; one that is not, what it showed. -/
theorem State.linePolled_same (s : State) (levels : Nat) {l : Nat} (hl : l < 16) :
    bitOf ((s.linePolled levels l).rd Reg.LBB_INT_LEVEL).toNat l =
      if s.lineEnabled l then s.lineLevelAt levels l else bitOf (s.rd Reg.LBB_INT_LEVEL).toNat l := by
  unfold linePolled
  cases hen : s.lineEnabled l
  · rfl
  · by_cases hsame : s.lineLevelAt levels l = bitOf (s.rd Reg.LBB_INT_LEVEL).toNat l
    · rw [hsame, bne_self_eq_false]
      rfl
    · rw [bne_iff_ne.mpr hsame]
      exact (s.lineChanged_spec _ hl).2.1

theorem State.lines_polled (s : State) (levels : Nat) (ls : List Nat) (hls : ∀ l ∈ ls, l < 16) (hnodup : ls.Nodup) :
    LineSide s (ls.foldl (State.linePolled levels) s) ∧ ∀ l < 16,
      bitOf ((ls.foldl (State.linePolled levels) s).rd Reg.LBB_INT_LEVEL).toNat l =
        if l ∈ ls ∧ s.lineEnabled l = true then s.lineLevelAt levels l else bitOf (s.rd Reg.LBB_INT_LEVEL).toNat l := by
  induction ls generalizing s with
  | nil => exact ⟨⟨rfl, rfl⟩, fun l _ => by simp⟩
  | cons k ks ih =>
    obtain ⟨hk, hks⟩ := List.nodup_cons.mp hnodup
    have hk16 := hls k List.mem_cons_self
    have hside := s.linePolled_side levels hk16
    obtain ⟨hrest, hlines⟩ := ih (s.linePolled levels k) (fun l hl => hls l (List.mem_cons_of_mem _ hl)) hks
    refine ⟨hside.trans hrest, fun l hl => (hlines l hl).trans ?_⟩
    rw [hside.enabled, hside.level]
    by_cases heq : l = k
    · rw [heq, s.linePolled_same levels hk16]
      simp [hk]
    · rw [s.linePolled_other levels hk16 hl heq]
      simp [heq]

end Sys2Proof.Machine

open Sys2Proof.Machine in
/-- Settles O53: an inbound cycle is served whether or not the bridge gives way to it; the lines of a poll are sampled
  in
turn, and each changes its own bit alone. -/
theorem inboundCyclesAndLines : Obligations.InboundCyclesAndLines := by
  unfold Obligations.InboundCyclesAndLines
  intro c levels s h hrun hen
  refine ⟨fun hin hphase => ?_, fun hin => ?_, fun hdue => ?_⟩
  · obtain ⟨u, hop, hserved, hretry⟩ := State.inbound_spec (c := c) hrun hen hin hphase
    obtain ⟨hstored, hanswered, hflash, hcount⟩ := hserved
    have hdone : ∀ {P : State → Prop}, P { s with
        regs := u.regs, mem := u.mem, eqs := u.eqs, out := u.out, bridge := u.bridge } →
        Completes (.inboundCycle c) s P := fun hP =>
      completes_framed (fun s => s.inbound c.write c.word.toNat c.be.toNat c.data) (fun s t : State => { s with
        regs := t.regs, mem := t.mem, eqs := t.eqs, out := t.out, bridge := t.bridge }) h rfl
        (fun _ => ⟨rfl, rfl⟩) hop hP
    refine ⟨fun hwrite => hdone ⟨(hstored hwrite).1, (hstored hwrite).2, rfl, hcount⟩,
      fun hread => hdone ⟨(hanswered hread).1, ⟨(hanswered hread).2.1, rfl⟩, hcount⟩,
      fun hreq => hdone (hretry hreq)⟩
  · exact exec_of_completes (completes_framed (fun s => s.inbound c.write c.word.toNat c.be.toNat c.data)
      (fun s t : State => { s with
        regs := t.regs, mem := t.mem, eqs := t.eqs, out := t.out, bridge := t.bridge }) h rfl
      (fun _ => ⟨rfl, rfl⟩) (State.inbound_off c hin) rfl)
  · obtain ⟨hside, hlines⟩ := State.lines_polled { s with bridge := { s.bridge with poll16 := s.tb.local16 } }
      levels.toNat (List.range 16) (fun l hl => List.mem_range.mp hl) List.nodup_range
    refine completes_framed (fun s => s.intPoll levels.toNat) (fun s t : State => { s with
      regs := t.regs, eqs := t.eqs, out := t.out, sig := t.sig, bridge := t.bridge, nextId := t.nextId }) h rfl
      (fun _ => ⟨rfl, rfl⟩) (State.intPoll_eq hrun hen hdue) ⟨fun l => ?_, (congrArg State.bridge hside.frame :),
        fun _ => rfl, rfl⟩
    refine (hlines l l.isLt).trans ?_
    simp only [List.mem_range, l.isLt, true_and]
    rfl
end

section
/-!
Key slots (R400 to R403, R406, R407): the commands of CPH_KEY_CMD, the end of an old key, and the usage limits.
-/

namespace Sys2Proof.Machine

variable {s t : State} {k : Nat}

/-! ## The key data are cleared -/

theorem State.clearKeyData_rd_ne (s : State) {a : Nat} (h : a < Reg.CPH_KEY_FIXED ∨ 0x170030 ≤ a) :
    s.clearKeyData.rd a = s.rd a := by
  have hdata : ∀ (js : List Nat), (∀ j ∈ js, j < 8) → ∀ t : State,
      (js.foldl (fun t j => t.wr (Reg.CPH_KEY_DATA j) 0) t).rd a = t.rd a := fun js => by
    induction js with
    | nil => exact fun _ _ => rfl
    | cons j js ih =>
      intro hjs t
      have hj := hjs j List.mem_cons_self
      refine (ih (fun i hi => hjs i (List.mem_cons_of_mem _ hi)) _).trans (t.rd_wr_ne _ ?_)
      simp only [Reg.CPH_KEY_DATA, Reg.CPH_KEY_FIXED] at *
      omega
  unfold clearKeyData
  rw [State.rd_wr_ne _ _ (by simp only [Reg.CPH_KEY_FIXED] at *; omega),
    hdata _ (fun j hj => List.mem_range.mp hj)]

theorem State.clearKeyData_data (s : State) (j : Fin 8) : s.clearKeyData.rd (Reg.CPH_KEY_DATA j) = 0 := by
  have hfixed : Reg.CPH_KEY_DATA j ≠ Reg.CPH_KEY_FIXED := by
    simp only [Reg.CPH_KEY_DATA, Reg.CPH_KEY_FIXED]
    omega
  unfold clearKeyData
  rw [State.rd_wr_ne _ _ hfixed]
  refine (foldl_reaches (Q := fun _ => True) (R := fun t => t.rd (Reg.CPH_KEY_DATA j) = 0) (l := j)
    (fun _ _ _ => trivial) (fun t _ => t.rd_wr_same _ _) (fun t i hi hr => ?_) _ (List.mem_range.mpr j.isLt) s
    trivial).2
  refine (t.rd_wr_ne _ ?_).trans hr
  simp only [Reg.CPH_KEY_DATA]
  omega

/-- What a command shows of slot `k` before the key data are cleared, it shows after. -/
structure SlotView (s t : State) (k : Nat) : Prop where
  slot : t.slot k = s.slot k
  regs : ∀ a, Reg.CPH_SLOT_STATE k ≤ a → a < Reg.CPH_SLOT_STATE k + 0x20 → t.rd a = s.rd a

theorem State.clearKeyData_view (s : State) (k : Nat) : SlotView s s.clearKeyData k := by
  refine ⟨rfl, fun a ha _ => s.clearKeyData_rd_ne (Or.inr ?_)⟩
  simp only [Reg.CPH_SLOT_STATE] at ha
  omega

namespace SlotView

theorem slotFld (h : SlotView s t k) (lsb w : Nat) :
    t.fld ⟨Reg.CPH_SLOT_STATE k, lsb, w⟩ = s.fld ⟨Reg.CPH_SLOT_STATE k, lsb, w⟩ := by
  rw [State.fld, h.regs _ (Nat.le_refl _) (by omega), State.fld]

theorem state (h : SlotView s t k) : t.slotState k = s.slotState k := h.slotFld 0 2
theorem gen (h : SlotView s t k) : t.slotGen k = s.slotGen k := h.slotFld 16 16

theorem flag (h : SlotView s t k) (lsb : Nat) :
    t.flag ⟨Reg.CPH_SLOT_STATE k, lsb, 1⟩ = s.flag ⟨Reg.CPH_SLOT_STATE k, lsb, 1⟩ :=
  congrArg (· == 1) (h.slotFld lsb 1)

theorem count (h : SlotView s t k) : t.slotCount k = s.slotCount k := by
  rw [State.slotCount, State.rd64, h.regs _ (by simp only [Reg.CPH_SLOT_STATE, Reg.CPH_SLOT_CNT_LO]; omega)
    (by simp only [Reg.CPH_SLOT_STATE, Reg.CPH_SLOT_CNT_LO]; omega),
    h.regs (Reg.CPH_SLOT_CNT_LO k + 4) (by simp only [Reg.CPH_SLOT_STATE, Reg.CPH_SLOT_CNT_LO]; omega)
    (by simp only [Reg.CPH_SLOT_STATE, Reg.CPH_SLOT_CNT_LO]; omega), State.slotCount, State.rd64]

end SlotView

/-! ## WRITE -/

/-- The key slot after a WRITE of `key`. -/
def KeySlot.loaded (x : KeySlot) (key : List Byte) (gen : Nat) : KeySlot :=
  if x.items = 0 then { key := key } else { key := key, items := 0, old := some (x.key, gen), oldItems := x.items }

/-- SLOT_STATE after a WRITE. -/
def State.slotShown (s : State) (k gen size drain : Nat) : State :=
  ((((s.setFld (Reg.CPH_SLOT_STATE_GEN k) gen).setFld (Reg.CPH_SLOT_STATE_WARNED k) 0).setFld
    (Reg.CPH_SLOT_STATE_DRAINING k) drain).setFld (Reg.CPH_SLOT_STATE_SIZE k) size).setFld
    (Reg.CPH_SLOT_STATE_STATE k) keyValid

theorem State.slotShown_regs (s : State) (k gen size drain : Nat) :
    RegsBut s (s.slotShown k gen size drain) [Reg.CPH_SLOT_STATE k] :=
  ((((((RegsBut.refl s _).setFld (Reg.CPH_SLOT_STATE_GEN k) _ List.mem_cons_self).setFld
    (Reg.CPH_SLOT_STATE_WARNED k) _ List.mem_cons_self).setFld
    (Reg.CPH_SLOT_STATE_DRAINING k) _ List.mem_cons_self).setFld
    (Reg.CPH_SLOT_STATE_SIZE k) _ List.mem_cons_self).setFld
    (Reg.CPH_SLOT_STATE_STATE k) _ List.mem_cons_self)

theorem State.slotShown_fields (s : State) (k gen size drain : Nat) :
    (s.slotShown k gen size drain).slotState k = 1 ∧ (s.slotShown k gen size drain).slotGen k = gen % 2 ^ 16 ∧
      (s.slotShown k gen size drain).flag (Reg.CPH_SLOT_STATE_WARNED k) = false ∧
      (s.slotShown k gen size drain).fld (Reg.CPH_SLOT_STATE_DRAINING k) = drain % 2 := by
  refine ⟨?_, ?_, ?_, ?_⟩
  · exact State.fld_setFld_same _ _ _ (show 0 + 2 ≤ 32 by decide)
  · simp only [slotShown, slotGen]
    rw [State.fld_setFld_apart _ _ (by simp), State.fld_setFld_apart _ _ (by simp),
      State.fld_setFld_apart _ _ (by simp), State.fld_setFld_apart _ _ (by simp),
      State.fld_setFld_same _ _ _ (show 16 + 16 ≤ 32 by decide)]
  · simp only [slotShown]
    rw [State.flag_setFld_apart _ _ (by simp), State.flag_setFld_apart _ _ (by simp),
      State.flag_setFld_apart _ _ (by simp), State.flag_setFld_zero _ _ (show 11 + 1 ≤ 32 by decide)]
  · simp only [slotShown]
    rw [State.fld_setFld_apart _ _ (by simp), State.fld_setFld_apart _ _ (by simp),
      State.fld_setFld_same _ _ _ (show 10 + 1 ≤ 32 by decide)]
    rfl

/-- The generation after the one that runs out. -/
def nextGen (gen : Nat) : Nat := if gen = 0xFFFF then 1 else gen + 1

/-- A WRITE that is accepted, before the freshness of its policies restarts. -/
def State.slotLoaded (s : State) (k size : Nat) : State :=
  ((((s.setSlot k ((s.slot k).loaded (s.keyData size) (s.slotGen k))).slotShown k (nextGen (s.slotGen k)) size
    (if (s.slot k).items = 0 then 0 else 1)).wr (Reg.CPH_SLOT_FIXED k) (s.rd Reg.CPH_KEY_FIXED)).wr64
    (Reg.CPH_SLOT_CNT_LO k) 0)

theorem State.keyLoad_eq (s : State) (k size : Nat) :
    s.keyLoad k size = (s.slotLoaded k size).restartFresh k (nextGen (s.slotGen k)) := rfl

/-- The freshness of policies changes nothing else. -/
theorem State.restartFresh_frame (s : State) (k gen : Nat) :
    { s.restartFresh k gen with pols := s.pols } = s := by
  have hall : ∀ (is : List Nat) (t : State),
      { is.foldl (fun t i => t.setPol i { t.pol i with fv := 0, none := true, gen := gen }) t with pols := t.pols } =
        t := fun is => by
    induction is with
    | nil => exact fun _ => rfl
    | cons i is ih =>
      intro t
      exact (congrArg (fun x : State => { x with pols := t.pols }) (ih _) :)
  exact hall _ s

/-- The key of slot `k` after a WRITE of `size`. -/
structure KeyLoaded (s t : State) (k size : Nat) : Prop where
  slot : t.slot k = (s.slot k).loaded (s.keyData size) (s.slotGen k)
  state : t.slotState k = 1
  gen : t.slotGen k = nextGen (s.slotGen k)
  count : t.slotCount k = 0
  warned : t.flag (Reg.CPH_SLOT_STATE_WARNED k) = false
  draining : t.flag (Reg.CPH_SLOT_STATE_DRAINING k) = decide ((s.slot k).items ≠ 0)
  fixed : t.rd (Reg.CPH_SLOT_FIXED k) = s.rd Reg.CPH_KEY_FIXED
  others : ∀ j, j ≠ k → t.slot j = s.slot j ∧ t.slotState j = s.slotState j

theorem State.slotLoaded_spec (s : State) (k size : Nat) : KeyLoaded s (s.slotLoaded k size) k size := by
  have hgen : nextGen (s.slotGen k) % 2 ^ 16 = nextGen (s.slotGen k) := by
    have : s.slotGen k < 2 ^ 16 := bits_lt _ _ _
    unfold nextGen
    split <;> omega
  unfold slotLoaded
  generalize hx : (s.slot k).loaded (s.keyData size) (s.slotGen k) = x
  generalize hd : (if (s.slot k).items = 0 then 0 else 1) = d
  obtain ⟨hstate, hgen', hwarned, hdraining⟩ :=
    (s.setSlot k x).slotShown_fields k (nextGen (s.slotGen k)) size d
  have hregs := (s.setSlot k x).slotShown_regs k (nextGen (s.slotGen k)) size d
  have hslots : ((s.setSlot k x).slotShown k (nextGen (s.slotGen k)) size d).slots = (s.setSlot k x).slots := rfl
  generalize (s.setSlot k x).slotShown k (nextGen (s.slotGen k)) size d = t at *
  have hreg : ∀ j, ((t.wr (Reg.CPH_SLOT_FIXED k) (s.rd Reg.CPH_KEY_FIXED)).wr64 (Reg.CPH_SLOT_CNT_LO k) 0).rd
      (Reg.CPH_SLOT_STATE j) = t.rd (Reg.CPH_SLOT_STATE j) := fun j => by
    rw [State.rd_wr64_ne _ _ (by simp only [Reg.CPH_SLOT_STATE, Reg.CPH_SLOT_CNT_LO]; omega)
      (by simp only [Reg.CPH_SLOT_STATE, Reg.CPH_SLOT_CNT_LO]; omega),
      State.rd_wr_ne _ _ (by simp only [Reg.CPH_SLOT_STATE, Reg.CPH_SLOT_FIXED]; omega)]
  have hfld : ∀ j lsb w, ((t.wr (Reg.CPH_SLOT_FIXED k) (s.rd Reg.CPH_KEY_FIXED)).wr64 (Reg.CPH_SLOT_CNT_LO k) 0).fld
      ⟨Reg.CPH_SLOT_STATE j, lsb, w⟩ = t.fld ⟨Reg.CPH_SLOT_STATE j, lsb, w⟩ := fun j lsb w => by
    rw [State.fld, hreg j, State.fld]
  have hslot : ∀ j, ((t.wr (Reg.CPH_SLOT_FIXED k) (s.rd Reg.CPH_KEY_FIXED)).wr64 (Reg.CPH_SLOT_CNT_LO k) 0).slot j =
      (s.setSlot k x).slot j := fun j => by
    rw [slot, wr64, State.wr_slots, State.wr_slots, State.wr_slots, hslots, slot]
  refine ⟨?_, (hfld k 0 2).trans hstate, (hfld k 16 16).trans (hgen'.trans hgen), ?_,
    (congrArg (· == 1) (hfld k 11 1)).trans hwarned, ?_, ?_, fun j hj => ⟨?_, (hfld j 0 2).trans ?_⟩⟩
  · rw [hslot, State.slot_setSlot_same, hx]
  · rw [slotCount, State.rd64_wr64_same]
    rfl
  · rw [flag, hfld k 10 1, hdraining, ← hd]
    split
    case isTrue h => simp [h]
    case isFalse h => simp [h]
  · rw [State.rd_wr64_ne _ _ (by simp only [Reg.CPH_SLOT_FIXED, Reg.CPH_SLOT_CNT_LO]; omega)
      (by simp only [Reg.CPH_SLOT_FIXED, Reg.CPH_SLOT_CNT_LO]; omega), State.rd_wr_same]
  · rw [hslot, State.slot_setSlot_ne _ _ hj]
  · have hne : Reg.CPH_SLOT_STATE j ≠ Reg.CPH_SLOT_STATE k := by
      simp only [Reg.CPH_SLOT_STATE]
      omega
    exact congrArg (fun w : Word => getBits w 0 2) (hregs _ fun hm => hne (List.mem_singleton.mp hm))

theorem KeyLoaded.clear {size : Nat} (h : KeyLoaded s t k size) : KeyLoaded s t.clearKeyData k size := by
  have hview := t.clearKeyData_view
  refine ⟨h.slot, (hview k).state.trans h.state, (hview k).gen.trans h.gen, (hview k).count.trans h.count,
    ((hview k).flag 11).trans h.warned, ((hview k).flag 10).trans h.draining, ?_, fun j hj =>
      ⟨(h.others j hj).1, (hview j).state.trans (h.others j hj).2⟩⟩
  rw [(hview k).regs _ (by simp only [Reg.CPH_SLOT_STATE, Reg.CPH_SLOT_FIXED]; omega)
    (by simp only [Reg.CPH_SLOT_STATE, Reg.CPH_SLOT_FIXED]; omega)]
  exact h.fixed

theorem KeyLoaded.fresh {size gen : Nat} (h : KeyLoaded s t k size) : KeyLoaded s (t.restartFresh k gen) k size := by
  have hframe := t.restartFresh_frame k gen
  generalize t.restartFresh k gen = u at *
  have hregs : u.regs = t.regs := (congrArg State.regs hframe :)
  have hslots : u.slots = t.slots := (congrArg State.slots hframe :)
  have hrd : ∀ a, u.rd a = t.rd a := fun a => by rw [State.rd, hregs, State.rd]
  have hfld : ∀ f, u.fld f = t.fld f := fun f => by rw [State.fld, hrd, State.fld]
  have hslot : ∀ j, u.slot j = t.slot j := fun j => by rw [State.slot, hslots, State.slot]
  refine ⟨(hslot k).trans h.slot, (hfld _).trans h.state, (hfld _).trans h.gen, ?_,
    (congrArg (· == 1) (hfld _)).trans h.warned, (congrArg (· == 1) (hfld _)).trans h.draining,
    (hrd _).trans h.fixed, fun j hj => ⟨(hslot j).trans (h.others j hj).1, (hfld _).trans (h.others j hj).2⟩⟩
  rw [State.slotCount, State.rd64, hrd, hrd]
  exact h.count

/-- A WRITE that is accepted. -/
theorem State.keyWrite_spec {size : Nat} (hsize : size ≠ 3) (hdrain : s.flag (Reg.CPH_SLOT_STATE_DRAINING k) = false)
    (hstate : s.slotState k ≠ 3) :
    ∃ u : State, s.keyWrite k size = u ∧ KeyLoaded s u k size ∧ (∀ j : Fin 8, u.rd (Reg.CPH_KEY_DATA j) = 0) ∧
      u.rd Reg.CPH_KEY_FIXED = 0 := by
  have hop : s.keyWrite k size = (s.keyLoad k size).clearKeyData := by
    unfold keyWrite
    rw [if_neg hsize, hdrain, if_neg (by rintro (h | h); exacts [Bool.false_ne_true h, hstate h])]
  refine ⟨_, hop, ?_, fun j => State.clearKeyData_data _ j, State.rd_wr_same _ _ _⟩
  rw [State.keyLoad_eq]
  exact (s.slotLoaded_spec k size).fresh.clear

/-- A WRITE that is refused sets its flag, and the key data are cleared all the same. -/
theorem State.refused_spec (s : State) {lsb : Nat} (hlsb : lsb < 32) :
    ∃ u : State, (s.setFld ⟨Reg.CPH_FLAGS, lsb, 1⟩ 1).clearKeyData = u ∧ u.flag ⟨Reg.CPH_FLAGS, lsb, 1⟩ = true ∧
      u.slots = s.slots ∧ ∀ j : Fin 8, u.rd (Reg.CPH_KEY_DATA j) = 0 := by
  refine ⟨_, rfl, ?_, rfl, fun j => State.clearKeyData_data _ j⟩
  rw [flag, fld, State.clearKeyData_rd_ne _ (Or.inr (show 0x170030 ≤ Reg.CPH_FLAGS by decide))]
  exact s.flag_setFld_one _ rfl hlsb

/-! ## ERASE, and the end of an old key -/

/-- The slot is EMPTY, its key zeroised. -/
def Zeroised (s t : State) (k : Nat) : Prop :=
  t.slotState k = 0 ∧ t.slot k = {} ∧ t.slotGen k = s.slotGen k ∧ Posts s t 0x0A2 k (w32 (s.slotGen k))

/-- The registers of a slot that becomes EMPTY. -/
def State.slotEmptied (s : State) (k : Nat) : State :=
  ((((s.setSlot k {}).setFld (Reg.CPH_SLOT_STATE_STATE k) keyEmpty).setFld (Reg.CPH_SLOT_STATE_DRAINING k) 0).setFld
    (Reg.CPH_SLOT_STATE_SIZE k) 0).wr (Reg.CPH_SLOT_FIXED k) 0

theorem State.slotEmptied_spec (s : State) (k : Nat) :
    (s.slotEmptied k).slotState k = 0 ∧ (s.slotEmptied k).slot k = {} ∧ (s.slotEmptied k).slotGen k = s.slotGen k := by
  have hne : Reg.CPH_SLOT_STATE k ≠ Reg.CPH_SLOT_FIXED k := by
    simp only [Reg.CPH_SLOT_STATE, Reg.CPH_SLOT_FIXED]
    omega
  refine ⟨?_, State.slot_setSlot_same _ _ _, ?_⟩
  · unfold slotState slotEmptied
    rw [State.fld_wr_ne _ _ hne, State.fld_setFld_apart _ _ (by simp), State.fld_setFld_apart _ _ (by simp),
      State.fld_setFld_same _ _ _ (show 0 + 2 ≤ 32 by decide)]
    rfl
  · unfold slotGen slotEmptied
    rw [State.fld_wr_ne _ _ hne, State.fld_setFld_apart _ _ (by simp), State.fld_setFld_apart _ _ (by simp),
      State.fld_setFld_apart _ _ (by simp)]
    rfl

theorem State.keyZeroise_erasing (hk : k < 64) (hstate : s.slotState k = 3) (hitems : (s.slot k).items = 0)
    (hold : (s.slot k).oldItems = 0) : Zeroised s (s.keyZeroise k) k := by
  have hop : s.keyZeroise k = (s.slotEmptied k).postEvent 0x0A2 k (w32 (s.slotGen k)) :=
    if_pos ⟨hstate, hitems, hold⟩
  obtain ⟨hempty, hslot, hgen⟩ := s.slotEmptied_spec k
  have hreg : Reg.CPH_SLOT_STATE k < 0x3000000 := by
    simp only [Reg.CPH_SLOT_STATE]
    omega
  rw [hop]
  refine ⟨?_, hslot, ?_, postEvent_eqs_congr s (t := s.slotEmptied k) rfl rfl rfl _ _ _⟩
  · rw [slotState, State.postEvent_fld _ _ _ _ hreg]
    exact hempty
  · rw [slotGen, State.postEvent_fld _ _ _ _ hreg]
    exact hgen

theorem State.keyZeroise_old (hstate : s.slotState k ≠ 3) (hsome : (s.slot k).old.isSome = true)
    (hold : (s.slot k).oldItems = 0) :
    s.keyZeroise k = (s.setSlot k { s.slot k with old := none }).setFld (Reg.CPH_SLOT_STATE_DRAINING k) 0 :=
  (if_neg fun h => hstate h.1).trans (if_pos ⟨hsome, hold⟩)

/-- A slot in use drains: its key stays until its last item has ended. -/
theorem State.keyZeroise_draining (hitems : (s.slot k).items ≠ 0) :
    (s.keyZeroise k).slotState k = s.slotState k ∧ ((s.keyZeroise k).slot k).key = (s.slot k).key := by
  unfold keyZeroise
  dsimp only
  rw [if_neg fun h => hitems h.2.1]
  split
  · refine ⟨State.fld_setFld_apart _ _ (by simp), ?_⟩
    rw [State.slot, State.setFld_slots]
    exact (congrArg KeySlot.key (Tbl.get_set_same _ _ _ _)).trans rfl
  · exact ⟨rfl, rfl⟩

/-- An ERASE of a key that is held. -/
def State.erasing (s : State) (k : Nat) : State := s.setFld (Reg.CPH_SLOT_STATE_STATE k) keyErasing

theorem State.keyErase_eq (h : s.slotState k = 1 ∨ s.slotState k = 2) :
    s.keyErase k = ((s.erasing k).keyZeroise k).clearKeyData :=
  congrArg State.clearKeyData (if_neg (by
    simp only [keyEmpty, keyErasing]
    omega))

theorem State.erasing_spec (s : State) (k : Nat) : (s.erasing k).slotState k = 3 ∧ (s.erasing k).slot k = s.slot k ∧
    (s.erasing k).slotGen k = s.slotGen k :=
  ⟨State.fld_setFld_same _ _ _ (show 0 + 2 ≤ 32 by decide), rfl, State.fld_setFld_apart _ _ (by simp)⟩

theorem State.keyErase_idle (hk : k < 64) (h : s.slotState k = 1 ∨ s.slotState k = 2) (hitems : (s.slot k).items = 0)
    (hold : (s.slot k).oldItems = 0) : ∃ u : State, s.keyErase k = u ∧ Zeroised s u k := by
  obtain ⟨hstate, hslot, hgen⟩ := s.erasing_spec k
  obtain ⟨hempty, hzero, hgen', hposts⟩ := State.keyZeroise_erasing hk hstate (hslot ▸ hitems) (hslot ▸ hold)
  rw [hgen] at hposts
  have hview := ((s.erasing k).keyZeroise k).clearKeyData_view k
  exact ⟨_, State.keyErase_eq h, hview.state.trans hempty, hview.slot.trans hzero,
    hview.gen.trans (hgen'.trans hgen),
    Eq.trans hposts (postEvent_eqs_congr s (t := s.erasing k) rfl rfl rfl _ _ _)⟩

theorem State.keyErase_inUse (h : s.slotState k = 1 ∨ s.slotState k = 2) (hitems : (s.slot k).items ≠ 0) :
    ∃ u : State, s.keyErase k = u ∧ u.slotState k = 3 ∧ (u.slot k).key = (s.slot k).key := by
  obtain ⟨hstate, hslot, -⟩ := s.erasing_spec k
  obtain ⟨hkept, hkey⟩ := State.keyZeroise_draining (s := s.erasing k) (hslot ▸ hitems)
  have hview := ((s.erasing k).keyZeroise k).clearKeyData_view k
  refine ⟨_, State.keyErase_eq h, hview.state.trans (hkept.trans hstate), ?_⟩
  rw [hview.slot, hkey, hslot]

/-! ## Usage limits -/

theorem State.keyWarn_spec (hk : k < 64) (hstate : s.slotState k = 1)
    (hcount : 9 * s.slotLimit k ≤ 10 * s.slotCount k) (hflag : s.flag (Reg.CPH_SLOT_STATE_WARNED k) = false) :
    ∃ u : State, s.keyWarn k = u ∧ u.flag (Reg.CPH_SLOT_STATE_WARNED k) = true ∧ u.slotState k = 1 ∧
      Posts s u 0x0A0 k (w32 (s.slotCount k)) := by
  have hreached : ceilDiv (9 * s.slotLimit k) 10 ≤ s.slotCount k := by
    unfold ceilDiv
    omega
  have hreg : Reg.CPH_SLOT_STATE k < 0x3000000 := by
    simp only [Reg.CPH_SLOT_STATE]
    omega
  refine ⟨_, if_pos ⟨hreached, hstate, hflag⟩, ?_, ?_,
    postEvent_eqs_congr s (t := s.setFld (Reg.CPH_SLOT_STATE_WARNED k) 1) rfl rfl rfl _ _ _⟩
  · rw [flag, State.postEvent_fld _ _ _ _ hreg]
    exact s.flag_setFld_one _ rfl (show 11 + 1 ≤ 32 by decide)
  · rw [slotState, State.postEvent_fld _ _ _ _ hreg, State.fld_setFld_apart _ _ (by simp)]
    exact hstate

theorem State.keyExhaust_spec (hk : k < 64) (hstate : s.slotState k = 1) (hcount : s.slotLimit k ≤ s.slotCount k) :
    ∃ u : State, s.keyExhaust k = u ∧ u.slotState k = 2 ∧ Posts s u 0x0A1 k (w32 (s.slotLimit k)) := by
  have hreg : Reg.CPH_SLOT_STATE k < 0x3000000 := by
    simp only [Reg.CPH_SLOT_STATE]
    omega
  refine ⟨_, if_pos ⟨hcount, hstate⟩, ?_,
    postEvent_eqs_congr s (t := s.setFld (Reg.CPH_SLOT_STATE_STATE k) keyExhausted) rfl rfl rfl _ _ _⟩
  rw [slotState, State.postEvent_fld _ _ _ _ hreg]
  exact State.fld_setFld_same _ _ _ (show 0 + 2 ≤ 32 by decide)

/-! ## The commands -/

theorem keyWrite_completes {p : PageNo} {k : SlotNo} {size : BitVec 2} {u : State} {P : State → Prop}
    (h : s.takes p Reg.CPH_KEY_CMD) (hop : s.keyWrite k size.toNat = u)
    (hP : P { s with regs := u.regs, slots := u.slots, pols := u.pols }) : Completes (.keyWrite p k size) s P :=
  completes_onWrite (fun s t : State => { s with regs := t.regs, slots := t.slots, pols := t.pols }) h rfl
    (fun _ => ⟨rfl, rfl⟩) hop hP

theorem keyErase_completes {p : PageNo} {k : SlotNo} {u : State} {P : State → Prop}
    (h : s.takes p Reg.CPH_KEY_CMD) (hop : s.keyErase k = u)
    (hP : P { s with regs := u.regs, eqs := u.eqs, out := u.out, slots := u.slots }) :
    Completes (.keyErase p k) s P :=
  completes_onWrite (fun s t : State => { s with regs := t.regs, eqs := t.eqs, out := t.out, slots := t.slots }) h rfl
    (fun _ => ⟨rfl, rfl⟩) hop hP

theorem keyZeroise_completes {k : SlotNo} {u : State} {P : State → Prop} (h : s.awake) (hop : s.keyZeroise k = u)
    (hP : P { s with regs := u.regs, eqs := u.eqs, out := u.out, slots := u.slots }) :
    Completes (.keyZeroise k) s P :=
  completes_framed (fun s => s.keyZeroise k) (fun s t : State => { s with
    regs := t.regs, eqs := t.eqs, out := t.out, slots := t.slots }) h rfl (fun _ => ⟨rfl, rfl⟩) hop hP

end Sys2Proof.Machine

open Sys2Proof.Machine in
/-- Settles O54: the commands change one slot and its registers, and clear the key data, which lie beside them. -/
theorem keysAreLoadedAndErased : Obligations.KeysAreLoadedAndErased := by
  unfold Obligations.KeysAreLoadedAndErased
  intro p k s
  have hk : (k : Nat) < 64 := k.isLt
  refine ⟨fun h => ⟨fun size hsize hdrain hstate => ?_, ?_, fun size hsize hbusy => ?_,
    fun hheld => ⟨fun hitems hold => ?_, fun hitems => ?_⟩⟩, fun h hstate hitems hold => ?_,
    fun h hstate hsome hold => ?_, fun h hstate => ⟨fun hcount hflag => ?_, fun hcount => ?_, fun hcount => ?_⟩⟩
  · have hsize' : size.toNat ≠ 3 := fun heq => hsize (BitVec.eq_of_toNat_eq heq)
    obtain ⟨u, hop, hload, hdata, hfixed⟩ := State.keyWrite_spec hsize' hdrain hstate
    have hslot := hload.slot
    refine keyWrite_completes h hop ⟨?_, hload.state, hload.gen, hload.count, hload.warned, hload.fixed,
      fun hidle => ?_, fun hbusy => ⟨?_, ?_⟩, hdata, hfixed, fun j hj => hload.others j (Fin.val_ne_of_ne hj)⟩
    · refine (congrArg KeySlot.key hslot).trans ?_
      unfold KeySlot.loaded
      split <;> rfl
    · exact hload.draining.trans (by simp [hidle])
    · exact hload.draining.trans (by simp [hbusy])
    · refine (congrArg KeySlot.old hslot).trans ?_
      rw [KeySlot.loaded, if_neg hbusy]
  · obtain ⟨u, hop, hflag, hslots, hdata⟩ := s.refused_spec (lsb := 0) (by decide)
    exact keyWrite_completes h ((congrArg State.clearKeyData (if_pos rfl)).trans hop) ⟨hflag, hslots, hdata⟩
  · have hsize' : size.toNat ≠ 3 := fun heq => hsize (BitVec.eq_of_toNat_eq heq)
    obtain ⟨u, hop, hflag, hslots, hdata⟩ := s.refused_spec (lsb := 1) (by decide)
    exact keyWrite_completes h
      ((congrArg State.clearKeyData ((if_neg hsize').trans (if_pos hbusy))).trans hop) ⟨hflag, hslots, hdata⟩
  · obtain ⟨u, hop, hzero⟩ := State.keyErase_idle hk hheld hitems hold
    exact keyErase_completes h hop hzero
  · obtain ⟨u, hop, hspec⟩ := State.keyErase_inUse hheld hitems
    exact keyErase_completes h hop hspec
  · obtain ⟨hempty, hzero, -, hposts⟩ := State.keyZeroise_erasing hk hstate hitems hold
    exact keyZeroise_completes h rfl ⟨hempty, hzero, hposts⟩
  · refine keyZeroise_completes h (State.keyZeroise_old hstate hsome hold) ⟨State.slot_setSlot_same _ _ _,
      State.flag_setFld_zero _ _ (show 10 + 1 ≤ 32 by decide), rfl, ?_⟩
    exact (RegsBut.refl _ _).setFld (Reg.CPH_SLOT_STATE_DRAINING k) 0 List.mem_cons_self
  · obtain ⟨u, hop, hflag, hstate', hposts⟩ := State.keyWarn_spec hk hstate hcount hflag
    exact completes_framed (fun s => s.keyWarn k) (fun s t : State => { s with
      regs := t.regs, eqs := t.eqs, out := t.out }) h rfl (fun _ => ⟨rfl, rfl⟩) hop
      ⟨hflag, hstate', hposts, fun _ => rfl, rfl⟩
  · obtain ⟨u, hop, hstate', hposts⟩ := State.keyExhaust_spec hk hstate hcount
    exact completes_framed (fun s => s.keyExhaust k) (fun s t : State => { s with
      regs := t.regs, eqs := t.eqs, out := t.out }) h rfl (fun _ => ⟨rfl, rfl⟩) hop
      ⟨hstate', hposts, fun _ => rfl, rfl⟩
  · exact exec_of_completes (completes_framed (fun s => s.keyExhaust k) (fun s t : State => { s with
      regs := t.regs, eqs := t.eqs, out := t.out }) h rfl (fun _ => ⟨rfl, rfl⟩)
      (if_neg fun hreached => Nat.not_le.mpr hcount hreached.1) rfl)
end

section
/-!
Job rings (R399, R404, R406, R408 to R411): what the posting of events and the use of a key leave of a page's registers,
the start of a job and its end.
-/

namespace Sys2Proof.Machine

variable {s t : State} {p r k : Nat}

/-! ## What leaves the rings of a page alone -/

/-- The registers of a page's window outside its event queues. -/
abbrev besideQueues (a : Nat) : Prop := a % 0x100000 < 0x100 ∨ 0x180 ≤ a % 0x100000

theorem State.postTo_rd_beside (s : State) {p q a : Nat} (e : DWord) (hq : q < 4) (h : besideQueues a) :
    (s.postTo p q e).rd a = s.rd a :=
  s.postTo_rd_ne e (by simp only [Reg.EQ_STATE, Reg.pageBase]; omega) (by simp only [Reg.EQ_PEAK, Reg.pageBase]; omega)
    (by simp only [Reg.EQ_LOST, Reg.pageBase]; omega) (by simp only [Reg.EQ_POSTED, Reg.pageBase]; omega)

theorem State.eventTargets_queue {code : Nat} {pq : Nat × Nat} (h : pq ∈ s.eventTargets code) : pq.2 < 4 := by
  unfold eventTargets at h
  dsimp only at h
  split at h
  · obtain ⟨x, -, rfl⟩ := List.mem_map.mp h
    exact bits_lt _ _ 2
  · split at h
    · exact absurd h List.not_mem_nil
    · rw [List.mem_singleton.mp h]
      exact Nat.zero_lt_succ 3

theorem State.postEvent_rd_beside (s : State) (code src : Nat) (data : Word) {a : Nat} (h : besideQueues a) :
    (s.postEvent code src data).rd a = s.rd a := by
  have hfold : ∀ (l : List (Nat × Nat)), (∀ pq ∈ l, pq.2 < 4) → ∀ t : State,
      (l.foldl (fun t pq => t.postTo pq.1 pq.2 (eventEntry code src data)) t).rd a = t.rd a := fun l => by
    induction l with
    | nil => exact fun _ _ => rfl
    | cons pq l ih =>
      exact fun hl t => (ih (fun x hx => hl x (List.mem_cons_of_mem _ hx)) _).trans
        (t.postTo_rd_beside _ (hl pq List.mem_cons_self) h)
  exact hfold _ (fun _ h => State.eventTargets_queue h) s

/-- The rings, and the registers of the pages outside their event queues, are as before; outputs may follow. -/
structure RingSide (s t : State) : Prop where
  rings : t.rings = s.rings
  out : s.out <+: t.out
  regs : ∀ a, 0x3000000 ≤ a → besideQueues a → t.rd a = s.rd a

namespace RingSide

theorem refl (s : State) : RingSide s s := ⟨rfl, List.prefix_refl _, fun _ _ _ => rfl⟩

theorem trans {u : State} (h : RingSide s t) (h' : RingSide t u) : RingSide s u :=
  ⟨h'.rings.trans h.rings, h.out.trans h'.out, fun a ha hb => (h'.regs a ha hb).trans (h.regs a ha hb)⟩

theorem setFld (s : State) (f : Fld) (v : Nat) (h : f.addr < 0x3000000) : RingSide s (s.setFld f v) :=
  ⟨rfl, List.prefix_refl _, fun _ ha _ => s.rd_setFld_ne v (Nat.ne_of_gt (Nat.lt_of_lt_of_le h ha))⟩

theorem wr (s : State) {a : Nat} (v : Word) (h : a < 0x3000000) : RingSide s (s.wr a v) :=
  ⟨rfl, List.prefix_refl _, fun _ ha _ => s.rd_wr_ne v (Nat.ne_of_gt (Nat.lt_of_lt_of_le h ha))⟩

theorem setSlot (s : State) (k : Nat) (x : KeySlot) : RingSide s (s.setSlot k x) :=
  ⟨rfl, List.prefix_refl _, fun _ _ _ => rfl⟩

theorem postEvent (s : State) (code src : Nat) (data : Word) : RingSide s (s.postEvent code src data) :=
  ⟨rfl, s.postEvent_out code src data, fun _ _ hb => s.postEvent_rd_beside code src data hb⟩

theorem ringPost (s : State) (p r code : Nat) (data : Word) : RingSide s (s.ringPost p r code data) :=
  ⟨rfl, s.postTo_out _ _ _, fun _ _ hb => s.postTo_rd_beside _ (bits_lt _ _ 2) hb⟩

/-- A field of a page's own registers reads as before. -/
theorem fld (h : RingSide s t) {f : Fld} (hf : 0x3000000 ≤ f.addr) (hb : besideQueues f.addr) : t.fld f = s.fld f := by
  rw [State.fld, h.regs _ hf hb, State.fld]

end RingSide

theorem slotReg_low {k : Nat} (hk : k < 64) : Reg.CPH_SLOT_STATE k < 0x3000000 := by
  simp only [Reg.CPH_SLOT_STATE]
  omega

theorem State.showItems_ring (s : State) (hk : k < 64) : RingSide s (s.showItems k) :=
  RingSide.setFld s _ _ (by simp only [Reg.CPH_SLOT_JOBS]; omega)

theorem State.keyBegin_ring (s : State) (hk : k < 64) : RingSide s (s.keyBegin k) :=
  (RingSide.setSlot s k _).trans (State.showItems_ring _ hk)

theorem State.keyInvoke_ring (s : State) (hk : k < 64) : RingSide s (s.keyInvoke k) := by
  have hlow := slotReg_low hk
  have hflag : ∀ (t : State) (f : Fld) (v code : Nat) (data : Word), f.addr = Reg.CPH_SLOT_STATE k →
      RingSide t ((t.setFld f v).postEvent code k data) := fun t f v code data hf =>
    (RingSide.setFld t f v (by omega)).trans (RingSide.postEvent _ _ _ _)
  have hwarn : ∀ t : State, RingSide t (t.keyWarn k) := fun t => by
    unfold keyWarn
    split
    · exact hflag t _ _ _ _ rfl
    · exact RingSide.refl t
  have hexhaust : ∀ t : State, RingSide t (t.keyExhaust k) := fun t => by
    unfold keyExhaust
    split
    · exact hflag t _ _ _ _ rfl
    · exact RingSide.refl t
  have hcount : RingSide s (s.wr64 (Reg.CPH_SLOT_CNT_LO k) (BitVec.ofNat 64 ((s.slotCount k + 1) % 2 ^ 48))) :=
    (RingSide.wr s _ (by simp only [Reg.CPH_SLOT_CNT_LO]; omega)).trans
      (RingSide.wr _ _ (by simp only [Reg.CPH_SLOT_CNT_LO]; omega))
  exact hcount.trans ((hwarn _).trans (hexhaust _))

theorem State.keyZeroise_ring (s : State) (hk : k < 64) : RingSide s (s.keyZeroise k) := by
  have hlow := slotReg_low hk
  unfold keyZeroise
  extract_lets x t t₁ t₂ t₃
  split
  · have hfields : RingSide s t₃ := ((((RingSide.setSlot s k {}).trans (RingSide.setFld _ _ _ hlow)).trans
      (RingSide.setFld _ _ _ hlow)).trans (RingSide.setFld _ _ _ hlow))
    exact (hfields.trans (RingSide.wr _ _ (by simp only [Reg.CPH_SLOT_FIXED]; omega))).trans
      (RingSide.postEvent _ _ _ _)
  · split
    · exact (RingSide.setSlot s k _).trans (RingSide.setFld _ _ _ hlow)
    · exact RingSide.refl s

theorem State.keyEnd_ring (s : State) (gen : Nat) (hk : k < 64) : RingSide s (s.keyEnd k gen) :=
  ((RingSide.setSlot s k _).trans (State.showItems_ring _ hk)).trans (State.keyZeroise_ring _ hk)

/-! ## PROD -/

theorem pcjReg_ge (p r : Nat) : 0x3000000 ≤ Reg.pageBase p ∧ Reg.PCJ_PROD p r ≠ Reg.PG_PATH p := by
  simp only [Reg.PCJ_PROD, Reg.PG_PATH, Reg.pageBase]
  omega

theorem State.ringProd_spec (s : State) (p r index : Nat) (h : s.pathFrames p = false) :
    s.ringProd p r index = s.setFld (Reg.PCJ_PROD_INDEX p r) index := by
  have hpath : (s.setFld (Reg.PCJ_PROD_INDEX p r) index).pathFrames p = false := by
    rw [pathFrames, State.fld_setFld_addr s _ (pcjReg_ge p r).2.symm]
    exact h
  refine if_neg fun hstop => ?_
  rw [hpath] at hstop
  exact Bool.false_ne_true hstop.2.2

/-! ## The start of a job -/

theorem besideQueues_ring {p r off : Nat} (hr : r < 2) (hoff : off < 0x100) :
    0x3000000 ≤ Reg.pageBase p + (0x20000 + off) + 0x100 * r ∧
      besideQueues (Reg.pageBase p + (0x20000 + off) + 0x100 * r) := by
  simp only [besideQueues, Reg.pageBase]
  omega

theorem descSlot_lt (d : List Word) : descSlot d < 64 := bits_lt _ _ _

/-- The job that a ring starts. -/
def State.newJob (s : State) (p r : Nat) (d : List Word) : Job :=
  { index := s.fld (Reg.PCJ_CONS_INDEX p r) % 2 ^ (s.jring p r).size, desc := d, status := s.jobStatus p d
    gen := if s.jobStatus p d = jobOk then s.slotGen (descSlot d) else 0
    key := if s.jobStatus p d = jobOk then (s.slot (descSlot d)).key else []
    fixed := (s.rd (Reg.CPH_SLOT_FIXED (descSlot d))).toNat, count := s.slotCount (descSlot d) }

/-- The ring and its registers after the start, before the key is used. -/
def State.jobTaken (s : State) (p r : Nat) (d : List Word) : State :=
  ((({ s with jobTurn := (2 * p + r + 1) % 16 }.setJring p r { s.jring p r with
    job := some (s.newJob p r d), path := s.fld (Reg.PG_PATH_ACTIVE p) }).setFld (Reg.PCJ_CONS_INDEX p r)
      ((s.fld (Reg.PCJ_CONS_INDEX p r) % 2 ^ (s.jring p r).size + 1) % 2 ^ (s.jring p r).size)).setFld
    (Reg.PCJ_STATUS_STATE p r) ringRunning).setFld (Reg.PCJ_STATUS_UNVERIFIED p r)
    (if s.jobStatus p d = jobOk ∧ descStreams d = true then 1 else 0)

/-- The ring gets a pipeline. -/
def State.ringServed (s : State) (p r : Nat) : Bool :=
  s.flag Reg.CPH_BSTAT_RUN && decide (s.jobsRunning < 4) && s.nextRing == some (2 * p + r)

theorem State.ringServed_of (hrun : s.flag Reg.CPH_BSTAT_RUN = true) (hfree : s.jobsRunning < 4)
    (hnext : s.nextRing = some (2 * p + r)) : s.ringServed p r = true := by
  rw [ringServed, hrun, decide_eq_true hfree, hnext, beq_self_eq_true, Bool.and_self, Bool.and_self]

theorem State.jobStart_eq {d : List Word} (hserved : s.ringServed p r = true) : s.jobStart p r d =
      if s.jobStatus p d = jobOk then ((s.jobTaken p r d).keyBegin (descSlot d)).keyInvoke (descSlot d)
      else s.jobTaken p r d := by
  unfold jobStart
  rw [ringServed] at hserved
  rw [if_pos hserved]
  extract_lets x k st i ok j t₁ t₂ t₃ t₄ t₅
  have htaken : t₅ = s.jobTaken p r d := rfl
  rw [htaken]

/-- A ring that has taken its next descriptor. -/
structure JobTaken (s t : State) (p r : Nat) (d : List Word) : Prop where
  job : (t.jring p r).job = some (s.newJob p r d)
  cons : t.fld (Reg.PCJ_CONS_INDEX p r) =
    (s.fld (Reg.PCJ_CONS_INDEX p r) % 2 ^ (s.jring p r).size + 1) % 2 ^ (s.jring p r).size
  state : t.ringState p r = 2

theorem State.jobTaken_spec (s : State) (p r : Nat) (d : List Word) (hsize : (s.jring p r).size ≤ 12) :
    JobTaken s (s.jobTaken p r d) p r d := by
  have hfits : ∀ x, x % 2 ^ (s.jring p r).size < 2 ^ 12 := fun x =>
    Nat.lt_of_lt_of_le (Nat.mod_lt _ (Nat.two_pow_pos _)) (Nat.pow_le_pow_right (by decide) hsize)
  have hcons : Reg.PCJ_CONS p r ≠ Reg.PCJ_STATUS p r := by
    simp only [Reg.PCJ_CONS, Reg.PCJ_STATUS]
    omega
  refine ⟨?_, ?_, ?_⟩
  · exact congrArg JobRing.job (Tbl.get_set_same (fun _ => {}) s.rings (2 * p + r) _)
  · unfold jobTaken
    rw [State.fld_setFld_addr _ _ hcons, State.fld_setFld_addr _ _ hcons,
      State.fld_setFld_same _ _ _ (show 0 + 12 ≤ 32 by decide)]
    exact Nat.mod_eq_of_lt (hfits _)
  · unfold jobTaken ringState
    rw [State.fld_setFld_apart _ _ (by simp), State.fld_setFld_same _ _ _ (show 0 + 2 ≤ 32 by decide)]
    rfl

theorem JobTaken.ring {d : List Word} {u : State} (hr : r < 2) (h : JobTaken s t p r d) (h' : RingSide t u) :
    JobTaken s u p r d := by
  have hcons := besideQueues_ring (p := p) hr (show 0x18 < 0x100 by decide)
  have hstate := besideQueues_ring (p := p) hr (show 0x20 < 0x100 by decide)
  refine ⟨?_, (h'.fld hcons.1 hcons.2).trans h.cons, (h'.fld hstate.1 hstate.2).trans h.state⟩
  rw [State.jring, h'.rings]
  exact h.job

theorem State.slotCount_congr (hlo : t.rd (Reg.CPH_SLOT_CNT_LO k) = s.rd (Reg.CPH_SLOT_CNT_LO k))
    (hhi : t.rd (Reg.CPH_SLOT_CNT_LO k + 4) = s.rd (Reg.CPH_SLOT_CNT_LO k + 4)) : t.slotCount k = s.slotCount k := by
  rw [slotCount, rd64, hlo, hhi, slotCount, rd64]

theorem State.keyBegin_slotCount (t : State) (k : Nat) : (t.keyBegin k).slotCount k = t.slotCount k := by
  have hlo : Reg.CPH_SLOT_CNT_LO k ≠ Reg.CPH_SLOT_JOBS k := by
    simp only [Reg.CPH_SLOT_CNT_LO, Reg.CPH_SLOT_JOBS]
    omega
  have hhi : Reg.CPH_SLOT_CNT_LO k + 4 ≠ Reg.CPH_SLOT_JOBS k := by
    simp only [Reg.CPH_SLOT_CNT_LO, Reg.CPH_SLOT_JOBS]
    omega
  exact State.slotCount_congr (State.rd_setFld_ne _ _ hlo) (State.rd_setFld_ne _ _ hhi)

/-- Taking a descriptor changes registers of the page alone. -/
theorem State.jobTaken_low (s : State) (p r : Nat) (d : List Word) {a : Nat} (ha : a < 0x3000000) :
    (s.jobTaken p r d).rd a = s.rd a := by
  have hstatus : a ≠ Reg.PCJ_STATUS p r := by
    simp only [Reg.PCJ_STATUS, Reg.pageBase]
    omega
  have hcons : a ≠ Reg.PCJ_CONS p r := by
    simp only [Reg.PCJ_CONS, Reg.pageBase]
    omega
  unfold jobTaken
  rw [State.rd_setFld_ne _ _ hstatus, State.rd_setFld_ne _ _ hstatus, State.rd_setFld_ne _ _ hcons]
  rfl

theorem State.jobTaken_slotCount (s : State) (p r : Nat) (d : List Word) {k : Nat} (hk : k < 64) :
    (s.jobTaken p r d).slotCount k = s.slotCount k := by
  have hlow : Reg.CPH_SLOT_CNT_LO k + 4 < 0x3000000 := by
    simp only [Reg.CPH_SLOT_CNT_LO]
    omega
  exact State.slotCount_congr (s.jobTaken_low p r d (by omega)) (s.jobTaken_low p r d hlow)

/-- A job that may use its key takes one invocation of its slot. -/
theorem State.jobStart_spec {d : List Word} (hr : r < 2) (hrun : s.flag Reg.CPH_BSTAT_RUN = true)
    (hfree : s.jobsRunning < 4) (hnext : s.nextRing = some (2 * p + r)) (hsize : (s.jring p r).size ≤ 12) :
    ∃ u : State, s.jobStart p r d = u ∧ JobTaken s u p r d ∧
      (s.jobStatus p d = 0 → u.slotCount (descSlot d) = (s.slotCount (descSlot d) + 1) % 2 ^ 48) ∧
      (s.jobStatus p d ≠ 0 → u.slots = s.slots ∧ u.eqs = s.eqs) := by
  have htaken := s.jobTaken_spec p r d hsize
  have hk := descSlot_lt d
  rw [State.jobStart_eq (State.ringServed_of hrun hfree hnext)]
  by_cases hok : s.jobStatus p d = 0
  · rw [if_pos hok]
    refine ⟨_, rfl, htaken.ring hr ((State.keyBegin_ring _ hk).trans (State.keyInvoke_ring _ hk)), fun _ => ?_,
      fun h => absurd hok h⟩
    rw [State.keyInvoke_slotCount _ hk]
    rw [State.keyBegin_slotCount, State.jobTaken_slotCount _ _ _ _ hk]
  · rw [if_neg hok]
    exact ⟨_, rfl, htaken, fun h => absurd h hok, fun _ => ⟨rfl, rfl⟩⟩

/-! ## The end of a job -/

/-- What a job that is said of here gives: a status it started with, or the tag of a CMAC. -/
def JobGives (j : Job) (input : List Byte) (o : JobOut) : Prop :=
  (2 ≤ j.status ∧ j.status ≤ 5 ∧ o = { status := j.status }) ∨
    (j.status = 0 ∧ descMode j.desc = 4 ∧ o = { status := 0, tag :=
      (cmac j.key ((input.drop (descAad j.desc)).take (descLength j.desc))).take (descTagLen j.desc) })

/-- The two writes of a completion, word 0 last. -/
def State.jobCompletion (s : State) (p r : Nat) (j : Job) (o : JobOut) : List Emit :=
  let c := completion (s.jring p r).phase j o false false
  [.dma p ((s.jring p r).cpl + 64 * j.index + 4) c.2, .dma p ((s.jring p r).cpl + 64 * j.index) (leBytes 4 c.1.toNat)]

/-- The ring after its job, before its key and its events. -/
def State.jobDone (s : State) (p r : Nat) (j : Job) (o : JobOut) : State :=
  let done := (j.index + 1) % 2 ^ (s.jring p r).size
  (((({ s with out := s.out ++ s.jobCompletion p r j o }.setJring p r { s.jring p r with
    job := none, phase := if done = 0 then !(s.jring p r).phase else (s.jring p r).phase }).setFld
    (Reg.PCJ_DONE_INDEX p r) done).tick (Reg.PCJ_JOBS p r)).setFld (Reg.PCJ_STATUS_UNVERIFIED p r) 0)

/-- The key of a job that began is released, and the end is posted. -/
def State.jobReleased (t : State) (p r : Nat) (j : Job) : State :=
  let t := if j.status = jobOk ∨ j.status = jobPathLost then t.keyEnd (descSlot j.desc) j.gen else t
  if t.flag (Reg.PCJ_CTRL_EVT_EN p r) then t.ringPost p r 0x0A5 (w32 j.index) else t

theorem State.jobReleased_ring (t : State) (p r : Nat) (j : Job) : RingSide t (t.jobReleased p r j) := by
  unfold jobReleased
  extract_lets t₁
  have hkey : RingSide t t₁ := by
    unfold t₁
    split
    · exact t.keyEnd_ring _ (descSlot_lt _)
    · exact RingSide.refl t
  clear_value t₁
  split
  · exact hkey.trans (RingSide.ringPost _ _ _ _ _)
  · exact hkey

/-- The output of such a job: none. -/
theorem JobGives.out {j : Job} {input : List Byte} {o : JobOut} (h : JobGives j input o) :
    (if j.status ≠ jobOk then { status := j.status } else jobCompute j input) = o ∧
      (o.status = 0 ∨ 2 ≤ o.status ∧ o.status ≤ 5) ∧ o.out = [] ∧
      (descStreams j.desc && decide (j.status = jobOk ∨ j.status = jobPathLost)) = false := by
  obtain ⟨hlo, hhi, rfl⟩ | ⟨hok, hmode, rfl⟩ := h
  · refine ⟨if_pos (by simp only [jobOk]; omega), Or.inr ⟨hlo, hhi⟩, rfl, ?_⟩
    rw [decide_eq_false (by simp only [jobOk, jobPathLost]; omega), Bool.and_false]
  · refine ⟨(if_neg (not_not_intro hok)).trans ?_, Or.inl rfl, rfl, ?_⟩
    · unfold jobCompute
      simp only [hmode]
    · rw [descStreams, hmode]
      rfl

/-- Nothing goes out but the completion. -/
theorem State.jobWrites_none {j : Job} {o : JobOut} (hout : o.out = [])
    (hstatus : o.status = 0 ∨ 2 ≤ o.status ∧ o.status ≤ 5) : s.jobWrites p j o false false = s := by
  unfold jobWrites
  extract_lets dst n send
  rw [if_neg fun h : o.status = jobTagFail ∧ false = true => Bool.false_ne_true h.2]
  split
  · exact if_pos hout
  · refine if_neg fun h => ?_
    have := h.1
    simp only [jobPathLost, jobDmaErr] at this
    omega

theorem State.jobComplete_eq {j : Job} {input : List Byte} {o : JobOut} (hjob : (s.jring p r).job = some j)
    (hpath : s.pathPcie p = true) (ho : JobGives j input o) :
    s.jobComplete p r input false = ((s.jobDone p r j o).jobReleased p r j).ringAfter p r := by
  obtain ⟨hgives, hstatus, hout, hstreams⟩ := ho.out
  unfold jobComplete
  extract_lets x
  rw [show x.job = some j from hjob]
  dsimp -zeta only
  extract_lets d k began o' streamed scrubbed c t₁ t₂ done t₃ t₄ t₅ t₆ t₇
  have ho' : o' = o := hgives
  have hstreamed : streamed = false := hstreams
  have hscrubbed : scrubbed = false := by
    unfold scrubbed
    rw [hstreamed]
    rfl
  have ht₁ : t₁ = s := by
    unfold t₁
    rw [ho', hstreamed, hscrubbed]
    exact State.jobWrites_none hout hstatus
  have ht₂ : t₂ = { s with out := s.out ++ s.jobCompletion p r j o } := by
    unfold t₂ c
    rw [if_pos hpath, ho', hstreamed, hscrubbed, ht₁, State.emit, State.emit]
    dsimp only
    rw [List.append_assoc]
    rfl
  have ht₅ : t₅ = s.jobDone p r j o := by
    unfold t₅ t₄ t₃
    rw [ht₂]
    rfl
  have ht₇ : t₇ = (s.jobDone p r j o).jobReleased p r j := by
    rw [← ht₅]
    rfl
  rw [ht₇]

/-- A ring goes on after a job on a PCIe path. -/
theorem State.ringAfter_spec (t : State) (p r : Nat) (hpath : t.pathFrames p = false) :
    (t.ringAfter p r).rings = t.rings ∧ (t.ringAfter p r).out = t.out ∧
      RegsBut t (t.ringAfter p r) [Reg.PCJ_STATUS p r] ∧
      (t.flag (Reg.PCJ_CTRL_EN p r) = true → (t.ringAfter p r).ringState p r = 1) := by
  unfold ringAfter
  rw [hpath]
  cases hen : t.flag (Reg.PCJ_CTRL_EN p r)
  · exact ⟨rfl, rfl, (RegsBut.refl t _).setFld (Reg.PCJ_STATUS_STATE p r) _ List.mem_cons_self,
      fun h => absurd h Bool.false_ne_true⟩
  · exact ⟨rfl, rfl, (RegsBut.refl t _).setFld (Reg.PCJ_STATUS_STATE p r) _ List.mem_cons_self,
      fun _ => State.fld_setFld_same _ _ _ (show 0 + 2 ≤ 32 by decide)⟩

/-- What the page's registers show of the job that ended. -/
structure JobEnded (s t : State) (p r : Nat) (j : Job) : Prop where
  job : (t.jring p r).job = none
  done : t.fld (Reg.PCJ_DONE_INDEX p r) = (j.index + 1) % 2 ^ (s.jring p r).size
  jobs : t.rd (Reg.PCJ_JOBS p r) = s.rd (Reg.PCJ_JOBS p r) + 1

theorem State.jobDone_spec (s : State) (p r : Nat) (j : Job) (o : JobOut) (hsize : (s.jring p r).size ≤ 12) :
    JobEnded s (s.jobDone p r j o) p r j ∧
      RegsBut s (s.jobDone p r j o) [Reg.PCJ_DONE p r, Reg.PCJ_JOBS p r, Reg.PCJ_STATUS p r] := by
  have hfits : (j.index + 1) % 2 ^ (s.jring p r).size < 2 ^ 12 :=
    Nat.lt_of_lt_of_le (Nat.mod_lt _ (Nat.two_pow_pos _)) (Nat.pow_le_pow_right (by decide) hsize)
  have hdone : Reg.PCJ_DONE p r ≠ Reg.PCJ_STATUS p r ∧ Reg.PCJ_DONE p r ≠ Reg.PCJ_JOBS p r := by
    simp only [Reg.PCJ_DONE, Reg.PCJ_STATUS, Reg.PCJ_JOBS]
    omega
  have hjobs : Reg.PCJ_JOBS p r ≠ Reg.PCJ_STATUS p r ∧ Reg.PCJ_JOBS p r ≠ Reg.PCJ_DONE p r := by
    simp only [Reg.PCJ_DONE, Reg.PCJ_STATUS, Reg.PCJ_JOBS]
    omega
  refine ⟨⟨?_, ?_, ?_⟩, ?_⟩
  · exact congrArg JobRing.job (Tbl.get_set_same (fun _ => {}) s.rings (2 * p + r) _)
  · unfold jobDone
    extract_lets done
    rw [State.fld_setFld_addr _ _ hdone.1, tick, State.fld_wr_ne _ _ hdone.2,
      State.fld_setFld_same _ _ _ (show 0 + 12 ≤ 32 by decide)]
    exact Nat.mod_eq_of_lt hfits
  · unfold jobDone
    extract_lets done
    rw [State.rd_setFld_ne _ _ hjobs.1, tick, State.rd_wr_same, State.rd_setFld_ne _ _ hjobs.2]
    rfl
  · unfold jobDone
    extract_lets done
    exact (((RegsBut.refl s _).setFld (Reg.PCJ_DONE_INDEX p r) _ List.mem_cons_self).wr _ (by simp)).setFld
      (Reg.PCJ_STATUS_UNVERIFIED p r) _ (by simp)

theorem JobEnded.ring {j : Job} {u : State} (hr : r < 2) (h : JobEnded s t p r j) (h' : RingSide t u) :
    JobEnded s u p r j := by
  have hdone := besideQueues_ring (p := p) hr (show 0x1c < 0x100 by decide)
  have hjobs := besideQueues_ring (p := p) hr (show 0x24 < 0x100 by decide)
  refine ⟨?_, (h'.fld hdone.1 hdone.2).trans h.done, (h'.regs _ hjobs.1 hjobs.2).trans h.jobs⟩
  rw [State.jring, h'.rings]
  exact h.job

/-- Whether the ring goes on is decided by registers that the end of a job leaves alone. -/
theorem State.jobReleased_goesOn (s : State) (p : Nat) (j : Job) (o : JobOut) (hr : r < 2)
    (hsize : (s.jring p r).size ≤ 12) :
    ((s.jobDone p r j o).jobReleased p r j).pathFrames p = s.pathFrames p ∧
      ((s.jobDone p r j o).jobReleased p r j).flag (Reg.PCJ_CTRL_EN p r) = s.flag (Reg.PCJ_CTRL_EN p r) := by
  obtain ⟨-, hregs⟩ := s.jobDone_spec p r j o hsize
  have hside := (s.jobDone p r j o).jobReleased_ring p r j
  generalize s.jobDone p r j o = t at *
  have hpath : t.rd (Reg.PG_PATH p) = s.rd (Reg.PG_PATH p) := hregs _ (by
    simp only [List.mem_cons, List.not_mem_nil, or_false, Reg.PG_PATH, Reg.PCJ_DONE, Reg.PCJ_JOBS, Reg.PCJ_STATUS]
    omega)
  have hctrl : t.rd (Reg.PCJ_CTRL p r) = s.rd (Reg.PCJ_CTRL p r) := hregs _ (by
    simp only [List.mem_cons, List.not_mem_nil, or_false, Reg.PCJ_CTRL, Reg.PCJ_DONE, Reg.PCJ_JOBS, Reg.PCJ_STATUS]
    omega)
  have hpath' := hside.regs (Reg.PG_PATH p) (by simp only [Reg.PG_PATH, Reg.pageBase]; omega)
    (by simp only [besideQueues, Reg.PG_PATH, Reg.pageBase]; omega)
  have hctrl' := hside.regs (Reg.PCJ_CTRL p r) (besideQueues_ring (off := 0) hr (by decide)).1
    (besideQueues_ring (off := 0) hr (by decide)).2
  exact ⟨congrArg (fun w : Word => decide (3 ≤ getBits w 8 3)) (hpath'.trans hpath),
    congrArg (fun w : Word => getBits w 0 1 == 1) (hctrl'.trans hctrl)⟩

theorem State.pathFrames_pcie (h : s.pathPcie p = true) : s.pathFrames p = false := by
  simp only [pathPcie, Bool.or_eq_true, beq_iff_eq] at h
  simp only [pathFrames, decide_eq_false_iff_not]
  omega

/-- A job ends: its completion has gone out, its ring goes on if it is enabled. -/
theorem State.jobComplete_spec {j : Job} {input : List Byte} {o : JobOut} (hr : r < 2)
    (hjob : (s.jring p r).job = some j) (hpath : s.pathPcie p = true) (hsize : (s.jring p r).size ≤ 12)
    (ho : JobGives j input o) :
    ∃ u : State, s.jobComplete p r input false = u ∧ s.out ++ s.jobCompletion p r j o <+: u.out ∧
      JobEnded s u p r j ∧ (s.flag (Reg.PCJ_CTRL_EN p r) = true → u.ringState p r = 1) := by
  obtain ⟨hended, -⟩ := s.jobDone_spec p r j o hsize
  have hside := (s.jobDone p r j o).jobReleased_ring p r j
  obtain ⟨hframes, hen⟩ := s.jobReleased_goesOn p j o hr hsize
  have hended' := hended.ring hr hside
  have hout : s.out ++ s.jobCompletion p r j o <+: ((s.jobDone p r j o).jobReleased p r j).out := hside.out
  refine ⟨_, State.jobComplete_eq hjob hpath ho, ?_⟩
  generalize (s.jobDone p r j o).jobReleased p r j = t at *
  obtain ⟨hrings, hout', hregs, hstate⟩ := t.ringAfter_spec p r (hframes.trans (State.pathFrames_pcie hpath))
  refine ⟨by rw [hout']; exact hout, ⟨?_, ?_, ?_⟩, fun h => hstate (hen.trans h)⟩
  · rw [jring, hrings]
    exact hended'.job
  · have hne : Reg.PCJ_DONE p r ∉ [Reg.PCJ_STATUS p r] := by
      simp only [List.mem_singleton, Reg.PCJ_DONE, Reg.PCJ_STATUS]
      omega
    rw [fld, hregs _ hne]
    exact hended'.done
  · have hne : Reg.PCJ_JOBS p r ∉ [Reg.PCJ_STATUS p r] := by
      simp only [List.mem_singleton, Reg.PCJ_JOBS, Reg.PCJ_STATUS]
      omega
    rw [hregs _ hne]
    exact hended'.jobs

end Sys2Proof.Machine

open Sys2Proof.Machine in
/-- Settles O55: the use of a key and the posting of events leave the rings and the registers of a page alone. -/
theorem jobsRun : Obligations.JobsRun := by
  unfold Obligations.JobsRun
  intro p r s
  have hr : (r : Nat) < 2 := r.isLt
  refine ⟨fun index h hpath => ?_, fun desc h hrun hfree hnext hsize => ?_,
    fun j input o h hjob hpath hsize ho => ?_⟩
  · refine completes_onWrite (fun s t : State => { s with regs := t.regs, eqs := t.eqs, out := t.out }) h rfl
      (fun _ => ⟨rfl, rfl⟩) (s.ringProd_spec p r index.toNat hpath) ⟨?_, rfl, ?_⟩
    · exact (State.fld_setFld_same _ _ _ (show 0 + 12 ≤ 32 by decide)).trans (Nat.mod_eq_of_lt index.isLt)
    · exact (RegsBut.refl s _).setFld (Reg.PCJ_PROD_INDEX p r) _ List.mem_cons_self
  · obtain ⟨u, hop, htaken, hcount, hslots⟩ := State.jobStart_spec hr hrun hfree hnext hsize
    exact completes_framed (fun s => s.jobStart p r desc) (fun s t : State => { s with
      regs := t.regs, eqs := t.eqs, out := t.out, slots := t.slots, rings := t.rings, jobTurn := t.jobTurn }) h rfl
      (fun _ => ⟨rfl, rfl⟩) hop ⟨⟨_, htaken.job, rfl, rfl, rfl⟩, htaken.cons, htaken.state, hcount, hslots⟩
  · obtain ⟨u, hop, hout, hended, hstate⟩ := State.jobComplete_spec hr hjob hpath hsize ho
    exact completes_framed (fun s => s.jobComplete p r input false) (fun s t : State => { s with
      regs := t.regs, eqs := t.eqs, out := t.out, freeCnt := t.freeCnt, slots := t.slots, rings := t.rings }) h rfl
      (fun _ => ⟨rfl, rfl⟩) hop ⟨hout, hended.job, hended.done, hended.jobs, hstate⟩
end

section
/-!
A path whose lane is retired (R375, R460). PATH_UP takes a path only while its SerDes lanes serve, of which the statement
says nothing.
-/

namespace Sys2Proof.Machine

/-- Page 0 has path 1 as its primary path, and lane 0 of that PCIe link is out of service. -/
def retiredLane : State := { State.reset.setByte 0x19100C 1 with hlt := { badLanes := [0] } }

theorem retiredLane_meets : retiredLane.awake ∧ retiredLane.bridge.withheld = [] ∧
    (∀ q : Sys2Proof.PageNo, (retiredLane.page q).selected = none) ∧ retiredLane.named 0 1 = true ∧
    retiredLane.pathIsUp 0 1 = false ∧ retiredLane.dev.perst = 0 ∧ (retiredLane.page 0).took16 = none := by
  decide +kernel

/-- Its path is not up after PATH_UP. -/
theorem retiredLane_stays : (match exec (.pathUp 0 1) retiredLane with
    | .next t => t.pathIsUp 0 1
    | _ => true) = false := by decide +kernel

end Sys2Proof.Machine

open Sys2Proof.Machine in
/-- Refutes O50: a path of which a SerDes lane is retired does not come up, though the page names it and no PERST holds
its link. -/
theorem not_pathsFailOver : ¬ Obligations.PathsFailOver := by
  intro h
  obtain ⟨hawake, hheld, hselected, hnamed, hdown, hperst, htook⟩ := retiredLane_meets
  obtain ⟨-, -, hup, -⟩ := h 0 1 retiredLane
  obtain ⟨t, hexec, hpath, -⟩ := hup hawake ⟨hheld, hselected⟩ hnamed hdown (by decide) hperst htook
  have hstays := retiredLane_stays
  rw [show exec (.pathUp 0 1) retiredLane = .next t from hexec] at hstays
  exact Bool.false_ne_true (hstays.symm.trans hpath)

end

section
/-!
Paths of a page that fail (R372, R373), as PERST makes them fail (R483): a path that is shown down stays down while
another takes its place.
-/

namespace Sys2Proof.Machine

variable {s t : State} {p : Nat}

/-! ## What a failing path leaves of the others -/

/-- What decides the paths of the pages is as before, and no path comes up; nothing is withheld or selected that was
not. -/
structure PathSide (s t : State) : Prop where
  mem : t.mem = s.mem
  dev : t.dev = s.dev
  cause : t.rd Reg.HLT_RESET_CAUSE = s.rd Reg.HLT_RESET_CAUSE
  withheld : s.bridge.withheld = [] → t.bridge.withheld = []
  selected : ∀ q : Nat, (s.page q).selected = none → (t.page q).selected = none
  down : ∀ q lsb, lsb ≤ 1 → s.flag ⟨Reg.PG_PATH_STATUS q, lsb, 1⟩ = false →
    t.flag ⟨Reg.PG_PATH_STATUS q, lsb, 1⟩ = false

/-- A register that is no PG_PATH_STATUS, nor HLT_RESET_CAUSE. -/
abbrev besidePaths (a : Nat) : Prop := a % 0x100000 ≠ 8 ∧ a ≠ Reg.HLT_RESET_CAUSE

theorem besidePaths.ne {a : Nat} (h : besidePaths a) (q : Nat) : Reg.PG_PATH_STATUS q ≠ a := by
  obtain ⟨hoff, -⟩ := h
  simp only [Reg.PG_PATH_STATUS, Reg.pageBase]
  omega

namespace PathSide

theorem refl (s : State) : PathSide s s := ⟨rfl, rfl, rfl, id, fun _ => id, fun _ _ _ => id⟩

theorem trans {u : State} (h : PathSide s t) (h' : PathSide t u) : PathSide s u :=
  ⟨h'.mem.trans h.mem, h'.dev.trans h.dev, h'.cause.trans h.cause, fun hw => h'.withheld (h.withheld hw),
    fun q hq => h'.selected q (h.selected q hq), fun q lsb hl hd => h'.down q lsb hl (h.down q lsb hl hd)⟩

theorem wr (s : State) {a : Nat} (v : Word) (h : besidePaths a) : PathSide s (s.wr a v) :=
  ⟨rfl, rfl, s.rd_wr_ne v (Ne.symm h.2), id, fun _ => id, fun q _ _ hd => (State.flag_wr_ne _ _ (h.ne q)).trans hd⟩

theorem setFld (s : State) (f : Fld) (v : Nat) (h : besidePaths f.addr) : PathSide s (s.setFld f v) := wr s _ h

/-- A bit of PG_PATH_STATUS above PRI_UP and SEC_UP. -/
theorem status (s : State) (p lsb v : Nat) (hlo : 2 ≤ lsb) (hhi : lsb < 32) :
    PathSide s (s.setFld ⟨Reg.PG_PATH_STATUS p, lsb, 1⟩ v) := by
  have hcause : Reg.HLT_RESET_CAUSE ≠ Reg.PG_PATH_STATUS p := by
    simp only [Reg.PG_PATH_STATUS, Reg.pageBase, Reg.HLT_RESET_CAUSE]
    omega
  refine
    ⟨rfl, rfl, s.rd_setFld_ne _ hcause, id, fun _ => id, fun q k hk hd => (State.flag_setFld_apart _ _ ?_).trans hd⟩
  simp only [Fld.apart]
  omega

theorem lower (s : State) (p lsb : Nat) (hlsb : lsb ≤ 1) :
    PathSide s (s.setFld ⟨Reg.PG_PATH_STATUS p, lsb, 1⟩ 0) := by
  have hcause : Reg.HLT_RESET_CAUSE ≠ Reg.PG_PATH_STATUS p := by
    simp only [Reg.PG_PATH_STATUS, Reg.pageBase, Reg.HLT_RESET_CAUSE]
    omega
  refine ⟨rfl, rfl, s.rd_setFld_ne _ hcause, id, fun _ => id, fun q k hk hd => ?_⟩
  by_cases hsame : q = p ∧ k = lsb
  · rw [hsame.1, hsame.2]
    exact State.flag_setFld_zero _ _ (show lsb + 1 ≤ 32 by omega)
  · refine (State.flag_setFld_apart _ _ ?_).trans hd
    simp only [Fld.apart, Reg.PG_PATH_STATUS, Reg.pageBase]
    omega

theorem setPage (s : State) (p : Nat) {x : PageState} (hx : (s.page p).selected = none → x.selected = none) :
    PathSide s (s.setPage p x) := by
  refine ⟨rfl, rfl, rfl, id, fun q hq => ?_, fun _ _ _ => id⟩
  by_cases heq : q = p
  · rw [heq, State.page_setPage_same]
    exact hx (heq ▸ hq)
  · rw [State.page, State.setPage, Tbl.get_set_ne _ _ _ heq]
    exact hq

/-- An entry posted to a queue of a page. -/
theorem posted (s : State) (p q : Nat) (e : DWord) (hq : q < 4) :
    PathSide s { s with
      regs := (s.postTo p q e).regs, eqs := (s.postTo p q e).eqs, out := (s.postTo p q e).out } := by
  have hstatus : ∀ k, (s.postTo p q e).rd (Reg.PG_PATH_STATUS k) = s.rd (Reg.PG_PATH_STATUS k) := fun k =>
    s.postTo_rd_beside e hq (by simp only [besideQueues, Reg.PG_PATH_STATUS, Reg.pageBase]; omega)
  have hcause : (s.postTo p q e).rd Reg.HLT_RESET_CAUSE = s.rd Reg.HLT_RESET_CAUSE :=
    s.postTo_rd_beside e hq (by decide)
  exact ⟨rfl, rfl, hcause, id, fun _ => id,
    fun k lsb _ hd => (congrArg (fun w : Word => getBits w lsb 1 == 1) (hstatus k)).trans hd⟩

theorem ringPost (s : State) (p r code : Nat) (data : Word) : PathSide s (s.ringPost p r code data) :=
  posted s p _ _ (bits_lt _ _ 2)

theorem postPage (s : State) (p code src : Nat) (data : Word) : PathSide s (s.postPage p code src data) := by
  refine posted s p _ _ ?_
  split
  · exact bits_lt _ _ 2
  · decide

theorem emit (s : State) (e : Emit) : PathSide s (s.emit e) := ⟨rfl, rfl, rfl, id, fun _ => id, fun _ _ _ => id⟩

end PathSide

/-! ## A path becomes active -/

theorem besidePaths_page {p off : Nat} (hoff : off < 0x100000) (h8 : off ≠ 8) : besidePaths (Reg.pageBase p + off) := by
  simp only [besidePaths, Reg.pageBase, Reg.HLT_RESET_CAUSE]
  omega

theorem besidePaths_ring {p r off : Nat} (hr : r < 2) (hoff : off < 0x100) :
    besidePaths (Reg.pageBase p + (0x20000 + off) + 0x100 * r) := by
  simp only [besidePaths, Reg.pageBase, Reg.HLT_RESET_CAUSE]
  omega

theorem State.ringNoDma_path (s : State) (p : Nat) {r : Nat} (hr : r < 2) : PathSide s (s.ringNoDma p r) := by
  have hstatus : besidePaths (Reg.PCJ_STATUS p r) := besidePaths_ring (off := 0x20) hr (by decide)
  exact (((PathSide.setFld s _ _ hstatus).trans (PathSide.setFld _ _ _ hstatus)).trans
    (PathSide.setFld _ _ _ hstatus)).trans (PathSide.ringPost _ _ _ _ _)

theorem State.ringPath_path (s : State) (p : Nat) {r : Nat} (hr : r < 2) : PathSide s (s.ringPath p r) := by
  unfold ringPath
  extract_lets x
  split
  · unfold ringCheck
    split
    · exact s.ringNoDma_path p hr
    · exact PathSide.refl s
  · exact ⟨rfl, rfl, rfl, id, fun _ => id, fun _ _ _ => id⟩

theorem State.endAshlar_path (s : State) (p : Nat) (a : Ashlar) (status : Nat) :
    PathSide s (s.endAshlar p a status) := by
  have hstatus : besidePaths (Reg.PSG_ASH_STATUS p) := besidePaths_page (off := 0x10110) (by decide) (by decide)
  rw [State.endAshlar_eq]
  refine PathSide.trans ?_ (PathSide.postPage _ _ _ _ _)
  unfold ashlarEnded
  extract_lets t₁ src t₂ t₃
  have hpage : PathSide t₁ (t₁.setPage p { t₁.page p with ashlar := none }) := PathSide.setPage t₁ p id
  have h₃ : PathSide s t₃ := ((PathSide.emit s _).trans hpage).trans
    (PathSide.setFld t₂ (Reg.PSG_ASH_STATUS_STATE p) _ hstatus)
  clear_value t₃
  split
  · exact h₃.trans (PathSide.setFld _ (Reg.PSG_ASH_STATUS_RETRY_EXHAUSTED p) _ hstatus)
  · exact h₃

theorem State.restartAshlar_path (s : State) (p : Nat) (a : Ashlar) : PathSide s (s.restartAshlar p a) := by
  unfold restartAshlar
  split
  · exact s.endAshlar_path p a 1
  · extract_lets e b src t₁ t₂
    have hstatus : besidePaths (Reg.PSG_ASH_STATUS p) := besidePaths_page (off := 0x10110) (by decide) (by decide)
    have hepoch : besidePaths (Reg.PSG_ASH_EPOCH p) := besidePaths_page (off := 0x10114) (by decide) (by decide)
    have h₁ : PathSide s t₁ := PathSide.setPage s p id
    exact (h₁.trans (PathSide.setFld t₁ (Reg.PSG_ASH_STATUS_RESTARTS p) _ hstatus)).trans (PathSide.wr t₂ _ hepoch)

theorem State.pathTake_path (s : State) (p x : Nat) : PathSide s (s.pathTake p x) := by
  unfold pathTake
  extract_lets t₁ src t₂ t₃
  have hactive : besidePaths (Reg.PG_PATH p) := besidePaths_page (off := 4) (by decide) (by decide)
  have h₂ : PathSide s t₂ := ((PathSide.setFld s _ _ hactive).trans
    (PathSide.status _ p 4 0 (by decide) (by decide))).trans (PathSide.setPage t₁ p fun _ => rfl)
  have h₃ : PathSide t₂ t₃ := by
    unfold t₃
    split
    · exact t₂.restartAshlar_path p _
    · exact PathSide.refl t₂
  exact h₂.trans (h₃.trans ((t₃.ringPath_path p (by decide)).trans (State.ringPath_path _ p (by decide))))

theorem State.signalAgain_path (s : State) (p : Nat) : PathSide s (s.signalAgain p) := by
  unfold signalAgain
  generalize List.range 4 = qs
  induction qs generalizing s with
  | nil => exact PathSide.refl s
  | cons q qs ih =>
    refine PathSide.trans ?_ (ih _)
    dsimp only
    split
    · exact ⟨rfl, rfl, rfl, id, fun _ => id, fun _ _ _ => id⟩
    · exact PathSide.refl s

theorem State.pathSwitched_path (s : State) (p x : Nat) : PathSide s (s.pathSwitched p x) := by
  unfold pathSwitched
  extract_lets t₁ t₂
  have hcount : besidePaths (Reg.PG_SWITCH_CNT p) := besidePaths_page (off := 0x1c) (by decide) (by decide)
  have h₂ : PathSide s t₂ := ((PathSide.status s p 3 1 (by decide) (by decide)).trans
    (PathSide.wr _ _ hcount)).trans (PathSide.postPage t₁ _ _ _ _)
  clear_value t₂
  split
  · exact h₂.trans (PathSide.emit _ _)
  · exact h₂

/-! ## A path fails -/

theorem State.dropOps_path (s : State) (p x : Nat) : PathSide s (s.dropOps p x) := by
  unfold dropOps
  extract_lets gone lost b cur keepOp keepAcc keepHeld src t
  have hpeak : besidePaths (Reg.PG_OUTSTANDING p) := besidePaths_page (off := 0x14) (by decide) (by decide)
  have hpage : PathSide s (s.setPage p { s.page p with outstanding := (s.page p).outstanding.filter keepOp }) :=
    PathSide.setPage s p id
  have ht : PathSide s t := hpage.trans (PathSide.setFld _ _ _ hpeak)
  refine ⟨ht.mem, ht.dev, ht.cause, fun h => ?_, ht.selected, ht.down⟩
  change (s.bridge.withheld.filter keepHeld) = []
  rw [h]
  rfl

/-- The paths of a page are its option bytes, which a failing path leaves alone. -/
theorem PathSide.paths (h : PathSide s t) (p : Nat) : t.primary p = s.primary p ∧ t.secondary p = s.secondary p := by
  have hbyte : ∀ off, t.optByte off = s.optByte off := fun off => by
    rw [State.optByte, State.byte, h.mem, State.optByte, State.byte]
  have hfail : t.flag Reg.HLT_RESET_CAUSE_OPT_FAIL = s.flag Reg.HLT_RESET_CAUSE_OPT_FAIL := by
    rw [State.flag, State.fld, h.cause, State.flag, State.fld]
  exact ⟨by rw [State.primary, hfail, hbyte, State.primary], by rw [State.secondary, hbyte, State.secondary]⟩

/-- No path comes up. -/
theorem PathSide.stays (h : PathSide s t) {p x : Nat} (hdown : s.pathIsUp p x = false) : t.pathIsUp p x = false := by
  obtain ⟨hpri, hsec⟩ := h.paths p
  have hp := h.down p 0 (by decide)
  have hs := h.down p 1 (by decide)
  simp only [State.pathIsUp, hpri, hsec, Bool.and_eq_false_iff, Bool.or_eq_false_iff] at hdown ⊢
  exact hdown.imp id fun ⟨h₀, h₁⟩ => ⟨h₀.imp id hp, h₁.imp id hs⟩

/-- A path that is shown down. -/
theorem State.showPath_down (s : State) (p x : Nat) :
    PathSide s (s.showPath p x 0) ∧ (s.showPath p x 0).pathIsUp p x = false := by
  unfold showPath
  extract_lets t
  have ht : PathSide s t := by
    unfold t
    split
    · exact PathSide.lower s p 0 (by decide)
    · exact PathSide.refl s
  have hpri : (x == t.primary p && t.flag (Reg.PG_PATH_STATUS_PRI_UP p)) = false := by
    rw [(ht.paths p).1]
    unfold t
    split
    case isTrue h => rw [State.flag_setFld_zero _ _ (show 0 + 1 ≤ 32 by decide), Bool.and_false]
    case isFalse h => rw [beq_eq_false_iff_ne.mpr h, Bool.false_and]
  rw [← (ht.paths p).2]
  clear_value t
  split
  case isTrue h =>
    have hlow := PathSide.lower t p 1 (by decide)
    refine ⟨ht.trans hlow, ?_⟩
    have happart : (Reg.PG_PATH_STATUS_SEC_UP p).apart (Reg.PG_PATH_STATUS_PRI_UP p) := by simp [Fld.apart]
    rw [pathIsUp, (hlow.paths p).1, State.flag_setFld_apart _ _ happart, hpri,
      State.flag_setFld_zero _ _ (show 1 + 1 ≤ 32 by decide), Bool.and_false, Bool.or_false, Bool.and_false]
  case isFalse h =>
    refine ⟨ht, ?_⟩
    rw [pathIsUp, hpri, beq_eq_false_iff_ne.mpr h, Bool.false_and, Bool.or_false, Bool.and_false]

theorem State.pathDown_path (s : State) (p x : Nat) :
    PathSide s (s.pathDown p x) ∧ (s.pathDown p x).pathIsUp p x = false := by
  unfold pathDown
  cases hup : s.pathIsUp p x
  case false => exact ⟨PathSide.refl s, hup⟩
  case true =>
    obtain ⟨hshown, hdown⟩ := s.showPath_down p x
    have hall : ∀ u, PathSide (s.showPath p x 0) u → PathSide s u ∧ u.pathIsUp p x = false := fun u hu =>
      ⟨hshown.trans hu, hu.stays hdown⟩
    rw [Bool.not_true, if_neg Bool.false_ne_true]
    extract_lets t t₁
    have hdrop : PathSide t t₁ := t.dropOps_path p x
    clear_value t₁
    split
    · split
      · exact hall _ (hdrop.trans (((t₁.pathTake_path p _).trans (State.signalAgain_path _ p)).trans
          (State.pathSwitched_path _ p _)))
      · have hactive : besidePaths (Reg.PG_PATH p) := besidePaths_page (off := 4) (by decide) (by decide)
        exact hall _ (hdrop.trans ((((PathSide.setFld t₁ (Reg.PG_PATH_ACTIVE p) 0 hactive).trans
          (PathSide.status _ p 4 1 (by decide) (by decide))).trans (State.ringPath_path _ p (by decide))).trans
          (State.ringPath_path _ p (by decide))))
    · exact hall _ (t.dropOps_path p x)

/-- A PCIe path that fails on a page is down there. -/
theorem State.pathFail_pcie (s : State) (p : Nat) {x : Nat} (hx : x < 4) :
    PathSide s (s.pathFail p x) ∧ (s.pathFail p x).pathIsUp p x = false := by
  unfold pathFail
  have hlink : ∀ t : State, t.hostLink x false = t := fun t => if_neg (Nat.not_le.mpr hx)
  rw [hlink]
  split
  · exact s.pathDown_path p x
  case isFalse h =>
    refine ⟨PathSide.refl s, ?_⟩
    rw [State.named, Bool.not_eq_true, Bool.and_eq_false_iff, Bool.or_eq_false_iff] at h
    rw [pathIsUp, Bool.and_eq_false_iff, Bool.or_eq_false_iff, Bool.and_eq_false_iff, Bool.and_eq_false_iff]
    exact h.imp id fun ⟨h₀, h₁⟩ => ⟨Or.inl h₀, Or.inl h₁⟩

/-- A PCIe link that is down has no path up. -/
theorem State.pcieDown_spec (s : State) {n : Nat} (hn : n < 2) :
    PathSide s (s.pcieDown n) ∧ ∀ q < 8, (s.pcieDown n).pathIsUp q (n + 1) = false := by
  have hfail : ∀ (t : State) (p : Nat), PathSide t (t.pathFail p (n + 1)) ∧ _ := fun t p =>
    t.pathFail_pcie p (Nat.lt_of_lt_of_le (Nat.succ_lt_succ hn) (by decide))
  have hall : ∀ q < 8, PathSide s (s.pcieDown n) ∧ (s.pcieDown n).pathIsUp q (n + 1) = false := fun q hq =>
    foldl_reaches (Q := fun t => PathSide s t) (R := fun t => t.pathIsUp q (n + 1) = false)
      (fun t p ht => ht.trans (hfail t p).1) (fun t _ => (hfail t q).2) (fun t p _ hr => (hfail t p).1.stays hr) _
      (List.mem_range.mpr hq) s (PathSide.refl s)
  exact ⟨(hall 0 (by decide)).1, fun q hq => (hall q hq).2⟩

/-! ## PERST -/

/-- The pages with MSI-X off on link `n`. -/
def State.msixOff (s : State) (n : Nat) : State :=
  (List.range 8).foldl (fun (t : State) p =>
    t.setPage p { t.page p with msixOn := (t.page p).msixOn.set n false }) s

theorem State.msixOff_spec (s : State) (n : Nat) :
    PathSide s (s.msixOff n) ∧ ∀ q < 8, ((s.msixOff n).page q).msixOn.getD n false = false := by
  have hset : ∀ l : List Bool, (l.set n false).getD n false = false := fun l => by
    rw [List.getD_eq_getElem?_getD, List.getElem?_set_self']
    cases l[n]? <;> rfl
  have hkeep : ∀ (t : State) p, PathSide t (t.setPage p { t.page p with msixOn := (t.page p).msixOn.set n false }) :=
    fun t p => PathSide.setPage t p id
  have hall : ∀ q < 8, PathSide s (s.msixOff n) ∧ ((s.msixOff n).page q).msixOn.getD n false = false := fun q hq =>
    foldl_reaches (Q := fun t => PathSide s t) (R := fun t => (t.page q).msixOn.getD n false = false)
      (fun t p ht => ht.trans (hkeep t p))
      (fun t _ => (congrArg (·.msixOn.getD n false) (State.page_setPage_same t q _)).trans (hset _))
      (fun t p hp hr => by rw [State.page, State.setPage, Tbl.get_set_ne _ _ _ (Ne.symm hp)]; exact hr) _
      (List.mem_range.mpr hq) s (PathSide.refl s)
  exact ⟨(hall 0 (by decide)).1, fun q hq => (hall q hq).2⟩

/-- A low PERST fails the paths of its link on every page. -/
theorem State.perst_low {n : Nat} (h : s.awake) (hsettled : s.settled) (hn : n < 2) :
    ∃ u : State, (s.perst n true).opsSettle = u ∧ u.dev = { s.dev with perst := setBit s.dev.perst n true } ∧
      u.mem = s.mem ∧ (∀ q < 8, u.pathIsUp q (n + 1) = false) ∧ ∀ q < 8, (u.page q).msixOn.getD n false = false := by
  obtain ⟨hheld, hselected⟩ := hsettled
  have hop : s.perst n true =
      (State.pcieDown { s with dev := { s.dev with perst := setBit s.dev.perst n true } } n).msixOff n :=
    if_pos (by rw [Bool.true_and, Bool.not_eq_true']; exact h)
  obtain ⟨hside, hdown⟩ := State.pcieDown_spec { s with dev := { s.dev with perst := setBit s.dev.perst n true } } hn
  generalize State.pcieDown { s with dev := { s.dev with perst := setBit s.dev.perst n true } } n = t at *
  obtain ⟨hoff, hmsix⟩ := t.msixOff_spec n
  have hboth := hside.trans hoff
  refine ⟨t.msixOff n, ?_, hboth.dev, hboth.mem, fun q hq => hoff.stays (hdown q hq), hmsix⟩
  rw [hop]
  exact State.opsSettle_settled ⟨hboth.withheld hheld, fun q => hboth.selected q (hselected q)⟩

end Sys2Proof.Machine

end

section
/-!
Resets, supplies and input pins (R445 to R449, R472 to R483).
-/

namespace Sys2Proof.Machine

variable {s t : State}

/-! ## What a reset keeps -/

/-- A field whose bits are all kept stays. -/
theorem getBits_maskIn {m lsb n : Nat} (old v : Word) (hm : ∀ i < n, m.testBit (lsb + i) = true) (hw : lsb + n ≤ 32) :
    getBits (maskIn old v m) lsb n = getBits v lsb n := by
  refine Nat.eq_of_testBit_eq fun i => ?_
  simp only [getBits, Nat.testBit_mod_two_pow, Nat.testBit_div_two_pow, BitVec.testBit_toNat]
  by_cases hi : i < n
  · have hbit : lsb + i < 32 := by omega
    have hkept : (BitVec.ofNat 32 m)[lsb + i] = true := by
      rw [← BitVec.getLsbD_eq_getElem, BitVec.getLsbD_ofNat, decide_eq_true hbit, Bool.true_and, hm i hi]
    simp [maskIn, hkept, hbit, hi, Nat.add_comm i lsb]
  · simp [hi]

theorem maskIn_all (old v : Word) : maskIn old v 0xFFFFFFFF = v := by
  have hall : BitVec.ofNat 32 0xFFFFFFFF = BitVec.allOnes 32 := by decide
  simp only [maskIn, hall, BitVec.not_allOnes, BitVec.and_zero, BitVec.and_allOnes, BitVec.zero_or]

/-- What a run of writes leaves at each key it writes. -/
theorem Tbl.get_foldl_set {α : Type} [DecidableEq α] {d : Nat → α} (f : Nat → α) (l : List Nat) (t : Tbl α) (a : Nat) :
    Tbl.get d (l.foldl (fun t a => Tbl.set d t a (f a)) t) a = if a ∈ l then f a else Tbl.get d t a := by
  induction l generalizing t with
  | nil => simp
  | cons k l ih =>
    rw [List.foldl_cons, ih]
    by_cases hl : a ∈ l
    · simp [hl]
    · by_cases hk : a = k
      · simp [hk]
      · simp [hl, hk, Tbl.get_set_ne d t (f k) hk]

theorem State.keptRegTbl_get (s : State) (por : Bool) {a : Nat} (ha : a ∈ keptRegs) :
    Tbl.get regDefault (s.keptRegTbl por) a = maskIn (regDefault a) (s.rd a) (keptBits por a) := by
  unfold keptRegTbl
  generalize keptRegs = l at ha
  exact (Tbl.get_foldl_set _ l [] a).trans (if_pos ha)

theorem State.resetClear_dev (s : State) (por : Bool) : (s.resetClear por).dev =
    { supplies := s.dev.supplies, classes := s.dev.classes, resetN := s.dev.resetN, held := true,
      por := por || (s.dev.held && s.dev.por), perst := s.dev.perst } := by
  simp only [resetClear]

theorem State.resetClear_keeps (s : State) (por : Bool) : (s.resetClear por).flash = s.flash ∧
    (s.resetClear por).stores = s.stores ∧ (s.resetClear por).archive = s.archive := by
  simp only [resetClear, and_self]

theorem State.resetClear_mem (s : State) (por : Bool) :
    (s.resetClear por).mem = s.keptMem (por || (s.dev.held && s.dev.por)) := by
  simp only [resetClear]

theorem State.resetClear_regs (s : State) (por : Bool) :
    (s.resetClear por).regs = s.keptRegTbl (por || (s.dev.held && s.dev.por)) := by
  simp only [resetClear]

theorem State.resetClear_rd (s : State) (por : Bool) {a : Nat} (ha : a ∈ keptRegs) :
    (s.resetClear por).rd a = maskIn (regDefault a) (s.rd a) (keptBits (por || (s.dev.held && s.dev.por)) a) := by
  rw [rd, resetClear_regs, keptRegTbl_get _ _ ha]

/-- A key whose entry is kept reads as before. -/
theorem Tbl.get_filter {α : Type} [DecidableEq α] {d : Nat → α} {t : Tbl α} (p : Nat × α → Bool) {a : Nat}
    (hwf : Tbl.wf d t = true) (ha : ∀ v, p (a, v) = true) : Tbl.get d (t.filter p) a = Tbl.get d t a := by
  induction t with
  | nil => rfl
  | cons x t ih =>
    obtain ⟨b, v⟩ := x
    rw [Tbl.wf, Bool.and_eq_true, Bool.and_eq_true] at hwf
    obtain ⟨⟨-, habove⟩, hwf⟩ := hwf
    have hrest := ih hwf
    rw [List.filter_cons]
    cases hp : p (b, v) with
    | true => rw [if_pos rfl, Tbl.get, Tbl.get, hrest]
    | false =>
      have hne : a ≠ b := fun h => absurd (h ▸ ha v) (by rw [hp]; decide)
      rw [if_neg Bool.false_ne_true, hrest, Tbl.get, if_neg hne]
      split
      · exact Tbl.get_of_startsAbove d habove (by omega)
      · rfl

/-- RESET_N keeps the retained memory. -/
theorem State.resetClear_byte (hwf : Memory.wf s = true) (h : s.awake) {a : Nat} (hlo : 0x193000 ≤ a)
    (hhi : a < 0x196000) : (s.resetClear false).byte a = s.byte a := by
  rw [Memory.wf, Bool.and_eq_true] at hwf
  have hpor : (false || (s.dev.held && s.dev.por)) = false := by rw [h]; rfl
  rw [byte, resetClear_mem, hpor]
  exact Tbl.get_filter _ hwf.1 fun v => by simp only [hlo, hhi, decide_true, Bool.and_self]

/-- What RESET_N keeps of the registers: the backup registers, and the replace state with its reasons. -/
theorem State.resetClear_kept (h : s.awake) :
    (∀ k : Fin 16, (s.resetClear false).rd (Reg.HLT_BACKUP k) = s.rd (Reg.HLT_BACKUP k)) ∧
    (s.resetClear false).flag Reg.HLT_STATUS_REPLACE = s.flag Reg.HLT_STATUS_REPLACE ∧
    (s.resetClear false).fld Reg.HLT_STATUS_REASON = s.fld Reg.HLT_STATUS_REASON := by
  have hpor : (false || (s.dev.held && s.dev.por)) = false := by rw [h]; rfl
  have hall : ∀ k : Fin 16, Reg.HLT_BACKUP k ∈ keptRegs ∧ keptBits false (Reg.HLT_BACKUP k) = 0xFFFFFFFF := by decide
  have hstatus : (s.resetClear false).rd Reg.HLT_STATUS =
      maskIn (regDefault Reg.HLT_STATUS) (s.rd Reg.HLT_STATUS) 0x800000BF := by
    have hrd := s.resetClear_rd false (a := Reg.HLT_STATUS) (by decide)
    rw [hpor] at hrd
    exact hrd
  refine ⟨fun k => ?_, ?_, ?_⟩
  · obtain ⟨hmem, hbits⟩ := hall k
    rw [s.resetClear_rd false hmem, hpor, hbits, maskIn_all]
  · rw [flag, fld, hstatus, getBits_maskIn _ _ (by decide) (by decide)]
    rfl
  · rw [fld, hstatus, getBits_maskIn _ _ (by decide) (by decide)]
    rfl

/-! ## Supplies and RESET_N -/

theorem State.cleared.pending (h : s.cleared) (p : List Instr) : State.cleared { s with pending := p } := h

theorem completes_always {c : Instr} {P : State → Prop} (f : State → State) (hexec : exec c s = always s f)
    (hP : P { f s with pending := s.pending }) : Completes c s P := ⟨_, hexec, hP⟩

theorem completes_powerOn (s : State) {x : Supply} {k : Nat} (hx : supplyBit x = some k) :
    Completes (.powerOn x) s fun t =>
      t.dev.held = true ∧ t.dev.por = true ∧ t.cleared ∧ t.dev.supplies = setBit s.dev.supplies k false ∧
      t.flash = s.flash ∧ t.stores = s.stores ∧ t.archive = s.archive := by
  have hop : s.supplyFalls x =
      State.resetClear { s with dev := { s.dev with supplies := setBit s.dev.supplies k false } } true := by
    cases x with
    | vioF n => cases hx
    | _ => cases hx; rfl
  have hclear := State.resetClear_cleared
    { s with dev := { s.dev with supplies := setBit s.dev.supplies k false } } true
  have hdev := State.resetClear_dev { s with dev := { s.dev with supplies := setBit s.dev.supplies k false } } true
  obtain ⟨hflash, hstores, harchive⟩ :=
    State.resetClear_keeps { s with dev := { s.dev with supplies := setBit s.dev.supplies k false } } true
  refine completes_always (fun s => s.supplyFalls x) rfl ?_
  rw [hop]
  generalize State.resetClear { s with dev := { s.dev with supplies := setBit s.dev.supplies k false } } true = u at *
  exact ⟨congrArg DevState.held hdev, congrArg DevState.por hdev, hclear.pending s.pending,
    congrArg DevState.supplies hdev, hflash, hstores, harchive⟩

theorem exec_supplyValid (s : State) {x : Supply} {k : Nat} (hx : supplyBit x = some k) :
    exec (.supplyValid x) s = .next { s with dev := { s.dev with supplies := setBit s.dev.supplies k true } } := by
  cases x with
  | vioF n => cases hx
  | _ => cases hx; rfl

theorem completes_resetNFall (s : State) {lowNs : Nat} (hlow : 250 ≤ lowNs) :
    Completes (.resetNFall lowNs) s fun t =>
      t.dev.held = true ∧ t.dev.resetN = false ∧ t.cleared ∧ t.flash = s.flash ∧ t.stores = s.stores ∧
      (s.awake → t.dev.por = false ∧ (∀ k : Fin 16, t.rd (Reg.HLT_BACKUP k) = s.rd (Reg.HLT_BACKUP k)) ∧
        t.flag Reg.HLT_STATUS_REPLACE = s.flag Reg.HLT_STATUS_REPLACE ∧
        t.fld Reg.HLT_STATUS_REASON = s.fld Reg.HLT_STATUS_REASON ∧
        (Memory.wf s = true → ∀ a, 0x194000 ≤ a → a < 0x196000 → t.byte a = s.byte a)) := by
  have hop : s.resetFall lowNs = State.resetClear { s with dev := { s.dev with resetN := false } } false := by
    rw [State.resetFall, if_neg (show ¬ lowNs < 150 by omega), if_pos (Or.inl hlow)]
  have hclear := State.resetClear_cleared { s with dev := { s.dev with resetN := false } } false
  have hdev := State.resetClear_dev { s with dev := { s.dev with resetN := false } } false
  have hkept := State.resetClear_kept (s := { s with dev := { s.dev with resetN := false } })
  have hbytes : Memory.wf s = true → s.awake → ∀ a, 0x193000 ≤ a → a < 0x196000 → _ = s.byte a := fun hwf h _ =>
    State.resetClear_byte (s := { s with dev := { s.dev with resetN := false } }) hwf h
  obtain ⟨hflash, hstores, -⟩ := State.resetClear_keeps { s with dev := { s.dev with resetN := false } } false
  refine completes_always (fun s => s.resetFall lowNs) rfl ?_
  rw [hop]
  generalize State.resetClear { s with dev := { s.dev with resetN := false } } false = u at *
  refine ⟨congrArg DevState.held hdev, congrArg DevState.resetN hdev, hclear.pending s.pending, hflash, hstores,
    fun h => ?_⟩
  obtain ⟨hbackup, hreplace, hreason⟩ := hkept h
  refine ⟨(congrArg DevState.por hdev).trans ?_, hbackup, hreplace, hreason, fun hwf a hlo hhi =>
    hbytes hwf h a (by omega) hhi⟩
  rw [show s.dev.held = false from h]
  rfl

/-! ## The release -/

/-- A flag of HLT_RESET_CAUSE: POR (0) or PIN (1). -/
abbrev causeFlag (k : Nat) : Fld := ⟨Reg.HLT_RESET_CAUSE, k, 1⟩

theorem State.setFld_cause (s : State) (f : Fld) (v k : Nat) (hf : f.addr ≠ Reg.HLT_RESET_CAUSE) :
    (s.setFld f v).flag (causeFlag k) = s.flag (causeFlag k) := State.flag_setFld_apart s v (Or.inl hf.symm)

/-- The flags of the option copies stand above POR and PIN. -/
theorem State.setFld_copy (s : State) {j k : Nat} (v : Nat) (hk : k < 2) (hlo : 2 ≤ j) (hhi : j < 32) :
    (s.setFld (causeFlag j) v).flag (causeFlag k) = s.flag (causeFlag k) :=
  State.flag_setFld_apart s v (Or.inr ⟨hhi, Or.inr (show k + 1 ≤ j by omega)⟩)

theorem State.logFault_cause (s : State) (code item detail k : Nat) :
    (s.logFault code item detail).flag (causeFlag k) = s.flag (causeFlag k) :=
  congrArg (fun w : Word => getBits w k 1 == 1)
    (s.logFault_rd_ne code item detail (show Reg.HLT_RESET_CAUSE ≠ Reg.HLT_LOG_SEQ by decide))

theorem State.postEvent_cause (s : State) (code src : Nat) (data : Word) (k : Nat) :
    (s.postEvent code src data).flag (causeFlag k) = s.flag (causeFlag k) :=
  congrArg (· == 1) (s.postEvent_fld code src data (f := causeFlag k) (show Reg.HLT_RESET_CAUSE < _ by decide))

theorem State.optLoad_cause (s : State) {k : Nat} (hk : k < 2) :
    s.optLoad.flag (causeFlag k) = s.flag (causeFlag k) := by
  have hbytes : ∀ (t : State) a bs, (t.setBytes a bs).flag (causeFlag k) = t.flag (causeFlag k) := fun _ _ _ => rfl
  unfold optLoad
  extract_lets bad
  have hbad : ∀ (t : State) j, j < 2 → (bad t j).flag (causeFlag k) = t.flag (causeFlag k) := fun t j hj => by
    simp only [bad]
    rw [postEvent_cause, logFault_cause, setFld_copy _ _ hk (show 2 ≤ 3 + j by omega) (show 3 + j < 32 by omega)]
  clear_value bad
  split
  case h_1 j hj =>
    have ht : ((s.setBytes (Reg.HLT_OPT_LOADED 0) (s.optCopy j)).setFld Reg.HLT_RESET_CAUSE_OPT_COPY j).flag
        (causeFlag k) = s.flag (causeFlag k) :=
      (setFld_copy _ _ hk (by decide) (by decide)).trans (hbytes s _ _)
    generalize (s.setBytes (Reg.HLT_OPT_LOADED 0) (s.optCopy j)).setFld Reg.HLT_RESET_CAUSE_OPT_COPY j = t at ht
    dsimp only
    split
    · exact ht
    · exact (hbad t _ (by omega)).trans ht
  case h_2 =>
    rw [logFault_cause, setFld_copy _ _ hk (by decide) (by decide), setFld_copy _ _ hk (by decide) (by decide),
      setFld_copy _ _ hk (by decide) (by decide), hbytes]

theorem State.enginesRetired_cause (s : State) (k : Nat) :
    s.enginesRetired.flag (causeFlag k) = s.flag (causeFlag k) := by
  have hrole : ∀ (t : State) e r, (t.setRole e r).flag (causeFlag k) = t.flag (causeFlag k) := fun t e r =>
    State.setFld_cause _ _ _ _ (show Reg.secBase e ≠ Reg.HLT_RESET_CAUSE by
      simp only [Reg.secBase, Reg.HLT_RESET_CAUSE]; omega)
  refine foldl_keeps (fun t : State => t.flag (causeFlag k)) (fun t e => ?_) _ s
  split
  · exact hrole t e _
  · split
    · exact hrole t e _
    · rfl

theorem State.linksRetired_cause (s : State) (k : Nat) : s.linksRetired.flag (causeFlag k) = s.flag (causeFlag k) :=
  foldl_keeps (fun t : State => t.flag (causeFlag k))
    (fun _ _ => State.setFld_cause _ _ _ _ (show Reg.GEN_MORTAR_STATE ≠ _ by decide)) s.hlt.badLinks s

theorem State.updGo_cause (s : State) (n k : Nat) : (s.updGo n).flag (causeFlag k) = s.flag (causeFlag k) :=
  State.setFld_cause _ _ _ _ (show Reg.UPD_STATE ≠ _ by decide)

theorem State.updReset_cause (s : State) (k : Nat) : s.updReset.flag (causeFlag k) = s.flag (causeFlag k) := by
  unfold updReset
  extract_lets st src t
  have ht : t.flag (causeFlag k) = s.flag (causeFlag k) := rfl
  clear_value t
  split
  · rw [setFld_cause _ _ _ _ (show Reg.UPD_FLAGS ≠ _ by decide), updGo_cause, ht]
  · split
    · rw [updGo_cause, ht]
    · exact ht

theorem State.replaceAgain_cause (s : State) (k : Nat) : s.replaceAgain.flag (causeFlag k) = s.flag (causeFlag k) := by
  have hstatus : Reg.HLT_STATUS ≠ Reg.HLT_RESET_CAUSE := by decide
  have htake : s.takeReasons.flag (causeFlag k) = s.flag (causeFlag k) := State.setFld_cause _ _ _ _ hstatus
  unfold replaceAgain
  extract_lets t
  split
  · exact htake
  · unfold replaceEnter
    extract_lets all
    rw [postEvent_cause, logFault_cause, setFld_cause _ _ _ _ hstatus]
    exact htake

/-- The cause that a release names. -/
theorem State.release_cause (h : s.dev.held = true) (hs : s.dev.supplies = 63) :
    s.release.flag (causeFlag (if s.dev.por then 0 else 1)) = true := by
  have hk : (if s.dev.por then 0 else 1) < 2 := by split <;> decide
  have hf : (if s.dev.por then Reg.HLT_RESET_CAUSE_POR else Reg.HLT_RESET_CAUSE_PIN) =
      causeFlag (if s.dev.por then 0 else 1) := (apply_ite causeFlag _ _ _).symm
  have hset : ∀ t : State, (t.setFld (causeFlag (if s.dev.por then 0 else 1)) 1).flag
      (causeFlag (if s.dev.por then 0 else 1)) = true := fun t =>
    t.flag_setFld_one _ rfl (show (if s.dev.por then 0 else 1) + 1 ≤ 32 by omega)
  rw [release, if_pos ⟨h, hs⟩]
  dsimp only
  rw [replaceAgain_cause, updReset_cause, linksRetired_cause, enginesRetired_cause,
    setFld_cause _ _ _ _ (show Reg.UPD_BANK ≠ _ by decide), logFault_cause, optLoad_cause _ hk, hf, hset]

theorem completes_resetRelease (h : s.dev.held = true) (hs : s.dev.supplies = 63) :
    Completes .resetRelease s fun t =>
      t.awake ∧ t.dev.resetN = true ∧
      (s.dev.por = true → t.flag Reg.HLT_RESET_CAUSE_POR = true) ∧
      (s.dev.por = false → t.flag Reg.HLT_RESET_CAUSE_PIN = true) ∧ t.flash = s.flash := by
  have hcause := State.release_cause h hs
  have hdev := State.release_dev h hs
  refine completes_always (fun s => (fun t : State => { s with
    regs := t.regs, mem := t.mem, eqs := t.eqs, out := t.out, dev := t.dev, upd := t.upd }) s.release) rfl ?_
  generalize s.release = u at hcause hdev
  refine ⟨congrArg DevState.held hdev, congrArg DevState.resetN hdev, fun hpor => ?_, fun hpor => ?_, rfl⟩
  · rw [hpor] at hcause
    exact hcause
  · rw [hpor] at hcause
    exact hcause

theorem exec_resetRelease_awake (h : s.awake) : exec .resetRelease s = .next s := by
  have hrel : s.release = s := if_neg fun hheld => absurd (h.symm.trans hheld.1) Bool.false_ne_true
  change execResetRelease s = _
  simp only [execResetRelease, always, hrel]

/-! ## Field banks -/

/-- A field bank that comes or goes shows in GEN_VIO_STATE. -/
theorem State.vioShown_flag (s : State) {n : Nat} (hn : n < 16) (valid : Bool) :
    (s.vioShown n valid).flag ⟨Reg.GEN_VIO_STATE, n, 1⟩ = valid := by
  cases valid with
  | true => exact State.flag_setFld_one _ _ rfl (show n + 1 ≤ 32 by omega)
  | false =>
    have hne : ∀ b, Reg.GEN_VIO_STATE ≠ Reg.DSC_LEVEL b := fun b => by
      have hunit := le_unitReg (Reg.bankUnit b) 0
      simp only [Reg.DSC_LEVEL, Reg.bankBase, Reg.GEN_VIO_STATE]
      omega
    have hlow : ∀ (t : State) b, (t.bankLow b).flag ⟨Reg.GEN_VIO_STATE, n, 1⟩ = t.flag ⟨Reg.GEN_VIO_STATE, n, 1⟩ :=
      fun t b => State.flag_setFld_apart t _ (Or.inl (hne b))
    exact (foldl_keeps (fun t : State => t.flag ⟨Reg.GEN_VIO_STATE, n, 1⟩) hlow _ _).trans
      (State.flag_setFld_zero _ _ (show n + 1 ≤ 32 by omega))

/-- The lines of a field bank that goes read low. -/
theorem State.vioShown_low (s : State) (n b : Nat) (hb : b < 48) (hvio : unitVio (Reg.bankUnit b) = some n) :
    (s.vioShown n false).fld (Reg.DSC_LEVEL_RAW b) = 0 := by
  have hlow : ∀ t : State, (t.bankLow b).fld (Reg.DSC_LEVEL_RAW b) = 0 := fun t =>
    t.fld_setFld_same _ 0 (show 8 + 8 ≤ 32 by decide)
  refine (foldl_reaches (Q := fun _ => True) (R := fun t => t.fld (Reg.DSC_LEVEL_RAW b) = 0) (fun _ _ h => h)
    (fun t _ => hlow t) (fun (t : State) k _ ht => ?_) _ (List.mem_filter.mpr ⟨List.mem_range.mpr hb, ?_⟩) _ trivial).2
  · by_cases hk : Reg.DSC_LEVEL b = Reg.DSC_LEVEL k
    · have hsame : Reg.DSC_LEVEL_RAW b = Reg.DSC_LEVEL_RAW k :=
        congrArg (fun a => (⟨a, 8, 8⟩ : Fld)) hk
      rw [hsame]
      exact t.fld_setFld_same _ 0 (show 8 + 8 ≤ 32 by decide)
    · exact (t.fld_setFld_addr (f := Reg.DSC_LEVEL_RAW k) _ hk).trans ht
  · rw [hvio]
    exact beq_self_eq_true _

theorem State.vioShown_same (s : State) (n : Nat) (valid : Bool) :
    (s.vioShown n valid).mem = s.mem ∧ (s.vioShown n valid).tbl = s.tbl ∧ (s.vioShown n valid).eqs = s.eqs ∧
    (s.vioShown n valid).flash = s.flash := by
  have h := s.vioShown_lessPins n valid
  have hof : ∀ {α : Type} (f : State → α), (∀ t, f t.lessPins = f t) → f (s.vioShown n valid) = f s := fun f hf =>
    ((hf _).symm.trans (congrArg f h)).trans (hf s)
  exact ⟨hof State.mem fun _ => rfl, hof State.tbl fun _ => rfl, hof State.eqs fun _ => rfl,
    hof State.flash fun _ => rfl⟩

theorem completes_powerOn_vio (s : State) (n : Fin 16) : Completes (.powerOn (.vioF n)) s fun t =>
    t.flag ⟨Reg.GEN_VIO_STATE, n, 1⟩ = false ∧ t.dev.held = s.dev.held ∧ SameBytes s t := by
  have hn : n.val < 16 := n.isLt
  refine completes_always (fun s => s.supplyFalls (.vioF n)) rfl ?_
  have hop : s.supplyFalls (.vioF n) = s.vioSet n false := rfl
  refine ⟨?_, (congrArg (·.dev.held) hop).trans (State.vioSet_held n false), ?_⟩
  · by_cases hf : s.flag ⟨Reg.GEN_VIO_STATE, n, 1⟩ = false
    · exact (congrArg (·.flag ⟨Reg.GEN_VIO_STATE, n, 1⟩) (hop.trans (State.vioSet_same hf))).trans hf
    · refine (congrArg (·.flag ⟨Reg.GEN_VIO_STATE, n, 1⟩) (hop.trans (State.vioSet_changed hf))).trans ?_
      split
      · exact s.vioShown_flag hn false
      · exact (congrArg (· == 1) (State.postEvent_fld _ _ _ _ (show Reg.GEN_VIO_STATE < _ by decide))).trans
          (s.vioShown_flag hn false)
  · obtain ⟨hmem, -, -, hflash⟩ := s.vioShown_same n false
    have hboth : (s.vioSet n false).mem = s.mem ∧ (s.vioSet n false).flash = s.flash := by
      by_cases hf : s.flag ⟨Reg.GEN_VIO_STATE, n, 1⟩ = false
      · rw [State.vioSet_same hf]
        exact ⟨rfl, rfl⟩
      · rw [State.vioSet_changed hf]
        split
        · exact ⟨hmem, hflash⟩
        · exact ⟨hmem, hflash⟩
    exact ⟨fun a => congrArg (Tbl.get memDefault · a) hboth.1, hboth.2⟩

theorem exec_vioChange_same {n : Fin 16} {valid : Bool} (hf : s.flag ⟨Reg.GEN_VIO_STATE, n, 1⟩ = valid) :
    exec (.vioChange n valid) s = .next s := by
  have hop := State.vioSet_same hf
  change execVioChange n valid s = _
  simp only [execVioChange, always, hop]

theorem completes_vioChange {n : Fin 16} {valid : Bool} (h : s.awake)
    (hf : s.flag ⟨Reg.GEN_VIO_STATE, n, 1⟩ ≠ valid) : Completes (.vioChange n valid) s fun t =>
      t.flag ⟨Reg.GEN_VIO_STATE, n, 1⟩ = valid ∧ Posts s t 0x0E9 n (if valid then 1 else 0) ∧
      (valid = false → t.dev.classes = s.dev.classes.set n 0 ∧
        ∀ b : BankNo, unitVio (Reg.bankUnit b) = some n.val → t.fld (Reg.DSC_LEVEL_RAW b) = 0) ∧
      t.awake ∧ SameBytes s t := by
  obtain ⟨hmem, htbl, heqs, -⟩ := s.vioShown_same n valid
  have hop := State.vioSet_changed hf
  rw [if_neg (Bool.eq_false_iff.mp h)] at hop
  have hflag := s.vioShown_flag n.isLt valid
  have hdev := s.vioShown_dev n valid
  have hlow := s.vioShown_low n
  have hheld := (s.vioShown_held n valid).trans h
  have hposts := postEvent_eqs_congr s heqs hmem htbl 0x0E9 n (if valid then 1 else 0)
  refine completes_always (fun s => (fun t : State => { s with
    regs := t.regs, eqs := t.eqs, out := t.out, dev := t.dev }) (s.vioSet n valid)) rfl ?_
  rw [hop]
  refine ⟨(congrArg (· == 1) (State.postEvent_fld _ _ _ _ (show Reg.GEN_VIO_STATE < _ by decide))).trans hflag, hposts,
    fun hvalid => ?_, hheld, fun _ => rfl, rfl⟩
  subst hvalid
  exact ⟨congrArg DevState.classes hdev, fun b hb =>
    (State.postEvent_fld _ _ _ _ (show Reg.DSC_LEVEL b < _ by
      simp only [Reg.DSC_LEVEL, Reg.bankBase, Reg.unitBase, Reg.bankUnit]; omega)).trans (hlow b b.isLt hb)⟩

/-! ## Buffer classes and PERST -/

theorem exec_classLatch {n : Fin 16} {c : BufClass} {t : State} (hop : s.classLatch n c = t)
    (ht : { s with dev := t.dev } = t) : exec (.classLatch n c) s = .next t := by
  change execClassLatch n c s = _
  simp only [execClassLatch, always, hop, ht]

theorem exec_perst_high {n : Fin 2} (hsettled : s.settled) :
    exec (.perst n false) s = .next { s with dev := { s.dev with perst := setBit s.dev.perst n false } } := by
  have hop : (s.perst n false).opsSettle = { s with dev := { s.dev with perst := setBit s.dev.perst n false } } :=
    State.opsSettle_settled (s := { s with dev := { s.dev with perst := setBit s.dev.perst n false } }) hsettled
  change execPerst n false s = _
  simp only [execPerst, always, hop]

theorem State.pathIsUp_congr (hr : t.regs = s.regs) (hm : t.mem = s.mem) (p x : Nat) :
    t.pathIsUp p x = s.pathIsUp p x := by
  unfold pathIsUp primary secondary flag fld rd optByte byte
  rw [hr, hm]

theorem completes_perst_low {n : Fin 2} (h : s.awake) (hsettled : s.settled) : Completes (.perst n true) s fun t =>
    bitOf t.dev.perst n = true ∧
    (∀ q : PageNo, t.pathIsUp q (n + 1) = false ∧ (t.page q).msixOn.getD n false = false) := by
  obtain ⟨u, hop, hdev, hmem, hdown, hmsix⟩ := State.perst_low h hsettled n.isLt
  have hframe : ∀ v : State, v.regs = u.regs → v.mem = u.mem → v.pages = u.pages → v.dev = u.dev →
      bitOf v.dev.perst n = true ∧
      (∀ q : PageNo, v.pathIsUp q (n + 1) = false ∧ (v.page q).msixOn.getD n false = false) := by
    intro v hr hm hp hd
    refine ⟨by rw [hd, hdev]; exact bitOf_setBit_same _ _ _, fun q => ⟨?_, ?_⟩⟩
    · exact (State.pathIsUp_congr hr hm q _).trans (hdown q q.isLt)
    · rw [State.page, hp]
      exact hmsix q q.isLt
  have hexec : exec (.perst n true) s = execPerst n true s := rfl
  simp only [Completes, hexec, execPerst, always, hop]
  exact ⟨_, rfl, hframe _ rfl hmem.symm rfl rfl⟩

end Sys2Proof.Machine

open Sys2Proof.Machine in
/-- Settles O58: a reset builds the state anew from what it keeps, a release passes over every later step with its cause
still shown, and a field bank reaches nothing but its own bit, its class and its lines. -/
theorem resetsAndSupplies : Obligations.ResetsAndSupplies := by
  unfold Obligations.ResetsAndSupplies
  intro s
  refine ⟨fun x k hx => ⟨completes_powerOn s hx, exec_supplyValid s hx⟩, completes_powerOn_vio s, fun lowNs hlow => ?_,
    fun _ => completes_resetNFall s, exec_resetRelease_awake, completes_resetRelease, fun n valid =>
    ⟨exec_vioChange_same, completes_vioChange⟩, fun n c => ⟨fun hf hc => exec_classLatch (if_pos ⟨hf, hc⟩) rfl,
    fun hnot => exec_classLatch (if_neg fun hand => ?_) rfl⟩, fun n h hsettled =>
    ⟨exec_perst_high hsettled, completes_perst_low h hsettled⟩⟩
  · have hop : s.resetFall lowNs = s := if_pos hlow
    exact exec_of_completes (completes_always (fun s => s.resetFall lowNs) rfl (by rw [hop]))
  · obtain ⟨hf, hc⟩ := hand
    exact hnot.elim (fun h => absurd (h.symm.trans hf) Bool.false_ne_true) fun h => h hc

end

section
/-!
SUPPORT. The counts of the health monitor, its tests and its history, through what the end of a test does elsewhere.
-/

namespace Sys2Proof.Machine

variable {s t : State}

/-- LASTING_CNT, TRANSIENT_CNT, CE_CNT and UE_CNT of the health monitor. -/
abbrev isCount (a : Nat) : Prop := Reg.HLT_LASTING_CNT ≤ a ∧ a ≤ Reg.HLT_UE_CNT

/-- The counts, the tests that run and the history of transients are as before. -/
structure CountSide (s t : State) : Prop where
  counts : ∀ a, isCount a → t.rd a = s.rd a
  testing : t.hlt.testing = s.hlt.testing
  history : t.hlt.history = s.hlt.history

namespace CountSide

theorem refl (s : State) : CountSide s s := ⟨fun _ _ => rfl, rfl, rfl⟩

theorem trans {u : State} (h : CountSide s t) (h' : CountSide t u) : CountSide s u :=
  ⟨fun a ha => (h'.counts a ha).trans (h.counts a ha), h'.testing.trans h.testing, h'.history.trans h.history⟩

theorem wr (s : State) {a : Nat} (v : Word) (h : ¬ isCount a) : CountSide s (s.wr a v) :=
  ⟨fun _ hb => s.rd_wr_ne v fun heq => h (heq ▸ hb), rfl, rfl⟩

theorem setFld (s : State) (f : Fld) (v : Nat) (h : ¬ isCount f.addr) : CountSide s (s.setFld f v) := wr s _ h

theorem postEvent (s : State) (code src : Nat) (data : Word) : CountSide s (s.postEvent code src data) :=
  ⟨fun a ha => s.postEvent_rd code src data (by simp only [isCount, Reg.HLT_UE_CNT] at ha; omega), rfl, rfl⟩

theorem logFault (s : State) (code item detail : Nat) : CountSide s (s.logFault code item detail) :=
  ⟨fun a ha => s.logFault_rd_ne code item detail fun heq =>
    absurd (heq ▸ ha) (show ¬ isCount Reg.HLT_LOG_SEQ by decide), rfl, rfl⟩

theorem foldl {α : Type} {f : State → α → State} (l : List α) (hf : ∀ t, ∀ x ∈ l, CountSide t (f t x)) (s : State) :
    CountSide s (l.foldl f s) := by
  induction l generalizing s with
  | nil => exact refl s
  | cons x l ih =>
    exact (hf s x List.mem_cons_self).trans (ih (fun t y hy => hf t y (List.mem_cons_of_mem x hy)) _)

theorem of_ite {c : Prop} [Decidable c] {t u : State} (ht : CountSide s t) (hu : CountSide s u) :
    CountSide s (if c then t else u) := iteInduction (motive := CountSide s) (fun _ => ht) fun _ => hu

/-- No register of a unit is a count. -/
theorem of_units (h : BesideUnits s t) : CountSide s t := by
  obtain ⟨hframe, hdevice⟩ := h
  refine ⟨fun a ha => hdevice a ?_, (congrArg (·.hlt.testing) hframe :), (congrArg (·.hlt.history) hframe :)⟩
  simp only [isCount, Reg.HLT_UE_CNT] at ha
  omega

end CountSide

theorem notCount_unit (u k : Nat) : ¬ isCount (Reg.unitBase u + k) := by
  have h := le_unitReg u k
  simp only [isCount, Reg.HLT_UE_CNT]
  omega

/-! ## A die resumes -/

theorem State.panDrop_count (s : State) (fid : Nat) : CountSide s (s.panDrop fid) := by
  have huse : ∀ x, CountSide s (s.setPanUse fid x) := fun _ => ⟨fun _ _ => rfl, rfl, rfl⟩
  unfold panDrop
  refine CountSide.of_ite ?_ (huse _)
  exact ((huse _).trans (CountSide.setFld _ Reg.SWC_PANS_FREE _ (by decide))).trans
    (CountSide.setFld _ Reg.SWC_PANS_MIN_FREE _ (by decide))

/-- The registers of a queue of a MAC port are no counts. -/
theorem notCount_queue {p q off : Nat} (hp : p < 16) (hq : q < 8) (hoff : off < 0x100) :
    ¬ isCount (0x153000 + off + 0x60 * (8 * p + q)) := by
  simp only [isCount, Reg.HLT_LASTING_CNT, Reg.HLT_UE_CNT]
  omega

theorem State.cbsUpdate_count (s : State) {p q : Nat} (hp : p < 16) (hq : q < 8) : CountSide s (s.cbsUpdate p q) := by
  have hset : CountSide s (s.setQueue p q { s.queue p q with credit := s.credit p q, creditAt16 := s.tb.local16 }) :=
    ⟨fun _ _ => rfl, rfl, rfl⟩
  exact hset.trans (CountSide.wr _ _ (notCount_queue (off := 8) hp hq (by decide)))

theorem State.emptyQueue_count (s : State) {p q : Nat} (hp : p < 16) (hq : q < 8) : CountSide s (s.emptyQueue p q) := by
  unfold emptyQueue
  extract_lets s₁ x t₀ t
  have h₀ : CountSide s t₀ := (s.cbsUpdate_count hp hq).trans ⟨fun _ _ => rfl, rfl, rfl⟩
  have ht : CountSide s t := ((h₀.trans (CountSide.foldl _ (fun t f _ => t.panDrop_count f.fid) t₀)).trans
    (State.cbsUpdate_count _ hp hq)).trans (CountSide.setFld _ _ _ (notCount_queue (off := 0x10) hp hq (by decide)))
  clear_value t
  exact CountSide.of_ite (ht.trans ⟨fun _ _ => rfl, rfl, rfl⟩) ht

theorem State.macDiscard_count (s : State) {m : Nat} (hm : m < 16) : CountSide s (s.macDiscard m) :=
  (CountSide.foldl _ (fun t _ hq => t.emptyQueue_count hm (List.mem_range.mp hq)) s).trans
    (CountSide.wr _ _ (notCount_unit _ _))

theorem State.dieResume_count (s : State) {d : Nat} (hd : d < 2) : CountSide s (s.dieResume d) := by
  have hstart : ∀ (t : State) u, CountSide t ((t.setFld (bstatRun (Reg.unitBase u)) 0).unitStart u) := fun t u =>
    CountSide.of_units (((BesideUnits.refl t).setFld _ (le_unitReg u 0)).unitStart u)
  exact (CountSide.foldl _ (fun t k hk => t.macDiscard_count (by
    have hlt := List.mem_range.mp hk
    omega)) s).trans (CountSide.foldl _ (fun t _ _ => hstart t _) _)

theorem State.mortarUp_count (s : State) {l : Nat} (hl : l < 4) : CountSide s (s.mortarUp l) := by
  have hset : CountSide s (s.setFld ⟨Reg.GEN_MORTAR_STATE, 2 * l, 2⟩ 0) := 
    CountSide.setFld s _ _ (show ¬ isCount Reg.GEN_MORTAR_STATE by decide)
  unfold mortarUp
  exact CountSide.of_ite (hset.trans (State.dieResume_count _ (by omega))) hset

/-! ## An item returns, or retires -/

theorem State.setSpare_count (s : State) (n st slot : Nat) : CountSide s (s.setSpare n st slot) := by
  have hspare : ¬ isCount (Reg.HLT_SPARE (n / 4)) := by
    simp only [isCount, Reg.HLT_SPARE, Reg.HLT_UE_CNT]
    omega
  exact (CountSide.setFld s ⟨Reg.HLT_SPARE (n / 4), _, 2⟩ st hspare).trans
    (CountSide.setFld _ ⟨Reg.HLT_SPARE (n / 4), _, 3⟩ slot hspare)

theorem State.unitReturn_count (s : State) (u : Nat) : CountSide s (s.unitReturn u) := by
  have hreturns : CountSide s (s.unitReturns u) := by
    unfold unitReturns
    split
    · exact ((s.setSpare_count _ 0 0).trans (CountSide.postEvent _ _ _ _)).trans ⟨fun _ _ => rfl, rfl, rfl⟩
    · exact CountSide.refl s
  unfold unitReturn
  split
  · exact hreturns
  · exact ⟨fun _ _ => rfl, rfl, rfl⟩

theorem State.itemReturns_count (s : State) {item : Nat} (hlink : item / 65536 = 4 → item % 65536 < 4) :
    CountSide s (s.itemReturns item) := by
  unfold itemReturns
  extract_lets n
  split
  case h_1 =>
    refine CountSide.of_ite (CountSide.of_ite (CountSide.refl s) (s.unitReturn_count n)) ?_
    exact CountSide.of_units ((BesideUnits.refl s).unitStart n)
  case h_2 => exact s.setSpare_count n 0 0
  case h_3 => exact ⟨fun _ _ => rfl, rfl, rfl⟩
  case h_4 => exact CountSide.refl s
  case h_5 h => exact s.mortarUp_count (hlink h)
  case h_6 => exact CountSide.refl s

theorem State.itemRetires_count (s : State) (item : Nat) : CountSide s (s.itemRetires item) := by
  have ht : CountSide s (s.setFld Reg.HLT_STATUS_DEGRADED 1) := CountSide.setFld s _ _ (by decide)
  unfold itemRetires
  generalize s.setFld Reg.HLT_STATUS_DEGRADED 1 = t at ht
  dsimp only
  split
  · exact ht.trans (CountSide.setFld t ⟨Reg.HLT_RETIRED (item % 65536 / 32), _, 1⟩ 1 (by
      simp only [isCount, Reg.HLT_RETIRED, Reg.HLT_UE_CNT]; omega))
  · exact (ht.trans (t.setSpare_count (item % 65536) 2 0)).trans ⟨fun _ _ => rfl, rfl, rfl⟩
  · exact (ht.trans (CountSide.setFld t ⟨Reg.secBase (item % 65536), 0, 2⟩ roleRetired (by
      simp only [isCount, Reg.secBase, Reg.HLT_UE_CNT]; omega))).trans ⟨fun _ _ => rfl, rfl, rfl⟩
  · exact ht
  · exact ht.trans ⟨fun _ _ => rfl, rfl, rfl⟩
  · exact ht.trans ⟨fun _ _ => rfl, rfl, rfl⟩
  · exact ht

theorem State.replaceCheck_count (s : State) : CountSide s s.replaceCheck := by
  have htake : CountSide s s.takeReasons := CountSide.setFld s _ _ (show ¬ isCount Reg.HLT_STATUS by decide)
  unfold replaceCheck
  refine CountSide.of_ite (CountSide.refl s) (CountSide.of_ite htake (htake.trans ?_))
  exact ((CountSide.setFld _ Reg.HLT_STATUS_REPLACE 1 (by decide)).trans (CountSide.logFault _ _ _ _)).trans
    (CountSide.postEvent _ _ _ _)

/-! ## DEGRADED -/

theorem State.itemRetires_degraded (s : State) (item : Nat) :
    (s.itemRetires item).flag Reg.HLT_STATUS_DEGRADED = true := by
  have ht : (s.setFld Reg.HLT_STATUS_DEGRADED 1).flag Reg.HLT_STATUS_DEGRADED = true :=
    s.flag_setFld_one _ rfl (show 7 + 1 ≤ 32 by decide)
  have hne : ∀ (t : State) (f : Fld) v, f.addr ≠ Reg.HLT_STATUS → t.flag Reg.HLT_STATUS_DEGRADED = true →
      (t.setFld f v).flag Reg.HLT_STATUS_DEGRADED = true := fun t f v hf h =>
    (State.flag_setFld_apart t v (Or.inl hf.symm)).trans h
  unfold itemRetires
  generalize s.setFld Reg.HLT_STATUS_DEGRADED 1 = t at ht
  dsimp only
  split
  · exact hne t ⟨Reg.HLT_RETIRED (item % 65536 / 32), _, 1⟩ 1 (by
      simp only [Reg.HLT_RETIRED, Reg.HLT_STATUS]; omega) ht
  · have hspare : Reg.HLT_SPARE (item % 65536 / 4) ≠ Reg.HLT_STATUS := by
      simp only [Reg.HLT_SPARE, Reg.HLT_STATUS]
      omega
    exact hne _ ⟨Reg.HLT_SPARE _, _, 3⟩ 0 hspare (hne t ⟨Reg.HLT_SPARE _, _, 2⟩ 2 hspare ht)
  · exact hne t ⟨Reg.secBase (item % 65536), 0, 2⟩ roleRetired (by
      simp only [Reg.secBase, Reg.HLT_STATUS]; omega) ht
  · exact ht
  · exact ht
  · exact ht
  · exact ht

theorem State.replaceCheck_degraded (s : State) (h : s.flag Reg.HLT_STATUS_DEGRADED = true) :
    s.replaceCheck.flag Reg.HLT_STATUS_DEGRADED = true := by
  have htake : s.takeReasons.flag Reg.HLT_STATUS_DEGRADED = true :=
    (State.flag_setFld_apart s _ (show Reg.HLT_STATUS_REASON.apart Reg.HLT_STATUS_DEGRADED by simp [Fld.apart])).trans h
  unfold replaceCheck
  split
  · exact h
  · split
    · exact htake
    · unfold replaceEnter
      extract_lets all
      have hset := (State.flag_setFld_apart s.takeReasons 1
        (show Reg.HLT_STATUS_REPLACE.apart Reg.HLT_STATUS_DEGRADED by simp [Fld.apart])).trans htake
      generalize s.takeReasons.setFld Reg.HLT_STATUS_REPLACE 1 = u at hset
      refine (congrArg (· == 1) (State.postEvent_fld _ _ _ _ (show Reg.HLT_STATUS < _ by decide))).trans ?_
      exact (congrArg (fun w : Word => getBits w 7 1 == 1)
        (u.logFault_rd_ne fcReplace 0 all (show Reg.HLT_STATUS ≠ Reg.HLT_LOG_SEQ by decide))).trans hset

/-! ## A lasting error -/

/-- A lasting error counts, and leaves the other counts, the tests and the history alone. -/
theorem State.lasting_spec (s : State) (item code : Nat) :
    CountSide (s.bump Reg.HLT_LASTING_CNT) (s.lasting item code) ∧
    (s.lasting item code).flag Reg.HLT_STATUS_DEGRADED = true := by
  unfold lasting
  extract_lets t
  have ht : CountSide (s.bump Reg.HLT_LASTING_CNT) t := CountSide.logFault _ _ _ _
  exact ⟨((ht.trans (CountSide.postEvent _ _ _ _)).trans (State.itemRetires_count _ _)).trans
    (State.replaceCheck_count _), State.replaceCheck_degraded _ (State.itemRetires_degraded _ _)⟩

end Sys2Proof.Machine
end

section
/-!
The health monitor (R454, R456 to R460, R462 to R464, R470).
-/

namespace Sys2Proof.Machine

variable {s t : State} {p : PageNo}

/-! ## The option store -/

theorem completes_optProgram (h : s.takes p Reg.HLT_CMD) (hidle : s.hlt.program = none) :
    (s.optLocked s.optBuf = true → Completes (.optProgram p) s fun t =>
      t.fld Reg.HLT_OPT_STATUS_RESULT = 3 ∧ OnlyRegs s t [Reg.HLT_OPT_STATUS]) ∧
    (s.optLocked s.optBuf = false → Completes (.optProgram p) s fun t =>
      t.fld Reg.HLT_OPT_STATUS_RESULT = 1 ∧
      t.hlt.program = some (s.optTarget.1, makeCopy s.optBuf s.optTarget.2, false) ∧
      OnlyRegs { s with hlt := t.hlt } t [Reg.HLT_OPT_STATUS]) := by
  have hnone : ¬ s.hlt.program.isSome = true := by rw [hidle]; decide
  have hother : ∀ v, RegsBut s (s.setFld Reg.HLT_OPT_STATUS_RESULT v) [Reg.HLT_OPT_STATUS] := fun v =>
    (RegsBut.refl s _).setFld Reg.HLT_OPT_STATUS_RESULT v (by simp)
  constructor
  · intro hlocked
    have hop : s.optProgram = s.setFld Reg.HLT_OPT_STATUS_RESULT 3 := by
      rw [State.optProgram, if_neg hnone, if_pos hlocked]
    exact completes_onWrite (fun s u => { s with regs := u.regs, hlt := u.hlt }) h rfl (fun _ => ⟨rfl, rfl⟩) hop
      ⟨s.fld_setFld_same _ 3 (show 0 + 4 ≤ 32 by decide), rfl, hother 3⟩
  · intro hfree
    have hop : s.optProgram = { s.setFld Reg.HLT_OPT_STATUS_RESULT 1 with
        hlt := { s.hlt with program := some (s.optTarget.1, makeCopy s.optBuf s.optTarget.2, false) } } := by
      rw [State.optProgram, if_neg hnone, if_neg (Bool.eq_false_iff.mp hfree)]
    exact completes_onWrite (fun s u => { s with regs := u.regs, hlt := u.hlt }) h rfl (fun _ => ⟨rfl, rfl⟩) hop
      ⟨s.fld_setFld_same _ 1 (show 0 + 4 ≤ 32 by decide), rfl, rfl, hother 1⟩

theorem State.optCopy_length (s : State) (k : Nat) : (s.optCopy k).length = 1024 := Tbl.getList_length _ _ _ _

theorem completes_optRead (h : s.takes p Reg.HLT_CMD) (k : Fin 2) : Completes (.optRead p k) s fun t =>
    t.bytes (Reg.HLT_OPT_BUF 0) 1024 = s.optCopy k ∧
    (∀ a, a < Reg.HLT_OPT_BUF 0 ∨ Reg.HLT_OPT_BUF 0 + 1024 ≤ a → t.byte a = s.byte a) ∧
    { t with mem := s.mem } = s := by
  have hsame := Tbl.getList_setList_same memDefault s.mem (Reg.HLT_OPT_BUF 0) (s.optCopy k)
  rw [s.optCopy_length] at hsame
  have hmem : (s.optRead k).mem = Tbl.setList memDefault s.mem (Reg.HLT_OPT_BUF 0) (s.optCopy k) := by
    simp only [State.optRead, State.setBytes]
  have hregs : (s.optRead k).regs = s.regs := by simp only [State.optRead, State.setBytes_regs]
  have hop : (fun t : State => t.optRead k) s = s.optRead k := rfl
  generalize s.optRead k = u at hmem hregs hop
  refine completes_onWrite (fun s u => { s with regs := u.regs, mem := u.mem }) h rfl (fun _ => ⟨rfl, rfl⟩) hop
    ⟨?_, fun a ha => ?_, ?_⟩
  · change Tbl.getList memDefault u.mem _ _ = _
    rw [hmem, hsame]
  · change Tbl.get memDefault u.mem a = _
    rw [hmem]
    rcases ha with hlo | hhi
    · exact Tbl.get_setList_lt memDefault s.mem _ _ _ hlo
    · exact Tbl.get_setList_ge memDefault s.mem _ _ _ (by rw [s.optCopy_length]; exact hhi)
  · rw [hregs]

/-- The copy beside the one that is written stays. -/
theorem getList_setList_beside {d : Nat → Byte} (m : Tbl Byte) (vs : List Byte) {a b n : Nat}
    (h : a + n ≤ b ∨ b + vs.length ≤ a) : Tbl.getList d (Tbl.setList d m b vs) a n = Tbl.getList d m a n := by
  induction n generalizing a with
  | zero => rfl
  | succ n ih =>
    rw [Tbl.getList, Tbl.getList, ih (by omega)]
    refine congrArg (· :: _) ?_
    rcases h with hlo | hhi
    · exact Tbl.get_setList_lt d m _ _ _ (by omega)
    · exact Tbl.get_setList_ge d m _ _ _ hhi

theorem State.optWritten_spec (s : State) {k : Nat} {bs : List Byte} (hk : k < 2) (hlen : bs.length = 1024) (ok :
    Bool) :
    (s.optWritten k bs ok).optCopy (1 - k) = s.optCopy (1 - k) ∧
    (ok = true → (s.optWritten k bs ok).optCopy k = bs) ∧
    (s.optWritten k bs ok).fld Reg.HLT_OPT_STATUS_RESULT = (if ok then 0 else 2) ∧
    (s.optWritten k bs ok).fld Reg.HLT_OPT_STATUS_TARGET = k ∧
    (s.optWritten k bs ok).eqs = (s.postEvent 0x0E8 k (w32 (copySeq bs))).eqs ∧
    (s.optWritten k bs ok).hlt = s.hlt := by
  have hnew : (if ok then bs else (List.range 1024).map fun i => Config.badCopy (1024 * s.freeCnt + i)).length =
    1024 := by
    split
    · exact hlen
    · rw [List.length_map, List.length_range]
  unfold optWritten
  extract_lets new t₁ t₂
  have hcopy : t₁.optCopy (1 - k) = s.optCopy (1 - k) := getList_setList_beside s.opts new (by
    rw [hnew]
    omega)
  have hmade : ok = true → t₁.optCopy k = bs := fun hok => by
    have hbs : new = bs := if_pos hok
    have hsame := Tbl.getList_setList_same memDefault s.opts (1024 * k) bs
    rw [hlen] at hsame
    change Tbl.getList memDefault (Tbl.setList memDefault s.opts (1024 * k) new) _ _ = _
    rw [hbs, hsame]
  have htarget : t₂.fld Reg.HLT_OPT_STATUS_TARGET = k :=
    (State.fld_setFld_same _ _ k (show 8 + 1 ≤ 32 by decide)).trans (Nat.mod_eq_of_lt hk)
  have hresult : t₂.fld Reg.HLT_OPT_STATUS_RESULT = if ok then 0 else 2 := by
    refine (State.fld_setFld_apart _ k
      (show Reg.HLT_OPT_STATUS_TARGET.apart Reg.HLT_OPT_STATUS_RESULT by simp [Fld.apart])).trans ?_
    refine (State.fld_setFld_same _ _ _ (show 0 + 4 ≤ 32 by decide)).trans ?_
    split <;> rfl
  have heqs : (t₂.postEvent 0x0E8 k (w32 (copySeq bs))).eqs = (s.postEvent 0x0E8 k (w32 (copySeq bs))).eqs :=
    postEvent_eqs_congr s (t := t₂) rfl rfl rfl _ _ _
  exact ⟨hcopy, hmade, (State.postEvent_fld _ _ _ _ (show Reg.HLT_OPT_STATUS < _ by decide)).trans hresult,
    (State.postEvent_fld _ _ _ _ (show Reg.HLT_OPT_STATUS < _ by decide)).trans htarget, heqs, rfl⟩

theorem completes_optProgramComplete (ok : Bool) {k : Nat} {bs : List Byte} {c : Bool} (h : s.awake)
    (hprogram : s.hlt.program = some (k, bs, c)) (hk : k < 2) (hlen : bs.length = 1024) :
    Completes (.optProgramComplete ok) s fun t =>
      (ok = true → t.optCopy k = bs) ∧ t.optCopy (1 - k) = s.optCopy (1 - k) ∧ t.hlt.program = none ∧
      t.fld Reg.HLT_OPT_STATUS_RESULT = (if ok then 0 else 2) ∧ t.fld Reg.HLT_OPT_STATUS_TARGET = k ∧
      Posts s t 0x0E8 k (w32 (copySeq bs)) ∧ SameBytes s t := by
  have hop : s.optProgrammed ok = State.optWritten { s with hlt := { s.hlt with program := none } } k bs ok := by
    rw [State.optProgrammed, hprogram]
  obtain ⟨hbeside, hmade, hresult, htarget, heqs, hhlt⟩ :=
    State.optWritten_spec { s with hlt := { s.hlt with program := none } } hk hlen ok
  have hposts : (State.postEvent { s with hlt := { s.hlt with program := none } } 0x0E8 k (w32 (copySeq bs))).eqs =
      (s.postEvent 0x0E8 k (w32 (copySeq bs))).eqs :=
    postEvent_eqs_congr s (t := { s with hlt := { s.hlt with program := none } }) rfl rfl rfl _ _ _
  generalize State.optWritten { s with hlt := { s.hlt with program := none } } k bs ok = u at *
  exact completes_framed (State.optProgrammed · ok) (fun s u => { s with
    regs := u.regs, eqs := u.eqs, out := u.out, freeCnt := u.freeCnt, hlt := u.hlt, opts := u.opts }) h rfl
    (fun _ => ⟨rfl, rfl⟩) hop ⟨hmade, hbeside, congrArg HltState.program hhlt, hresult, htarget, heqs.trans hposts,
    fun _ => rfl, rfl⟩

/-! ## Spares -/

/-- The spare of a unit takes its work over in its own registers and state. -/
theorem State.unitTakeover_spec (s : State) (u : Nat) :
    (s.unitTakeover u).spared = setBit s.spared u true ∧ (s.unitTakeover u).hlt = s.hlt ∧
    (s.unitTakeover u).flash = s.flash ∧ ∀ a, a < 0x200000 → (s.unitTakeover u).rd a = s.rd a := by
  have hof : ∀ {t v : State}, BesideUnits t v → t.spared = setBit s.spared u true ∧ t.hlt = s.hlt ∧ t.flash = s.flash ∧
      (∀ a, t.rd a = s.rd a) → v.spared = setBit s.spared u true ∧ v.hlt = s.hlt ∧ v.flash = s.flash ∧
      ∀ a, a < 0x200000 → v.rd a = s.rd a := fun {t v} hv ht => by
    obtain ⟨hframe, hdevice⟩ := hv
    obtain ⟨hspared, hhlt, hflash, hrd⟩ := ht
    exact ⟨(congrArg State.spared hframe :).trans hspared, (congrArg State.hlt hframe :).trans hhlt,
      (congrArg State.flash hframe :).trans hflash, fun a ha => (hdevice a ha).trans (hrd a)⟩
  unfold unitTakeover
  extract_lets t
  split
  case h_1 n _ =>
    dsimp only
    refine hof (t := t) ?_ ⟨rfl, rfl, rfl, fun _ => rfl⟩
    have hcleared := (((BesideUnits.refl t).setCan n { t.canU n with
        boWait := .none, onBus := (t.canU n).onBus.map fun o => { o with observed := true } }).setFld
      (f := Reg.CFD_ERRC_TEC n) 0 (le_unitReg _ _)).setFld (f := Reg.CFD_ERRC_REC n) 0 (le_unitReg _ _)
    exact iteInduction (motive := BesideUnits t)
      (fun _ => hcleared.setFld (f := Reg.CFD_ERRC_STATE n) _ (le_unitReg _ _)) fun _ => hcleared
  case h_2 n _ =>
    have hfall : ∀ v : State, (v.deFall n).spared = v.spared ∧ (v.deFall n).hlt = v.hlt ∧ (v.deFall n).flash = v.flash ∧
        ∀ a, (v.deFall n).rd a = v.rd a := fun v => by
      unfold deFall
      split <;> exact ⟨rfl, rfl, rfl, fun _ => rfl⟩
    unfold laneTakeover
    dsimp only
    split
    · exact hof (t := t.deFall n) (((BesideUnits.refl _).setLane n _).bump (le_unitReg _ _)) (hfall t)
    · exact ⟨rfl, rfl, rfl, fun _ _ => rfl⟩
  case h_3 => exact ⟨rfl, rfl, rfl, fun _ _ => rfl⟩

/-- The registers of the spares lie below those of the units. -/
theorem State.spareState_setSpare (s : State) {n st : Nat} (slot : Nat) (hst : st < 4) :
    (s.setSpare n st slot).spareState n = st := by
  refine (State.fld_setFld_apart _ slot ?_).trans
    ((s.fld_setFld_same ⟨Reg.HLT_SPARE (n / 4), _, 2⟩ st ?_).trans (Nat.mod_eq_of_lt hst))
  · simp only [Fld.apart]
    omega
  · simp only
    omega

theorem spareOf_lt {u n : Nat} (hu : u < 256) (hn : spareOf u = some n) : n < 32 := by
  unfold spareOf at hn
  split at hn
  · cases hn
  · cases hn
    omega

theorem State.spareTakes_spec (s : State) {u : Nat} (hu : u < 256) (forced : Bool) (hfree : s.spareFree u = true) :
    (s.spareTakes u forced).spared = setBit s.spared u true ∧ (s.spareTakes u forced).hlt = s.hlt ∧
    (s.spareTakes u forced).flash = s.flash ∧ ∀ n, spareOf u = some n → (s.spareTakes u forced).spareState n = 1 := by
  unfold spareTakes
  cases hn : spareOf u with
  | none => simp [spareFree, hn] at hfree
  | some n =>
    obtain ⟨hspared, hhlt, hflash, hrd⟩ := (s.setSpare n 1 (u % 8)).unitTakeover_spec u
    have hstate := s.spareState_setSpare (n := n) (u % 8) (show 1 < 4 by decide)
    have hlt := spareOf_lt hu hn
    dsimp only
    generalize (s.setSpare n 1 (u % 8)).unitTakeover u = v at *
    refine ⟨hspared, hhlt, hflash, fun k hk => ?_⟩
    cases hk
    have hlow : Reg.HLT_SPARE (n / 4) < 0x200000 := by
      simp only [Reg.HLT_SPARE]
      omega
    refine (v.postEvent_fld _ _ _ (show Reg.HLT_SPARE (n / 4) < _ by omega)).trans (Eq.trans ?_ hstate)
    exact congrArg (fun w : Word => getBits w (8 * (n % 4) + 6) 2) (hrd _ hlow)

theorem toNat_unitItem (u : Fin 256) : (BitVec.ofNat 20 u).toNat = u := by
  rw [BitVec.toNat_ofNat]
  exact Nat.mod_eq_of_lt (by omega)

theorem completes_forceSpare {u : Fin 256} (h : s.takes p Reg.HLT_CMD) (hu : bitOf s.spared u = false) :
    (s.spareFree u = true → Completes (.forceSpare p (BitVec.ofNat 20 u)) s fun t =>
      bitOf t.spared u = true ∧ (∀ n, spareOf u = some n → t.spareState n = 1) ∧
      (∀ k : Fin 256, k ≠ u → bitOf t.spared k = bitOf s.spared k)) ∧
    (s.spareFree u = false → exec (.forceSpare p (BitVec.ofNat 20 u)) s = .next s) := by
  constructor
  · intro hfree
    have hop : s.forceSpare (BitVec.ofNat 20 u).toNat = s.spareTakes u true := by
      rw [toNat_unitItem, State.forceSpare, if_pos ⟨u.isLt, hfree, by rw [hu]; decide⟩]
    obtain ⟨hspared, -, -, hstate⟩ := s.spareTakes_spec u.isLt true hfree
    generalize s.spareTakes u true = v at *
    refine completes_onWrite (fun s t => { s with
      regs := t.regs, eqs := t.eqs, out := t.out, spared := t.spared, mbs := t.mbs, can := t.can, lanes := t.lanes }) h
      rfl (fun _ => ⟨rfl, rfl⟩) hop ⟨?_, hstate, fun k hk => ?_⟩
    · exact (congrArg (bitOf · u) hspared).trans (bitOf_setBit_same _ _ _)
    · exact (congrArg (bitOf · k) hspared).trans (bitOf_setBit_ne _ _ fun heq => hk (Fin.ext heq))
  · intro hnot
    have hop : s.forceSpare (BitVec.ofNat 20 u).toNat = s := by
      rw [toNat_unitItem, State.forceSpare, if_neg fun hand => absurd hand.2.1 (Bool.eq_false_iff.mp hnot)]
    exact exec_of_completes (completes_onWrite (fun s t => { s with
      regs := t.regs, eqs := t.eqs, out := t.out, spared := t.spared, mbs := t.mbs, can := t.can, lanes := t.lanes }) h
      rfl (fun _ => ⟨rfl, rfl⟩) hop rfl)

/-- A unit with a spare takes its work back. -/
theorem State.unitReturns_spec (s : State) {u n : Nat} (hn : spareOf u = some n) :
    bitOf (s.unitReturns u).spared u = false ∧ (s.unitReturns u).eqs = (s.postEvent 0x0E2 u 0).eqs := by
  have hop : s.unitReturns u = { (s.setSpare n 0 0).postEvent 0x0E2 u 0 with
      spared := setBit s.spared u false
      hlt := { s.hlt with toReturn := s.hlt.toReturn.filter fun k => k != u } } := by
    rw [unitReturns, hn]
    rfl
  rw [hop]
  exact ⟨bitOf_setBit_same _ _ _, postEvent_eqs_congr s (t := s.setSpare n 0 0) rfl rfl rfl _ _ _⟩

theorem completes_handBack {u : Fin 256} (h : s.takes p Reg.HLT_CMD) (hu : bitOf s.spared u = true)
    (hretired : s.retired u = false) (htest : s.underTest u = false) :
    (∀ b, unitKind u = .bank b → Completes (.handBack p (BitVec.ofNat 20 u)) s fun t =>
      bitOf t.spared u = false ∧ Posts s t 0x0E2 u 0) ∧
    ((∀ b, unitKind u ≠ .bank b) → Completes (.handBack p (BitVec.ofNat 20 u)) s fun t =>
      u.val ∈ t.hlt.toReturn ∧ t.spared = s.spared ∧ t.regs = s.regs) := by
  have hreturn : s.handBack (BitVec.ofNat 20 u).toNat = s.unitReturn u := by
    rw [toNat_unitItem, State.handBack, hretired, htest, if_pos ⟨u.isLt, hu, rfl, rfl⟩]
  constructor
  · intro b hb
    have hop : s.handBack (BitVec.ofNat 20 u).toNat = s.unitReturns u := by
      rw [hreturn, State.unitReturn, hb]
    have hn : ∃ n, spareOf u = some n := by
      rw [spareOf, hb]
      exact ⟨_, rfl⟩
    obtain ⟨n, hn⟩ := hn
    exact completes_onWrite (fun s u => { s with
      regs := u.regs, eqs := u.eqs, out := u.out, spared := u.spared, hlt := u.hlt }) h rfl (fun _ => ⟨rfl, rfl⟩) hop
      (s.unitReturns_spec hn)
  · intro hother
    have hop : s.handBack (BitVec.ofNat 20 u).toNat =
        { s with hlt := { s.hlt with toReturn := u :: s.hlt.toReturn.filter fun k => k != u } } := by
      rw [hreturn, State.unitReturn]
      split
      · exact absurd ‹_› (hother _)
      · rfl
    exact completes_onWrite (fun s u => { s with
      regs := u.regs, eqs := u.eqs, out := u.out, spared := u.spared, hlt := u.hlt }) h rfl (fun _ => ⟨rfl, rfl⟩) hop
      ⟨List.mem_cons_self, rfl, rfl⟩

theorem completes_spareHandback {u : Fin 256} (h : s.awake) (hwait : s.hlt.toReturn.contains u.val = true)
    (hu : bitOf s.spared u = true) (hidle : s.unitIdle u = true) (hspare : (spareOf u).isSome = true) :
    Completes (.spareHandback u) s fun t => bitOf t.spared u = false ∧ Posts s t 0x0E2 u 0 ∧ SameBytes s t := by
  obtain ⟨n, hn⟩ := Option.isSome_iff_exists.mp hspare
  obtain ⟨hspared, hposts⟩ := s.unitReturns_spec hn
  have hop : s.spareHandback u = s.unitReturns u := by
    rw [State.spareHandback, hwait, hu, hidle]
    rfl
  exact completes_framed (State.spareHandback · u) (fun s u => { s with
    regs := u.regs, eqs := u.eqs, out := u.out, spared := u.spared, hlt := u.hlt }) h rfl (fun _ => ⟨rfl, rfl⟩) hop
    ⟨hspared, hposts, fun _ => rfl, rfl⟩

/-! ## Checks of units and lanes -/

theorem completes_unitCheck_unit {u : Fin 256} (h : s.awake) (hretired : s.retired u = false)
    (hu : bitOf s.spared u = false) (hfree : s.spareFree u = true) : Completes (.unitCheck (.unit u)) s fun t =>
      bitOf t.spared u = true ∧ (u.val, 4) ∈ t.hlt.testing ∧
      (∀ n, spareOf u = some n → t.spareState n = 1) ∧ t.flash = s.flash := by
  have hop : ∃ v : State, s.unitError u = v.spareTakes u false ∧ v.spareFree u = true ∧ v.spared = s.spared ∧
      (u.val, 4) ∈ v.hlt.testing ∧ v.flash = s.flash := by
    unfold State.unitError
    rw [if_neg (Bool.eq_false_iff.mp hretired), if_neg (Bool.eq_false_iff.mp hu), if_pos hfree]
    have hrd : ∀ a, a ≠ Reg.HLT_LOG_SEQ → (s.logFault fcUnitCheck u 0).rd a = s.rd a := fun a ha =>
      s.logFault_rd_ne fcUnitCheck u 0 ha
    have hspared : (s.logFault fcUnitCheck u 0).spared = s.spared := by
      simp only [State.logFault, State.bump_spared, State.setBytes_spared]
    have hflash : (s.logFault fcUnitCheck u 0).flash = s.flash := by
      simp only [State.logFault, State.bump_flash, State.setBytes_flash]
    generalize s.logFault fcUnitCheck u 0 = v at *
    refine ⟨_, rfl, ?_, hspared, List.mem_append_right _ List.mem_cons_self, hflash⟩
    unfold State.spareFree at hfree ⊢
    cases hn : spareOf u with
    | none =>
      rw [hn] at hfree
      exact hfree
    | some n =>
      rw [hn] at hfree
      have hlt := spareOf_lt u.isLt hn
      refine Eq.trans ?_ hfree
      exact congrArg (fun w : Word => getBits w (8 * (n % 4) + 6) 2 == 0) (hrd (Reg.HLT_SPARE (n / 4)) (by
        simp only [Reg.HLT_SPARE, Reg.HLT_LOG_SEQ]; omega))
  obtain ⟨v, hop, hvfree, hvspared, hvtest, hvflash⟩ := hop
  obtain ⟨hspared, hhlt, hflash, hstate⟩ := v.spareTakes_spec u.isLt false hvfree
  generalize v.spareTakes u false = w at *
  have hcheck : s.unitCheck (.unit u) = w := hop
  refine completes_of_live h (f := fun s => s.unitCheck (.unit u)) rfl hcheck
    ⟨?_, ?_, hstate, hflash.trans hvflash⟩
  · exact (congrArg (bitOf · u) hspared).trans (bitOf_setBit_same _ _ _)
  · exact (congrArg HltState.testing hhlt).symm ▸ hvtest

/-- How the link of a MAC that has changed shows. -/
def State.linkShown (s : State) (m : Nat) (up : Bool) (speed : Nat) : State :=
  let t := (s.setFld (Reg.EMC_LINK_UP m) (if up then 1 else 0)).setFld (Reg.EMC_LINK_SPEED m) speed
  ((t.setFld (Reg.SWC_P_STATUS_LINK m) (if up then 1 else 0)).setFld (Reg.SWC_P_STATUS_SPEED m) speed).setFld
    (Reg.EMC_FLAGS_LINK_CHG m) 1

theorem State.ethLink_changed (s : State) {m speed : Nat} {up : Bool} (hnew : s.flag (Reg.EMC_LINK_UP m) = !up)
    (hserves : up = true → s.laneServes (16 + m) = true) (hcut : (s.port m).cut = none) :
    s.ethLink m up speed false = (s.linkShown m up (if up then s.linkSpeed m speed else 0)).linkEvent m := by
  have hlost : s.ingressLost m = s := by rw [ingressLost, hcut]
  cases up with
  | false => simp [ethLink, linkShown, hnew, hlost]
  | true => simp [ethLink, linkShown, hnew, hserves rfl]

theorem flag_setFld_bool (s : State) (f : Fld) (v : Bool) (hw : f.width = 1) (h : f.lsb + f.width ≤ 32) :
    (s.setFld f (if v then 1 else 0)).flag f = v := by
  cases v with
  | true => exact s.flag_setFld_one f hw h
  | false => exact s.flag_setFld_zero f h

theorem State.linkShown_spec (s : State) {m : Nat} (hm : m < 16) (up : Bool) {speed : Nat} (hspeed : speed < 16) :
    (s.linkShown m up speed).flag (Reg.EMC_LINK_UP m) = up ∧
    (s.linkShown m up speed).flag (Reg.SWC_P_STATUS_LINK m) = up ∧
    (s.linkShown m up speed).fld (Reg.EMC_LINK_SPEED m) = speed ∧
    (s.linkShown m up speed).fld (Reg.SWC_P_STATUS_SPEED m) = speed ∧
    (s.linkShown m up speed).flag (Reg.EMC_FLAGS_LINK_CHG m) = true := by
  have hport : Reg.EMC_LINK m ≠ Reg.SWC_P_STATUS m ∧ Reg.EMC_FLAGS m ≠ Reg.SWC_P_STATUS m := by
    have hlow := le_unitReg (Reg.macUnit m) 0
    simp only [Reg.EMC_LINK, Reg.EMC_FLAGS, Reg.SWC_P_STATUS, Reg.macBase]
    omega
  have hlink : Reg.EMC_LINK m ≠ Reg.EMC_FLAGS m := by
    simp only [Reg.EMC_LINK, Reg.EMC_FLAGS]
    omega
  unfold linkShown
  extract_lets t
  have ht : t.flag (Reg.EMC_LINK_UP m) = up ∧ t.fld (Reg.EMC_LINK_SPEED m) = speed :=
    ⟨(State.flag_setFld_apart _ speed (by simp [Fld.apart])).trans (flag_setFld_bool s _ up rfl (by simp)),
      (State.fld_setFld_same _ _ speed (show 24 + 4 ≤ 32 by decide)).trans (Nat.mod_eq_of_lt hspeed)⟩
  clear_value t
  refine ⟨?_, ?_, ?_, ?_, State.flag_setFld_one _ _ rfl (show 2 + 1 ≤ 32 by decide)⟩
  · rw [State.flag_setFld_apart _ _ (Or.inl hlink), State.flag_setFld_apart _ _ (Or.inl hport.1),
      State.flag_setFld_apart _ _ (Or.inl hport.1), ht.1]
  · rw [State.flag_setFld_apart _ _ (Or.inl hport.2.symm), State.flag_setFld_apart _ _ (by simp [Fld.apart]),
      flag_setFld_bool t _ up rfl (by simp)]
  · rw [State.fld_setFld_apart _ _ (Or.inl hlink), State.fld_setFld_apart _ _ (Or.inl hport.1),
      State.fld_setFld_apart _ _ (Or.inl hport.1), ht.2]
  · rw [State.fld_setFld_apart _ _ (Or.inl hport.2.symm),
      State.fld_setFld_same _ _ _ (show 28 + 4 ≤ 32 by decide)]
    exact Nat.mod_eq_of_lt hspeed

/-- The event of a link that changes leaves the fields of its MAC and its port alone. -/
theorem State.linkEvent_fld (s : State) {m : Nat} (hm : m < 16) {f : Fld}
    (hf : f.addr = Reg.EMC_LINK m ∨ f.addr = Reg.EMC_FLAGS m ∨ f.addr = Reg.SWC_P_STATUS m) :
    (s.linkEvent m).fld f = s.fld f := by
  refine State.postEvent_fld _ _ _ _ ?_
  simp only [Reg.EMC_LINK, Reg.EMC_FLAGS, Reg.SWC_P_STATUS, Reg.macBase, Reg.unitBase, Reg.macUnit] at hf
  omega

theorem State.ethLink_down (s : State) {m : Nat} (hm : m < 16) (speed : Nat)
    (hup : s.flag (Reg.EMC_LINK_UP m) = true) (hcut : (s.port m).cut = none) :
    (s.ethLink m false speed false).flag (Reg.EMC_LINK_UP m) = false ∧
    (s.ethLink m false speed false).flag (Reg.SWC_P_STATUS_LINK m) = false ∧
    (s.ethLink m false speed false).flag (Reg.EMC_FLAGS_LINK_CHG m) = true ∧
    (s.ethLink m false speed false).flash = s.flash ∧ (s.ethLink m false speed false).hlt = s.hlt := by
  rw [s.ethLink_changed (up := false) hup (fun h => nomatch h) hcut, if_neg Bool.false_ne_true]
  obtain ⟨hlink, hport, -, -, hchg⟩ := s.linkShown_spec hm false (speed := 0) (by decide)
  have hside : (s.linkShown m false 0).flash = s.flash ∧ (s.linkShown m false 0).hlt = s.hlt := ⟨rfl, rfl⟩
  generalize s.linkShown m false 0 = t at *
  exact ⟨(congrArg (· == 1) (t.linkEvent_fld hm (Or.inl rfl))).trans hlink,
    (congrArg (· == 1) (t.linkEvent_fld hm (Or.inr (Or.inr rfl)))).trans hport,
    (congrArg (· == 1) (t.linkEvent_fld hm (Or.inr (Or.inl rfl)))).trans hchg, hside.1, hside.2⟩

theorem State.startTest_rd (s : State) (item code a : Nat) : (s.startTest item code).rd a = s.rd a := rfl

theorem completes_unitCheck_lane {m : MacNo} {n : Fin 32} (hn : n.val = 16 + m.val) (h : s.awake)
    (hserves : s.hlt.badLanes.contains n.val = false) (hup : s.flag (Reg.EMC_LINK_UP m) = true)
    (hcut : (s.port m).cut = none) : Completes (.unitCheck (.lane n)) s fun t =>
      t.laneServes n = false ∧ t.flag (Reg.EMC_LINK_UP m) = false ∧ t.flag (Reg.SWC_P_STATUS_LINK m) = false ∧
      t.flag (Reg.EMC_FLAGS_LINK_CHG m) = true ∧ t.flash = s.flash := by
  have hm : m.val < 16 := m.isLt
  have hcheck : s.unitCheck (.lane n) = (s.laneError n).ethLink m false 0 false := by
    rw [State.unitCheck, if_neg (Bool.eq_false_iff.mp hserves), State.laneLinkDown,
      if_neg (show ¬ n.val < 8 by omega), if_neg (show ¬ n.val < 12 by omega), if_neg (show ¬ n.val < 14 by omega),
      if_pos (show 16 ≤ n.val by omega), show n.val - 16 = m.val by omega]
  have hup' : (s.laneError n).flag (Reg.EMC_LINK_UP m) = true := by
    have hne : Reg.EMC_LINK m ≠ Reg.HLT_LOG_SEQ := by
      simp only [Reg.EMC_LINK, Reg.macBase, Reg.unitBase, Reg.HLT_LOG_SEQ]
      omega
    rw [State.flag, State.fld, State.laneError, State.startTest_rd, s.logFault_rd_ne _ _ _ hne]
    exact hup
  have hports : (s.laneError n).ports = s.ports := by
    simp only [State.laneError, State.startTest, State.logFault, State.bump_ports, State.setBytes_ports]
  have hflash : (s.laneError n).flash = s.flash := by
    simp only [State.laneError, State.startTest, State.logFault, State.bump_flash, State.setBytes_flash]
  have htest : (s.laneError n).hlt.testing.any (fun t => t.1 == 0x50000 + n.val) = true := by
    simp [State.laneError, State.startTest]
  obtain ⟨hlink, hport, hchg, hflash', hhlt⟩ :=
    (s.laneError n).ethLink_down hm 0 hup' (by rw [State.port, hports]; exact hcut)
  generalize (s.laneError n).ethLink m false 0 false = u at *
  refine completes_of_live h (f := fun s => s.unitCheck (.lane n)) rfl hcheck
    ⟨?_, hlink, hport, hchg, hflash'.trans hflash⟩
  rw [State.laneServes]
  exact (congrArg (fun x : HltState => !x.badLanes.contains n.val && !(x.testing.any fun t => t.1 == 0x50000 + n.val))
    hhlt).trans (by rw [htest, Bool.not_true, Bool.and_false])

/-! ## The patrol -/

/-- A corrected codeword at the end of a sweep. -/
theorem State.patrol_corrected (s : State) (bank row : Nat) (kind : MemKind) :
    s.patrol bank row kind .corrected true =
      if s.hlt.sweep16 + s.patrolMin * (60 * 1000000 * us16) ≤ s.tb.local16 then
        { (s.bump Reg.HLT_CE_CNT).tick Reg.HLT_SCRUB_SWEEPS with hlt := { s.hlt with sweep16 := s.tb.local16 } }
      else s.bump Reg.HLT_CE_CNT := by
  have hfld : (s.bump Reg.HLT_CE_CNT).fld Reg.HLT_SCRUB_PERIOD_MIN = s.fld Reg.HLT_SCRUB_PERIOD_MIN :=
    s.fld_wr_ne _ (show Reg.HLT_SCRUB ≠ Reg.HLT_CE_CNT by decide)
  have hop : s.patrol bank row kind .corrected true = (s.bump Reg.HLT_CE_CNT).patrolSweep := by
    unfold patrol
    exact if_pos rfl
  rw [hop, patrolSweep, patrolMin, hfld, ← patrolMin, bump_hlt, bump_tb]

theorem completes_patrolRead {bank : Fin 65536} {row : BitVec 24} {kind : MemKind} {res : PatrolResult} {ends : Bool}
    {u : State} {P : State → Prop} (h : s.awake) (hop : s.patrol bank row.toNat kind res ends = u)
    (hP : P { s with
      regs := u.regs, mem := u.mem, eqs := u.eqs, out := u.out, cells := u.cells, sig := u.sig, pages := u.pages,
      engines := u.engines, can := u.can, lanes := u.lanes, queues := u.queues, ports := u.ports,
      saltern := u.saltern, slots := u.slots, holdBuf := u.holdBuf, hlt := u.hlt, limits := u.limits,
      nextId := u.nextId }) : Completes (.patrolRead bank row kind res ends) s P :=
  completes_framed (fun s => s.patrol bank row.toNat kind res ends) (fun s u => { s with
      regs := u.regs, mem := u.mem, eqs := u.eqs, out := u.out, cells := u.cells, sig := u.sig, pages := u.pages,
      engines := u.engines, can := u.can, lanes := u.lanes, queues := u.queues, ports := u.ports,
      saltern := u.saltern, slots := u.slots, holdBuf := u.holdBuf, hlt := u.hlt, limits := u.limits,
      nextId := u.nextId }) h rfl (fun _ => ⟨rfl, rfl⟩) hop hP

theorem exec_patrolRead_clean (bank : Fin 65536) (row : BitVec 24) (kind : MemKind) (h : s.awake) :
    exec (.patrolRead bank row kind .clean false) s = .next s :=
  exec_of_completes (completes_patrolRead h (u := s) rfl rfl)

/-- A corrected codeword counts, and the sweep if its period has passed. -/
theorem completes_patrolRead_sweep (bank : Fin 65536) (row : BitVec 24) (kind : MemKind) (h : s.awake)
    (hdue : s.hlt.sweep16 + s.patrolMin * (60 * 1000000 * us16) ≤ s.tb.local16) :
    Completes (.patrolRead bank row kind .corrected true) s fun t =>
      t.rd Reg.HLT_CE_CNT = satInc (s.rd Reg.HLT_CE_CNT) ∧
      t.rd Reg.HLT_SCRUB_SWEEPS = s.rd Reg.HLT_SCRUB_SWEEPS + 1 ∧
      OnlyRegs { s with hlt := { s.hlt with sweep16 := s.tb.local16 } } t [Reg.HLT_CE_CNT, Reg.HLT_SCRUB_SWEEPS] := by
  have hop := s.patrol_corrected bank row.toNat kind
  rw [if_pos hdue] at hop
  have hticks := State.rd_wr_same (s.bump Reg.HLT_CE_CNT) Reg.HLT_SCRUB_SWEEPS
    ((s.bump Reg.HLT_CE_CNT).rd Reg.HLT_SCRUB_SWEEPS + 1)
  rw [s.rd_bump_ne (show Reg.HLT_SCRUB_SWEEPS ≠ Reg.HLT_CE_CNT by decide)] at hticks
  have hcount := ((s.bump Reg.HLT_CE_CNT).rd_tick_ne (show Reg.HLT_CE_CNT ≠ Reg.HLT_SCRUB_SWEEPS by decide)).trans
    (s.rd_bump_same _)
  refine completes_patrolRead h hop ⟨hcount, ?_, rfl, fun a ha => ?_⟩
  · rw [State.tick, s.rd_bump_ne (show Reg.HLT_SCRUB_SWEEPS ≠ Reg.HLT_CE_CNT by decide)]
    exact hticks
  · simp only [List.mem_cons, List.not_mem_nil, or_false, not_or] at ha
    exact ((s.bump Reg.HLT_CE_CNT).rd_tick_ne ha.2).trans (s.rd_bump_ne ha.1)

theorem completes_patrolRead_early (bank : Fin 65536) (row : BitVec 24) (kind : MemKind) (h : s.awake)
    (hearly : s.tb.local16 < s.hlt.sweep16 + s.patrolMin * (60 * 1000000 * us16)) :
    Completes (.patrolRead bank row kind .corrected true) s fun t =>
      t.rd Reg.HLT_CE_CNT = satInc (s.rd Reg.HLT_CE_CNT) ∧ OnlyRegs s t [Reg.HLT_CE_CNT] := by
  have hop := s.patrol_corrected bank row.toNat kind
  rw [if_neg (Nat.not_le.mpr hearly)] at hop
  exact completes_patrolRead h hop ⟨s.rd_bump_same _, rfl, fun a ha => s.rd_bump_ne fun heq => ha (by simp [heq])⟩

theorem State.bankError_ue (s : State) (bank row code : Nat) :
    (s.bankError bank row code).rd Reg.HLT_UE_CNT = s.rd Reg.HLT_UE_CNT := by
  have hlog : (s.logFault code (0x30000 + bank) row).rd Reg.HLT_UE_CNT = s.rd Reg.HLT_UE_CNT :=
    (CountSide.logFault s _ _ _).counts _ (by decide)
  unfold bankError
  generalize s.logFault code (0x30000 + bank) row = t at hlog
  dsimp only
  split
  · refine ((State.lasting_spec _ _ code).1.counts _ (by decide)).trans ?_
    exact (State.rd_bump_ne _ (show Reg.HLT_UE_CNT ≠ Reg.HLT_LASTING_CNT by decide)).trans hlog
  · exact hlog

theorem completes_patrolRead_retained (bank : Fin 65536) (row : BitVec 24) (w : Fin 2048) (h : s.awake) :
    Completes (.patrolRead bank row (.retained w) .uncorrectable false) s fun t =>
      t.rd Reg.HLT_UE_CNT = satInc (s.rd Reg.HLT_UE_CNT) ∧ t.memWord (Reg.HLT_RETAINED w) = 0 ∧
      t.flag Reg.HLT_RET_FLAGS_RET_UE = true := by
  have hop : ∃ v : State, s.patrol bank row.toNat (.retained w) .uncorrectable false =
      (v.setMemWord (Reg.HLT_RETAINED w) 0).setFld Reg.HLT_RET_FLAGS_RET_UE 1 ∧
      v.rd Reg.HLT_UE_CNT = satInc (s.rd Reg.HLT_UE_CNT) := by
    refine ⟨_, rfl, (State.bankError_ue _ _ _ _).trans ?_⟩
    exact (State.postEvent_rd _ _ _ _ (show Reg.HLT_UE_CNT < _ by decide)).trans (s.rd_bump_same _)
  obtain ⟨v, hop, hcount⟩ := hop
  have hword := v.memWord_setMemWord (Reg.HLT_RETAINED w) 0
  refine completes_patrolRead h hop ⟨?_, hword, ?_⟩
  · exact (State.rd_setFld_ne (v.setMemWord (Reg.HLT_RETAINED w) 0) _
      (show Reg.HLT_UE_CNT ≠ Reg.HLT_RET_FLAGS by decide)).trans hcount
  · exact State.flag_setFld_one (v.setMemWord (Reg.HLT_RETAINED w) 0) _ rfl (show 0 + 1 ≤ 32 by decide)

/-! ## Self-tests -/

theorem itemId_mortar (item : Item) (h : itemId item / 65536 = 4) : itemId item % 65536 < 4 := by
  cases item with
  | mortar n => simp only [itemId]; omega
  | unit u => simp only [itemId] at h; omega
  | spare n => simp only [itemId] at h; omega
  | engine n => simp only [itemId] at h; omega
  | bank n => simp only [itemId] at h; omega
  | lane n => simp only [itemId] at h; omega
  | optCopy n => simp only [itemId] at h; omega

/-- The test of an item is over. -/
def State.testOver (s : State) (item : Nat) : State :=
  { s with hlt := { s.hlt with testing := s.hlt.testing.filter fun t => t.1 != item } }

theorem State.testOver_testing (s : State) (item : Nat) : ∀ x ∈ (s.testOver item).hlt.testing, x.1 ≠ item := by
  intro x hx
  exact bne_iff_ne.mp (List.mem_filter.mp hx).2

theorem completes_selftest {item : Item} {pass : Bool} {u : State} {P : State → Prop} (h : s.awake)
    (hop : s.selftestDone (itemId item) pass = u)
    (hP : ∀ v : State, v.regs = u.regs → v.hlt = u.hlt → P v) : Completes (.selftestComplete item pass) s P :=
  completes_framed (fun s => s.selftestDone (itemId item) pass) (fun s t => { s with
      regs := t.regs, mem := t.mem, eqs := t.eqs, out := t.out, engines := t.engines, spared := t.spared,
      lanes := t.lanes, banks := t.banks, hlt := t.hlt, ports := t.ports, queues := t.queues, saltern := t.saltern })
    h rfl (fun _ => ⟨rfl, rfl⟩) hop (hP _ rfl rfl)

theorem State.rowReturns_count (s : State) (item : Nat) : CountSide s (s.rowReturns item) :=
  CountSide.of_ite ⟨fun _ _ => rfl, rfl, rfl⟩ (CountSide.refl _)

theorem completes_selftest_pass {item : Item} {code : Nat} (h : s.awake)
    (htest : s.hlt.testing.find? (fun x => x.1 == itemId item) = some (itemId item, code))
    (hfew : s.transients (itemId item) < 2) : Completes (.selftestComplete item true) s fun t =>
      t.rd Reg.HLT_TRANSIENT_CNT = satInc (s.rd Reg.HLT_TRANSIENT_CNT) ∧
      t.hlt.history = s.hlt.history ++ [(itemId item, (s.tb.local16 : Int))] ∧
      (∀ x ∈ t.hlt.testing, x.1 ≠ itemId item) := by
  have hop : ∃ u : State, s.selftestDone (itemId item) true = u ∧
      u.rd Reg.HLT_TRANSIENT_CNT = satInc (s.rd Reg.HLT_TRANSIENT_CNT) ∧
      u.hlt.history = s.hlt.history ++ [(itemId item, (s.tb.local16 : Int))] ∧
      u.hlt.testing = (s.testOver (itemId item)).hlt.testing := by
    unfold State.selftestDone
    rw [htest]
    dsimp -zeta only
    extract_lets src t n src' t' t''
    rw [if_pos rfl, if_neg (show ¬ 3 ≤ n from by
      have hn : n = s.transients (itemId item) + 1 := rfl
      omega)]
    have hside : CountSide (t'.bump Reg.HLT_TRANSIENT_CNT) t'' :=
      (CountSide.logFault _ _ _ _).trans (CountSide.postEvent _ _ _ _)
    have hall :=
      (hside.trans (t''.rowReturns_count (itemId item))).trans (State.itemReturns_count _ (itemId_mortar item))
    exact ⟨_, rfl, (hall.counts _ (by decide)).trans (t'.rd_bump_same _), hall.history, hall.testing⟩
  obtain ⟨u, hop, hcount, hhistory, htesting⟩ := hop
  refine completes_selftest h hop fun v hregs hhlt => ⟨?_, ?_, ?_⟩
  · rw [State.rd, hregs]
    exact hcount
  · rw [hhlt, hhistory]
  · rw [hhlt, htesting]
    exact s.testOver_testing _

theorem completes_selftest_fail {item : Item} {code : Nat} (h : s.awake)
    (htest : s.hlt.testing.find? (fun x => x.1 == itemId item) = some (itemId item, code)) :
    Completes (.selftestComplete item false) s fun t =>
      t.rd Reg.HLT_LASTING_CNT = satInc (s.rd Reg.HLT_LASTING_CNT) ∧ t.flag Reg.HLT_STATUS_DEGRADED = true ∧
      (∀ x ∈ t.hlt.testing, x.1 ≠ itemId item) := by
  have hop : s.selftestDone (itemId item) false = (s.testOver (itemId item)).lasting (itemId item) code := by
    rw [State.selftestDone, htest]
    rfl
  obtain ⟨hside, hdegraded⟩ := (s.testOver (itemId item)).lasting_spec (itemId item) code
  have hcount := (hside.counts Reg.HLT_LASTING_CNT (by decide)).trans (State.rd_bump_same _ _)
  generalize (s.testOver (itemId item)).lasting (itemId item) code = u at *
  refine completes_selftest h hop fun v hregs hhlt => ⟨?_, ?_, ?_⟩
  · rw [State.rd, hregs]
    exact hcount
  · rw [State.flag, State.fld, State.rd, hregs]
    exact hdegraded
  · rw [hhlt, hside.testing]
    exact s.testOver_testing _

theorem completes_transientAgeExpiry (item : Item) (h : s.awake) : Completes (.transientAgeExpiry item) s fun t =>
    (∀ x ∈ s.hlt.history, x ∈ t.hlt.history ↔
      ¬(x.1 = itemId item ∧ x.2 + 86400 * 1000000000 * 65536 ≤ (s.tb.local16 : Int))) ∧
    { t with hlt := { t.hlt with history := s.hlt.history } } = s := by
  refine completes_framed (fun s => s.ageTransients (itemId item)) (fun s t => { s with hlt := t.hlt }) h rfl
    (fun _ => ⟨rfl, rfl⟩) rfl ⟨fun x hx => ?_, rfl⟩
  refine List.mem_filter.trans ?_
  simp only [hx, true_and, Bool.or_eq_true, bne_iff_ne, decide_eq_true_eq, not_and, Int.not_le, day16]
  tauto

end Sys2Proof.Machine

open Sys2Proof.Machine in
/-- Settles O57: each command of the monitor reaches a small part of the state; what the end of a test does elsewhere
touches neither the counts nor the tests nor the history (`CountSide`). -/
theorem healthIsMonitored : Obligations.HealthIsMonitored := by
  unfold Obligations.HealthIsMonitored
  intro p s
  refine ⟨fun h => ⟨completes_optProgram h, completes_optRead h, fun _ => completes_forceSpare h,
    fun _ => completes_handBack h⟩, fun k bs c h hprogram hk hlen => ⟨?_, ?_⟩, fun _ => completes_spareHandback,
    fun bank row kind h => ⟨exec_patrolRead_clean bank row kind h, ⟨completes_patrolRead_sweep bank row kind h,
      completes_patrolRead_early bank row kind h⟩,
      fun w hw => hw ▸ completes_patrolRead_retained bank row w h⟩, fun _ => completes_unitCheck_unit,
    fun _ _ => completes_unitCheck_lane, fun _ _ h htest => ⟨completes_selftest_pass h htest,
      completes_selftest_fail h htest⟩, completes_transientAgeExpiry, fun h => ?_⟩
  · obtain ⟨t, ht, hmade, hbeside, hnone, hresult, htarget, hrest⟩ :=
      completes_optProgramComplete true h hprogram hk hlen
    exact ⟨t, ht, hmade rfl, hbeside, hnone, hresult, htarget, hrest⟩
  · obtain ⟨t, ht, -, hbeside, hnone, hresult, -⟩ := completes_optProgramComplete false h hprogram hk hlen
    exact ⟨t, ht, hbeside, hnone, hresult⟩
  · exact exec_of_completes (completes_framed (fun s => s.meRestarted) (fun s t => { s with hlt := t.hlt }) h rfl
      (fun _ => ⟨rfl, rfl⟩) rfl rfl)

end
